-- ==== Sys2Proof/Word.lean ====
section
/-! DEFINITION. The word types of the model and their plainest arithmetic. Registers and structures in memory are
little-endian 64-bit words (R5); bytes are `BitVec 8`. -/

namespace Sys2Proof

/-- One byte. -/
abbrev Byte := BitVec 8

/-- A 64-bit word: a register cell, a context word, an engine register. -/
abbrev Word := BitVec 64

/-- Status codes of R8 and of the chapters, 8 bits wide. -/
abbrev Status := Nat

end Sys2Proof
end

