-- ==== Sys2Proof/Syntax.lean ====
section
/-! DEFINITION. The commands of the block, one constructor per row of the table of operations and events. A command
that stands for a happening carries what the outside supplies at that happening: the bytes a host or flash read
returns, the frame received, a measured temperature. Reads that the outside fails carry `none`. -/

namespace Sys2Proof

/-- The low-speed pins (R556, R563). -/
inductive Pin where
  | thermtrip | twinAliveOut | twinAliveIn | wakeN | smbAlertN | tdo | pwrGood | smbScl | smbSda
  | xspiSck | xspiCsN | xspiResetN | xspiIo (n : Nat) | modScl (i : Nat) | modSda (i : Nat)
  | modSel (n : Nat) | modReset (n : Nat) | modLp (n : Nat) | modPres (n : Nat) | modInt (n : Nat)
  | gpio (n : Nat) | perst (pf : Nat) | clkreq (pf : Nat)
  deriving DecidableEq, Repr

/-- Where the scrub finds a word that its code cannot correct (R504 to R506). -/
inductive Damage where
  /-- A word of no structure with an outcome of its own, or of a packet in the shared buffer. -/
  | other
  /-- Entry `i` of table `id`: a flow context, an L2 entry, an LPM RESULT word or an entry of an array. -/
  | entry (id i : Nat)
  /-- Bucket `b` of flow or L2 table `id`. -/
  | bucket (id b : Nat)
  /-- The flow cache line that holds line `line` of table `id`. -/
  | cacheLine (id line : Nat)
  /-- Word `w` of the instruction memory of PE `n`. -/
  | peCode (n w : Nat)
  /-- Word `w` of the data memory of PE `n`. -/
  | peData (n w : Nat)
  | queue (q : Nat)
  | slice (sl : Nat)
  | allow (sl : Nat)
  | window (i : Nat)
  | sa (i : Nat)
  | conn (c : Nat)
  | session (s : Nat)
  | ns (n : Nat)
  | extent (i : Nat)
  /-- The mirror's copy of object `index` of record type `rtype` (R468). -/
  | mirror (rtype index : Nat)
  /-- The 8-byte word `w` of the management-core memories. -/
  | core (w : Nat)
  deriving DecidableEq, Repr


/-- What the read of a packet out of the switch core meets: an uncorrectable error of a cell or descriptor (R215), or bad parity on
the mesh (R503), at an address. -/
inductive ReadFault where
  | cell (addr : Nat)
  | mesh (addr : Nat)
  deriving DecidableEq, Repr

/-- What an access does. -/
inductive BusOp where
  | read
  | write (v : BitVec 64)
  deriving DecidableEq, Repr

/-- What the outside supplies for a register write whose effect needs it: the phase end times of a boot sequence that it
starts, the bytes an I2C transfer it ends had moved, how an SMBus send it starts goes, whether the ledger copy of a Hold
it starts is written, whether the mesh words of the access have right parity, the SDA samples of a bus check it starts, and
the bytes an I2C read it ends had brought. -/
structure BusEnv where
  t3 : Nat
  t4 : Nat
  t5 : Nat
  moved : Nat
  result : Nat
  good : Bool
  parity : Bool
  sda : List Bool
  data : List Byte
  deriving DecidableEq, Repr
/-- The commands of the block: one constructor per row of the table of operations and events. -/
inductive Instr where
  /-- REGISTER_WRITE. R7: A write to a register that has no row of its own stores, ignores or refuses the value according to the field's access type and range rules. -/
  | registerWrite (agent addr size : Nat) (op : BusOp) (env : BusEnv)
  /-- UNMAPPED_ACCESS. R16: An access to an address in no unit block, fixed range or mapped window reads 0 or is ignored, and the root raises an unmapped-access event unless the address lies in member slots. -/
  | unmappedAccess (addr : Nat) (write : Bool)
  /-- ERR_CLEAR. R17: Writing 1 to UNIT_STATUS.ERR clears ERR and ERR_CODE so that the next error latches again. -/
  | errClear (u : Nat)
  /-- ENABLE_WRITE. R26: A write of UNIT_CONTROL.ENABLE changes the unit's effective enable, and writing 1 while DRAINING cancels the drain. -/
  | enableWrite (u : Nat) (en : Bool)
  /-- DRAIN. R27: Writing DRAIN clears ENABLE and starts a drain from ACTIVE or READY, or is ignored in other states. -/
  | drain (u : Nat)
  /-- DRAIN_DONE. R17: When the draining unit's work in progress has finished, DRAIN clears, STATE becomes READY and a drain-done event is raised. -/
  | drainDone (u : Nat)
  /-- UNIT_RESET. R521: Writing UNIT_RESET resets the unit and every unit below it, clearing by kind what the reset table lists. -/
  | unitReset (u t3 t4 t5 : Nat)
  /-- UNIT_RESET_DONE. R521: At the end of a unit reset STATE becomes ACTIVE or READY by the effective enable, or RESET for unplaced bare-tree members. -/
  | unitResetDone (u : Nat)
  /-- EVENT_SOURCE_WRITE. R28: A write of EVENT_SOURCE changes routing, and setting ENABLE back to 1 presents the events held at that unit. -/
  | eventSourceWrite (u : Nat) (v : Word)
  /-- DOORBELL. R29: A write to a unit's DOORBELL rings it, and on a hitch rings every current member recursively in index order, merging into DB_PENDING and waking sleeping regions. -/
  | doorbell (u : Nat)
  /-- ROOT_LOCATE_ID. R31: A write of ROOT_LOCATE_ID starts or restarts a lookup of a UNIT_ID in the tree and sets BUSY. -/
  | rootLocateId (id : Nat)
  /-- LOCATE_DONE. R32: A lookup ends within 1 µs, writing ADDR and FOUND for the tree as it stood at that moment and clearing BUSY. -/
  | locateDone 
  /-- IMAGE_STAGE. R60: The admin command copies a host byte range into the HBM staging area, or completes with PATCH_BUSY while an apply or slot write is in progress. -/
  | imageStage (pf idx : Nat) (data : Option (List Byte))
  /-- IMAGE_APPLY. R58: The admin command checks the staged image and applies it as a full image in BARE or RECOVERY, or starts a patch while ACTIVE. -/
  | imageApply (pf idx : Nat)
  /-- IMAGE_WRITE_SLOT. R59: The admin command checks the staged full image and erases, programs and reads back flash slot A or B. -/
  | imageWriteSlot (pf idx : Nat)
  /-- SLOT_WRITE_DONE. R59: When programming and read-back of a slot end, the command completes with OK or INTEGRITY. -/
  | slotWriteDone (readBack : Option (List Byte))
  /-- PATCH_SWAP. R63: When the target's drain is done the target reads PATCHING and the new subtree, code, tables, bounds and bindings are built, with the patch pool rebuilt. -/
  | patchSwap 
  /-- PATCH_DRAIN_TIMEOUT. R65: A drain not done within PATCH_DRAIN_TIMEOUT ends the patch with PATCH_DRAIN and restores the old subtree. -/
  | patchDrainTimeout 
  /-- PATCH_RESUME. R63: When the swap ends, units are enabled, the rein freeze lifts, IMG_STATUS returns to ACTIVE and IMAGE_APPLY completes with OK. -/
  | patchResume 
  /-- FRAME_RECEIVE. R79: A frame received on a port is sorted into fragment, runt, errored or good, flagged, counted, and delivered or dropped. -/
  | frameReceive (l smd cnt : Nat) (bs : List Byte) (more mcrc code : Bool) (syms : List Nat)
  /-- PAUSE_TIMER_EXPIRY. R82: When a class's receive pause timer counts down to zero, the class may start frames again. -/
  | pauseTimerExpiry (l c : Nat)
  /-- LINK_UP. R576: When lock, alignment and FEC alignment hold, LINK_UP rises, a link-change event is raised and the MAC first sends the current XOFF state. -/
  | linkUp (l : Nat)
  /-- LINK_DOWN. R75: When alignment is lost for LINK_DOWN_HOLD, LINK_UP falls, pause timers clear, a frame in progress is lost and training restarts. -/
  | linkDown (l : Nat)
  /-- TRAIN_FAIL. R576: A link that fails to come up within 500 ms, or whose training fails, reads TRAIN_STATE 4. -/
  | trainFail (l : Nat)
  /-- TRAIN_RETRY. R576: 500 ms after a failure, a new link bring-up attempt starts. -/
  | trainRetry (l : Nat)
  /-- PFC_REFRESH. R83: While any class stays in XOFF, the MAC repeats the PFC or pause frame every TX_REFRESH quanta. -/
  | pfcRefresh (l : Nat)
  /-- PREEMPT_VERIFY_TIMEOUT. R84: VERIFY_TIME without a response sends another verify, and after three attempts sets failed and raises an event. -/
  | preemptVerifyTimeout (l : Nat)
  /-- WIRE_SELECT. R232: A port's wire scheduler selects an eligible class by DRR and starts its head frame, charging the shapers. -/
  | wireSelect (p : Nat) (sent : Nat × Option ReadFault)
  /-- TX_UNDERRUN. R87: When the transmit buffer empties before a frame's last byte, the rest is sent as error blocks with a complemented FCS and CUR rises by STEP. -/
  | txUnderrun (l sent : Nat)
  /-- TX_START_WINDOW. R88: At each 1 ms window without underrun QUIET increments, and at DECAY_WINDOWS CUR falls by one STEP. -/
  | txStartWindow (l : Nat)
  /-- TX_TS_READ. R91: A read of TX_TS_A with VALID removes the oldest FIFO entry and copies its seconds into TX_TS_B. -/
  | txTsRead (l : Nat)
  /-- TIMEBASE_TICK. R89: At each 781.25 MHz tick the PTP timebase adds TB_INCR and applies a pending adjust or set. -/
  | timebaseTick 
  /-- TB_ADJ. R89: A write of TB_ADJ adds a signed offset to the timebase at the next tick. -/
  | tbAdj (v : Word)
  /-- TB_SET_NS. R89: A write of TB_SET_NS loads TB_SET_SEC and the nanoseconds into the timebase at the next tick. -/
  | tbSetNs (v : Nat)
  /-- TB_CAPTURE. R89: A write of TB_CAPTURE copies the timebase into TB_SNAP_NS and TB_SNAP_SEC at one tick. -/
  | tbCapture 
  /-- PRISM_INPUT. R97: A packet enters a prism's input FIFO, or a received frame is dropped in IN_DROP when the FIFO is full or the prism disabled. -/
  | prismInput (n : Nat)
  /-- PRISM_PARSE. R102: A prism takes a packet from its FIFO, walks the parse graph, writes the header vector and metadata, and hands it on or drops it by PRISM_CFG. -/
  | prismParse (n : Nat)
  /-- CLASSIFY. R130: The classifier computes the flow hash and sends the packet to its bound engine hitch or to the fast path. -/
  | classify (n : Nat)
  /-- FASTPATH_DECIDE. R129: Once the lookups up to the deciding step return, the fast path chooses flow, L2, LPM or drop and requests learning. -/
  | fastpathDecide 
  /-- LEARN_APPLY. R123: The home tile takes a request from its learn FIFO and inserts the entry or counts a learn drop. -/
  | learnApply (m : Nat)
  /-- MOVE_WINDOW. R124: At each 1 ms window boundary MOVE_COUNT returns to 0 and quiet entries clear DAMPED. -/
  | moveWindow (m : Nat)
  /-- AGE_VISIT. R137: The sweeper visits an index position, clearing HIT, setting AGE_MARK or removing the entry. -/
  | ageVisit (id : Nat)
  /-- TABLE_CHANGE_STEP. R133: The home tile takes one change from a command or engine code and applies it alone in arrival order. -/
  | tableChangeStep (m : Nat)
  /-- LOOKUP. R127: A match tile serves a lookup, filling the flow cache on a miss and setting HIT on a hit. -/
  | lookup (m : Nat)
  /-- READ. R132: TBL_CMD OP READ returns the entry at INDEX in TBL_DATA. -/
  | tblRead (m id evt : Nat)
  /-- WRITE. R134: TBL_CMD OP WRITE changes an entry in place when its key matches. -/
  | tblWrite (m id evt : Nat)
  /-- INSERT. R117: TBL_CMD OP INSERT adds an entry to a keyed table and returns its index. -/
  | tblInsert (m id evt : Nat)
  /-- DELETE. R132: TBL_CMD OP DELETE removes the entry with the given key and returns its index. -/
  | tblDelete (m id evt : Nat)
  /-- SEARCH. R132: TBL_CMD OP SEARCH returns the entry with the given key, or the longest LPM match. -/
  | tblSearch (m id evt : Nat)
  /-- NEXT. R132: TBL_CMD OP NEXT returns the first valid entry at or above INDEX. -/
  | tblNext (m id evt : Nat)
  /-- CTL_READ. R135: TBL_CMD OP CTL_READ returns the table control word. -/
  | ctlRead (m id evt : Nat)
  /-- CTL_WRITE. R135: TBL_CMD OP CTL_WRITE writes the table control word under the bound checks. -/
  | ctlWrite (m id evt : Nat)
  /-- STATS. R136: TBL_CMD OP STATS returns the table's counters. -/
  | tblStats (m id evt : Nat)
  /-- TBL_CMD_DONE. R132: When a table command's result is in place BUSY falls, RESULT is set and a command-done event is raised if EVT was set. -/
  | tblCmdDone (m : Nat)
  /-- DISPATCH. R151: An engine hitch tags the packet at its FIFO head and hands it to the member with the most idle threads. -/
  | dispatch (h : Nat)
  /-- LOOKUP_RESULT. R146: A table operation's result returns to its thread and is written to its destination registers unless discarded. -/
  | lookupResult (n : Nat)
  /-- THREAD_CYCLE_LIMIT. R149: When a thread's cycle count reaches THREAD_LIMIT it takes the cycle-limit trap. -/
  | threadCycleLimit (n t : Nat)
  /-- REORDER_RELEASE. R153: A packet leaves the hitch once every earlier tag of its order class has been released. -/
  | reorderRelease (h : Nat)
  /-- ADD. R170: Instruction ADD writes A + B to D. -/
  | addd (n : Nat)
  /-- SUB. R170: Instruction SUB writes A − B to D. -/
  | subb (n : Nat)
  /-- AND. R170: Instruction AND writes A AND B to D. -/
  | andd (n : Nat)
  /-- OR. R170: Instruction OR writes A OR B to D. -/
  | orr (n : Nat)
  /-- XOR. R170: Instruction XOR writes A XOR B to D. -/
  | xorr (n : Nat)
  /-- SHL. R170: Instruction SHL shifts A left by B[5:0]. -/
  | shl (n : Nat)
  /-- SHR. R170: Instruction SHR shifts A right logically by B[5:0]. -/
  | shr (n : Nat)
  /-- SAR. R170: Instruction SAR shifts A right arithmetically by B[5:0]. -/
  | sar (n : Nat)
  /-- MUL. R170: Instruction MUL writes the low 64 bits of A × B to D in two slots. -/
  | mull (n : Nat)
  /-- SLT. R170: Instruction SLT writes 1 if A < B signed. -/
  | slt (n : Nat)
  /-- SLTU. R170: Instruction SLTU writes 1 if A < B unsigned. -/
  | sltu (n : Nat)
  /-- ADDI. R172: Instruction ADDI adds the sign-extended immediate to A. -/
  | addi (n : Nat)
  /-- ANDI. R172: Instruction ANDI ANDs A with the zero-extended immediate. -/
  | andi (n : Nat)
  /-- ORI. R172: Instruction ORI ORs A with the zero-extended immediate. -/
  | ori (n : Nat)
  /-- XORI. R172: Instruction XORI XORs A with the zero-extended immediate. -/
  | xori (n : Nat)
  /-- SHLI. R172: Instruction SHLI shifts A left by IMM[5:0]. -/
  | shli (n : Nat)
  /-- SHRI. R172: Instruction SHRI shifts A right logically by IMM[5:0]. -/
  | shri (n : Nat)
  /-- MOVI. R172: Instruction MOVI writes the sign-extended 19-bit immediate to D. -/
  | movi (n : Nat)
  /-- MOVK. R173: Instruction MOVK replaces one 16-bit field of D with the immediate. -/
  | movk (n : Nat)
  /-- EXT. R174: Instruction EXT extracts an unsigned bit field of A into D. -/
  | ext (n : Nat)
  /-- EXTS. R174: Instruction EXTS extracts a sign-extended bit field of A into D. -/
  | exts (n : Nat)
  /-- INS. R174: Instruction INS inserts the low bits of A into a field of D. -/
  | ins (n : Nat)
  /-- HLD. R175: Instruction HLD loads 1 to 8 header-vector bytes into D. -/
  | hld (n : Nat)
  /-- HST. R175: Instruction HST stores 1 to 8 bytes of D into the header vector. -/
  | hst (n : Nat)
  /-- HADJ. R176: Instruction HADJ adds or removes bytes at the front of the packet, moving bytes between vector and spill and updating PKT_LEN. -/
  | hadj (n : Nat)
  /-- LDW. R177: Instruction LDW loads 32 bits from data memory. -/
  | ldw (n : Nat)
  /-- LDD. R177: Instruction LDD loads 64 bits from data memory. -/
  | ldd (n : Nat)
  /-- STW. R177: Instruction STW stores 32 bits to data memory. -/
  | stw (n : Nat)
  /-- STD. R177: Instruction STD stores 64 bits to data memory. -/
  | std (n : Nat)
  /-- BEQ. R178: Instruction BEQ branches if A equals B. -/
  | beq (n : Nat)
  /-- BNE. R178: Instruction BNE branches if A differs from B. -/
  | bne (n : Nat)
  /-- BLT. R178: Instruction BLT branches if A < B signed. -/
  | blt (n : Nat)
  /-- BGE. R178: Instruction BGE branches if A ≥ B signed. -/
  | bge (n : Nat)
  /-- BLTU. R178: Instruction BLTU branches if A < B unsigned. -/
  | bltu (n : Nat)
  /-- BGEU. R178: Instruction BGEU branches if A ≥ B unsigned. -/
  | bgeu (n : Nat)
  /-- BBS. R178: Instruction BBS branches if bit B of A is 1. -/
  | bbs (n : Nat)
  /-- BBC. R178: Instruction BBC branches if bit B of A is 0. -/
  | bbc (n : Nat)
  /-- JAL. R178: Instruction JAL writes the link and jumps relative. -/
  | jal (n : Nat)
  /-- JR. R178: Instruction JR writes the link and jumps to the address in A. -/
  | jr (n : Nat)
  /-- CSADD. R179: Instruction CSADD adds register fields into a ones-complement sum. -/
  | csadd (n : Nat)
  /-- CSHV. R179: Instruction CSHV adds header-vector bytes into a ones-complement sum. -/
  | cshv (n : Nat)
  /-- CSFIN. R179: Instruction CSFIN folds and complements a sum. -/
  | csfin (n : Nat)
  /-- CRCR. R180: Instruction CRCR updates a running CRC over register bytes with the polynomial FN selects. -/
  | crcr (n : Nat)
  /-- CRCHV. R180: Instruction CRCHV updates a running CRC over header-vector bytes. -/
  | crchv (n : Nat)
  /-- LK. R183: Instruction LK sends a lookup to a match tile, optionally requesting learning, with results returned to D onwards. -/
  | lk (n : Nat)
  /-- TINS. R184: Instruction TINS requests insertion of an entry held in g registers. -/
  | tins (n : Nat)
  /-- TDEL. R184: Instruction TDEL requests deletion of the entry with the given key. -/
  | tdel (n : Nat)
  /-- TWR. R184: Instruction TWR requests a write of entry words at INDEX. -/
  | twr (n : Nat)
  /-- ATOM_ADD. R185: Instruction ATOM.ADD atomically adds A to a table word and returns the old value. -/
  | atomAdd (n : Nat)
  /-- ATOM_SWP. R185: Instruction ATOM.SWP atomically writes A to a table word and returns the old value. -/
  | atomSwp (n : Nat)
  /-- ATOM_CAS. R185: Instruction ATOM.CAS writes A to a table word if it equals A + 1, returning the old value. -/
  | atomCas (n : Nat)
  /-- CNT. R186: Instruction CNT adds a packet and bytes to a counter array entry, retrying while 64 are in flight. -/
  | cnt (n : Nat)
  /-- POL. R187: Instruction POL meters a packet against a policer and returns its colour. -/
  | pol (n : Nat)
  /-- POL_METER. R238: The policer's home tile refills its buckets and colours the packet in one indivisible step. -/
  | polMeter (m : Nat)
  /-- EMIT_COPY. R189: Instruction EMIT with FN 0 hands a copy of the packet on by its action word and the thread continues. -/
  | emitCopy (n : Nat)
  /-- EMIT_FINAL. R189: Instruction EMIT with FN 1 hands the packet on, ends it and releases its tag. -/
  | emitFinal (n : Nat)
  /-- DROP. R190: Instruction DROP ends the packet without emitting it and releases its tag. -/
  | drop (n : Nat)
  /-- RDS. R192: Instruction RDS writes the selected device-state value to D. -/
  | rds (n : Nat)
  /-- REIN_WINDOW_END. R158: At the end of each 100 µs window the rein controller updates each hitch's runs and decides additions and removals. -/
  | reinWindowEnd (ms : List (Nat × Nat × Nat))
  /-- REIN_ADD_JOIN. R162: When the PE's code and data are loaded it joins the hitch, is enabled and an ADD entry is logged. -/
  | reinAddJoin (h : Nat)
  /-- REIN_REMOVE_DONE. R163: When all the draining PE's threads are idle it leaves the hitch, its data memory is zeroed, and it joins the pool. -/
  | reinRemoveDone (h : Nat)
  /-- DRAIN_TIMEOUT. R163: A removal whose threads are not idle within 1 ms is cancelled and a DRAIN_TIMEOUT entry is written. -/
  | drainTimeout (h : Nat)
  /-- PACKET_ADMIT. R205: A packet entering the switch core is encapsulated if requested, then admitted, dropped or held by the admission checks. -/
  | packetAdmit (port : Nat × Option (List Byte × List Word × Nat))
  /-- HELD_RETRY. R206: A held packet is tried again at a read of its queue, a release of descriptors, or after 100 ns. -/
  | heldRetry (port o c : Nat)
  /-- PACKET_DEQUEUE. R203: A port's reader takes the next eligible packet from its queues, freeing cells and the descriptor. -/
  | packetDequeue (o : Nat) (bad : Option ReadFault)
  /-- REPLICATE. R211: The replication stage reads a packet from port 20 and writes one copy per valid copy word of its group. -/
  | replicate (bad : Option ReadFault)
  /-- FETCH_GRANT. R224: Once per UH cycle the fetch scheduler selects an eligible leaf through the tree by DRR and charges the path when the job length is read. -/
  | fetchGrant (early : Bool)
  /-- SHAPER_REFILL. R229: Every 1 µs each shaper applies a pending change, adds tokens at its rate and caps them at BURST. -/
  | shaperRefill 
  /-- GCL_CHANGE. R235: Writing GCL_CTL.CHANGE checks the admin list and computes its change time, or latches ERR. -/
  | gclChange (p : Nat)
  /-- GCL_CHANGE_APPLY. R235: At the change time the admin list is copied into the operating list and its cycles start. -/
  | gclChangeApply (p : Nat)
  /-- GCL_ENTRY_ADVANCE. R235: When an operating entry's interval or the cycle ends, the gates move to the next entry. -/
  | gclEntryAdvance (p : Nat)
  /-- SHP_READ. R239: Meter OP SHP_READ returns a shaper record. -/
  | shpRead (table evt : Nat)
  /-- SHP_WRITE. R230: Meter OP SHP_WRITE writes a shaper, setting or deferring tokens by the service state. -/
  | shpWrite (table evt : Nat)
  /-- POL_READ. R239: Meter OP POL_READ returns a policer record. -/
  | polRead (table evt : Nat)
  /-- POL_WRITE. R237: Meter OP POL_WRITE writes a policer and fills its buckets. -/
  | polWrite (table evt : Nat)
  /-- NODE_READ. R239: Meter OP NODE_READ returns a fetch-tree node record. -/
  | nodeRead (table evt : Nat)
  /-- NODE_WRITE. R223: Meter OP NODE_WRITE writes a fetch-tree node under the structural checks. -/
  | nodeWrite (table evt : Nat)
  /-- LEAF_READ. R239: Meter OP LEAF_READ returns a leaf record. -/
  | leafRead (table evt : Nat)
  /-- LEAF_WRITE. R223: Meter OP LEAF_WRITE writes a leaf, moving a queue to another class node. -/
  | leafWrite (table evt : Nat)
  /-- METER_CMD_DONE. R239: When a meter operation's result is in place BUSY falls and a command-done event is raised if EVT was set. -/
  | meterCmdDone 
  /-- CRYPTO_PROCESS. R244: A crypto tile encrypts or decrypts an emitted packet under its SA and drops or delivers it on failure. -/
  | cryptoProcess (n : Nat)
  /-- SA_STEP. R252: The SA's home tile checks validity, assigns or checks sequences and updates counters for one packet. -/
  | saStep (m : Nat) (ecc : Option Nat)
  /-- SA_SWEEP. R250: Every 10 ms the home tile visits its SAs and moves their STATE when due. -/
  | saSweep (m : Nat)
  /-- SA_READ. R257: SA_CMD OP READ returns an SA record without its key. -/
  | saRead (n evt : Nat)
  /-- SA_INSTALL. R258: SA_CMD OP INSTALL writes a new SA into an empty, expired or revoked index. -/
  | saInstall (n evt : Nat)
  /-- SA_UPDATE. R258: SA_CMD OP UPDATE writes limits, times, window and PREV, and TLS stream state. -/
  | saUpdate (n evt : Nat)
  /-- SA_REVOKE. R258: SA_CMD OP REVOKE sets REVOKED and zeros the key in HBM and cache. -/
  | saRevoke (n evt : Nat)
  /-- SA_CMD_DONE. R257: When an SA command has completed, including the wait for packets using a revoked key, BUSY falls and RESULT is set. -/
  | saCmdDone (n : Nat)
  /-- ENTROPY_TEST_FAIL. R263: A continuous health-test failure flushes pools and buffers, zeros the DRBG, raises an event and starts a restart. -/
  | entropyTestFail (samples : List Bool)
  /-- ENTROPY_RESTART_DONE. R263: A restart's startup test passes or fails, leading to seeding, another restart or FAILED. -/
  | entropyRestartDone (samples : List Bool)
  /-- DRBG_SEED. R261: When 1,536 samples are pooled a 384-bit seed instantiates or reseeds the DRBG. -/
  | drbgSeed
  /-- DRBG_RESEED_DUE. R261: After 65,536 generate calls or 100 ms reseeding falls due. -/
  | drbgReseedDue 
  /-- RANDOM_REQUEST_SERVE. R262: The oldest waiting random request is generated into a buffer and written out whole. -/
  | randomRequestServe (reach : Bool)
  /-- RNG_DATA_READ. R262: A read of RNG_DATA returns and removes a fresh value, or VALID 0. -/
  | rngDataRead 
  /-- GET_RANDOM. R262: The admin command requests 1 to 4,096 random bytes. -/
  | getRandom (pf idx : Nat)
  /-- ENT_RESTART. R265: Writing ENT_CTL.RESTART while FAILED begins a new restart sequence. -/
  | entRestart 
  /-- TRANSPORT_RX. R268: A packet on port 21 is checked for ICRC and connection, then handled by its home tile as request or response. -/
  | transportRx (ents : List (Option (List Word))) (ecc : Bool)
  /-- TRANSPORT_SEND. R272: When the connection shaper is eligible the home tile builds and sends the next PMTU packet. -/
  | transportSend (cid : Nat) (data : Option (List Byte))
  /-- ACK_TIMER. R273: 2 µs after the oldest unacknowledged packet the responder sends an ACK. -/
  | ackTimer (cid : Nat)
  /-- RETRANSMIT_TIMEOUT. R275: On RTO expiry the requester halves the rate and resends UNA_PSN, or moves to ERROR past RETRY_LIMIT. -/
  | retransmitTimeout (cid : Nat)
  /-- RNR_WAIT_EXPIRY. R274: At the end of an RNR wait sending resumes at the NAKed PSN. -/
  | rnrWaitExpiry (cid : Nat)
  /-- TETHER_RELEASE. R277: When the twin acknowledges a mirror record, held ACKs, responses, completions and tally releases go out. -/
  | tetherRelease (cid : Nat)
  /-- CONN_CREATE. R271: The admin command creates a connection in INIT from a full context. -/
  | connCreate (pf idx : Nat) (data : Option (List Byte))
  /-- CONN_MODIFY. R271: The admin command moves a connection between states or rewrites its fields. -/
  | connModify (pf idx : Nat) (data : Option (List Byte))
  /-- CONN_QUERY. R271: The admin command returns a connection context. -/
  | connQuery (pf idx : Nat) (reach : Bool)
  /-- CONN_DESTROY. R271: The admin command aborts outstanding messages and frees the connection. -/
  | connDestroy (pf idx : Nat)
  /-- STORAGE_CAPSULE. R296: A target command capsule takes a tally entry and passes the namespace, range and extent checks. -/
  | storageCapsule (t : Nat)
  /-- STORAGE_DATA_ARRIVED. R296: When a write's data has arrived, PI is checked or inserted and sub-commands are issued to the backends. -/
  | storageDataArrived (t : Nat)
  /-- SUBCMD_COMPLETE. R296: A backend sub-command completes; when all have, read data returns and the response capsule is sent. -/
  | subcmdComplete (t : Nat)
  /-- FENCE_WAIT_TIMEOUT. R296: A command waiting on a FENCED extent for 100 ms fails with EXTENT_FENCED. -/
  | fenceWaitTimeout (ix : Nat)
  /-- STORAGE_TCP_RX. R290: A TCP segment on port 22 is matched to its session and handled for ACKs, PDUs and digests, or moves it to ERROR or DETACHED. -/
  | storageTcpRx 
  /-- STORAGE_TCP_RTO. R290: A TCP retransmit timeout resends data, doubling the timeout, and the sixth detaches the session. -/
  | storageTcpRto (sess : Nat)
  /-- SESSION_CREATE. R288: The admin command creates a storage session from its context. -/
  | sessionCreate (pf idx : Nat) (data : Option (List Byte))
  /-- SESSION_DESTROY. R299: The admin command aborts commands in flight and frees the session. -/
  | sessionDestroy (pf idx : Nat)
  /-- SESSION_QUERY. R290: The admin command returns a session context. -/
  | sessionQuery (pf idx : Nat) (reach : Bool)
  /-- NS_CREATE. R293: The admin command creates a namespace record. -/
  | nsCreate (pf idx : Nat) (data : Option (List Byte))
  /-- NS_DESTROY. R299: The admin command sets DESTROYING and completes when the last command past step 2 completes. -/
  | nsDestroy (pf idx : Nat)
  /-- BACKEND_WRITE. R295: The admin command writes a backend record. -/
  | backendWrite (pf idx : Nat) (data : Option (List Byte))
  /-- EXTENT_WRITE. R294: The admin command writes up to 1,024 consecutive extent entries. -/
  | extentWrite (pf idx : Nat) (data : Option (List Byte))
  /-- EXTENT_FENCE. R299: The admin command sets an extent FENCED and completes when no earlier command using it remains. -/
  | extentFence (pf idx : Nat)
  /-- PERST_ASSERT. R518: PERST_x_N falling starts a Conventional Reset of that link's function. -/
  | perstAssert (pf : Nat)
  /-- PERST_DEASSERT. R304: PERST_x_N rising lets the link train and starts the 900 ms readiness timer. -/
  | perstDeassert (pf : Nat)
  /-- PCIE_LINK_UP. R302: A link reaches L0, raising a link-degraded event if below x16 or its top common rate. -/
  | pcieLinkUp (pf rate width common recoveries : Nat) (flit : Bool)
  /-- HOT_RESET. R518: An in-band Hot Reset or a drop to Detect resets the link's function. -/
  | hotReset (pf : Nat)
  /-- FLR. R518: Initiate FLR destroys the function's objects and clears its configuration as the table gives. -/
  | flr (pf : Nat)
  /-- LINK_RESET_DONE. R519: After an FLR or Hot Reset the endpoint sets CFG_READY itself once the reset work is done. -/
  | linkResetDone (pf : Nat)
  /-- CONFIG_REQUEST. R304: A Configuration Request completes with RRS until CFG_READY, and normally after. -/
  | configRequest (pf reg be : Nat) (write : Option Nat)
  /-- CFG_READY. R304: Firmware writing CFG_READY ends RRS and fixes the configuration values. -/
  | cfgReady (pf : Nat)
  /-- READY_TIMEOUT. R304: 900 ms after PERST rises without CFG_READY the endpoint sets it and AUTO_READY and raises an event. -/
  | readyTimeout (pf : Nat)
  /-- HOST_MEMORY_REQUEST. R315: A host TLP to a BAR is served by a fixed region, translated through an aperture, refused or treated as unmapped. -/
  | hostMemoryRequest (pf bar off len be : Nat) (write : Option (List Byte)) (ide : Option (Nat × Bool)) (env : BusEnv)
  /-- ROM_DATA. R317: A write of ROM_DATA stores 8 bytes in the ROM shadow and advances ROM_ADDR. -/
  | romData (pf : Nat) (v : Word)
  /-- ASPM_L1_ENTRY. R318: When the idle timer expires with nothing outstanding the endpoint requests L1. -/
  | aspmL1Entry (pf : Nat)
  /-- L0P_WINDOW. R319: At each 10 µs window the endpoint may request a narrower or full-width link. -/
  | l0pWindow (pf tx rx backlog : Nat)
  /-- ATS_INVALIDATE. R320: An Invalidation Request is completed after requests using matching translations have completed. -/
  | atsInvalidate (pf tag pasid page : Nat)
  /-- PAGE_GROUP_RESPONSE. R320: A Page Group Response resumes or fails the DMA waiting on a page. -/
  | pageGroupResponse (q page : Nat) (ok : Bool)
  /-- PAGE_REQUEST_TIMEOUT. R320: No page response within 100 ms fails the operation with BUS_ERROR. -/
  | pageRequestTimeout (q : Nat)
  /-- DOE_OBJECT. R321: A DOE data object is handled by Discovery or the SPDM responder, or discarded if too long. -/
  | doeObject (pf : Nat) (obj : List Byte)
  /-- DOE_ABORT. R321: DOE Abort discards every object in flight. -/
  | doeAbort (pf : Nat)
  /-- FUNCTION_QUIET_END. R309: When a function stops being quiet its held writes and events leave in order and signal. -/
  | functionQuietEnd (pf : Nat)
  /-- SLICE_CREATE. R328: The admin command creates an ACTIVE slice after state, field and quota checks. -/
  | sliceCreate (pf idx : Nat) (data : Option (List Byte))
  /-- SLICE_MODIFY. R328: The admin command changes a slice's spoof mode, default queue and maxima. -/
  | sliceModify (pf idx : Nat) (data : Option (List Byte))
  /-- SLICE_QUERY. R327: The admin command returns a slice context. -/
  | sliceQuery (pf idx : Nat) (reach : Bool)
  /-- SLICE_FREEZE. R340: The admin command puts a slice in FREEZING and stops fetch and traffic. -/
  | sliceFreeze (pf idx : Nat)
  /-- FREEZE_DONE. R341: When all fetched work and records are written the slice becomes FROZEN and the command completes. -/
  | freezeDone (slice : Nat)
  /-- FREEZE_TIMEOUT. R341: A freeze not done in 10 ms returns the slice to ACTIVE with FREEZE_TIMEOUT. -/
  | freezeTimeout (slice : Nat)
  /-- SLICE_SAVE. R342: The admin command writes a frozen slice's saved state to a host buffer. -/
  | sliceSave (pf idx : Nat) (reach : Bool)
  /-- SLICE_RESTORE. R343: The admin command checks saved state and creates a FROZEN slice with its objects. -/
  | sliceRestore (pf idx : Nat) (data : Option (List Byte)) (rings : List (Nat × List (Nat × List (List Word))))
  /-- SLICE_THAW. R344: The admin command makes the slice ACTIVE, rings its queues and resends outstanding messages. -/
  | sliceThaw (pf idx : Nat)
  /-- SLICE_DESTROY. R345: The admin command destroys every object of the slice and frees it. -/
  | sliceDestroy (pf idx : Nat) (rings : List (Nat × List (Option (List Word))))
  /-- ALLOW_WRITE. R334: The admin command replaces a slice's whole allow-list. -/
  | allowWrite (pf idx : Nat) (data : Option (List Byte))
  /-- MW_CREATE. R337: The admin command creates a memory window and returns its remote key. -/
  | mwCreate (pf idx : Nat) (data : Option (List Byte))
  /-- MW_DESTROY. R338: The admin command invalidates a window and completes when no operation using it moves data. -/
  | mwDestroy (pf idx : Nat)
  /-- HOST_DOORBELL. R354: A write to a queue's doorbell page rings it, records it pending, or arms a CQ. -/
  | hostDoorbell (pf q off n : Nat)
  /-- QUEUE_SCAN. R355: The device scans owned entries from HEAD, taking complete jobs or stopping the queue on a structural error. -/
  | queueScan (q : Nat) (ents : List (Option (List Word))) (aux : List (List Byte × List Byte))
  /-- TX_JOB_FETCH. R358: A DMA tile fetches a granted TX job's data, segments TSO, fills m11 and passes packets to its prism. -/
  | txJobFetch (q : Nat) (data : List Byte) (ok poison : Bool)
  /-- TX_JOB_COMPLETE. R368: When a job's data has been read the device writes its completion in ring order. -/
  | txJobComplete (q : Nat) (wr : Bool)
  /-- RX_PACKET_WRITE. R361: A packet to a host queue fills consecutive RX buffers with a completion, or is dropped. -/
  | rxPacketWrite (t : Nat) (ents : List (Option (List Word))) (dataOk wr : Bool)
  /-- BACKEND_SUBCOMMAND. R365: The device writes a storage sub-command entry on a BACKEND queue once its slot is free. -/
  | backendSubcommand (q : Nat) (wr : Bool)
  /-- BACKEND_TIMEOUT. R365: A sub-command without completion for 1 s fails with BACKEND_ERROR. -/
  | backendTimeout (q c ix : Nat)
  /-- CREATE_QUEUE. R373: The admin command creates a queue from its context after the checks. -/
  | createQueue (pf idx : Nat) (data : Option (List Byte))
  /-- QUIESCE_QUEUE. R374: The admin command aborts outstanding jobs and leaves the queue QUIESCED. -/
  | quiesceQueue (pf idx : Nat) (ents : List (Option (List Word)))
  /-- RESUME_QUEUE. R373: The admin command returns a queue to ACTIVE with its head and rings it once. -/
  | resumeQueue (pf idx : Nat)
  /-- DESTROY_QUEUE. R374: The admin command aborts outstanding jobs and frees the queue. -/
  | destroyQueue (pf idx : Nat) (ents : List (Option (List Word)))
  /-- QUERY_QUEUE. R350: The admin command returns a queue context. -/
  | queryQueue (pf idx : Nat) (reach : Bool)
  /-- NOP. R380: The admin command does nothing and completes with OK. -/
  | nop (pf idx : Nat)
  /-- QCTL. R375: A write of QCTL.ENABLE stops or resumes taking jobs from a COMPAT queue. -/
  | qctl (pf : Nat) (en : Bool)
  /-- AQ_CFG. R378: A write of AQ_CFG.ENABLE starts the admin queue afresh or stops it taking commands. -/
  | aqCfg (pf : Nat) (v : Word)
  /-- ADMIN_SCAN. R379: The admin queue takes commands in ring order, up to 16 at once, honouring FENCE and per-object order. -/
  | adminScan (pf : Nat) (ents : List (Option (List Word)))
  /-- ADMIN_COMPLETION. R377: A finished command's completion is written and an event raised if EQ_EN is 1. -/
  | adminCompletion (pf idx : Nat)
  /-- CH_GO. R389: CH_CTL.GO starts an idle channel at CH_HEAD. -/
  | chGo (t c : Nat)
  /-- CH_STOP. R389: CH_CTL.STOP stops a running or halted channel, completing its descriptor with ABORTED or its latched status. -/
  | chStop (t c : Nat)
  /-- CH_RETRY. R389: CH_CTL.RETRY resumes a halted descriptor from CH_DONE_BYTES or repeats its flush read. -/
  | chRetry (t c : Nat)
  /-- CH_SKIP. R389: CH_CTL.SKIP completes a halted descriptor with its status and continues at NEXT. -/
  | chSkip (t c : Nat)
  /-- DMA_BURST. R396: Every 8 UH cycles the engine grants a burst slot to the ready requester of lowest priority. -/
  | dmaBurst (t : Nat) (queueReady : Bool)
  /-- DESCRIPTOR_READ_RETURN. R388: A descriptor read returns and is executed, or completes MALFORMED and ends the list. -/
  | descriptorReadReturn (t c : Nat) (words : List Word × Bool)
  /-- BURST_READ_RETURN. R390: A burst's read returns and its write is issued in order, advancing CH_DONE_BYTES. -/
  | burstReadReturn (t c off : Nat) (data : List Byte × Bool)
  /-- FLUSH_READ_RETURN. R391: A flush read returns and the descriptor completes with write-back and event. -/
  | flushReadReturn (t c : Nat)
  /-- CHANNEL_HALT. R393: A failed access halts the channel, latching address, direction and status and raising a halted event. -/
  | channelHalt (t c dir cause off : Nat)
  /-- EVENT_ACCEPT. R401: The arbiter accepts one presented event per cycle, assigning EVT_SEQ and writing its record. -/
  | eventAccept 
  /-- ARBITER_STEP_UP. R402: A backlog of 4 or a 200 ns wait steps the arbiter up to 1 GHz. -/
  | arbiterStepUp 
  /-- ARBITER_STEP_DOWN. R402: After 2,000 idle walk cycles the arbiter steps back to the walk clock. -/
  | arbiterStepDown 
  /-- EQ_CONS. R411: A write of EQ_CONS is stored if in range, releasing waiting entries and signalling if the queue stays non-empty. -/
  | eqCons (o q v : Nat)
  /-- EVT_GLOBAL_HOLD. R408: A write of EVT_GLOBAL.HOLD stops acceptance, or on 0 presents waiting entries oldest first. -/
  | evtGlobalHold (hold : Bool)
  /-- EQ_CFG_ENABLE. R413: Setting EQ_CFG.ENABLE of a management-core queue resets its positions, and clearing it invalidates the queue. -/
  | eqCfgEnable (q : Nat) (en : Bool)
  /-- EQ_CREATE. R407: The admin command creates a host event queue. -/
  | eqCreate (pf idx : Nat) (data : Option (List Byte))
  /-- EQ_DESTROY. R407: The admin command destroys a host event queue. -/
  | eqDestroy (pf idx : Nat)
  /-- EQ_QUERY. R407: The admin command returns an event queue context. -/
  | eqQuery (pf idx : Nat) (reach : Bool)
  /-- SEND. R419: CH_CTL.SEND freezes a channel's message, queues it and starts its timer. -/
  | send (agent m c : Nat)
  /-- CANCEL. R423: CH_CTL.CANCEL withdraws an unlatched message. -/
  | cancel (agent m c : Nat)
  /-- SENDER_WRITE. R418: The receiving core binds or unbinds a channel's sender. -/
  | senderWrite (agent m c v : Nat)
  /-- MAILBOX_LATCH. R420: The receiving core's read of RX_MSG_0 latches the head message and stops its timer. -/
  | mailboxLatch (agent m : Nat)
  /-- MAILBOX_RELEASE. R420: The receiving core's read of RX_MSG_7 releases the latched message as delivered. -/
  | mailboxRelease (agent m : Nat)
  /-- MAILBOX_TIMEOUT. R422: A message still unread at SEND + MBX_TIMEOUT sets TIMEOUT and records the receiver's state. -/
  | mailboxTimeout (m c : Nat)
  /-- LOCK_TRY. R427: A read of LOCK_TRY grants a free lock to the reader or reports it held. -/
  | lockTry (agent n : Nat)
  /-- LOCK_REL. R428: A write of LOCK_REL by the holder frees the lock and clears BROKEN. -/
  | lockRel (agent n : Nat)
  /-- LOCK_BREAK. R430: A management core's write of LOCK_BREAK frees a held lock with BROKEN. -/
  | lockBreak (agent n : Nat)
  /-- GOVERNOR_WINDOW. R444: At the end of each 10 µs window the governor steps regions up or down by busy and pressure. -/
  | governorWindow (busy : List Nat) (pressure : List Bool)
  /-- GAIT_CHANGE_DONE. R442: A region's gait change completes when the clock switches after the regulator and PLL are ready. -/
  | gaitChangeDone (r : Nat)
  /-- REGION_STAND. R443: A region with no work for STAND_DELAY enters Stand. -/
  | regionStand (r : Nat)
  /-- REGION_REST. R443: A region at Stand without work for REST_DELAY enters Rest. -/
  | regionRest (r : Nat)
  /-- REGION_WAKE. R443: A wake trigger wakes a sleeping region to its wake gait. -/
  | regionWake (r : Nat)
  /-- TEMP_SAMPLE. R447: Every 100 µs region temperatures are sampled and TEMP_CAP is lowered or raised by gradient and limit rules. -/
  | tempSample (temps hbm : List Nat)
  /-- GALLOP_CREDIT_WINDOW. R450: Every 100 µs the gallop credit is updated from package power and lockout set or lifted. -/
  | gallopCreditWindow (p : Nat)
  /-- WEAR_SECOND. R454: Every second the wear ledger counts powered, gallop and temperature-bin time and the share lockout is evaluated. -/
  | wearSecond 
  /-- LEDGER_CHECKPOINT. R454: Every 24 hours, or at Hold entry, the ledger is copied to flash, with retry after an hour on failure. -/
  | ledgerCheckpoint (good : Bool)
  /-- XKEEP_FAIL. R436: No XKEEP edge for 1 ms sets XKEEP_FAIL and switches counting to the RC oscillator. -/
  | xkeepFail 
  /-- XKEEP_RETURN. R436: XKEEP edges returning clear XKEEP_FAIL. -/
  | xkeepReturn 
  /-- NREFCLK_LOSS. R438: Loss of NREFCLK forces regions to Walk and sets NO_REF. -/
  | nrefclkLoss 
  /-- HOLD. R453: A write of PWR_CTL.HOLD is refused with a reason or takes the device to Hold. -/
  | hold (good : Bool)
  /-- HOLD_WAKE. R453: An enabled wake source returns the device from Hold to Run, resuming device time. -/
  | holdWake (sources ticks : Nat)
  /-- PWR_GOOD_FALL. R452: PWR_GOOD low for 1 µs takes the device to Sealed standby. -/
  | pwrGoodFall 
  /-- POWER_ON_RESET. R523: PWR_GOOD rising runs the boot phases: fuses, clocks, firmware, memory, image and firmware start. -/
  | powerOnReset (ticks t3 t4 t5 : Nat)
  /-- KEEPER_RESET. R560: VKEEP rising through 1.60 V clears every keeper register. -/
  | keeperReset 
  /-- BROWNOUT. R514: A monitored rail out of regulation takes the device to Sealed standby with cause BROWNOUT. -/
  | brownout 
  /-- DEVICE_RESET. R528: RST_CTL.DEVICE_RESET with the key resets the device as power-on reset. -/
  | deviceReset (agent key t3 t4 t5 : Nat)
  /-- THERMTRIP. R550: A sensor reaching 125 °C asserts THERMTRIP_N, stops clocks, idles transmitters and drops TWIN_ALIVE_O. -/
  | thermtrip 
  /-- TWIN_ATTACH. R472: The admin command sends HELLO and pairs with the twin. -/
  | twinAttach (pf idx : Nat)
  /-- TWIN_DETACH. R482: The admin command sends DETACH and discards the partner's mirror. -/
  | twinDetach (pf idx : Nat)
  /-- TWIN_SWITCHOVER. R481: The admin command freezes the slices concerned and hands them to the partner. -/
  | twinSwitchover (pf idx : Nat)
  /-- SWITCHOVER_SEND. R481: Once the freeze is done and every record acknowledged, the giving twin sends SWITCHOVER. -/
  | switchoverSend 
  /-- SWITCHOVER_TIMEOUT. R481: No answer within 10 ms thaws the slices in place and completes with TWIN_STATE. -/
  | switchoverTimeout 
  /-- HELLO_REPEAT. R472: HELLO is repeated every 1 ms until the partner's arrives or 1 s passes. -/
  | helloRepeat 
  /-- ATTACH_TIMEOUT. R473: HELLO or SYNC without progress for 1 s returns the twin to DETACHED. -/
  | attachTimeout 
  /-- DATA. R464: A received DATA frame's packet enters the switch core with input 18. -/
  | dataFrame (bs : List Byte)
  /-- MIRROR. R468: A received MIRROR frame's records are applied in SEQ order to the partner mirror. -/
  | mirrorFrame (bs : List Byte)
  /-- HEARTBEAT. R474: A received HEARTBEAT resets MISSED, updates PEER_OFFSET and reveals gaps. -/
  | heartbeat (bs : List Byte)
  /-- ACK. R465: A received ACK releases reliable frames at or before it. -/
  | ack (bs : List Byte)
  /-- NAK. R465: A received NAK makes the sender resend from its SEQ. -/
  | nak (bs : List Byte)
  /-- HELLO. R472: A received HELLO is checked and the attach proceeds to SYNC or fails. -/
  | hello (bs : List Byte)
  /-- SYNC_DONE. R473: A received SYNC_DONE lets the pair become ATTACHED once both are done. -/
  | syncDone (bs : List Byte)
  /-- TAKEOVER. R475: A received TAKEOVER fences a STANDBY twin or is ignored by a PRIMARY one. -/
  | takeover (bs : List Byte)
  /-- SWITCHOVER. R481: A received SWITCHOVER makes the twin adopt the handed objects and answer SWITCHOVER_DONE. -/
  | switchover (bs : List Byte) (rings : List (Nat × List (Nat × List (List Word))))
  /-- SWITCHOVER_DONE. R481: A received SWITCHOVER_DONE makes the giving twin discard the handed objects and become STANDBY. -/
  | switchoverDone (bs : List Byte)
  /-- DETACH. R473: A received DETACH discards the partner's mirror and returns to DETACHED. -/
  | detach (bs : List Byte)
  /-- YOKE_RETRANSMIT_TIMEOUT. R465: 20 µs without progress resends every unacknowledged reliable frame. -/
  | yokeRetransmitTimeout 
  /-- YOKE_ACK_TIMER. R466: 2 µs after the first unacknowledged frame the receiver sends an ACK. -/
  | yokeAckTimer 
  /-- HEARTBEAT_SEND. R474: Every 10 µs the twin sends a HEARTBEAT. -/
  | heartbeatSend 
  /-- HEARTBEAT_MISSED. R474: A 10 µs interval without a heartbeat increments MISSED and at 5 declares a takeover. -/
  | heartbeatMissed (alive : Bool)
  /-- TWIN_ALIVE_LOSS. R474: TWIN_ALIVE_I low for 1 µs declares a takeover. -/
  | twinAliveLoss 
  /-- ALIVE_WAIT_END. R475: A PRIMARY twin proceeds with takeover after up to 20 µs waiting for TWIN_ALIVE_I to fall. -/
  | aliveWaitEnd 
  /-- MIRROR_FIXED. R476: At the fixing point nothing more is applied and adoption of the partner's objects begins. -/
  | mirrorFixed (rings : List (Nat × List (Nat × List (List Word))))
  /-- TAKEOVER_COMPLETE. R476: When adoption and resumption are done RECOVERY clears, the twin becomes PRIMARY and an event is raised. -/
  | takeoverComplete 
  /-- YOKE_LINK_CHANGE. R487: The yoke PCS gains or loses alignment, raising a yoke link change event. -/
  | yokeLinkChange (up alive : Bool)
  /-- RELAY_JOIN. R494: The admin command sends JOIN to the constructed parent. -/
  | relayJoin (pf idx : Nat) (data : Option (List Byte))
  /-- RELAY_LEAVE. R494: The admin command sends LEAVE to the parent. -/
  | relayLeave (pf idx : Nat)
  /-- BARRIER. R496: RELAY_OP barrier enters the member into a barrier. -/
  | barrier (pf idx : Nat)
  /-- BROADCAST. R496: RELAY_OP broadcast sends a payload to every member. -/
  | broadcast (pf idx : Nat) (data : Option (List Byte))
  /-- SNAPSHOT. R496: RELAY_OP snapshot asks every member to latch at one domain instant. -/
  | snapshot (pf idx : Nat)
  /-- DOMAIN_RESET. R496: RELAY_OP domain reset orders every member to reset at one instant. -/
  | domainReset (pf idx : Nat)
  /-- JOIN. R494: A received JOIN is accepted as a child or refused at 64 children. -/
  | join 
  /-- JOIN_ACK. R494: A received JOIN_ACK makes the member JOINED, or sends it to the next ancestor if refused. -/
  | joinAck 
  /-- KEEPALIVE. R495: A received KEEPALIVE refreshes the neighbour, domain time, epoch and counts. -/
  | keepalive 
  /-- LINK_ACK. R493: A received LINK_ACK releases reliable relay frames. -/
  | linkAck 
  /-- LEAVE. R494: A received LEAVE drops the child's subtree. -/
  | leave 
  /-- TREE_UPDATE. R494: A received TREE_UPDATE re-attaches the member to the named member. -/
  | treeUpdate 
  /-- BARRIER_ENTER. R496: A received BARRIER_ENTER counts a subtree as entered and forwards up when complete. -/
  | barrierEnter 
  /-- BARRIER_RELEASE. R496: A received BARRIER_RELEASE completes the barrier and forwards down. -/
  | barrierRelease 
  /-- BCAST_UP. R496: A received BCAST_UP is forwarded towards the root. -/
  | bcastUp 
  /-- BCAST_DOWN. R500: A received BCAST_DOWN writes the payload to the receive ring and forwards down. -/
  | bcastDown 
  /-- SNAP_MARKER. R496: A received SNAP_MARKER arms the latch at instant I or latches late. -/
  | snapMarker 
  /-- SNAP_DONE. R496: A received SNAP_DONE adds counts and forwards up. -/
  | snapDone 
  /-- RESET_ORDER. R496: A received RESET_ORDER is acknowledged and arms the reset at instant I. -/
  | resetOrder 
  /-- RESET_ACK. R496: A received RESET_ACK adds counts and forwards up. -/
  | resetAck 
  /-- EPOCH_SET. R499: A received EPOCH_SET changes the domain epoch from the next OP_SEQ. -/
  | epochSet 
  /-- SNAP_LATCH. R496: At domain time I the snapshot registers are latched. -/
  | snapLatch 
  /-- DOMAIN_RESET_APPLY. R496: At domain time I the member applies the reset kind if allowed, or counts a refusal. -/
  | domainResetApply (t3 t4 t5 : Nat)
  /-- RELAY_RETRANSMIT. R493: No acknowledgement within 4 × HOP_NS resends a relay frame, and a third loses the neighbour. -/
  | relayRetransmit (m : Nat)
  /-- KEEPALIVE_SEND. R494: Every KA_US a JOINED member sends KEEPALIVE to its neighbours. -/
  | keepaliveSend 
  /-- NEIGHBOUR_LOST. R494: No frame for 5 × KA_US loses the neighbour and triggers re-attach or subtree drop. -/
  | neighbourLost (m : Nat)
  /-- JOIN_RETRY. R494: No JOIN_ACK within 5 ms moves the JOIN up an ancestor, and after 1 s RELAY_JOIN fails. -/
  | joinRetry 
  /-- BARRIER_TIMEOUT. R496: A barrier's timeout makes the root release it with RELAY_LOST. -/
  | barrierTimeout (op_id : Nat)
  /-- SCRUB. R504: Background scrubbing reads, corrects and writes back memory words each period. -/
  | scrub (unit struct addr : Nat) (place : Damage) (uncorrectable : Bool)
  /-- TCAM_SCAN_VISIT. R507: The TCAM scan visits an entry and removes it on a parity failure. -/
  | tcamScanVisit (g : Nat) (good : Bool)
  /-- MC_CTL_START. R533: MC_CTL.START starts an unstarted core at MC_ENTRY. -/
  | mcCtlStart (agent n : Nat)
  /-- CORE_TIMER. R533: When device time reaches MC_TIMECMP a core timer event is raised and TIMECMP becomes all ones. -/
  | coreTimer (n : Nat)
  /-- FUSE_WRITE_IMG_KEY. R537: FUSE_CMD OP 1 blows a blank image key slot digest. -/
  | fuseWriteImgKey (agent arg : Nat) (evt : Bool)
  /-- FUSE_REVOKE_IMG_KEY. R537: FUSE_CMD OP 2 revokes an image key slot. -/
  | fuseRevokeImgKey (agent arg : Nat) (evt : Bool)
  /-- FUSE_WRITE_FW_KEY. R537: FUSE_CMD OP 3 blows a blank firmware key slot digest. -/
  | fuseWriteFwKey (agent arg : Nat) (evt : Bool)
  /-- FUSE_REVOKE_FW_KEY. R537: FUSE_CMD OP 4 revokes a firmware key slot. -/
  | fuseRevokeFwKey (agent arg : Nat) (evt : Bool)
  /-- FUSE_RAISE_IMG_SVN. R537: FUSE_CMD OP 5 raises IMG_MIN_SVN. -/
  | fuseRaiseImgSvn (agent arg : Nat) (evt : Bool)
  /-- FUSE_RAISE_FW_SVN. R537: FUSE_CMD OP 6 raises FW_MIN_SVN. -/
  | fuseRaiseFwSvn (agent arg : Nat) (evt : Bool)
  /-- FUSE_DONE. R537: A fuse operation ends with its result and an optional fuse-done event. -/
  | fuseDone (burnt : Option (List Byte))
  /-- XSPI_READ. R540: XSPI_CMD OP 1 reads flash into a core-memory buffer. -/
  | xspiRead (agent len : Nat) (evt : Bool)
  /-- XSPI_PROGRAM. R540: XSPI_CMD OP 2 programs flash from a buffer outside protected ranges. -/
  | xspiProgram (agent len : Nat) (evt : Bool)
  /-- XSPI_ERASE. R540: XSPI_CMD OP 3 erases a 64 KiB sector outside protected ranges. -/
  | xspiErase (agent len : Nat) (evt : Bool)
  /-- FLASH_DONE. R540: A flash operation ends with its result and an optional flash-done event. -/
  | flashDone (left : Option (List Byte))
  /-- I2C_READ. R542: I2C_CMD.GO with READ 1 selects the cage, checks the bus and reads bytes from the module. -/
  | i2cRead (agent inst : Nat) (cmd : Word) (sda : List Bool)
  /-- I2C_WRITE. R542: I2C_CMD.GO with READ 0 selects the cage, checks the bus and writes bytes to the module. -/
  | i2cWrite (agent inst : Nat) (cmd : Word) (sda : List Bool)
  /-- I2C_DONE. R542: An I2C transaction ends with its result and optional event. -/
  | i2cDone (inst result moved : Nat) (data : List Byte)
  /-- I2C_RESET. R544: I2C_CFG.RESET aborts the transaction at once with RESULT 5. -/
  | i2cReset (agent inst : Nat) (cfg : Word) (moved : Nat) (data : List Byte)
  /-- MODULE_PRESENCE_CHANGE. R544: A MOD_PRES_N change held 1 ms raises a presence event. -/
  | modulePresenceChange (present : Nat)
  /-- MODULE_INTERRUPT. R544: A falling MOD_INT_N raises a module-interrupt event. -/
  | moduleInterrupt (cage : Nat) (low : Bool)
  /-- SMBUS_PACKET_RECEIVED. R545: An MCTP packet to ADDR is checked for PEC and written into the receive ring. -/
  | smbusPacketReceived (addr : Nat) (data : List Byte) (pecOk : Bool)
  /-- SMB_TX_GO. R545: SMB_TX.GO sends a packet as bus master with PEC and arbitration retries. -/
  | smbTxGo (agent addr len result : Nat)
  /-- SMBUS_CLOCK_TIMEOUT. R546: SMB_SCL low for 25 ms resets the interface and drops the transfer. -/
  | smbusClockTimeout 
  /-- EXTEST. R547: JTAG instruction EXTEST drives pins from the boundary register. -/
  | extest 
  /-- SAMPLE_PRELOAD. R547: JTAG instruction SAMPLE/PRELOAD captures and loads the boundary register. -/
  | samplePreload (levels load : List (Pin × Bool))
  /-- IDCODE. R547: JTAG instruction IDCODE selects the identification register. -/
  | idcode 
  /-- CLAMP. R547: JTAG instruction CLAMP holds outputs and selects bypass. -/
  | clamp 
  /-- HIGHZ. R547: JTAG instruction HIGHZ floats outputs. -/
  | highz 
  /-- DEBUG. R548: JTAG instruction DEBUG reaches core debug when DEBUG_EN, else acts as BYPASS. -/
  | jtagDebug (halt resume : List Nat) (tdi : List Bool)
  /-- BYPASS. R547: JTAG instruction BYPASS selects the one-bit bypass register. -/
  | bypass (tdi : List Bool)
  /-- GPIO_EDGE. R549: An enabled GPIO edge sets GPIO_IRQ and raises a rate-limited event. -/
  | gpioEdge (levels : Nat)
  /-- NREFCLK_RESTORED. R438: NREFCLK returns, the region PLLs can lock again, GOV_STATUS.NO_REF clears and the forced Walk ceiling lifts. -/
  | nrefclkRestored 
  /-- SIGNAL_DETECT_CHANGE. R576: SIGNAL_DETECT of a lane rises or falls: on every lane of a port it moves TRAIN_STATE from 0 into lock acquisition, and a fall restarts receiver adaptation from its defaults. -/
  | signalDetectChange (l : Nat) (on : Bool)
  /-- LINK_FAULT_CHANGE. R74: HI_SER, LOCAL_FAULT or REMOTE_FAULT of a port changes, forcing LINK_UP to 0 or making the MAC send idles in place of frames, and releasing them when it clears. -/
  | linkFaultChange (l : Nat) (hiSer loc rem : Bool)
  /-- MIRROR_RECORD_SEND. R469: The device sends deferred mirror records into the reliable channel: loose records within 20 µs of their change, queue head records at most once per 10 µs, and decrypt SA sequence records after 100 µs. -/
  | mirrorRecordSend (qs sas : List Nat)
  /-- YOKE_DOWN_TIMEOUT. R473: A yoke that has been down for 50 µs while the twin is in HELLO or SYNC discards the partner's mirror and returns the twin to DETACHED. -/
  | yokeDownTimeout 
  /-- ASPM_L1_EXIT. R318: The link leaves L1 (L1.0, L1.1 or L1.2) to L0, by the partner's exit or once the endpoint's own exit completes, updating PM_STATE and restarting the idle timer. -/
  | aspmL1Exit (pf : Nat)
  /-- L0P_PARTNER_CHANGE. R319: The link partner requests an L0p width change, which is accepted, or answers the endpoint's request, changing CUR_WIDTH or counting in L0P_REFUSED and restarting the run. -/
  | l0pPartnerChange (pf : Nat) (width : Option Nat) (accept : Bool)
  deriving DecidableEq, Repr

end Sys2Proof
end

