-- ==== Sys2Proof/Decode.lean ====
section
/-! DEFINITION. Words that spell commands: the table of operations and events gives no row any bits, so no word spells a
command. The encoding of engine instructions is in Machine/EngIsa.lean. -/

namespace Sys2Proof

/-- The command a word of the table spells: none, for no row of the table gives bits. -/
def decodeTableWord (_nbits _w : Nat) : Option Instr := none

end Sys2Proof
end

