-- ==== Sys2Proof/Machine/Fields.lean ====
section
/-! DEFINITION. Canonical sparse stores, register fields and context fields. A store is a list of (key, value) pairs
with strictly rising keys and no entry equal to what an unlisted key reads as; registers, contexts and byte memories
are all held this way, so that equal contents are equal data. A field names its place in a 64-bit word. -/

namespace Sys2Proof.Machine

/-- What a key of a store reads as, `dflt` giving the value of an unlisted key. -/
def stGet {α : Type} (dflt : Nat → α) : List (Nat × α) → Nat → α
  | [], k => dflt k
  | (k', v) :: m, k => if k = k' then v else stGet dflt m k

/-- Insert an entry for a key the store does not list before the first greater key, unless its value is the unlisted one. -/
def stIns {α : Type} [DecidableEq α] (dflt : Nat → α) (k : Nat) (v : α) : List (Nat × α) → List (Nat × α)
  | [] => if v = dflt k then [] else [(k, v)]
  | (k', v') :: m =>
    if k < k' then (if v = dflt k then (k', v') :: m else (k, v) :: (k', v') :: m) else (k', v') :: stIns dflt k v m

/-- Return every key that `p` names to its unlisted value. -/
def stDrop {α : Type} (p : Nat → Bool) (m : List (Nat × α)) : List (Nat × α) :=
  m.filter (fun e => !p e.1)

/-- Write one key of a store, keeping the keys rising and listing no entry that equals the unlisted value. -/
def stPut {α : Type} [DecidableEq α] (dflt : Nat → α) (m : List (Nat × α)) (k : Nat) (v : α) : List (Nat × α) :=
  stIns dflt k v (stDrop (fun j => decide (j = k)) m)

/-- Write a list of values at rising keys from `k`. -/
def stPutList {α : Type} [DecidableEq α] (dflt : Nat → α) (m : List (Nat × α)) (k : Nat) : List α → List (Nat × α)
  | [] => m
  | v :: vs => stPutList dflt (stPut dflt m k v) (k + 1) vs

/-- Every key of `m` lies above `b`. -/
def stAbove {α : Type} (b : Nat) (m : List (Nat × α)) : Bool := m.all (fun e => decide (b < e.1))

/-- The canonical form: keys strictly rise, and no entry equals the unlisted value of its key. -/
def stWf {α : Type} [DecidableEq α] (dflt : Nat → α) : List (Nat × α) → Bool
  | [] => true
  | (k, v) :: m => stAbove k m && decide (v ≠ dflt k) && stWf dflt m

/-- Access types of R7. Reserved bits are no field. -/
inductive Acc where
  | ro | rw | w1c | w1s | rc | wo
  deriving DecidableEq, Repr

/-- A register field: offset of its 64-bit cell, lowest bit, width, access type (R7) and reset value. -/
structure Fld where
  off : Nat
  lo : Nat
  w : Nat
  acc : Acc
  rst : Nat
  deriving DecidableEq, Repr

/-- A register, or an array of `count` equal registers `stride` apart: the offset of its first cell and the fields of
element `i`. Part of the fixed map, never of the state. -/
structure RegArr where
  base : Nat
  stride : Nat
  count : Nat
  flds : Nat → List Fld

/-- A field of a structure tabulated word by word: word, lowest bit, width. -/
structure CFld where
  word : Nat
  lo : Nat
  w : Nat
  deriving DecidableEq, Repr

/-- The mask of a field `w` bits wide from bit `lo`. -/
def fieldMask (lo w : Nat) : Word := BitVec.ofNat 64 ((2 ^ w - 1) * 2 ^ lo)

/-- The value of bits `[lo + w - 1 : lo]` of a word. -/
def getBits (x : Word) (lo w : Nat) : Nat := x.toNat / 2 ^ lo % 2 ^ w

/-- A word with bits `[lo + w - 1 : lo]` set to `v` modulo `2 ^ w`. -/
def putBits (x : Word) (lo w v : Nat) : Word :=
  (x &&& ~~~ fieldMask lo w) ||| BitVec.ofNat 64 (v % 2 ^ w * 2 ^ lo)

/-- Field `f` of structure word list read through `g`. -/
def CFld.get (f : CFld) (g : Nat → Word) : Nat := getBits (g f.word) f.lo f.w

/-- Fields of the registers that share the cell at `off`. -/
def fieldsAt (b : List RegArr) (off : Nat) : List Fld :=
  b.flatMap (fun r =>
    if r.base ≤ off ∧ (off - r.base) % r.stride = 0 ∧ (off - r.base) / r.stride < r.count
    then r.flds ((off - r.base) / r.stride) else [])

/-- The reset value of a cell, from the reset values of its fields. -/
def cellReset (fs : List Fld) : Word :=
  fs.foldl (fun x f => putBits x f.lo f.w f.rst) 0

/-- The bits of a cell whose fields have access type `a`. -/
def accMask (fs : List Fld) (a : Acc) : Word :=
  fs.foldl (fun x f => if f.acc = a then x ||| fieldMask f.lo f.w else x) 0

/-- R7: what a cell holds after software writes `v` to the bits of `m`. RW bits take the written value, W1C bits clear
where 1 is written, W1S bits set where 1 is written; RO, RC, WO and reserved bits keep what they hold. -/
def cellWrite (fs : List Fld) (old m v : Word) : Word :=
  let rw := accMask fs .rw &&& m
  let c := accMask fs .w1c &&& m &&& v
  let s := accMask fs .w1s &&& m &&& v
  (((old &&& ~~~ rw) ||| (v &&& rw)) &&& ~~~ c) ||| s

/-- R7: what software reads of a cell that holds `x`: WO fields read 0. -/
def cellRead (fs : List Fld) (x : Word) : Word := x &&& ~~~ accMask fs .wo

/-- R7: what a cell holds after software reads the bits of `m`: RC fields clear. -/
def cellAfterRead (fs : List Fld) (x m : Word) : Word := x &&& ~~~ (accMask fs .rc &&& m)

end Sys2Proof.Machine
end

