-- ==== Sys2Proof/Machine/CtxMap.lean ====
section
/-! DEFINITION. The layouts of the structures the spec tabulates word by word (contexts, records, entries, metadata):
each field's word, lowest bit and width. Words are 64 bits (R5, R6). Written from the tables of the chapters; each line
names the rule that precedes the table. -/

namespace Sys2Proof.Machine

/-! ### image header (R36) -/

/-- R36: word 0. -/
def ImgHdr.MAGIC : CFld := ⟨0, 0, 32⟩
/-- R36: word 0. -/
def ImgHdr.HDR_SIZE : CFld := ⟨0, 32, 16⟩
/-- R36: word 0. -/
def ImgHdr.IMAGE_KIND : CFld := ⟨0, 48, 8⟩
/-- R36: word 1. -/
def ImgHdr.IMAGE_SIZE : CFld := ⟨1, 0, 32⟩
/-- R36: word 1. -/
def ImgHdr.SIG_OFFSET : CFld := ⟨1, 32, 32⟩
/-- R36: word 2. -/
def ImgHdr.STRUCT_MINOR : CFld := ⟨2, 0, 8⟩
/-- R36: word 2. -/
def ImgHdr.STRUCT_MAJOR : CFld := ⟨2, 8, 8⟩
/-- R36: word 2. -/
def ImgHdr.MIRROR_FMT_MIN : CFld := ⟨2, 16, 8⟩
/-- R36: word 2. -/
def ImgHdr.MIRROR_FMT_MAX : CFld := ⟨2, 24, 8⟩
/-- R36: word 2. -/
def ImgHdr.RELAY_EPOCH : CFld := ⟨2, 32, 16⟩
/-- R36: word 2. -/
def ImgHdr.SECTION_COUNT : CFld := ⟨2, 48, 16⟩
/-- R36: word 3. -/
def ImgHdr.REQ_FEATURES : CFld := ⟨3, 0, 64⟩
/-- R36: word 4. -/
def ImgHdr.IMAGE_SEQ : CFld := ⟨4, 0, 32⟩
/-- R36: word 4. -/
def ImgHdr.SVN : CFld := ⟨4, 32, 16⟩
/-- R36: word 5. -/
def ImgHdr.DIR_OFFSET : CFld := ⟨5, 0, 32⟩
/-- R36: word 5. -/
def ImgHdr.TARGET_HITCH : CFld := ⟨5, 32, 24⟩
/-- R36: word 6. -/
def ImgHdr.BASE_SEQ : CFld := ⟨6, 0, 32⟩
/-- R36: word 6. -/
def ImgHdr.BUILD_ID : CFld := ⟨6, 32, 32⟩
/-- R36: word 7. -/
def ImgHdr.HDR_CRC : CFld := ⟨7, 0, 32⟩
/-- R36: words 8 to 15, element `i`. -/
def ImgHdr.IMAGE_NAME (i : Nat) : CFld := ⟨8 + 1 * i, 0, 64⟩

/-! ### image directory entry (R37) -/

/-- R37: word 0. -/
def ImgDir.TYPE : CFld := ⟨0, 0, 8⟩
/-- R37: word 0. -/
def ImgDir.SEC_VER : CFld := ⟨0, 8, 8⟩
/-- R37: word 0. -/
def ImgDir.ITEM_COUNT : CFld := ⟨0, 32, 32⟩
/-- R37: word 1. -/
def ImgDir.OFFSET : CFld := ⟨1, 0, 32⟩
/-- R37: word 1. -/
def ImgDir.LENGTH : CFld := ⟨1, 32, 32⟩
/-- R37: word 2. -/
def ImgDir.SEC_CRC : CFld := ⟨2, 0, 32⟩
/-- R37: word 2. -/
def ImgDir.OWNER : CFld := ⟨2, 32, 24⟩

/-! ### hitch record of a STRUCTURE section (R39) -/

/-- R39: word 0. -/
def HitchRec.HITCH_ID : CFld := ⟨0, 0, 24⟩
/-- R39: word 0. -/
def HitchRec.KIND : CFld := ⟨0, 24, 8⟩
/-- R39: word 0. -/
def HitchRec.PARENT_ID : CFld := ⟨0, 32, 24⟩
/-- R39: word 1. -/
def HitchRec.SLOT : CFld := ⟨1, 0, 16⟩
/-- R39: word 1. -/
def HitchRec.MAX_COUNT : CFld := ⟨1, 16, 16⟩
/-- R39: word 1. -/
def HitchRec.STRIDE_LOG2 : CFld := ⟨1, 32, 6⟩
/-- R39: word 2. -/
def HitchRec.FIRST_MEMBER_OFFSET : CFld := ⟨2, 0, 48⟩
/-- R39: word 3. -/
def HitchRec.MIN_MEMBERS : CFld := ⟨3, 0, 16⟩
/-- R39: word 3. -/
def HitchRec.MAX_MEMBERS : CFld := ⟨3, 16, 16⟩
/-- R39: word 3. -/
def HitchRec.POOL_ID : CFld := ⟨3, 32, 24⟩
/-- R39: word 3. -/
def HitchRec.PIN : CFld := ⟨3, 56, 1⟩
/-- R39: word 4. -/
def HitchRec.ENABLE : CFld := ⟨4, 0, 1⟩
/-- R39: word 4. -/
def HitchRec.EVENT_SOURCE : CFld := ⟨4, 1, 13⟩
/-- R39: word 4. -/
def HitchRec.FLOOR : CFld := ⟨4, 16, 3⟩
/-- R39: word 4. -/
def HitchRec.CEIL : CFld := ⟨4, 20, 3⟩
/-- R39: word 4. -/
def HitchRec.LIST_COUNT : CFld := ⟨4, 32, 16⟩

/-! ### parse graph node (R99) -/

/-- R99: word 0. -/
def PNode.PROTO_ID : CFld := ⟨0, 0, 8⟩
/-- R99: word 0. -/
def PNode.LEN_MODE : CFld := ⟨0, 8, 2⟩
/-- R99: word 0. -/
def PNode.TERMINAL : CFld := ⟨0, 10, 1⟩
/-- R99: word 0. -/
def PNode.INNER : CFld := ⟨0, 11, 1⟩
/-- R99: word 0. -/
def PNode.CSUM_CHECK : CFld := ⟨0, 12, 1⟩
/-- R99: word 0. -/
def PNode.ROLE : CFld := ⟨0, 13, 3⟩
/-- R99: word 0. -/
def PNode.FIXED_LEN : CFld := ⟨0, 16, 8⟩
/-- R99: word 0. -/
def PNode.LEN_MIN : CFld := ⟨0, 24, 8⟩
/-- R99: word 0. -/
def PNode.LEN_OFF : CFld := ⟨0, 32, 9⟩
/-- R99: word 0. -/
def PNode.LEN_BITS : CFld := ⟨0, 41, 4⟩
/-- R99: word 0. -/
def PNode.LEN_SHIFT : CFld := ⟨0, 45, 3⟩
/-- R99: word 0. -/
def PNode.LEN_ADD : CFld := ⟨0, 48, 8⟩
/-- R99: word 1. -/
def PNode.KEY_OFF : CFld := ⟨1, 0, 9⟩
/-- R99: word 1. -/
def PNode.KEY_BITS : CFld := ⟨1, 9, 6⟩
/-- R99: word 1. -/
def PNode.FIRST_TRANS : CFld := ⟨1, 32, 16⟩
/-- R99: word 1. -/
def PNode.TRANS_COUNT : CFld := ⟨1, 48, 5⟩
/-- R99: word 2. -/
def PNode.DEFAULT_NEXT : CFld := ⟨2, 0, 16⟩
/-- R99: word 2. -/
def PNode.GUARD_OFF : CFld := ⟨2, 16, 9⟩
/-- R99: word 2. -/
def PNode.GUARD_BITS : CFld := ⟨2, 25, 5⟩
/-- R99: word 2. -/
def PNode.GUARD_NEXT : CFld := ⟨2, 32, 16⟩

/-! ### parse graph transition (R100) -/

/-- R100: word 0. -/
def PTrans.VALUE : CFld := ⟨0, 0, 32⟩
/-- R100: word 0. -/
def PTrans.NEXT : CFld := ⟨0, 32, 16⟩

/-! ### packet metadata words m0 to m7 (R107) -/

/-- R107: word 0. -/
def Meta.SRC_KIND : CFld := ⟨0, 0, 8⟩
/-- R107: word 0. -/
def Meta.SRC_ID : CFld := ⟨0, 8, 24⟩
/-- R107: word 0. -/
def Meta.CLASS : CFld := ⟨0, 32, 3⟩
/-- R107: word 0. -/
def Meta.PKT_LEN : CFld := ⟨0, 48, 16⟩
/-- R107: word 1. -/
def Meta.PARSED_LEN : CFld := ⟨1, 0, 10⟩
/-- R107: word 1. -/
def Meta.HDR_COUNT : CFld := ⟨1, 10, 6⟩
/-- R107: word 1. -/
def Meta.END_REASON : CFld := ⟨1, 16, 4⟩
/-- R107: word 1. -/
def Meta.INNER_PRESENT : CFld := ⟨1, 20, 1⟩
/-- R107: word 1. -/
def Meta.CSUM_BAD_OUTER : CFld := ⟨1, 21, 1⟩
/-- R107: word 1. -/
def Meta.CSUM_BAD_INNER : CFld := ⟨1, 22, 1⟩
/-- R107: word 1. -/
def Meta.TWO_SLOT : CFld := ⟨1, 23, 1⟩
/-- R107: word 1. -/
def Meta.RX_ERR : CFld := ⟨1, 24, 5⟩
/-- R107: word 1. -/
def Meta.TAGS_STRIPPED : CFld := ⟨1, 29, 2⟩
/-- R107: word 2. -/
def Meta.TCI_0 : CFld := ⟨2, 0, 16⟩
/-- R107: word 2. -/
def Meta.TPID_0 : CFld := ⟨2, 16, 16⟩
/-- R107: word 2. -/
def Meta.TCI_1 : CFld := ⟨2, 32, 16⟩
/-- R107: word 2. -/
def Meta.TPID_1 : CFld := ⟨2, 48, 16⟩
/-- R107: word 3. -/
def Meta.OUTER_L2_OFF : CFld := ⟨3, 0, 16⟩
/-- R107: word 3. -/
def Meta.OUTER_L3_OFF : CFld := ⟨3, 16, 16⟩
/-- R107: word 3. -/
def Meta.OUTER_L4_OFF : CFld := ⟨3, 32, 16⟩
/-- R107: word 3. -/
def Meta.TUNNEL_OFF : CFld := ⟨3, 48, 16⟩
/-- R107: word 4. -/
def Meta.INNER_L2_OFF : CFld := ⟨4, 0, 16⟩
/-- R107: word 4. -/
def Meta.INNER_L3_OFF : CFld := ⟨4, 16, 16⟩
/-- R107: word 4. -/
def Meta.INNER_L4_OFF : CFld := ⟨4, 32, 16⟩
/-- R107: word 4. -/
def Meta.APP_OFF : CFld := ⟨4, 48, 16⟩
/-- R107: word 5, PROTO_ID byte 0. -/
def Meta.PROTO0 : CFld := ⟨5, 0, 8⟩
/-- R107: word 5, PROTO_ID byte 1. -/
def Meta.PROTO1 : CFld := ⟨5, 8, 8⟩
/-- R107: word 5, PROTO_ID byte 2. -/
def Meta.PROTO2 : CFld := ⟨5, 16, 8⟩
/-- R107: word 5, PROTO_ID byte 3. -/
def Meta.PROTO3 : CFld := ⟨5, 24, 8⟩
/-- R107: word 5, PROTO_ID byte 4. -/
def Meta.PROTO4 : CFld := ⟨5, 32, 8⟩
/-- R107: word 5, PROTO_ID byte 5. -/
def Meta.PROTO5 : CFld := ⟨5, 40, 8⟩
/-- R107: word 5, PROTO_ID byte 6. -/
def Meta.PROTO6 : CFld := ⟨5, 48, 8⟩
/-- R107: word 5, PROTO_ID byte 7. -/
def Meta.PROTO7 : CFld := ⟨5, 56, 8⟩
/-- R107: word 6. -/
def Meta.TS_NS : CFld := ⟨6, 0, 32⟩
/-- R107: word 6. -/
def Meta.TS_SEC_LO : CFld := ⟨6, 32, 32⟩
/-- R107: word 7. -/
def Meta.TS_SEC_HI : CFld := ⟨7, 0, 16⟩

/-! ### packet metadata words m7 to m15 (R108) -/

/-- R108: word 7. -/
def Meta.CE_MARK : CFld := ⟨7, 16, 1⟩
/-- R108: word 8. -/
def Meta.REPL_GROUP : CFld := ⟨8, 0, 18⟩
/-- R108: word 8. -/
def Meta.REPL_PASS : CFld := ⟨8, 18, 4⟩
/-- R108: word 9. -/
def Meta.ORDER_KEY : CFld := ⟨9, 0, 8⟩
/-- R108: word 9. -/
def Meta.FLOW_HASH : CFld := ⟨9, 32, 32⟩
/-- R108: word 10. -/
def Meta.M10 : CFld := ⟨10, 0, 64⟩
/-- R108: word 11. -/
def Meta.M11 : CFld := ⟨11, 0, 64⟩
/-- R108: word 12. -/
def Meta.M12 : CFld := ⟨12, 0, 64⟩

/-! ### flow context (R119) -/

/-- R119: word 0. -/
def Flow.VALID : CFld := ⟨0, 0, 1⟩
/-- R119: word 0. -/
def Flow.HIT : CFld := ⟨0, 1, 1⟩
/-- R119: word 0. -/
def Flow.AGE_MARK : CFld := ⟨0, 2, 1⟩
/-- R119: word 0. -/
def Flow.STATIC : CFld := ⟨0, 3, 1⟩
/-- R119: word 0. -/
def Flow.PIN : CFld := ⟨0, 4, 1⟩
/-- R119: word 0. -/
def Flow.TABLE_ID : CFld := ⟨0, 16, 16⟩
/-- R119: word 0. -/
def Flow.FLOW_ID : CFld := ⟨0, 32, 24⟩
/-- R119: words 1 to 5, element `i`. -/
def Flow.KEY (i : Nat) : CFld := ⟨1 + 1 * i, 0, 64⟩
/-- R119: word 6. -/
def Flow.ACTION : CFld := ⟨6, 0, 64⟩
/-- R119: word 7. -/
def Flow.HOT_DATA : CFld := ⟨7, 0, 64⟩
/-- R119: words 8 to 31, element `i`. -/
def Flow.EXT_DATA (i : Nat) : CFld := ⟨8 + 1 * i, 0, 64⟩

/-! ### L2 table entry (R122) -/

/-- R122: word 0. -/
def L2.MAC : CFld := ⟨0, 0, 48⟩
/-- R122: word 0. -/
def L2.VID : CFld := ⟨0, 48, 12⟩
/-- R122: word 0. -/
def L2.VALID : CFld := ⟨0, 60, 1⟩
/-- R122: word 0. -/
def L2.HIT : CFld := ⟨0, 61, 1⟩
/-- R122: word 0. -/
def L2.AGE_MARK : CFld := ⟨0, 62, 1⟩
/-- R122: word 0. -/
def L2.STATIC : CFld := ⟨0, 63, 1⟩
/-- R122: word 1. -/
def L2.SLICE : CFld := ⟨1, 0, 12⟩
/-- R122: word 1. -/
def L2.DEST_PORT : CFld := ⟨1, 12, 6⟩
/-- R122: word 1. -/
def L2.DEST_QUEUE : CFld := ⟨1, 18, 18⟩
/-- R122: word 1. -/
def L2.LEARNED : CFld := ⟨1, 36, 1⟩
/-- R122: word 1. -/
def L2.DAMPED : CFld := ⟨1, 37, 1⟩
/-- R122: word 1. -/
def L2.MOVE_COUNT : CFld := ⟨1, 38, 4⟩

/-! ### LPM entry (R125) -/

/-- R125: word 0. -/
def Lpm.KEY_LO : CFld := ⟨0, 0, 64⟩
/-- R125: word 1. -/
def Lpm.KEY_MID : CFld := ⟨1, 0, 64⟩
/-- R125: word 2. -/
def Lpm.KEY_HI : CFld := ⟨2, 0, 32⟩
/-- R125: word 2. -/
def Lpm.PREFIX_LEN : CFld := ⟨2, 32, 8⟩
/-- R125: word 2. -/
def Lpm.VALID : CFld := ⟨2, 40, 1⟩
/-- R125: word 2. -/
def Lpm.HIT : CFld := ⟨2, 41, 1⟩
/-- R125: word 3. -/
def Lpm.RESULT : CFld := ⟨3, 0, 64⟩

/-! ### fast-path action word (R128) -/

/-- R128: word 0. -/
def Act.ACT : CFld := ⟨0, 0, 4⟩
/-- R128: word 0. -/
def Act.DEST : CFld := ⟨0, 4, 24⟩
/-- R128: word 0. -/
def Act.CLASS : CFld := ⟨0, 28, 3⟩
/-- R128: word 0. -/
def Act.CLASS_SET : CFld := ⟨0, 31, 1⟩
/-- R128: word 0. -/
def Act.COUNTER : CFld := ⟨0, 32, 20⟩
/-- R128: word 0. -/
def Act.COUNT_EN : CFld := ⟨0, 52, 1⟩

/-! ### table control word (R135) -/

/-- R135: word 0. -/
def TblCtl.LEARN_EN : CFld := ⟨0, 0, 1⟩
/-- R135: word 0. -/
def TblCtl.AGE_EN : CFld := ⟨0, 1, 1⟩
/-- R135: word 0. -/
def TblCtl.AGE_EVT_EN : CFld := ⟨0, 2, 1⟩
/-- R135: word 0. -/
def TblCtl.FROZEN : CFld := ⟨0, 3, 1⟩
/-- R135: word 0. -/
def TblCtl.MOVE_LIMIT : CFld := ⟨0, 8, 4⟩
/-- R135: word 0. -/
def TblCtl.COUNT : CFld := ⟨0, 32, 32⟩
/-- R135: word 1. -/
def TblCtl.AGE_PERIOD : CFld := ⟨1, 0, 32⟩

/-! ### REIN_LOG entry (R166) -/

/-- R166: word 0. -/
def ReinLog.WINDOW : CFld := ⟨0, 0, 40⟩
/-- R166: word 0. -/
def ReinLog.ACTION : CFld := ⟨0, 40, 4⟩
/-- R166: word 0. -/
def ReinLog.COUNT_AFTER : CFld := ⟨0, 48, 16⟩
/-- R166: word 1. -/
def ReinLog.HITCH : CFld := ⟨1, 0, 24⟩
/-- R166: word 1. -/
def ReinLog.PE : CFld := ⟨1, 24, 24⟩
/-- R166: word 1. -/
def ReinLog.TIME_US : CFld := ⟨1, 48, 16⟩

/-! ### table operand (R181) -/

/-- R181: word 0. -/
def TOpnd.TABLE_ID : CFld := ⟨0, 0, 16⟩
/-- R181: word 0. -/
def TOpnd.FIRST_WORD : CFld := ⟨0, 16, 5⟩
/-- R181: word 0. -/
def TOpnd.INDEX : CFld := ⟨0, 24, 32⟩
/-- R181: word 0. -/
def TOpnd.PREFIX_LEN : CFld := ⟨0, 56, 8⟩

/-! ### table status word (R182) -/

/-- R182: word 0. -/
def TStat.OK : CFld := ⟨0, 0, 1⟩
/-- R182: word 0. -/
def TStat.STATUS : CFld := ⟨0, 8, 8⟩
/-- R182: word 0. -/
def TStat.COLOUR : CFld := ⟨0, 16, 2⟩
/-- R182: word 0. -/
def TStat.INDEX : CFld := ⟨0, 24, 32⟩

/-! ### replication copy word (R210) -/

/-- R210: word 0. -/
def Copy.QUEUE : CFld := ⟨0, 0, 18⟩
/-- R210: word 0. -/
def Copy.PORT : CFld := ⟨0, 18, 6⟩
/-- R210: word 0. -/
def Copy.CLASS : CFld := ⟨0, 24, 3⟩
/-- R210: word 0. -/
def Copy.CLASS_SET : CFld := ⟨0, 27, 1⟩
/-- R210: word 0. -/
def Copy.VALID : CFld := ⟨0, 31, 1⟩

/-! ### encapsulation request m12 (R213) -/

/-- R213: word 0. -/
def Encap.TEMPLATE : CFld := ⟨0, 0, 24⟩
/-- R213: word 0. -/
def Encap.KIND : CFld := ⟨0, 24, 3⟩
/-- R213: word 0. -/
def Encap.ID : CFld := ⟨0, 32, 24⟩

/-! ### fetch tree node or leaf (R222) -/

/-- R222: word 0. -/
def Node.VALID : CFld := ⟨0, 0, 1⟩
/-- R222: word 0. -/
def Node.LEVEL : CFld := ⟨0, 1, 2⟩
/-- R222: word 0. -/
def Node.PRIO : CFld := ⟨0, 8, 3⟩
/-- R222: word 0. -/
def Node.WEIGHT : CFld := ⟨0, 16, 8⟩
/-- R222: word 0. -/
def Node.SHAPER : CFld := ⟨0, 32, 19⟩
/-- R222: word 1. -/
def Node.PARENT : CFld := ⟨1, 0, 16⟩
/-- R222: word 1. -/
def Node.SLICE : CFld := ⟨1, 16, 12⟩

/-! ### shaper (R228) -/

/-- R228: word 0. -/
def Shp.RATE : CFld := ⟨0, 0, 32⟩
/-- R228: word 0. -/
def Shp.BURST : CFld := ⟨0, 32, 24⟩
/-- R228: word 0. -/
def Shp.RESET_TO : CFld := ⟨0, 56, 1⟩
/-- R228: word 0. -/
def Shp.EN : CFld := ⟨0, 57, 1⟩
/-- R228: word 1. -/
def Shp.OVERHEAD : CFld := ⟨1, 0, 8⟩
/-- R228: word 2. -/
def Shp.TOKENS : CFld := ⟨2, 0, 48⟩
/-- R228: word 3. -/
def Shp.PEND_RATE : CFld := ⟨3, 0, 32⟩
/-- R228: word 3. -/
def Shp.PEND_BURST : CFld := ⟨3, 32, 24⟩
/-- R228: word 3. -/
def Shp.PEND : CFld := ⟨3, 63, 1⟩

/-! ### policer (R237) -/

/-- R237: word 0. -/
def Pol.CIR : CFld := ⟨0, 0, 32⟩
/-- R237: word 0. -/
def Pol.PIR : CFld := ⟨0, 32, 32⟩
/-- R237: word 1. -/
def Pol.CBS : CFld := ⟨1, 0, 24⟩
/-- R237: word 1. -/
def Pol.EBS_PBS : CFld := ⟨1, 24, 24⟩
/-- R237: word 1. -/
def Pol.MODE : CFld := ⟨1, 48, 2⟩
/-- R237: word 1. -/
def Pol.AWARE : CFld := ⟨1, 50, 1⟩
/-- R237: word 2. -/
def Pol.TC : CFld := ⟨2, 0, 32⟩
/-- R237: word 2. -/
def Pol.TE_TP : CFld := ⟨2, 32, 32⟩
/-- R237: word 3. -/
def Pol.LAST : CFld := ⟨3, 0, 48⟩

/-! ### crypto request m10 (R243) -/

/-- R243: word 10. -/
def CryReq.SA_INDEX : CFld := ⟨10, 0, 21⟩
/-- R243: word 10. -/
def CryReq.OP : CFld := ⟨10, 21, 2⟩
/-- R243: word 10. -/
def CryReq.DELIVER_FAIL : CFld := ⟨10, 23, 1⟩
/-- R243: word 10. -/
def CryReq.CRYPTO_OFF : CFld := ⟨10, 24, 9⟩
/-- R243: word 10. -/
def CryReq.CRYPTO_STATUS : CFld := ⟨10, 40, 8⟩
/-- R243: word 10. -/
def CryReq.DECRYPTED : CFld := ⟨10, 48, 1⟩
/-- R243: word 10. -/
def CryReq.KEY_PREV : CFld := ⟨10, 49, 1⟩
/-- R243: word 10. -/
def CryReq.NEXT_HDR : CFld := ⟨10, 56, 8⟩

/-! ### security association (R249) -/

/-- R249: word 0. -/
def SA.STATE : CFld := ⟨0, 0, 3⟩
/-- R249: word 0. -/
def SA.PROTO : CFld := ⟨0, 4, 2⟩
/-- R249: word 0. -/
def SA.DIR : CFld := ⟨0, 6, 1⟩
/-- R249: word 0. -/
def SA.SC : CFld := ⟨0, 7, 1⟩
/-- R249: word 0. -/
def SA.SUITE : CFld := ⟨0, 8, 3⟩
/-- R249: word 0. -/
def SA.ICV_LEN : CFld := ⟨0, 11, 2⟩
/-- R249: word 0. -/
def SA.REPLAY_EN : CFld := ⟨0, 13, 1⟩
/-- R249: word 0. -/
def SA.INTEG_ONLY : CFld := ⟨0, 14, 1⟩
/-- R249: word 0. -/
def SA.RESYNC : CFld := ⟨0, 15, 1⟩
/-- R249: word 0. -/
def SA.SLICE : CFld := ⟨0, 16, 12⟩
/-- R249: word 0. -/
def SA.AN : CFld := ⟨0, 28, 2⟩
/-- R249: word 0. -/
def SA.ESN : CFld := ⟨0, 30, 1⟩
/-- R249: word 0. -/
def SA.PREV : CFld := ⟨0, 32, 22⟩
/-- R249: word 1. -/
def SA.ID : CFld := ⟨1, 0, 32⟩
/-- R249: word 1. -/
def SA.WINDOW : CFld := ⟨1, 32, 11⟩
/-- R249: word 2. -/
def SA.SALT_LO : CFld := ⟨2, 0, 64⟩
/-- R249: word 3. -/
def SA.SALT_HI : CFld := ⟨3, 0, 32⟩
/-- R249: words 4 to 7, element `i`. -/
def SA.KEY (i : Nat) : CFld := ⟨4 + 1 * i, 0, 64⟩
/-- R249: word 8. -/
def SA.SEQ : CFld := ⟨8, 0, 64⟩
/-- R249: word 9. -/
def SA.PKTS : CFld := ⟨9, 0, 64⟩
/-- R249: word 10. -/
def SA.BYTES : CFld := ⟨10, 0, 64⟩
/-- R249: word 11. -/
def SA.SOFT_PKTS : CFld := ⟨11, 0, 64⟩
/-- R249: word 12. -/
def SA.HARD_PKTS : CFld := ⟨12, 0, 64⟩
/-- R249: word 13. -/
def SA.SCI : CFld := ⟨13, 0, 64⟩
/-- R249: word 14. -/
def SA.START : CFld := ⟨14, 0, 48⟩
/-- R249: word 15. -/
def SA.EXPIRE : CFld := ⟨15, 0, 48⟩
/-- R249: words 16 to 31, element `i`. -/
def SA.REPLAY (i : Nat) : CFld := ⟨16 + 1 * i, 0, 64⟩

/-! ### connection context (R269) -/

/-- R269: word 0. -/
def Conn.STATE : CFld := ⟨0, 0, 3⟩
/-- R269: word 0. -/
def Conn.TETHERED : CFld := ⟨0, 3, 1⟩
/-- R269: word 0. -/
def Conn.PMTU : CFld := ⟨0, 4, 2⟩
/-- R269: word 0. -/
def Conn.IPV6 : CFld := ⟨0, 6, 1⟩
/-- R269: word 0. -/
def Conn.CC_EN : CFld := ⟨0, 7, 1⟩
/-- R269: word 0. -/
def Conn.SLICE : CFld := ⟨0, 8, 12⟩
/-- R269: word 0. -/
def Conn.RETRY_LIMIT : CFld := ⟨0, 20, 3⟩
/-- R269: word 0. -/
def Conn.RNR_LIMIT : CFld := ⟨0, 23, 3⟩
/-- R269: word 0. -/
def Conn.TIMEOUT : CFld := ⟨0, 26, 5⟩
/-- R269: word 0. -/
def Conn.DEST_QPN : CFld := ⟨0, 32, 24⟩
/-- R269: word 1. -/
def Conn.SQ : CFld := ⟨1, 0, 18⟩
/-- R269: word 1. -/
def Conn.RQ : CFld := ⟨1, 18, 18⟩
/-- R269: word 1. -/
def Conn.EGRESS_PORT : CFld := ⟨1, 36, 6⟩
/-- R269: word 1. -/
def Conn.CLASS : CFld := ⟨1, 42, 3⟩
/-- R269: word 1. -/
def Conn.DSCP : CFld := ⟨1, 45, 6⟩
/-- R269: word 1. -/
def Conn.HOP_LIMIT : CFld := ⟨1, 51, 8⟩
/-- R269: word 1. -/
def Conn.RNR_WAIT : CFld := ⟨1, 59, 5⟩
/-- R269: words 2 to 3, element `i`. -/
def Conn.SRC_IP (i : Nat) : CFld := ⟨2 + 1 * i, 0, 64⟩
/-- R269: words 4 to 5, element `i`. -/
def Conn.DST_IP (i : Nat) : CFld := ⟨4 + 1 * i, 0, 64⟩
/-- R269: word 6. -/
def Conn.DST_MAC : CFld := ⟨6, 0, 48⟩
/-- R269: word 6. -/
def Conn.VID : CFld := ⟨6, 48, 12⟩
/-- R269: word 6. -/
def Conn.VLAN_EN : CFld := ⟨6, 60, 1⟩
/-- R269: word 7. -/
def Conn.UDP_SPORT : CFld := ⟨7, 0, 16⟩
/-- R269: word 7. -/
def Conn.TARGET : CFld := ⟨7, 32, 32⟩
/-- R269: word 8. -/
def Conn.SQ_PSN : CFld := ⟨8, 0, 24⟩
/-- R269: word 8. -/
def Conn.UNA_PSN : CFld := ⟨8, 32, 24⟩
/-- R269: word 9. -/
def Conn.EPSN : CFld := ⟨9, 0, 24⟩
/-- R269: word 9. -/
def Conn.MSN : CFld := ⟨9, 32, 24⟩
/-- R269: word 10. -/
def Conn.RATE : CFld := ⟨10, 0, 32⟩
/-- R269: word 10. -/
def Conn.SRTT : CFld := ⟨10, 32, 32⟩
/-- R269: word 11. -/
def Conn.TOKENS : CFld := ⟨11, 0, 48⟩
/-- R269: word 12. -/
def Conn.SHP_BURST : CFld := ⟨12, 0, 24⟩
/-- R269: word 12. -/
def Conn.RETRY_COUNT : CFld := ⟨12, 32, 3⟩
/-- R269: word 12. -/
def Conn.RNR_COUNT : CFld := ⟨12, 35, 3⟩
/-- R269: word 12. -/
def Conn.TS_OUT : CFld := ⟨12, 38, 1⟩
/-- R269: word 12. -/
def Conn.AT_MIN : CFld := ⟨12, 39, 1⟩
/-- R269: word 13. -/
def Conn.LAST_DEC : CFld := ⟨13, 0, 32⟩
/-- R269: word 13. -/
def Conn.LAST_CNP : CFld := ⟨13, 32, 32⟩
/-- R269: word 14. -/
def Conn.TS_SENT : CFld := ⟨14, 0, 64⟩
/-- R269: word 15. -/
def Conn.TS_PSN : CFld := ⟨15, 0, 24⟩
/-- R269: words 16 to 30, element `i`. -/
def Conn.PSN_FIRST (i : Nat) : CFld := ⟨16 + 2 * i, 0, 24⟩
/-- R269: words 16 to 30, element `i`. -/
def Conn.PSN_LAST (i : Nat) : CFld := ⟨16 + 2 * i, 24, 24⟩
/-- R269: words 16 to 30, element `i`. -/
def Conn.OP (i : Nat) : CFld := ⟨16 + 2 * i, 48, 4⟩
/-- R269: words 16 to 30, element `i`. -/
def Conn.VALID (i : Nat) : CFld := ⟨16 + 2 * i, 52, 1⟩
/-- R269: words 17 to 31, element `i`. -/
def Conn.TALLY (i : Nat) : CFld := ⟨17 + 2 * i, 0, 20⟩
/-- R269: words 17 to 31, element `i`. -/
def Conn.WR_TAG (i : Nat) : CFld := ⟨17 + 2 * i, 20, 32⟩

/-! ### storage session (R288) -/

/-- R288: word 0. -/
def Sess.STATE : CFld := ⟨0, 0, 2⟩
/-- R288: word 0. -/
def Sess.ROLE : CFld := ⟨0, 2, 1⟩
/-- R288: word 0. -/
def Sess.BINDING : CFld := ⟨0, 3, 1⟩
/-- R288: word 0. -/
def Sess.HDGST : CFld := ⟨0, 4, 1⟩
/-- R288: word 0. -/
def Sess.DDGST : CFld := ⟨0, 5, 1⟩
/-- R288: word 0. -/
def Sess.SLICE : CFld := ⟨0, 16, 12⟩
/-- R288: word 0. -/
def Sess.QSIZE : CFld := ⟨0, 32, 16⟩
/-- R288: word 0. -/
def Sess.SQID : CFld := ⟨0, 48, 16⟩
/-- R288: word 1. -/
def Sess.CID : CFld := ⟨1, 0, 22⟩
/-- R288: word 1. -/
def Sess.HOST_Q : CFld := ⟨1, 32, 18⟩
/-- R288: word 2. -/
def Sess.MAXH2CDATA : CFld := ⟨2, 0, 32⟩
/-- R288: word 2. -/
def Sess.RTO_MIN : CFld := ⟨2, 32, 32⟩
/-- R288: word 3. -/
def Sess.SQHD : CFld := ⟨3, 0, 16⟩
/-- R288: word 3. -/
def Sess.OUTSTANDING : CFld := ⟨3, 16, 11⟩
/-- R288: words 4 to 11, element `i`. -/
def Sess.ADDRESSING (i : Nat) : CFld := ⟨4 + 1 * i, 0, 64⟩
/-- R288: words 12 to 31, element `i`. -/
def Sess.STREAM (i : Nat) : CFld := ⟨12 + 1 * i, 0, 64⟩

/-! ### namespace record (R293) -/

/-- R293: word 0. -/
def Ns.STATE : CFld := ⟨0, 0, 2⟩
/-- R293: word 0. -/
def Ns.LBA_4K : CFld := ⟨0, 2, 1⟩
/-- R293: word 0. -/
def Ns.MD_SIZE : CFld := ⟨0, 3, 2⟩
/-- R293: word 0. -/
def Ns.PI_TYPE : CFld := ⟨0, 5, 2⟩
/-- R293: word 0. -/
def Ns.GUARD64 : CFld := ⟨0, 7, 1⟩
/-- R293: word 0. -/
def Ns.FABRIC_PI : CFld := ⟨0, 8, 1⟩
/-- R293: word 0. -/
def Ns.SLICE : CFld := ⟨0, 16, 12⟩
/-- R293: word 1. -/
def Ns.EXT_BASE : CFld := ⟨1, 0, 30⟩
/-- R293: word 1. -/
def Ns.EXT_COUNT : CFld := ⟨1, 32, 32⟩

/-! ### extent entry (R294) -/

/-- R294: word 0. -/
def Ext.MAP_STATE : CFld := ⟨0, 0, 2⟩
/-- R294: word 0. -/
def Ext.BACKEND : CFld := ⟨0, 8, 12⟩
/-- R294: word 1. -/
def Ext.BOFF : CFld := ⟨1, 0, 44⟩

/-! ### slice context (R327) -/

/-- R327: word 0. -/
def Slc.STATE : CFld := ⟨0, 0, 3⟩
/-- R327: word 0. -/
def Slc.OWNER : CFld := ⟨0, 3, 1⟩
/-- R327: word 0. -/
def Slc.SPOOF_MODE : CFld := ⟨0, 4, 2⟩
/-- R327: word 0. -/
def Slc.OTHER_OK : CFld := ⟨0, 6, 1⟩
/-- R327: word 0. -/
def Slc.PASID_EN : CFld := ⟨0, 7, 1⟩
/-- R327: word 0. -/
def Slc.ATS_EN : CFld := ⟨0, 8, 1⟩
/-- R327: word 0. -/
def Slc.RESTORED : CFld := ⟨0, 9, 1⟩
/-- R327: word 0. -/
def Slc.PASID : CFld := ⟨0, 12, 20⟩
/-- R327: word 0. -/
def Slc.SLICE_ID : CFld := ⟨0, 32, 12⟩
/-- R327: word 1. -/
def Slc.QBASE : CFld := ⟨1, 0, 18⟩
/-- R327: word 1. -/
def Slc.QCOUNT : CFld := ⟨1, 20, 19⟩
/-- R327: word 1. -/
def Slc.DEFAULT_RXQ : CFld := ⟨1, 40, 18⟩
/-- R327: word 2. -/
def Slc.MAX_CONNS : CFld := ⟨2, 0, 23⟩
/-- R327: word 2. -/
def Slc.MAX_SESSIONS : CFld := ⟨2, 24, 18⟩
/-- R327: word 2. -/
def Slc.MAX_EQS : CFld := ⟨2, 42, 11⟩
/-- R327: word 3. -/
def Slc.MAX_MWS : CFld := ⟨3, 0, 17⟩
/-- R327: word 3. -/
def Slc.ALLOW_COUNT : CFld := ⟨3, 32, 6⟩
/-- R327: word 4. -/
def Slc.USED_CONNS : CFld := ⟨4, 0, 23⟩
/-- R327: word 4. -/
def Slc.USED_SESSIONS : CFld := ⟨4, 24, 18⟩
/-- R327: word 4. -/
def Slc.USED_EQS : CFld := ⟨4, 42, 11⟩
/-- R327: word 5. -/
def Slc.USED_MWS : CFld := ⟨5, 0, 17⟩
/-- R327: word 5. -/
def Slc.USED_QUEUES : CFld := ⟨5, 32, 19⟩
/-- R327: word 6. -/
def Slc.TX_PKTS : CFld := ⟨6, 0, 64⟩
/-- R327: word 7. -/
def Slc.SPOOF_DROPS : CFld := ⟨7, 0, 64⟩
/-- R327: word 8. -/
def Slc.FROZEN_RX_DROPS : CFld := ⟨8, 0, 64⟩
/-- R327: word 9. -/
def Slc.FREEZE_GEN : CFld := ⟨9, 0, 32⟩

/-! ### allow-list entry (R334) -/

/-- R334: word 0. -/
def Allow.KIND : CFld := ⟨0, 0, 2⟩
/-- R334: word 0. -/
def Allow.ANY_VID : CFld := ⟨0, 2, 1⟩
/-- R334: word 0. -/
def Allow.VID : CFld := ⟨0, 4, 12⟩
/-- R334: word 0. -/
def Allow.PREFIX_LEN : CFld := ⟨0, 16, 8⟩
/-- R334: word 1. -/
def Allow.MAC : CFld := ⟨1, 0, 48⟩
/-- R334: words 2 to 3, element `i`. -/
def Allow.ADDR (i : Nat) : CFld := ⟨2 + 1 * i, 0, 64⟩

/-! ### memory window entry (R337) -/

/-- R337: word 0. -/
def Mw.VALID : CFld := ⟨0, 0, 1⟩
/-- R337: word 0. -/
def Mw.REMOTE_READ : CFld := ⟨0, 1, 1⟩
/-- R337: word 0. -/
def Mw.REMOTE_WRITE : CFld := ⟨0, 2, 1⟩
/-- R337: word 0. -/
def Mw.SLICE : CFld := ⟨0, 16, 12⟩
/-- R337: word 0. -/
def Mw.TAG : CFld := ⟨0, 32, 16⟩
/-- R337: word 1. -/
def Mw.CID : CFld := ⟨1, 0, 22⟩
/-- R337: word 2. -/
def Mw.BASE : CFld := ⟨2, 0, 64⟩
/-- R337: word 3. -/
def Mw.LENGTH : CFld := ⟨3, 0, 64⟩

/-! ### saved slice header (R342) -/

/-- R342: word 0. -/
def SaveHdr.MAGIC : CFld := ⟨0, 0, 32⟩
/-- R342: word 0. -/
def SaveHdr.FORMAT : CFld := ⟨0, 32, 8⟩
/-- R342: word 0. -/
def SaveHdr.RECORDS : CFld := ⟨0, 40, 8⟩
/-- R342: word 1. -/
def SaveHdr.TOTAL_LEN : CFld := ⟨1, 0, 32⟩
/-- R342: word 1. -/
def SaveHdr.SLICE : CFld := ⟨1, 32, 12⟩
/-- R342: word 2. -/
def SaveHdr.SRC_QBASE : CFld := ⟨2, 0, 18⟩
/-- R342: word 2. -/
def SaveHdr.QCOUNT : CFld := ⟨2, 20, 19⟩
/-- R342: word 3. -/
def SaveHdr.SAVE_GEN : CFld := ⟨3, 0, 32⟩
/-- R342: word 7. -/
def SaveHdr.CRC : CFld := ⟨7, 0, 32⟩

/-! ### queue context (R350) -/

/-- R350: word 0. -/
def Qctx.RING_BASE : CFld := ⟨0, 0, 64⟩
/-- R350: word 1. -/
def Qctx.AUX_BASE : CFld := ⟨1, 0, 64⟩
/-- R350: word 2. -/
def Qctx.QID : CFld := ⟨2, 0, 18⟩
/-- R350: word 2. -/
def Qctx.KIND : CFld := ⟨2, 18, 3⟩
/-- R350: word 2. -/
def Qctx.SIZE_LOG2 : CFld := ⟨2, 21, 5⟩
/-- R350: word 2. -/
def Qctx.STATE : CFld := ⟨2, 26, 4⟩
/-- R350: word 2. -/
def Qctx.COMPAT : CFld := ⟨2, 30, 1⟩
/-- R350: word 2. -/
def Qctx.ATS : CFld := ⟨2, 31, 1⟩
/-- R350: word 2. -/
def Qctx.CQ : CFld := ⟨2, 32, 18⟩
/-- R350: word 2. -/
def Qctx.SLICE : CFld := ⟨2, 50, 12⟩
/-- R350: word 2. -/
def Qctx.OWNER : CFld := ⟨2, 62, 1⟩
/-- R350: word 2. -/
def Qctx.RX_META : CFld := ⟨2, 63, 1⟩
/-- R350: word 3. -/
def Qctx.CLASS : CFld := ⟨3, 0, 3⟩
/-- R350: word 3. -/
def Qctx.SCHED_NODE : CFld := ⟨3, 3, 16⟩
/-- R350: word 3. -/
def Qctx.EQ : CFld := ⟨3, 19, 10⟩
/-- R350: word 3. -/
def Qctx.ARMED : CFld := ⟨3, 29, 1⟩
/-- R350: word 3. -/
def Qctx.HEAD : CFld := ⟨3, 32, 16⟩
/-- R350: word 3. -/
def Qctx.HEAD_PHASE : CFld := ⟨3, 48, 1⟩
/-- R350: word 3. -/
def Qctx.QERR_CODE : CFld := ⟨3, 56, 8⟩
/-- R350: word 4. -/
def Qctx.QERR_INDEX : CFld := ⟨4, 0, 16⟩
/-- R350: word 4. -/
def Qctx.TAKEN : CFld := ⟨4, 16, 16⟩
/-- R350: word 4. -/
def Qctx.ATTACHED : CFld := ⟨4, 32, 19⟩
/-- R350: word 5. -/
def Qctx.JOBS : CFld := ⟨5, 0, 64⟩
/-- R350: word 6. -/
def Qctx.DROPS : CFld := ⟨6, 0, 32⟩
/-- R350: word 7. -/
def Qctx.DATA_BASE : CFld := ⟨7, 0, 64⟩

/-! ### work entry (R357) -/

/-- R357: word 0. -/
def Went.ADDR : CFld := ⟨0, 0, 64⟩
/-- R357: word 1. -/
def Went.LEN : CFld := ⟨1, 0, 25⟩
/-- R357: word 1. -/
def Went.F : CFld := ⟨1, 25, 1⟩
/-- R357: word 1. -/
def Went.L : CFld := ⟨1, 26, 1⟩
/-- R357: word 1. -/
def Went.FENCE : CFld := ⟨1, 27, 1⟩
/-- R357: word 1. -/
def Went.WR_TAG : CFld := ⟨1, 32, 32⟩
/-- R357: word 3. -/
def Went.PHASE : CFld := ⟨3, 63, 1⟩

/-! ### TX entry (R358) -/

/-- R358: word 2. -/
def TxE.TS_TAG : CFld := ⟨2, 0, 16⟩
/-- R358: word 2. -/
def TxE.TS_REQ : CFld := ⟨2, 16, 1⟩
/-- R358: word 2. -/
def TxE.TAG_INS : CFld := ⟨2, 17, 1⟩
/-- R358: word 2. -/
def TxE.TAG_TPID : CFld := ⟨2, 18, 1⟩
/-- R358: word 2. -/
def TxE.TCI : CFld := ⟨2, 20, 16⟩
/-- R358: word 2. -/
def TxE.TSO : CFld := ⟨2, 36, 1⟩
/-- R358: word 2. -/
def TxE.ORIGIN_TS : CFld := ⟨2, 37, 1⟩
/-- R358: word 2. -/
def TxE.ORIGIN_OFF : CFld := ⟨2, 38, 9⟩
/-- R358: word 3. -/
def TxE.MSS : CFld := ⟨3, 0, 14⟩
/-- R358: word 3. -/
def TxE.L3_OFF : CFld := ⟨3, 14, 8⟩
/-- R358: word 3. -/
def TxE.L4_OFF : CFld := ⟨3, 22, 8⟩

/-! ### transmit request m11 (R358) -/

/-- R358: word 0. -/
def TxReq.TS_TAG : CFld := ⟨0, 0, 16⟩
/-- R358: word 0. -/
def TxReq.TS_REQ : CFld := ⟨0, 16, 1⟩
/-- R358: word 0. -/
def TxReq.TAG_INS : CFld := ⟨0, 17, 1⟩
/-- R358: word 0. -/
def TxReq.TAG_TPID : CFld := ⟨0, 18, 1⟩
/-- R358: word 0. -/
def TxReq.TCI : CFld := ⟨0, 20, 16⟩
/-- R358: word 0. -/
def TxReq.ONE_STEP : CFld := ⟨0, 36, 2⟩
/-- R358: word 0. -/
def TxReq.ONE_STEP_OFF : CFld := ⟨0, 38, 9⟩

/-! ### RDMA_SQ header entry (R363) -/

/-- R363: word 0. -/
def Rdma.REMOTE_VA : CFld := ⟨0, 0, 64⟩
/-- R363: word 2. -/
def Rdma.IMM : CFld := ⟨2, 0, 32⟩
/-- R363: word 2. -/
def Rdma.OP : CFld := ⟨2, 32, 4⟩
/-- R363: word 3. -/
def Rdma.RKEY : CFld := ⟨3, 0, 32⟩

/-! ### BACKEND work entry (R365) -/

/-- R365: word 0. -/
def Bkd.ADDR : CFld := ⟨0, 0, 64⟩
/-- R365: word 1. -/
def Bkd.LEN : CFld := ⟨1, 0, 25⟩
/-- R365: word 2. -/
def Bkd.LBA : CFld := ⟨2, 0, 64⟩
/-- R365: word 3. -/
def Bkd.NVME_OP : CFld := ⟨3, 0, 8⟩
/-- R365: word 3. -/
def Bkd.NLB : CFld := ⟨3, 8, 16⟩
/-- R365: word 3. -/
def Bkd.PRCHK_GUARD : CFld := ⟨3, 24, 1⟩
/-- R365: word 3. -/
def Bkd.PRCHK_APP : CFld := ⟨3, 25, 1⟩
/-- R365: word 3. -/
def Bkd.APP_TAG : CFld := ⟨3, 26, 16⟩
/-- R365: word 3. -/
def Bkd.APP_MASK : CFld := ⟨3, 42, 16⟩

/-! ### completion entry (R366) -/

/-- R366: word 0. -/
def Cpl.WR_TAG : CFld := ⟨0, 0, 32⟩
/-- R366: word 0. -/
def Cpl.QID : CFld := ⟨0, 32, 18⟩
/-- R366: word 0. -/
def Cpl.ENTRIES_M1 : CFld := ⟨0, 50, 6⟩
/-- R366: word 0. -/
def Cpl.STATUS : CFld := ⟨0, 56, 8⟩
/-- R366: word 1. -/
def Cpl.RESULT : CFld := ⟨1, 0, 32⟩
/-- R366: word 1. -/
def Cpl.INDEX : CFld := ⟨1, 32, 16⟩
/-- R366: word 1. -/
def Cpl.FLAGS : CFld := ⟨1, 48, 15⟩
/-- R366: word 1. -/
def Cpl.PHASE : CFld := ⟨1, 63, 1⟩

/-! ### admin command (R379) -/

/-- R379: word 0. -/
def Adm.BUF : CFld := ⟨0, 0, 64⟩
/-- R379: word 1. -/
def Adm.LEN : CFld := ⟨1, 0, 25⟩
/-- R379: word 2. -/
def Adm.ARG : CFld := ⟨2, 0, 64⟩
/-- R379: word 3. -/
def Adm.OPCODE : CFld := ⟨3, 0, 16⟩

/-! ### DMA descriptor (R385) -/

/-- R385: word 0. -/
def Desc.SRC : CFld := ⟨0, 0, 64⟩
/-- R385: word 1. -/
def Desc.DST : CFld := ⟨1, 0, 64⟩
/-- R385: word 2. -/
def Desc.LEN : CFld := ⟨2, 0, 27⟩
/-- R385: word 2. -/
def Desc.SRC_SPACE : CFld := ⟨2, 32, 2⟩
/-- R385: word 2. -/
def Desc.DST_SPACE : CFld := ⟨2, 34, 2⟩
/-- R385: word 2. -/
def Desc.SRC_WRAP_LOG2 : CFld := ⟨2, 36, 6⟩
/-- R385: word 2. -/
def Desc.DST_WRAP_LOG2 : CFld := ⟨2, 42, 6⟩
/-- R385: word 2. -/
def Desc.FLUSH : CFld := ⟨2, 48, 1⟩
/-- R385: word 2. -/
def Desc.EVT : CFld := ⟨2, 49, 1⟩
/-- R385: word 2. -/
def Desc.LAST : CFld := ⟨2, 50, 1⟩
/-- R385: word 2. -/
def Desc.WB : CFld := ⟨2, 51, 1⟩
/-- R385: word 2. -/
def Desc.DONE : CFld := ⟨2, 55, 1⟩
/-- R385: word 2. -/
def Desc.STATUS : CFld := ⟨2, 56, 8⟩
/-- R385: word 3. -/
def Desc.NEXT : CFld := ⟨3, 0, 64⟩

/-! ### event record (R405) -/

/-- R405: word 0. -/
def Evt.SEQ : CFld := ⟨0, 0, 64⟩
/-- R405: word 1. -/
def Evt.UNIT_ID : CFld := ⟨1, 0, 24⟩
/-- R405: word 1. -/
def Evt.KIND : CFld := ⟨1, 24, 16⟩
/-- R405: word 1. -/
def Evt.SLICE : CFld := ⟨1, 40, 12⟩
/-- R405: word 2. -/
def Evt.PAYLOAD : CFld := ⟨2, 0, 64⟩
/-- R405: word 3. -/
def Evt.MERGED : CFld := ⟨3, 0, 16⟩
/-- R405: word 3. -/
def Evt.LOST : CFld := ⟨3, 16, 1⟩
/-- R405: word 3. -/
def Evt.HELD : CFld := ⟨3, 17, 1⟩
/-- R405: word 3. -/
def Evt.PHASE : CFld := ⟨3, 63, 1⟩

/-! ### event queue context (R407) -/

/-- R407: word 0. -/
def EqC.RING_BASE : CFld := ⟨0, 0, 64⟩
/-- R407: word 1. -/
def EqC.SIZE_LOG2 : CFld := ⟨1, 0, 5⟩
/-- R407: word 1. -/
def EqC.STATE : CFld := ⟨1, 5, 2⟩
/-- R407: word 1. -/
def EqC.INT_EN : CFld := ⟨1, 7, 1⟩
/-- R407: word 1. -/
def EqC.EQ : CFld := ⟨1, 8, 10⟩
/-- R407: word 1. -/
def EqC.SLICE : CFld := ⟨1, 18, 12⟩
/-- R407: word 1. -/
def EqC.OWNER : CFld := ⟨1, 30, 1⟩
/-- R407: word 2. -/
def EqC.WR_POS : CFld := ⟨2, 0, 16⟩
/-- R407: word 2. -/
def EqC.WR_PHASE : CFld := ⟨2, 16, 1⟩
/-- R407: word 2. -/
def EqC.CONS : CFld := ⟨2, 32, 16⟩
/-- R407: word 3. -/
def EqC.RECORDS : CFld := ⟨3, 0, 64⟩

/-! ### relay peer table entry (R489) -/

/-- R489: word 0. -/
def Peer.MAC : CFld := ⟨0, 0, 48⟩
/-- R489: word 0. -/
def Peer.VID : CFld := ⟨0, 48, 12⟩
/-- R489: word 0. -/
def Peer.VLAN_EN : CFld := ⟨0, 60, 1⟩
/-- R489: word 1. -/
def Peer.PORT : CFld := ⟨1, 0, 4⟩
/-- R489: word 1. -/
def Peer.PCP : CFld := ⟨1, 4, 3⟩

/-! ### firmware header (R539) -/

/-- R539: word 0. -/
def FwHdr.MAGIC : CFld := ⟨0, 0, 32⟩
/-- R539: word 0. -/
def FwHdr.VERSION : CFld := ⟨0, 32, 32⟩
/-- R539: word 1. -/
def FwHdr.SVN : CFld := ⟨1, 0, 16⟩
/-- R539: word 1. -/
def FwHdr.KEY : CFld := ⟨1, 16, 8⟩
/-- R539: word 1. -/
def FwHdr.CODE_SIZE : CFld := ⟨1, 32, 32⟩
/-- R539: word 2. -/
def FwHdr.ENTRY : CFld := ⟨2, 0, 32⟩
/-- R539: word 2. -/
def FwHdr.SIG_OFFSET : CFld := ⟨2, 32, 32⟩

end Sys2Proof.Machine
end

