-- ==== Sys2Proof/Config.lean ====
section
/-! DEFINITION. What the spec leaves to the outside or to mathematics it only names: opaque constants, which no proof
can evaluate. `freeValue` supplies every value the spec leaves open; the rest are the cryptographic primitives and
the analogue results the spec names without giving their bits. -/

namespace Sys2Proof.Config

/-- A value the spec leaves open, one for each use: the model's step applies it to a counter it advances. -/
opaque freeValue : Nat → Word

/-- SHA-384 of a byte string, 48 bytes (R52, R322). -/
opaque sha384 : List Byte → List Byte
/-- ECDSA P-384: public key, digest, signature (R52). -/
opaque ecdsaVerify : List Byte → List Byte → List Byte → Bool
/-- ML-DSA-87 with a context string: key, message, context, signature (R52). -/
opaque mldsaVerify : List Byte → List Byte → List Byte → List Byte → Bool
/-- The memory windows a full image maps in harness space (R16, R383): base and size. The spec gives no record that
carries them (assumption 5). -/
opaque imageWindows : List Byte → List (Nat × Nat)
/-- The DRBG's next output of `n` bytes, by the count of requests served (R261, R262). -/
opaque drbgBytes : Nat → Nat → List Byte
/-- What a configuration dword of a function holds in the bits that neither the spec states nor a write stores (R305, R306,
assumption 66): set when the device was made. -/
opaque cfgFixed : Nat → Nat → BitVec 32
/-- AEAD of R246 and R249: suite, key words, nonce, additional data, plain text; gives cipher text and a 16-byte tag. -/
opaque aeadSeal : Nat → List Word → List Byte → List Byte → List Byte → List Byte
/-- AEAD opening: suite, length of the tag, key words, nonce, additional data, cipher text and tag; `none` when the tag does not
verify. -/
opaque aeadOpen : Nat → Nat → List Word → List Byte → List Byte → List Byte → Option (List Byte)
/-- The answer of the boot ROM's SPDM responder (R321 to R323) to a request, by the requests since the last reset of the function,
the measurements and the random bytes drawn for it. -/
opaque spdmAnswer : List (List Byte) → List Byte → List (List Byte) → List Byte → List Byte
/-- IDE streams that a request to the responder makes secure (R324). -/
opaque ideKeyed : List (List Byte) → List Byte → List Nat
/-- SHA-384 measurement of the boot ROM (R322). -/
opaque romMeasure : List Byte
/-- Digest of the Zarzoni firmware key that the boot ROM holds (R523). -/
opaque romFwKey : List Byte
/-- Protocol of R538 that the board's flash advertises: 0 1S-1S-1S, 1 8S-8S-8S, else 8D-8D-8D. -/
opaque flashMode : Nat
/-- What the boot ROM does in ROM_RECOVERY with an MCTP packet, by the packets before it (R546): flash offsets and bytes it
writes into FW_A or FW_B, and the packets it sends. -/
opaque romMctp : List (List Byte) → List Byte → List (Nat × List Byte) × List (List Byte)
/-- The number under which entry `i` of record `type` of a saved slice state is created again (R343): the spec gives no field
that holds it (assumption 63). -/
opaque savedIndex : List Byte → Nat → Nat → Nat
/-- Most payload bytes of a segment of a TCP session (R290), which RFC 9293 has each side announce as the stream is set up; the
spec gives no field that passes it (assumption 58). -/
opaque tcpMss : Nat
/-- Nanoseconds of one tick of the timestamps option (R290, assumption 58). -/
opaque tcpTick : Nat
/-- Bucket in bytes of the shaper that paces a TCP session (R279, R290, assumption 58). -/
opaque tcpBurst : Nat

end Sys2Proof.Config
end

