-- ==== Sys2Proof/Machine/RegMap.lean ====
section
/-! DEFINITION. The register map: every register field the spec tabulates, with its place, access type and
reset value, block by block. A cell is the 8-byte aligned 64-bit word a register lies in; a 32-bit register at an odd
word occupies the high half of its cell. Written from the register tables of the chapters; each line names the rule
that precedes the table. Reset values the tables give in words are fixed by assumption 3. -/

namespace Sys2Proof.Machine

/-! ### the unit header, at offsets 0x00 to 0x3F of every unit block -/

/-- R17: `UNIT_ID` field `UNIT_ID`. -/
def Hdr.UNIT_ID : Fld := ⟨0x0, 0, 24, .ro, 0⟩
/-- R17: `UNIT_KIND` field `KIND`. -/
def Hdr.UNIT_KIND_KIND : Fld := ⟨0x0, 32, 8, .ro, 0⟩
/-- R17: `UNIT_KIND` field `KIND_REV`. -/
def Hdr.UNIT_KIND_KIND_REV : Fld := ⟨0x0, 40, 8, .ro, 1⟩
/-- R17: `UNIT_STATUS` field `STATE`. -/
def Hdr.UNIT_STATUS_STATE : Fld := ⟨0x8, 0, 3, .ro, 1⟩
/-- R17: `UNIT_STATUS` field `ERR`. -/
def Hdr.UNIT_STATUS_ERR : Fld := ⟨0x8, 3, 1, .w1c, 0⟩
/-- R17: `UNIT_STATUS` field `EVT_HELD`. -/
def Hdr.UNIT_STATUS_EVT_HELD : Fld := ⟨0x8, 4, 1, .ro, 0⟩
/-- R17: `UNIT_STATUS` field `DB_PENDING`. -/
def Hdr.UNIT_STATUS_DB_PENDING : Fld := ⟨0x8, 5, 1, .ro, 0⟩
/-- R17: `UNIT_STATUS` field `MEMBER_ERR`. -/
def Hdr.UNIT_STATUS_MEMBER_ERR : Fld := ⟨0x8, 6, 1, .ro, 0⟩
/-- R17: `UNIT_STATUS` field `ERR_CODE`. -/
def Hdr.UNIT_STATUS_ERR_CODE : Fld := ⟨0x8, 8, 8, .ro, 0⟩
/-- R17: `UNIT_CONTROL` field `ENABLE`. -/
def Hdr.UNIT_CONTROL_ENABLE : Fld := ⟨0x8, 32, 1, .rw, 0⟩
/-- R17: `UNIT_CONTROL` field `DRAIN`. -/
def Hdr.UNIT_CONTROL_DRAIN : Fld := ⟨0x8, 33, 1, .w1s, 0⟩
/-- R17: `UNIT_CONTROL` field `UNIT_RESET`. -/
def Hdr.UNIT_CONTROL_UNIT_RESET : Fld := ⟨0x8, 34, 1, .wo, 0⟩
/-- R17: `MEMBER_COUNT` field `COUNT`. -/
def Hdr.MEMBER_COUNT_COUNT : Fld := ⟨0x10, 0, 16, .ro, 0⟩
/-- R17: `MEMBER_COUNT` field `MAX_COUNT`. -/
def Hdr.MEMBER_COUNT_MAX_COUNT : Fld := ⟨0x10, 16, 16, .ro, 0⟩
/-- R17: `MEMBER_GEN` field `GEN`. -/
def Hdr.MEMBER_GEN_GEN : Fld := ⟨0x10, 32, 32, .ro, 0⟩
/-- R17: `FIRST_MEMBER_OFFSET` field `OFFSET`. -/
def Hdr.FIRST_MEMBER_OFFSET_OFFSET : Fld := ⟨0x18, 0, 48, .ro, 0⟩
/-- R17: `MEMBER_STRIDE` field `STRIDE_LOG2`. -/
def Hdr.MEMBER_STRIDE_STRIDE_LOG2 : Fld := ⟨0x20, 0, 6, .ro, 0⟩
/-- R17: `EVENT_SOURCE` field `TARGET_EQ`. -/
def Hdr.EVENT_SOURCE_TARGET_EQ : Fld := ⟨0x20, 32, 10, .rw, 0⟩
/-- R17: `EVENT_SOURCE` field `TARGET_OWNER`. -/
def Hdr.EVENT_SOURCE_TARGET_OWNER : Fld := ⟨0x20, 42, 2, .rw, 3⟩
/-- R17: `EVENT_SOURCE` field `ENABLE`. -/
def Hdr.EVENT_SOURCE_ENABLE : Fld := ⟨0x20, 44, 1, .rw, 1⟩
/-- R17: `DOORBELL` field `RING`. -/
def Hdr.DOORBELL_RING : Fld := ⟨0x28, 0, 32, .wo, 0⟩
/-- R17: `GAIT_STATE` field `CURRENT`. -/
def Hdr.GAIT_STATE_CURRENT : Fld := ⟨0x28, 32, 3, .ro, 0⟩
/-- R17: `GAIT_STATE` field `FLOOR`. -/
def Hdr.GAIT_STATE_FLOOR : Fld := ⟨0x28, 36, 3, .rw, 0⟩
/-- R17: `GAIT_STATE` field `CEIL`. -/
def Hdr.GAIT_STATE_CEIL : Fld := ⟨0x28, 40, 3, .rw, 5⟩
/-- R17: `GAIT_STATE` field `REGION`. -/
def Hdr.GAIT_STATE_REGION : Fld := ⟨0x28, 48, 8, .ro, 255⟩
/-- R17: `KIND_BLOCK` field `ADDR`. -/
def Hdr.KIND_BLOCK_ADDR : Fld := ⟨0x30, 0, 48, .ro, 0⟩
/-- R17: `PARENT` field `ADDR`. -/
def Hdr.PARENT_ADDR : Fld := ⟨0x38, 0, 48, .ro, 0⟩

/-- Registers of the unit header, at offsets 0x00 to 0x3F of every unit block. -/
def Hdr.regs : List RegArr :=
  [ ⟨0x0, 8, 1, fun _ => [Hdr.UNIT_ID]⟩
  , ⟨0x0, 8, 1, fun _ => [Hdr.UNIT_KIND_KIND, Hdr.UNIT_KIND_KIND_REV]⟩
  , ⟨0x8, 8, 1, fun _ => [Hdr.UNIT_STATUS_STATE, Hdr.UNIT_STATUS_ERR, Hdr.UNIT_STATUS_EVT_HELD, Hdr.UNIT_STATUS_DB_PENDING, Hdr.UNIT_STATUS_MEMBER_ERR, Hdr.UNIT_STATUS_ERR_CODE]⟩
  , ⟨0x8, 8, 1, fun _ => [Hdr.UNIT_CONTROL_ENABLE, Hdr.UNIT_CONTROL_DRAIN, Hdr.UNIT_CONTROL_UNIT_RESET]⟩
  , ⟨0x10, 8, 1, fun _ => [Hdr.MEMBER_COUNT_COUNT, Hdr.MEMBER_COUNT_MAX_COUNT]⟩
  , ⟨0x10, 8, 1, fun _ => [Hdr.MEMBER_GEN_GEN]⟩
  , ⟨0x18, 8, 1, fun _ => [Hdr.FIRST_MEMBER_OFFSET_OFFSET]⟩
  , ⟨0x20, 8, 1, fun _ => [Hdr.MEMBER_STRIDE_STRIDE_LOG2]⟩
  , ⟨0x20, 8, 1, fun _ => [Hdr.EVENT_SOURCE_TARGET_EQ, Hdr.EVENT_SOURCE_TARGET_OWNER, Hdr.EVENT_SOURCE_ENABLE]⟩
  , ⟨0x28, 8, 1, fun _ => [Hdr.DOORBELL_RING]⟩
  , ⟨0x28, 8, 1, fun _ => [Hdr.GAIT_STATE_CURRENT, Hdr.GAIT_STATE_FLOOR, Hdr.GAIT_STATE_CEIL, Hdr.GAIT_STATE_REGION]⟩
  , ⟨0x30, 8, 1, fun _ => [Hdr.KIND_BLOCK_ADDR]⟩
  , ⟨0x38, 8, 1, fun _ => [Hdr.PARENT_ADDR]⟩ ]

/-! ### the root hitch's block -/

/-- R31: `ROOT_TREE_GEN` field `GEN`. -/
def Root.ROOT_TREE_GEN_GEN : Fld := ⟨0x100, 0, 64, .ro, 0⟩
/-- R31: `ROOT_LOCATE_ID` field `ID`. -/
def Root.ROOT_LOCATE_ID_ID : Fld := ⟨0x108, 0, 24, .rw, 0⟩
/-- R31: `ROOT_LOCATE_ADDR` field `ADDR`. -/
def Root.ROOT_LOCATE_ADDR_ADDR : Fld := ⟨0x110, 0, 48, .ro, 0⟩
/-- R31: `ROOT_LOCATE_ADDR` field `BUSY`. -/
def Root.ROOT_LOCATE_ADDR_BUSY : Fld := ⟨0x110, 62, 1, .ro, 0⟩
/-- R31: `ROOT_LOCATE_ADDR` field `FOUND`. -/
def Root.ROOT_LOCATE_ADDR_FOUND : Fld := ⟨0x110, 63, 1, .ro, 0⟩
/-- R55: `IMG_STATUS` field `STATE`. -/
def Root.IMG_STATUS_STATE : Fld := ⟨0x200, 0, 3, .ro, 0⟩
/-- R55: `IMG_STATUS` field `BOOT_SLOT`. -/
def Root.IMG_STATUS_BOOT_SLOT : Fld := ⟨0x200, 4, 2, .ro, 3⟩
/-- R55: `IMG_STATUS` field `LAST_RESULT`. -/
def Root.IMG_STATUS_LAST_RESULT : Fld := ⟨0x200, 8, 8, .ro, 0⟩
/-- R55: `IMG_STATUS` field `PATCH_COUNT`. -/
def Root.IMG_STATUS_PATCH_COUNT : Fld := ⟨0x200, 16, 8, .ro, 0⟩
/-- R55: `IMG_ACTIVE` field `BASE_SEQ`. -/
def Root.IMG_ACTIVE_BASE_SEQ : Fld := ⟨0x208, 0, 32, .ro, 0⟩
/-- R55: `IMG_ACTIVE` field `LAST_PATCH_SEQ`. -/
def Root.IMG_ACTIVE_LAST_PATCH_SEQ : Fld := ⟨0x208, 32, 32, .ro, 0⟩
/-- R55: `IMG_FEATURE_WORD` field `FEATURES`. -/
def Root.IMG_FEATURE_WORD_FEATURES : Fld := ⟨0x210, 0, 64, .ro, 0x7FF⟩
/-- R55: `IMG_BOOT_CTL` field `SLOT_PREF`. -/
def Root.IMG_BOOT_CTL_SLOT_PREF : Fld := ⟨0x218, 0, 2, .rw, 0⟩
/-- R55: `IMG_BOOT_CTL` field `ONE_SHOT`. -/
def Root.IMG_BOOT_CTL_ONE_SHOT : Fld := ⟨0x218, 2, 1, .rw, 0⟩
/-- R55: `IMG_FAIL_INFO` field `OFFSET`. -/
def Root.IMG_FAIL_INFO_OFFSET : Fld := ⟨0x220, 0, 32, .ro, 0⟩
/-- R55: `IMG_FAIL_INFO` field `SECTION`. -/
def Root.IMG_FAIL_INFO_SECTION : Fld := ⟨0x220, 32, 16, .ro, 0xffff⟩
/-- R55: `IMG_FAIL_INFO` field `SOURCE`. -/
def Root.IMG_FAIL_INFO_SOURCE : Fld := ⟨0x220, 48, 8, .ro, 3⟩
/-- R165: `REIN_CTL` field `FREEZE`. -/
def Root.REIN_CTL_FREEZE : Fld := ⟨0x300, 0, 1, .rw, 0⟩
/-- R165: `REIN_WINDOW` field `WINDOW`. -/
def Root.REIN_WINDOW_WINDOW : Fld := ⟨0x308, 0, 64, .ro, 0⟩
/-- R165: `REIN_LOG_WR` field `WR_COUNT`. -/
def Root.REIN_LOG_WR_WR_COUNT : Fld := ⟨0x310, 0, 32, .ro, 0⟩
/-- R231: `SERVICE_STATE` field `IN_SERVICE`. -/
def Root.SERVICE_STATE_IN_SERVICE : Fld := ⟨0x400, 0, 1, .rw, 0⟩
/-- R231: `SERVICE_STATE` field `TEST_MODE`. -/
def Root.SERVICE_STATE_TEST_MODE : Fld := ⟨0x400, 1, 1, .rw, 0⟩
/-- R231: `SERVICE_STATE` field `RECOVERY`. -/
def Root.SERVICE_STATE_RECOVERY : Fld := ⟨0x400, 2, 1, .ro, 0⟩
/-- R231: `SERVICE_STATE` field `EFFECTIVE`. -/
def Root.SERVICE_STATE_EFFECTIVE : Fld := ⟨0x400, 3, 1, .ro, 0⟩
/-- R265: `ENT_CTL` field `PRED_RESIST`. -/
def Root.ENT_CTL_PRED_RESIST : Fld := ⟨0x500, 0, 1, .rw, 0⟩
/-- R265: `ENT_CTL` field `RESTART`. -/
def Root.ENT_CTL_RESTART : Fld := ⟨0x500, 1, 1, .w1s, 0⟩
/-- R265: `ENT_STATUS` field `STATE`. -/
def Root.ENT_STATUS_STATE : Fld := ⟨0x508, 0, 3, .ro, 1⟩
/-- R265: `ENT_STATUS` field `RESTARTS`. -/
def Root.ENT_STATUS_RESTARTS : Fld := ⟨0x508, 4, 2, .ro, 0⟩
/-- R265: `ENT_STATUS` field `LAST_FAIL`. -/
def Root.ENT_STATUS_LAST_FAIL : Fld := ⟨0x508, 8, 2, .ro, 0⟩
/-- R265: `ENT_STATUS` field `WAITING`. -/
def Root.ENT_STATUS_WAITING : Fld := ⟨0x508, 16, 7, .ro, 0⟩
/-- R265: `RNG_DATA` field `VALUE`. -/
def Root.RNG_DATA_VALUE : Fld := ⟨0x510, 0, 32, .rc, 0⟩
/-- R265: `RNG_DATA` field `VALID`. -/
def Root.RNG_DATA_VALID : Fld := ⟨0x510, 63, 1, .rc, 0⟩
/-- R265: `ENT_RCT_FAIL` field `COUNT`. -/
def Root.ENT_RCT_FAIL : Fld := ⟨0x540, 0, 64, .ro, 0⟩
/-- R265: `ENT_APT_FAIL` field `COUNT`. -/
def Root.ENT_APT_FAIL : Fld := ⟨0x548, 0, 64, .ro, 0⟩
/-- R265: `ENT_RESTARTS` field `COUNT`. -/
def Root.ENT_RESTARTS : Fld := ⟨0x550, 0, 64, .ro, 0⟩
/-- R265: `ENT_SEEDS` field `COUNT`. -/
def Root.ENT_SEEDS : Fld := ⟨0x558, 0, 64, .ro, 0⟩
/-- R265: `ENT_NO_ENTROPY` field `COUNT`. -/
def Root.ENT_NO_ENTROPY : Fld := ⟨0x560, 0, 64, .ro, 0⟩
/-- R265: `ENT_DISCARDED` field `COUNT`. -/
def Root.ENT_DISCARDED : Fld := ⟨0x568, 0, 64, .ro, 0⟩
/-- R414: `EVT_GLOBAL` field `HOLD`. -/
def Root.EVT_GLOBAL_HOLD : Fld := ⟨0x600, 0, 1, .rw, 0⟩
/-- R414: `EVT_GLOBAL` field `FAST_FORCE`. -/
def Root.EVT_GLOBAL_FAST_FORCE : Fld := ⟨0x600, 1, 1, .rw, 0⟩
/-- R414: `EVT_STATUS` field `FAST`. -/
def Root.EVT_STATUS_FAST : Fld := ⟨0x608, 0, 1, .ro, 0⟩
/-- R414: `EVT_STATUS` field `PENDING`. -/
def Root.EVT_STATUS_PENDING : Fld := ⟨0x608, 16, 15, .ro, 0⟩
/-- R414: `EVT_SEQ` field `NEXT`. -/
def Root.EVT_SEQ_NEXT : Fld := ⟨0x610, 0, 64, .ro, 0⟩
/-- R414: `EVT_MC_EQ_BASE` field `ADDR`. -/
def Root.EVT_MC_EQ_BASE_ADDR : Fld := ⟨0x618, 0, 48, .ro, 0xFF0001020000⟩
/-- R414: `EVT_ACCEPTED` field `COUNT`. -/
def Root.EVT_ACCEPTED : Fld := ⟨0x640, 0, 64, .ro, 0⟩
/-- R414: `EVT_MERGED` field `COUNT`. -/
def Root.EVT_MERGED : Fld := ⟨0x648, 0, 64, .ro, 0⟩
/-- R414: `EVT_LOST` field `COUNT`. -/
def Root.EVT_LOST : Fld := ⟨0x650, 0, 64, .ro, 0⟩
/-- R414: `EVT_NO_EQ` field `COUNT`. -/
def Root.EVT_NO_EQ : Fld := ⟨0x658, 0, 64, .ro, 0⟩
/-- R414: `EVT_BAD_CONS` field `COUNT`. -/
def Root.EVT_BAD_CONS : Fld := ⟨0x660, 0, 64, .ro, 0⟩
/-- R414: `EVT_FAST_STEPS` field `COUNT`. -/
def Root.EVT_FAST_STEPS : Fld := ⟨0x668, 0, 64, .ro, 0⟩
/-- R431: `MBX_SEND_BASE` field `ADDR`. -/
def Root.MBX_SEND_BASE_ADDR : Fld := ⟨0x700, 0, 48, .ro, 0xFF0001000000⟩
/-- R431: `MBX_CTL_BASE` field `ADDR`. -/
def Root.MBX_CTL_BASE_ADDR : Fld := ⟨0x708, 0, 48, .ro, 0xFF0001010000⟩
/-- R431: `MBX_RX_BASE` field `ADDR`. -/
def Root.MBX_RX_BASE_ADDR : Fld := ⟨0x710, 0, 48, .ro, 0xFF0001014000⟩
/-- R431: `LOCK_BASE` field `ADDR`. -/
def Root.LOCK_BASE_ADDR : Fld := ⟨0x718, 0, 48, .ro, 0xFF0001018000⟩
/-- R431: `MBX_TIMEOUT` field `US`. -/
def Root.MBX_TIMEOUT_US : Fld := ⟨0x720, 0, 32, .rw, 1000⟩
/-- R431: `MBX_NONEMPTY` field `MAP`. -/
def Root.MBX_NONEMPTY_MAP : Fld := ⟨0x728, 0, 64, .ro, 0⟩
/-- R431: `MBX_SENT` field `COUNT`. -/
def Root.MBX_SENT : Fld := ⟨0x740, 0, 64, .ro, 0⟩
/-- R431: `MBX_DELIVERED` field `COUNT`. -/
def Root.MBX_DELIVERED : Fld := ⟨0x748, 0, 64, .ro, 0⟩
/-- R431: `MBX_TIMEOUTS` field `COUNT`. -/
def Root.MBX_TIMEOUTS : Fld := ⟨0x750, 0, 64, .ro, 0⟩
/-- R431: `MBX_FOREIGN` field `COUNT`. -/
def Root.MBX_FOREIGN : Fld := ⟨0x758, 0, 64, .ro, 0⟩
/-- R431: `LOCK_CONTENDED` field `COUNT`. -/
def Root.LOCK_CONTENDED : Fld := ⟨0x760, 0, 64, .ro, 0⟩
/-- R431: `LOCK_BROKEN` field `COUNT`. -/
def Root.LOCK_BROKEN : Fld := ⟨0x768, 0, 64, .ro, 0⟩
/-- R431: `LOCK_FOREIGN` field `COUNT`. -/
def Root.LOCK_FOREIGN : Fld := ⟨0x770, 0, 64, .ro, 0⟩
/-- R455: `GOV_CTL` field `FREEZE`. -/
def Root.GOV_CTL_FREEZE : Fld := ⟨0x800, 0, 1, .rw, 0⟩
/-- R455: `GOV_CTL` field `GALLOP_EN`. -/
def Root.GOV_CTL_GALLOP_EN : Fld := ⟨0x800, 1, 1, .rw, 1⟩
/-- R455: `GOV_CTL` field `STAND_DELAY`. -/
def Root.GOV_CTL_STAND_DELAY : Fld := ⟨0x800, 8, 8, .rw, 2⟩
/-- R455: `GOV_CTL` field `REST_DELAY`. -/
def Root.GOV_CTL_REST_DELAY : Fld := ⟨0x800, 16, 16, .rw, 500⟩
/-- R455: `GOV_CTL` field `DOWN_WINDOWS`. -/
def Root.GOV_CTL_DOWN_WINDOWS : Fld := ⟨0x800, 32, 8, .rw, 16⟩
/-- R455: `GOV_STATUS` field `GALLOP_OK`. -/
def Root.GOV_STATUS_GALLOP_OK : Fld := ⟨0x808, 0, 1, .ro, 1⟩
/-- R455: `GOV_STATUS` field `CREDIT_LOCK`. -/
def Root.GOV_STATUS_CREDIT_LOCK : Fld := ⟨0x808, 1, 1, .ro, 0⟩
/-- R455: `GOV_STATUS` field `SHARE_LOCK`. -/
def Root.GOV_STATUS_SHARE_LOCK : Fld := ⟨0x808, 2, 1, .ro, 0⟩
/-- R455: `GOV_STATUS` field `NO_REF`. -/
def Root.GOV_STATUS_NO_REF : Fld := ⟨0x808, 3, 1, .ro, 0⟩
/-- R455: `GALLOP_CREDIT` field `MJ`. -/
def Root.GALLOP_CREDIT_MJ : Fld := ⟨0x810, 0, 32, .ro, 1500000⟩
/-- R455: `PWR_STATUS` field `POWER`. -/
def Root.PWR_STATUS_POWER : Fld := ⟨0x818, 0, 16, .ro, 0⟩
/-- R455: `PWR_STATUS` field `HOLD_RESULT`. -/
def Root.PWR_STATUS_HOLD_RESULT : Fld := ⟨0x818, 16, 3, .ro, 0⟩
/-- R455: `PWR_CTL` field `HOLD`. -/
def Root.PWR_CTL_HOLD : Fld := ⟨0x820, 0, 1, .w1s, 0⟩
/-- R455: `GAIT_STEPS` field `COUNT`. -/
def Root.GAIT_STEPS : Fld := ⟨0x840, 0, 64, .ro, 0⟩
/-- R457: `WEAR_POWERED_S` field `S`. -/
def Root.WEAR_POWERED_S_S : Fld := ⟨0xa00, 0, 64, .ro, 0⟩
/-- R457: `WEAR_GALLOP_S` field `S`. -/
def Root.WEAR_GALLOP_S_S : Fld := ⟨0xa08, 0, 64, .ro, 0⟩
/-- R457: `WEAR_LIFE_PPM` field `PPM`. -/
def Root.WEAR_LIFE_PPM_PPM : Fld := ⟨0xa10, 0, 64, .ro, 0⟩
/-- R457: `WEAR_TJ_PEAK` field `C`. -/
def Root.WEAR_TJ_PEAK_C : Fld := ⟨0xa18, 0, 8, .ro, 0⟩
/-- R457: `WEAR_THERMTRIPS` field `COUNT`. -/
def Root.WEAR_THERMTRIPS : Fld := ⟨0xa20, 0, 64, .ro, 0⟩
/-- R457: `WEAR_CHECKPOINT` field `S`. -/
def Root.WEAR_CHECKPOINT_S : Fld := ⟨0xa28, 0, 64, .ro, 0⟩
/-- R457: `WEAR_TBIN` field `S`, element `i`. -/
def Root.WEAR_TBIN_S (i : Nat) : Fld := ⟨0xa40 + 8 * i, 0, 64, .ro, 0⟩
/-- R457: `KEEP_TIME` field `TICKS`. -/
def Root.KEEP_TIME_TICKS : Fld := ⟨0xa80, 0, 48, .ro, 0⟩
/-- R457: `KEEP_ALARM` field `TICKS`. -/
def Root.KEEP_ALARM_TICKS : Fld := ⟨0xa88, 0, 48, .rw, 0⟩
/-- R457: `KEEP_WAKE_EN` field `EN`. -/
def Root.KEEP_WAKE_EN_EN : Fld := ⟨0xa90, 0, 6, .rw, 6⟩
/-- R457: `KEEP_WAKE_CAUSE` field `CAUSE`. -/
def Root.KEEP_WAKE_CAUSE_CAUSE : Fld := ⟨0xa98, 0, 6, .rc, 0⟩
/-- R457: `KEEP_STATUS` field `XKEEP_FAIL`. -/
def Root.KEEP_STATUS_XKEEP_FAIL : Fld := ⟨0xaa0, 0, 1, .ro, 0⟩
/-- R486: `TWIN_CFG` field `EN`. -/
def Root.TWIN_CFG_EN : Fld := ⟨0xc00, 0, 1, .rw, 0⟩
/-- R486: `TWIN_CFG` field `SIDE`. -/
def Root.TWIN_CFG_SIDE : Fld := ⟨0xc00, 1, 1, .rw, 0⟩
/-- R486: `TWIN_CFG` field `TX_INVERT`. -/
def Root.TWIN_CFG_TX_INVERT : Fld := ⟨0xc00, 8, 4, .rw, 0⟩
/-- R486: `TWIN_CFG` field `RX_INVERT`. -/
def Root.TWIN_CFG_RX_INVERT : Fld := ⟨0xc00, 12, 4, .rw, 0⟩
/-- R486: `TWIN_STATUS` field `STATE`. -/
def Root.TWIN_STATUS_STATE : Fld := ⟨0xc08, 0, 3, .ro, 0⟩
/-- R486: `TWIN_STATUS` field `ROLE`. -/
def Root.TWIN_STATUS_ROLE : Fld := ⟨0xc08, 3, 1, .ro, 1⟩
/-- R486: `TWIN_STATUS` field `LINK_UP`. -/
def Root.TWIN_STATUS_LINK_UP : Fld := ⟨0xc08, 4, 1, .ro, 0⟩
/-- R486: `TWIN_STATUS` field `ALIVE_IN`. -/
def Root.TWIN_STATUS_ALIVE_IN : Fld := ⟨0xc08, 5, 1, .ro, 0⟩
/-- R486: `TWIN_STATUS` field `FMT`. -/
def Root.TWIN_STATUS_FMT : Fld := ⟨0xc08, 8, 8, .ro, 0⟩
/-- R486: `TWIN_STATUS` field `MISSED`. -/
def Root.TWIN_STATUS_MISSED : Fld := ⟨0xc08, 16, 4, .ro, 0⟩
/-- R486: `TWIN_STATUS` field `LINK_EPOCH`. -/
def Root.TWIN_STATUS_LINK_EPOCH : Fld := ⟨0xc08, 32, 16, .ro, 0⟩
/-- R486: `TWIN_MIRROR` field `OWN_QBASE`. -/
def Root.TWIN_MIRROR_OWN_QBASE : Fld := ⟨0xc10, 0, 18, .ro, 0⟩
/-- R486: `TWIN_MIRROR` field `PEER_QBASE`. -/
def Root.TWIN_MIRROR_PEER_QBASE : Fld := ⟨0xc10, 32, 18, .ro, 0⟩
/-- R486: `TWIN_SEQ` field `TX_NEXT`. -/
def Root.TWIN_SEQ_TX_NEXT : Fld := ⟨0xc18, 0, 32, .ro, 0⟩
/-- R486: `TWIN_SEQ` field `RX_EXPECTED`. -/
def Root.TWIN_SEQ_RX_EXPECTED : Fld := ⟨0xc18, 32, 32, .ro, 0⟩
/-- R486: `TWIN_LAST_TAKEOVER` field `QUEUES`. -/
def Root.TWIN_LAST_TAKEOVER_QUEUES : Fld := ⟨0xc20, 0, 16, .ro, 0⟩
/-- R486: `TWIN_LAST_TAKEOVER` field `SLICES`. -/
def Root.TWIN_LAST_TAKEOVER_SLICES : Fld := ⟨0xc20, 16, 16, .ro, 0⟩
/-- R486: `TWIN_LAST_TAKEOVER` field `DURATION_US`. -/
def Root.TWIN_LAST_TAKEOVER_DURATION_US : Fld := ⟨0xc20, 32, 16, .ro, 0⟩
/-- R486: `TWIN_LAST_TAKEOVER` field `CAUSE`. -/
def Root.TWIN_LAST_TAKEOVER_CAUSE : Fld := ⟨0xc20, 48, 4, .ro, 0⟩
/-- R486: `TWIN_LAST_CONNS` field `CONNS`. -/
def Root.TWIN_LAST_CONNS_CONNS : Fld := ⟨0xc28, 0, 23, .ro, 0⟩
/-- R486: `TWIN_PEER_OFFSET` field `NS`. -/
def Root.TWIN_PEER_OFFSET_NS : Fld := ⟨0xc30, 0, 64, .ro, 0⟩
/-- R486: `HB_MISSED` field `COUNT`. -/
def Root.HB_MISSED : Fld := ⟨0xc40, 0, 64, .ro, 0⟩
/-- R486: `CRC_ERR` field `COUNT`. -/
def Root.CRC_ERR : Fld := ⟨0xc48, 0, 64, .ro, 0⟩
/-- R486: `TWIN_STALE_DROP` field `COUNT`. -/
def Root.TWIN_STALE_DROP : Fld := ⟨0xc50, 0, 64, .ro, 0⟩
/-- R486: `TWIN_DUP_DROP` field `COUNT`. -/
def Root.TWIN_DUP_DROP : Fld := ⟨0xc58, 0, 64, .ro, 0⟩
/-- R486: `NAK_TX` field `COUNT`. -/
def Root.NAK_TX : Fld := ⟨0xc60, 0, 64, .ro, 0⟩
/-- R486: `RETX_FRAMES` field `COUNT`. -/
def Root.RETX_FRAMES : Fld := ⟨0xc68, 0, 64, .ro, 0⟩
/-- R486: `DATA_DROP` field `COUNT`. -/
def Root.DATA_DROP : Fld := ⟨0xc70, 0, 64, .ro, 0⟩
/-- R486: `BUF_FULL` field `COUNT`. -/
def Root.BUF_FULL : Fld := ⟨0xc78, 0, 64, .ro, 0⟩
/-- R486: `RECORDS_TX` field `COUNT`. -/
def Root.RECORDS_TX : Fld := ⟨0xc80, 0, 64, .ro, 0⟩
/-- R486: `ADOPT_FAIL` field `COUNT`. -/
def Root.ADOPT_FAIL : Fld := ⟨0xc88, 0, 64, .ro, 0⟩
/-- R486: `TAKEOVERS` field `COUNT`. -/
def Root.TAKEOVERS : Fld := ⟨0xc90, 0, 64, .ro, 0⟩
/-- R501: `RELAY_CFG` field `RESET1_OK`. -/
def Root.RELAY_CFG_RESET1_OK : Fld := ⟨0xd00, 0, 1, .rw, 0⟩
/-- R501: `RELAY_CFG` field `RESET2_OK`. -/
def Root.RELAY_CFG_RESET2_OK : Fld := ⟨0xd00, 1, 1, .rw, 0⟩
/-- R501: `RELAY_HOP` field `HOP_NS`. -/
def Root.RELAY_HOP_HOP_NS : Fld := ⟨0xd08, 0, 32, .rw, 1500⟩
/-- R501: `RELAY_HOP` field `KA_US`. -/
def Root.RELAY_HOP_KA_US : Fld := ⟨0xd08, 32, 16, .rw, 100⟩
/-- R501: `RELAY_STATUS` field `STATE`. -/
def Root.RELAY_STATUS_STATE : Fld := ⟨0xd10, 0, 3, .ro, 0⟩
/-- R501: `RELAY_STATUS` field `LEVEL`. -/
def Root.RELAY_STATUS_LEVEL : Fld := ⟨0xd10, 3, 2, .ro, 0⟩
/-- R501: `RELAY_STATUS` field `EPOCH`. -/
def Root.RELAY_STATUS_EPOCH : Fld := ⟨0xd10, 8, 8, .ro, 0⟩
/-- R501: `RELAY_STATUS` field `MEMBER_ID`. -/
def Root.RELAY_STATUS_MEMBER_ID : Fld := ⟨0xd10, 16, 12, .ro, 0⟩
/-- R501: `RELAY_STATUS` field `DOMAIN_ID`. -/
def Root.RELAY_STATUS_DOMAIN_ID : Fld := ⟨0xd10, 32, 16, .ro, 0⟩
/-- R501: `RELAY_STATUS` field `LIVE`. -/
def Root.RELAY_STATUS_LIVE : Fld := ⟨0xd10, 48, 13, .ro, 0⟩
/-- R501: `RELAY_STATUS` field `ACTING_ROOT`. -/
def Root.RELAY_STATUS_ACTING_ROOT : Fld := ⟨0xd10, 61, 1, .ro, 0⟩
/-- R501: `RELAY_TREE` field `PARENT`. -/
def Root.RELAY_TREE_PARENT : Fld := ⟨0xd18, 0, 12, .ro, 0⟩
/-- R501: `RELAY_TREE` field `CHILDREN`. -/
def Root.RELAY_TREE_CHILDREN : Fld := ⟨0xd18, 16, 7, .ro, 0⟩
/-- R501: `RELAY_TIME` field `DOMAIN_NS`. -/
def Root.RELAY_TIME_DOMAIN_NS : Fld := ⟨0xd20, 0, 64, .ro, 0⟩
/-- R501: `RELAY_OFFSET` field `OFFSET`. -/
def Root.RELAY_OFFSET_OFFSET : Fld := ⟨0xd28, 0, 64, .ro, 0⟩
/-- R501: `RELAY_RX_BASE` field `ADDR`. -/
def Root.RELAY_RX_BASE_ADDR : Fld := ⟨0xd30, 0, 48, .ro, 0xFF0001030000⟩
/-- R501: `RELAY_TX` field `COUNT`. -/
def Root.RELAY_TX : Fld := ⟨0xd80, 0, 64, .ro, 0⟩
/-- R501: `RELAY_RX` field `COUNT`. -/
def Root.RELAY_RX : Fld := ⟨0xd88, 0, 64, .ro, 0⟩
/-- R501: `RELAY_RETX` field `COUNT`. -/
def Root.RELAY_RETX : Fld := ⟨0xd90, 0, 64, .ro, 0⟩
/-- R501: `RELAY_DUP_DROP` field `COUNT`. -/
def Root.RELAY_DUP_DROP : Fld := ⟨0xd98, 0, 64, .ro, 0⟩
/-- R501: `RELAY_STALE_DROP` field `COUNT`. -/
def Root.RELAY_STALE_DROP : Fld := ⟨0xda0, 0, 64, .ro, 0⟩
/-- R501: `LOST_NEIGHBOURS` field `COUNT`. -/
def Root.LOST_NEIGHBOURS : Fld := ⟨0xda8, 0, 64, .ro, 0⟩
/-- R501: `BCAST_OVERWRITE` field `COUNT`. -/
def Root.BCAST_OVERWRITE : Fld := ⟨0xdb0, 0, 64, .ro, 0⟩
/-- R501: `SNAP_INFO` field `OP_SEQ`. -/
def Root.SNAP_INFO_OP_SEQ : Fld := ⟨0xe00, 0, 32, .ro, 0⟩
/-- R501: `SNAP_INFO` field `VALID`. -/
def Root.SNAP_INFO_VALID : Fld := ⟨0xe00, 32, 1, .ro, 0⟩
/-- R501: `SNAP_INFO` field `LATE`. -/
def Root.SNAP_INFO_LATE : Fld := ⟨0xe00, 33, 1, .ro, 0⟩
/-- R501: `SNAP_TIME` field `DOMAIN_NS`. -/
def Root.SNAP_TIME_DOMAIN_NS : Fld := ⟨0xe08, 0, 64, .ro, 0⟩
/-- R501: `SNAP_EVT_SEQ` field `SEQ`. -/
def Root.SNAP_EVT_SEQ_SEQ : Fld := ⟨0xe10, 0, 64, .ro, 0⟩
/-- R501: `SNAP_TREE_GEN` field `GEN`. -/
def Root.SNAP_TREE_GEN_GEN : Fld := ⟨0xe18, 0, 64, .ro, 0⟩
/-- R501: `SNAP_FREE_CELLS` field `CELLS`. -/
def Root.SNAP_FREE_CELLS_CELLS : Fld := ⟨0xe20, 0, 19, .ro, 0⟩
/-- R501: `SNAP_RX` field `COUNT`, element `i`. -/
def Root.SNAP_RX (i : Nat) : Fld := ⟨0xe40 + 16 * i, 0, 64, .ro, 0⟩
/-- R501: `SNAP_TX` field `COUNT`, element `i`. -/
def Root.SNAP_TX (i : Nat) : Fld := ⟨0xe48 + 16 * i, 0, 64, .ro, 0⟩
/-- R512: `INTEG_CFG` field `TCAM_SCAN_MS`. -/
def Root.INTEG_CFG_TCAM_SCAN_MS : Fld := ⟨0xb00, 0, 7, .rw, 10⟩
/-- R512: `INTEG_LAST` field `UNIT`. -/
def Root.INTEG_LAST_UNIT : Fld := ⟨0xb08, 0, 24, .ro, 0⟩
/-- R512: `INTEG_LAST` field `STRUCT`. -/
def Root.INTEG_LAST_STRUCT : Fld := ⟨0xb08, 24, 4, .ro, 0⟩
/-- R512: `INTEG_LAST` field `VALID`. -/
def Root.INTEG_LAST_VALID : Fld := ⟨0xb08, 63, 1, .w1c, 0⟩
/-- R512: `INTEG_ADDR` field `ADDR`. -/
def Root.INTEG_ADDR_ADDR : Fld := ⟨0xb10, 0, 48, .ro, 0⟩
/-- R512: `MESH_PARITY` field `COUNT`. -/
def Root.MESH_PARITY : Fld := ⟨0xb40, 0, 64, .ro, 0⟩
/-- R512: `HBM_CORR` field `COUNT`. -/
def Root.HBM_CORR : Fld := ⟨0xb48, 0, 64, .ro, 0⟩
/-- R512: `HBM_UNCORR` field `COUNT`. -/
def Root.HBM_UNCORR : Fld := ⟨0xb50, 0, 64, .ro, 0⟩
/-- R512: `SRAM_CORR` field `COUNT`. -/
def Root.SRAM_CORR : Fld := ⟨0xb58, 0, 64, .ro, 0⟩
/-- R512: `SRAM_UNCORR` field `COUNT`. -/
def Root.SRAM_UNCORR : Fld := ⟨0xb60, 0, 64, .ro, 0⟩
/-- R512: `TCAM_PARITY` field `COUNT`. -/
def Root.TCAM_PARITY : Fld := ⟨0xb68, 0, 64, .ro, 0⟩
/-- R512: `POISONED` field `COUNT`. -/
def Root.POISONED : Fld := ⟨0xb70, 0, 64, .ro, 0⟩
/-- R528: `RST_CTL` field `DEVICE_RESET`. -/
def Root.RST_CTL_DEVICE_RESET : Fld := ⟨0x5000, 0, 1, .w1s, 0⟩
/-- R528: `RST_CTL` field `KEY`. -/
def Root.RST_CTL_KEY : Fld := ⟨0x5000, 16, 16, .wo, 0⟩
/-- R528: `RST_CAUSE` field `LAST`. -/
def Root.RST_CAUSE_LAST : Fld := ⟨0x5008, 0, 4, .ro, 1⟩
/-- R528: `RST_CAUSE` field `THERMTRIP`. -/
def Root.RST_CAUSE_THERMTRIP : Fld := ⟨0x5008, 4, 1, .ro, 0⟩
/-- R528: `RST_CAUSE` field `RESETS`. -/
def Root.RST_CAUSE_RESETS : Fld := ⟨0x5008, 32, 32, .ro, 0⟩
/-- R528: `BOOT_STATUS` field `PHASE`. -/
def Root.BOOT_STATUS_PHASE : Fld := ⟨0x5010, 0, 4, .ro, 1⟩
/-- R528: `BOOT_STATUS` field `FW_SLOT`. -/
def Root.BOOT_STATUS_FW_SLOT : Fld := ⟨0x5010, 4, 2, .ro, 3⟩
/-- R528: `BOOT_STATUS` field `FW_RESULT`. -/
def Root.BOOT_STATUS_FW_RESULT : Fld := ⟨0x5010, 8, 8, .ro, 0⟩
/-- R528: `BOOT_TIME` field `FW_MS`. -/
def Root.BOOT_TIME_FW_MS : Fld := ⟨0x5018, 0, 16, .ro, 0⟩
/-- R528: `BOOT_TIME` field `MEM_MS`. -/
def Root.BOOT_TIME_MEM_MS : Fld := ⟨0x5018, 16, 16, .ro, 0⟩
/-- R528: `BOOT_TIME` field `IMAGE_MS`. -/
def Root.BOOT_TIME_IMAGE_MS : Fld := ⟨0x5018, 32, 16, .ro, 0⟩
/-- R528: `BOOT_TIME` field `READY_MS`. -/
def Root.BOOT_TIME_READY_MS : Fld := ⟨0x5018, 48, 16, .ro, 0⟩
/-- R537: `FUSE_CMD` field `OP`. -/
def Root.FUSE_CMD_OP : Fld := ⟨0x6200, 0, 4, .rw, 0⟩
/-- R537: `FUSE_CMD` field `GO`. -/
def Root.FUSE_CMD_GO : Fld := ⟨0x6200, 4, 1, .w1s, 0⟩
/-- R537: `FUSE_CMD` field `EVT`. -/
def Root.FUSE_CMD_EVT : Fld := ⟨0x6200, 5, 1, .rw, 0⟩
/-- R537: `FUSE_CMD` field `ARG`. -/
def Root.FUSE_CMD_ARG : Fld := ⟨0x6200, 8, 8, .rw, 0⟩
/-- R537: `FUSE_STATUS` field `BUSY`. -/
def Root.FUSE_STATUS_BUSY : Fld := ⟨0x6208, 0, 1, .ro, 0⟩
/-- R537: `FUSE_STATUS` field `RESULT`. -/
def Root.FUSE_STATUS_RESULT : Fld := ⟨0x6208, 4, 4, .ro, 0⟩
/-- R537: `FUSE_DATA` field `DATA`, element `i`. -/
def Root.FUSE_DATA_DATA (i : Nat) : Fld := ⟨0x6240 + 8 * i, 0, 64, .rw, 0⟩
/-- R540: `XSPI_CMD` field `OP`. -/
def Root.XSPI_CMD_OP : Fld := ⟨0x6300, 0, 4, .rw, 0⟩
/-- R540: `XSPI_CMD` field `GO`. -/
def Root.XSPI_CMD_GO : Fld := ⟨0x6300, 4, 1, .w1s, 0⟩
/-- R540: `XSPI_CMD` field `EVT`. -/
def Root.XSPI_CMD_EVT : Fld := ⟨0x6300, 5, 1, .rw, 0⟩
/-- R540: `XSPI_CMD` field `LEN`. -/
def Root.XSPI_CMD_LEN : Fld := ⟨0x6300, 16, 16, .rw, 0⟩
/-- R540: `XSPI_ADDR` field `ADDR`. -/
def Root.XSPI_ADDR_ADDR : Fld := ⟨0x6308, 0, 28, .rw, 0⟩
/-- R540: `XSPI_BUF` field `ADDR`. -/
def Root.XSPI_BUF_ADDR : Fld := ⟨0x6310, 0, 48, .rw, 0⟩
/-- R540: `XSPI_STATUS` field `BUSY`. -/
def Root.XSPI_STATUS_BUSY : Fld := ⟨0x6318, 0, 1, .ro, 0⟩
/-- R540: `XSPI_STATUS` field `OVERRUN`. -/
def Root.XSPI_STATUS_OVERRUN : Fld := ⟨0x6318, 1, 1, .w1c, 0⟩
/-- R540: `XSPI_STATUS` field `RESULT`. -/
def Root.XSPI_STATUS_RESULT : Fld := ⟨0x6318, 4, 4, .ro, 0⟩
/-- R540: `XSPI_STATUS` field `MODE`. -/
def Root.XSPI_STATUS_MODE : Fld := ⟨0x6318, 8, 3, .ro, 0⟩
/-- R544: `MOD_CTL` field `RESET`. -/
def Root.MOD_CTL_RESET : Fld := ⟨0x6800, 0, 16, .rw, 0⟩
/-- R544: `MOD_CTL` field `LPMODE`. -/
def Root.MOD_CTL_LPMODE : Fld := ⟨0x6800, 16, 16, .rw, 0xffff⟩
/-- R544: `MOD_STATUS` field `PRESENT`. -/
def Root.MOD_STATUS_PRESENT : Fld := ⟨0x6808, 0, 16, .ro, 0⟩
/-- R544: `MOD_STATUS` field `INT`. -/
def Root.MOD_STATUS_INT : Fld := ⟨0x6808, 16, 16, .ro, 0⟩
/-- R546: `SMB_CFG` field `ADDR`. -/
def Root.SMB_CFG_ADDR : Fld := ⟨0x6900, 0, 7, .rw, 0x64⟩
/-- R546: `SMB_CFG` field `EN`. -/
def Root.SMB_CFG_EN : Fld := ⟨0x6900, 7, 1, .rw, 1⟩
/-- R546: `SMB_CFG` field `SPEED`. -/
def Root.SMB_CFG_SPEED : Fld := ⟨0x6900, 8, 1, .rw, 0⟩
/-- R546: `SMB_CFG` field `ALERT`. -/
def Root.SMB_CFG_ALERT : Fld := ⟨0x6900, 9, 1, .rw, 0⟩
/-- R546: `SMB_RX` field `RING`. -/
def Root.SMB_RX_RING : Fld := ⟨0x6908, 0, 48, .rw, 0⟩
/-- R546: `SMB_STATUS` field `WR`. -/
def Root.SMB_STATUS_WR : Fld := ⟨0x6910, 0, 4, .ro, 0⟩
/-- R546: `SMB_STATUS` field `RD`. -/
def Root.SMB_STATUS_RD : Fld := ⟨0x6910, 4, 4, .rw, 0⟩
/-- R546: `SMB_STATUS` field `TX_BUSY`. -/
def Root.SMB_STATUS_TX_BUSY : Fld := ⟨0x6910, 8, 1, .ro, 0⟩
/-- R546: `SMB_STATUS` field `TX_RESULT`. -/
def Root.SMB_STATUS_TX_RESULT : Fld := ⟨0x6910, 12, 4, .ro, 0⟩
/-- R546: `SMB_TX` field `ADDR`. -/
def Root.SMB_TX_ADDR : Fld := ⟨0x6918, 0, 48, .rw, 0⟩
/-- R546: `SMB_TX` field `LEN`. -/
def Root.SMB_TX_LEN : Fld := ⟨0x6918, 48, 8, .rw, 0⟩
/-- R546: `SMB_TX` field `GO`. -/
def Root.SMB_TX_GO : Fld := ⟨0x6918, 63, 1, .w1s, 0⟩
/-- R549: `GPIO_DIR` field `OUT_EN`. -/
def Root.GPIO_DIR_OUT_EN : Fld := ⟨0x6a00, 0, 16, .rw, 0⟩
/-- R549: `GPIO_OUT` field `LEVEL`. -/
def Root.GPIO_OUT_LEVEL : Fld := ⟨0x6a08, 0, 16, .rw, 0⟩
/-- R549: `GPIO_OD` field `OD`. -/
def Root.GPIO_OD_OD : Fld := ⟨0x6a10, 0, 16, .rw, 0⟩
/-- R549: `GPIO_IN` field `LEVEL`. -/
def Root.GPIO_IN_LEVEL : Fld := ⟨0x6a18, 0, 16, .ro, 0⟩
/-- R549: `GPIO_EDGE` field `RISE`. -/
def Root.GPIO_EDGE_RISE : Fld := ⟨0x6a20, 0, 16, .rw, 0⟩
/-- R549: `GPIO_EDGE` field `FALL`. -/
def Root.GPIO_EDGE_FALL : Fld := ⟨0x6a20, 16, 16, .rw, 0⟩
/-- R549: `GPIO_IRQ` field `SEEN`. -/
def Root.GPIO_IRQ_SEEN : Fld := ⟨0x6a28, 0, 16, .w1c, 0⟩
/-- R549: `GPIO_WAKE_EN` field `EN`. -/
def Root.GPIO_WAKE_EN_EN : Fld := ⟨0xaa8, 0, 16, .rw, 0⟩

/-- Registers of the root hitch's block, part 0. -/
def Root.regs0 : List RegArr :=
  [ ⟨0x100, 8, 1, fun _ => [Root.ROOT_TREE_GEN_GEN]⟩
  , ⟨0x108, 8, 1, fun _ => [Root.ROOT_LOCATE_ID_ID]⟩
  , ⟨0x110, 8, 1, fun _ => [Root.ROOT_LOCATE_ADDR_ADDR, Root.ROOT_LOCATE_ADDR_BUSY, Root.ROOT_LOCATE_ADDR_FOUND]⟩
  , ⟨0x200, 8, 1, fun _ => [Root.IMG_STATUS_STATE, Root.IMG_STATUS_BOOT_SLOT, Root.IMG_STATUS_LAST_RESULT, Root.IMG_STATUS_PATCH_COUNT]⟩
  , ⟨0x208, 8, 1, fun _ => [Root.IMG_ACTIVE_BASE_SEQ, Root.IMG_ACTIVE_LAST_PATCH_SEQ]⟩
  , ⟨0x210, 8, 1, fun _ => [Root.IMG_FEATURE_WORD_FEATURES]⟩
  , ⟨0x218, 8, 1, fun _ => [Root.IMG_BOOT_CTL_SLOT_PREF, Root.IMG_BOOT_CTL_ONE_SHOT]⟩
  , ⟨0x220, 8, 1, fun _ => [Root.IMG_FAIL_INFO_OFFSET, Root.IMG_FAIL_INFO_SECTION, Root.IMG_FAIL_INFO_SOURCE]⟩
  , ⟨0x300, 8, 1, fun _ => [Root.REIN_CTL_FREEZE]⟩
  , ⟨0x308, 8, 1, fun _ => [Root.REIN_WINDOW_WINDOW]⟩
  , ⟨0x310, 8, 1, fun _ => [Root.REIN_LOG_WR_WR_COUNT]⟩
  , ⟨0x400, 8, 1, fun _ => [Root.SERVICE_STATE_IN_SERVICE, Root.SERVICE_STATE_TEST_MODE, Root.SERVICE_STATE_RECOVERY, Root.SERVICE_STATE_EFFECTIVE]⟩
  , ⟨0x500, 8, 1, fun _ => [Root.ENT_CTL_PRED_RESIST, Root.ENT_CTL_RESTART]⟩
  , ⟨0x508, 8, 1, fun _ => [Root.ENT_STATUS_STATE, Root.ENT_STATUS_RESTARTS, Root.ENT_STATUS_LAST_FAIL, Root.ENT_STATUS_WAITING]⟩
  , ⟨0x510, 8, 1, fun _ => [Root.RNG_DATA_VALUE, Root.RNG_DATA_VALID]⟩
  , ⟨0x540, 8, 1, fun _ => [Root.ENT_RCT_FAIL]⟩
  , ⟨0x548, 8, 1, fun _ => [Root.ENT_APT_FAIL]⟩
  , ⟨0x550, 8, 1, fun _ => [Root.ENT_RESTARTS]⟩
  , ⟨0x558, 8, 1, fun _ => [Root.ENT_SEEDS]⟩
  , ⟨0x560, 8, 1, fun _ => [Root.ENT_NO_ENTROPY]⟩ ]
/-- Registers of the root hitch's block, part 1. -/
def Root.regs1 : List RegArr :=
  [ ⟨0x568, 8, 1, fun _ => [Root.ENT_DISCARDED]⟩
  , ⟨0x600, 8, 1, fun _ => [Root.EVT_GLOBAL_HOLD, Root.EVT_GLOBAL_FAST_FORCE]⟩
  , ⟨0x608, 8, 1, fun _ => [Root.EVT_STATUS_FAST, Root.EVT_STATUS_PENDING]⟩
  , ⟨0x610, 8, 1, fun _ => [Root.EVT_SEQ_NEXT]⟩
  , ⟨0x618, 8, 1, fun _ => [Root.EVT_MC_EQ_BASE_ADDR]⟩
  , ⟨0x640, 8, 1, fun _ => [Root.EVT_ACCEPTED]⟩
  , ⟨0x648, 8, 1, fun _ => [Root.EVT_MERGED]⟩
  , ⟨0x650, 8, 1, fun _ => [Root.EVT_LOST]⟩
  , ⟨0x658, 8, 1, fun _ => [Root.EVT_NO_EQ]⟩
  , ⟨0x660, 8, 1, fun _ => [Root.EVT_BAD_CONS]⟩
  , ⟨0x668, 8, 1, fun _ => [Root.EVT_FAST_STEPS]⟩
  , ⟨0x700, 8, 1, fun _ => [Root.MBX_SEND_BASE_ADDR]⟩
  , ⟨0x708, 8, 1, fun _ => [Root.MBX_CTL_BASE_ADDR]⟩
  , ⟨0x710, 8, 1, fun _ => [Root.MBX_RX_BASE_ADDR]⟩
  , ⟨0x718, 8, 1, fun _ => [Root.LOCK_BASE_ADDR]⟩
  , ⟨0x720, 8, 1, fun _ => [Root.MBX_TIMEOUT_US]⟩
  , ⟨0x728, 8, 1, fun _ => [Root.MBX_NONEMPTY_MAP]⟩
  , ⟨0x740, 8, 1, fun _ => [Root.MBX_SENT]⟩
  , ⟨0x748, 8, 1, fun _ => [Root.MBX_DELIVERED]⟩
  , ⟨0x750, 8, 1, fun _ => [Root.MBX_TIMEOUTS]⟩ ]
/-- Registers of the root hitch's block, part 2. -/
def Root.regs2 : List RegArr :=
  [ ⟨0x758, 8, 1, fun _ => [Root.MBX_FOREIGN]⟩
  , ⟨0x760, 8, 1, fun _ => [Root.LOCK_CONTENDED]⟩
  , ⟨0x768, 8, 1, fun _ => [Root.LOCK_BROKEN]⟩
  , ⟨0x770, 8, 1, fun _ => [Root.LOCK_FOREIGN]⟩
  , ⟨0x800, 8, 1, fun _ => [Root.GOV_CTL_FREEZE, Root.GOV_CTL_GALLOP_EN, Root.GOV_CTL_STAND_DELAY, Root.GOV_CTL_REST_DELAY, Root.GOV_CTL_DOWN_WINDOWS]⟩
  , ⟨0x808, 8, 1, fun _ => [Root.GOV_STATUS_GALLOP_OK, Root.GOV_STATUS_CREDIT_LOCK, Root.GOV_STATUS_SHARE_LOCK, Root.GOV_STATUS_NO_REF]⟩
  , ⟨0x810, 8, 1, fun _ => [Root.GALLOP_CREDIT_MJ]⟩
  , ⟨0x818, 8, 1, fun _ => [Root.PWR_STATUS_POWER, Root.PWR_STATUS_HOLD_RESULT]⟩
  , ⟨0x820, 8, 1, fun _ => [Root.PWR_CTL_HOLD]⟩
  , ⟨0x840, 8, 1, fun _ => [Root.GAIT_STEPS]⟩
  , ⟨0xa00, 8, 1, fun _ => [Root.WEAR_POWERED_S_S]⟩
  , ⟨0xa08, 8, 1, fun _ => [Root.WEAR_GALLOP_S_S]⟩
  , ⟨0xa10, 8, 1, fun _ => [Root.WEAR_LIFE_PPM_PPM]⟩
  , ⟨0xa18, 8, 1, fun _ => [Root.WEAR_TJ_PEAK_C]⟩
  , ⟨0xa20, 8, 1, fun _ => [Root.WEAR_THERMTRIPS]⟩
  , ⟨0xa28, 8, 1, fun _ => [Root.WEAR_CHECKPOINT_S]⟩
  , ⟨0xa40, 8, 8, fun i => [Root.WEAR_TBIN_S i]⟩
  , ⟨0xa80, 8, 1, fun _ => [Root.KEEP_TIME_TICKS]⟩
  , ⟨0xa88, 8, 1, fun _ => [Root.KEEP_ALARM_TICKS]⟩
  , ⟨0xa90, 8, 1, fun _ => [Root.KEEP_WAKE_EN_EN]⟩ ]
/-- Registers of the root hitch's block, part 3. -/
def Root.regs3 : List RegArr :=
  [ ⟨0xa98, 8, 1, fun _ => [Root.KEEP_WAKE_CAUSE_CAUSE]⟩
  , ⟨0xaa0, 8, 1, fun _ => [Root.KEEP_STATUS_XKEEP_FAIL]⟩
  , ⟨0xc00, 8, 1, fun _ => [Root.TWIN_CFG_EN, Root.TWIN_CFG_SIDE, Root.TWIN_CFG_TX_INVERT, Root.TWIN_CFG_RX_INVERT]⟩
  , ⟨0xc08, 8, 1, fun _ => [Root.TWIN_STATUS_STATE, Root.TWIN_STATUS_ROLE, Root.TWIN_STATUS_LINK_UP, Root.TWIN_STATUS_ALIVE_IN, Root.TWIN_STATUS_FMT, Root.TWIN_STATUS_MISSED, Root.TWIN_STATUS_LINK_EPOCH]⟩
  , ⟨0xc10, 8, 1, fun _ => [Root.TWIN_MIRROR_OWN_QBASE, Root.TWIN_MIRROR_PEER_QBASE]⟩
  , ⟨0xc18, 8, 1, fun _ => [Root.TWIN_SEQ_TX_NEXT, Root.TWIN_SEQ_RX_EXPECTED]⟩
  , ⟨0xc20, 8, 1, fun _ => [Root.TWIN_LAST_TAKEOVER_QUEUES, Root.TWIN_LAST_TAKEOVER_SLICES, Root.TWIN_LAST_TAKEOVER_DURATION_US, Root.TWIN_LAST_TAKEOVER_CAUSE]⟩
  , ⟨0xc28, 8, 1, fun _ => [Root.TWIN_LAST_CONNS_CONNS]⟩
  , ⟨0xc30, 8, 1, fun _ => [Root.TWIN_PEER_OFFSET_NS]⟩
  , ⟨0xc40, 8, 1, fun _ => [Root.HB_MISSED]⟩
  , ⟨0xc48, 8, 1, fun _ => [Root.CRC_ERR]⟩
  , ⟨0xc50, 8, 1, fun _ => [Root.TWIN_STALE_DROP]⟩
  , ⟨0xc58, 8, 1, fun _ => [Root.TWIN_DUP_DROP]⟩
  , ⟨0xc60, 8, 1, fun _ => [Root.NAK_TX]⟩
  , ⟨0xc68, 8, 1, fun _ => [Root.RETX_FRAMES]⟩
  , ⟨0xc70, 8, 1, fun _ => [Root.DATA_DROP]⟩
  , ⟨0xc78, 8, 1, fun _ => [Root.BUF_FULL]⟩
  , ⟨0xc80, 8, 1, fun _ => [Root.RECORDS_TX]⟩
  , ⟨0xc88, 8, 1, fun _ => [Root.ADOPT_FAIL]⟩
  , ⟨0xc90, 8, 1, fun _ => [Root.TAKEOVERS]⟩ ]
/-- Registers of the root hitch's block, part 4. -/
def Root.regs4 : List RegArr :=
  [ ⟨0xd00, 8, 1, fun _ => [Root.RELAY_CFG_RESET1_OK, Root.RELAY_CFG_RESET2_OK]⟩
  , ⟨0xd08, 8, 1, fun _ => [Root.RELAY_HOP_HOP_NS, Root.RELAY_HOP_KA_US]⟩
  , ⟨0xd10, 8, 1, fun _ => [Root.RELAY_STATUS_STATE, Root.RELAY_STATUS_LEVEL, Root.RELAY_STATUS_EPOCH, Root.RELAY_STATUS_MEMBER_ID, Root.RELAY_STATUS_DOMAIN_ID, Root.RELAY_STATUS_LIVE, Root.RELAY_STATUS_ACTING_ROOT]⟩
  , ⟨0xd18, 8, 1, fun _ => [Root.RELAY_TREE_PARENT, Root.RELAY_TREE_CHILDREN]⟩
  , ⟨0xd20, 8, 1, fun _ => [Root.RELAY_TIME_DOMAIN_NS]⟩
  , ⟨0xd28, 8, 1, fun _ => [Root.RELAY_OFFSET_OFFSET]⟩
  , ⟨0xd30, 8, 1, fun _ => [Root.RELAY_RX_BASE_ADDR]⟩
  , ⟨0xd80, 8, 1, fun _ => [Root.RELAY_TX]⟩
  , ⟨0xd88, 8, 1, fun _ => [Root.RELAY_RX]⟩
  , ⟨0xd90, 8, 1, fun _ => [Root.RELAY_RETX]⟩
  , ⟨0xd98, 8, 1, fun _ => [Root.RELAY_DUP_DROP]⟩
  , ⟨0xda0, 8, 1, fun _ => [Root.RELAY_STALE_DROP]⟩
  , ⟨0xda8, 8, 1, fun _ => [Root.LOST_NEIGHBOURS]⟩
  , ⟨0xdb0, 8, 1, fun _ => [Root.BCAST_OVERWRITE]⟩
  , ⟨0xe00, 8, 1, fun _ => [Root.SNAP_INFO_OP_SEQ, Root.SNAP_INFO_VALID, Root.SNAP_INFO_LATE]⟩
  , ⟨0xe08, 8, 1, fun _ => [Root.SNAP_TIME_DOMAIN_NS]⟩
  , ⟨0xe10, 8, 1, fun _ => [Root.SNAP_EVT_SEQ_SEQ]⟩
  , ⟨0xe18, 8, 1, fun _ => [Root.SNAP_TREE_GEN_GEN]⟩
  , ⟨0xe20, 8, 1, fun _ => [Root.SNAP_FREE_CELLS_CELLS]⟩
  , ⟨0xe40, 16, 16, fun i => [Root.SNAP_RX i]⟩ ]
/-- Registers of the root hitch's block, part 5. -/
def Root.regs5 : List RegArr :=
  [ ⟨0xe48, 16, 16, fun i => [Root.SNAP_TX i]⟩
  , ⟨0xb00, 8, 1, fun _ => [Root.INTEG_CFG_TCAM_SCAN_MS]⟩
  , ⟨0xb08, 8, 1, fun _ => [Root.INTEG_LAST_UNIT, Root.INTEG_LAST_STRUCT, Root.INTEG_LAST_VALID]⟩
  , ⟨0xb10, 8, 1, fun _ => [Root.INTEG_ADDR_ADDR]⟩
  , ⟨0xb40, 8, 1, fun _ => [Root.MESH_PARITY]⟩
  , ⟨0xb48, 8, 1, fun _ => [Root.HBM_CORR]⟩
  , ⟨0xb50, 8, 1, fun _ => [Root.HBM_UNCORR]⟩
  , ⟨0xb58, 8, 1, fun _ => [Root.SRAM_CORR]⟩
  , ⟨0xb60, 8, 1, fun _ => [Root.SRAM_UNCORR]⟩
  , ⟨0xb68, 8, 1, fun _ => [Root.TCAM_PARITY]⟩
  , ⟨0xb70, 8, 1, fun _ => [Root.POISONED]⟩
  , ⟨0x5000, 8, 1, fun _ => [Root.RST_CTL_DEVICE_RESET, Root.RST_CTL_KEY]⟩
  , ⟨0x5008, 8, 1, fun _ => [Root.RST_CAUSE_LAST, Root.RST_CAUSE_THERMTRIP, Root.RST_CAUSE_RESETS]⟩
  , ⟨0x5010, 8, 1, fun _ => [Root.BOOT_STATUS_PHASE, Root.BOOT_STATUS_FW_SLOT, Root.BOOT_STATUS_FW_RESULT]⟩
  , ⟨0x5018, 8, 1, fun _ => [Root.BOOT_TIME_FW_MS, Root.BOOT_TIME_MEM_MS, Root.BOOT_TIME_IMAGE_MS, Root.BOOT_TIME_READY_MS]⟩
  , ⟨0x6200, 8, 1, fun _ => [Root.FUSE_CMD_OP, Root.FUSE_CMD_GO, Root.FUSE_CMD_EVT, Root.FUSE_CMD_ARG]⟩
  , ⟨0x6208, 8, 1, fun _ => [Root.FUSE_STATUS_BUSY, Root.FUSE_STATUS_RESULT]⟩
  , ⟨0x6240, 8, 6, fun i => [Root.FUSE_DATA_DATA i]⟩
  , ⟨0x6300, 8, 1, fun _ => [Root.XSPI_CMD_OP, Root.XSPI_CMD_GO, Root.XSPI_CMD_EVT, Root.XSPI_CMD_LEN]⟩
  , ⟨0x6308, 8, 1, fun _ => [Root.XSPI_ADDR_ADDR]⟩ ]
/-- Registers of the root hitch's block, part 6. -/
def Root.regs6 : List RegArr :=
  [ ⟨0x6310, 8, 1, fun _ => [Root.XSPI_BUF_ADDR]⟩
  , ⟨0x6318, 8, 1, fun _ => [Root.XSPI_STATUS_BUSY, Root.XSPI_STATUS_OVERRUN, Root.XSPI_STATUS_RESULT, Root.XSPI_STATUS_MODE]⟩
  , ⟨0x6800, 8, 1, fun _ => [Root.MOD_CTL_RESET, Root.MOD_CTL_LPMODE]⟩
  , ⟨0x6808, 8, 1, fun _ => [Root.MOD_STATUS_PRESENT, Root.MOD_STATUS_INT]⟩
  , ⟨0x6900, 8, 1, fun _ => [Root.SMB_CFG_ADDR, Root.SMB_CFG_EN, Root.SMB_CFG_SPEED, Root.SMB_CFG_ALERT]⟩
  , ⟨0x6908, 8, 1, fun _ => [Root.SMB_RX_RING]⟩
  , ⟨0x6910, 8, 1, fun _ => [Root.SMB_STATUS_WR, Root.SMB_STATUS_RD, Root.SMB_STATUS_TX_BUSY, Root.SMB_STATUS_TX_RESULT]⟩
  , ⟨0x6918, 8, 1, fun _ => [Root.SMB_TX_ADDR, Root.SMB_TX_LEN, Root.SMB_TX_GO]⟩
  , ⟨0x6a00, 8, 1, fun _ => [Root.GPIO_DIR_OUT_EN]⟩
  , ⟨0x6a08, 8, 1, fun _ => [Root.GPIO_OUT_LEVEL]⟩
  , ⟨0x6a10, 8, 1, fun _ => [Root.GPIO_OD_OD]⟩
  , ⟨0x6a18, 8, 1, fun _ => [Root.GPIO_IN_LEVEL]⟩
  , ⟨0x6a20, 8, 1, fun _ => [Root.GPIO_EDGE_RISE, Root.GPIO_EDGE_FALL]⟩
  , ⟨0x6a28, 8, 1, fun _ => [Root.GPIO_IRQ_SEEN]⟩
  , ⟨0xaa8, 8, 1, fun _ => [Root.GPIO_WAKE_EN_EN]⟩ ]
/-- Registers of the root hitch's block. -/
def Root.regs : List RegArr := Root.regs0 ++ Root.regs1 ++ Root.regs2 ++ Root.regs3 ++ Root.regs4 ++ Root.regs5 ++ Root.regs6

/-! ### a MAC port block (one per lane) -/

/-- R74: `PORT_CFG` field `WIDTH`. -/
def Mac.PORT_CFG_WIDTH : Fld := ⟨0x0, 0, 4, .ro, 0⟩
/-- R74: `PORT_CFG` field `FIRST_LANE`. -/
def Mac.PORT_CFG_FIRST_LANE : Fld := ⟨0x0, 4, 4, .ro, 0⟩
/-- R74: `PORT_CFG` field `LANE_RATE`. -/
def Mac.PORT_CFG_LANE_RATE : Fld := ⟨0x0, 8, 1, .rw, 0⟩
/-- R74: `PORT_CFG` field `FEC_MODE`. -/
def Mac.PORT_CFG_FEC_MODE : Fld := ⟨0x0, 9, 2, .rw, 0⟩
/-- R74: `PORT_CFG` field `HISER_DOWN`. -/
def Mac.PORT_CFG_HISER_DOWN : Fld := ⟨0x0, 11, 1, .rw, 0⟩
/-- R74: `PORT_CFG` field `AN_EN`. -/
def Mac.PORT_CFG_AN_EN : Fld := ⟨0x0, 12, 1, .rw, 0⟩
/-- R74: `PORT_CFG` field `DOWN_ACTION`. -/
def Mac.PORT_CFG_DOWN_ACTION : Fld := ⟨0x0, 13, 1, .rw, 0⟩
/-- R74: `PORT_CFG` field `LOOPBACK`. -/
def Mac.PORT_CFG_LOOPBACK : Fld := ⟨0x0, 14, 2, .rw, 0⟩
/-- R74: `PORT_CFG` field `LINK_DOWN_HOLD`. -/
def Mac.PORT_CFG_LINK_DOWN_HOLD : Fld := ⟨0x0, 16, 8, .rw, 0⟩
/-- R74: `PORT_STATUS` field `LINK_UP`. -/
def Mac.PORT_STATUS_LINK_UP : Fld := ⟨0x8, 0, 1, .ro, 0⟩
/-- R74: `PORT_STATUS` field `PCS_LOCK`. -/
def Mac.PORT_STATUS_PCS_LOCK : Fld := ⟨0x8, 1, 1, .ro, 0⟩
/-- R74: `PORT_STATUS` field `AM_LOCK`. -/
def Mac.PORT_STATUS_AM_LOCK : Fld := ⟨0x8, 2, 1, .ro, 0⟩
/-- R74: `PORT_STATUS` field `FEC_ALIGN`. -/
def Mac.PORT_STATUS_FEC_ALIGN : Fld := ⟨0x8, 3, 1, .ro, 0⟩
/-- R74: `PORT_STATUS` field `HI_SER`. -/
def Mac.PORT_STATUS_HI_SER : Fld := ⟨0x8, 4, 1, .ro, 0⟩
/-- R74: `PORT_STATUS` field `LOCAL_FAULT`. -/
def Mac.PORT_STATUS_LOCAL_FAULT : Fld := ⟨0x8, 5, 1, .ro, 0⟩
/-- R74: `PORT_STATUS` field `REMOTE_FAULT`. -/
def Mac.PORT_STATUS_REMOTE_FAULT : Fld := ⟨0x8, 6, 1, .ro, 0⟩
/-- R74: `PORT_STATUS` field `LINK_CHANGED`. -/
def Mac.PORT_STATUS_LINK_CHANGED : Fld := ⟨0x8, 7, 1, .w1c, 0⟩
/-- R74: `PORT_STATUS` field `TRAIN_STATE`. -/
def Mac.PORT_STATUS_TRAIN_STATE : Fld := ⟨0x8, 8, 3, .ro, 0⟩
/-- R576: `MAC_CFG` field `MAX_FRAME`. -/
def Mac.MAC_CFG_MAX_FRAME : Fld := ⟨0x10, 0, 16, .rw, 1522⟩
/-- R576: `MAC_CFG` field `TX_PAD`. -/
def Mac.MAC_CFG_TX_PAD : Fld := ⟨0x10, 16, 1, .rw, 1⟩
/-- R576: `MAC_CFG` field `RX_FCS_KEEP`. -/
def Mac.MAC_CFG_RX_FCS_KEEP : Fld := ⟨0x10, 17, 1, .rw, 0⟩
/-- R576: `MAC_CFG` field `PASS_CTRL`. -/
def Mac.MAC_CFG_PASS_CTRL : Fld := ⟨0x10, 18, 1, .rw, 0⟩
/-- R576: `CLASS_MAP` field `PCP_CLASS`. -/
def Mac.CLASS_MAP_PCP_CLASS : Fld := ⟨0x18, 0, 24, .rw, 0xfac688⟩
/-- R576: `CLASS_MAP` field `UNTAGGED_CLASS`. -/
def Mac.CLASS_MAP_UNTAGGED_CLASS : Fld := ⟨0x18, 24, 3, .rw, 0⟩
/-- R576: `TAG_CFG` field `TPID_OUTER`. -/
def Mac.TAG_CFG_TPID_OUTER : Fld := ⟨0x20, 0, 16, .rw, 0x88a8⟩
/-- R576: `TAG_CFG` field `TPID_INNER`. -/
def Mac.TAG_CFG_TPID_INNER : Fld := ⟨0x20, 16, 16, .rw, 0x8100⟩
/-- R576: `TAG_CFG` field `RX_STRIP`. -/
def Mac.TAG_CFG_RX_STRIP : Fld := ⟨0x20, 32, 2, .rw, 0⟩
/-- R576: `TAG_CFG` field `TX_INSERT_EN`. -/
def Mac.TAG_CFG_TX_INSERT_EN : Fld := ⟨0x20, 34, 1, .rw, 1⟩
/-- R80: `RX_ERR_CFG` field `TAP_MASK`. -/
def Mac.RX_ERR_CFG_TAP_MASK : Fld := ⟨0x60, 0, 8, .rw, 0⟩
/-- R80: `PAUSE_CFG` field `MODE`. -/
def Mac.PAUSE_CFG_MODE : Fld := ⟨0x28, 0, 2, .rw, 0⟩
/-- R80: `PAUSE_CFG` field `RX_OBEY`. -/
def Mac.PAUSE_CFG_RX_OBEY : Fld := ⟨0x28, 2, 1, .rw, 1⟩
/-- R80: `PAUSE_CFG` field `TX_EN`. -/
def Mac.PAUSE_CFG_TX_EN : Fld := ⟨0x28, 3, 1, .rw, 1⟩
/-- R80: `PAUSE_CFG` field `FORCE_XOFF`. -/
def Mac.PAUSE_CFG_FORCE_XOFF : Fld := ⟨0x28, 8, 8, .rw, 0⟩
/-- R80: `PAUSE_CFG` field `TX_QUANTA`. -/
def Mac.PAUSE_CFG_TX_QUANTA : Fld := ⟨0x28, 16, 16, .rw, 0xffff⟩
/-- R80: `PAUSE_CFG` field `TX_REFRESH`. -/
def Mac.PAUSE_CFG_TX_REFRESH : Fld := ⟨0x28, 32, 16, .rw, 0x8000⟩
/-- R80: `PAUSE_CFG` field `RX_PAUSED`. -/
def Mac.PAUSE_CFG_RX_PAUSED : Fld := ⟨0x28, 48, 8, .ro, 0⟩
/-- R80: `PAUSE_CFG` field `XOFF_ACTIVE`. -/
def Mac.PAUSE_CFG_XOFF_ACTIVE : Fld := ⟨0x28, 56, 8, .ro, 0⟩
/-- R83: `PREEMPT_CFG` field `EN`. -/
def Mac.PREEMPT_CFG_EN : Fld := ⟨0x40, 0, 1, .rw, 0⟩
/-- R83: `PREEMPT_CFG` field `VERIFY_DIS`. -/
def Mac.PREEMPT_CFG_VERIFY_DIS : Fld := ⟨0x40, 1, 1, .rw, 0⟩
/-- R83: `PREEMPT_CFG` field `ADD_FRAG_SIZE`. -/
def Mac.PREEMPT_CFG_ADD_FRAG_SIZE : Fld := ⟨0x40, 2, 2, .rw, 0⟩
/-- R83: `PREEMPT_CFG` field `EXPRESS_MASK`. -/
def Mac.PREEMPT_CFG_EXPRESS_MASK : Fld := ⟨0x40, 8, 8, .rw, 0xff⟩
/-- R83: `PREEMPT_CFG` field `VERIFY_TIME`. -/
def Mac.PREEMPT_CFG_VERIFY_TIME : Fld := ⟨0x40, 16, 8, .rw, 10⟩
/-- R83: `PREEMPT_STATUS` field `VERIFY_STATE`. -/
def Mac.PREEMPT_STATUS_VERIFY_STATE : Fld := ⟨0x48, 0, 3, .ro, 0⟩
/-- R83: `PREEMPT_STATUS` field `ACTIVE`. -/
def Mac.PREEMPT_STATUS_ACTIVE : Fld := ⟨0x48, 3, 1, .ro, 0⟩
/-- R86: `TX_START_CFG` field `MIN`. -/
def Mac.TX_START_CFG_MIN : Fld := ⟨0x50, 0, 16, .rw, 256⟩
/-- R86: `TX_START_CFG` field `MAX`. -/
def Mac.TX_START_CFG_MAX : Fld := ⟨0x50, 16, 16, .rw, 16384⟩
/-- R86: `TX_START_CFG` field `STEP`. -/
def Mac.TX_START_CFG_STEP : Fld := ⟨0x50, 32, 16, .rw, 512⟩
/-- R86: `TX_START_CFG` field `DECAY_WINDOWS`. -/
def Mac.TX_START_CFG_DECAY_WINDOWS : Fld := ⟨0x50, 48, 8, .rw, 100⟩
/-- R86: `TX_START_STATUS` field `CUR`. -/
def Mac.TX_START_STATUS_CUR : Fld := ⟨0x58, 0, 16, .ro, 256⟩
/-- R86: `TX_START_STATUS` field `QUIET`. -/
def Mac.TX_START_STATUS_QUIET : Fld := ⟨0x58, 16, 8, .ro, 0⟩
/-- R89: `TS_CFG` field `RX_TS_EN`. -/
def Mac.TS_CFG_RX_TS_EN : Fld := ⟨0x68, 0, 1, .rw, 1⟩
/-- R89: `TS_CFG` field `TX_TS_EN`. -/
def Mac.TS_CFG_TX_TS_EN : Fld := ⟨0x68, 1, 1, .rw, 1⟩
/-- R89: `TS_CFG` field `ONE_STEP_EN`. -/
def Mac.TS_CFG_ONE_STEP_EN : Fld := ⟨0x68, 2, 1, .rw, 0⟩
/-- R89: `TS_CORR` field `RX_CORR`. -/
def Mac.TS_CORR_RX_CORR : Fld := ⟨0x70, 0, 32, .rw, 0⟩
/-- R89: `TS_CORR` field `TX_CORR`. -/
def Mac.TS_CORR_TX_CORR : Fld := ⟨0x70, 32, 32, .rw, 0⟩
/-- R91: `TX_TS_A` field `NS`. -/
def Mac.TX_TS_A_NS : Fld := ⟨0x78, 0, 32, .rc, 0⟩
/-- R91: `TX_TS_A` field `TAG`. -/
def Mac.TX_TS_A_TAG : Fld := ⟨0x78, 32, 16, .rc, 0⟩
/-- R91: `TX_TS_A` field `OVERFLOW`. -/
def Mac.TX_TS_A_OVERFLOW : Fld := ⟨0x78, 62, 1, .rc, 0⟩
/-- R91: `TX_TS_A` field `VALID`. -/
def Mac.TX_TS_A_VALID : Fld := ⟨0x78, 63, 1, .rc, 0⟩
/-- R91: `TX_TS_B` field `SEC`. -/
def Mac.TX_TS_B_SEC : Fld := ⟨0x80, 0, 48, .ro, 0⟩
/-- R92: `TB_INCR` field `INCR`. -/
def Mac.TB_INCR_INCR : Fld := ⟨0x3000, 0, 64, .rw, 0x147ae147a⟩
/-- R92: `TB_ADJ` field `OFFSET`. -/
def Mac.TB_ADJ_OFFSET : Fld := ⟨0x3008, 0, 64, .wo, 0⟩
/-- R92: `TB_SET_SEC` field `SEC`. -/
def Mac.TB_SET_SEC_SEC : Fld := ⟨0x3010, 0, 48, .rw, 0⟩
/-- R92: `TB_SET_NS` field `NS`. -/
def Mac.TB_SET_NS_NS : Fld := ⟨0x3018, 0, 32, .wo, 0⟩
/-- R92: `TB_CAPTURE` field `GO`. -/
def Mac.TB_CAPTURE_GO : Fld := ⟨0x3020, 0, 32, .wo, 0⟩
/-- R92: `TB_SNAP_NS` field `NS`. -/
def Mac.TB_SNAP_NS_NS : Fld := ⟨0x3028, 0, 32, .ro, 0⟩
/-- R92: `TB_SNAP_SEC` field `SEC`. -/
def Mac.TB_SNAP_SEC_SEC : Fld := ⟨0x3030, 0, 48, .ro, 0⟩
/-- R92: `LANE_CFG` field `TX_INVERT`. -/
def Mac.LANE_CFG_TX_INVERT : Fld := ⟨0x2000, 0, 1, .rw, 0⟩
/-- R92: `LANE_CFG` field `RX_INVERT`. -/
def Mac.LANE_CFG_RX_INVERT : Fld := ⟨0x2000, 1, 1, .rw, 0⟩
/-- R92: `LANE_STATUS` field `SIGNAL_DETECT`. -/
def Mac.LANE_STATUS_SIGNAL_DETECT : Fld := ⟨0x2008, 0, 1, .ro, 0⟩
/-- R92: `LANE_STATUS` field `CDR_LOCK`. -/
def Mac.LANE_STATUS_CDR_LOCK : Fld := ⟨0x2008, 1, 1, .ro, 0⟩
/-- R93: `RX_FRAMES_OK` field `COUNT`. -/
def Mac.RX_FRAMES_OK : Fld := ⟨0x100, 0, 64, .ro, 0⟩
/-- R93: `RX_BYTES_OK` field `COUNT`. -/
def Mac.RX_BYTES_OK : Fld := ⟨0x108, 0, 64, .ro, 0⟩
/-- R93: `RX_FCS_ERR` field `COUNT`. -/
def Mac.RX_FCS_ERR : Fld := ⟨0x110, 0, 64, .ro, 0⟩
/-- R93: `RX_CODE_ERR` field `COUNT`. -/
def Mac.RX_CODE_ERR : Fld := ⟨0x118, 0, 64, .ro, 0⟩
/-- R93: `RX_OVERSIZE` field `COUNT`. -/
def Mac.RX_OVERSIZE : Fld := ⟨0x120, 0, 64, .ro, 0⟩
/-- R93: `RX_RUNT` field `COUNT`. -/
def Mac.RX_RUNT : Fld := ⟨0x128, 0, 64, .ro, 0⟩
/-- R93: `RX_FRAGMENT` field `COUNT`. -/
def Mac.RX_FRAGMENT : Fld := ⟨0x130, 0, 64, .ro, 0⟩
/-- R93: `RX_BAD_DROPPED` field `COUNT`. -/
def Mac.RX_BAD_DROPPED : Fld := ⟨0x138, 0, 64, .ro, 0⟩
/-- R93: `RX_BAD_DELIVERED` field `COUNT`. -/
def Mac.RX_BAD_DELIVERED : Fld := ⟨0x140, 0, 64, .ro, 0⟩
/-- R93: `RX_PAUSE` field `COUNT`. -/
def Mac.RX_PAUSE : Fld := ⟨0x148, 0, 64, .ro, 0⟩
/-- R93: `RX_PFC` field `COUNT`. -/
def Mac.RX_PFC : Fld := ⟨0x150, 0, 64, .ro, 0⟩
/-- R93: `RX_CTRL_ERR` field `COUNT`. -/
def Mac.RX_CTRL_ERR : Fld := ⟨0x158, 0, 64, .ro, 0⟩
/-- R93: `RX_ASSY_ERR` field `COUNT`. -/
def Mac.RX_ASSY_ERR : Fld := ⟨0x160, 0, 64, .ro, 0⟩
/-- R93: `RX_DISABLED_DROP` field `COUNT`. -/
def Mac.RX_DISABLED_DROP : Fld := ⟨0x168, 0, 64, .ro, 0⟩
/-- R93: `TX_FRAMES_OK` field `COUNT`. -/
def Mac.TX_FRAMES_OK : Fld := ⟨0x170, 0, 64, .ro, 0⟩
/-- R93: `TX_BYTES_OK` field `COUNT`. -/
def Mac.TX_BYTES_OK : Fld := ⟨0x178, 0, 64, .ro, 0⟩
/-- R93: `TX_UNDERRUN` field `COUNT`. -/
def Mac.TX_UNDERRUN : Fld := ⟨0x180, 0, 64, .ro, 0⟩
/-- R93: `TX_PAUSE` field `COUNT`. -/
def Mac.TX_PAUSE : Fld := ⟨0x188, 0, 64, .ro, 0⟩
/-- R93: `TX_PREEMPTED` field `COUNT`. -/
def Mac.TX_PREEMPTED : Fld := ⟨0x190, 0, 64, .ro, 0⟩
/-- R93: `TX_CONT_FRAG` field `COUNT`. -/
def Mac.TX_CONT_FRAG : Fld := ⟨0x198, 0, 64, .ro, 0⟩
/-- R93: `TX_OVERSIZE_DROP` field `COUNT`. -/
def Mac.TX_OVERSIZE_DROP : Fld := ⟨0x1a0, 0, 64, .ro, 0⟩
/-- R93: `TX_RUNT_DROP` field `COUNT`. -/
def Mac.TX_RUNT_DROP : Fld := ⟨0x1a8, 0, 64, .ro, 0⟩
/-- R93: `TX_LINK_DOWN_DROP` field `COUNT`. -/
def Mac.TX_LINK_DOWN_DROP : Fld := ⟨0x1b0, 0, 64, .ro, 0⟩
/-- R93: `TS_OVERFLOW` field `COUNT`. -/
def Mac.TS_OVERFLOW : Fld := ⟨0x1b8, 0, 64, .ro, 0⟩
/-- R93: `FEC_CORRECTED` field `COUNT`. -/
def Mac.FEC_CORRECTED : Fld := ⟨0x1c0, 0, 64, .ro, 0⟩
/-- R93: `FEC_UNCORRECTED` field `COUNT`. -/
def Mac.FEC_UNCORRECTED : Fld := ⟨0x1c8, 0, 64, .ro, 0⟩
/-- R93: `FEC_SYMBOLS` field `COUNT`. -/
def Mac.FEC_SYMBOLS : Fld := ⟨0x1d0, 0, 64, .ro, 0⟩
/-- R93: `FEC_BIN` field `COUNT`, element `i`. -/
def Mac.FEC_BIN (i : Nat) : Fld := ⟨0x200 + 8 * i, 0, 64, .ro, 0⟩
/-- R567: `LANE_TXEQ` field `PRE2`. -/
def Mac.LANE_TXEQ_PRE2 : Fld := ⟨0x2010, 0, 4, .rw, 0⟩
/-- R567: `LANE_TXEQ` field `PRE1`. -/
def Mac.LANE_TXEQ_PRE1 : Fld := ⟨0x2010, 4, 5, .rw, 6⟩
/-- R567: `LANE_TXEQ` field `POST1`. -/
def Mac.LANE_TXEQ_POST1 : Fld := ⟨0x2010, 12, 5, .rw, 0⟩
/-- R567: `LANE_TXEQ` field `MAIN`. -/
def Mac.LANE_TXEQ_MAIN : Fld := ⟨0x2010, 17, 6, .ro, 58⟩

/-- Registers of a MAC port block (one per lane), part 0. -/
def Mac.regs0 : List RegArr :=
  [ ⟨0x0, 8, 1, fun _ => [Mac.PORT_CFG_WIDTH, Mac.PORT_CFG_FIRST_LANE, Mac.PORT_CFG_LANE_RATE, Mac.PORT_CFG_FEC_MODE, Mac.PORT_CFG_HISER_DOWN, Mac.PORT_CFG_AN_EN, Mac.PORT_CFG_DOWN_ACTION, Mac.PORT_CFG_LOOPBACK, Mac.PORT_CFG_LINK_DOWN_HOLD]⟩
  , ⟨0x8, 8, 1, fun _ => [Mac.PORT_STATUS_LINK_UP, Mac.PORT_STATUS_PCS_LOCK, Mac.PORT_STATUS_AM_LOCK, Mac.PORT_STATUS_FEC_ALIGN, Mac.PORT_STATUS_HI_SER, Mac.PORT_STATUS_LOCAL_FAULT, Mac.PORT_STATUS_REMOTE_FAULT, Mac.PORT_STATUS_LINK_CHANGED, Mac.PORT_STATUS_TRAIN_STATE]⟩
  , ⟨0x10, 8, 1, fun _ => [Mac.MAC_CFG_MAX_FRAME, Mac.MAC_CFG_TX_PAD, Mac.MAC_CFG_RX_FCS_KEEP, Mac.MAC_CFG_PASS_CTRL]⟩
  , ⟨0x18, 8, 1, fun _ => [Mac.CLASS_MAP_PCP_CLASS, Mac.CLASS_MAP_UNTAGGED_CLASS]⟩
  , ⟨0x20, 8, 1, fun _ => [Mac.TAG_CFG_TPID_OUTER, Mac.TAG_CFG_TPID_INNER, Mac.TAG_CFG_RX_STRIP, Mac.TAG_CFG_TX_INSERT_EN]⟩
  , ⟨0x60, 8, 1, fun _ => [Mac.RX_ERR_CFG_TAP_MASK]⟩
  , ⟨0x28, 8, 1, fun _ => [Mac.PAUSE_CFG_MODE, Mac.PAUSE_CFG_RX_OBEY, Mac.PAUSE_CFG_TX_EN, Mac.PAUSE_CFG_FORCE_XOFF, Mac.PAUSE_CFG_TX_QUANTA, Mac.PAUSE_CFG_TX_REFRESH, Mac.PAUSE_CFG_RX_PAUSED, Mac.PAUSE_CFG_XOFF_ACTIVE]⟩
  , ⟨0x40, 8, 1, fun _ => [Mac.PREEMPT_CFG_EN, Mac.PREEMPT_CFG_VERIFY_DIS, Mac.PREEMPT_CFG_ADD_FRAG_SIZE, Mac.PREEMPT_CFG_EXPRESS_MASK, Mac.PREEMPT_CFG_VERIFY_TIME]⟩
  , ⟨0x48, 8, 1, fun _ => [Mac.PREEMPT_STATUS_VERIFY_STATE, Mac.PREEMPT_STATUS_ACTIVE]⟩
  , ⟨0x50, 8, 1, fun _ => [Mac.TX_START_CFG_MIN, Mac.TX_START_CFG_MAX, Mac.TX_START_CFG_STEP, Mac.TX_START_CFG_DECAY_WINDOWS]⟩
  , ⟨0x58, 8, 1, fun _ => [Mac.TX_START_STATUS_CUR, Mac.TX_START_STATUS_QUIET]⟩
  , ⟨0x68, 8, 1, fun _ => [Mac.TS_CFG_RX_TS_EN, Mac.TS_CFG_TX_TS_EN, Mac.TS_CFG_ONE_STEP_EN]⟩
  , ⟨0x70, 8, 1, fun _ => [Mac.TS_CORR_RX_CORR, Mac.TS_CORR_TX_CORR]⟩
  , ⟨0x78, 8, 1, fun _ => [Mac.TX_TS_A_NS, Mac.TX_TS_A_TAG, Mac.TX_TS_A_OVERFLOW, Mac.TX_TS_A_VALID]⟩
  , ⟨0x80, 8, 1, fun _ => [Mac.TX_TS_B_SEC]⟩
  , ⟨0x3000, 8, 1, fun _ => [Mac.TB_INCR_INCR]⟩
  , ⟨0x3008, 8, 1, fun _ => [Mac.TB_ADJ_OFFSET]⟩
  , ⟨0x3010, 8, 1, fun _ => [Mac.TB_SET_SEC_SEC]⟩
  , ⟨0x3018, 8, 1, fun _ => [Mac.TB_SET_NS_NS]⟩
  , ⟨0x3020, 8, 1, fun _ => [Mac.TB_CAPTURE_GO]⟩ ]
/-- Registers of a MAC port block (one per lane), part 1. -/
def Mac.regs1 : List RegArr :=
  [ ⟨0x3028, 8, 1, fun _ => [Mac.TB_SNAP_NS_NS]⟩
  , ⟨0x3030, 8, 1, fun _ => [Mac.TB_SNAP_SEC_SEC]⟩
  , ⟨0x2000, 8, 1, fun _ => [Mac.LANE_CFG_TX_INVERT, Mac.LANE_CFG_RX_INVERT]⟩
  , ⟨0x2008, 8, 1, fun _ => [Mac.LANE_STATUS_SIGNAL_DETECT, Mac.LANE_STATUS_CDR_LOCK]⟩
  , ⟨0x100, 8, 1, fun _ => [Mac.RX_FRAMES_OK]⟩
  , ⟨0x108, 8, 1, fun _ => [Mac.RX_BYTES_OK]⟩
  , ⟨0x110, 8, 1, fun _ => [Mac.RX_FCS_ERR]⟩
  , ⟨0x118, 8, 1, fun _ => [Mac.RX_CODE_ERR]⟩
  , ⟨0x120, 8, 1, fun _ => [Mac.RX_OVERSIZE]⟩
  , ⟨0x128, 8, 1, fun _ => [Mac.RX_RUNT]⟩
  , ⟨0x130, 8, 1, fun _ => [Mac.RX_FRAGMENT]⟩
  , ⟨0x138, 8, 1, fun _ => [Mac.RX_BAD_DROPPED]⟩
  , ⟨0x140, 8, 1, fun _ => [Mac.RX_BAD_DELIVERED]⟩
  , ⟨0x148, 8, 1, fun _ => [Mac.RX_PAUSE]⟩
  , ⟨0x150, 8, 1, fun _ => [Mac.RX_PFC]⟩
  , ⟨0x158, 8, 1, fun _ => [Mac.RX_CTRL_ERR]⟩
  , ⟨0x160, 8, 1, fun _ => [Mac.RX_ASSY_ERR]⟩
  , ⟨0x168, 8, 1, fun _ => [Mac.RX_DISABLED_DROP]⟩
  , ⟨0x170, 8, 1, fun _ => [Mac.TX_FRAMES_OK]⟩
  , ⟨0x178, 8, 1, fun _ => [Mac.TX_BYTES_OK]⟩ ]
/-- Registers of a MAC port block (one per lane), part 2. -/
def Mac.regs2 : List RegArr :=
  [ ⟨0x180, 8, 1, fun _ => [Mac.TX_UNDERRUN]⟩
  , ⟨0x188, 8, 1, fun _ => [Mac.TX_PAUSE]⟩
  , ⟨0x190, 8, 1, fun _ => [Mac.TX_PREEMPTED]⟩
  , ⟨0x198, 8, 1, fun _ => [Mac.TX_CONT_FRAG]⟩
  , ⟨0x1a0, 8, 1, fun _ => [Mac.TX_OVERSIZE_DROP]⟩
  , ⟨0x1a8, 8, 1, fun _ => [Mac.TX_RUNT_DROP]⟩
  , ⟨0x1b0, 8, 1, fun _ => [Mac.TX_LINK_DOWN_DROP]⟩
  , ⟨0x1b8, 8, 1, fun _ => [Mac.TS_OVERFLOW]⟩
  , ⟨0x1c0, 8, 1, fun _ => [Mac.FEC_CORRECTED]⟩
  , ⟨0x1c8, 8, 1, fun _ => [Mac.FEC_UNCORRECTED]⟩
  , ⟨0x1d0, 8, 1, fun _ => [Mac.FEC_SYMBOLS]⟩
  , ⟨0x200, 8, 16, fun i => [Mac.FEC_BIN i]⟩
  , ⟨0x2010, 8, 1, fun _ => [Mac.LANE_TXEQ_PRE2, Mac.LANE_TXEQ_PRE1, Mac.LANE_TXEQ_POST1, Mac.LANE_TXEQ_MAIN]⟩ ]
/-- Registers of a MAC port block (one per lane). -/
def Mac.regs : List RegArr := Mac.regs0 ++ Mac.regs1 ++ Mac.regs2

/-! ### a prism tile -/

/-- R110: `PRISM_CFG` field `DROP_TRUNC`. -/
def Prism.PRISM_CFG_DROP_TRUNC : Fld := ⟨0x0, 0, 1, .rw, 0⟩
/-- R110: `PRISM_CFG` field `DROP_BADLEN`. -/
def Prism.PRISM_CFG_DROP_BADLEN : Fld := ⟨0x0, 1, 1, .rw, 0⟩
/-- R110: `PRISM_CFG` field `DROP_CSUM`. -/
def Prism.PRISM_CFG_DROP_CSUM : Fld := ⟨0x0, 2, 1, .rw, 0⟩
/-- R110: `PRISM_CFG` field `DROP_UNKNOWN`. -/
def Prism.PRISM_CFG_DROP_UNKNOWN : Fld := ⟨0x0, 3, 1, .rw, 0⟩
/-- R110: `PRISM_STATUS` field `NODES`. -/
def Prism.PRISM_STATUS_NODES : Fld := ⟨0x8, 0, 11, .ro, 0⟩
/-- R110: `PRISM_STATUS` field `TRANSITIONS`. -/
def Prism.PRISM_STATUS_TRANSITIONS : Fld := ⟨0x8, 16, 14, .ro, 0⟩
/-- R110: `PRISM_STATUS` field `FIFO_DEPTH`. -/
def Prism.PRISM_STATUS_FIFO_DEPTH : Fld := ⟨0x8, 32, 13, .ro, 0⟩
/-- R110: `PRISM_STATUS` field `GRAPH_LOADED`. -/
def Prism.PRISM_STATUS_GRAPH_LOADED : Fld := ⟨0x8, 48, 1, .ro, 0⟩
/-- R111: `PKTS` field `COUNT`. -/
def Prism.PKTS : Fld := ⟨0x100, 0, 64, .ro, 0⟩
/-- R111: `TWO_PASS` field `COUNT`. -/
def Prism.TWO_PASS : Fld := ⟨0x108, 0, 64, .ro, 0⟩
/-- R111: `END_DONE` field `COUNT`. -/
def Prism.END_DONE : Fld := ⟨0x110, 0, 64, .ro, 0⟩
/-- R111: `END_UNKNOWN` field `COUNT`. -/
def Prism.END_UNKNOWN : Fld := ⟨0x118, 0, 64, .ro, 0⟩
/-- R111: `END_TRUNC` field `COUNT`. -/
def Prism.END_TRUNC : Fld := ⟨0x120, 0, 64, .ro, 0⟩
/-- R111: `END_BADLEN` field `COUNT`. -/
def Prism.END_BADLEN : Fld := ⟨0x128, 0, 64, .ro, 0⟩
/-- R111: `END_VFULL` field `COUNT`. -/
def Prism.END_VFULL : Fld := ⟨0x130, 0, 64, .ro, 0⟩
/-- R111: `END_DEPTH` field `COUNT`. -/
def Prism.END_DEPTH : Fld := ⟨0x138, 0, 64, .ro, 0⟩
/-- R111: `CSUM_BAD` field `COUNT`. -/
def Prism.CSUM_BAD : Fld := ⟨0x140, 0, 64, .ro, 0⟩
/-- R111: `IN_DROP` field `COUNT`. -/
def Prism.IN_DROP : Fld := ⟨0x148, 0, 64, .ro, 0⟩
/-- R111: `MALFORMED_DROP` field `COUNT`. -/
def Prism.MALFORMED_DROP : Fld := ⟨0x150, 0, 64, .ro, 0⟩

/-- Registers of a prism tile. -/
def Prism.regs : List RegArr :=
  [ ⟨0x0, 8, 1, fun _ => [Prism.PRISM_CFG_DROP_TRUNC, Prism.PRISM_CFG_DROP_BADLEN, Prism.PRISM_CFG_DROP_CSUM, Prism.PRISM_CFG_DROP_UNKNOWN]⟩
  , ⟨0x8, 8, 1, fun _ => [Prism.PRISM_STATUS_NODES, Prism.PRISM_STATUS_TRANSITIONS, Prism.PRISM_STATUS_FIFO_DEPTH, Prism.PRISM_STATUS_GRAPH_LOADED]⟩
  , ⟨0x100, 8, 1, fun _ => [Prism.PKTS]⟩
  , ⟨0x108, 8, 1, fun _ => [Prism.TWO_PASS]⟩
  , ⟨0x110, 8, 1, fun _ => [Prism.END_DONE]⟩
  , ⟨0x118, 8, 1, fun _ => [Prism.END_UNKNOWN]⟩
  , ⟨0x120, 8, 1, fun _ => [Prism.END_TRUNC]⟩
  , ⟨0x128, 8, 1, fun _ => [Prism.END_BADLEN]⟩
  , ⟨0x130, 8, 1, fun _ => [Prism.END_VFULL]⟩
  , ⟨0x138, 8, 1, fun _ => [Prism.END_DEPTH]⟩
  , ⟨0x140, 8, 1, fun _ => [Prism.CSUM_BAD]⟩
  , ⟨0x148, 8, 1, fun _ => [Prism.IN_DROP]⟩
  , ⟨0x150, 8, 1, fun _ => [Prism.MALFORMED_DROP]⟩ ]

/-! ### a match tile -/

/-- R131: `TBL_CMD` field `TABLE_ID`. -/
def Match.TBL_CMD_TABLE_ID : Fld := ⟨0x0, 0, 16, .rw, 0⟩
/-- R131: `TBL_CMD` field `OP`. -/
def Match.TBL_CMD_OP : Fld := ⟨0x0, 16, 4, .rw, 0⟩
/-- R131: `TBL_CMD` field `EVT`. -/
def Match.TBL_CMD_EVT : Fld := ⟨0x0, 20, 1, .rw, 0⟩
/-- R131: `TBL_INDEX` field `INDEX`. -/
def Match.TBL_INDEX_INDEX : Fld := ⟨0x8, 0, 32, .rw, 0⟩
/-- R131: `TBL_STATUS` field `BUSY`. -/
def Match.TBL_STATUS_BUSY : Fld := ⟨0x10, 0, 1, .ro, 0⟩
/-- R131: `TBL_STATUS` field `OVERRUN`. -/
def Match.TBL_STATUS_OVERRUN : Fld := ⟨0x10, 1, 1, .w1c, 0⟩
/-- R131: `TBL_STATUS` field `RESULT`. -/
def Match.TBL_STATUS_RESULT : Fld := ⟨0x10, 8, 8, .ro, 0⟩
/-- R131: `TBL_DATA` field `W`, element `i`. -/
def Match.TBL_DATA_W (i : Nat) : Fld := ⟨0x100 + 8 * i, 0, 64, .rw, 0⟩

/-- Registers of a match tile. -/
def Match.regs : List RegArr :=
  [ ⟨0x0, 8, 1, fun _ => [Match.TBL_CMD_TABLE_ID, Match.TBL_CMD_OP, Match.TBL_CMD_EVT]⟩
  , ⟨0x8, 8, 1, fun _ => [Match.TBL_INDEX_INDEX]⟩
  , ⟨0x10, 8, 1, fun _ => [Match.TBL_STATUS_BUSY, Match.TBL_STATUS_OVERRUN, Match.TBL_STATUS_RESULT]⟩
  , ⟨0x100, 8, 32, fun i => [Match.TBL_DATA_W i]⟩ ]

/-! ### an engine hitch -/

/-- R155: `EH_CFG` field `REORDER_MODE`. -/
def Eh.EH_CFG_REORDER_MODE : Fld := ⟨0x0, 0, 2, .rw, 1⟩
/-- R155: `EH_CFG` field `REIN_EVT_EN`. -/
def Eh.EH_CFG_REIN_EVT_EN : Fld := ⟨0x0, 2, 1, .rw, 0⟩
/-- R155: `THREAD_LIMIT` field `CYCLES`. -/
def Eh.THREAD_LIMIT_CYCLES : Fld := ⟨0x8, 0, 32, .rw, 65536⟩
/-- R155: `REIN_MARKS` field `HIGH_MARK`. -/
def Eh.REIN_MARKS_HIGH_MARK : Fld := ⟨0x10, 0, 32, .rw, 4096⟩
/-- R155: `REIN_MARKS` field `LOW_MARK`. -/
def Eh.REIN_MARKS_LOW_MARK : Fld := ⟨0x10, 32, 7, .rw, 30⟩
/-- R155: `REIN_HCTL` field `PIN`. -/
def Eh.REIN_HCTL_PIN : Fld := ⟨0x18, 0, 1, .rw, 0⟩
/-- R155: `REIN_HSTATUS` field `BACKLOG_AVG`. -/
def Eh.REIN_HSTATUS_BACKLOG_AVG : Fld := ⟨0x20, 0, 32, .ro, 0⟩
/-- R155: `REIN_HSTATUS` field `UTIL`. -/
def Eh.REIN_HSTATUS_UTIL : Fld := ⟨0x20, 32, 7, .ro, 0⟩
/-- R155: `REIN_HSTATUS` field `HIGH_RUN`. -/
def Eh.REIN_HSTATUS_HIGH_RUN : Fld := ⟨0x20, 40, 4, .ro, 0⟩
/-- R155: `REIN_HSTATUS` field `LOW_RUN`. -/
def Eh.REIN_HSTATUS_LOW_RUN : Fld := ⟨0x20, 44, 4, .ro, 0⟩
/-- R155: `REIN_HSTATUS` field `GOVERNED`. -/
def Eh.REIN_HSTATUS_GOVERNED : Fld := ⟨0x20, 48, 1, .ro, 0⟩
/-- R155: `REIN_HSTATUS` field `PATCH_FROZEN`. -/
def Eh.REIN_HSTATUS_PATCH_FROZEN : Fld := ⟨0x20, 49, 1, .ro, 0⟩
/-- R155: `REIN_HSTATUS` field `STEP_BUSY`. -/
def Eh.REIN_HSTATUS_STEP_BUSY : Fld := ⟨0x20, 50, 1, .ro, 0⟩
/-- R155: `REORDER_STATUS` field `TAGS_OUT`. -/
def Eh.REORDER_STATUS_TAGS_OUT : Fld := ⟨0x28, 0, 13, .ro, 0⟩
/-- R155: `REORDER_STATUS` field `FIFO_DEPTH`. -/
def Eh.REORDER_STATUS_FIFO_DEPTH : Fld := ⟨0x28, 16, 9, .ro, 0⟩
/-- R155: `PKTS_IN` field `COUNT`. -/
def Eh.PKTS_IN : Fld := ⟨0x100, 0, 64, .ro, 0⟩
/-- R155: `PKTS_OUT` field `COUNT`. -/
def Eh.PKTS_OUT : Fld := ⟨0x108, 0, 64, .ro, 0⟩
/-- R155: `DROP_ENGINE` field `COUNT`. -/
def Eh.DROP_ENGINE : Fld := ⟨0x110, 0, 64, .ro, 0⟩
/-- R155: `DROP_RESET` field `COUNT`. -/
def Eh.DROP_RESET : Fld := ⟨0x118, 0, 64, .ro, 0⟩
/-- R155: `ADDS` field `COUNT`. -/
def Eh.ADDS : Fld := ⟨0x120, 0, 64, .ro, 0⟩
/-- R155: `REMOVES` field `COUNT`. -/
def Eh.REMOVES : Fld := ⟨0x128, 0, 64, .ro, 0⟩
/-- R155: `REORDER_HOLD_NS` field `COUNT`. -/
def Eh.REORDER_HOLD_NS : Fld := ⟨0x130, 0, 64, .ro, 0⟩

/-- Registers of an engine hitch. -/
def Eh.regs : List RegArr :=
  [ ⟨0x0, 8, 1, fun _ => [Eh.EH_CFG_REORDER_MODE, Eh.EH_CFG_REIN_EVT_EN]⟩
  , ⟨0x8, 8, 1, fun _ => [Eh.THREAD_LIMIT_CYCLES]⟩
  , ⟨0x10, 8, 1, fun _ => [Eh.REIN_MARKS_HIGH_MARK, Eh.REIN_MARKS_LOW_MARK]⟩
  , ⟨0x18, 8, 1, fun _ => [Eh.REIN_HCTL_PIN]⟩
  , ⟨0x20, 8, 1, fun _ => [Eh.REIN_HSTATUS_BACKLOG_AVG, Eh.REIN_HSTATUS_UTIL, Eh.REIN_HSTATUS_HIGH_RUN, Eh.REIN_HSTATUS_LOW_RUN, Eh.REIN_HSTATUS_GOVERNED, Eh.REIN_HSTATUS_PATCH_FROZEN, Eh.REIN_HSTATUS_STEP_BUSY]⟩
  , ⟨0x28, 8, 1, fun _ => [Eh.REORDER_STATUS_TAGS_OUT, Eh.REORDER_STATUS_FIFO_DEPTH]⟩
  , ⟨0x100, 8, 1, fun _ => [Eh.PKTS_IN]⟩
  , ⟨0x108, 8, 1, fun _ => [Eh.PKTS_OUT]⟩
  , ⟨0x110, 8, 1, fun _ => [Eh.DROP_ENGINE]⟩
  , ⟨0x118, 8, 1, fun _ => [Eh.DROP_RESET]⟩
  , ⟨0x120, 8, 1, fun _ => [Eh.ADDS]⟩
  , ⟨0x128, 8, 1, fun _ => [Eh.REMOVES]⟩
  , ⟨0x130, 8, 1, fun _ => [Eh.REORDER_HOLD_NS]⟩ ]

/-! ### a PE tile -/

/-- R156: `PE_STATUS` field `BUSY`. -/
def Pe.PE_STATUS_BUSY : Fld := ⟨0x0, 0, 8, .ro, 0⟩
/-- R156: `PE_STATUS` field `WAITING`. -/
def Pe.PE_STATUS_WAITING : Fld := ⟨0x0, 8, 8, .ro, 0⟩
/-- R156: `PE_STATUS` field `LOOKUPS_OUT`. -/
def Pe.PE_STATUS_LOOKUPS_OUT : Fld := ⟨0x0, 16, 6, .ro, 0⟩
/-- R156: `PE_CODE` field `OWNER`. -/
def Pe.PE_CODE_OWNER : Fld := ⟨0x8, 0, 24, .ro, 0⟩
/-- R156: `PE_CODE` field `LOADS`. -/
def Pe.PE_CODE_LOADS : Fld := ⟨0x8, 32, 32, .ro, 0⟩
/-- R156: `PKTS` field `COUNT`. -/
def Pe.PKTS : Fld := ⟨0x100, 0, 64, .ro, 0⟩
/-- R156: `ISSUED` field `COUNT`. -/
def Pe.ISSUED : Fld := ⟨0x108, 0, 64, .ro, 0⟩
/-- R156: `CYCLES` field `COUNT`. -/
def Pe.CYCLES : Fld := ⟨0x110, 0, 64, .ro, 0⟩
/-- R156: `TRAPS` field `COUNT`. -/
def Pe.TRAPS : Fld := ⟨0x118, 0, 64, .ro, 0⟩
/-- R195: `PE_TRAP_INFO` field `CODE`. -/
def Pe.PE_TRAP_INFO_CODE : Fld := ⟨0x10, 0, 8, .ro, 0⟩
/-- R195: `PE_TRAP_INFO` field `THREAD`. -/
def Pe.PE_TRAP_INFO_THREAD : Fld := ⟨0x10, 8, 3, .ro, 0⟩
/-- R195: `PE_TRAP_INFO` field `VALID`. -/
def Pe.PE_TRAP_INFO_VALID : Fld := ⟨0x10, 15, 1, .w1c, 0⟩
/-- R195: `PE_TRAP_INFO` field `PC`. -/
def Pe.PE_TRAP_INFO_PC : Fld := ⟨0x10, 16, 16, .ro, 0⟩
/-- R195: `PE_TRAP_INFO` field `INSTR`. -/
def Pe.PE_TRAP_INFO_INSTR : Fld := ⟨0x10, 32, 32, .ro, 0⟩
/-- R195: `TABLE_REFUSED` field `COUNT`. -/
def Pe.TABLE_REFUSED : Fld := ⟨0x120, 0, 64, .ro, 0⟩

/-- Registers of a PE tile. -/
def Pe.regs : List RegArr :=
  [ ⟨0x0, 8, 1, fun _ => [Pe.PE_STATUS_BUSY, Pe.PE_STATUS_WAITING, Pe.PE_STATUS_LOOKUPS_OUT]⟩
  , ⟨0x8, 8, 1, fun _ => [Pe.PE_CODE_OWNER, Pe.PE_CODE_LOADS]⟩
  , ⟨0x100, 8, 1, fun _ => [Pe.PKTS]⟩
  , ⟨0x108, 8, 1, fun _ => [Pe.ISSUED]⟩
  , ⟨0x110, 8, 1, fun _ => [Pe.CYCLES]⟩
  , ⟨0x118, 8, 1, fun _ => [Pe.TRAPS]⟩
  , ⟨0x10, 8, 1, fun _ => [Pe.PE_TRAP_INFO_CODE, Pe.PE_TRAP_INFO_THREAD, Pe.PE_TRAP_INFO_VALID, Pe.PE_TRAP_INFO_PC, Pe.PE_TRAP_INFO_INSTR]⟩
  , ⟨0x120, 8, 1, fun _ => [Pe.TABLE_REFUSED]⟩ ]

/-! ### the switch core -/

/-- R218: `SC_CFG` field `REPL_TABLE`. -/
def Sw.SC_CFG_REPL_TABLE : Fld := ⟨0x0, 0, 16, .rw, 0xffff⟩
/-- R218: `SC_CFG` field `ENCAP_TABLE`. -/
def Sw.SC_CFG_ENCAP_TABLE : Fld := ⟨0x0, 16, 16, .rw, 0xffff⟩
/-- R218: `SC_STATUS` field `FREE_CELLS`. -/
def Sw.SC_STATUS_FREE_CELLS : Fld := ⟨0x8, 0, 19, .ro, 393216⟩
/-- R218: `SC_STATUS` field `SHARED_FREE`. -/
def Sw.SC_STATUS_SHARED_FREE : Fld := ⟨0x8, 32, 19, .ro, 393216⟩
/-- R218: `SC_DESC` field `FREE_DESC`. -/
def Sw.SC_DESC_FREE_DESC : Fld := ⟨0x10, 0, 17, .ro, 98304⟩
/-- R218: `FASTPATH_DROP` field `COUNT`. -/
def Sw.FASTPATH_DROP : Fld := ⟨0x100, 0, 64, .ro, 0⟩
/-- R218: `NO_PORT_DROP` field `COUNT`. -/
def Sw.NO_PORT_DROP : Fld := ⟨0x108, 0, 64, .ro, 0⟩
/-- R218: `REPL_BAD` field `COUNT`. -/
def Sw.REPL_BAD : Fld := ⟨0x110, 0, 64, .ro, 0⟩
/-- R218: `REPL_DEPTH_DROP` field `COUNT`. -/
def Sw.REPL_DEPTH_DROP : Fld := ⟨0x118, 0, 64, .ro, 0⟩
/-- R218: `INPUT_OVERRUN` field `COUNT`. -/
def Sw.INPUT_OVERRUN : Fld := ⟨0x120, 0, 64, .ro, 0⟩
/-- R218: `ECC_CORR` field `COUNT`. -/
def Sw.ECC_CORR : Fld := ⟨0x128, 0, 64, .ro, 0⟩
/-- R218: `ECC_UNCORR` field `COUNT`. -/
def Sw.ECC_UNCORR : Fld := ⟨0x130, 0, 64, .ro, 0⟩
/-- R218: `ENCAP_DROP` field `COUNT`. -/
def Sw.ENCAP_DROP : Fld := ⟨0x138, 0, 64, .ro, 0⟩
/-- R218: `COUNT_REFUSED` field `COUNT`. -/
def Sw.COUNT_REFUSED : Fld := ⟨0x140, 0, 64, .ro, 0⟩

/-- Registers of the switch core. -/
def Sw.regs : List RegArr :=
  [ ⟨0x0, 8, 1, fun _ => [Sw.SC_CFG_REPL_TABLE, Sw.SC_CFG_ENCAP_TABLE]⟩
  , ⟨0x8, 8, 1, fun _ => [Sw.SC_STATUS_FREE_CELLS, Sw.SC_STATUS_SHARED_FREE]⟩
  , ⟨0x10, 8, 1, fun _ => [Sw.SC_DESC_FREE_DESC]⟩
  , ⟨0x100, 8, 1, fun _ => [Sw.FASTPATH_DROP]⟩
  , ⟨0x108, 8, 1, fun _ => [Sw.NO_PORT_DROP]⟩
  , ⟨0x110, 8, 1, fun _ => [Sw.REPL_BAD]⟩
  , ⟨0x118, 8, 1, fun _ => [Sw.REPL_DEPTH_DROP]⟩
  , ⟨0x120, 8, 1, fun _ => [Sw.INPUT_OVERRUN]⟩
  , ⟨0x128, 8, 1, fun _ => [Sw.ECC_CORR]⟩
  , ⟨0x130, 8, 1, fun _ => [Sw.ECC_UNCORR]⟩
  , ⟨0x138, 8, 1, fun _ => [Sw.ENCAP_DROP]⟩
  , ⟨0x140, 8, 1, fun _ => [Sw.COUNT_REFUSED]⟩ ]

/-! ### a logical port of the switch core -/

/-- R219: `LP_INFO` field `UNIT`. -/
def Swp.LP_INFO_UNIT : Fld := ⟨0x0, 0, 24, .ro, 0⟩
/-- R219: `LP_INFO` field `PRESENT`. -/
def Swp.LP_INFO_PRESENT : Fld := ⟨0x0, 31, 1, .ro, 0⟩
/-- R219: `LP_IN_CFG` field `LOSSLESS`. -/
def Swp.LP_IN_CFG_LOSSLESS : Fld := ⟨0x8, 0, 8, .rw, 0⟩
/-- R219: `LP_XOFF` field `XOFF`. -/
def Swp.LP_XOFF_XOFF : Fld := ⟨0x10, 0, 8, .ro, 0⟩

/-- Registers of a logical port of the switch core. -/
def Swp.regs : List RegArr :=
  [ ⟨0x0, 8, 1, fun _ => [Swp.LP_INFO_UNIT, Swp.LP_INFO_PRESENT]⟩
  , ⟨0x8, 8, 1, fun _ => [Swp.LP_IN_CFG_LOSSLESS]⟩
  , ⟨0x10, 8, 1, fun _ => [Swp.LP_XOFF_XOFF]⟩ ]

/-! ### a class block of a logical port -/

/-- R219: `Q_ADMIT` field `ALPHA_LOG2`. -/
def Swc.Q_ADMIT_ALPHA_LOG2 : Fld := ⟨0x0, 0, 8, .rw, 8⟩
/-- R219: `Q_LIMITS` field `FLOOR`. -/
def Swc.Q_LIMITS_FLOOR : Fld := ⟨0x8, 0, 19, .rw, 1024⟩
/-- R219: `Q_LIMITS` field `CEIL`. -/
def Swc.Q_LIMITS_CEIL : Fld := ⟨0x8, 32, 19, .rw, 98304⟩
/-- R219: `Q_MARK` field `MARK_CELLS`. -/
def Swc.Q_MARK_MARK_CELLS : Fld := ⟨0x10, 0, 19, .rw, 0⟩
/-- R219: `Q_STATUS` field `CELLS`. -/
def Swc.Q_STATUS_CELLS : Fld := ⟨0x18, 0, 19, .ro, 0⟩
/-- R219: `Q_STATUS` field `THRESH`. -/
def Swc.Q_STATUS_THRESH : Fld := ⟨0x18, 32, 19, .ro, 0⟩
/-- R219: `IN_PFC` field `XOFF_CELLS`. -/
def Swc.IN_PFC_XOFF_CELLS : Fld := ⟨0x20, 0, 19, .rw, 8192⟩
/-- R219: `IN_PFC` field `IN_ALPHA_LOG2`. -/
def Swc.IN_PFC_IN_ALPHA_LOG2 : Fld := ⟨0x20, 20, 8, .rw, 8⟩
/-- R219: `IN_PFC` field `XON_DELTA`. -/
def Swc.IN_PFC_XON_DELTA : Fld := ⟨0x20, 32, 16, .rw, 256⟩
/-- R219: `IN_PFC` field `HEADROOM`. -/
def Swc.IN_PFC_HEADROOM : Fld := ⟨0x20, 48, 16, .rw, 2048⟩
/-- R219: `IN_STATUS` field `INGRESS`. -/
def Swc.IN_STATUS_INGRESS : Fld := ⟨0x28, 0, 19, .ro, 0⟩
/-- R219: `IN_STATUS` field `XOFF_POINT`. -/
def Swc.IN_STATUS_XOFF_POINT : Fld := ⟨0x28, 32, 19, .ro, 0⟩
/-- R219: `ENQ_PKTS` field `COUNT`. -/
def Swc.ENQ_PKTS : Fld := ⟨0x80, 0, 64, .ro, 0⟩
/-- R219: `DEQ_PKTS` field `COUNT`. -/
def Swc.DEQ_PKTS : Fld := ⟨0x88, 0, 64, .ro, 0⟩
/-- R219: `DROP_THRESH` field `COUNT`. -/
def Swc.DROP_THRESH : Fld := ⟨0x90, 0, 64, .ro, 0⟩
/-- R219: `DROP_NOBUF` field `COUNT`. -/
def Swc.DROP_NOBUF : Fld := ⟨0x98, 0, 64, .ro, 0⟩
/-- R219: `MARKED` field `COUNT`. -/
def Swc.MARKED : Fld := ⟨0xa0, 0, 64, .ro, 0⟩
/-- R219: `HEADROOM_DROP` field `COUNT`. -/
def Swc.HEADROOM_DROP : Fld := ⟨0xa8, 0, 64, .ro, 0⟩

/-- Registers of a class block of a logical port. -/
def Swc.regs : List RegArr :=
  [ ⟨0x0, 8, 1, fun _ => [Swc.Q_ADMIT_ALPHA_LOG2]⟩
  , ⟨0x8, 8, 1, fun _ => [Swc.Q_LIMITS_FLOOR, Swc.Q_LIMITS_CEIL]⟩
  , ⟨0x10, 8, 1, fun _ => [Swc.Q_MARK_MARK_CELLS]⟩
  , ⟨0x18, 8, 1, fun _ => [Swc.Q_STATUS_CELLS, Swc.Q_STATUS_THRESH]⟩
  , ⟨0x20, 8, 1, fun _ => [Swc.IN_PFC_XOFF_CELLS, Swc.IN_PFC_IN_ALPHA_LOG2, Swc.IN_PFC_XON_DELTA, Swc.IN_PFC_HEADROOM]⟩
  , ⟨0x28, 8, 1, fun _ => [Swc.IN_STATUS_INGRESS, Swc.IN_STATUS_XOFF_POINT]⟩
  , ⟨0x80, 8, 1, fun _ => [Swc.ENQ_PKTS]⟩
  , ⟨0x88, 8, 1, fun _ => [Swc.DEQ_PKTS]⟩
  , ⟨0x90, 8, 1, fun _ => [Swc.DROP_THRESH]⟩
  , ⟨0x98, 8, 1, fun _ => [Swc.DROP_NOBUF]⟩
  , ⟨0xa0, 8, 1, fun _ => [Swc.MARKED]⟩
  , ⟨0xa8, 8, 1, fun _ => [Swc.HEADROOM_DROP]⟩ ]

/-! ### the wire scheduler of a logical port -/

/-- R236: `WS_PORT` field `SHAPER`. -/
def Ws.WS_PORT_SHAPER : Fld := ⟨0x0, 0, 19, .rw, 0x7ffff⟩
/-- R236: `WS_PORT` field `PREEMPT_ALLOW`. -/
def Ws.WS_PORT_PREEMPT_ALLOW : Fld := ⟨0x0, 32, 16, .rw, 1024⟩
/-- R236: `GCL_CTL` field `EN`. -/
def Ws.GCL_CTL_EN : Fld := ⟨0x10, 0, 1, .rw, 0⟩
/-- R236: `GCL_CTL` field `CHANGE`. -/
def Ws.GCL_CTL_CHANGE : Fld := ⟨0x10, 1, 1, .w1s, 0⟩
/-- R236: `GCL_CTL` field `ADMIN_LEN`. -/
def Ws.GCL_CTL_ADMIN_LEN : Fld := ⟨0x10, 16, 9, .rw, 1⟩
/-- R236: `GCL_BASE_NS` field `NS`. -/
def Ws.GCL_BASE_NS_NS : Fld := ⟨0x18, 0, 32, .rw, 0⟩
/-- R236: `GCL_BASE_SEC` field `SEC`. -/
def Ws.GCL_BASE_SEC_SEC : Fld := ⟨0x20, 0, 48, .rw, 0⟩
/-- R236: `GCL_CYCLE` field `NS`. -/
def Ws.GCL_CYCLE_NS : Fld := ⟨0x28, 0, 32, .rw, 1000000⟩
/-- R236: `GCL_STATUS` field `OPER_VALID`. -/
def Ws.GCL_STATUS_OPER_VALID : Fld := ⟨0x30, 0, 1, .ro, 0⟩
/-- R236: `GCL_STATUS` field `PENDING`. -/
def Ws.GCL_STATUS_PENDING : Fld := ⟨0x30, 1, 1, .ro, 0⟩
/-- R236: `GCL_STATUS` field `OPER_LEN`. -/
def Ws.GCL_STATUS_OPER_LEN : Fld := ⟨0x30, 16, 9, .ro, 0⟩
/-- R236: `GCL_STATUS` field `CUR_ENTRY`. -/
def Ws.GCL_STATUS_CUR_ENTRY : Fld := ⟨0x30, 32, 8, .ro, 0⟩
/-- R236: `GCL_STATUS` field `GATES`. -/
def Ws.GCL_STATUS_GATES : Fld := ⟨0x30, 40, 8, .ro, 0xff⟩
/-- R236: `GCL_CHANGE_NS` field `NS`. -/
def Ws.GCL_CHANGE_NS_NS : Fld := ⟨0x38, 0, 32, .ro, 0⟩
/-- R236: `GCL_CHANGE_SEC` field `SEC`. -/
def Ws.GCL_CHANGE_SEC_SEC : Fld := ⟨0x40, 0, 48, .ro, 0⟩
/-- R236: `GCL_OPER_CYCLE` field `NS`. -/
def Ws.GCL_OPER_CYCLE_NS : Fld := ⟨0x48, 0, 32, .ro, 0⟩
/-- R236: `WS_CLASS` field `PRIO`, element `i`. -/
def Ws.WS_CLASS_PRIO (i : Nat) : Fld := ⟨0x80 + 8 * i, 0, 3, .rw, 7 - i⟩
/-- R236: `WS_CLASS` field `WEIGHT`, element `i`. -/
def Ws.WS_CLASS_WEIGHT (i : Nat) : Fld := ⟨0x80 + 8 * i, 16, 8, .rw, 1⟩
/-- R236: `WS_CLASS` field `SHAPER`, element `i`. -/
def Ws.WS_CLASS_SHAPER (i : Nat) : Fld := ⟨0x80 + 8 * i, 32, 19, .rw, 0x7ffff⟩
/-- R236: `GATE_HELD` field `COUNT`. -/
def Ws.GATE_HELD : Fld := ⟨0x100, 0, 64, .ro, 0⟩
/-- R236: `GATE_LATE` field `COUNT`. -/
def Ws.GATE_LATE : Fld := ⟨0x108, 0, 64, .ro, 0⟩
/-- R236: `GATE_OVERSIZE_DROP` field `COUNT`. -/
def Ws.GATE_OVERSIZE_DROP : Fld := ⟨0x110, 0, 64, .ro, 0⟩
/-- R236: `GCL_ADMIN` field `GATES`, element `i`. -/
def Ws.GCL_ADMIN_GATES (i : Nat) : Fld := ⟨0x800 + 8 * i, 0, 8, .rw, 0xff⟩
/-- R236: `GCL_ADMIN` field `INTERVAL`, element `i`. -/
def Ws.GCL_ADMIN_INTERVAL (i : Nat) : Fld := ⟨0x800 + 8 * i, 32, 32, .rw, 1000000⟩
/-- R236: `GCL_OPER` field `RAW`, element `i`. -/
def Ws.GCL_OPER_RAW (i : Nat) : Fld := ⟨0x1000 + 8 * i, 0, 64, .ro, 0⟩

/-- Registers of the wire scheduler of a logical port. -/
def Ws.regs : List RegArr :=
  [ ⟨0x0, 8, 1, fun _ => [Ws.WS_PORT_SHAPER, Ws.WS_PORT_PREEMPT_ALLOW]⟩
  , ⟨0x10, 8, 1, fun _ => [Ws.GCL_CTL_EN, Ws.GCL_CTL_CHANGE, Ws.GCL_CTL_ADMIN_LEN]⟩
  , ⟨0x18, 8, 1, fun _ => [Ws.GCL_BASE_NS_NS]⟩
  , ⟨0x20, 8, 1, fun _ => [Ws.GCL_BASE_SEC_SEC]⟩
  , ⟨0x28, 8, 1, fun _ => [Ws.GCL_CYCLE_NS]⟩
  , ⟨0x30, 8, 1, fun _ => [Ws.GCL_STATUS_OPER_VALID, Ws.GCL_STATUS_PENDING, Ws.GCL_STATUS_OPER_LEN, Ws.GCL_STATUS_CUR_ENTRY, Ws.GCL_STATUS_GATES]⟩
  , ⟨0x38, 8, 1, fun _ => [Ws.GCL_CHANGE_NS_NS]⟩
  , ⟨0x40, 8, 1, fun _ => [Ws.GCL_CHANGE_SEC_SEC]⟩
  , ⟨0x48, 8, 1, fun _ => [Ws.GCL_OPER_CYCLE_NS]⟩
  , ⟨0x80, 8, 8, fun i => [Ws.WS_CLASS_PRIO i, Ws.WS_CLASS_WEIGHT i, Ws.WS_CLASS_SHAPER i]⟩
  , ⟨0x100, 8, 1, fun _ => [Ws.GATE_HELD]⟩
  , ⟨0x108, 8, 1, fun _ => [Ws.GATE_LATE]⟩
  , ⟨0x110, 8, 1, fun _ => [Ws.GATE_OVERSIZE_DROP]⟩
  , ⟨0x800, 8, 256, fun i => [Ws.GCL_ADMIN_GATES i, Ws.GCL_ADMIN_INTERVAL i]⟩
  , ⟨0x1000, 8, 256, fun i => [Ws.GCL_OPER_RAW i]⟩ ]

/-! ### the meter interface of the switch core -/

/-- R239: `MTR_CMD` field `TABLE_ID`. -/
def Mtr.MTR_CMD_TABLE_ID : Fld := ⟨0x0, 0, 16, .rw, 0⟩
/-- R239: `MTR_CMD` field `OP`. -/
def Mtr.MTR_CMD_OP : Fld := ⟨0x0, 16, 4, .rw, 0⟩
/-- R239: `MTR_CMD` field `EVT`. -/
def Mtr.MTR_CMD_EVT : Fld := ⟨0x0, 20, 1, .rw, 0⟩
/-- R239: `MTR_INDEX` field `INDEX`. -/
def Mtr.MTR_INDEX_INDEX : Fld := ⟨0x8, 0, 32, .rw, 0⟩
/-- R239: `MTR_STATUS` field `BUSY`. -/
def Mtr.MTR_STATUS_BUSY : Fld := ⟨0x10, 0, 1, .ro, 0⟩
/-- R239: `MTR_STATUS` field `OVERRUN`. -/
def Mtr.MTR_STATUS_OVERRUN : Fld := ⟨0x10, 1, 1, .w1c, 0⟩
/-- R239: `MTR_STATUS` field `RESULT`. -/
def Mtr.MTR_STATUS_RESULT : Fld := ⟨0x10, 8, 8, .ro, 0⟩
/-- R239: `MTR_DATA` field `W`, element `i`. -/
def Mtr.MTR_DATA_W (i : Nat) : Fld := ⟨0x100 + 8 * i, 0, 64, .rw, 0⟩

/-- Registers of the meter interface of the switch core. -/
def Mtr.regs : List RegArr :=
  [ ⟨0x0, 8, 1, fun _ => [Mtr.MTR_CMD_TABLE_ID, Mtr.MTR_CMD_OP, Mtr.MTR_CMD_EVT]⟩
  , ⟨0x8, 8, 1, fun _ => [Mtr.MTR_INDEX_INDEX]⟩
  , ⟨0x10, 8, 1, fun _ => [Mtr.MTR_STATUS_BUSY, Mtr.MTR_STATUS_OVERRUN, Mtr.MTR_STATUS_RESULT]⟩
  , ⟨0x100, 8, 4, fun i => [Mtr.MTR_DATA_W i]⟩ ]

/-! ### a crypto tile -/

/-- R257: `SA_CMD` field `OP`. -/
def Cry.SA_CMD_OP : Fld := ⟨0x0, 0, 4, .rw, 0⟩
/-- R257: `SA_CMD` field `EVT`. -/
def Cry.SA_CMD_EVT : Fld := ⟨0x0, 4, 1, .rw, 0⟩
/-- R257: `SA_INDEX` field `INDEX`. -/
def Cry.SA_INDEX_INDEX : Fld := ⟨0x8, 0, 21, .rw, 0⟩
/-- R257: `SA_STATUS` field `BUSY`. -/
def Cry.SA_STATUS_BUSY : Fld := ⟨0x10, 0, 1, .ro, 0⟩
/-- R257: `SA_STATUS` field `OVERRUN`. -/
def Cry.SA_STATUS_OVERRUN : Fld := ⟨0x10, 1, 1, .w1c, 0⟩
/-- R257: `SA_STATUS` field `RESULT`. -/
def Cry.SA_STATUS_RESULT : Fld := ⟨0x10, 8, 8, .ro, 0⟩
/-- R257: `SA_DATA` field `W`, element `i`. -/
def Cry.SA_DATA_W (i : Nat) : Fld := ⟨0x100 + 8 * i, 0, 64, .rw, 0⟩
/-- R259: `PKTS_OK` field `COUNT`. -/
def Cry.PKTS_OK : Fld := ⟨0x200, 0, 64, .ro, 0⟩
/-- R259: `BYTES_OK` field `COUNT`. -/
def Cry.BYTES_OK : Fld := ⟨0x208, 0, 64, .ro, 0⟩
/-- R259: `ICV_FAIL` field `COUNT`. -/
def Cry.ICV_FAIL : Fld := ⟨0x210, 0, 64, .ro, 0⟩
/-- R259: `MALFORMED_DROP` field `COUNT`. -/
def Cry.MALFORMED_DROP : Fld := ⟨0x218, 0, 64, .ro, 0⟩
/-- R259: `NO_KEY_DROP` field `COUNT`. -/
def Cry.NO_KEY_DROP : Fld := ⟨0x220, 0, 64, .ro, 0⟩
/-- R259: `REPLAY_DROP` field `COUNT`. -/
def Cry.REPLAY_DROP : Fld := ⟨0x228, 0, 64, .ro, 0⟩
/-- R259: `SEQ_EXHAUSTED` field `COUNT`. -/
def Cry.SEQ_EXHAUSTED : Fld := ⟨0x230, 0, 64, .ro, 0⟩
/-- R259: `TLS_RESYNC` field `COUNT`. -/
def Cry.TLS_RESYNC : Fld := ⟨0x238, 0, 64, .ro, 0⟩
/-- R259: `DELIVERED_FAIL` field `COUNT`. -/
def Cry.DELIVERED_FAIL : Fld := ⟨0x240, 0, 64, .ro, 0⟩
/-- R259: `KEY_OVERLAP` field `COUNT`. -/
def Cry.KEY_OVERLAP : Fld := ⟨0x248, 0, 64, .ro, 0⟩
/-- R259: `OVERLAP_PASSES` field `COUNT`. -/
def Cry.OVERLAP_PASSES : Fld := ⟨0x250, 0, 64, .ro, 0⟩
/-- R259: `CACHE_MISS` field `COUNT`. -/
def Cry.CACHE_MISS : Fld := ⟨0x258, 0, 64, .ro, 0⟩
/-- R259: `SEQ_HOLD` field `COUNT`. -/
def Cry.SEQ_HOLD : Fld := ⟨0x260, 0, 64, .ro, 0⟩

/-- Registers of a crypto tile. -/
def Cry.regs : List RegArr :=
  [ ⟨0x0, 8, 1, fun _ => [Cry.SA_CMD_OP, Cry.SA_CMD_EVT]⟩
  , ⟨0x8, 8, 1, fun _ => [Cry.SA_INDEX_INDEX]⟩
  , ⟨0x10, 8, 1, fun _ => [Cry.SA_STATUS_BUSY, Cry.SA_STATUS_OVERRUN, Cry.SA_STATUS_RESULT]⟩
  , ⟨0x100, 8, 32, fun i => [Cry.SA_DATA_W i]⟩
  , ⟨0x200, 8, 1, fun _ => [Cry.PKTS_OK]⟩
  , ⟨0x208, 8, 1, fun _ => [Cry.BYTES_OK]⟩
  , ⟨0x210, 8, 1, fun _ => [Cry.ICV_FAIL]⟩
  , ⟨0x218, 8, 1, fun _ => [Cry.MALFORMED_DROP]⟩
  , ⟨0x220, 8, 1, fun _ => [Cry.NO_KEY_DROP]⟩
  , ⟨0x228, 8, 1, fun _ => [Cry.REPLAY_DROP]⟩
  , ⟨0x230, 8, 1, fun _ => [Cry.SEQ_EXHAUSTED]⟩
  , ⟨0x238, 8, 1, fun _ => [Cry.TLS_RESYNC]⟩
  , ⟨0x240, 8, 1, fun _ => [Cry.DELIVERED_FAIL]⟩
  , ⟨0x248, 8, 1, fun _ => [Cry.KEY_OVERLAP]⟩
  , ⟨0x250, 8, 1, fun _ => [Cry.OVERLAP_PASSES]⟩
  , ⟨0x258, 8, 1, fun _ => [Cry.CACHE_MISS]⟩
  , ⟨0x260, 8, 1, fun _ => [Cry.SEQ_HOLD]⟩ ]

/-! ### a transport tile -/

/-- R285: `TP_STATUS` field `CACHED`. -/
def Tp.TP_STATUS_CACHED : Fld := ⟨0x0, 0, 11, .ro, 0⟩
/-- R285: `TP_STATUS` field `TALLY_HELD`. -/
def Tp.TP_STATUS_TALLY_HELD : Fld := ⟨0x0, 16, 20, .ro, 0⟩
/-- R285: `TX_PKTS` field `COUNT`. -/
def Tp.TX_PKTS : Fld := ⟨0x100, 0, 64, .ro, 0⟩
/-- R285: `RETX_PKTS` field `COUNT`. -/
def Tp.RETX_PKTS : Fld := ⟨0x108, 0, 64, .ro, 0⟩
/-- R285: `RX_PKTS` field `COUNT`. -/
def Tp.RX_PKTS : Fld := ⟨0x110, 0, 64, .ro, 0⟩
/-- R285: `ICRC_ERR` field `COUNT`. -/
def Tp.ICRC_ERR : Fld := ⟨0x118, 0, 64, .ro, 0⟩
/-- R285: `NO_CONN_DROP` field `COUNT`. -/
def Tp.NO_CONN_DROP : Fld := ⟨0x120, 0, 64, .ro, 0⟩
/-- R285: `DUP_RX` field `COUNT`. -/
def Tp.DUP_RX : Fld := ⟨0x128, 0, 64, .ro, 0⟩
/-- R285: `NAK_SEQ_TX` field `COUNT`. -/
def Tp.NAK_SEQ_TX : Fld := ⟨0x130, 0, 64, .ro, 0⟩
/-- R285: `RNR_TX` field `COUNT`. -/
def Tp.RNR_TX : Fld := ⟨0x138, 0, 64, .ro, 0⟩
/-- R285: `TIMEOUTS` field `COUNT`. -/
def Tp.TIMEOUTS : Fld := ⟨0x140, 0, 64, .ro, 0⟩
/-- R285: `CNP_TX` field `COUNT`. -/
def Tp.CNP_TX : Fld := ⟨0x148, 0, 64, .ro, 0⟩
/-- R285: `CNP_RX` field `COUNT`. -/
def Tp.CNP_RX : Fld := ⟨0x150, 0, 64, .ro, 0⟩
/-- R285: `CC_INC` field `COUNT`. -/
def Tp.CC_INC : Fld := ⟨0x158, 0, 64, .ro, 0⟩
/-- R285: `CC_DEC_DELAY` field `COUNT`. -/
def Tp.CC_DEC_DELAY : Fld := ⟨0x160, 0, 64, .ro, 0⟩
/-- R285: `CC_DEC_CNP` field `COUNT`. -/
def Tp.CC_DEC_CNP : Fld := ⟨0x168, 0, 64, .ro, 0⟩
/-- R285: `CC_DEC_TIMEOUT` field `COUNT`. -/
def Tp.CC_DEC_TIMEOUT : Fld := ⟨0x170, 0, 64, .ro, 0⟩
/-- R285: `TETHER_BYPASS` field `COUNT`. -/
def Tp.TETHER_BYPASS : Fld := ⟨0x178, 0, 64, .ro, 0⟩

/-- Registers of a transport tile. -/
def Tp.regs : List RegArr :=
  [ ⟨0x0, 8, 1, fun _ => [Tp.TP_STATUS_CACHED, Tp.TP_STATUS_TALLY_HELD]⟩
  , ⟨0x100, 8, 1, fun _ => [Tp.TX_PKTS]⟩
  , ⟨0x108, 8, 1, fun _ => [Tp.RETX_PKTS]⟩
  , ⟨0x110, 8, 1, fun _ => [Tp.RX_PKTS]⟩
  , ⟨0x118, 8, 1, fun _ => [Tp.ICRC_ERR]⟩
  , ⟨0x120, 8, 1, fun _ => [Tp.NO_CONN_DROP]⟩
  , ⟨0x128, 8, 1, fun _ => [Tp.DUP_RX]⟩
  , ⟨0x130, 8, 1, fun _ => [Tp.NAK_SEQ_TX]⟩
  , ⟨0x138, 8, 1, fun _ => [Tp.RNR_TX]⟩
  , ⟨0x140, 8, 1, fun _ => [Tp.TIMEOUTS]⟩
  , ⟨0x148, 8, 1, fun _ => [Tp.CNP_TX]⟩
  , ⟨0x150, 8, 1, fun _ => [Tp.CNP_RX]⟩
  , ⟨0x158, 8, 1, fun _ => [Tp.CC_INC]⟩
  , ⟨0x160, 8, 1, fun _ => [Tp.CC_DEC_DELAY]⟩
  , ⟨0x168, 8, 1, fun _ => [Tp.CC_DEC_CNP]⟩
  , ⟨0x170, 8, 1, fun _ => [Tp.CC_DEC_TIMEOUT]⟩
  , ⟨0x178, 8, 1, fun _ => [Tp.TETHER_BYPASS]⟩ ]

/-! ### a storage tile -/

/-- R301: `ST_STATUS` field `CACHED`. -/
def St.ST_STATUS_CACHED : Fld := ⟨0x0, 0, 12, .ro, 0⟩
/-- R301: `ST_STATUS` field `TALLY_HELD`. -/
def St.ST_STATUS_TALLY_HELD : Fld := ⟨0x0, 16, 19, .ro, 0⟩
/-- R301: `CMDS` field `COUNT`. -/
def St.CMDS : Fld := ⟨0x100, 0, 64, .ro, 0⟩
/-- R301: `CMD_ERR` field `COUNT`. -/
def St.CMD_ERR : Fld := ⟨0x108, 0, 64, .ro, 0⟩
/-- R301: `SUBCMDS` field `COUNT`. -/
def St.SUBCMDS : Fld := ⟨0x110, 0, 64, .ro, 0⟩
/-- R301: `BYTES_READ` field `COUNT`. -/
def St.BYTES_READ : Fld := ⟨0x118, 0, 64, .ro, 0⟩
/-- R301: `BYTES_WRITTEN` field `COUNT`. -/
def St.BYTES_WRITTEN : Fld := ⟨0x120, 0, 64, .ro, 0⟩
/-- R301: `PI_INSERTED` field `COUNT`. -/
def St.PI_INSERTED : Fld := ⟨0x128, 0, 64, .ro, 0⟩
/-- R301: `PI_ERR` field `COUNT`. -/
def St.PI_ERR : Fld := ⟨0x130, 0, 64, .ro, 0⟩
/-- R301: `HDGST_ERR` field `COUNT`. -/
def St.HDGST_ERR : Fld := ⟨0x138, 0, 64, .ro, 0⟩
/-- R301: `DDGST_ERR` field `COUNT`. -/
def St.DDGST_ERR : Fld := ⟨0x140, 0, 64, .ro, 0⟩
/-- R301: `TCP_RETX` field `COUNT`. -/
def St.TCP_RETX : Fld := ⟨0x148, 0, 64, .ro, 0⟩
/-- R301: `NO_SESSION_DROP` field `COUNT`. -/
def St.NO_SESSION_DROP : Fld := ⟨0x150, 0, 64, .ro, 0⟩
/-- R301: `FENCE_WAITS` field `COUNT`. -/
def St.FENCE_WAITS : Fld := ⟨0x158, 0, 64, .ro, 0⟩

/-- Registers of a storage tile. -/
def St.regs : List RegArr :=
  [ ⟨0x0, 8, 1, fun _ => [St.ST_STATUS_CACHED, St.ST_STATUS_TALLY_HELD]⟩
  , ⟨0x100, 8, 1, fun _ => [St.CMDS]⟩
  , ⟨0x108, 8, 1, fun _ => [St.CMD_ERR]⟩
  , ⟨0x110, 8, 1, fun _ => [St.SUBCMDS]⟩
  , ⟨0x118, 8, 1, fun _ => [St.BYTES_READ]⟩
  , ⟨0x120, 8, 1, fun _ => [St.BYTES_WRITTEN]⟩
  , ⟨0x128, 8, 1, fun _ => [St.PI_INSERTED]⟩
  , ⟨0x130, 8, 1, fun _ => [St.PI_ERR]⟩
  , ⟨0x138, 8, 1, fun _ => [St.HDGST_ERR]⟩
  , ⟨0x140, 8, 1, fun _ => [St.DDGST_ERR]⟩
  , ⟨0x148, 8, 1, fun _ => [St.TCP_RETX]⟩
  , ⟨0x150, 8, 1, fun _ => [St.NO_SESSION_DROP]⟩
  , ⟨0x158, 8, 1, fun _ => [St.FENCE_WAITS]⟩ ]

/-! ### a host group hitch -/

/-- R316: `APT0` field `VALID`, element `i`. -/
def Hg.APT0_VALID (i : Nat) : Fld := ⟨0x1000 + 16 * i, 0, 1, .ro, 0⟩
/-- R316: `APT0` field `SIZE_LOG2`, element `i`. -/
def Hg.APT0_SIZE_LOG2 (i : Nat) : Fld := ⟨0x1000 + 16 * i, 1, 6, .ro, 0⟩
/-- R316: `APT0` field `OFFSET`, element `i`. -/
def Hg.APT0_OFFSET (i : Nat) : Fld := ⟨0x1000 + 16 * i, 12, 18, .ro, 0⟩
/-- R316: `APT0_1` field `HADDR`, element `i`. -/
def Hg.APT0_HADDR (i : Nat) : Fld := ⟨0x1008 + 16 * i, 0, 48, .ro, 0⟩
/-- R316: `APT2` field `VALID`, element `i`. -/
def Hg.APT2_VALID (i : Nat) : Fld := ⟨0x1400 + 16 * i, 0, 1, .ro, 0⟩
/-- R316: `APT2` field `SIZE_LOG2`, element `i`. -/
def Hg.APT2_SIZE_LOG2 (i : Nat) : Fld := ⟨0x1400 + 16 * i, 1, 6, .ro, 0⟩
/-- R316: `APT2` field `OFFSET`, element `i`. -/
def Hg.APT2_OFFSET (i : Nat) : Fld := ⟨0x1400 + 16 * i, 12, 18, .ro, 0⟩
/-- R316: `APT2_1` field `HADDR`, element `i`. -/
def Hg.APT2_HADDR (i : Nat) : Fld := ⟨0x1408 + 16 * i, 0, 48, .ro, 0⟩
/-- R316: `UNMAPPED_RD` field `COUNT`. -/
def Hg.UNMAPPED_RD : Fld := ⟨0x200, 0, 64, .ro, 0⟩
/-- R316: `UNMAPPED_WR` field `COUNT`. -/
def Hg.UNMAPPED_WR : Fld := ⟨0x208, 0, 64, .ro, 0⟩
/-- R316: `BAD_SIZE` field `COUNT`. -/
def Hg.BAD_SIZE : Fld := ⟨0x210, 0, 64, .ro, 0⟩
/-- R316: `DB_DISCARD` field `COUNT`. -/
def Hg.DB_DISCARD : Fld := ⟨0x218, 0, 64, .ro, 0⟩

/-- Registers of a host group hitch. -/
def Hg.regs : List RegArr :=
  [ ⟨0x1000, 16, 64, fun i => [Hg.APT0_VALID i, Hg.APT0_SIZE_LOG2 i, Hg.APT0_OFFSET i]⟩
  , ⟨0x1008, 16, 64, fun i => [Hg.APT0_HADDR i]⟩
  , ⟨0x1400, 16, 64, fun i => [Hg.APT2_VALID i, Hg.APT2_SIZE_LOG2 i, Hg.APT2_OFFSET i]⟩
  , ⟨0x1408, 16, 64, fun i => [Hg.APT2_HADDR i]⟩
  , ⟨0x200, 8, 1, fun _ => [Hg.UNMAPPED_RD]⟩
  , ⟨0x208, 8, 1, fun _ => [Hg.UNMAPPED_WR]⟩
  , ⟨0x210, 8, 1, fun _ => [Hg.BAD_SIZE]⟩
  , ⟨0x218, 8, 1, fun _ => [Hg.DB_DISCARD]⟩ ]

/-! ### an endpoint tile -/

/-- R325: `EP_CFG_CTL` field `CFG_READY`. -/
def Ep.EP_CFG_CTL_CFG_READY : Fld := ⟨0x100, 0, 1, .w1s, 0⟩
/-- R325: `EP_CFG_CTL` field `ROM_PRESENT`. -/
def Ep.EP_CFG_CTL_ROM_PRESENT : Fld := ⟨0x100, 1, 1, .rw, 0⟩
/-- R325: `EP_CFG_CTL` field `AUTO_READY`. -/
def Ep.EP_CFG_CTL_AUTO_READY : Fld := ⟨0x100, 2, 1, .ro, 0⟩
/-- R325: `EP_SUBSYS` field `SSVID`. -/
def Ep.EP_SUBSYS_SSVID : Fld := ⟨0x108, 0, 16, .rw, 0x1f9c⟩
/-- R325: `EP_SUBSYS` field `SSID`. -/
def Ep.EP_SUBSYS_SSID : Fld := ⟨0x108, 16, 16, .rw, 0⟩
/-- R325: `EP_LINK_CTL` field `MAX_RATE`. -/
def Ep.EP_LINK_CTL_MAX_RATE : Fld := ⟨0x110, 0, 3, .rw, 7⟩
/-- R325: `EP_LINK_CTL` field `MAX_WIDTH`. -/
def Ep.EP_LINK_CTL_MAX_WIDTH : Fld := ⟨0x110, 3, 5, .rw, 16⟩
/-- R325: `EP_LINK_CTL` field `L1_IDLE_US`. -/
def Ep.EP_LINK_CTL_L1_IDLE_US : Fld := ⟨0x110, 8, 10, .rw, 8⟩
/-- R325: `EP_LINK_CTL` field `L0P_AUTO`. -/
def Ep.EP_LINK_CTL_L0P_AUTO : Fld := ⟨0x110, 18, 1, .rw, 1⟩
/-- R325: `EP_LINK_CTL` field `L0P_MIN_WIDTH`. -/
def Ep.EP_LINK_CTL_L0P_MIN_WIDTH : Fld := ⟨0x110, 19, 5, .rw, 4⟩
/-- R325: `EP_LINK_STATUS` field `RATE`. -/
def Ep.EP_LINK_STATUS_RATE : Fld := ⟨0x118, 0, 3, .ro, 0⟩
/-- R325: `EP_LINK_STATUS` field `WIDTH`. -/
def Ep.EP_LINK_STATUS_WIDTH : Fld := ⟨0x118, 3, 5, .ro, 0⟩
/-- R325: `EP_LINK_STATUS` field `CUR_WIDTH`. -/
def Ep.EP_LINK_STATUS_CUR_WIDTH : Fld := ⟨0x118, 8, 5, .ro, 0⟩
/-- R325: `EP_LINK_STATUS` field `FLIT`. -/
def Ep.EP_LINK_STATUS_FLIT : Fld := ⟨0x118, 13, 1, .ro, 0⟩
/-- R325: `EP_LINK_STATUS` field `PM_STATE`. -/
def Ep.EP_LINK_STATUS_PM_STATE : Fld := ⟨0x118, 14, 3, .ro, 5⟩
/-- R325: `ROM_ADDR` field `ADDR`. -/
def Ep.ROM_ADDR_ADDR : Fld := ⟨0x120, 3, 17, .rw, 0⟩
/-- R325: `ROM_DATA` field `DATA`. -/
def Ep.ROM_DATA_DATA : Fld := ⟨0x128, 0, 64, .wo, 0⟩
/-- R325: `LINK_DOWN` field `COUNT`. -/
def Ep.LINK_DOWN : Fld := ⟨0x200, 0, 64, .ro, 0⟩
/-- R325: `RECOVERY` field `COUNT`. -/
def Ep.RECOVERY : Fld := ⟨0x208, 0, 64, .ro, 0⟩
/-- R325: `L1_ENTRIES` field `COUNT`. -/
def Ep.L1_ENTRIES : Fld := ⟨0x210, 0, 64, .ro, 0⟩
/-- R325: `L0P_NARROW` field `COUNT`. -/
def Ep.L0P_NARROW : Fld := ⟨0x218, 0, 64, .ro, 0⟩
/-- R325: `L0P_WIDEN` field `COUNT`. -/
def Ep.L0P_WIDEN : Fld := ⟨0x220, 0, 64, .ro, 0⟩
/-- R325: `L0P_REFUSED` field `COUNT`. -/
def Ep.L0P_REFUSED : Fld := ⟨0x228, 0, 64, .ro, 0⟩
/-- R325: `RRS_SENT` field `COUNT`. -/
def Ep.RRS_SENT : Fld := ⟨0x230, 0, 64, .ro, 0⟩
/-- R375: `QSEL` field `QID`. -/
def Ep.QSEL_QID : Fld := ⟨0x900, 0, 18, .rw, 0⟩
/-- R375: `QCTL` field `ENABLE`. -/
def Ep.QCTL_ENABLE : Fld := ⟨0x908, 0, 1, .rw, 0⟩
/-- R375: `QSTAT` field `IDLE`. -/
def Ep.QSTAT_IDLE : Fld := ⟨0x910, 0, 1, .ro, 0⟩
/-- R375: `QSTAT` field `VALID`. -/
def Ep.QSTAT_VALID : Fld := ⟨0x910, 1, 1, .ro, 0⟩
/-- R375: `QSTAT` field `STATE`. -/
def Ep.QSTAT_STATE : Fld := ⟨0x910, 2, 4, .ro, 0⟩
/-- R375: `QSTAT` field `HEAD`. -/
def Ep.QSTAT_HEAD : Fld := ⟨0x910, 16, 16, .ro, 0⟩
/-- R377: `AQ_WQ_BASE` field `ADDR`. -/
def Ep.AQ_WQ_BASE_ADDR : Fld := ⟨0x800, 12, 52, .rw, 0⟩
/-- R377: `AQ_CQ_BASE` field `ADDR`. -/
def Ep.AQ_CQ_BASE_ADDR : Fld := ⟨0x808, 12, 52, .rw, 0⟩
/-- R377: `AQ_CFG` field `ENABLE`. -/
def Ep.AQ_CFG_ENABLE : Fld := ⟨0x810, 0, 1, .rw, 0⟩
/-- R377: `AQ_CFG` field `WQ_SIZE_LOG2`. -/
def Ep.AQ_CFG_WQ_SIZE_LOG2 : Fld := ⟨0x810, 4, 4, .rw, 6⟩
/-- R377: `AQ_CFG` field `CQ_SIZE_LOG2`. -/
def Ep.AQ_CFG_CQ_SIZE_LOG2 : Fld := ⟨0x810, 8, 4, .rw, 6⟩
/-- R377: `AQ_CFG` field `EQ`. -/
def Ep.AQ_CFG_EQ : Fld := ⟨0x810, 12, 10, .rw, 0⟩
/-- R377: `AQ_CFG` field `EQ_EN`. -/
def Ep.AQ_CFG_EQ_EN : Fld := ⟨0x810, 22, 1, .rw, 0⟩
/-- R377: `AQ_STATUS` field `STATE`. -/
def Ep.AQ_STATUS_STATE : Fld := ⟨0x818, 0, 2, .ro, 0⟩
/-- R377: `AQ_STATUS` field `BUSY`. -/
def Ep.AQ_STATUS_BUSY : Fld := ⟨0x818, 2, 1, .ro, 0⟩
/-- R377: `AQ_STATUS` field `IN_FLIGHT`. -/
def Ep.AQ_STATUS_IN_FLIGHT : Fld := ⟨0x818, 3, 5, .ro, 0⟩
/-- R377: `AQ_STATUS` field `HEAD`. -/
def Ep.AQ_STATUS_HEAD : Fld := ⟨0x818, 8, 16, .ro, 0⟩
/-- R377: `AQ_STATUS` field `HEAD_PHASE`. -/
def Ep.AQ_STATUS_HEAD_PHASE : Fld := ⟨0x818, 24, 1, .ro, 1⟩
/-- R377: `AQ_STATUS` field `QERR_CODE`. -/
def Ep.AQ_STATUS_QERR_CODE : Fld := ⟨0x818, 32, 8, .ro, 0⟩
/-- R377: `AQ_STATUS` field `QERR_INDEX`. -/
def Ep.AQ_STATUS_QERR_INDEX : Fld := ⟨0x818, 40, 16, .ro, 0⟩
/-- R377: `AQ_CQ_POS` field `POS`. -/
def Ep.AQ_CQ_POS_POS : Fld := ⟨0x820, 0, 16, .ro, 0⟩
/-- R377: `AQ_CQ_POS` field `PHASE`. -/
def Ep.AQ_CQ_POS_PHASE : Fld := ⟨0x820, 16, 1, .ro, 1⟩

/-- Registers of an endpoint tile, part 0. -/
def Ep.regs0 : List RegArr :=
  [ ⟨0x100, 8, 1, fun _ => [Ep.EP_CFG_CTL_CFG_READY, Ep.EP_CFG_CTL_ROM_PRESENT, Ep.EP_CFG_CTL_AUTO_READY]⟩
  , ⟨0x108, 8, 1, fun _ => [Ep.EP_SUBSYS_SSVID, Ep.EP_SUBSYS_SSID]⟩
  , ⟨0x110, 8, 1, fun _ => [Ep.EP_LINK_CTL_MAX_RATE, Ep.EP_LINK_CTL_MAX_WIDTH, Ep.EP_LINK_CTL_L1_IDLE_US, Ep.EP_LINK_CTL_L0P_AUTO, Ep.EP_LINK_CTL_L0P_MIN_WIDTH]⟩
  , ⟨0x118, 8, 1, fun _ => [Ep.EP_LINK_STATUS_RATE, Ep.EP_LINK_STATUS_WIDTH, Ep.EP_LINK_STATUS_CUR_WIDTH, Ep.EP_LINK_STATUS_FLIT, Ep.EP_LINK_STATUS_PM_STATE]⟩
  , ⟨0x120, 8, 1, fun _ => [Ep.ROM_ADDR_ADDR]⟩
  , ⟨0x128, 8, 1, fun _ => [Ep.ROM_DATA_DATA]⟩
  , ⟨0x200, 8, 1, fun _ => [Ep.LINK_DOWN]⟩
  , ⟨0x208, 8, 1, fun _ => [Ep.RECOVERY]⟩
  , ⟨0x210, 8, 1, fun _ => [Ep.L1_ENTRIES]⟩
  , ⟨0x218, 8, 1, fun _ => [Ep.L0P_NARROW]⟩
  , ⟨0x220, 8, 1, fun _ => [Ep.L0P_WIDEN]⟩
  , ⟨0x228, 8, 1, fun _ => [Ep.L0P_REFUSED]⟩
  , ⟨0x230, 8, 1, fun _ => [Ep.RRS_SENT]⟩
  , ⟨0x900, 8, 1, fun _ => [Ep.QSEL_QID]⟩
  , ⟨0x908, 8, 1, fun _ => [Ep.QCTL_ENABLE]⟩
  , ⟨0x910, 8, 1, fun _ => [Ep.QSTAT_IDLE, Ep.QSTAT_VALID, Ep.QSTAT_STATE, Ep.QSTAT_HEAD]⟩
  , ⟨0x800, 8, 1, fun _ => [Ep.AQ_WQ_BASE_ADDR]⟩
  , ⟨0x808, 8, 1, fun _ => [Ep.AQ_CQ_BASE_ADDR]⟩
  , ⟨0x810, 8, 1, fun _ => [Ep.AQ_CFG_ENABLE, Ep.AQ_CFG_WQ_SIZE_LOG2, Ep.AQ_CFG_CQ_SIZE_LOG2, Ep.AQ_CFG_EQ, Ep.AQ_CFG_EQ_EN]⟩
  , ⟨0x818, 8, 1, fun _ => [Ep.AQ_STATUS_STATE, Ep.AQ_STATUS_BUSY, Ep.AQ_STATUS_IN_FLIGHT, Ep.AQ_STATUS_HEAD, Ep.AQ_STATUS_HEAD_PHASE, Ep.AQ_STATUS_QERR_CODE, Ep.AQ_STATUS_QERR_INDEX]⟩ ]
/-- Registers of an endpoint tile, part 1. -/
def Ep.regs1 : List RegArr :=
  [ ⟨0x820, 8, 1, fun _ => [Ep.AQ_CQ_POS_POS, Ep.AQ_CQ_POS_PHASE]⟩ ]
/-- Registers of an endpoint tile. -/
def Ep.regs : List RegArr := Ep.regs0 ++ Ep.regs1

/-! ### a DMA channel -/

/-- R399: `CH_CFG` field `PRIO`. -/
def DmaCh.CH_CFG_PRIO : Fld := ⟨0x0, 0, 3, .rw, 7⟩
/-- R399: `CH_CFG` field `DESC_SPACE`. -/
def DmaCh.CH_CFG_DESC_SPACE : Fld := ⟨0x0, 4, 2, .rw, 0⟩
/-- R399: `CH_CFG` field `PASID_EN`. -/
def DmaCh.CH_CFG_PASID_EN : Fld := ⟨0x0, 6, 1, .rw, 0⟩
/-- R399: `CH_CFG` field `RO`. -/
def DmaCh.CH_CFG_RO : Fld := ⟨0x0, 7, 1, .rw, 0⟩
/-- R399: `CH_CFG` field `PASID`. -/
def DmaCh.CH_CFG_PASID : Fld := ⟨0x0, 8, 20, .rw, 0⟩
/-- R399: `CH_HEAD` field `ADDR`. -/
def DmaCh.CH_HEAD_ADDR : Fld := ⟨0x8, 5, 59, .rw, 0⟩
/-- R399: `CH_CTL` field `GO`. -/
def DmaCh.CH_CTL_GO : Fld := ⟨0x10, 0, 1, .w1s, 0⟩
/-- R399: `CH_CTL` field `STOP`. -/
def DmaCh.CH_CTL_STOP : Fld := ⟨0x10, 1, 1, .w1s, 0⟩
/-- R399: `CH_CTL` field `RETRY`. -/
def DmaCh.CH_CTL_RETRY : Fld := ⟨0x10, 2, 1, .w1s, 0⟩
/-- R399: `CH_CTL` field `SKIP`. -/
def DmaCh.CH_CTL_SKIP : Fld := ⟨0x10, 3, 1, .w1s, 0⟩
/-- R399: `CH_STATUS` field `STATE`. -/
def DmaCh.CH_STATUS_STATE : Fld := ⟨0x18, 0, 2, .ro, 0⟩
/-- R399: `CH_STATUS` field `OVERRUN`. -/
def DmaCh.CH_STATUS_OVERRUN : Fld := ⟨0x18, 2, 1, .w1c, 0⟩
/-- R399: `CH_STATUS` field `LAST_STATUS`. -/
def DmaCh.CH_STATUS_LAST_STATUS : Fld := ⟨0x18, 8, 8, .ro, 0⟩
/-- R399: `CH_STATUS` field `DESC_DONE`. -/
def DmaCh.CH_STATUS_DESC_DONE : Fld := ⟨0x18, 32, 32, .ro, 0⟩
/-- R399: `CH_CUR_DESC` field `ADDR`. -/
def DmaCh.CH_CUR_DESC_ADDR : Fld := ⟨0x20, 0, 64, .ro, 0⟩
/-- R399: `CH_DONE_BYTES` field `BYTES`. -/
def DmaCh.CH_DONE_BYTES_BYTES : Fld := ⟨0x28, 0, 27, .ro, 0⟩
/-- R399: `CH_ERR_ADDR` field `ADDR`. -/
def DmaCh.CH_ERR_ADDR_ADDR : Fld := ⟨0x30, 0, 64, .ro, 0⟩
/-- R399: `CH_ERR_DIR` field `DIR`. -/
def DmaCh.CH_ERR_DIR_DIR : Fld := ⟨0x38, 0, 3, .ro, 0⟩
/-- R399: `CH_ERR_DIR` field `SPACE`. -/
def DmaCh.CH_ERR_DIR_SPACE : Fld := ⟨0x38, 4, 2, .ro, 0⟩
/-- R399: `CH_ERR_DIR` field `CAUSE`. -/
def DmaCh.CH_ERR_DIR_CAUSE : Fld := ⟨0x38, 8, 8, .ro, 0⟩
/-- R399: `CH_BYTES` field `COUNT`. -/
def DmaCh.CH_BYTES : Fld := ⟨0x40, 0, 64, .ro, 0⟩

/-- Registers of a DMA channel. -/
def DmaCh.regs : List RegArr :=
  [ ⟨0x0, 8, 1, fun _ => [DmaCh.CH_CFG_PRIO, DmaCh.CH_CFG_DESC_SPACE, DmaCh.CH_CFG_PASID_EN, DmaCh.CH_CFG_RO, DmaCh.CH_CFG_PASID]⟩
  , ⟨0x8, 8, 1, fun _ => [DmaCh.CH_HEAD_ADDR]⟩
  , ⟨0x10, 8, 1, fun _ => [DmaCh.CH_CTL_GO, DmaCh.CH_CTL_STOP, DmaCh.CH_CTL_RETRY, DmaCh.CH_CTL_SKIP]⟩
  , ⟨0x18, 8, 1, fun _ => [DmaCh.CH_STATUS_STATE, DmaCh.CH_STATUS_OVERRUN, DmaCh.CH_STATUS_LAST_STATUS, DmaCh.CH_STATUS_DESC_DONE]⟩
  , ⟨0x20, 8, 1, fun _ => [DmaCh.CH_CUR_DESC_ADDR]⟩
  , ⟨0x28, 8, 1, fun _ => [DmaCh.CH_DONE_BYTES_BYTES]⟩
  , ⟨0x30, 8, 1, fun _ => [DmaCh.CH_ERR_ADDR_ADDR]⟩
  , ⟨0x38, 8, 1, fun _ => [DmaCh.CH_ERR_DIR_DIR, DmaCh.CH_ERR_DIR_SPACE, DmaCh.CH_ERR_DIR_CAUSE]⟩
  , ⟨0x40, 8, 1, fun _ => [DmaCh.CH_BYTES]⟩ ]

/-! ### a DMA tile -/

/-- R400: `DMA_CFG` field `QUEUE_PRIO`. -/
def Dma.DMA_CFG_QUEUE_PRIO : Fld := ⟨0x1000, 0, 3, .rw, 0⟩
/-- R400: `DMA_STATUS` field `RUNNING`. -/
def Dma.DMA_STATUS_RUNNING : Fld := ⟨0x1008, 0, 16, .ro, 0⟩
/-- R400: `DMA_STATUS` field `HALTED`. -/
def Dma.DMA_STATUS_HALTED : Fld := ⟨0x1008, 16, 16, .ro, 0⟩
/-- R400: `NO_QUEUE` field `COUNT`. -/
def Dma.NO_QUEUE : Fld := ⟨0x1100, 0, 64, .ro, 0⟩
/-- R400: `QUEUE_BUS_ERR` field `COUNT`. -/
def Dma.QUEUE_BUS_ERR : Fld := ⟨0x1108, 0, 64, .ro, 0⟩
/-- R400: `PAGE_REQ_FAIL` field `COUNT`. -/
def Dma.PAGE_REQ_FAIL : Fld := ⟨0x1110, 0, 64, .ro, 0⟩
/-- R400: `CH_HALTS` field `COUNT`. -/
def Dma.CH_HALTS : Fld := ⟨0x1118, 0, 64, .ro, 0⟩
/-- R400: `FLUSH_READS` field `COUNT`. -/
def Dma.FLUSH_READS : Fld := ⟨0x1120, 0, 64, .ro, 0⟩

/-- Registers of a DMA tile. -/
def Dma.regs : List RegArr :=
  [ ⟨0x1000, 8, 1, fun _ => [Dma.DMA_CFG_QUEUE_PRIO]⟩
  , ⟨0x1008, 8, 1, fun _ => [Dma.DMA_STATUS_RUNNING, Dma.DMA_STATUS_HALTED]⟩
  , ⟨0x1100, 8, 1, fun _ => [Dma.NO_QUEUE]⟩
  , ⟨0x1108, 8, 1, fun _ => [Dma.QUEUE_BUS_ERR]⟩
  , ⟨0x1110, 8, 1, fun _ => [Dma.PAGE_REQ_FAIL]⟩
  , ⟨0x1118, 8, 1, fun _ => [Dma.CH_HALTS]⟩
  , ⟨0x1120, 8, 1, fun _ => [Dma.FLUSH_READS]⟩ ]

/-! ### an event queue control block -/

/-- R413: `EQ_CONS` field `CONS`. -/
def Eqb.EQ_CONS_CONS : Fld := ⟨0x0, 0, 16, .rw, 0⟩
/-- R413: `EQ_STATUS` field `WR_POS`. -/
def Eqb.EQ_STATUS_WR_POS : Fld := ⟨0x8, 0, 16, .ro, 0⟩
/-- R413: `EQ_STATUS` field `WR_PHASE`. -/
def Eqb.EQ_STATUS_WR_PHASE : Fld := ⟨0x8, 16, 1, .ro, 1⟩
/-- R413: `EQ_STATUS` field `FULL`. -/
def Eqb.EQ_STATUS_FULL : Fld := ⟨0x8, 17, 1, .ro, 0⟩
/-- R413: `EQ_STATUS` field `VALID`. -/
def Eqb.EQ_STATUS_VALID : Fld := ⟨0x8, 18, 1, .ro, 0⟩
/-- R413: `EQ_STATUS` field `PENDING`. -/
def Eqb.EQ_STATUS_PENDING : Fld := ⟨0x8, 19, 1, .ro, 0⟩
/-- R413: `EQ_RECORDS` field `COUNT`. -/
def Eqb.EQ_RECORDS : Fld := ⟨0x10, 0, 64, .ro, 0⟩
/-- R413: `EQ_BASE` field `ADDR`. -/
def Eqb.EQ_BASE_ADDR : Fld := ⟨0x18, 12, 52, .rw, 0⟩
/-- R413: `EQ_CFG` field `SIZE_LOG2`. -/
def Eqb.EQ_CFG_SIZE_LOG2 : Fld := ⟨0x20, 0, 5, .rw, 6⟩
/-- R413: `EQ_CFG` field `ENABLE`. -/
def Eqb.EQ_CFG_ENABLE : Fld := ⟨0x20, 5, 1, .rw, 0⟩
/-- R413: `EQ_CFG` field `CORE`. -/
def Eqb.EQ_CFG_CORE : Fld := ⟨0x20, 6, 3, .rw, 0⟩

/-- Registers of an event queue control block. -/
def Eqb.regs : List RegArr :=
  [ ⟨0x0, 8, 1, fun _ => [Eqb.EQ_CONS_CONS]⟩
  , ⟨0x8, 8, 1, fun _ => [Eqb.EQ_STATUS_WR_POS, Eqb.EQ_STATUS_WR_PHASE, Eqb.EQ_STATUS_FULL, Eqb.EQ_STATUS_VALID, Eqb.EQ_STATUS_PENDING]⟩
  , ⟨0x10, 8, 1, fun _ => [Eqb.EQ_RECORDS]⟩
  , ⟨0x18, 8, 1, fun _ => [Eqb.EQ_BASE_ADDR]⟩
  , ⟨0x20, 8, 1, fun _ => [Eqb.EQ_CFG_SIZE_LOG2, Eqb.EQ_CFG_ENABLE, Eqb.EQ_CFG_CORE]⟩ ]

/-! ### a mailbox sender channel -/

/-- R432: `MSG` field `DATA`, element `i`. -/
def MbxCh.MSG_DATA (i : Nat) : Fld := ⟨0x0 + 8 * i, 0, 64, .rw, 0⟩
/-- R432: `CH_CTL` field `SEND`. -/
def MbxCh.CH_CTL_SEND : Fld := ⟨0x40, 0, 1, .w1s, 0⟩
/-- R432: `CH_CTL` field `CANCEL`. -/
def MbxCh.CH_CTL_CANCEL : Fld := ⟨0x40, 1, 1, .w1s, 0⟩
/-- R432: `CH_CTL` field `SENDER`. -/
def MbxCh.CH_CTL_SENDER : Fld := ⟨0x40, 32, 24, .rw, 0⟩
/-- R432: `CH_STAT` field `FULL`. -/
def MbxCh.CH_STAT_FULL : Fld := ⟨0x48, 0, 1, .ro, 0⟩
/-- R432: `CH_STAT` field `TIMEOUT`. -/
def MbxCh.CH_STAT_TIMEOUT : Fld := ⟨0x48, 1, 1, .w1c, 0⟩
/-- R432: `CH_STAT` field `OVERRUN`. -/
def MbxCh.CH_STAT_OVERRUN : Fld := ⟨0x48, 2, 1, .w1c, 0⟩
/-- R432: `CH_STAT` field `LAST`. -/
def MbxCh.CH_STAT_LAST : Fld := ⟨0x48, 4, 2, .ro, 0⟩
/-- R432: `CH_STAT` field `RCV_STATE`. -/
def MbxCh.CH_STAT_RCV_STATE : Fld := ⟨0x48, 8, 3, .ro, 0⟩
/-- R432: `CH_STAT` field `RCV_REST`. -/
def MbxCh.CH_STAT_RCV_REST : Fld := ⟨0x48, 11, 1, .ro, 0⟩
/-- R432: `CH_STAT` field `SENT`. -/
def MbxCh.CH_STAT_SENT : Fld := ⟨0x48, 32, 32, .ro, 0⟩

/-- Registers of a mailbox sender channel. -/
def MbxCh.regs : List RegArr :=
  [ ⟨0x0, 8, 8, fun i => [MbxCh.MSG_DATA i]⟩
  , ⟨0x40, 8, 1, fun _ => [MbxCh.CH_CTL_SEND, MbxCh.CH_CTL_CANCEL, MbxCh.CH_CTL_SENDER]⟩
  , ⟨0x48, 8, 1, fun _ => [MbxCh.CH_STAT_FULL, MbxCh.CH_STAT_TIMEOUT, MbxCh.CH_STAT_OVERRUN, MbxCh.CH_STAT_LAST, MbxCh.CH_STAT_RCV_STATE, MbxCh.CH_STAT_RCV_REST, MbxCh.CH_STAT_SENT]⟩ ]

/-! ### a mailbox receiver -/

/-- R433: `RX_STATUS` field `PENDING`. -/
def MbxRx.RX_STATUS_PENDING : Fld := ⟨0x0, 0, 16, .ro, 0⟩
/-- R433: `RX_STATUS` field `HEAD`. -/
def MbxRx.RX_STATUS_HEAD : Fld := ⟨0x0, 16, 4, .ro, 0⟩
/-- R433: `RX_STATUS` field `VALID`. -/
def MbxRx.RX_STATUS_VALID : Fld := ⟨0x0, 20, 1, .ro, 0⟩
/-- R433: `RX_STATUS` field `LATCHED`. -/
def MbxRx.RX_STATUS_LATCHED : Fld := ⟨0x0, 21, 1, .ro, 0⟩
/-- R433: `RX_CFG` field `EVT_EN`. -/
def MbxRx.RX_CFG_EVT_EN : Fld := ⟨0x8, 0, 1, .rw, 1⟩
/-- R433: `RX_MSG` field `DATA`, element `i`. -/
def MbxRx.RX_MSG_DATA (i : Nat) : Fld := ⟨0x40 + 8 * i, 0, 64, .ro, 0⟩
/-- R433: `RX_MSG_7` field `DATA`. -/
def MbxRx.RX_MSG_7_DATA : Fld := ⟨0x78, 0, 64, .rc, 0⟩

/-- Registers of a mailbox receiver. -/
def MbxRx.regs : List RegArr :=
  [ ⟨0x0, 8, 1, fun _ => [MbxRx.RX_STATUS_PENDING, MbxRx.RX_STATUS_HEAD, MbxRx.RX_STATUS_VALID, MbxRx.RX_STATUS_LATCHED]⟩
  , ⟨0x8, 8, 1, fun _ => [MbxRx.RX_CFG_EVT_EN]⟩
  , ⟨0x40, 8, 7, fun i => [MbxRx.RX_MSG_DATA i]⟩
  , ⟨0x78, 8, 1, fun _ => [MbxRx.RX_MSG_7_DATA]⟩ ]

/-! ### a hardware lock -/

/-- R434: `LOCK_TRY` field `HOLDER`. -/
def Lock.LOCK_TRY_HOLDER : Fld := ⟨0x0, 0, 24, .ro, 0⟩
/-- R434: `LOCK_TRY` field `OWN`. -/
def Lock.LOCK_TRY_OWN : Fld := ⟨0x0, 29, 1, .ro, 0⟩
/-- R434: `LOCK_TRY` field `BROKEN`. -/
def Lock.LOCK_TRY_BROKEN : Fld := ⟨0x0, 30, 1, .ro, 0⟩
/-- R434: `LOCK_TRY` field `GRANTED`. -/
def Lock.LOCK_TRY_GRANTED : Fld := ⟨0x0, 31, 1, .ro, 0⟩
/-- R434: `LOCK_TRY` field `GEN`. -/
def Lock.LOCK_TRY_GEN : Fld := ⟨0x0, 32, 32, .ro, 0⟩
/-- R434: `LOCK_REL` field `COUNT`. -/
def Lock.LOCK_REL : Fld := ⟨0x8, 0, 64, .wo, 0⟩
/-- R434: `LOCK_STATE` field `HOLDER`. -/
def Lock.LOCK_STATE_HOLDER : Fld := ⟨0x10, 0, 24, .ro, 0⟩
/-- R434: `LOCK_STATE` field `OWN`. -/
def Lock.LOCK_STATE_OWN : Fld := ⟨0x10, 29, 1, .ro, 0⟩
/-- R434: `LOCK_STATE` field `BROKEN`. -/
def Lock.LOCK_STATE_BROKEN : Fld := ⟨0x10, 30, 1, .ro, 0⟩
/-- R434: `LOCK_STATE` field `HELD`. -/
def Lock.LOCK_STATE_HELD : Fld := ⟨0x10, 31, 1, .ro, 0⟩
/-- R434: `LOCK_STATE` field `GEN`. -/
def Lock.LOCK_STATE_GEN : Fld := ⟨0x10, 32, 32, .ro, 0⟩
/-- R434: `LOCK_BREAK` field `COUNT`. -/
def Lock.LOCK_BREAK : Fld := ⟨0x18, 0, 64, .wo, 0⟩

/-- Registers of a hardware lock. -/
def Lock.regs : List RegArr :=
  [ ⟨0x0, 8, 1, fun _ => [Lock.LOCK_TRY_HOLDER, Lock.LOCK_TRY_OWN, Lock.LOCK_TRY_BROKEN, Lock.LOCK_TRY_GRANTED, Lock.LOCK_TRY_GEN]⟩
  , ⟨0x8, 8, 1, fun _ => [Lock.LOCK_REL]⟩
  , ⟨0x10, 8, 1, fun _ => [Lock.LOCK_STATE_HOLDER, Lock.LOCK_STATE_OWN, Lock.LOCK_STATE_BROKEN, Lock.LOCK_STATE_HELD, Lock.LOCK_STATE_GEN]⟩
  , ⟨0x18, 8, 1, fun _ => [Lock.LOCK_BREAK]⟩ ]

/-! ### a region -/

/-- R456: `REG_STATUS` field `GAIT`. -/
def Region.REG_STATUS_GAIT : Fld := ⟨0x0, 0, 3, .ro, 0⟩
/-- R456: `REG_STATUS` field `TEMP_CAP`. -/
def Region.REG_STATUS_TEMP_CAP : Fld := ⟨0x0, 4, 3, .ro, 5⟩
/-- R456: `REG_STATUS` field `TJ`. -/
def Region.REG_STATUS_TJ : Fld := ⟨0x0, 8, 8, .ro, 0⟩
/-- R456: `REG_STATUS` field `VOLT_MV`. -/
def Region.REG_STATUS_VOLT_MV : Fld := ⟨0x0, 16, 16, .ro, 620⟩
/-- R456: `REG_STATUS` field `FREQ_MHZ`. -/
def Region.REG_STATUS_FREQ_MHZ : Fld := ⟨0x0, 32, 16, .ro, 0⟩
/-- R456: `REG_CTL` field `NO_REST`. -/
def Region.REG_CTL_NO_REST : Fld := ⟨0x8, 0, 1, .rw, 0⟩

/-- Registers of a region. -/
def Region.regs : List RegArr :=
  [ ⟨0x0, 8, 1, fun _ => [Region.REG_STATUS_GAIT, Region.REG_STATUS_TEMP_CAP, Region.REG_STATUS_TJ, Region.REG_STATUS_VOLT_MV, Region.REG_STATUS_FREQ_MHZ]⟩
  , ⟨0x8, 8, 1, fun _ => [Region.REG_CTL_NO_REST]⟩ ]

/-! ### a management core -/

/-- R535: `MC_ENTRY` field `ADDR`. -/
def Mc.MC_ENTRY_ADDR : Fld := ⟨0x0, 0, 64, .rw, 0⟩
/-- R535: `MC_CTL` field `START`. -/
def Mc.MC_CTL_START : Fld := ⟨0x8, 0, 1, .w1s, 0⟩
/-- R535: `MC_STATUS` field `STATE`. -/
def Mc.MC_STATUS_STATE : Fld := ⟨0x10, 0, 2, .ro, 0⟩
/-- R535: `MC_TIMECMP` field `TIME`. -/
def Mc.MC_TIMECMP_TIME : Fld := ⟨0x18, 0, 64, .rw, 0xFFFFFFFFFFFFFFFF⟩

/-- Registers of a management core. -/
def Mc.regs : List RegArr :=
  [ ⟨0x0, 8, 1, fun _ => [Mc.MC_ENTRY_ADDR]⟩
  , ⟨0x8, 8, 1, fun _ => [Mc.MC_CTL_START]⟩
  , ⟨0x10, 8, 1, fun _ => [Mc.MC_STATUS_STATE]⟩
  , ⟨0x18, 8, 1, fun _ => [Mc.MC_TIMECMP_TIME]⟩ ]

/-! ### an I2C controller -/

/-- R544: `I2C_CFG` field `SPEED`. -/
def I2c.I2C_CFG_SPEED : Fld := ⟨0x0, 0, 2, .rw, 1⟩
/-- R544: `I2C_CFG` field `AUTO_MODRST`. -/
def I2c.I2C_CFG_AUTO_MODRST : Fld := ⟨0x0, 2, 1, .rw, 1⟩
/-- R544: `I2C_CFG` field `RST_PULSE_US`. -/
def I2c.I2C_CFG_RST_PULSE_US : Fld := ⟨0x0, 8, 8, .rw, 20⟩
/-- R544: `I2C_CFG` field `STRETCH_MAX_US`. -/
def I2c.I2C_CFG_STRETCH_MAX_US : Fld := ⟨0x0, 16, 16, .rw, 10000⟩
/-- R544: `I2C_CFG` field `SEL_SETUP_US`. -/
def I2c.I2C_CFG_SEL_SETUP_US : Fld := ⟨0x0, 32, 16, .rw, 2000⟩
/-- R544: `I2C_CFG` field `RESET`. -/
def I2c.I2C_CFG_RESET : Fld := ⟨0x0, 48, 1, .w1s, 0⟩
/-- R544: `I2C_CMD` field `CAGE`. -/
def I2c.I2C_CMD_CAGE : Fld := ⟨0x8, 0, 2, .rw, 0⟩
/-- R544: `I2C_CMD` field `DEV`. -/
def I2c.I2C_CMD_DEV : Fld := ⟨0x8, 8, 7, .rw, 0x50⟩
/-- R544: `I2C_CMD` field `OFFSET`. -/
def I2c.I2C_CMD_OFFSET : Fld := ⟨0x8, 16, 8, .rw, 0⟩
/-- R544: `I2C_CMD` field `LEN`. -/
def I2c.I2C_CMD_LEN : Fld := ⟨0x8, 24, 8, .rw, 1⟩
/-- R544: `I2C_CMD` field `READ`. -/
def I2c.I2C_CMD_READ : Fld := ⟨0x8, 32, 1, .rw, 0⟩
/-- R544: `I2C_CMD` field `GO`. -/
def I2c.I2C_CMD_GO : Fld := ⟨0x8, 33, 1, .w1s, 0⟩
/-- R544: `I2C_CMD` field `EVT`. -/
def I2c.I2C_CMD_EVT : Fld := ⟨0x8, 34, 1, .rw, 0⟩
/-- R544: `I2C_STATUS` field `BUSY`. -/
def I2c.I2C_STATUS_BUSY : Fld := ⟨0x10, 0, 1, .ro, 0⟩
/-- R544: `I2C_STATUS` field `BUS_STUCK`. -/
def I2c.I2C_STATUS_BUS_STUCK : Fld := ⟨0x10, 1, 1, .w1c, 0⟩
/-- R544: `I2C_STATUS` field `OVERRUN`. -/
def I2c.I2C_STATUS_OVERRUN : Fld := ⟨0x10, 2, 1, .w1c, 0⟩
/-- R544: `I2C_STATUS` field `RESULT`. -/
def I2c.I2C_STATUS_RESULT : Fld := ⟨0x10, 4, 4, .ro, 0⟩
/-- R544: `I2C_STATUS` field `DONE_BYTES`. -/
def I2c.I2C_STATUS_DONE_BYTES : Fld := ⟨0x10, 8, 8, .ro, 0⟩
/-- R544: `I2C_STATUS` field `PULSES`. -/
def I2c.I2C_STATUS_PULSES : Fld := ⟨0x10, 16, 4, .ro, 0⟩
/-- R544: `I2C_RECOVERED` field `COUNT`. -/
def I2c.I2C_RECOVERED : Fld := ⟨0x18, 0, 64, .ro, 0⟩
/-- R544: `I2C_STUCK` field `COUNT`. -/
def I2c.I2C_STUCK : Fld := ⟨0x20, 0, 64, .ro, 0⟩
/-- R544: `I2C_DATA` field `DATA`, element `i`. -/
def I2c.I2C_DATA_DATA (i : Nat) : Fld := ⟨0x80 + 8 * i, 0, 64, .rw, 0⟩

/-- Registers of an I2C controller. -/
def I2c.regs : List RegArr :=
  [ ⟨0x0, 8, 1, fun _ => [I2c.I2C_CFG_SPEED, I2c.I2C_CFG_AUTO_MODRST, I2c.I2C_CFG_RST_PULSE_US, I2c.I2C_CFG_STRETCH_MAX_US, I2c.I2C_CFG_SEL_SETUP_US, I2c.I2C_CFG_RESET]⟩
  , ⟨0x8, 8, 1, fun _ => [I2c.I2C_CMD_CAGE, I2c.I2C_CMD_DEV, I2c.I2C_CMD_OFFSET, I2c.I2C_CMD_LEN, I2c.I2C_CMD_READ, I2c.I2C_CMD_GO, I2c.I2C_CMD_EVT]⟩
  , ⟨0x10, 8, 1, fun _ => [I2c.I2C_STATUS_BUSY, I2c.I2C_STATUS_BUS_STUCK, I2c.I2C_STATUS_OVERRUN, I2c.I2C_STATUS_RESULT, I2c.I2C_STATUS_DONE_BYTES, I2c.I2C_STATUS_PULSES]⟩
  , ⟨0x18, 8, 1, fun _ => [I2c.I2C_RECOVERED]⟩
  , ⟨0x20, 8, 1, fun _ => [I2c.I2C_STUCK]⟩
  , ⟨0x80, 8, 16, fun i => [I2c.I2C_DATA_DATA i]⟩ ]

end Sys2Proof.Machine
end

