-- ==== Sys2Proof/Machine/RegStore.lean ====
section
/-! DEFINITION. Where each register cell is held: the key of a cell, the kind and region of every fixed unit, which
block's fields lie at a cell, and what the cell reads as at reset (R7, R12, R17, R33, R439, R575). -/

namespace Sys2Proof.Machine

/-- Offset, within a unit's share of the register store, at which its kind-specific block (at KIND_BLOCK) begins. -/
def kb : Nat := 0x100000

/-- The store key of the cell at `off` of unit (or pseudo-unit) `u`. -/
def rkey (u off : Nat) : Nat := off + 2 ^ 22 * u

/-! ### Register blocks that are no unit's own: each has a number above every UNIT_ID -/

/-- Block of logical port `p` in the switch core (R219). -/
def swpUnit (p : Nat) : Nat := 0x1000000 + p
/-- Class block `c` of logical port `p` (R219). -/
def swcUnit (p c : Nat) : Nat := 0x1001000 + p * 8 + c
/-- Wire scheduler of logical port `p` (R236). -/
def wsUnit (p : Nat) : Nat := 0x1002000 + p
/-- The meter interface (R239). -/
def mtrUnit : Nat := 0x1003000
/-- Channel `c` of DMA tile `0x000240 + t` (R399). -/
def chUnit (t c : Nat) : Nat := 0x1004000 + t * 16 + c
/-- Control block of event queue `q` of owner `o` (0 = PF-A, 1 = PF-B, 2 = management cores; R413). -/
def eqUnit (o q : Nat) : Nat := 0x1010000 + o * 1024 + q
/-- Channel `c` of mailbox `m` (R432). -/
def mbxUnit (m c : Nat) : Nat := 0x1020000 + m * 16 + c
/-- Receiver block of mailbox `m` (R433). -/
def mrxUnit (m : Nat) : Nat := 0x1021000 + m
/-- Lock `n` (R434). -/
def lockUnit (n : Nat) : Nat := 0x1022000 + n
/-- Region `r` (R456). -/
def regionUnit (r : Nat) : Nat := 0x1023000 + r
/-- Registers of management core `n` in the root hitch's block (R535). -/
def mcUnit (n : Nat) : Nat := 0x1024000 + n
/-- Registers of I2C controller `i` in the root hitch's block (R544). -/
def i2cUnit (i : Nat) : Nat := 0x1025000 + i
/-- MSI-X table and Pending Bit Array of function `pf`, at their offsets from BAR0 + 0x0001_0000 (R311). -/
def msixUnit (pf : Nat) : Nat := 0x1026000 + pf

/-! ### Fixed units (R12) -/

/-- UNIT_ID of PE `n`. -/
def peId (n : Nat) : Nat := 0x100 + n
/-- UNIT_ID of match tile `n`. -/
def matchId (n : Nat) : Nat := 0x200 + n
/-- UNIT_ID of crypto tile `n`. -/
def cryptoId (n : Nat) : Nat := 0x220 + n
/-- UNIT_ID of DMA tile `n`. -/
def dmaId (n : Nat) : Nat := 0x240 + n
/-- UNIT_ID of transport tile `n`. -/
def transportId (n : Nat) : Nat := 0x250 + n
/-- UNIT_ID of storage tile `n`. -/
def storageId (n : Nat) : Nat := 0x260 + n
/-- UNIT_ID of prism tile `n`. -/
def prismId (n : Nat) : Nat := 0x268 + n
/-- UNIT_ID of the MAC port block of lane `n`. -/
def macId (n : Nat) : Nat := 0x26C + n
/-- UNIT_ID of the endpoint tile of function `pf` (0 = PF-A, 1 = PF-B). -/
def epId (pf : Nat) : Nat := 0x27C + pf
/-- UNIT_ID of management core `n`. -/
def mcId (n : Nat) : Nat := 0x27E + n
/-- UNIT_ID of the switch core. -/
def switchId : Nat := 0x286
/-- UNIT_ID of the root hitch. -/
def rootId : Nat := 0

/-- R12: kind code of a fixed unit, 0 for an ID that names none. -/
def fixedKind (u : Nat) : Nat :=
  if u = 0 then 0x81
  else if u < 0x100 then 0
  else if u < 0x200 then 0x01
  else if u < 0x220 then 0x02
  else if u < 0x240 then 0x03
  else if u < 0x250 then 0x04
  else if u < 0x260 then 0x06
  else if u < 0x268 then 0x05
  else if u < 0x26C then 0x0B
  else if u < 0x27C then 0x07
  else if u < 0x27E then 0x08
  else if u < 0x286 then 0x0A
  else if u = 0x286 then 0x09
  else 0

/-- R439, R12: region code of a unit; hitches span regions and read 0xFF. -/
def regionOf (u : Nat) : Nat :=
  if u < 0x100 then 0xFF
  else if u < 0x200 then (u - 0x100) / 16
  else if u < 0x220 then (u - 0x200) / 2
  else if u < 0x240 then (u - 0x220) % 16
  else if u < 0x250 then 0x11
  else if u < 0x260 then u - 0x250
  else if u < 0x268 then 2 * (u - 0x260)
  else if u < 0x26A then 0x10
  else if u < 0x26C then 0x11
  else if u < 0x27C then 0x10
  else if u < 0x27E then 0x11
  else if u ≤ 0x286 then 0x12
  else 0xFF

/-- Registers of the kind-specific block of a unit (at KIND_BLOCK), by the unit's kind; a hitch has that of R155. -/
def kindRegs (u : Nat) : List RegArr :=
  match fixedKind u with
  | 0x01 => Pe.regs
  | 0x02 => Match.regs
  | 0x03 => Cry.regs
  | 0x04 => Dma.regs
  | 0x05 => St.regs
  | 0x06 => Tp.regs
  | 0x07 => Mac.regs
  | 0x09 => Sw.regs
  | 0x0B => Prism.regs
  | 0x00 => if 0x1000 ≤ u then Eh.regs else []
  | _ => []

/-- Registers a unit's 64 KiB block holds at fixed offsets of that block, besides the header. -/
def blockRegs (u : Nat) : List RegArr :=
  if u = 0 then Root.regs
  else if fixedKind u = 0x08 then Ep.regs
  else if 0x1000 ≤ u then Hg.regs
  else []

/-- Registers of a block that is no unit's own. -/
def pseudoRegs (u : Nat) : List RegArr :=
  if u < 0x1001000 then Swp.regs
  else if u < 0x1002000 then Swc.regs
  else if u < 0x1003000 then Ws.regs
  else if u < 0x1004000 then Mtr.regs
  else if u < 0x1010000 then DmaCh.regs
  else if u < 0x1020000 then Eqb.regs
  else if u < 0x1021000 then MbxCh.regs
  else if u < 0x1022000 then MbxRx.regs
  else if u < 0x1023000 then Lock.regs
  else if u < 0x1024000 then Region.regs
  else if u < 0x1025000 then Mc.regs
  else if u < 0x1026000 then I2c.regs
  else []

/-- The fields that lie in the cell at `off` of unit `u`. -/
def cellFlds (u off : Nat) : List Fld :=
  if 0x1000000 ≤ u then fieldsAt (pseudoRegs u) off
  else if off < 0x40 then fieldsAt Hdr.regs off
  else if off < kb then fieldsAt (blockRegs u) off
  else fieldsAt (kindRegs u) (off - kb)

/-- R17, R33: the header cells whose reset value the tables give as "Fixed" or "Image": the identity of a fixed unit,
its region, and the bare-tree geometry of the root. -/
def fixedHdr (u off : Nat) (x : Word) : Word :=
  if off = 0x0 then
    if u = 0 ∨ fixedKind u ≠ 0 then
      putBits (putBits x 0 24 u) 32 8 (fixedKind u)
    else putBits x 40 8 0
  else if off = 0x10 ∧ u = 0 then putBits (putBits x 0 16 391) 16 16 391
  else if off = 0x18 ∧ u = 0 then putBits x 0 48 0x10000
  else if off = 0x20 ∧ u = 0 then putBits (putBits x 0 6 16) 42 2 2
  else if off = 0x28 then putBits x 48 8 (regionOf u)
  else x

/-- What the cell with key `k` reads as at reset. A lane of no port group names itself as first lane (R73). An MSI-X vector's mask bit resets to 1, as the PCIe Base
Specification defines it (R310, assumption 6). -/
def regReset (k : Nat) : Word :=
  let u := k / 2 ^ 22
  let off := k % 2 ^ 22
  let x := cellReset (cellFlds u off)
  if u < 0x1000000 ∧ off < 0x40 then fixedHdr u off x
  else if 0x26C ≤ u ∧ u < 0x27C ∧ off = kb then putBits x 4 4 (u - 0x26C)
  else if 0x1026000 ≤ u ∧ off < 0x4000 ∧ off % 16 = 8 then putBits x 32 1 1
  else x

end Sys2Proof.Machine
end

