-- ==== Sys2Proof/Machine/State.lean ====
section
/-! DEFINITION. The state of the device as plain data, its reset value, and the closed lists of faults and refusals.
Registers live in one canonical store keyed by unit and offset, contexts of the device in a second one keyed by class,
index and word, memory bytes in a third; the rest of the state is what the chapters name besides registers. -/

namespace Sys2Proof.Machine

/-- Why a step stops with a fault. The spec names no condition under which the device stops for good, so there is none. -/
inductive Fault where
  /-- Never raised: the spec gives the device no stop. Safe. -/
  | none
  deriving DecidableEq, Repr

/-- Why a step is refused. -/
inductive Refusal where
  /-- Raised by an arm of `exec` whose meaning is not written. Safe. -/
  | notModelled (mnemonic : String)
  deriving DecidableEq, Repr

/-- The classes of contexts and records the device holds, each an array of records of 64-bit words. -/
inductive Cls where
  | queue | conn | sa | session | ns | extent | backend | slice | allow | window | node | leaf | shaper
  | hostEq | tblEntry | tblCtl | tblStat | reinLog | lpm
  deriving DecidableEq, Repr

/-- Number of a class in the keys of the context store. -/
def Cls.code : Cls → Nat
  | .queue => 1 | .conn => 2 | .sa => 3 | .session => 4 | .ns => 5 | .extent => 6 | .backend => 7 | .slice => 8
  | .allow => 9 | .window => 10 | .node => 11 | .leaf => 12 | .shaper => 13 | .hostEq => 15
  | .tblEntry => 16 | .tblCtl => 17 | .tblStat => 18 | .reinLog => 19 | .lpm => 20

/-- Key of word `w` of record `i` of class `c`. Class codes at or above 64 hold the partner mirror's copies (R468). -/
def okey (c i w : Nat) : Nat := w + 2 ^ 8 * i + 2 ^ 64 * c

/-- R221, R222: the fixed nodes of the fetch tree as they read at reset: level, parent, WEIGHT 1, PRIO 0 and no shaper
(assumption 21). -/
def fixedNode (i w : Nat) : Word :=
  let level := if i < 18 then 0 else if i = 18 then 1 else 2
  if w = 0 then BitVec.ofNat 64 (1 + 2 * level + 2 ^ 16 + 0x7FFFF * 2 ^ 32)
  else if w = 1 then BitVec.ofNat 64 (if i < 18 then 0 else if i = 18 then 17 else 18)
  else 0

/-- What an unlisted context word reads as: contexts are zeroed with HBM and on-chip memory (R516), and the nodes of the
fetch tree that are fixed read as R221 says. -/
def ctxReset (k : Nat) : Word :=
  if k / 2 ^ 64 = Cls.node.code ∧ k % 2 ^ 64 / 2 ^ 8 ≤ 26 then fixedNode (k % 2 ^ 64 / 2 ^ 8) (k % 2 ^ 8) else 0

/-- The byte memories the device holds. -/
inductive Space where
  | staging | flash | core | hbm | rom | peCode | peData
  deriving DecidableEq, Repr

/-- Number of a byte memory in the keys of the byte store. -/
def Space.code : Space → Nat
  | .staging => 0 | .flash => 1 | .core => 2 | .hbm => 3 | .rom => 4 | .peCode => 5 | .peData => 6

/-- Key of byte `a` of a memory. -/
def bkey (sp : Space) (a : Nat) : Nat := a + 2 ^ 56 * sp.code

/-- What an unlisted byte reads as: erased flash and the ROM shadow read 0xFF (R317, assumption 4), every other memory
reads 0 (R516). -/
def byteReset (k : Nat) : Byte := if k / 2 ^ 56 = 1 ∨ k / 2 ^ 56 = 4 then 0xFF else 0

/-- A packet inside the device: its bytes, metadata words m0 to m15 (R107, R108), the poison mark of R508, whether it
carries a kept FCS (R80, R103), the prism that parsed it first (R94), and the job it was fetched for. -/
structure Pkt where
  data : List Byte
  m : List Word
  poison : Bool
  fcs : Bool
  prism : Option Nat
  job : Option (Nat × Nat)
  deriving DecidableEq, Repr

/-- A hitch of the tree: the record of R39, its current members in slot order, and whether it reads PATCHING. -/
structure Hitch where
  id : Nat
  kind : Nat
  parent : Nat
  slot : Nat
  minM : Nat
  maxM : Nat
  pool : Nat
  pin : Bool
  members : List Nat
  patching : Bool
  deriving DecidableEq, Repr

/-- Where an event goes: by the routing of R28, to the queue its own configuration names, or to a private bank (R412). -/
inductive Dest where
  | routed
  | directed (owner eq : Nat)
  | priv (core : Nat)
  deriving DecidableEq, Repr

/-- An event raised and not yet recorded. -/
structure Ev where
  unit : Nat
  kind : Nat
  slice : Nat
  payload : Nat
  dest : Dest
  merged : Nat
  held : Bool
  deriving DecidableEq, Repr

/-- An entry of the pending store (R408): the event and the unit at which R28 held it, if that is the cause. -/
structure Waiting where
  ev : Ev
  heldAt : Option Nat
  deriving DecidableEq, Repr

/-- The event arbiter: events presented and not accepted, the pending store oldest first, and the queues whose next
record must carry LOST (R409). -/
structure EvSt where
  presented : List Ev
  waiting : List Waiting
  lost : List (Nat × Nat)
  deriving DecidableEq, Repr

/-- What leaves the device, in order. -/
inductive Out where
  /-- A posted write into host memory behind PF `pf`; `ro`: it carries Relaxed Ordering (R308, R392). -/
  | hostWrite (pf : Nat) (pasid : Option Nat) (addr : Nat) (ro : Bool) (data : List Byte)
  /-- MSI-X message of vector `v` of PF `pf` (R410). -/
  | msix (pf v : Nat)
  /-- Event interrupt of management core `n` (R410, R533). -/
  | coreIrq (n : Nat)
  /-- A power-management event message or WAKE_N of PF `pf` (R309). -/
  | pme (pf : Nat)
  /-- Value a register or memory read returns to its requester. -/
  | readData (v : Word)
  /-- Bytes a memory read returns to its requester. -/
  | readBytes (v : List Byte)
  /-- A frame on the wire of the port with first lane `lane`; `good` is false where it leaves with error blocks and ends with a
  complemented FCS, and `errs` bytes of it between `data` and that FCS are error blocks only (R87, R215). -/
  | frame (lane : Nat) (data : List Byte) (good : Bool) (errs : Nat)
  /-- An mPacket of a preemptable frame of port `lane` (R84, R85): behind an SMD-S start, or behind SMD-C with fragment count
  `cnt`; `last` marks the one that ends with the frame's FCS and not with an mCRC; `good` and `errs` as in `frame`. -/
  | mframe (lane : Nat) (start : Bool) (cnt : Nat) (data : List Byte) (last good : Bool) (errs : Nat)
  /-- A pause or PFC frame of port `lane`: PFC, class-enable vector, and the time of each PCP, or the one time of a pause
  frame (R83). -/
  | pfc (lane : Nat) (isPfc : Bool) (classes : Nat) (times : List Nat)
  /-- Port `lane` starts or stops sending remote fault (R72). -/
  | remoteFault (lane : Nat) (on : Bool)
  /-- Bytes that port `lane` received leave it again at the PMA (R74, LOOPBACK 2). -/
  | loopBack (lane : Nat) (data : List Byte)
  /-- A verify or response mPacket of port `lane` (R84). -/
  | mpacket (lane : Nat) (response : Bool)
  /-- A Configuration completion of PF `pf`; `none` is Request Retry Status (R304). -/
  | cfgCpl (pf : Nat) (v : Option Word)
  /-- A PCIe message of PF `pf`, by a code of the model: 1 an invalidation completion with its tag (R320), 2 a latency
  tolerance report with its microseconds (R318). -/
  | pcieMsg (pf code tag : Nat)
  /-- A yoke frame: header, payload and CRC (R462). -/
  | yoke (frame : List Byte)
  /-- A pin driven to a level. -/
  | pin (p : Pin) (level : Bool)
  /-- Bytes sent on SMBus or I2C controller `ctl` (8 is SMBus). -/
  | serial (ctl : Nat) (data : List Byte)
  deriving DecidableEq, Repr

/-- A binding of the running image (R41). -/
structure Binding where
  kind : Nat
  target : Nat
  srcA : Nat
  srcB : Nat
  argA : Nat
  argB : Nat
  deriving DecidableEq, Repr

/-- A policy bound (R49). -/
structure Bound where
  id : Nat
  scope : Nat
  min : Nat
  max : Nat
  initial : Nat
  deriving DecidableEq, Repr

/-- A code section held for the PEs of a hitch (R44, R148): the owner, the entry offset, code and initial data. -/
structure CodeCopy where
  owner : Nat
  entry : Nat
  code : List Byte
  data : List Byte
  deriving DecidableEq, Repr

/-- Phases of a re-harness patch (R63). -/
inductive PatchPhase where
  | drain | swap
  deriving DecidableEq, Repr

/-- A patch that has passed its checks: the image applied, the phase, the ENABLE and STATE of the target before Drain, the
patch pool (R62), and the function and ring index of the admin command that waits. -/
structure PatchSt where
  target : Nat
  image : List Byte
  phase : PatchPhase
  oldEnable : Nat
  oldState : Nat
  pool : Nat
  pf : Nat
  idx : Nat
  deriving DecidableEq, Repr

/-- What the running image left besides registers and tables: bindings, bounds, code copies, memory windows mapped in
harness space (R16), the header of the running full image, its signed message and those of the patches since (R322), the
patch in progress, the image of one that has passed its checks and waits for a rein step to end, with the function and ring index
of its command (R66), the slot write in progress (slot, function, ring index), and how many bytes have been staged. -/
structure ImgSt where
  bindings : List Binding
  bounds : List Bound
  code : List CodeCopy
  windows : List (Nat × Nat)
  header : List Byte
  measure3 : List Byte
  measure4 : List Byte
  patch : Option PatchSt
  waits : Option (List Byte × Nat × Nat)
  slotWrite : Option (Nat × Nat × Nat)
  staged : Nat
  deriving DecidableEq, Repr


/-- The fuse set (R536): digests of the image and firmware key slots (all zeros: not fused), their revocation bits, the
minimum SVNs, the feature word, and the debug fuse. -/
structure FuseSt where
  imgKeys : List (List Byte)
  imgRevoke : Nat
  fwKeys : List (List Byte)
  fwRevoke : Nat
  imgSvn : Nat
  fwSvn : Nat
  feature : Nat
  debugEn : Bool
  deriving DecidableEq, Repr
/-- The PCIe side of one endpoint and its function (R302 to R324), besides its registers: PERST asserted, link up, the enables
and power state the host has set, configuration words stored, consecutive low windows of L0p and the width asked for,
the link-level reset in progress (0 none, 1 FLR, 2 Hot Reset, 3 Conventional Reset), a PME signalled, translations
cached (PASID and page), the dwords of DOE objects in either direction and its Error bit, requests the SPDM responder
has had since the last reset, IDE streams that are Insecure, writes held while quiet, and the ms of the last
unmapped-access event. -/
structure EpSt where
  perst : Bool
  linkUp : Bool
  bme : Bool
  mse : Bool
  dstate : Nat
  l0pEn : Bool
  aspmL1 : Bool
  l11En : Bool
  l12En : Bool
  atsEn : Bool
  relaxed : Bool
  pasidEn : Bool
  cfg : List (Nat × Word)
  msixEn : Bool
  msixMask : Bool
  l0pRun : Nat
  l0pReq : Option Nat
  resetKind : Nat
  pmeSent : Bool
  ats : List (Nat × Nat)
  doeIn : List Nat
  doeOut : List Nat
  doeErr : Bool
  spdmLog : List (List Byte)
  ideInsecure : List Nat
  heldWrites : List Out
  lastUnmappedMs : Option Nat
  deriving DecidableEq, Repr

/-- A frame a port is sending (R84, R85, R87, R226, R233): the packet, its class, the frame bytes without FCS, the bytes on the
wire before the fragment now in progress, the fragments sent, whether it left as a preemptable frame, the bytes that were in
the transmit buffer when it started, and whether its gate has closed since. -/
structure TxFrm where
  pkt : Pkt
  cls : Nat
  bytes : List Byte
  from_ : Nat
  frags : Nat
  pre : Bool
  ahead : Nat
  late : Bool
  deriving DecidableEq, Repr

/-- The open preemptable frame a port receives (R86, R90): the fragment count of the next continuation, the bytes so far,
whether an error block stood among them, and the timestamp of the first bit after its start. -/
structure RxAsm where
  next : Nat
  bytes : List Byte
  code : Bool
  stamp : Nat × Nat
  deriving DecidableEq, Repr

/-- What a port's MAC keeps besides its registers (R75 to R91): the quanta last loaded per class, XOFF asserted by the
switch core, the frame in progress and an interrupted one, the open preemptable frame received, verify attempts made, the
transmit timestamp FIFO (ns, tag, overflow, seconds), a discarded timestamp not yet marked, an underrun in the current window,
a pause or PFC frame that is due at the next frame boundary (whether a class entered XOFF, and the classes that left it), and
whether the port sends remote fault. -/
structure MacSt where
  timers : List Nat
  swXoff : Nat
  tx : Option TxFrm
  held : Option TxFrm
  rxOpen : Option RxAsm
  tries : Nat
  tsFifo : List (Nat × Nat × Bool × Nat)
  tsLost : Bool
  under : Bool
  due : Option (Bool × Nat)
  rf : Bool
  deriving DecidableEq, Repr

/-- The PTP timebase (R89): whether it stands until software sets it, seconds, nanoseconds with 32 fraction bits, and an
adjust or set that the next tick applies. -/
structure TbSt where
  stopped : Bool
  sec : Nat
  ns : Nat
  adj : Option Int
  set : Option (Nat × Nat)
  deriving DecidableEq, Repr
/-- The parse graph of the running image (R98): nodes and transitions in order, and the start node. -/
structure Graph where
  nodes : List (List Word)
  trans : List Word
  start : Nat
  deriving DecidableEq, Repr

/-- The prism tiles: the graph, packets on their way to a prism, the input FIFOs, packets parsed and not yet classified,
and the ms in which a prism last raised an input-drop event (R97). -/
structure PrismSt where
  graph : Option Graph
  wire : List (Nat × Pkt)
  fifo : List (Nat × Pkt)
  parsed : List Pkt
  dropAt : List (Nat × Nat)
  deriving DecidableEq, Repr
/-- A line of a table's flow-cache partition (R120): set, way, the flow ID or bucket it holds, reference, dirty and pinned
marks. -/
structure CLine where
  set : Nat
  way : Nat
  id : Nat
  refd : Bool
  dirty : Bool
  pinned : Bool
  deriving DecidableEq, Repr

/-- A table: its TABLE_LAYOUT record (R45), the resources R114 gave it, control word and statistics (R135, R136), the
sweeper's position and period (R137), and what R123, R124, R139 and R140 keep. Entries are in the context store. -/
structure Tbl where
  id : Nat
  kind : Nat
  keyBits : Nat
  entryBytes : Nat
  entryCount : Nat
  tcam : Nat
  onchip : Nat
  owner : Nat
  flowBase : Nat
  firstBlock : Nat
  part : Nat
  ctl0 : Word
  ctl1 : Word
  stats : List Nat
  sweepPos : Nat
  sweepP : Nat
  offline : Bool
  /-- Entries aged since the last aged event, and the times in ms of the last aged and learn-drop events. -/
  agedN : Nat
  agedAt : Option Nat
  learnAt : Option Nat
  /-- L2 positions on which a move was attempted in this 1 ms window. -/
  attempts : List Nat
  /-- Entries whose context or words hold an uncorrectable ECC error, and buckets that hold one (R140). -/
  damaged : List Nat
  badBuckets : List Nat
  cache : List CLine
  /-- Way after the last fill, per set. -/
  rr : List (Nat × Nat)
  deriving DecidableEq, Repr

/-- What a change or command asks of a home tile (R132, R184 to R186). -/
inductive TblReq where
  | read (i : Nat)
  | write (i : Nat) (ws : List Word)
  | insert (ws : List Word)
  | delete (ws : List Word)
  | search (ws : List Word)
  | next (i : Nat)
  | ctlRead
  | ctlWrite (w0 w1 : Word)
  | stats
  | bad
  | tins (ws : List Word)
  | tdel (key : List Byte) (plen : Nat)
  | twr (i first : Nat) (ws : List Word)
  | atom (fn i first a b : Nat)
  | cnt (i bytes : Nat)
  deriving DecidableEq, Repr

/-- Who asked: the interface of a match tile, or a thread of a PE with the number of its outstanding operation and the
OWNER whose tables it may alter. -/
inductive TblSrc where
  | iface (m : Nat)
  | engine (pe thr slot owner : Nat)
  deriving DecidableEq, Repr

/-- A change or command waiting at its home tile (R133). -/
structure TblChg where
  src : TblSrc
  table : Nat
  req : TblReq
  deriving DecidableEq, Repr

/-- An answer on its way back: status, index and words. -/
structure TblAns where
  src : TblSrc
  status : Nat
  index : Option Nat
  words : List Word
  colour : Nat
  deriving DecidableEq, Repr

/-- Who waits for a lookup: a packet of the fast path and the lookup's role (0 flow, 1 L2 destination, 2 LPM, 3 L2
source), or a thread. -/
inductive LookSrc where
  | fast (id role : Nat)
  | engine (pe thr slot : Nat)
  deriving DecidableEq, Repr

/-- A lookup not yet served (R127, R183): table, key or index, the entry words asked for, and the source to learn. -/
structure LookReq where
  src : LookSrc
  table : Nat
  key : List Byte
  index : Nat
  first : Nat
  n : Nat
  learn : Bool
  source : Option (Nat × Nat)
  deriving DecidableEq, Repr

/-- A queued learn request (R123): table, SLICE and VID and MAC as a key, and the source port and queue. -/
structure LearnReq where
  table : Nat
  key : List Byte
  port : Nat
  queue : Nat
  deriving DecidableEq, Repr

/-- A packet that the fast path is deciding (R129): its number, the packet and its source, the tables it looked up and
the results that have returned, by role. -/
structure FastPkt where
  id : Nat
  pkt : Pkt
  roles : List Nat
  results : List (Nat × Option (List Word))
  deriving DecidableEq, Repr

/-- The match tiles. -/
structure MatchSt where
  tables : List Tbl
  changes : List TblChg
  answers : List TblAns
  looks : List LookReq
  learn : List LearnReq
  fast : List FastPkt
  /-- Number given to the next packet of the fast path. -/
  fastId : Nat
  deriving DecidableEq, Repr
/-- States of a thread (R145). -/
inductive ThrState where
  | idle | loading | running | waiting
  deriving DecidableEq, Repr

/-- A table operation a thread has outstanding (R182, R188): its slot, its destination register, how many words follow
the status, and the registers whose late result is discarded. -/
structure ThrOp where
  slot : Nat
  dst : Nat
  n : Nat
  dead : List Nat
  deriving DecidableEq, Repr

/-- A thread of a PE (R144, R176): its registers, the three parts of its packet, the packet's other state with the
metadata words, the program counter, the hitch and tag of its packet, outstanding operations, packets emitted, and the PE cycles
since the dispatch of its packet (R149). -/
structure Thr where
  st : ThrState
  g : List Word
  v : List Byte
  spill : List Byte
  tail : List Byte
  pkt : Pkt
  pc : Nat
  hitch : Nat
  tag : Nat
  ops : List ThrOp
  nextSlot : Nat
  emits : Nat
  cycles : Nat
  deriving DecidableEq, Repr

/-- A PE: its threads, the thread that issued last (R143), CNT operations in flight (R186), the ms of its last trap event
(R194), and the word addresses of its instruction and data memories with an uncorrectable error (R193). -/
structure PeSt where
  thr : List Thr
  last : Nat
  cnts : Nat
  trapAt : Option Nat
  badCode : List Nat
  badData : List Nat
  deriving DecidableEq, Repr

/-- A packet emitted and not yet released from its hitch (R153): the packet, the action word, and the time of its emit. -/
structure Emit where
  pkt : Pkt
  act : Nat
  time : Nat
  deriving DecidableEq, Repr

/-- A tag of an engine hitch (R152): its number, order class, the tag of the enclosing hitch it was dispatched under,
whether its packet has ended, the packets emitted and not yet released, and once no earlier tag of its class is outstanding the
time since when. -/
structure TagRec where
  tag : Nat
  cls : Nat
  up : Option (Nat × Nat)
  done : Bool
  outs : List Emit
  first : Option Nat
  deriving DecidableEq, Repr

/-- A step of the rein controller in progress at an engine hitch (R162, R163): an addition or a removal, the PE, the
window and the device time of the decision. -/
structure ReinStep where
  add : Bool
  pe : Nat
  window : Nat
  time : Nat
  deriving DecidableEq, Repr

/-- An engine hitch: its dispatch FIFO with the tags given, the number of the next tag, the tags in order, the step in
progress, whether the entry of R159 for the present run and that of R160 have been written, and whether the hitch has failed
a condition of R158 in the window now running. -/
structure EhSt where
  id : Nat
  fifo : List (Nat × Pkt)
  next : Nat
  tags : List TagRec
  step : Option ReinStep
  highLogged : Bool
  lowLogged : Bool
  broke : Bool
  deriving DecidableEq, Repr
/-- Where a packet is bound at the switch core (R128, R199): a logical port, with the host queue it names for ports 16 and
17; a host queue, on the port of the function that owns it; an engine hitch; or a hitch inside the subtree it comes from,
which it reaches without passing the core (R200). -/
inductive SwDest where
  | port (p q : Nat)
  | queue (q : Nat)
  | hitch (u : Nat)
  | inner (u : Nat)
  deriving DecidableEq, Repr

/-- A packet on its way to the switch core or in it: a number of its own, its input (R201), its destination, the state of
a crypto request (0 = none or done, 1 = waits for a tile, 2 = in a tile), and once admitted its output port and cells. -/
structure SwPkt where
  id : Nat
  pkt : Pkt
  input : Nat
  dest : SwDest
  crypto : Nat
  out : Nat
  cells : Nat
  deriving DecidableEq, Repr

/-- The switch core (R196 to R219): packets on their way in, packets held at their inputs, packets in the output queues,
each in order of entry; packets read for the DMA tiles with their queue, for the transport and storage tiles and for the
management cores; the class each port's reader served last; the Identification counter of R213; the number for the next
packet. -/
structure SwSt where
  wire : List SwPkt
  held : List SwPkt
  queued : List SwPkt
  hostRx : List (Nat × Pkt)
  transport : List Pkt
  storage : List Pkt
  mgmt : List Pkt
  rr : List (Nat × Nat)
  ident : Nat
  nextId : Nat
  deriving DecidableEq, Repr
/-- Deficit round robin among the children of one point (R225): the rounds of all priority groups, each entry a group and
a child, head first; the deficits that are not 0; and the heads already topped up. -/
structure Drr where
  round : List (Nat × Nat)
  deficit : List (Nat × Int)
  topped : List Nat
  deriving DecidableEq, Repr

/-- The wire scheduler of a port (R232 to R235): its round robin, classes whose head frame has been counted as held, the
admin list that waits with its cycle and change time in ns, and the start of the operating
list in ns. -/
structure WireSt where
  port : Nat
  drr : Drr
  heldSeen : List Nat
  waiting : Option (List Word × Nat × Nat)
  start : Nat
  deriving DecidableEq, Repr

/-- A meter operation that has been started (R239): its operation, its outcome status, and the words it returns. -/
structure MeterOp where
  op : Nat
  status : Nat
  words : List Word
  deriving DecidableEq, Repr

/-- A POL operation waiting at the home tile of its policer array (R187, R238). -/
structure PolReq where
  src : TblSrc
  table : Nat
  index : Nat
  bytes : Nat
  colour : Nat
  bad : Bool
  deriving DecidableEq, Repr

/-- Scheduling: the fetch tree's round robins by node (65,536 for the roots), the wire schedulers, meter operations, and
policer operations. -/
structure SchedSt where
  fetch : List (Nat × Drr)
  wires : List WireSt
  meter : Option MeterOp
  pols : List PolReq
  deriving DecidableEq, Repr
/-- A key a packet may be opened or sealed under: SA index, words 0 to 15 of its record as the home-tile step found them,
and the sequence of the packet (R252, R255). -/
structure SaCand where
  idx : Nat
  sa : List Word
  seq : Nat
  deriving DecidableEq, Repr

/-- A packet between its home-tile step and the end of its cipher work (R252): its number at the switch core and its
candidate keys, the newer first. -/
structure CryStep where
  id : Nat
  cands : List SaCand
  deriving DecidableEq, Repr

/-- A command on an SA interface whose result is not yet in place (R257): tile, operation and index; and, once its home tile has taken
it, its status and the words it returns. -/
structure SaOp where
  tile : Nat
  op : Nat
  index : Nat
  res : Option (Nat × List Word)
  deriving DecidableEq, Repr

/-- A random request that waits (R262): the function it is for; the admin command it serves, or the SPDM request whose answer needs
it (R323); its length; the bytes generated so far; whether the reseed that ENT_CTL.PRED_RESIST asks for has been made; and when it
came. -/
structure EntReq where
  pf : Nat
  adm : Option Nat
  spdm : Option (List Byte)
  len : Nat
  gen : List Byte
  fresh : Bool
  at_ : Nat
  deriving DecidableEq, Repr

/-- The health tests between two samples (R260): the last sample and how often it has come in a row; in the window of 1,024 samples
the position, the first sample, and how often it has come. -/
structure EntTest where
  last : Option Bool
  run : Nat
  pos : Nat
  first : Bool
  same : Nat
  deriving DecidableEq, Repr

/-- The crypto tiles and the entropy source besides their registers: key cache lines and the way after the last fill
(R251), packets in a tile, commands, packets counted as held by their sequence lease (R470), the ms of the last
crypto-drop and key-overlap event per SA; the DRBG seeded, reseeding due, its generate calls and the time of its last
seed, outputs drawn, whether the startup test has passed, the time of the failure that began the restarts, requests,
the values of the RNG_DATA buffer, the raw pool, the health tests, and the samples that the startup test in progress has
taken. -/
structure CrySt where
  cache : List CLine
  rr : List (Nat × Nat)
  steps : List CryStep
  ops : List SaOp
  heldSeen : List Nat
  dropAt : List (Nat × Nat)
  overlapAt : List (Nat × Nat)
  seeded : Bool
  due : Bool
  gens : Nat
  seedAt : Nat
  drawn : Nat
  tested : Bool
  failAt : Nat
  reqs : List EntReq
  rng : List Nat
  pool : List Bool
  test : EntTest
  started : Nat
  deriving DecidableEq, Repr
/-- A message a requester has outstanding (R270), beside its entry in the context: entry number, ring index of its job in
SQ, operation, length, remote address and key, immediate data, first PSN and number of PSNs, packets built so far (for a
READ: 0 or 1), bytes of READ data received, and the storage tile's post it serves, if one (R289). -/
structure TpMsg where
  slot : Nat
  job : Nat
  op : Nat
  len : Nat
  va : Nat
  rkey : Nat
  imm : Nat
  first : Nat
  n : Nat
  sent : Nat
  got : Nat
  post : Option Nat
  deriving DecidableEq, Repr

/-- A peer's READ being served (R270, R273): its entry, address, key, length, first PSN and number of PSNs, and the next response
to build. -/
structure TpRead where
  slot : Nat
  va : Nat
  rkey : Nat
  len : Nat
  first : Nat
  n : Nat
  next : Nat
  deriving DecidableEq, Repr

/-- A SEND (op 1) or WRITE (op 3) of the peer in reception (R273, R282): whether its first packets went to a device that has failed,
so that its address and length are free values (R278); address, key and length of a WRITE, bytes received, the
ring index of the receive descriptor in RQ if one is held, the descriptor's entry, the bytes of a capsule
(R289), and the tally index. -/
structure TpRx where
  lost : Bool
  op : Nat
  va : Nat
  rkey : Nat
  len : Nat
  got : Nat
  job : Option Nat
  ent : List Word
  data : List Byte
  tally : Option Nat
  deriving DecidableEq, Repr

/-- An answer that a responder owes, in order (R272, R273, R281): an ACK or NAK with its syndrome, PSN and message sequence number; the
responses of a READ; a CNP. -/
inductive TpAns where
  | ack (syn psn msn : Nat)
  | read (r : TpRead)
  | cnp
  deriving DecidableEq, Repr

/-- What a tethered connection holds back (R277): a packet for an output port; the end of an outstanding message with its
status and RESULT; the end of a served READ; the completion of another job of SQ or RQ with RESULT, FLAGS and the
immediate data that replaces WR_TAG; a tally entry to release. -/
inductive TpOut where
  | frame (p : Pkt)
  | message (slot status result : Nat)
  | served (slot : Nat)
  | recv (q idx status result flags : Nat) (imm : Option Nat)
  | tally (t : Nat)
  deriving DecidableEq, Repr

/-- What the home tile keeps of a connection besides its context: the next PSN to send; the step of R275 (1: UNA_PSN is to be
sent again alone, 2: it has been and its answer is awaited); the PSN at which sending resumes after an RNR wait (R274); packets since the last ACK sent; a sequence-error NAK
sent since EPSN last advanced (R273); the message in reception; outstanding messages in order; answers owed, oldest first; SEQ of
the yoke frame with the newest record that its outputs report, if one must be waited for (R277); what the tether holds, each
with the SEQ it waits for; a RATE, if the change has one, and SHP_BURST waiting for the next refill (R230, R280); built from
a mirror or a saved state, with no request begun since (R278, R343). -/
structure TpConn where
  cid : Nat
  next : Nat
  probe : Nat
  rnr : Option Nat
  acks : Nat
  naked : Bool
  rx : Option TpRx
  msgs : List TpMsg
  answers : List TpAns
  rec_ : Option Nat
  held : List (Option Nat × TpOut)
  pend : Option (Option Nat × Nat)
  adopted : Bool
  deriving DecidableEq, Repr

/-- The transport tiles besides their registers and contexts: connections, tally entries held (R282, R283), the context
cache of each tile and its round-robin positions (R267), and connections whose tether was lost (R277). -/
structure TpSt where
  conns : List TpConn
  tally : List (Nat × Nat)
  cache : List (Nat × CLine)
  rr : List (Nat × Nat × Nat)
  bypassed : Bool
  deriving DecidableEq, Repr
/-- Format of a namespace's blocks (R293): 4,096-byte blocks, metadata bytes, PI type, 64-bit guard, PI on the fabric. -/
structure NsFmt where
  lba4k : Bool
  md : Nat
  pi : Nat
  g64 : Bool
  fab : Bool
  deriving DecidableEq, Repr

/-- A sub-command of a storage command (R296): the extent entry it concerns, its backend, first backend block and number of
blocks, first block within the command, whether it holds a tally entry and has been sent, and its status, NVMe status and
data once answered. -/
structure StSub where
  ext : Nat
  backend : Nat
  lba : Nat
  nlb : Nat
  off : Nat
  sent : Bool
  status : Option (Nat × Nat)
  data : List Byte
  deriving DecidableEq, Repr

/-- A storage command in flight (R296): its number, session, submission entry, tag on the fabric and in-capsule data; the
step it waits at (4 fence, 5 data, 6 backends, 8 response, 9 data lost to a digest); namespace and format; the extents of its
snapshot; its data, how much of it has come and how much is due; sub-commands; tally entries held; the ring index of the
host's job or the command and sub-command it serves; and whether its session has gone. -/
structure StCmd where
  id : Nat
  sess : Nat
  sqe : List Byte
  tag : Nat
  step : Nat
  ns : Option Nat
  fmt : NsFmt
  exts : List (Nat × List Word)
  data : List Byte
  got : Nat
  due : Nat
  subs : List StSub
  tally : Nat
  job : Option Nat
  parent : Option (Nat × Nat)
  gone : Bool
  deriving DecidableEq, Repr

/-- A message that a storage tile posts on a connection (R289): its number, connection and command, operation (1 SEND, 3
WRITE, 5 READ), remote address and key, bytes to send, length, whether it is a message of the transport yet, data received
and how it ended. -/
structure StPost where
  id : Nat
  cid : Nat
  cmd : Nat
  op : Nat
  va : Nat
  rkey : Nat
  data : List Byte
  len : Nat
  started : Bool
  got : List Byte
  done : Option Nat
  deriving DecidableEq, Repr

/-- What the home tile keeps of a TCP stream besides the context (R290): bytes from SND_UNA on, received bytes that are no
whole PDU yet, duplicate ACKs, consecutive timeouts, a timed segment (the sequence after it and its time), ACKs owed, a range
of the stream to be sent again, and a probe of a closed window to be sent. -/
structure StTcp where
  sess : Nat
  buf : List Byte
  rx : List Byte
  dup : Nat
  tries : Nat
  timed : Option (Nat × Nat)
  owed : Nat
  again : Option (Nat × Nat)
  probe : Bool
  deriving DecidableEq, Repr

/-- What a home tile keeps of the stream of session `s` as it begins, with `buf` from SND_UNA on. -/
def StTcp.init (s : Nat) (buf : List Byte) : StTcp :=
  { sess := s, buf := buf, rx := [], dup := 0, tries := 0, timed := none, owed := 0, again := none, probe := false }

/-- The storage tiles besides their registers and records: commands in flight and the next number, posted messages and the
next number, capsules received and not yet handled (session, bytes), sub-commands answered and not yet handled (command,
place, status, NVMe status, data), sub-commands that wait for a BACKEND queue (queue, command, place), streams, packets
handed to software that the switch core has not taken (R290, R292), admin commands that wait (function, ring index, namespace or
extent, commands awaited), and the context cache of each tile with
its round-robin positions. -/
structure StorSt where
  cmds : List StCmd
  next : Nat
  posts : List StPost
  postNext : Nat
  capsules : List (Nat × List Byte)
  answers : List (Nat × Nat × Nat × Nat × List Byte)
  backQ : List (Nat × Nat × Nat)
  tcp : List StTcp
  copies : List (SwDest × Pkt)
  nsWaits : List (Nat × Nat × Nat)
  fences : List (Nat × Nat × List Nat)
  cache : List (Nat × CLine)
  rr : List (Nat × Nat × Nat)
  deriving DecidableEq, Repr
/-- A grant of the fetch scheduler (R224, R226): the point and the sibling selected at each level, the shapers they named then,
and whether the charge has been made. -/
structure Grant where
  path : List (Nat × Nat)
  shapers : List Nat
  paid : Bool
  deriving DecidableEq, Repr

/-- A job taken from a work ring and not yet completed (R356, R374): ring index of its F entry, its entries, the bytes it
has moved, whether the fetch scheduler has granted it, that grant, and its result once it has one. -/
structure Job where
  idx : Nat
  ents : List (List Word)
  moved : Nat
  granted : Bool
  grant : Option Grant
  result : Option (Nat × Nat × Nat)
  deriving DecidableEq, Repr

/-- A completion a queue owes and holds while STALLED (R372): words without PHASE. -/
structure HeldCpl where
  w0 : Word
  w1 : Word
  deriving DecidableEq, Repr

/-- An outstanding sub-command of a BACKEND queue (R365): slot and work-ring index, WR_TAG, and the storage command and
part it serves. -/
structure BackSlot where
  idx : Nat
  tag : Nat
  cmd : Nat
  part : Nat
  deriving DecidableEq, Repr

/-- What the device keeps of a queue besides its context: a recorded ring (R354), QCTL.ENABLE (R375), jobs taken, held
completions, BACKEND slots awaiting an answer and the read position of the host-written completion ring. -/
structure QSt where
  qid : Nat
  rung : Bool
  enable : Bool
  jobs : List Job
  held : List HeldCpl
  slots : List BackSlot
  auxPos : Nat
  auxPhase : Nat
  deriving DecidableEq, Repr

/-- An admin command in flight (R379): its function, ring index, entry words, whether it has started, a count it keeps
while it runs, and its status and RESULT once it has finished. -/
structure AdminCmd where
  pf : Nat
  idx : Nat
  ent : List Word
  started : Bool
  count : Nat
  done : Option (Nat × Nat)
  deriving DecidableEq, Repr
/-- A descriptor read of a DMA channel (R388): its address, and the words read or the cause of its failure. -/
structure ChFetch where
  addr : Nat
  words : Option (List Word)
  bad : Option Nat
  deriving DecidableEq, Repr

/-- A burst of a DMA channel (R390): its first byte within the descriptor, its length, and the bytes read or the cause of
its failure. -/
structure ChBurst where
  off : Nat
  len : Nat
  data : Option (List Byte)
  bad : Option Nat
  deriving DecidableEq, Repr

/-- A DMA channel that is not IDLE (R388 to R391), besides its registers: the descriptor in execution, reads of the next
descriptors, bytes for which bursts have been issued, bursts outstanding, and a flush read outstanding. -/
structure ChSt where
  tile : Nat
  ch : Nat
  cur : Option (List Word)
  fetch : List ChFetch
  issued : Nat
  bursts : List ChBurst
  flush : Bool
  deriving DecidableEq, Repr

/-- The DMA tiles: channels, the requester each tile served last (16 is queue work, R396), and the ms of the last spoof
event by tile and slice (R336). -/
structure DmaSt where
  chans : List ChSt
  rr : List (Nat × Nat)
  spoofAt : List (Nat × Nat × Nat)
  deriving DecidableEq, Repr
/-- A message in a mailbox (R419 to R422): mailbox, channel, the MBX_TIMEOUT in force at its SEND in µs, and the device time in
ns at which its timer ends, while it runs. -/
structure MbxMsg where
  box : Nat
  ch : Nat
  us : Nat
  due : Option Nat
  deriving DecidableEq, Repr
/-- What the governor keeps of one region besides REG_STATUS and REG_CTL (R442 to R448). -/
structure RegionSt where
  /-- Gait of the step in progress, if any. -/
  step : Option Nat
  /-- A step up waits for the one in progress (R442). -/
  upWaits : Bool
  /-- Gait in force when the region last left Walk or a faster gait (R443). -/
  wakeGait : Nat
  /-- A wake trigger is pending. -/
  wakeReq : Bool
  /-- Consecutive low windows (R444). -/
  lowRun : Nat
  /-- Samples, 100 µs each, since the last lowering or raising by R447. -/
  hot : Nat
  cool : Nat
  /-- The cap of R447. -/
  gradCap : Nat
  /-- The cap of R448. -/
  limitCap : Nat
  deriving DecidableEq, Repr

/-- States of the device (R452). -/
inductive PowerState where
  | sealed | run | hold
  deriving DecidableEq, Repr

/-- Power state, the regions, the gallop credit in µJ (R450), what the keeper records at Hold (R453), which flash copy
of the ledger is written next (R454), and the refresh rate of each HBM stack (R570). -/
structure PowerSt where
  state : PowerState
  regions : List RegionSt
  creditUj : Nat
  keepAtHold : Nat
  ledgerNext : Nat
  fastRefresh : List Bool
  deriving DecidableEq, Repr

/-- A record of the mirror stream (R468); RTYPE 0 stands for a CONTROL frame whose payload is OP and BODY. -/
structure MirRec where
  rtype : Nat
  op : Nat
  index : Nat
  body : List Byte
  deriving DecidableEq, Repr

/-- A reliable yoke frame kept until acknowledged (R465). -/
structure YokeFrm where
  kind : Nat
  ackNow : Bool
  seq : Nat
  payload : List Byte
  deriving DecidableEq, Repr

/-- What the partner's HELLO carried (R472). -/
structure PeerHello where
  side : Nat
  role : Nat
  fmtMin : Nat
  fmtMax : Nat
  adoptBase : Nat
  adoptCount : Nat
  mirrorQbase : Nat
  epoch : Nat
  deriving DecidableEq, Repr

/-- The twin pair besides its registers (R459 to R487). -/
structure TwinSt where
  /-- Retransmit buffer, oldest first. -/
  unacked : List YokeFrm
  /-- Records not yet sent, oldest first (R469), with their ACK_NOW mark. -/
  deferred : List (MirRec × Bool)
  /-- When records began to wait for room in the retransmit buffer (R465). -/
  fullSince : Option Nat
  /-- Queues whose head record is due (R471). -/
  heads : List Nat
  /-- Decrypt SAs whose H has advanced since their last sequence record (R470). -/
  saHeads : List Nat
  /-- The partner's objects (R468). -/
  mirror : List MirRec
  /-- A NAK has been sent since EXPECTED last advanced (R466). -/
  nakSent : Bool
  /-- Reliable payload bytes received since the last ACK, and whether a frame waits for one. -/
  sinceAck : Nat
  ackDue : Bool
  hello : Option PeerHello
  /-- TWIN_ATTACH or TWIN_SWITCHOVER in flight: function and ring index. -/
  cmd : Option (Nat × Nat)
  /-- SEQ of the own SYNC_DONE; the partner's SYNC_DONE has been applied. -/
  doneSeq : Option Nat
  peerDone : Bool
  /-- This twin's claim of PRIMARY at the next attach (R461). -/
  claim : Bool
  /-- Last 16 offsets in ns (R480). -/
  offsets : List Int
  /-- A declared takeover: cause, time, and whether it waits for TWIN_ALIVE_I (R475). -/
  declared : Option (Nat × Nat × Bool)
  /-- The mirror is fixed (R476): queues, slices and connections adopted. -/
  fixed : Option (Nat × Nat × Nat)
  /-- An own switchover in progress: scope, whether SWITCHOVER has been sent, and the slices frozen for it (R481). -/
  switchover : Option (Nat × Bool × List Nat)
  /-- Sequence leases of encrypt SAs: index and newest acknowledged SEQ (R470). -/
  leases : List (Nat × Nat)
  /-- SEQ values sent and not acknowledged: frame SEQ, SA index, SA SEQ. -/
  leaseSent : List (Nat × Nat × Nat)
  /-- Objects that were adopted: record type and index (R460, R461, R481). -/
  adopted : List (Nat × Nat)
  deriving DecidableEq, Repr
/-- A relay frame taken (R490, R491): its header fields, payload, the sender's domain time, and the device time of its arrival. -/
structure RlFrame where
  epoch : Nat
  typ : Nat
  src : Nat
  seq : Nat
  ack : Nat
  opSeq : Nat
  opId : Nat
  payload : List Byte
  sent : Nat
  at_ : Nat
  deriving DecidableEq, Repr

/-- A reliable relay frame not yet acknowledged (R493), with the retransmissions made. -/
structure RlSent where
  seq : Nat
  typ : Nat
  opSeq : Nat
  opId : Nat
  payload : List Byte
  tries : Nat
  deriving DecidableEq, Repr

/-- The link to a neighbour (R493 to R495): its member, kind (0 the parent or a member asked to be, 1 a child, 2 a member refused),
next LINK_SEQ to send, last one received in order, frames not acknowledged; of a child its lowest epoch, the members of its
subtree and the domain time at which its last KEEPALIVE arrived; of a parent the device time of the KEEPALIVE sent to it. -/
structure RlLink where
  id : Nat
  kind : Nat
  tx : Nat
  rx : Nat
  sent : List RlSent
  epoch : Nat
  count : Nat
  heard : Option Nat
  asked : Option Nat
  deriving DecidableEq, Repr

/-- An operation in flight at this member (R496, R497): kind (1 barrier, 2 broadcast, 3 snapshot, 4 domain reset), OP_ID, OP_SEQ once
known, the command of this member that started it with its ARG and payload, whether this member has taken part, whether its
up frame has been sent, children still awaited, and the two counts of the up frame. -/
structure RlOp where
  kind : Nat
  opId : Nat
  seq : Option Nat
  own : Option (Nat × Nat)
  arg : Nat
  payload : List Byte
  entered : Bool
  up : Bool
  waits : List Nat
  a : Nat
  b : Nat
  deriving DecidableEq, Repr

/-- The relay engine besides its registers (R488 to R500): the peer table (words 0 and 1 by member), DOMAIN_SIZE, frames taken,
links, operations, members still to be asked in the attempt to attach, the kind of attempt (0 none, 1 RELAY_JOIN, 2 a
re-attach), its start, whether this member becomes root when it ends, the command that waits, the parent, the last OP_SEQ
assigned or applied, the OFFSET with its goal and the time it was set, whether the next exchange sets it at once, latches
(OP_SEQ, instant) and resets (OP_SEQ, instant, kind) armed, the next slot of the receive ring, slots firmware has not
read, TREE_UPDATEs that wait for the operations in flight, and a member to be asked once it has acknowledged. -/
structure RelaySt where
  peers : List (Nat × Nat)
  size : Nat
  rx : List RlFrame
  links : List RlLink
  ops : List RlOp
  join : List Nat
  joinKind : Nat
  joinAt : Nat
  heir : Bool
  cmd : Option (Nat × Nat)
  parent : Option Nat
  seq : Nat
  base : Int
  goal : Int
  goalAt : Nat
  first : Bool
  snaps : List (Nat × Nat)
  resets : List (Nat × Nat × Nat)
  slot : Nat
  unread : List Nat
  updates : List (Nat × Nat)
  after : Option Nat
  deriving DecidableEq, Repr
/-- Records whose words hold an uncorrectable error (R506), by class code and index, a mirror's copy by 64 plus its record type;
and the 8-byte words of management-core memory that do (R534). -/
structure IntegSt where
  recs : List (Nat × Nat)
  core : List Nat
  deriving DecidableEq, Repr

/-- Resets and the boot sequence besides their registers (R516, R523): device time of the last reset of the root hitch, digest of
the accepted firmware copy (empty: none), queues of a function whose destruction waits for the end of a patch and functions
whose objects' destruction waits for the end of a takeover (R527), the cause that the next power-on records (R528), whether a rise of PWR_GOOD counts (R551), whether THERMTRIP_N is asserted or was
since the last reset of the root hitch (R550), and unit resets not yet completed, each with the units it reset (R521). -/
structure BootSt where
  t0 : Nat
  fw : List Byte
  doomed : List Nat
  late : List Nat
  cause : Nat
  armed : Bool
  tripped : Bool
  resetting : List (Nat × List Nat)
  deriving DecidableEq, Repr
/-- A fuse operation in progress (R537): operation, argument, data of FUSE_DATA, and whether it raises an event. -/
structure FuseOp where
  op : Nat
  arg : Nat
  data : List Byte
  evt : Bool
  deriving DecidableEq, Repr

/-- A firmware operation of the flash controller, waiting or running (R540). -/
structure XspiOp where
  op : Nat
  addr : Nat
  len : Nat
  buf : Nat
  evt : Bool
  deriving DecidableEq, Repr

/-- The transaction running on an I2C controller (R542). -/
structure I2cOp where
  read : Bool
  len : Nat
  evt : Bool
  deriving DecidableEq, Repr

/-- The slow interfaces besides their registers: fuse and flash operations, for each I2C controller the cage last selected and the
transaction running (R542), automatic ResetL pulses as cage and time of their end (R543), packets in the SMBus ring (R545),
packets that the boot ROM has served in ROM_RECOVERY (R546), the JTAG instruction and boundary register (R547), and the
device time of the last GPIO event (R549). -/
structure MgmtSt where
  fuse : Option FuseOp
  xspi : Option XspiOp
  cages : List (Option Nat)
  i2c : List (Option I2cOp)
  pulses : List (Nat × Nat)
  smbHeld : Nat
  romLog : List (List Byte)
  ir : Nat
  boundary : List (Pin × Bool)
  gpioAt : Option Nat
  deriving DecidableEq, Repr

/-- The device: everything but the queue of waiting commands. -/
structure Dev where
  regs : List (Nat × Word)
  objs : List (Nat × Word)
  bytes : List Host.Cell
  hitches : List Hitch
  ev : EvSt
  img : ImgSt
  epA : EpSt
  epB : EpSt
  out : List Out
  time : Nat
  free : Nat
  fuse : FuseSt
  fuseLoaded : FuseSt
  macs : List MacSt
  tb : TbSt
  prism : PrismSt
  tbl : MatchSt
  pes : List PeSt
  ehs : List EhSt
  sw : SwSt
  sched : SchedSt
  cry : CrySt
  tp : TpSt
  stor : StorSt
  queues : List QSt
  admin : List AdminCmd
  aqRung : Bool × Bool
  dma : DmaSt
  mbx : List MbxMsg
  power : PowerSt
  twin : TwinSt
  relay : RelaySt
  integ : IntegSt
  boot : BootSt
  mgmt : MgmtSt
  deriving DecidableEq, Repr

/-- The state: the device and the queue of commands that wait, first in first out. -/
structure State where
  dev : Dev
  pending : List Instr
  deriving DecidableEq, Repr



/-- No key slot fused and every feature present (assumption 3). -/
def FuseSt.init : FuseSt :=
  { imgKeys := List.replicate 4 (List.replicate 48 0), imgRevoke := 0, fwKeys := List.replicate 2 (List.replicate 48 0)
    fwRevoke := 0, imgSvn := 0, fwSvn := 0, feature := 0x7FF, debugEn := false }

/-- A MAC with nothing in progress. -/
def MacSt.init : MacSt :=
  { timers := List.replicate 8 0, swXoff := 0, tx := none, held := none, rxOpen := none, tries := 0, tsFifo := []
    tsLost := false, under := false, due := none, rf := false }


/-- A packet with no bytes. -/
def Pkt.blank : Pkt :=
  { data := [], m := List.replicate 16 0, poison := false, fcs := false, prism := none, job := none }

/-- An idle thread. -/
def Thr.init : Thr :=
  { st := .idle, g := List.replicate 32 0, v := [], spill := [], tail := [], pkt := Pkt.blank, pc := 0, hitch := 0, tag := 0
    ops := [], nextSlot := 0, emits := 0, cycles := 0 }

/-- A PE with every thread idle. -/
def PeSt.init : PeSt :=
  { thr := List.replicate 8 Thr.init, last := 7, cnts := 0, trapAt := none, badCode := [], badData := [] }


/-- The switch core empty. -/
def SwSt.init : SwSt :=
  { wire := [], held := [], queued := [], hostRx := [], transport := [], storage := [], mgmt := [], rr := [], ident := 0
    nextId := 0 }


/-- Health tests that have seen no sample. -/
def EntTest.init : EntTest := { last := none, run := 0, pos := 0, first := false, same := 0 }

/-- No packet in a crypto tile; the entropy source in its startup test (R265). -/
def CrySt.init : CrySt :=
  { cache := [], rr := [], steps := [], ops := [], heldSeen := [], dropAt := [], overlapAt := [], seeded := false
    due := false, gens := 0, seedAt := 0, drawn := 0, tested := false, failAt := 0, reqs := [], rng := []
    pool := [], test := EntTest.init, started := 0 }


/-- No connection. -/
def TpSt.init : TpSt := { conns := [], tally := [], cache := [], rr := [], bypassed := false }


/-- No storage command in flight. -/
def StorSt.init : StorSt :=
  { cmds := [], next := 0, posts := [], postNext := 0, capsules := [], answers := [], backQ := [], tcp := [], copies := [], nsWaits := []
    fences := [], cache := [], rr := [] }

/-- A region after reset: asleep, no cap, waking to Walk (assumption 7). -/
def RegionSt.init : RegionSt :=
  { step := none, upWaits := false, wakeGait := 2, wakeReq := false, lowRun := 0, hot := 0, cool := 0, gradCap := 5
    limitCap := 5 }

/-- The device in Run with a full credit (R450). -/
def PowerSt.init : PowerSt :=
  { state := .run, regions := List.replicate 19 RegionSt.init, creditUj := 1500000000, keepAtHold := 0, ledgerNext := 0
    fastRefresh := [false, false] }


/-- The twin fresh from reset: DETACHED, claiming STANDBY (R461). -/
def TwinSt.init : TwinSt :=
  { unacked := [], deferred := [], fullSince := none, heads := [], saHeads := [], mirror := [], nakSent := false, sinceAck := 0, ackDue := false
    hello := none, cmd := none, doneSeq := none, peerDone := false, claim := false, offsets := [], declared := none
    fixed := none, switchover := none, leases := [], leaseSent := [], adopted := [] }

/-- A relay engine in no domain. -/
def RelaySt.init : RelaySt :=
  { peers := [], size := 0, rx := [], links := [], ops := [], join := [], joinKind := 0, joinAt := 0, heir := false
    cmd := none, parent := none, seq := 0, base := 0, goal := 0, goalAt := 0, first := true, snaps := [], resets := []
    slot := 0, unread := [], updates := [], after := none }


/-- R542, R547: no transaction has run; IDCODE is selected. -/
def MgmtSt.init : MgmtSt :=
  { fuse := none, xspi := none, cages := List.replicate 4 none, i2c := List.replicate 4 none, pulses := [], smbHeld := 0
    romLog := [], ir := 2, boundary := [], gpioAt := none }

/-- Reset of one endpoint (R325; link down, function in D0 with every enable 0). -/
def EpSt.init : EpSt :=
  { perst := true, linkUp := false, bme := false, mse := false, dstate := 0, l0pEn := false, aspmL1 := false
    l11En := false, l12En := false, atsEn := false, relaxed := true, pasidEn := false, cfg := []
    msixEn := false, msixMask := false
    l0pRun := 0, l0pReq := none, resetKind := 0, pmeSent := false, ats := [], doeIn := [], doeOut := []
    doeErr := false, spdmLog := [], ideInsecure := [], heldWrites := [], lastUnmappedMs := none }

/-- R33: the root of the bare tree, with the switch core as member 0 and the tile of UNIT_ID `u` at member `u - 0xFF`. -/
def bareRoot : Hitch :=
  { id := 0, kind := 0x81, parent := 0, slot := 0, minM := 0, maxM := 0, pool := 0, pin := false
    members := switchId :: (List.range 390).map (fun n => n + 0x100), patching := false }

/-- No image has been loaded. -/
def ImgSt.init : ImgSt :=
  { bindings := [], bounds := [], code := [], windows := [], header := [], measure3 := List.replicate 48 0
    measure4 := [], patch := none, waits := none, slotWrite := none, staged := 0 }

/-- The device after power-on reset: the bare tree, every register at its reset value, nothing held. -/
def Dev.reset : Dev :=
  { regs := [], objs := [], bytes := [], hitches := [bareRoot]
    ev := { presented := [], waiting := [], lost := [] }
    img := ImgSt.init, epA := EpSt.init, epB := EpSt.init, out := [], time := 0, free := 0
    fuse := FuseSt.init
    fuseLoaded := FuseSt.init
    macs := List.replicate 16 MacSt.init
    tb := { stopped := true, sec := 0, ns := 0, adj := none, set := none }
    prism := { graph := none, wire := [], fifo := [], parsed := [], dropAt := [] }
    tbl := { tables := [], changes := [], answers := [], looks := [], learn := [], fast := [], fastId := 0 }
    pes := List.replicate 256 PeSt.init
    ehs := []
    sw := SwSt.init
    sched := { fetch := [], wires := [], meter := none, pols := [] }
    cry := CrySt.init
    tp := TpSt.init
    stor := StorSt.init
    queues := []
    admin := []
    aqRung := (false, false)
    dma := { chans := [], rr := [], spoofAt := [] }
    mbx := []
    power := PowerSt.init
    twin := TwinSt.init
    relay := RelaySt.init
    integ := { recs := [], core := [] }
    boot := { t0 := 0, fw := [], doomed := [], late := [], cause := 1, armed := true, tripped := false, resetting := [] }
    mgmt := MgmtSt.init
  }

/-- The machine right after reset: the device as power-on reset leaves it and no command waiting. -/
def State.reset : State := { dev := Dev.reset, pending := [] }



end Sys2Proof.Machine
end

