-- ==== Sys2Proof/Machine/Ops.lean ====
section
/-! DEFINITION. The named operations over registers, contexts, byte memories, packets and outputs that every meaning is
built from. -/

namespace Sys2Proof.Machine

/-! ### Running a device function as the meaning of a command -/

/-- R452, R550: the device is in Run and its clocks have not been stopped by THERMTRIP_N. -/
def Dev.acts (d : Dev) : Bool := d.power.state = .run && !d.boot.tripped

/-- The device changes by `f` where `p` holds, and not at all elsewhere; the waiting commands stay. -/
def State.runIf (s : State) (p : Dev → Bool) (f : Dev → Dev) : Host.Outcome State Fault Refusal :=
  .next { s with dev := if p s.dev then f s.dev else s.dev }

/-- The meaning of a command that the device takes in Run only: outside Run nothing on the die but the keeper island acts
(R452, R453). -/
def State.run (s : State) (f : Dev → Dev) : Host.Outcome State Fault Refusal := s.runIf Dev.acts f

/-! ### Registers -/

/-- The cell at `off` of unit `u`. -/
def Dev.cell (d : Dev) (u off : Nat) : Word := stGet regReset d.regs (rkey u off)

/-- The device sets the whole cell at `off` of unit `u`. -/
def Dev.setCell (d : Dev) (u off : Nat) (v : Word) : Dev :=
  { d with regs := stPut regReset d.regs (rkey u off) v }

/-- Place of a field in the register store: kind-specific fields of tiles and engine hitches lie above `kb`. -/
def Fld.kind (f : Fld) : Fld := { f with off := kb + f.off }

/-- Value of field `f` of unit `u`. -/
def Dev.g (d : Dev) (u : Nat) (f : Fld) : Nat := getBits (d.cell u f.off) f.lo f.w

/-- The device sets field `f` of unit `u` to `v` modulo its width. -/
def Dev.s (d : Dev) (u : Nat) (f : Fld) (v : Nat) : Dev :=
  d.setCell u f.off (putBits (d.cell u f.off) f.lo f.w v)

/-- Field `f` of unit `u` is not 0. -/
def Dev.on (d : Dev) (u : Nat) (f : Fld) : Bool := d.g u f != 0

/-- Value of kind-specific field `f` of unit `u`. -/
def Dev.gk (d : Dev) (u : Nat) (f : Fld) : Nat := d.g u f.kind

/-- The device sets kind-specific field `f` of unit `u`. -/
def Dev.sk (d : Dev) (u : Nat) (f : Fld) (v : Nat) : Dev := d.s u f.kind v

/-- A counter of unit `u` rises by `n`, wrapping. -/
def Dev.add (d : Dev) (u : Nat) (f : Fld) (n : Nat) : Dev := d.s u f (d.g u f + n)

/-- A kind-specific counter of unit `u` rises by `n`, wrapping. -/
def Dev.addk (d : Dev) (u : Nat) (f : Fld) (n : Nat) : Dev := d.add u f.kind n

/-- A counter of the root hitch rises by 1, wrapping. -/
def Dev.bump (d : Dev) (f : Fld) : Dev := d.add rootId f 1

/-- A kind-specific counter of unit `u` rises by 1, wrapping. -/
def Dev.bumpk (d : Dev) (u : Nat) (f : Fld) : Dev := d.addk u f 1

/-- Every register cell of unit `u` whose offset `keep` does not name returns to its reset value. -/
def Dev.resetRegs (d : Dev) (u : Nat) (keep : Nat → Bool) : Dev :=
  { d with regs := stDrop (fun k => decide (k / 2 ^ 22 = u) && !keep (k % 2 ^ 22)) d.regs }

/-! ### Contexts -/

/-- Word `w` of record `i` of class code `c`. -/
def Dev.ow (d : Dev) (c i w : Nat) : Word := stGet ctxReset d.objs (okey c i w)

/-- Set word `w` of record `i` of class code `c`. -/
def Dev.setOw (d : Dev) (c i w : Nat) (v : Word) : Dev :=
  { d with objs := stPut ctxReset d.objs (okey c i w) v }

/-- Field `f` of record `i` of class `c`. -/
def Dev.cg (d : Dev) (c : Cls) (i : Nat) (f : CFld) : Nat := getBits (d.ow c.code i f.word) f.lo f.w

/-- Set field `f` of record `i` of class `c`. -/
def Dev.cs (d : Dev) (c : Cls) (i : Nat) (f : CFld) (v : Nat) : Dev :=
  d.setOw c.code i f.word (putBits (d.ow c.code i f.word) f.lo f.w v)

/-- Field `f` of record `i` rises by `n`, wrapping. -/
def Dev.cadd (d : Dev) (c : Cls) (i : Nat) (f : CFld) (n : Nat) : Dev := d.cs c i f (d.cg c i f + n)

/-- The first `n` words of record `i` of class `c`. -/
def Dev.crec (d : Dev) (c : Cls) (i n : Nat) : List Word := (List.range n).map (fun w => d.ow c.code i w)

/-- R506: record `i` of class `c` is good again. -/
def IntegSt.mend (g : IntegSt) (c : Cls) (i : Nat) : IntegSt :=
  { g with recs := g.recs.filter (fun x => x ≠ (c.code, i)) }

/-- R506: record `i` of class `c` holds an uncorrectable error. -/
def Dev.badRec (d : Dev) (c : Cls) (i : Nat) : Bool := d.integ.recs.contains (c.code, i)

/-- Write the words of a record from word 0. Writing it whole clears an error in it (R506). -/
def Dev.setRec (d : Dev) (c : Cls) (i : Nat) (ws : List Word) : Dev :=
  { d with objs := stPutList ctxReset d.objs (okey c.code i 0) ws, integ := d.integ.mend c i }

/-- Clear every word of record `i` of class `c`. -/
def Dev.clearRec (d : Dev) (c : Cls) (i : Nat) : Dev :=
  { d with objs := stDrop (fun k => decide (k / 2 ^ 8 = okey c.code i 0 / 2 ^ 8)) d.objs, integ := d.integ.mend c i }

/-- Field `f` of a structure held as a list of words. -/
def wget (ws : List Word) (f : CFld) : Nat := getBits (ws.getD f.word 0) f.lo f.w

/-- Set field `f` of a structure held as a list of words. -/
def wset (ws : List Word) (f : CFld) (v : Nat) : List Word :=
  ws.set f.word (putBits (ws.getD f.word 0) f.lo f.w v)

/-! ### Bytes -/

/-- Little-endian value of a byte list (R5). -/
def leNat : List Byte → Nat
  | [] => 0
  | b :: bs => b.toNat + 256 * leNat bs

/-- The `n` low bytes of a value, least significant first (R5). -/
def leBytes : Nat → Nat → List Byte
  | 0, _ => []
  | n + 1, v => BitVec.ofNat 8 v :: leBytes n (v / 256)

/-- Big-endian value of a byte list, as network headers are held (R5). -/
def beNat (bs : List Byte) : Nat := bs.foldl (fun a b => a * 256 + b.toNat) 0

/-- The `n` low bytes of a value, most significant first. -/
def beBytes (n v : Nat) : List Byte := (leBytes n v).reverse

/-- `n` bytes of a list from offset `o`; bytes past the end read 0. -/
def sliceBytes (bs : List Byte) (o n : Nat) : List Byte :=
  let t := (bs.drop o).take n
  t ++ List.replicate (n - t.length) 0

/-- The 64-bit words of a byte list, little-endian, `n` of them. -/
def toWords (n : Nat) (bs : List Byte) : List Word :=
  (List.range n).map (fun i => BitVec.ofNat 64 (leNat (sliceBytes bs (8 * i) 8)))

/-- The bytes of a list of words, little-endian. -/
def ofWords (ws : List Word) : List Byte := ws.flatMap (fun w => leBytes 8 w.toNat)

/-- Replace bytes of a list from offset `o`. -/
def spliceBytes (bs : List Byte) (o : Nat) (v : List Byte) : List Byte :=
  bs.take o ++ v ++ bs.drop (o + v.length)

/-- Byte `a` of a memory. -/
def Dev.byte (d : Dev) (sp : Space) (a : Nat) : Byte :=
  if sp = .core ∧ d.integ.core.contains (a / 8) then 0xFF else stGet byteReset d.bytes (bkey sp a)

/-- `n` bytes of a memory from `a`. -/
def Dev.readMem (d : Dev) (sp : Space) (a n : Nat) : List Byte := (List.range n).map (fun i => d.byte sp (a + i))

/-- Write bytes to a memory from `a`. -/
def Dev.writeMem (d : Dev) (sp : Space) (a : Nat) (bs : List Byte) : Dev :=
  let d := if sp = .core then { d with integ := { d.integ with core := d.integ.core.filter (fun w =>
      decide (8 * w + 7 < a) || decide (a + bs.length ≤ 8 * w)) } } else d
  { d with bytes := stPutList byteReset d.bytes (bkey sp a) bs }

/-- Every byte of the memory whose address `p` names returns to what an unlisted byte reads as. -/
def Dev.clearMem (d : Dev) (sp : Space) (p : Nat → Bool) : Dev :=
  { d with bytes := stDrop (fun k => decide (k / 2 ^ 56 = sp.code) && p (k % 2 ^ 56)) d.bytes }

/-! ### Outputs and free values -/

/-- Something leaves the device. -/
def Dev.emit (d : Dev) (o : Out) : Dev := { d with out := d.out ++ [o] }

/-- Several things leave the device, in order. -/
def Dev.emits (d : Dev) (os : List Out) : Dev := { d with out := d.out ++ os }

/-- The next free value: a value nothing constrains. -/
def Dev.freeVal (d : Dev) : Word := Config.freeValue d.free

/-- R543: automatic pulses whose width has passed end: MOD_RESET_N rises unless MOD_CTL holds it low. -/
def Dev.endPulses (d : Dev) : Dev :=
  let (go, stay) := d.mgmt.pulses.partition (fun p => decide (p.2 ≤ d.time))
  let d := { d with mgmt := { d.mgmt with pulses := stay } }
  go.foldl (fun (d : Dev) p =>
    if d.g rootId Root.MOD_CTL_RESET / 2 ^ p.1 % 2 = 1 then d else d.emit (.pin (.modReset p.1) true)) d

/-- The free value has been used. -/
def Dev.used (d : Dev) : Dev := { d with free := d.free + 1 }

/-- Replace element `i` of a list by `f` of it. -/
def updAt {α : Type} (l : List α) (i : Nat) (f : α → α) : List α := l.modify i f

/-- The endpoint state of function `pf`. -/
def Dev.ep (d : Dev) (pf : Nat) : EpSt := if pf = 0 then d.epA else d.epB

/-- Change the endpoint state of function `pf`. -/
def Dev.setEp (d : Dev) (pf : Nat) (f : EpSt → EpSt) : Dev :=
  if pf = 0 then { d with epA := f d.epA } else { d with epB := f d.epB }

/-- R309: a function is quiet while outside D0, while Bus Master Enable is 0, or while its link is not up. -/
def Dev.quiet (d : Dev) (pf : Nat) : Bool :=
  decide ((d.ep pf).dstate ≠ 0) || !(d.ep pf).bme || !(d.ep pf).linkUp

/-- R309: something waits for function `pf`: the first that does so in D3hot, in D3cold or with the link down signals PME or
WAKE_N. -/
def Dev.wakeHost (d : Dev) (pf : Nat) : Dev :=
  if d.quiet pf && !(d.ep pf).pmeSent && (decide ((d.ep pf).dstate ≠ 0) || !(d.ep pf).linkUp) then
    (d.setEp pf (fun e => { e with pmeSent := true })).emit (.pme pf)
  else d

/-- Value of the Device Control register of R307 until the host writes it. -/
def devCtlReset : Nat := 0x2910

/-- R308: Max_Payload_Size of a function, of which the device supports up to 512 bytes. -/
def EpSt.maxPayload (e : EpSt) : Nat :=
  let ctl := ((e.cfg.find? (fun x => x.1 = 0x68)).map (fun x => x.2.toNat)).getD devCtlReset
  min 512 (128 * 2 ^ (ctl / 2 ^ 5 % 8))

/-- Runs of at most `m` bytes, each with its address, that `bs` from address `a` is cut into; `n` bounds their number. -/
def pieces (m : Nat) : Nat → Nat → List Byte → List (Nat × List Byte)
  | 0, a, bs => [(a, bs)]
  | n + 1, a, bs => if bs.length ≤ m then [(a, bs)] else (a, bs.take m) :: pieces m n (a + m) (bs.drop m)

/-- R308: the memory writes that carry `data` to `addr` of function `pf`, none longer than Max_Payload_Size. -/
def Dev.hostTlps (d : Dev) (ro : Bool) (pf : Nat) (pasid : Option Nat) (addr : Nat) (data : List Byte) : List Out :=
  (pieces (d.ep pf).maxPayload (data.length / 128) addr data).map (fun x => .hostWrite pf pasid x.1 ro x.2)

/-- R309, R404: memory requests of function `pf` leave at once, or wait in the device while the function is quiet or others wait
before them. -/
def Dev.hostOut (d : Dev) (pf : Nat) (os : List Out) : Dev :=
  if d.quiet pf || !(d.ep pf).heldWrites.isEmpty then
    (d.setEp pf (fun e => { e with heldWrites := e.heldWrites ++ os })).wakeHost pf
  else d.emits os

/-- R308: a write the device owes host memory. -/
def Dev.hostPutAs (d : Dev) (ro : Bool) (pf : Nat) (pasid : Option Nat) (addr : Nat) (data : List Byte) : Dev :=
  d.hostOut pf (d.hostTlps ro pf pasid addr data)

/-- R308: a write of a ring entry, a completion or an event record never carries Relaxed Ordering. -/
def Dev.hostPut (d : Dev) (pf : Nat) (pasid : Option Nat) (addr : Nat) (data : List Byte) : Dev :=
  d.hostPutAs false pf pasid addr data

/-- R308: a write of payload data carries Relaxed Ordering while the function enables it. -/
def Dev.hostData (d : Dev) (pf : Nat) (pasid : Option Nat) (addr : Nat) (data : List Byte) : Dev :=
  d.hostPutAs (d.ep pf).relaxed pf pasid addr data

/-! ### Home tiles -/

/-- R252: home tile of SA `i` for a direction (0 = decrypt, 1 = encrypt), as a number from 0 to 31. -/
def saHome (i dir : Nat) : Nat := 16 * dir + i % 16

/-- R267: home transport tile of connection `c`. -/
def homeOf (c : Nat) : Nat := transportId (c % 16)

/-- R288: home storage tile of session `s`. -/
def stHome (s : Nat) : Nat := storageId (s % 8)

/-! ### Status codes (R8) -/

namespace Sc
/-- Operation completed. -/
def ok : Nat := 0x00
/-- A format rule was broken. -/
def malformed : Nat := 0x01
/-- A bus access failed. -/
def busError : Nat := 0x02
/-- A frame failed its slice's source check. -/
def spoofDrop : Nat := 0x03
/-- A table, pool or quota was exhausted. -/
def noResource : Nat := 0x04
/-- No conditioned entropy. -/
def noEntropy : Nat := 0x05
/-- A digest, guard, ICV or ECC check failed. -/
def integrity : Nat := 0x06
/-- Ended by a quiesce or destroy. -/
def aborted : Nat := 0x0F
/-- R53 step 1. -/
def imageFormat : Nat := 0x10
/-- R53 step 3. -/
def imageSignature : Nat := 0x11
/-- R53 step 2. -/
def imageKey : Nat := 0x12
/-- R53 step 4. -/
def imageRollback : Nat := 0x13
/-- R53 step 5. -/
def imageVersion : Nat := 0x14
/-- R53 step 6. -/
def imageFeature : Nat := 0x15
/-- R53 step 7. -/
def imageSection : Nat := 0x16
/-- R53 step 8. -/
def imageTree : Nat := 0x17
/-- R53 step 9. -/
def imageCapacity : Nat := 0x18
/-- R53 step 10, R58. -/
def patchTarget : Nat := 0x19
/-- R60, R63. -/
def patchBusy : Nat := 0x1A
/-- R65. -/
def patchDrain : Nat := 0x1B
/-- R58. -/
def imageLive : Nat := 0x1C
end Sc

end Sys2Proof.Machine
end

