-- ==== Sys2Proof/Machine/Crc.lean ====
section
/-! DEFINITION. The cyclic redundancy checks and ones-complement sums the spec gives (R36, R116, R176, R179, R180). -/

namespace Sys2Proof.Machine

/-- One bit of a reflected CRC. -/
def crcBitR (poly c : Nat) : Nat := if c % 2 = 1 then Nat.xor (c / 2) poly else c / 2

/-- One byte of a reflected CRC: the byte enters at the low end, least significant bit first. -/
def crcByteR (poly c : Nat) (b : Byte) : Nat :=
  let p := crcBitR poly
  p (p (p (p (p (p (p (p (Nat.xor c b.toNat))))))))

/-- A reflected CRC over bytes from a running value. -/
def crcR (poly init : Nat) (bs : List Byte) : Nat := bs.foldl (crcByteR poly) init

/-- One bit of a CRC of width `w` that is not reflected. -/
def crcBitN (w poly c : Nat) : Nat :=
  if c / 2 ^ (w - 1) % 2 = 1 then Nat.xor (c * 2 % 2 ^ w) poly else c * 2 % 2 ^ w

/-- One byte of a CRC of width `w` that is not reflected: the byte enters at the high end. -/
def crcByteN (w poly c : Nat) (b : Byte) : Nat :=
  let p := crcBitN w poly
  p (p (p (p (p (p (p (p (Nat.xor c (b.toNat * 2 ^ (w - 8))))))))))

/-- A CRC of width `w`, not reflected, over bytes from a running value. -/
def crcN (w poly init : Nat) (bs : List Byte) : Nat := bs.foldl (crcByteN w poly) init

/-- Reflected polynomial of CRC32C (R116). -/
def polyC : Nat := 0x82F63B78
/-- Reflected polynomial of the Ethernet CRC. -/
def poly32 : Nat := 0xEDB88320

/-- CRC32C with a given initial value, final value inverted (R116). -/
def crc32cFrom (init : Nat) (bs : List Byte) : Nat := Nat.xor (crcR polyC init bs) 0xFFFFFFFF

/-- CRC32C (R36). -/
def crc32c (bs : List Byte) : Nat := crc32cFrom 0xFFFFFFFF bs

/-- Fold a ones-complement sum to 16 bits. -/
def fold16 (s : Nat) : Nat :=
  let f := fun x => x % 65536 + x / 65536
  f (f (f (f s)))

/-- Sum of the big-endian 16-bit words of a byte list, an odd last byte taken as the high byte. -/
def sum16 : List Byte → Nat
  | [] => 0
  | [a] => a.toNat * 256
  | a :: b :: rest => a.toNat * 256 + b.toNat + sum16 rest

/-- The Internet checksum of a byte list. -/
def inetSum (bs : List Byte) : Nat := 65535 - fold16 (sum16 bs)

end Sys2Proof.Machine
end

