-- ==== Sys2Proof/Machine/Tree.lean ====
section
/-! DEFINITION. The tree of hitches: who encloses whom, harness addresses, effective enable, policy bounds as they apply to a
unit, and the changes of the member set (R11 to R34, R49). -/

namespace Sys2Proof.Machine

/-- The hitch with UNIT_ID `u`. -/
def Dev.hitch (d : Dev) (u : Nat) : Option Hitch := d.hitches.find? (fun h => h.id = u)

/-- Unit `u` is a hitch of the tree. -/
def Dev.isHitch (d : Dev) (u : Nat) : Bool := (d.hitch u).isSome

/-- Members of hitch `u` in slot order; a tile has none. -/
def Dev.members (d : Dev) (u : Nat) : List Nat := ((d.hitch u).map (·.members)).getD []

/-- The hitch that holds unit `u` as a member. -/
def Dev.parentOf (d : Dev) (u : Nat) : Option Nat := (d.hitches.find? (fun h => h.members.contains u)).map (·.id)

/-- Depth to which the tree is followed: strides halve at least at every level (R20), so 48 levels suffice. -/
def treeFuel : Nat := 48

/-- Unit `u` and every hitch above it, nearest first. -/
def Dev.pathUp (d : Dev) : Nat → Nat → List Nat
  | 0, u => [u]
  | n + 1, u => if u = rootId then [u] else
    match d.parentOf u with
    | some p => u :: d.pathUp n p
    | none => [u]

/-- Unit `u` and every unit below it, members in index order (R29). -/
def Dev.below (d : Dev) : Nat → Nat → List Nat
  | 0, u => [u]
  | n + 1, u => u :: (d.members u).flatMap (fun m => d.below n m)

/-- Unit `u` and the units below it. -/
def Dev.subtree (d : Dev) (u : Nat) : List Nat := d.below treeFuel u

/-- Unit `u` lies in the subtree of `a`, or is `a`. -/
def Dev.inSubtree (d : Dev) (a u : Nat) : Bool := (d.pathUp treeFuel u).contains a

/-- Unit `u` stands in the tree. -/
def Dev.present (d : Dev) (u : Nat) : Bool := (d.pathUp treeFuel u).getLast? = some rootId

/-- R19: offset of member `i` of hitch `h` from the hitch's base. -/
def Dev.memberOff (d : Dev) (h i : Nat) : Nat :=
  d.g h Hdr.FIRST_MEMBER_OFFSET_OFFSET + i * 2 ^ d.g h Hdr.MEMBER_STRIDE_STRIDE_LOG2

/-- R19: harness address of a unit, from the member offsets on its path. -/
def Dev.baseOf (d : Dev) : List Nat → Nat
  | u :: p :: rest => d.memberOff p ((d.members p).idxOf u) + d.baseOf (p :: rest)
  | _ => 0

/-- Harness address of unit `u`'s block. -/
def Dev.addrOf (d : Dev) (u : Nat) : Nat := d.baseOf (d.pathUp treeFuel u)

/-- Where a harness address falls in the tree. -/
inductive Place where
  /-- Offset `off` in the 64 KiB block of unit `u`. -/
  | block (u off : Nat)
  /-- Within the span of hitch `u` beyond its own block and outside its member slots. -/
  | span (u off : Nat)
  /-- Within the member slots of a hitch, in no unit block (R16). -/
  | slots
  /-- Outside the tree. -/
  | outside
  deriving DecidableEq, Repr

/-- R19 to R23: find the address at offset `off` from the base of unit `u`. While a hitch is PATCHING its slots read as
empty. -/
def Dev.place (d : Dev) : Nat → Nat → Nat → Place
  | 0, _, _ => .outside
  | n + 1, u, off =>
    if off < 0x10000 then .block u off
    else match d.hitch u with
      | none => .slots
      | some h =>
        let first := d.g u Hdr.FIRST_MEMBER_OFFSET_OFFSET
        let lg := d.g u Hdr.MEMBER_STRIDE_STRIDE_LOG2
        let maxc := d.g u Hdr.MEMBER_COUNT_MAX_COUNT
        if off < first then .span u off
        else if (off - first) / 2 ^ lg < maxc then
          match (if h.patching then none else h.members[(off - first) / 2 ^ lg]?) with
          | some m => d.place n m ((off - first) % 2 ^ lg)
          | none => .slots
        else if u = rootId then .outside else .slots

/-- Where harness address `a` falls in the tree. -/
def Dev.locate (d : Dev) (a : Nat) : Place := d.place treeFuel rootId a

/-! ### UNIT_STATUS.STATE -/

/-- Fused off or absent. -/
def stOff : Nat := 0
/-- Held in reset. -/
def stReset : Nat := 1
/-- Configured, effective enable 0. -/
def stReady : Nat := 2
/-- Taking work. -/
def stActive : Nat := 3
/-- Finishing work. -/
def stDraining : Nat := 4
/-- Subtree being replaced. -/
def stPatching : Nat := 5
/-- Stopped by a latched error. -/
def stHalted : Nat := 6

/-- State of unit `u`. -/
def Dev.ust (d : Dev) (u : Nat) : Nat := d.g u Hdr.UNIT_STATUS_STATE

/-- The device sets the state of unit `u`. -/
def Dev.setUst (d : Dev) (u st : Nat) : Dev := d.s u Hdr.UNIT_STATUS_STATE st

/-- R574: management cores and match tiles are not governed by effective enable. -/
def ungoverned (u : Nat) : Bool := fixedKind u = 0x0A || fixedKind u = 0x02

/-- R26: the AND of ENABLE in the unit and in every hitch above it. -/
def Dev.effEnable (d : Dev) (u : Nat) : Bool := (d.pathUp treeFuel u).all (fun a => d.on a Hdr.UNIT_CONTROL_ENABLE)

/-- A unit takes new work: by its effective enable, or always for the units of R574. -/
def Dev.takesWork (d : Dev) (u : Nat) : Bool := ungoverned u || (d.effEnable u && d.ust u = stActive)

/-- R23: unit `u` lies in the subtree of a hitch that is PATCHING (the hitch itself included). -/
def Dev.inPatching (d : Dev) (u : Nat) : Bool :=
  (d.pathUp treeFuel u).any (fun a => ((d.hitch a).map (·.patching)).getD false)

/-! ### Policy bounds (R49) -/

/-- R49: default of a bound, for MIN, MAX and INITIAL. -/
def boundDefault (id : Nat) : Nat × Nat × Nat :=
  match id with
  | 0x01 => (4096, 4096, 4096)
  | 0x02 => (30, 30, 30)
  | 0x10 => (8, 8, 8)
  | 0x11 => (1024, 98304, 1024)
  | 0x20 => (12000, 12000, 12000)
  | 0x21 => (100, 1600000, 100)
  | 0x22 => (32, 32, 32)
  | 0x30 => (5, 5, 5)
  | 0x31 => (1, 1, 1)
  | 0x40 => (258048, 258048, 258048)
  | 0x41 => (4096, 4096, 4096)
  | 0x50 => (100, 1000000, 10000)
  | 0x60 => (1000, 1000, 1000)
  | 0x70 => (1000, 1000, 1000)
  | _ => (0, 0, 0)

/-- R49: a device-wide bound as the running image declares it, or its default: MIN, MAX, INITIAL. -/
def Dev.bound (d : Dev) (id : Nat) : Nat × Nat × Nat :=
  match d.img.bounds.find? (fun b => b.id = id && b.scope = 0) with
  | some b => (b.min, b.max, b.initial)
  | none => boundDefault id

/-- R49: a bound as it applies to unit `u`: the nearest record on its path, else the device-wide one. -/
def Dev.boundAt (d : Dev) (id u : Nat) : Nat × Nat × Nat :=
  match (d.pathUp treeFuel u).findSome? (fun a => d.img.bounds.find? (fun b => b.id = id && b.scope = a && a ≠ 0)) with
  | some b => (b.min, b.max, b.initial)
  | none => d.bound id

/-! ### The conditions under which a hitch is governed (R158) -/

/-- R158: hitch `h` meets the conditions now. -/
def Dev.governed (d : Dev) (h : Nat) : Bool :=
  d.ust h = stActive && ((d.hitch h).map (fun (x : Hitch) => decide (x.pool ≠ 0))).getD false && d.gk h Eh.REIN_HCTL_PIN = 0 &&
    !d.on rootId Root.REIN_CTL_FREEZE && d.gk h Eh.REIN_HSTATUS_PATCH_FROZEN = 0

/-- R158: after a change that may end them, hitches that do not meet the conditions are not governed in this window. -/
def Dev.watchWindow (d : Dev) : Dev :=
  { d with ehs := d.ehs.map (fun (x : EhSt) => if d.governed x.id then x else { x with broke := true }) }

/-- R158: a window begins: the hitches that meet the conditions now may be governed in it. -/
def Dev.openWindow (d : Dev) : Dev := { d with ehs := d.ehs.map (fun (x : EhSt) => { x with broke := !d.governed x.id }) }

/-- R26, R158: after a change of an ENABLE at `u`, every governed unit of the subtree reads ACTIVE or READY by its effective
enable; units in other states keep them. -/
def Dev.settleEnable (d : Dev) (u : Nat) : Dev :=
  ((d.subtree u).foldl (fun d m =>
    if ungoverned m then d
    else if d.ust m = stActive && !d.effEnable m then d.setUst m stReady
    else if d.ust m = stReady && d.effEnable m then d.setUst m stActive
    else d) d).watchWindow

/-- R22, R31: MEMBER_GEN of hitch `h` and ROOT_TREE_GEN each increase by 1. -/
def Dev.incGen (d : Dev) (h : Nat) : Dev := (d.add h Hdr.MEMBER_GEN_GEN 1).bump Root.ROOT_TREE_GEN_GEN

/-- Change the record of hitch `u`. -/
def Dev.setHitch (d : Dev) (u : Nat) (f : Hitch → Hitch) : Dev :=
  { d with hitches := d.hitches.map (fun h => if h.id = u then f h else h) }

/-- COUNT of a hitch follows its member list (R21). -/
def Dev.syncCount (d : Dev) (h : Nat) : Dev := d.s h Hdr.MEMBER_COUNT_COUNT (d.members h).length

/-- R21, R22: hitch `h` loses its member in slot COUNT − 1. -/
def Dev.dropLast (d : Dev) (h : Nat) : Dev :=
  ((d.setHitch h (fun x => { x with members := x.members.dropLast })).syncCount h).incGen h

/-- R12, R18: kind of a unit: a fixed unit's own, or that of its hitch record. -/
def Dev.kindOf (d : Dev) (u : Nat) : Nat :=
  if fixedKind u ≠ 0 then fixedKind u else ((d.hitch u).map (·.kind)).getD 0

/-- The host group hitch of function `pf`: the parent of its endpoint tile (R314). -/
def Dev.hostGroup (d : Dev) (pf : Nat) : Nat := (d.parentOf (epId pf)).getD rootId

end Sys2Proof.Machine
end

