-- ==== Sys2Proof/Machine/Events.lean ====
section
/-! DEFINITION. Raising, routing, holding, merging and recording events (R28, R401 to R412), and latching a unit's
error (R17). -/

namespace Sys2Proof.Machine

/-! ### Waking a region (R443) -/

/-- What the governor keeps of region `r`. -/
def Dev.region (d : Dev) (r : Nat) : RegionSt := d.power.regions.getD r RegionSt.init

/-- Change what the governor keeps of region `r`. -/
def Dev.setRegion (d : Dev) (r : Nat) (f : RegionSt → RegionSt) : Dev :=
  { d with power := { d.power with regions := updAt d.power.regions r f } }

/-- Current gait of region `r`. -/
def Dev.gait (d : Dev) (r : Nat) : Nat := d.g (regionUnit r) Region.REG_STATUS_GAIT

/-- R443: a wake trigger reaches a unit of region `r`: a sleeping region starts its wake. -/
def Dev.wake (d : Dev) (r : Nat) : Dev :=
  if r < 19 ∧ d.gait r < 2 then d.setRegion r (fun (x : RegionSt) => { x with wakeReq := true }) else d

/-- R443: a wake trigger reaches unit `u`: a doorbell, a packet or request, a frame, an event of a core, CH_CTL.GO. -/
def Dev.wakeUnit (d : Dev) (u : Nat) : Dev := d.wake (regionOf u)

/-! ### Event queues, by owner (0 = PF-A, 1 = PF-B, 2 = management cores) and number -/

/-- R406: size of a ring. -/
def Dev.eqSize (d : Dev) (o q : Nat) : Nat := 2 ^ d.g (eqUnit o q) Eqb.EQ_CFG_SIZE_LOG2

/-- R407, R413: the queue is ACTIVE (host) or enabled (management cores). -/
def Dev.eqValid (d : Dev) (o q : Nat) : Bool := d.on (eqUnit o q) Eqb.EQ_STATUS_VALID

/-- R406: the queue is empty. -/
def Dev.eqEmpty (d : Dev) (o q : Nat) : Bool :=
  d.g (eqUnit o q) Eqb.EQ_STATUS_WR_POS = d.g (eqUnit o q) Eqb.EQ_CONS_CONS

/-- R406: the queue is full. -/
def Dev.eqFull (d : Dev) (o q : Nat) : Bool :=
  (d.g (eqUnit o q) Eqb.EQ_STATUS_WR_POS + 1) % d.eqSize o q = d.g (eqUnit o q) Eqb.EQ_CONS_CONS

/-- EQ_STATUS.FULL shows whether the queue is full. -/
def Dev.syncFull (d : Dev) (o q : Nat) : Dev :=
  d.s (eqUnit o q) Eqb.EQ_STATUS_FULL (if d.eqFull o q then 1 else 0)

/-- R28: the route of an event of unit `u` up the path: the first unit on it whose EVENT_SOURCE.ENABLE is 0, and the
target's owner and queue. On the root, owner 3 acts as 2. -/
def Dev.routeUp (d : Dev) (held : Option Nat) : List Nat → Option Nat × Nat × Nat
  | [] => (held, 2, 0)
  | u :: rest =>
    let held := if held.isNone && !d.on u Hdr.EVENT_SOURCE_ENABLE then some u else held
    let o := d.g u Hdr.EVENT_SOURCE_TARGET_OWNER
    if o = 3 && !rest.isEmpty then d.routeUp held rest
    else (held, if o = 3 then 2 else o, d.g u Hdr.EVENT_SOURCE_TARGET_EQ)

/-- Where an event goes and where it is held: by R28, by its own configuration, or to its private bank (R412). -/
def Dev.target (d : Dev) (e : Ev) : Option Nat × Nat × Nat :=
  match e.dest with
  | .directed o q => (none, o, q)
  | .priv n => (none, 2, 1016 + n)
  | .routed => d.routeUp none (d.pathUp treeFuel e.unit)

/-- R408: an event cannot be accepted while it is held on its route, under the global hold, while its queue is full, or
while its target is a queue of a quiet function. -/
def Dev.mustWait (d : Dev) (e : Ev) : Bool :=
  let (held, o, q) := d.target e
  held.isSome || d.on rootId Root.EVT_GLOBAL_HOLD || (d.eqValid o q && d.eqFull o q) ||
    (decide (o < 2) && d.quiet o)

/-- EVT_HELD of `u` shows whether a waiting entry is held at it (R408). -/
def Dev.syncHeld (d : Dev) (u : Nat) : Dev :=
  d.s u Hdr.UNIT_STATUS_EVT_HELD (if d.ev.waiting.any (fun w => w.heldAt = some u) then 1 else 0)

/-- EVT_STATUS.PENDING shows the entries in use, and EVT_HELD of the units concerned the entries held there. -/
def Dev.setWaiting (d : Dev) (ws : List Waiting) : Dev :=
  let us := (d.ev.waiting ++ ws).filterMap (·.heldAt)
  let d := { d with ev := { d.ev with waiting := ws } }
  us.foldl (fun d u => d.syncHeld u) (d.s rootId Root.EVT_STATUS_PENDING ws.length)

/-- Same key (UNIT_ID, KIND, SLICE) in the pending store (R408). -/
def sameKey (a b : Ev) : Bool := a.unit = b.unit && a.kind = b.kind && a.slice = b.slice

/-- R408: an entry takes the newer payload and increments MERGED, which saturates (R405). -/
def Waiting.absorb (w : Waiting) (e : Ev) : Waiting :=
  { w with ev := { w.ev with payload := e.payload, merged := min 65535 (w.ev.merged + 1) } }

/-- R309, R408, R409: an event enters the pending store, which may wake its host, merges into the entry with its key, or is
lost. -/
def Dev.wait (d : Dev) (e : Ev) : Dev :=
  let (at_, o, q) := d.target e
  if d.ev.waiting.any (fun w => sameKey w.ev e) then
    (d.setWaiting (d.ev.waiting.map (fun w => if sameKey w.ev e then w.absorb e else w))).bump Root.EVT_MERGED
  else if 16384 ≤ d.ev.waiting.length then
    ({ d with ev := { d.ev with lost := (o, q) :: d.ev.lost } }).bump Root.EVT_LOST
  else
    let d := d.setWaiting (d.ev.waiting ++ [{ ev := { e with held := true }, heldAt := at_ }])
    if o < 2 then d.wakeHost o else d

/-- R401: an event is raised: it is presented to the arbiter, or waits in the pending store. -/
def Dev.raiseEv (d : Dev) (e : Ev) : Dev :=
  if d.mustWait e then d.wait e
  else { d with ev := { d.ev with presented := d.ev.presented ++ [e] } }

/-- Raise an event of kind `k` from unit `u`, routed by R28. -/
def Dev.raise (d : Dev) (u k slice payload : Nat) : Dev :=
  d.raiseEv { unit := u, kind := k, slice := slice, payload := payload, dest := .routed, merged := 0, held := false }

/-- Raise a directed event (R28), to queue `q` of owner `o`. -/
def Dev.raiseTo (d : Dev) (o q u k slice payload : Nat) : Dev :=
  d.raiseEv { unit := u, kind := k, slice := slice, payload := payload, dest := .directed o q, merged := 0
              held := false }

/-- Raise an event of the private bank of management core `n` (R412). -/
def Dev.raisePriv (d : Dev) (n k payload : Nat) : Dev :=
  d.raiseEv { unit := mcId n, kind := k, slice := 0, payload := payload, dest := .priv n, merged := 0, held := false }

/-- R408: present, oldest first, the waiting entries that `p` names and that may now be accepted. -/
def Dev.presentWaiting (d : Dev) (p : Waiting → Bool) : Dev :=
  let go := fun (w : Waiting) => p w && !d.mustWait w.ev
  let d' := { d with ev := { d.ev with presented := d.ev.presented ++ (d.ev.waiting.filter go).map Waiting.ev } }
  d'.setWaiting ((d.ev.waiting.filter (fun w => !go w)).map (fun (w : Waiting) => { w with heldAt := (d.target w.ev).1 }))

/-- R21, R22, R24, R28: unit `u` joins hitch `h` at slot COUNT; a tile's EVENT_SOURCE, FLOOR and CEIL return to reset, and the
events that EVENT_SOURCE.ENABLE held at it are presented. -/
def Dev.joinHitch (d : Dev) (h u : Nat) : Dev :=
  let was := d.on u Hdr.EVENT_SOURCE_ENABLE
  let d := if fixedKind u = 0 then d else
    ((((d.s u Hdr.EVENT_SOURCE_TARGET_EQ 0).s u Hdr.EVENT_SOURCE_TARGET_OWNER 3).s u Hdr.EVENT_SOURCE_ENABLE 1).s u
      Hdr.GAIT_STATE_FLOOR 0).s u Hdr.GAIT_STATE_CEIL 5
  let d := ((d.setHitch h (fun x => { x with members := x.members ++ [u] })).syncCount h).incGen h
  if was then d else d.presentWaiting (fun w => w.heldAt = some u)

/-- R310, R404: signal MSI-X vector `v` of `pf`: a message, behind the writes that wait, or the Pending Bit while the vector or
function is masked. -/
def Dev.signalMsix (d : Dev) (pf v : Nat) : Dev :=
  if !(d.ep pf).msixEn then d
  else if (d.ep pf).msixMask || getBits (d.cell (msixUnit pf) (16 * v + 8)) 32 1 = 1 then
    let off := 0x8000 + v / 64 * 8
    d.setCell (msixUnit pf) off (putBits (d.cell (msixUnit pf) off) (v % 64) 1 1)
  else d.hostOut pf [.msix pf v]

/-- R410, R443: signal queue `q` of owner `o`; the interrupt of a core wakes its region. -/
def Dev.signalEq (d : Dev) (o q : Nat) : Dev :=
  if o < 2 then (if d.cg .hostEq (o * 1024 + q) EqC.INT_EN = 1 then d.signalMsix o q else d)
  else
    let n := d.g (eqUnit o q) Eqb.EQ_CFG_CORE
    (d.emit (.coreIrq n)).wakeUnit (mcId n)

/-- R330: PASID that memory requests of slice `sl` carry, if it has one. -/
def Dev.pasidOf (d : Dev) (sl : Nat) : Option Nat :=
  if sl ≠ 0 ∧ d.cg .slice sl Slc.PASID_EN = 1 then some (d.cg .slice sl Slc.PASID) else none

/-- R405: the 32 bytes of the record of event `e`. -/
def evRecord (e : Ev) (seq : Nat) (lost : Bool) (phase : Nat) : List Byte :=
  leBytes 8 seq ++ leBytes 8 (e.unit % 2 ^ 24 + e.kind % 2 ^ 16 * 2 ^ 24 + e.slice % 2 ^ 12 * 2 ^ 40) ++
    leBytes 8 e.payload ++
    leBytes 8 (e.merged % 2 ^ 16 + (if lost then 2 ^ 16 else 0) + (if e.held then 2 ^ 17 else 0) + phase * 2 ^ 63)

/-- Harness address at which the management-core memories begin (R531). -/
def coreMemBase : Nat := 0xFF0000000000

/-- R401, R405, R406, R410: the arbiter accepts event `e` into queue `q` of owner `o` and writes its record. -/
def Dev.record (d : Dev) (e : Ev) (o q : Nat) : Dev :=
  let u := eqUnit o q
  let seq := d.g rootId Root.EVT_SEQ_NEXT
  let pos := d.g u Eqb.EQ_STATUS_WR_POS
  let ph := d.g u Eqb.EQ_STATUS_WR_PHASE
  let wasEmpty := d.eqEmpty o q
  let rec32 := evRecord e seq (d.ev.lost.contains (o, q)) ph
  let addr := d.g u Eqb.EQ_BASE_ADDR * 4096 + 32 * pos
  let d := { d with ev := { d.ev with lost := d.ev.lost.filter (fun x => !(x = (o, q))) } }
  let d := if o < 2 then d.hostPut o (d.pasidOf (d.cg .hostEq (o * 1024 + q) EqC.SLICE)) addr rec32
    else d.writeMem .core (addr - coreMemBase) rec32
  let d := d.s u Eqb.EQ_STATUS_WR_POS ((pos + 1) % d.eqSize o q)
  let d := if pos + 1 = d.eqSize o q then d.s u Eqb.EQ_STATUS_WR_PHASE (1 - ph) else d
  let d := ((d.add u Eqb.EQ_RECORDS 1).bump Root.EVT_SEQ_NEXT).bump Root.EVT_ACCEPTED
  let d := d.syncFull o q
  if wasEmpty then d.signalEq o q else d

/-- R401, R407, R408: the arbiter takes the oldest presented event: it records it, discards it when its target names no
ACTIVE queue or a private one from a shared source, or sends it to wait. -/
def Dev.acceptEv (d : Dev) : Dev :=
  match d.ev.presented with
  | [] => d
  | e :: rest =>
    let d := { d with ev := { d.ev with presented := rest } }
    let (_, o, q) := d.target e
    if d.mustWait e then d.wait e
    else if !d.eqValid o q || (e.dest = .routed && decide (o = 2) && decide (1016 ≤ q)) then d.bump Root.EVT_NO_EQ
    else d.record e o q

/-- R17: the unit latches its first error, with its code and a unit-error event. -/
def Dev.latchErr (d : Dev) (u code : Nat) : Dev :=
  if d.on u Hdr.UNIT_STATUS_ERR then d
  else ((d.s u Hdr.UNIT_STATUS_ERR 1).s u Hdr.UNIT_STATUS_ERR_CODE code).raise u 0x0001 0 code

end Sys2Proof.Machine
end

