-- ==== Sys2Proof/Machine/Gaits.lean ====
section
/-! DEFINITION. Regions, gaits, the governor, thermal caps, gallop credit and the wear ledger (R436 to R458). -/

namespace Sys2Proof.Machine

/-- R441: clock of a gait in MHz; none at Rest and Stand. -/
def gaitMhz (g : Nat) : Nat :=
  if g = 2 then 50 else if g = 3 then 1200 else if g = 4 then 2000 else if g = 5 then 2600 else 0

/-- R441: regulator voltage of a gait in mV. -/
def gaitMv (g : Nat) : Nat := if g = 3 then 700 else if g = 4 then 850 else if g = 5 then 980 else 620

/-- R441, R455, R456: region `r` now runs at gait `g`. At Stand the voltage of the wake gait is held. -/
def Dev.setGait (d : Dev) (r g : Nat) : Dev :=
  if d.gait r = g then d
  else
    let u := regionUnit r
    let d := if 2 ≤ d.gait r then d.setRegion r (fun (x : RegionSt) => { x with wakeGait := d.gait r }) else d
    (((d.s u Region.REG_STATUS_GAIT g).s u Region.REG_STATUS_VOLT_MV
      (gaitMv (if g = 1 then (d.region r).wakeGait else g))).s u Region.REG_STATUS_FREQ_MHZ (gaitMhz g)).bump
      Root.GAIT_STEPS

/-- R439: the fixed units of region `r`. -/
def regionUnits (r : Nat) : List Nat := ((List.range 391).map (fun n => n + 0x100)).filter (fun u => regionOf u = r)

/-- R30, R50: lowest CEIL on the path of unit `u`, and no higher than bound 0x0030 lets it be (assumption 109). -/
def Dev.effCeil (d : Dev) (u : Nat) : Nat :=
  min (d.boundAt 0x30 u).2.1 ((d.pathUp treeFuel u).foldl (fun m a => min m (d.g a Hdr.GAIT_STATE_CEIL)) 5)

/-- PE cycles of 20 ns at the clock of region `r` (R441): every clock is a multiple of 50 MHz. -/
def Dev.peCycles (d : Dev) (r : Nat) : Nat := gaitMhz (d.gait r) / 50

/-- R149, R156: PE `n` runs `c` cycles: its CYCLES count while it is ACTIVE, and those of every packet it holds. -/
def Dev.runPe (d : Dev) (n c : Nat) : Dev :=
  if c = 0 then d
  else
    let d := if d.ust (peId n) = stActive then d.addk (peId n) Pe.CYCLES c else d
    if (d.pes.getD n PeSt.init).thr.all (fun (t : Thr) => t.st = .idle) then d
    else { d with pes := updAt d.pes n (fun (x : PeSt) => { x with
      thr := x.thr.map (fun (t : Thr) => if t.st = .idle then t else { t with cycles := t.cycles + c }) }) }

/-- Time goes on by one walk-clock cycle of 20 ns (R237), while the walk clock runs (R453), and each PE by the cycles of its
region's clock. -/
def Dev.tick (d : Dev) : Dev :=
  if d.acts then
    (List.range 256).foldl (fun (d : Dev) n => d.runPe n (d.peCycles (regionOf (peId n)))) ({ d with time := d.time + 20 }).endPulses
  else d

/-- R30: highest FLOOR on the path of unit `u`. -/
def Dev.effFloor (d : Dev) (u : Nat) : Nat :=
  (d.pathUp treeFuel u).foldl (fun m a => max m (d.g a Hdr.GAIT_STATE_FLOOR)) 0

/-- R449, apart from the per-region temperature conditions. -/
def Dev.gallopOk (d : Dev) : Bool :=
  getBits (d.cell rootId Root.IMG_FEATURE_WORD_FEATURES.off) 7 1 = 1 && d.on rootId Root.GOV_CTL_GALLOP_EN &&
    !d.on rootId Root.GOV_STATUS_CREDIT_LOCK && !d.on rootId Root.GOV_STATUS_SHARE_LOCK

/-- GOV_STATUS.GALLOP_OK shows R449. -/
def Dev.syncGallop (d : Dev) : Dev := d.s rootId Root.GOV_STATUS_GALLOP_OK (if d.gallopOk then 1 else 0)

/-- R445, R449: ceiling the device imposes on region `r`: the thermal cap, the loss of Gallop permission, NO_REF. -/
def Dev.forcedCeil (d : Dev) (r : Nat) : Nat :=
  let cap := d.g (regionUnit r) Region.REG_STATUS_TEMP_CAP
  let c := min cap (if d.gallopOk && decide (cap = 5) && decide (d.g (regionUnit r) Region.REG_STATUS_TJ < 100)
    then 5 else 4)
  if d.on rootId Root.GOV_STATUS_NO_REF then min c 2 else c

/-- R30, R444: the highest gait region `r` may run at. -/
def Dev.regionCeil (d : Dev) (r : Nat) : Nat :=
  min (d.forcedCeil r) ((regionUnits r).foldl (fun m u => min m (d.effCeil u)) 5)

/-- R30, R442: the gait a region at gait `cur` goes to when its ceiling lies lower: the ceiling, or where that is no running
gait, Stand from Trot or faster and Rest from Walk, the changes R442 lists (assumption 109). -/
def forcedGait (cur ceil : Nat) : Nat := if 2 ≤ ceil then ceil else if 3 ≤ cur then 1 else 0

/-- R30: the lowest gait region `r` may run at while its units have work; the ceiling wins. -/
def Dev.regionFloor (d : Dev) (r : Nat) : Nat :=
  min (d.regionCeil r) ((regionUnits r).foldl (fun m u => max m (d.effFloor u)) 0)

/-- R442: the governor asks for a step of region `r` to gait `g`. A step up waits for one in progress; a step down
cancels a step up. -/
def Dev.askStep (d : Dev) (r g : Nat) : Dev :=
  let cur := d.gait r
  match (d.region r).step with
  | none => d.setRegion r (fun (x : RegionSt) => { x with step := some g, lowRun := 0 })
  | some t =>
    if cur < g then d.setRegion r (fun (x : RegionSt) => { x with upWaits := true, lowRun := 0 })
    else if cur < t then d.setRegion r (fun (x : RegionSt) => { x with step := none, upWaits := false, lowRun := 0 })
    else d.setRegion r (fun (x : RegionSt) => { x with lowRun := 0 })

/-- R158, R444: an engine hitch with a member in region `r` ended the window with HIGH_RUN of 1 or more. -/
def Dev.hitchPressure (d : Dev) (r : Nat) : Bool :=
  d.hitches.any (fun h => decide (h.kind = 0x83) && decide (1 ≤ d.gk h.id Eh.REIN_HSTATUS_HIGH_RUN) &&
    h.members.any (fun u => decide (regionOf u = r)))

/-- R444: an input FIFO that the model holds, of a prism or of the switch core, is at least half full in region `r`. -/
def Dev.fifoPressure (d : Dev) (r : Nat) : Bool :=
  (List.range 4).any (fun n => regionOf (prismId n) = r && decide (2048 ≤ (d.prism.fifo.filter (fun x => x.1 = n)).length)) ||
    (r = 18 && (List.range 16).any (fun i =>
      decide (32768 ≤ ((d.sw.wire.filter (fun x => x.input = i)).map (fun x => x.pkt.data.length)).foldl (· + ·) 0)))

/-- R444, R445: what the governor decides for awake region `r` at the end of a window in which its busiest unit was
busy `u` per mille and `p` says a unit's other input FIFO was at least half full. Forced steps are made whatever FREEZE holds. -/
def Dev.governRegion (d : Dev) (r u : Nat) (p : Bool) : Dev :=
  let cur := d.gait r
  let ceil := d.regionCeil r
  let lower := cur - 1
  let press := p || d.hitchPressure r || d.fifoPressure r
  if cur < 2 then d
  else if ceil < cur then
    (d.setRegion r (fun (x : RegionSt) => { x with step := none, upWaits := false, lowRun := 0 })).setGait r (forcedGait cur ceil)
  else if cur < d.regionFloor r && decide (0 < u) then d.askStep r (cur + 1)
  else if d.on rootId Root.GOV_CTL_FREEZE then d
  else if press || decide (900 ≤ u) then
    if cur < ceil then d.askStep r (cur + 1) else d.setRegion r (fun (x : RegionSt) => { x with lowRun := 0 })
  else if 2 < cur && decide (u * gaitMhz cur ≤ 700 * gaitMhz lower) then
    if d.g rootId Root.GOV_CTL_DOWN_WINDOWS ≤ (d.region r).lowRun + 1 && decide (d.regionFloor r < cur ∨ u = 0) then
      d.askStep r lower
    else d.setRegion r (fun (x : RegionSt) => { x with lowRun := x.lowRun + 1 })
  else d.setRegion r (fun (x : RegionSt) => { x with lowRun := 0 })

/-- GOVERNOR_WINDOW, R444: the end of a 10 µs window; busy fraction in per mille and pressure of each region. -/
def governorWindow (busy : List Nat) (pressure : List Bool) (d : Dev) : Dev :=
  (List.range 19).foldl (fun d r => d.governRegion r (busy.getD r 0) (pressure.getD r false)) d.syncGallop

/-- GOVERNOR_WINDOW. -/
def execGovernorWindow (busy : List Nat) (pressure : List Bool) (s : State) : Host.Outcome State Fault Refusal :=
  s.run (governorWindow busy pressure)

/-- GAIT_CHANGE_DONE, R30, R442: the clock of region `r` switches, unless the step is up and its gait now lies above the ceiling; a
step up that waited then starts, within the ceiling. -/
def gaitChangeDone (r : Nat) (d : Dev) : Dev :=
  match (d.region r).step with
  | none => d
  | some g =>
    let waits := (d.region r).upWaits
    let g := if d.gait r < g ∧ d.regionCeil r < g then d.gait r else g
    let d := (d.setRegion r (fun (x : RegionSt) => { x with step := none, upWaits := false })).setGait r g
    if waits && decide (d.gait r < d.regionCeil r) then d.askStep r (d.gait r + 1) else d

/-- GAIT_CHANGE_DONE. -/
def execGaitChangeDone (r : Nat) (s : State) : Host.Outcome State Fault Refusal := s.run (gaitChangeDone r)

/-- R443: Rest is barred by NO_REST, for UP while any port link is up, and for UH while a PCIe link is in L0 or L1. -/
def Dev.restBarred (d : Dev) (r : Nat) : Bool :=
  d.on (regionUnit r) Region.REG_CTL_NO_REST ||
    (decide (r = 16) && (List.range 16).any (fun n => d.gk (macId n) Mac.PORT_STATUS_LINK_UP = 1)) ||
    (decide (r = 17) && ((d.ep 0).linkUp || (d.ep 1).linkUp))

/-- R17, R29, R425: a unit that takes work in a region that is awake takes the ring that waits for it. -/
def Dev.takeBell (d : Dev) (u : Nat) : Dev :=
  if d.on u Hdr.UNIT_STATUS_DB_PENDING && d.takesWork u && decide (2 ≤ d.gait (regionOf u)) then d.s u Hdr.UNIT_STATUS_DB_PENDING 0
  else d

/-- Units take the rings that wait for them. -/
def Dev.takeBells (d : Dev) (us : List Nat) : Dev := us.foldl (fun (d : Dev) u => d.takeBell u) d

/-- REGION_WAKE, R443: a sleeping region wakes to its wake gait, clamped between its floor and ceiling; a ceiling below Walk lets
it sleep on. -/
def regionWake (r : Nat) (d : Dev) : Dev :=
  if d.gait r < 2 ∧ d.regionCeil r < 2 then d
  else
  let d := d.setRegion r (fun (x : RegionSt) => { x with wakeReq := false })
  if 2 ≤ d.gait r then d
  else (d.setGait r (min (d.regionCeil r) (max (max 2 (d.regionFloor r)) (d.region r).wakeGait))).takeBells (regionUnits r)

/-- REGION_WAKE. -/
def execRegionWake (r : Nat) (s : State) : Host.Outcome State Fault Refusal := s.run (regionWake r)

/-! ### Temperatures (R440, R447, R448, R570) -/

/-- R440: the neighbours of region `r`. -/
def neighbours (r : Nat) : List Nat :=
  (if r < 16 then
    (if r % 4 = 0 then [] else [r - 1]) ++ (if r % 4 = 3 then [] else [r + 1]) ++
      (if r < 4 then [16] else [r - 4]) ++ (if 12 ≤ r then [17] else [r + 4])
   else if r = 16 then [0, 1, 2, 3, 18]
   else if r = 17 then [12, 13, 14, 15, 18]
   else [16, 17, 1, 2, 5, 6, 9, 10, 13, 14]) ++
  (if r = 1 ∨ r = 2 ∨ r = 5 ∨ r = 6 ∨ r = 9 ∨ r = 10 ∨ r = 13 ∨ r = 14 then [18] else [])

/-- R447: how much hotter region `r` is than its coolest neighbour. -/
def gradient (temps : List Nat) (r : Nat) : Nat :=
  (neighbours r).foldl (fun m n => max m (temps.getD r 0 - temps.getD n 0)) 0

/-- R447: the greatest difference, of either sign, between region `r` and a neighbour. -/
def spread (temps : List Nat) (r : Nat) : Nat :=
  (neighbours r).foldl (fun m n => max m (max (temps.getD r 0 - temps.getD n 0) (temps.getD n 0 - temps.getD r 0))) 0

/-- TEMP_CAP is the lower of the caps of R447 and R448. -/
def Dev.syncCap (d : Dev) (r : Nat) : Dev :=
  d.s (regionUnit r) Region.REG_STATUS_TEMP_CAP (min (d.region r).gradCap (d.region r).limitCap)

/-- R447: the gradient rule for region `r` at one sample; 100 samples are 10 ms. Each lowering of its cap raises one event. -/
def Dev.gradRule (d : Dev) (temps : List Nat) (r : Nat) : Dev :=
  let x := d.region r
  if 30 < gradient temps r then
    if x.hot = 0 ∨ 100 ≤ x.hot then
      let cap := max 2 (if x.hot = 0 then d.gait r - 1 else x.gradCap - 1)
      let d := (d.setRegion r (fun (x : RegionSt) => { x with hot := 1, cool := 0, gradCap := cap })).syncCap r
      if cap < x.gradCap then
        d.raise rootId 0x0C02 0 (r + gradient temps r % 256 * 2 ^ 8 +
          d.g (regionUnit r) Region.REG_STATUS_TEMP_CAP * 2 ^ 16)
      else d
    else d.setRegion r (fun (x : RegionSt) => { x with hot := x.hot + 1, cool := 0 })
  else if spread temps r ≤ 25 then
    if 100 ≤ x.cool then
      (d.setRegion r (fun (x : RegionSt) => { x with hot := 0, cool := 1, gradCap := min 5 (x.gradCap + 1) })).syncCap r
    else d.setRegion r (fun (x : RegionSt) => { x with hot := 0, cool := x.cool + 1 })
  else d.setRegion r (fun (x : RegionSt) => { x with hot := 0, cool := 0 })

/-- R448: the limit cap of a sensor reading `t`, with its 5 °C release. -/
def limitCap (old t : Nat) : Nat :=
  if 115 ≤ t then 3 else if old = 3 ∧ 110 < t then 3
  else if 105 ≤ t then 4 else if old < 5 ∧ 100 < t then 4 else 5

/-- R448: the limit rule for region `r` whose sensor reads `t`; each cap that comes into force raises one event. -/
def Dev.limitRule (d : Dev) (r t : Nat) : Dev :=
  let old := (d.region r).limitCap
  let new := limitCap old t
  let d := (d.setRegion r (fun (x : RegionSt) => { x with limitCap := new })).syncCap r
  (List.range (old - new)).foldl (fun (d : Dev) _ => d.raise rootId 0x0C03 0 (r + t % 256 * 2 ^ 8)) d

/-- R570: refresh at twice the rate from 85 °C, back below 80 °C. -/
def refreshFast (old : Bool) (t : Nat) : Bool := decide (85 ≤ t) || (old && decide (80 ≤ t))

/-- TEMP_SAMPLE, R447, R448, R570: the sensors of the 19 regions and of the two HBM base dies are sampled. A base die
at or above 105 °C counts towards the caps as the region of its controllers, UB (assumption 8). -/
def tempSample (temps hbm : List Nat) (d : Dev) : Dev :=
  let d := (List.range 19).foldl (fun d r => d.s (regionUnit r) Region.REG_STATUS_TJ (min 150 (temps.getD r 0))) d
  let d := (List.range 19).foldl (fun d r => d.gradRule temps r) d
  let t18 := hbm.foldl (fun m t => if 105 ≤ t then max m t else m) (temps.getD 18 0)
  let d := (List.range 19).foldl (fun d r => d.limitRule r (if r = 18 then t18 else temps.getD r 0)) d
  let fast := (List.range 2).map (fun i => refreshFast (d.power.fastRefresh.getD i false) (hbm.getD i 0))
  { d with power := { d.power with fastRefresh := fast } }

/-- TEMP_SAMPLE. -/
def execTempSample (temps hbm : List Nat) (s : State) : Host.Outcome State Fault Refusal := s.run (tempSample temps hbm)

/-! ### Gallop credit and the wear ledger (R450, R451, R454) -/

/-- GALLOP_CREDIT_WINDOW, R450: package power `p` in 0.1 W over one 100 µs window. -/
def gallopCreditWindow (p : Nat) (d : Dev) : Dev :=
  let c := min 1500000000 (d.power.creditUj + 34000 - 10 * p)
  let d := { d with power := { d.power with creditUj := c } }
  let d := (d.s rootId Root.PWR_STATUS_POWER p).s rootId Root.GALLOP_CREDIT_MJ (c / 1000)
  let locked := d.on rootId Root.GOV_STATUS_CREDIT_LOCK
  let d := if c = 0 ∧ !locked then (d.s rootId Root.GOV_STATUS_CREDIT_LOCK 1).raise rootId 0x0C01 0 1
    else if locked ∧ 300000000 ≤ c then d.s rootId Root.GOV_STATUS_CREDIT_LOCK 0 else d
  d.syncGallop

/-- GALLOP_CREDIT_WINDOW. -/
def execGallopCreditWindow (p : Nat) (s : State) : Host.Outcome State Fault Refusal := s.run (gallopCreditWindow p)

/-- R457, R571: temperature bin of a temperature. -/
def wearBin (t : Nat) : Nat := if t < 55 then 0 else min 7 ((t - 55) / 10 + 1)

/-- R571: acceleration factor of a bin, in hundredths. -/
def wearAf (k : Nat) : Nat := [7, 14, 28, 54, 100, 179, 312, 527].getD k 0

/-- R571: WEAR_LIFE_PPM from the temperature bins. -/
def Dev.lifePpm (d : Dev) : Nat :=
  (List.range 8).foldl (fun a k => a + wearAf k * d.g rootId (Root.WEAR_TBIN_S k)) 0 / 78894

/-- R451: the Gallop share lockout with its hysteresis. -/
def Dev.shareRule (d : Dev) : Dev :=
  let p := d.g rootId Root.WEAR_POWERED_S_S
  let gs := d.g rootId Root.WEAR_GALLOP_S_S
  let locked := d.on rootId Root.GOV_STATUS_SHARE_LOCK
  if !locked ∧ 5 * p + 360000 < 100 * gs then (d.s rootId Root.GOV_STATUS_SHARE_LOCK 1).raise rootId 0x0C01 0 2
  else if locked ∧ 1000 * gs ≤ 49 * p + 3600000 then d.s rootId Root.GOV_STATUS_SHARE_LOCK 0
  else d

/-- WEAR_SECOND, R451, R454: one second in Run. KEEP_TIME has counted 32,768 XKEEP cycles (R436, assumption 9). -/
def wearSecond (d : Dev) : Dev :=
  let hottest := (List.range 19).foldl (fun m r => max m (d.g (regionUnit r) Region.REG_STATUS_TJ)) 0
  let d := (d.add rootId Root.WEAR_POWERED_S_S 1).add rootId Root.KEEP_TIME_TICKS 32768
  let d := if (List.range 19).any (fun r => d.gait r = 5) then d.add rootId Root.WEAR_GALLOP_S_S 1 else d
  let d := d.add rootId (Root.WEAR_TBIN_S (wearBin hottest)) 1
  let d := d.s rootId Root.WEAR_TJ_PEAK_C (max hottest (d.g rootId Root.WEAR_TJ_PEAK_C))
  let d := d.s rootId Root.WEAR_LIFE_PPM_PPM d.lifePpm
  d.shareRule.syncGallop

/-- WEAR_SECOND. -/
def execWearSecond (s : State) : Host.Outcome State Fault Refusal := s.run wearSecond

/-- The fields of the ledger (R457). -/
def ledgerFlds : List Fld :=
  [Root.WEAR_POWERED_S_S, Root.WEAR_GALLOP_S_S, Root.WEAR_LIFE_PPM_PPM, Root.WEAR_TJ_PEAK_C, Root.WEAR_THERMTRIPS,
    Root.WEAR_CHECKPOINT_S] ++ (List.range 8).map Root.WEAR_TBIN_S

/-- The ledger, field by field. -/
def Dev.ledger (d : Dev) : List Word := ledgerFlds.map (fun f => BitVec.ofNat 64 (d.g rootId f))

/-- R538: flash offset of the ledger area, of two alternating 32 KiB copies. -/
def ledgerFlash (n : Nat) : Nat := 0x02000000 + n % 2 * 0x8000

/-- R454: copy the ledger to the next flash copy (14 words, assumption 10); a failed write raises an event. -/
def Dev.checkpoint (d : Dev) (good : Bool) : Dev :=
  if good then
    let d := d.s rootId Root.WEAR_CHECKPOINT_S (d.g rootId Root.WEAR_POWERED_S_S)
    let d := d.writeMem .flash (ledgerFlash d.power.ledgerNext) (ofWords d.ledger)
    { d with power := { d.power with ledgerNext := 1 - d.power.ledgerNext } }
  else d.raise rootId 0x0C06 0 0

/-- LEDGER_CHECKPOINT. -/
def execLedgerCheckpoint (good : Bool) (s : State) : Host.Outcome State Fault Refusal :=
  s.run (fun d => d.checkpoint good)

/-- R454: at power-on reset each field becomes the larger of the keeper's value and the flash value. An erased copy holds
no value. -/
def Dev.mergeLedger (d : Dev) : Dev :=
  let best := fun (d : Dev) (c i : Nat) =>
    let v := leNat (d.readMem .flash (ledgerFlash c + 8 * i) 8)
    if v = 2 ^ 64 - 1 then 0 else v
  (List.range ledgerFlds.length).foldl (fun d i =>
    let f := ledgerFlds.getD i Root.WEAR_POWERED_S_S
    d.s rootId f (max (d.g rootId f) (max (best d 0 i) (best d 1 i)))) d

/-! ### Clock sources (R436, R438) -/

/-- XKEEP_FAIL, R436. -/
def execXkeepFail (s : State) : Host.Outcome State Fault Refusal :=
  s.runIf (fun _ => true) (fun d =>
    if d.on rootId Root.KEEP_STATUS_XKEEP_FAIL then d
    else
      let d := d.s rootId Root.KEEP_STATUS_XKEEP_FAIL 1
      if d.acts then d.raise rootId 0x0C05 0 0 else d)

/-- XKEEP_RETURN, R436. -/
def execXkeepReturn (s : State) : Host.Outcome State Fault Refusal :=
  s.runIf (fun _ => true) (fun d => d.s rootId Root.KEEP_STATUS_XKEEP_FAIL 0)

/-- NREFCLK_LOSS, R438: NO_REF sets. R445 makes it a ceiling of Walk, which the governor applies at the end of the
window. -/
def execNrefclkLoss (s : State) : Host.Outcome State Fault Refusal :=
  s.run (fun d => d.s rootId Root.GOV_STATUS_NO_REF 1)

/-- NREFCLK_RESTORED, R438: NO_REF clears, which lifts the ceiling. -/
def execNrefclkRestored (s : State) : Host.Outcome State Fault Refusal :=
  s.run (fun d => d.s rootId Root.GOV_STATUS_NO_REF 0)

end Sys2Proof.Machine
end

