-- ==== Sys2Proof/Machine/Yoke.lean ====
section
/-! DEFINITION. The adopt range, bindings, the registers of the running image and the twin, yoke frames, the reliable channel
and the mirror stream as the sender runs them (R41, R49, R462 to R471). -/

namespace Sys2Proof.Machine

/-- Range of queue IDs kept for a twin takeover (R49, bounds 0x0040 and 0x0041). -/
def Dev.inAdopt (d : Dev) (q : Nat) : Bool :=
  decide ((d.bound 0x40).2.2 ≤ q) && decide (q < (d.bound 0x40).2.2 + (d.bound 0x41).2.2)

/-- R41, R42: hitch that serves queue ID `q`, if a range covers it. -/
def Dev.queueBinding (d : Dev) (q : Nat) : Option Nat :=
  (d.img.bindings.find? (fun b => b.kind = 2 && decide (b.srcA ≤ q) && decide (q < b.srcA + b.srcB))).map Binding.target

/-- R333: hitch that acts on the transmitted packets of slice `sl`. -/
def Dev.sliceBinding (d : Dev) (sl : Nat) : Option Nat :=
  (d.img.bindings.find? (fun b => b.kind = 3 && b.srcA = sl)).map Binding.target

/-- R41: hitch bound to class `c` of the port whose first lane is `lane`. -/
def Dev.portBinding (d : Dev) (lane c : Nat) : Option Nat :=
  (d.img.bindings.find? (fun b => b.kind = 1 && b.srcA = lane && (b.srcB / 2 ^ c) % 2 = 1)).map Binding.target

/-! ### Registers of the running image and the twin -/

/-- Bit `n` of IMG_FEATURE_WORD. -/
def Dev.feature (d : Dev) (n : Nat) : Bool := (d.g rootId Root.IMG_FEATURE_WORD_FEATURES / 2 ^ n) % 2 = 1

/-- IMG_STATUS.STATE: 0 BARE, 1 LOADING, 2 ACTIVE, 3 RECOVERY, 4 PATCHING (R55). -/
def Dev.imgState (d : Dev) : Nat := d.g rootId Root.IMG_STATUS_STATE

/-- R460: the index belongs to the partner's half while a pair is configured. -/
def Dev.otherSide (d : Dev) (i : Nat) : Bool :=
  d.on rootId Root.TWIN_CFG_EN && decide (i % 2 ≠ d.g rootId Root.TWIN_CFG_SIDE)

/-- TWIN_STATUS.STATE: 0 DETACHED, 1 HELLO, 2 SYNC, 3 ATTACHED, 4 TAKEOVER, 5 FENCED, 6 SWITCHOVER. -/
def Dev.twinState (d : Dev) : Nat := d.g rootId Root.TWIN_STATUS_STATE

/-- The pair keeps the partner's copy current: SYNC, ATTACHED or SWITCHOVER (R473). -/
def Dev.mirroring (d : Dev) : Bool := d.twinState = 2 || d.twinState = 3 || d.twinState = 6

/-- R471: queue `q` lies in this twin's mirror range or its adopt range. -/
def Dev.mirroredQueue (d : Dev) (q : Nat) : Bool :=
  d.inAdopt q || (decide (d.g rootId Root.TWIN_MIRROR_OWN_QBASE ≤ q) &&
    decide (q < d.g rootId Root.TWIN_MIRROR_OWN_QBASE + (d.bound 0x41).2.2))

/-- R468: class and number of words of the context a record type carries. -/
def mirrorCls (rtype : Nat) : Option (Cls × Nat) :=
  match rtype with
  | 1 => some (.conn, 64)
  | 2 => some (.sa, 16)
  | 4 => some (.queue, 8)
  | 6 => some (.slice, 16)
  | 8 => some (.window, 4)
  | 9 => some (.session, 64)
  | _ => none

/-- R468: body of a write record of the object as it stands. An SA record ends with the key, an SA sequence record holds
SEQ, a queue head record bits [48:32] of word 3, an allow-list record the entries in use. -/
def Dev.mirrorBody (d : Dev) (rtype i : Nat) : List Byte :=
  match mirrorCls rtype with
  | some (c, n) => ofWords (d.crec c i n) ++ (if rtype = 2 then ofWords ((d.crec c i 8).drop 4) else [])
  | none =>
    if rtype = 3 then leBytes 8 (d.cg .sa i SA.SEQ)
    else if rtype = 5 then leBytes 8 (getBits (d.ow Cls.queue.code i 3) 32 17)
    else ofWords (d.crec .allow i (4 * d.cg .slice i Slc.ALLOW_COUNT))

/-! ### Yoke frames and the reliable channel (R462 to R465) -/

/-- R462: the bytes of a yoke frame. -/
def yokeBytes (kind flags seq ack epoch fmt : Nat) (payload : List Byte) : List Byte :=
  let h := beBytes 1 kind ++ beBytes 1 flags ++ beBytes 2 payload.length ++ beBytes 4 seq ++ beBytes 4 ack ++
    beBytes 2 epoch ++ beBytes 1 fmt ++ [0]
  h ++ payload ++ beBytes 4 (crc32c (h ++ payload))

/-- R462: mirror format in force, 0 during HELLO. -/
def Dev.yokeFmt (d : Dev) : Nat := if d.twinState = 1 then 0 else d.g rootId Root.TWIN_STATUS_FMT

/-- The last SEQ received in order. -/
def Dev.rxAck (d : Dev) : Nat := (d.g rootId Root.TWIN_SEQ_RX_EXPECTED + 2 ^ 32 - 1) % 2 ^ 32

/-- R459, R462: a frame leaves on the yoke while its PCS is aligned. -/
def Dev.yokeOut (d : Dev) (kind flags seq : Nat) (payload : List Byte) : Dev :=
  if d.on rootId Root.TWIN_STATUS_LINK_UP then
    d.emit (.yoke (yokeBytes kind flags seq d.rxAck (d.g rootId Root.TWIN_STATUS_LINK_EPOCH) d.yokeFmt payload))
  else d

/-- R215, R464: a DATA frame leaves on the yoke; that of a poisoned packet with error blocks and a complemented CRC, so that the
partner discards it (R462). -/
def Dev.yokePacket (d : Dev) (poison : Bool) (payload : List Byte) : Dev :=
  let b := yokeBytes 1 0 0 d.rxAck (d.g rootId Root.TWIN_STATUS_LINK_EPOCH) d.yokeFmt payload
  let b := if poison then b.take (b.length - 4) ++ (b.drop (b.length - 4)).map (fun x => ~~~x) else b
  if d.on rootId Root.TWIN_STATUS_LINK_UP then d.emit (.yoke b) else d

/-- R269, R465: `a` is before `b`, modulo 2^32. -/
def seqBefore (a b : Nat) : Bool :=
  let x := (b + 2 ^ 32 - a % 2 ^ 32) % 2 ^ 32
  decide (0 < x) && decide (x < 2 ^ 31)

/-- R465: bytes that the retransmit buffer holds. -/
def Dev.yokeHeld (d : Dev) : Nat := (d.twin.unacked.map (fun f => f.payload.length)).foldl (· + ·) 0

/-- R465: a reliable frame is numbered, kept until it is acknowledged, and sent. -/
def Dev.yokeReliable (d : Dev) (kind : Nat) (ackNow : Bool) (payload : List Byte) : Dev :=
  let seq := d.g rootId Root.TWIN_SEQ_TX_NEXT
  let f : YokeFrm := { kind := kind, ackNow := ackNow, seq := seq, payload := payload }
  let d := { d with twin := { d.twin with unacked := d.twin.unacked ++ [f] } }
  (d.s rootId Root.TWIN_SEQ_TX_NEXT (seq + 1)).yokeOut kind (if ackNow then 1 else 0) seq payload

/-- R468: a record as a MIRROR frame carries it. -/
def MirRec.bytes (r : MirRec) : List Byte :=
  beBytes 1 r.rtype ++ beBytes 1 r.op ++ beBytes 2 r.body.length ++ beBytes 4 r.index ++ r.body

/-- R470: the SEQ that a record of an encrypt SA carries. -/
def MirRec.saSeq (r : MirRec) : Option Nat :=
  if r.op ≠ 1 then none
  else if r.rtype = 3 then some (leNat r.body)
  else if r.rtype = 2 then some (wget (toWords 16 r.body) SA.SEQ)
  else none

/-- R465, R470, R472: one record leaves in a frame of its own; a CONTROL frame is held in the same order. -/
def Dev.sendRecord (d : Dev) (r : MirRec) (ackNow : Bool) : Dev :=
  let seq := d.g rootId Root.TWIN_SEQ_TX_NEXT
  if r.rtype = 0 then
    let d := if r.op = 2 then { d with twin := { d.twin with doneSeq := some seq } } else d
    d.yokeReliable 3 ackNow (BitVec.ofNat 8 r.op :: r.body)
  else
    let d := match r.saSeq with
      | some s => if d.cg .sa r.index SA.DIR = 1 then
          { d with twin := { d.twin with leaseSent := d.twin.leaseSent ++ [(seq, r.index, s)] } } else d
      | none => d
    (d.yokeReliable 2 ackNow r.bytes).bump Root.RECORDS_TX

/-- Records leave in order while the retransmit buffer has room (R465, R469). -/
def flushRecs : List (MirRec × Bool) → Dev → Dev
  | [], d => { d with twin := { d.twin with deferred := [] } }
  | (r, now) :: rest, d =>
    if 2 ^ 24 < d.yokeHeld + r.body.length + 8 then { d with twin := { d.twin with deferred := (r, now) :: rest } }
    else flushRecs rest (d.sendRecord r now)

/-- R465, R469: deferred records leave; while some wait for the retransmit buffer, the time counts in BUF_FULL, in whole
microseconds. -/
def Dev.flushMirror (d : Dev) : Dev :=
  let d := flushRecs d.twin.deferred d
  match d.twin.fullSince, d.twin.deferred with
  | none, _ :: _ => { d with twin := { d.twin with fullSince := some d.time } }
  | some t, [] => ({ d with twin := { d.twin with fullSince := none } }).add rootId Root.BUF_FULL ((d.time - t) / 1000)
  | _, _ => d

/-- R472: a CONTROL frame of the reliable channel. -/
def Dev.sendControl (d : Dev) (op : Nat) (body : List Byte) : Dev :=
  let r : MirRec := { rtype := 0, op := op, index := 0, body := body }
  ({ d with twin := { d.twin with deferred := d.twin.deferred ++ [(r, false)] } }).flushMirror

/-- R465, R466: the frame with sequence `s` has been sent and acknowledged. -/
def Dev.yokeAcked (d : Dev) (s : Nat) : Bool :=
  seqBefore s (d.g rootId Root.TWIN_SEQ_TX_NEXT) && !d.twin.unacked.any (fun f => f.seq = s || seqBefore f.seq s)

/-! ### The mirror stream (R468 to R471) -/

/-- R469: a change of a kept object goes into the mirror stream, at once with ACK_NOW, else with the next records; queue
records only by R471. -/
def Dev.mirror (d : Dev) (rtype op i : Nat) (ackNow : Bool) : Dev :=
  if !d.mirroring || ((rtype = 4 || rtype = 5) && !d.mirroredQueue i) then d
  else
    let r : MirRec := { rtype := rtype, op := op, index := i, body := if op = 1 then d.mirrorBody rtype i else [] }
    let d := { d with twin := { d.twin with deferred := d.twin.deferred ++ [(r, ackNow)] } }
    if ackNow then d.flushMirror else d

/-- SEQ of the frame that carries, or will carry, the newest record (R277). -/
def Dev.lastSeq (d : Dev) : Nat := (d.g rootId Root.TWIN_SEQ_TX_NEXT + d.twin.deferred.length + 2 ^ 32 - 1) % 2 ^ 32

/-- A write record of an object, sent loose. -/
def Dev.touch (d : Dev) (rtype i : Nat) : Dev := d.mirror rtype 1 i false

/-- What a home tile keeps of a connection with nothing in progress whose next PSN is `psn`. -/
def TpConn.init (c psn : Nat) : TpConn :=
  { cid := c, next := psn, probe := 0, rnr := none, acks := 0, naked := false, rx := none, msgs := [], answers := []
    rec_ := none, held := [], pend := none, adopted := false }

/-- What the home tile keeps of connection `c`. -/
def Dev.tc (d : Dev) (c : Nat) : TpConn := (d.tp.conns.find? (fun x => x.cid = c)).getD (TpConn.init c 0)

/-- Change what the home tile keeps of connection `c`. -/
def Dev.setTc (d : Dev) (c : Nat) (f : TpConn → TpConn) : Dev :=
  { d with tp := { d.tp with conns := d.tp.conns.map (fun (x : TpConn) => if x.cid = c then f x else x) } }

/-- R277, R469: a change of the context of connection `c` goes into the mirror stream, with ACK_NOW when it is tethered. -/
def Dev.connRecord (d : Dev) (c : Nat) : Dev := d.mirror 1 1 c (d.cg .conn c Conn.TETHERED = 1)

/-- R277: the same for a change that outputs of the connection report: they wait for this record. -/
def Dev.touchConn (d : Dev) (c : Nat) : Dev :=
  let d := d.connRecord c
  d.setTc c (fun (x : TpConn) => { x with rec_ := some d.lastSeq })

/-- A destroy record; an adopted object that is destroyed is no longer one. -/
def Dev.untouch (d : Dev) (rtype i : Nat) : Dev :=
  ({ d with twin := { d.twin with adopted := d.twin.adopted.filter (fun x => !(x = (rtype, i))) } }).mirror rtype 2 i false

end Sys2Proof.Machine
end

