-- ==== Sys2Proof/Machine/Objects.lean ====
section
/-! DEFINITION. Objects the host creates and what they share: slices, and queues with their completions (R326, R348 to
R372). -/

namespace Sys2Proof.Machine

/-! ### Records that exist -/

/-- Indices of class `c` with any word listed, lowest first. -/
def Dev.recs (d : Dev) (c : Cls) : List Nat :=
  ((d.objs.filter (fun p => p.1 / 2 ^ 64 = c.code)).map (fun p => p.1 % 2 ^ 64 / 2 ^ 8)).eraseDups

/-! ### Slices (R326 to R331) -/

/-- STATE of a slice; slice 0 always exists and is ACTIVE (R326). -/
def Dev.sliceState (d : Dev) (sl : Nat) : Nat := if sl = 0 then 1 else d.cg .slice sl Slc.STATE

/-- The slice is FREEZING or FROZEN. -/
def Dev.sliceFrozen (d : Dev) (sl : Nat) : Bool := d.sliceState sl = 2 || d.sliceState sl = 3

/-- Slices that are not FREE, besides slice 0. -/
def Dev.slices (d : Dev) : List Nat := (d.recs .slice).filter (fun sl => d.cg .slice sl Slc.STATE ≠ 0)

/-- R329: queue ID `q` lies in the range of slice `sl`. -/
def Dev.inSlice (d : Dev) (sl q : Nat) : Bool :=
  decide (d.cg .slice sl Slc.QBASE ≤ q) && decide (q < d.cg .slice sl Slc.QBASE + d.cg .slice sl Slc.QCOUNT)

/-- R326: slice whose range holds `q`, or 0. -/
def Dev.sliceOfQ (d : Dev) (q : Nat) : Nat := (d.slices.find? (fun sl => d.inSlice sl q)).getD 0

/-- A count of a slice rises by 1; slice 0 has no context. -/
def Dev.sliceInc (d : Dev) (sl : Nat) (f : CFld) : Dev := if sl = 0 then d else (d.cadd .slice sl f 1).touch 6 sl

/-- A count of a slice falls by 1. -/
def Dev.sliceDec (d : Dev) (sl : Nat) (f : CFld) : Dev :=
  if sl = 0 then d else (d.cs .slice sl f (d.cg .slice sl f - 1)).touch 6 sl

/-- R331, R346, R380: status of creating or changing an object in the name of slice `sl` by function `pf`: the slice is
ACTIVE and its own, and the quota has room. -/
def Dev.sliceCheck (d : Dev) (pf sl : Nat) (used max : CFld) : Nat :=
  if sl = 0 then Sc.ok
  else if d.badRec .slice sl then Sc.integrity
  else if d.sliceState sl ≠ 0 ∧ d.cg .slice sl Slc.OWNER ≠ pf then Sc.malformed
  else if d.sliceState sl ≠ 1 then 0x3E
  else if d.cg .slice sl max ≤ d.cg .slice sl used then Sc.noResource
  else Sc.ok

/-! ### Queues (R348 to R372) -/

/-- The device's own state of queue `q`. -/
def Dev.qst (d : Dev) (q : Nat) : Option QSt := d.queues.find? (fun x => x.qid = q)

/-- Change the device's own state of queue `q`. -/
def Dev.setQ (d : Dev) (q : Nat) (f : QSt → QSt) : Dev :=
  { d with queues := d.queues.map (fun x => if x.qid = q then f x else x) }

/-- Field `f` of the context of queue `q`. -/
def Dev.qf (d : Dev) (q : Nat) (f : CFld) : Nat := d.cg .queue q f

/-- Set field `f` of the context of queue `q`. -/
def Dev.setQf (d : Dev) (q : Nat) (f : CFld) (v : Nat) : Dev := d.cs .queue q f v

/-- STATE codes of R350. -/
def qFree : Nat := 0
/-- The queue takes jobs. -/
def qActive : Nat := 1
/-- Stopped by QUIESCE_QUEUE. -/
def qQuiesced : Nat := 2
/-- Stopped by a structural error. -/
def qError : Nat := 3
/-- Its CQ is in ERROR. -/
def qStalled : Nat := 4

/-- STATE of queue `q`. -/
def Dev.qstate (d : Dev) (q : Nat) : Nat := d.qf q Qctx.STATE

/-- The queue exists. -/
def Dev.qExists (d : Dev) (q : Nat) : Bool := (d.qst q).isSome

/-- R348: DMA tile that serves queue `q`. -/
def dmaOf (q : Nat) : Nat := dmaId (q % 16)

/-- R351: entries of the ring of queue `q`. -/
def Dev.qSize (d : Dev) (q : Nat) : Nat := 2 ^ d.qf q Qctx.SIZE_LOG2

/-- R471: HEAD, HEAD_PHASE or the write position of a queue changed. -/
def Dev.headMoved (d : Dev) (q : Nat) : Dev :=
  if d.mirroring && d.mirroredQueue q && !d.twin.heads.contains q then
    { d with twin := { d.twin with heads := d.twin.heads ++ [q] } }
  else d

/-- R352: HEAD of queue `q` moves `n` entries on, its phase flipping past the last index. -/
def Dev.advHead (d : Dev) (q n : Nat) : Dev :=
  let p := d.qf q Qctx.HEAD + n
  let sz := d.qSize q
  let d := d.setQf q Qctx.HEAD (p % sz)
  (d.setQf q Qctx.HEAD_PHASE ((d.qf q Qctx.HEAD_PHASE + p / sz) % 2)).headMoved q

/-- R330: PASID that requests of queue `q` carry. -/
def Dev.qPasid (d : Dev) (q : Nat) : Option Nat := d.pasidOf (d.qf q Qctx.SLICE)

/-- R330: queue `q` uses translated addresses: its slice has ATS_EN and the queue was created with its ATS flag. -/
def Dev.qAts (d : Dev) (q : Nat) : Bool :=
  d.qf q Qctx.ATS = 1 && d.qf q Qctx.SLICE ≠ 0 && d.cg .slice (d.qf q Qctx.SLICE) Slc.ATS_EN = 1

/-- R318: microseconds of the latency that function `pf` tolerates: 2 while any queue of it is enabled, else 200. -/
def Dev.ltrUs (d : Dev) (pf : Nat) : Nat :=
  if d.on (epId pf) Ep.AQ_CFG_ENABLE || d.queues.any (fun x => x.enable && d.qf x.qid Qctx.OWNER = pf) then 2 else 200

/-- The host has enabled latency tolerance reports of `pf` (Device Control 2). -/
def Dev.ltrOn (d : Dev) (pf : Nat) : Bool := (d.ep pf).cfg.any (fun x => x.1 = 0x88 && getBits x.2 10 1 = 1)

/-- R318: function `pf` reports its latency where it has changed since `old`, or has just been asked to report. -/
def Dev.tellLtr (d old : Dev) (pf : Nat) : Dev :=
  if (d.ep pf).linkUp && d.ltrOn pf && !(old.ltrOn pf && old.ltrUs pf = d.ltrUs pf) then d.emit (.pcieMsg pf 2 (d.ltrUs pf))
  else d

/-- R371: queue that receives the error events of queue `q`: its own EQ for kinds 3 and 6, else its CQ's. -/
def Dev.errEq (d : Dev) (q : Nat) : Nat :=
  if d.qf q Qctx.KIND = 3 || d.qf q Qctx.KIND = 6 then d.qf q Qctx.EQ else d.qf (d.qf q Qctx.CQ) Qctx.EQ

/-- R371: queue `q` stops in ERROR with a code and an index, and a queue-error event. -/
def Dev.qErr (d : Dev) (q code idx : Nat) : Dev :=
  let d := ((d.setQf q Qctx.STATE qError).setQf q Qctx.QERR_CODE code).setQf q Qctx.QERR_INDEX idx
  (d.touch 4 q).raiseTo (d.qf q Qctx.OWNER) (d.errEq q) (dmaOf q) 0x0702 (d.qf q Qctx.SLICE)
    (q + code * 2 ^ 32 + idx * 2 ^ 48)

/-- R352, R366, R370: a completion, given without PHASE, is written at the write position of CQ `c`; an armed CQ clears
ARMED and raises a completion event. -/
def Dev.cqWrite (d : Dev) (c : Nat) (h : HeldCpl) : Dev :=
  let pos := d.qf c Qctx.HEAD
  let w1 := putBits h.w1 63 1 (d.qf c Qctx.HEAD_PHASE)
  let own := d.qf c Qctx.OWNER
  let d := d.hostPut own (d.qPasid c) (d.qf c Qctx.RING_BASE + 16 * pos) (ofWords [h.w0, w1])
  let d := d.advHead c 1
  if d.qf c Qctx.ARMED = 1 then
    (d.setQf c Qctx.ARMED 0).raiseTo own (d.qf c Qctx.EQ) (dmaOf c) 0x0701 (d.qf c Qctx.SLICE)
      (c + d.qf c Qctx.HEAD * 2 ^ 32)
  else d

/-- R366: words of a completion, PHASE 0. -/
def mkCpl (tag q entries status result index flags : Nat) : HeldCpl :=
  { w0 := BitVec.ofNat 64 (tag % 2 ^ 32 + q % 2 ^ 18 * 2 ^ 32 + (entries - 1) % 64 * 2 ^ 50 + status % 256 * 2 ^ 56)
    w1 := BitVec.ofNat 64 (result % 2 ^ 32 + index % 2 ^ 16 * 2 ^ 32 + flags % 2 ^ 15 * 2 ^ 48) }

/-- R278, R372, R478: a completion of work queue `q` goes to its CQ, or is held while the queue is STALLED or its CQ has been adopted
and its position is not yet set. JOBS increments. -/
def Dev.complete (d : Dev) (q : Nat) (h : HeldCpl) : Dev :=
  let d := d.cadd .queue q Qctx.JOBS 1
  let cq := d.qf q Qctx.CQ
  if d.qstate q = qStalled || d.qstate cq = qError || (d.qstate cq = qQuiesced && d.twin.adopted.contains (4, cq)) then
    d.setQ q (fun x => { x with held := x.held ++ [h] })
  else d.cqWrite (d.qf q Qctx.CQ) h

/-- WR_TAG of a job. -/
def Job.tag (j : Job) : Nat := wget (j.ents.getD 0 []) Went.WR_TAG

/-- R356: bytes of a job's data entries. In kind 4 the first entry is a header that carries no data (R363). -/
def Job.bytes (kind : Nat) (j : Job) : Nat :=
  ((if kind = 4 then j.ents.drop 1 else j.ents).map (fun e => wget e Went.LEN)).foldl (· + ·) 0

/-- Completion of a job of queue `q`. -/
def jobCpl (q : Nat) (j : Job) (status result flags : Nat) : HeldCpl :=
  mkCpl j.tag q j.ents.length status result j.idx flags

/-- R368: completions of a queue are written in the order of its jobs: every finished job at the front leaves. -/
def flushJobs (q : Nat) : List Job → Dev → Dev
  | [], d => d.setQ q (fun x => { x with jobs := [] })
  | j :: rest, d =>
    match j.result with
    | some (st, res, fl) =>
      let d := d.setQf q Qctx.TAKEN (d.qf q Qctx.TAKEN - 1)
      flushJobs q rest (d.complete q (jobCpl q j st res fl))
    | none => d.setQ q (fun x => { x with jobs := j :: rest })

/-- A taken job with ring index `i` has a result: status, RESULT and FLAGS (R366 to R368). -/
def Dev.finishJob (d : Dev) (q i status result flags : Nat) : Dev :=
  match d.qst q with
  | none => d
  | some x => flushJobs q (x.jobs.map (fun (j : Job) =>
      if j.idx = i && j.result.isNone then { j with result := some (status, result, flags) } else j)) d

/-- A job of queue `q` is taken: HEAD passes its entries and TAKEN rises. -/
def Dev.takeJob (d : Dev) (q : Nat) (j : Job) : Dev :=
  ((d.advHead q j.ents.length).cadd .queue q Qctx.TAKEN 1).setQ q (fun x => { x with jobs := x.jobs ++ [j] })

/-- R372: CQ `c` stops in ERROR and every queue that names it, if ACTIVE, becomes STALLED. -/
def Dev.cqError (d : Dev) (c idx : Nat) : Dev :=
  let d := d.qErr c 0x08 idx
  d.queues.foldl (fun d x =>
    if x.qid ≠ c && d.qf x.qid Qctx.KIND ≠ 3 && d.qf x.qid Qctx.KIND ≠ 6 && d.qf x.qid Qctx.CQ = c &&
      d.qstate x.qid = qActive then (d.setQf x.qid Qctx.STATE qStalled).touch 4 x.qid else d) d

/-- R372, R373: a resumed CQ takes the completions its queues hold, and STALLED ones return to ACTIVE. -/
def Dev.cqResumed (d : Dev) (c : Nat) : Dev :=
  d.queues.foldl (fun (d : Dev) (x : QSt) =>
    if d.qf x.qid Qctx.KIND = 3 || d.qf x.qid Qctx.KIND = 6 || d.qf x.qid Qctx.CQ ≠ c then d
    else
      let d := x.held.foldl (fun (d : Dev) h => d.cqWrite c h) d
      let d := d.setQ x.qid (fun (x : QSt) => { x with held := [] })
      if d.qstate x.qid = qStalled then (d.setQf x.qid Qctx.STATE qActive).touch 4 x.qid else d) d

/-- R63, R64: a running patch holds queue `q`: its binding leads into the subtree being replaced. -/
def Dev.heldByPatch (d : Dev) (q : Nat) : Bool :=
  match d.img.patch, d.queueBinding q with
  | some p, some h => d.inSubtree p.target h
  | _, _ => false

/-- R26, R64, R354: queue `q` can scan: ACTIVE, its slice not FREEZING or FROZEN, enabled if COMPAT, its function not quiet; its DMA
tile takes work unless another tile fetches it (R349), and no patch holds back its work entries. -/
def Dev.canScan (d : Dev) (q : Nat) : Bool :=
  let k := d.qf q Qctx.KIND
  d.qstate q = qActive && !d.sliceFrozen (d.qf q Qctx.SLICE) && ((d.qst q).map QSt.enable).getD true &&
    !d.quiet (d.qf q Qctx.OWNER) && (k = 4 || k = 5 || d.takesWork (dmaOf q)) && (k = 6 || !d.heldByPatch q)

/-- R354, R370: queue `q` is rung: the ring is recorded, merging. A CQ is armed, once it is ACTIVE and its slice neither FREEZING
nor FROZEN. -/
def Dev.ringQ (d : Dev) (q : Nat) : Dev :=
  if d.qf q Qctx.KIND = 3 then
    if d.qstate q = qActive && !d.sliceFrozen (d.qf q Qctx.SLICE) then
      (d.setQ q (fun x => { x with rung := false })).setQf q Qctx.ARMED 1
    else d.setQ q (fun x => { x with rung := true })
  else (d.setQ q (fun x => { x with rung := true })).wakeUnit (dmaOf q)

end Sys2Proof.Machine
end

