-- ==== Sys2Proof/Machine/Admin.lean ====
section
/-! DEFINITION. The admin queue: taking commands, the order among them, finishing them (R377 to R381). -/

namespace Sys2Proof.Machine

/-- OPCODE of an admin command. -/
def AdminCmd.op (c : AdminCmd) : Nat := wget c.ent Adm.OPCODE
/-- ARG of an admin command. -/
def AdminCmd.arg (c : AdminCmd) : Nat := wget c.ent Adm.ARG
/-- LEN of an admin command. -/
def AdminCmd.len (c : AdminCmd) : Nat := wget c.ent Adm.LEN
/-- BUF of an admin command. -/
def AdminCmd.buf (c : AdminCmd) : Nat := wget c.ent Adm.BUF
/-- FENCE of an admin command. -/
def AdminCmd.fence (c : AdminCmd) : Bool := wget c.ent Went.FENCE = 1

/-- R380, R485, R500: what the table says of an opcode: the mask of ARG bits it uses, and the least, greatest and unit
of its buffer's LEN. Commands without a buffer have BUF and LEN 0. -/
def adminRow (op : Nat) : Option (Nat × Nat × Nat × Nat) :=
  match op with
  | 0x0001 => some (0, 0, 0, 1)
  | 0x0002 => some (0, 1, 4096, 1)
  | 0x0101 => some (0, 64, 64, 1)
  | 0x0102 | 0x0104 => some (0x3FFFF, 0, 0, 1)
  | 0x0103 => some (0x3FFFF + 0x3FFFF * 2 ^ 32, 0, 0, 1)
  | 0x0105 => some (0x3FFFF, 64, 64, 1)
  | 0x0201 => some (0x3FF, 64, 64, 1)
  | 0x0202 => some (0x3FF, 0, 0, 1)
  | 0x0203 => some (0x3FF, 64, 64, 1)
  | 0x0301 | 0x0302 | 0x0303 => some (0xFFF, 128, 128, 1)
  | 0x0304 | 0x0307 | 0x0308 => some (0xFFF, 0, 0, 1)
  | 0x0305 => some (0xFFF, 0, 2 ^ 25, 1)
  | 0x0306 => some (0xFFF + 0x3FFFF * 2 ^ 20 + 0xFFFFF * 2 ^ 40, 0, 2 ^ 25, 1)
  | 0x0309 => some (0xFFF, 0, 1024, 32)
  | 0x030A => some (0xFFFF, 32, 32, 1)
  | 0x030B => some (0xFFFF, 0, 0, 1)
  | 0x0401 | 0x0403 => some (0x3FFFFF, 512, 512, 1)
  | 0x0402 => some (0x3FFFFF + 0x1F * 2 ^ 32, 512, 512, 1)
  | 0x0404 => some (0x3FFFFF, 0, 0, 1)
  | 0x0501 | 0x0503 => some (0x1FFFF, 512, 512, 1)
  | 0x0502 => some (0x1FFFF, 0, 0, 1)
  | 0x0504 => some (0xFFFF, 64, 64, 1)
  | 0x0505 => some (0xFFFF, 0, 0, 1)
  | 0x0506 => some (0xFFF, 32, 32, 1)
  | 0x0507 => some (0x3FFFFFFF, 16, 16384, 16)
  | 0x0508 => some (0x3FFFFFFF, 0, 0, 1)
  | 0x0601 => some (0x3FFFFFF, 1, 16777216, 1)
  | 0x0602 => some (0, 0, 0, 1)
  | 0x0603 => some (1, 0, 0, 1)
  | 0x0701 => some (0x3FFFF, 0, 0, 1)
  | 0x0702 => some (0, 0, 0, 1)
  | 0x0703 => some (1, 0, 0, 1)
  | 0x0801 => some (0xFFFF + 0xFFF * 2 ^ 16 + 0x1FFF * 2 ^ 32, 0, 65536, 16)
  | 0x0802 => some (0, 0, 0, 1)
  | 0x0803 => some (0xF + 0xFFFF * 2 ^ 16 + 0xF * 2 ^ 32 + 0xFFFF * 2 ^ 48, 0, 2 ^ 25, 1)
  | _ => none

/-- R379, R380: an entry's format: a known opcode, reserved bits and unused ARG bits 0, an aligned buffer of an
allowed length. -/
def AdminCmd.wellFormed (c : AdminCmd) : Bool :=
  match adminRow c.op with
  | none => false
  | some (mask, lo, hi, unit) =>
    getBits (c.ent.getD 3 0) 16 47 = 0 && Nat.land c.arg mask = c.arg && decide (lo ≤ c.len) && decide (c.len ≤ hi) &&
      c.len % unit = 0 && c.buf % 8 = 0 && (hi ≠ 0 || c.buf = 0)

/-- R379: the objects that a command names and that keep it in ring order: a class (queue, slice, connection, session,
namespace, memory window, extents), the first and their number; `none` for other commands. CREATE_QUEUE names the queue its
buffer holds, which may be any. -/
def AdminCmd.object (c : AdminCmd) : Option (Nat × Nat × Nat) :=
  match c.op / 256 with
  | 1 => if c.op = 0x101 then some (1, 0, 2 ^ 18) else some (1, c.arg % 2 ^ 18, 1)
  | 3 => if c.op = 0x30A ∨ c.op = 0x30B then some (8, c.arg % 2 ^ 16, 1) else some (3, c.arg % 2 ^ 12, 1)
  | 4 => some (4, c.arg % 2 ^ 22, 1)
  | 5 =>
    if c.op ≤ 0x503 then some (5, c.arg % 2 ^ 17, 1)
    else if c.op ≤ 0x505 then some (6, c.arg % 2 ^ 16, 1)
    else if c.op = 0x507 then some (9, c.arg % 2 ^ 30, c.len / 16)
    else if c.op = 0x508 then some (9, c.arg % 2 ^ 30, 1)
    else none
  | _ => none

/-- Two commands may name the same object. -/
def clash (a b : Option (Nat × Nat × Nat)) : Bool :=
  match a, b with
  | some (k, i, n), some (l, j, m) => k = l && decide (i < j + m) && decide (j < i + n)
  | _, _ => false

/-- Commands of `pf` in flight before ring index `idx` was taken, oldest first. -/
def Dev.admBefore (d : Dev) (pf idx : Nat) : List AdminCmd :=
  (d.admin.filter (fun c => c.pf = pf)).takeWhile (fun c => c.idx ≠ idx)

/-- R379: command `c` may start: no earlier command still unfinished names its object, no earlier fence is in flight,
and if it is a fence nothing earlier is. -/
def Dev.admMayStart (d : Dev) (c : AdminCmd) : Bool :=
  let bs := d.admBefore c.pf c.idx
  !bs.any (fun b => b.fence || c.fence || (b.done.isNone && clash b.object c.object))

/-- Change the in-flight command of `pf` with ring index `idx`. -/
def Dev.setAdm (d : Dev) (pf idx : Nat) (f : AdminCmd → AdminCmd) : Dev :=
  { d with admin := d.admin.map (fun c => if c.pf = pf && c.idx = idx then f c else c) }

/-- The command of `pf` at `idx` has finished with a status and a RESULT. -/
def Dev.admEnd (d : Dev) (pf idx status result : Nat) : Dev :=
  d.setAdm pf idx (fun (c : AdminCmd) => { c with done := some (status, result) })

/-- The command of `pf` at `idx` has started and goes on. -/
def Dev.admStart (d : Dev) (pf idx : Nat) : Dev :=
  d.setAdm pf idx (fun (c : AdminCmd) => { c with started := true })

/-- R381: commands that run while no image does. -/
def bareOps : List Nat := [0x0001, 0x0002, 0x0601, 0x0602, 0x0603]

/-- R381: the device runs no command but those of `bareOps`. -/
def Dev.bareState (d : Dev) : Bool := !(d.imgState = 2 || d.imgState = 4)

/-- R379 to R381: run the command of `pf` at ring index `idx`, in flight with opcode `op` and not started, by `f`. A
malformed entry or a device state that does not run it ends it with that status. A command that is not in flight, or
may not start yet, does nothing (assumption 2). -/
def Dev.admRun (d : Dev) (pf idx op : Nat) (f : AdminCmd → Dev → Dev) : Dev :=
  match d.admin.find? (fun c => c.pf = pf && c.idx = idx) with
  | none => d
  | some c =>
    if c.op ≠ op || c.started || c.done.isSome || !d.admMayStart c then d
    else if !c.wellFormed then d.admEnd pf idx Sc.malformed 0
    else if d.bareState && !bareOps.contains op then d.admEnd pf idx 0x25 0
    else f c (d.admStart pf idx)

/-- R380: a command whose buffer the device reads: BUS_ERROR when it cannot be reached. The bytes are those of LEN. -/
def Dev.admIn (d : Dev) (pf idx op : Nat) (data : Option (List Byte)) (f : AdminCmd → List Byte → Dev → Dev) : Dev :=
  d.admRun pf idx op (fun c d =>
    match data with
    | none => d.admEnd pf idx Sc.busError 0
    | some bs => f c (sliceBytes bs 0 c.len) d)

/-- R379, R380: a command that writes its buffer, without PASID, and ends with OK, or BUS_ERROR when the buffer cannot
be reached. -/
def Dev.admOut (d : Dev) (c : AdminCmd) (reach : Bool) (bs : List Byte) (result : Nat) : Dev :=
  if reach then (d.hostData c.pf none c.buf bs).admEnd c.pf c.idx Sc.ok result else d.admEnd c.pf c.idx Sc.busError 0

/-- AQ_STATUS.IN_FLIGHT and BUSY show the commands in flight; STATE falls to DISABLED once none is left with ENABLE 0
(R378). -/
def Dev.syncAq (d : Dev) (pf : Nat) : Dev :=
  let n := (d.admin.filter (fun c => c.pf = pf)).length
  let u := epId pf
  let d := (d.s u Ep.AQ_STATUS_IN_FLIGHT n).s u Ep.AQ_STATUS_BUSY (if n = 0 then 0 else 1)
  if n = 0 && !d.on u Ep.AQ_CFG_ENABLE then d.s u Ep.AQ_STATUS_STATE 0 else d

/-- R357, R371: code of a structural error of a single work entry, if any, given whether a job is open. -/
def entryErr (kind : Nat) (first : Bool) (e : List Word) : Option Nat :=
  if first && wget e Went.F = 0 then some 1
  else if !first && wget e Went.F = 1 then some 2
  else if (kind = 1 || kind = 2 || kind = 5 || (kind = 4 && !first)) && wget e Went.LEN = 0 then some 5
  else if getBits (e.getD 1 0) 28 4 ≠ 0 || (kind ≠ 0 && wget e Went.FENCE = 1) then some 6
  else none

/-- R355, R356, R371: parse entries as read from position `pos` with expected phase `ph` into complete owned jobs, and the
code and index of the error that ends the scan, if one does. `acc` holds the entries of the open job, which began at
`start`. Kind 0 is the admin queue. -/
def scanJobs (kind sz : Nat) : List (Option (List Word)) → Nat → Nat → List (List Word) → Nat →
    List Job × Option (Nat × Nat)
  | [], _, _, _, _ => ([], none)
  | none :: _, pos, _, _, _ => ([], some (7, pos))
  | some e :: rest, pos, ph, acc, start =>
    if wget e Went.PHASE ≠ ph then ([], none)
    else
      match entryErr kind acc.isEmpty e with
      | some code => ([], some (code, pos))
      | none =>
        let j : Job := { idx := start, ents := acc ++ [e], moved := 0, granted := false, grant := none, result := none }
        let limit := if kind = 1 && wget (j.ents.getD 0 []) TxE.TSO = 1 then 262144 else 16777216
        if 64 ≤ acc.length then ([], some (3, pos))
        else if kind ≠ 0 && decide (limit < j.bytes kind) then ([], some (4, pos))
        else
          let pos' := (pos + 1) % sz
          let ph' := if pos + 1 = sz then 1 - ph else ph
          if wget e Went.L = 1 then
            let (js, end_) := scanJobs kind sz rest pos' ph' [] pos'
            (j :: js, end_)
          else scanJobs kind sz rest pos' ph' (acc ++ [e]) start

/-- One command taken by the admin queue: HEAD moves on; a job of several entries, or of an unknown opcode, finishes
with MALFORMED (R379, R380). -/
def Dev.admTake (d : Dev) (pf : Nat) (j : Job) : Dev :=
  let u := epId pf
  let p := d.g u Ep.AQ_STATUS_HEAD + j.ents.length
  let sz := 2 ^ d.g u Ep.AQ_CFG_WQ_SIZE_LOG2
  let d := d.s u Ep.AQ_STATUS_HEAD (p % sz)
  let d := d.s u Ep.AQ_STATUS_HEAD_PHASE ((d.g u Ep.AQ_STATUS_HEAD_PHASE + p / sz) % 2)
  let e := j.ents.getD 0 []
  let bad := decide (j.ents.length ≠ 1) || (adminRow (wget e Adm.OPCODE)).isNone
  let c : AdminCmd :=
    { pf := pf, idx := j.idx, ent := e, started := bad, count := 0, done := if bad then some (Sc.malformed, 0) else none }
  { d with admin := d.admin ++ [c] }

/-- ADMIN_SCAN, R355, R378, R379: on a ring of page 0 the admin queue reads entries from HEAD and takes commands in ring
order, up to 16 in flight; a structural error stops it in ERROR. -/
def adminScan (pf : Nat) (ents : List (Option (List Word))) (d : Dev) : Dev :=
  let u := epId pf
  let rung := if pf = 0 then d.aqRung.1 else d.aqRung.2
  let sz := 2 ^ d.g u Ep.AQ_CFG_WQ_SIZE_LOG2
  let room := 16 - (d.admin.filter (fun c => c.pf = pf)).length
  if !rung || !d.on u Ep.AQ_CFG_ENABLE || d.g u Ep.AQ_STATUS_STATE ≠ 1 || d.quiet pf then d
  else
    let (js, e) := scanJobs 0 sz (ents.take sz) (d.g u Ep.AQ_STATUS_HEAD) (d.g u Ep.AQ_STATUS_HEAD_PHASE) []
      (d.g u Ep.AQ_STATUS_HEAD)
    let d := (js.take room).foldl (fun d j => d.admTake pf j) d
    let d := match e with
      | some (code, i) => if js.length ≤ room then
          ((d.s u Ep.AQ_STATUS_STATE 2).s u Ep.AQ_STATUS_QERR_CODE code).s u Ep.AQ_STATUS_QERR_INDEX i else d
      | none => d
    let d := if js.length ≤ room then
      { d with aqRung := if pf = 0 then (false, d.aqRung.2) else (d.aqRung.1, false) } else d
    d.syncAq pf

/-- ADMIN_SCAN. -/
def execAdminScan (pf : Nat) (ents : List (Option (List Word))) (s : State) : Host.Outcome State Fault Refusal :=
  s.run (adminScan pf ents)

/-- ADMIN_COMPLETION, R366, R377, R379: the completion of a finished command is written at AQ_CQ_POS, with QID 0, its
INDEX and its WR_TAG, and an event is raised if EQ_EN is 1. -/
def adminCompletion (pf idx : Nat) (d : Dev) : Dev :=
  match d.admin.find? (fun c => c.pf = pf && c.idx = idx) with
  | none => d
  | some c =>
    match c.done with
    | none => d
    | some (st, res) =>
      let u := epId pf
      let pos := d.g u Ep.AQ_CQ_POS_POS
      let h := mkCpl (wget c.ent Went.WR_TAG) 0 1 st res idx 0
      let w1 := putBits h.w1 63 1 (d.g u Ep.AQ_CQ_POS_PHASE)
      let d := d.hostPut pf none (d.g u Ep.AQ_CQ_BASE_ADDR * 4096 + 16 * pos) (ofWords [h.w0, w1])
      let sz := 2 ^ d.g u Ep.AQ_CFG_CQ_SIZE_LOG2
      let d := d.s u Ep.AQ_CQ_POS_POS ((pos + 1) % sz)
      let d := if pos + 1 = sz then d.s u Ep.AQ_CQ_POS_PHASE (1 - d.g u Ep.AQ_CQ_POS_PHASE) else d
      let d := { d with admin := d.admin.filter (fun c => !(c.pf = pf && c.idx = idx)) }
      let d := d.syncAq pf
      if d.on u Ep.AQ_CFG_EQ_EN then d.raiseTo pf (d.g u Ep.AQ_CFG_EQ) u 0x0703 0 pos else d

/-- ADMIN_COMPLETION. -/
def execAdminCompletion (pf idx : Nat) (s : State) : Host.Outcome State Fault Refusal := s.run (adminCompletion pf idx)

/-- R377, R378: a write of AQ_CFG: sizes are stored while neither ENABLE nor BUSY is 1 and in range; setting ENABLE from 0 starts the
queue afresh; clearing it stops the taking of commands. -/
def Dev.putAqCfg (d : Dev) (pf : Nat) (v : Word) : Dev :=
  let u := epId pf
  let open_ := !d.on u Ep.AQ_CFG_ENABLE && !d.on u Ep.AQ_STATUS_BUSY
  let wq := getBits v 4 4
  let cq := getBits v 8 4
  let d := if open_ && decide (6 ≤ wq) && decide (wq ≤ 12) then d.s u Ep.AQ_CFG_WQ_SIZE_LOG2 wq else d
  let d := if open_ && decide (d.g u Ep.AQ_CFG_WQ_SIZE_LOG2 ≤ cq) && decide (cq ≤ 12) then
    d.s u Ep.AQ_CFG_CQ_SIZE_LOG2 cq else d
  let d := (d.s u Ep.AQ_CFG_EQ (getBits v 12 10)).s u Ep.AQ_CFG_EQ_EN (getBits v 22 1)
  let was := d.on u Ep.AQ_CFG_ENABLE
  let d := d.s u Ep.AQ_CFG_ENABLE (getBits v 0 1)
  if !was && d.on u Ep.AQ_CFG_ENABLE then
    ((((((d.s u Ep.AQ_STATUS_HEAD 0).s u Ep.AQ_CQ_POS_POS 0).s u Ep.AQ_STATUS_HEAD_PHASE 1).s u Ep.AQ_CQ_POS_PHASE 1).s u
      Ep.AQ_STATUS_QERR_CODE 0).s u Ep.AQ_STATUS_QERR_INDEX 0).s u Ep.AQ_STATUS_STATE 1
  else d.syncAq pf

/-- AQ_CFG, R318, R377, R378. -/
def aqCfg (pf : Nat) (v : Word) (d : Dev) : Dev := (d.putAqCfg pf v).tellLtr d pf

/-- AQ_CFG. -/
def execAqCfg (pf : Nat) (v : Word) (s : State) : Host.Outcome State Fault Refusal := s.run (aqCfg pf v)

/-- NOP, R380. -/
def nop (pf idx : Nat) (d : Dev) : Dev := d.admRun pf idx 0x0001 (fun _ d => d.admEnd pf idx Sc.ok 0)

/-- NOP. -/
def execNop (pf idx : Nat) (s : State) : Host.Outcome State Fault Refusal := s.run (nop pf idx)

end Sys2Proof.Machine
end

