-- ==== Sys2Proof/Machine/Doe.lean ====
section
/-! DEFINITION. DOE data objects and the SPDM responder's answers (R321 to R324). -/

namespace Sys2Proof.Machine

/-- R2, R3: the Revision ID of stepping B0, which the spec describes. -/
def revisionId : Nat := 0x10

/-- R322: the six measurements. -/
def Dev.measurements (d : Dev) : List (List Byte) :=
  [ Config.romMeasure,
    (if d.boot.fw.isEmpty then List.replicate 48 0 else d.boot.fw),
    d.img.measure3,
    (if d.img.measure4.isEmpty then List.replicate 48 0 else Config.sha384 d.img.measure4),
    (Config.sha384 (leBytes 8 (d.g rootId Root.IMG_FEATURE_WORD_FEATURES) ++ leBytes 4 d.fuse.imgSvn)),
    (Config.sha384 (leBytes 1 revisionId)) ]

/-- A DOE data object of a vendor's type with its payload (R321). -/
def doeObject (type : Nat) (payload : List Byte) : List Byte :=
  leBytes 4 (0x0001 + type * 65536) ++ leBytes 4 ((payload.length + 11) / 4) ++ payload

/-- The dwords of a byte list. -/
def dwords (bs : List Byte) : List Nat := (List.range ((bs.length + 3) / 4)).map (fun i => leNat (sliceBytes bs (4 * i) 4))

/-- R321: a data object waits in the function's read mailbox. -/
def Dev.doeSend (d : Dev) (pf : Nat) (obj : List Byte) : Dev :=
  d.setEp pf (fun (e : EpSt) => { e with doeOut := e.doeOut ++ dwords obj })

/-- R323: random bytes that the answer to an SPDM request of a code needs: the nonce of CHALLENGE_AUTH or MEASUREMENTS; the random
data and the secret of KEY_EXCHANGE_RSP (assumption 68). -/
def spdmNeeds (code : Nat) : Nat := if code = 0x83 ∨ code = 0xE0 then 32 else if code = 0xE4 then 80 else 0

/-- R321 to R324: the responder answers the SPDM message `body` of DOE type `type`, with random bytes `rand`, and remembers it. -/
def Dev.spdmReply (d : Dev) (pf type : Nat) (body rand : List Byte) : Dev :=
  let log := (d.ep pf).spdmLog
  let keyed := Config.ideKeyed log body
  (d.doeSend pf (doeObject type (Config.spdmAnswer log body d.measurements rand))).setEp pf (fun (e : EpSt) =>
    { e with spdmLog := e.spdmLog ++ [body], ideInsecure := e.ideInsecure.filter (fun i => !keyed.contains i) })

/-- R323: the responder answers ERROR with a code: 0x03 Busy, 0x05 Unspecified. -/
def Dev.spdmError (d : Dev) (pf code : Nat) (body : List Byte) : Dev :=
  d.doeSend pf (doeObject 1 (sliceBytes body 0 1 ++ [0x7F, BitVec.ofNat 8 code, 0]))

/-- R321: SPDM requests of a function that wait for random bytes are discarded with its other data objects. -/
def Dev.dropSpdm (d : Dev) (pf : Nat) : Dev :=
  let d := { d with cry := { d.cry with reqs := d.cry.reqs.filter (fun (r : EntReq) => !(r.spdm.isSome && r.pf = pf)) } }
  d.s rootId Root.ENT_STATUS_WAITING d.cry.reqs.length

end Sys2Proof.Machine
end

