-- ==== Sys2Proof/Machine/Prism.lean ====
section
/-! DEFINITION. The prism parser: the parse graph and its format rules, the walk of R102, and the input FIFO (R94 to
R111). -/

namespace Sys2Proof.Machine

/-! ### The graph (R98 to R100) -/

/-- R99: a node value is end of parse, unknown protocol, or a node of the graph. -/
def nodeValOk (n v : Nat) : Bool := v = 0xFFFF || v = 0xFFFE || decide (v < n)

/-- R99: a node record breaks no rule of its table. -/
def nodeOk (n t : Nat) (r : List Word) : Bool :=
  let g := fun f => wget r f
  r.getD 3 0 = 0 && getBits (r.getD 0 0) 56 8 = 0 && getBits (r.getD 1 0) 15 17 = 0 && getBits (r.getD 1 0) 53 11 = 0 &&
    getBits (r.getD 2 0) 30 2 = 0 && getBits (r.getD 2 0) 48 16 = 0 &&
    g PNode.PROTO_ID ≠ 0 && decide (g PNode.LEN_MODE < 2) && decide (g PNode.ROLE < 6) &&
    (if g PNode.LEN_MODE = 0 then g PNode.FIXED_LEN ≠ 0 && g PNode.LEN_MIN = 0 && g PNode.LEN_BITS = 0
      else g PNode.FIXED_LEN = 0 && decide (1 ≤ g PNode.LEN_BITS) && decide (g PNode.LEN_BITS ≤ 8)) &&
    decide (g PNode.KEY_BITS ≤ 32) && (g PNode.KEY_BITS ≠ 0 || g PNode.TRANS_COUNT = 0) &&
    decide (g PNode.TRANS_COUNT ≤ 16) && decide (g PNode.FIRST_TRANS + g PNode.TRANS_COUNT ≤ t) &&
    nodeValOk n (g PNode.DEFAULT_NEXT) && decide (g PNode.GUARD_BITS ≤ 16) &&
    nodeValOk n (g PNode.GUARD_NEXT)

/-- R100: the transitions of a node have no VALUE bit at or above its KEY_BITS. -/
def nodeTransOk (g : Graph) (r : List Word) : Bool :=
  ((g.trans.drop (wget r PNode.FIRST_TRANS)).take (wget r PNode.TRANS_COUNT)).all
    (fun w => decide (wget [w] PTrans.VALUE < 2 ^ wget r PNode.KEY_BITS))

/-- R98 to R100: the graph breaks no rule. -/
def Graph.ok (g : Graph) : Bool :=
  decide (1 ≤ g.nodes.length) && decide (g.nodes.length ≤ 1024) && decide (g.trans.length ≤ 8192) &&
    decide (g.start < g.nodes.length) && g.nodes.all (fun r => nodeOk g.nodes.length g.trans.length r && nodeTransOk g r) &&
    g.trans.all (fun w => getBits w 48 16 = 0 && nodeValOk g.nodes.length (wget [w] PTrans.NEXT))

/-! ### The walk (R101 to R105) -/

/-- R101: the field of `w` bits at bit `o` of a byte string. -/
def bitField (bs : List Byte) (o w : Nat) : Nat :=
  let first := o / 8
  let n := (o + w + 7) / 8 - first
  beNat (sliceBytes bs first n) / 2 ^ (8 * (first + n) - o - w) % 2 ^ w

/-- What a parse has found so far. -/
structure Parse where
  off : Nat
  count : Nat
  inner : Bool
  badOuter : Bool
  badInner : Bool
  /-- Offsets: outer L2, L3, L4, tunnel, inner L2, L3, L4, application. -/
  offs : List Nat
  protos : List Nat
  visits : Nat
  deriving DecidableEq, Repr

/-- Nothing parsed. -/
def Parse.init : Parse :=
  { off := 0, count := 0, inner := false, badOuter := false, badInner := false, offs := List.replicate 8 0xFFFF
    protos := List.replicate 8 0, visits := 0 }

/-- R105: record a role at position `i`, if still absent or if `always`. -/
def Parse.mark (p : Parse) (i : Nat) (always : Bool) (proto : Nat) : Parse :=
  if always || p.offs.getD i 0 = 0xFFFF then { p with offs := p.offs.set i p.off, protos := p.protos.set i proto } else p

/-- R105: an accepted header records its role; the first with INNER begins the inner set, each further one begins it anew, without
APP. -/
def Parse.accept (p : Parse) (r : List Word) : Parse :=
  let p := { p with count := p.count + 1 }
  let p := if wget r PNode.INNER = 0 then p
    else if p.inner then
      { p with offs := p.offs.take 4 ++ List.replicate 4 0xFFFF, protos := p.protos.take 4 ++ List.replicate 4 0 }
    else { p with inner := true }
  let proto := wget r PNode.PROTO_ID
  let set := if p.inner then 4 else 0
  match wget r PNode.ROLE with
  | 1 => p.mark set false proto
  | 2 => p.mark (set + 1) false proto
  | 3 => p.mark (set + 2) false proto
  | 4 => p.mark 3 true proto
  | 5 => p.mark 7 false proto
  | _ => p

/-- R102: the checksum flag of the current set. -/
def Parse.sumBad (p : Parse) : Parse := if p.inner then { p with badInner := true } else { p with badOuter := true }

/-- R102: the node value that follows node `r`, whose header begins at `off`, or none when a field it needs lies beyond
the parse end. -/
def nextNode (g : Graph) (r : List Word) (bs : List Byte) (off end_ : Nat) : Option Nat :=
  let beyond := fun o w => decide (8 * end_ < 8 * off + o + w)
  let key := fun (_ : Unit) =>
    if wget r PNode.KEY_BITS = 0 then some (wget r PNode.DEFAULT_NEXT)
    else if beyond (wget r PNode.KEY_OFF) (wget r PNode.KEY_BITS) then none
    else
      let k := bitField bs (8 * off + wget r PNode.KEY_OFF) (wget r PNode.KEY_BITS)
      match ((g.trans.drop (wget r PNode.FIRST_TRANS)).take (wget r PNode.TRANS_COUNT)).find?
          (fun w => wget [w] PTrans.VALUE = k) with
      | some w => some (wget [w] PTrans.NEXT)
      | none => some (wget r PNode.DEFAULT_NEXT)
  if wget r PNode.GUARD_BITS = 0 then key ()
  else if beyond (wget r PNode.GUARD_OFF) (wget r PNode.GUARD_BITS) then none
  else if bitField bs (8 * off + wget r PNode.GUARD_OFF) (wget r PNode.GUARD_BITS) ≠ 0 then some (wget r PNode.GUARD_NEXT)
  else key ()

/-- R102: the walk from node `node`, with at most `fuel` nodes to visit; the result and END_REASON (R104). -/
def walk (g : Graph) (bs : List Byte) (end_ : Nat) : Nat → Nat → Parse → Parse × Nat
  | 0, _, p => (p, 5)
  | fuel + 1, node, p =>
    let r := g.nodes.getD node []
    let p := { p with visits := p.visits + 1 }
    let lenBeyond := wget r PNode.LEN_MODE = 1 &&
      decide (8 * end_ < 8 * p.off + wget r PNode.LEN_OFF + wget r PNode.LEN_BITS)
    let len := if wget r PNode.LEN_MODE = 1 then
        bitField bs (8 * p.off + wget r PNode.LEN_OFF) (wget r PNode.LEN_BITS) * 2 ^ wget r PNode.LEN_SHIFT +
          wget r PNode.LEN_ADD
      else wget r PNode.FIXED_LEN
    if lenBeyond then (p, 2)
    else if wget r PNode.LEN_MODE = 1 && decide (len < wget r PNode.LEN_MIN) then (p, 3)
    else if end_ < p.off + len then (p, 2)
    else if 512 < p.off + len then (p, 4)
    else
      let h := p.accept r
      let h := if wget r PNode.CSUM_CHECK = 1 && fold16 (sum16 (sliceBytes bs p.off len)) ≠ 0xFFFF then h.sumBad else h
      let q := { h with off := p.off + len }
      if wget r PNode.TERMINAL = 1 then (q, 0)
      else match nextNode g r bs p.off end_ with
        | none => (q, 2)
        | some next =>
          if next = 0xFFFF then (q, 0)
          else if next = 0xFFFE then (q, 1)
          else if q.count = 32 then (q, 5)
          else walk g bs end_ fuel next q

/-- R103: the parse end of a packet. -/
def Pkt.parseEnd (p : Pkt) : Nat := if p.fcs then p.data.length - 4 else p.data.length

/-- Metadata field of a packet. -/
def Pkt.mg (p : Pkt) (f : CFld) : Nat := wget p.m f

/-- Set a metadata field of a packet. -/
def Pkt.ms (p : Pkt) (f : CFld) (v : Nat) : Pkt := { p with m := wset p.m f v }

/-- R107: what a packet's source supplied in m0, m1, m2, m6 and m7 stands, where it came from a network port; for any other those
that only a MAC supplies read 0, and reserved bits always do. A recirculated packet keeps its m7[63:16] and m8 to m15. -/
def Pkt.cleared (p : Pkt) : Pkt :=
  let p := { p with m := (p.m.set 0 (putBits (p.m.getD 0 0) 35 13 0)).set 1 (putBits (p.m.getD 1 0) 31 33 0) }
  if p.mg Meta.SRC_KIND = 0 then p
  else { p with m := (((p.m.set 1 (putBits (p.m.getD 1 0) 24 7 0)).set 2 0).set 6 0).set 7 (putBits (p.m.getD 7 0) 0 16 0) }

/-- R107: the metadata the prism writes. -/
def Pkt.parsed (p : Pkt) (r : Parse) (reason : Nat) : Pkt :=
  let p := p.cleared
  let p := (((((((p.ms Meta.PKT_LEN p.data.length).ms Meta.PARSED_LEN r.off).ms Meta.HDR_COUNT r.count).ms
    Meta.END_REASON reason).ms Meta.INNER_PRESENT (if r.inner then 1 else 0)).ms
    Meta.CSUM_BAD_OUTER (if r.badOuter then 1 else 0)).ms Meta.CSUM_BAD_INNER (if r.badInner then 1 else 0)).ms
    Meta.TWO_SLOT (if 16 < r.visits then 1 else 0)
  let w := fun (l : List Nat) => BitVec.ofNat 64 (l.getD 0 0 + l.getD 1 0 * 2 ^ 16 + l.getD 2 0 * 2 ^ 32 + l.getD 3 0 * 2 ^ 48)
  let m5 := BitVec.ofNat 64 ((List.range 8).foldl (fun a i => a + r.protos.getD i 0 * 2 ^ (8 * i)) 0)
  { p with m := ((p.m.set 3 (w (r.offs.take 4))).set 4 (w (r.offs.drop 4))).set 5 m5 }

/-! ### The input FIFO -/

/-- Space in prism `n`'s FIFO. -/
def Dev.prismDepth (d : Dev) (n : Nat) : Nat := (d.prism.fifo.filter (fun x => x.1 = n)).length

/-- FIFO_DEPTH shows the packets waiting. -/
def Dev.syncFifo (d : Dev) (n : Nat) : Dev := d.sk (prismId n) Prism.PRISM_STATUS_FIFO_DEPTH (d.prismDepth n)

/-- PRISM_INPUT, R97: the next packet on its way to prism `n` enters the FIFO. While that is full, or the prism's effective enable
is 0, the next received frame is dropped in IN_DROP, with at most one event per millisecond, and any other packet waits. -/
def prismInput (n : Nat) (d : Dev) : Dev :=
  let u := prismId n
  let open_ := d.takesWork u && decide (d.prismDepth n < 4096)
  let next := fun (x : Nat × Pkt) => x.1 = n && (open_ || x.2.mg Meta.SRC_KIND = 0)
  match d.prism.wire.find? next with
  | none => d
  | some (_, p) =>
    let rest := d.prism.wire.eraseP next
    if open_ then
      ({ d with prism := { d.prism with wire := rest, fifo := d.prism.fifo ++ [(n, p)] } }).syncFifo n
    else
      let d := ({ d with prism := { d.prism with wire := rest } }).bumpk u Prism.IN_DROP
      let ms := d.time / 1000000
      if d.prism.dropAt.contains (n, ms) then d
      else
        let d := { d with prism := { d.prism with dropAt := (n, ms) :: d.prism.dropAt.filter (fun x => x.1 ≠ n) } }
        d.raise u 0x0301 0 (d.gk u Prism.IN_DROP % 2 ^ 32)

/-- PRISM_INPUT. -/
def execPrismInput (n : Nat) (s : State) : Host.Outcome State Fault Refusal := s.run (prismInput n)

/-- R111: the END_ counter of a reason. -/
def endCounter (r : Nat) : Fld :=
  match r with
  | 0 => Prism.END_DONE
  | 1 => Prism.END_UNKNOWN
  | 2 => Prism.END_TRUNC
  | 3 => Prism.END_BADLEN
  | 4 => Prism.END_VFULL
  | _ => Prism.END_DEPTH

/-- PRISM_PARSE, R102, R107, R109: prism `n` takes the packet at the head of its FIFO, parses it, and hands it on or
drops it by PRISM_CFG. A dropped transmit packet completes its job with MALFORMED. -/
def prismParse (n : Nat) (d : Dev) : Dev :=
  let u := prismId n
  match d.prism.graph, d.prism.fifo.find? (fun x => x.1 = n) with
  | some g, some (_, p) =>
    if !d.takesWork u then d
    else
      let d := ({ d with prism := { d.prism with fifo := d.prism.fifo.eraseP (fun x => x.1 = n) } }).syncFifo n
      let (r, reason) := walk g p.data p.parseEnd 33 g.start Parse.init
      let q := { p.parsed r reason with prism := some (p.prism.getD n) }
      let bad := r.badOuter || r.badInner
      let d := (d.bumpk u Prism.PKTS).bumpk u (endCounter reason)
      let d := if 16 < r.visits then d.bumpk u Prism.TWO_PASS else d
      let d := if bad then d.bumpk u Prism.CSUM_BAD else d
      let drop := (reason = 2 && d.gk u Prism.PRISM_CFG_DROP_TRUNC = 1) ||
        (reason = 3 && d.gk u Prism.PRISM_CFG_DROP_BADLEN = 1) || (bad && d.gk u Prism.PRISM_CFG_DROP_CSUM = 1) ||
        (reason = 1 && d.gk u Prism.PRISM_CFG_DROP_UNKNOWN = 1)
      if drop then
        let d := d.bumpk u Prism.MALFORMED_DROP
        match p.job with
        | some (q, i) => d.finishJob q i Sc.malformed p.data.length 0
        | none => d
      else { d with prism := { d.prism with parsed := d.prism.parsed ++ [q] } }
  | _, _ => d

/-- PRISM_PARSE. -/
def execPrismParse (n : Nat) (s : State) : Host.Outcome State Fault Refusal := s.run (prismParse n)

/-- R94: prism that takes frames received on lane `l`. -/
def prismOfLane (l : Nat) : Nat := if l < 8 then 0 else 1

/-- R94: prism that takes packets fetched by the DMA tile of queue `q`. -/
def prismOfQueue (q : Nat) : Nat := if q % 16 < 8 then 2 else 3

end Sys2Proof.Machine
end

