-- ==== Sys2Proof/Machine/RelayFmt.lean ====
section
/-! DEFINITION. Relay frames on the wire and which received frames the relay engine takes (R489 to R492). -/

namespace Sys2Proof.Machine

/-- Word 0 and word 1 of the peer entry of member `m`. -/
def Dev.rlPeer (d : Dev) (m : Nat) : Nat × Nat := d.relay.peers.getD m (0, 0)

/-- This member's MEMBER_ID. -/
def Dev.rlId (d : Dev) : Nat := d.g rootId Root.RELAY_STATUS_MEMBER_ID

/-- RELAY_STATUS.STATE: 0 OUT, 1 JOINING, 2 JOINED, 3 LEAVING. -/
def Dev.rlState (d : Dev) : Nat := d.g rootId Root.RELAY_STATUS_STATE

/-- Offset of the EtherType of a frame with at most one 0x8100 tag. -/
def rlTypeOff (bs : List Byte) : Nat := if beNat (sliceBytes bs 12 2) = 0x8100 then 16 else 12

/-- R491: the relay frame in the bytes behind an Ethernet header, at device time `t`. -/
def rlParse (bs : List Byte) (t : Nat) : RlFrame :=
  let f := fun (o n : Nat) => beNat (sliceBytes bs o n)
  { epoch := f 0 1, typ := f 1 1, src := f 4 2 % 4096, seq := f 8 4, ack := f 12 4, opSeq := f 16 4, opId := f 20 2
    payload := sliceBytes bs 32 (min 256 (f 22 2)), sent := f 24 8, at_ := t }

/-- R492: the listed types. -/
def rlTypes : List Nat := [0x01, 0x02, 0x03, 0x04, 0x05, 0x06, 0x10, 0x11, 0x20, 0x21, 0x30, 0x31, 0x40, 0x41, 0x50]

/-- R490: a good frame that the relay engine takes: its EtherType, the own MAC, DOMAIN_ID and MEMBER_ID. -/
def Dev.rlTakes (d : Dev) (bs : List Byte) : Bool :=
  let o := rlTypeOff bs
  d.rlState ≠ 0 && beNat (sliceBytes bs o 2) = 0x88B5 && beNat (sliceBytes bs 0 6) = (d.rlPeer d.rlId).1 % 2 ^ 48 &&
    beNat (sliceBytes bs (o + 4) 2) = d.g rootId Root.RELAY_STATUS_DOMAIN_ID &&
    beNat (sliceBytes bs (o + 8) 2) % 4096 = d.rlId

/-- R490, R492: the relay engine takes a frame, or discards it as stale. -/
def Dev.rlTake (d : Dev) (bs : List Byte) : Dev :=
  let x := rlParse (bs.drop (rlTypeOff bs + 2)) d.time
  let d := d.bump Root.RELAY_RX
  if 2 < x.epoch || !rlTypes.contains x.typ then d.bump Root.RELAY_STALE_DROP
  else { d with relay := { d.relay with rx := d.relay.rx ++ [x] } }

/-- R489, R491: the bytes of a relay frame of this member, without FCS, padded to 64 bytes on the wire. -/
def Dev.rlBytes (d : Dev) (dst typ seq ack opSeq opId now : Nat) (payload : List Byte) : List Byte :=
  let p := d.rlPeer dst
  let tag := if p.1 / 2 ^ 60 % 2 = 1 then beBytes 2 0x8100 ++ beBytes 2 (p.2 / 16 % 8 * 2 ^ 13 + p.1 / 2 ^ 48 % 4096) else []
  let head := beBytes 1 (d.g rootId Root.RELAY_STATUS_EPOCH) ++ beBytes 1 typ ++
    beBytes 2 (d.g rootId Root.RELAY_STATUS_DOMAIN_ID) ++ beBytes 2 d.rlId ++ beBytes 2 dst ++ beBytes 4 seq ++ beBytes 4 ack ++
    beBytes 4 opSeq ++ beBytes 2 opId ++ beBytes 2 payload.length ++ beBytes 8 now
  let bs := beBytes 6 (p.1 % 2 ^ 48) ++ beBytes 6 ((d.rlPeer d.rlId).1 % 2 ^ 48) ++ tag ++ beBytes 2 0x88B5 ++ head ++ payload
  bs ++ List.replicate (60 - bs.length) 0

end Sys2Proof.Machine
end

