-- ==== Sys2Proof/Machine/Mac.lean ====
section
/-! DEFINITION. Network ports: links, received frames, pause and PFC, preemption, transmission of a frame, timestamps and
the PTP timebase (R67 to R93, R576). -/

namespace Sys2Proof.Machine

/-- State of the MAC of lane `l`. -/
def Dev.mac (d : Dev) (l : Nat) : MacSt := d.macs.getD l MacSt.init

/-- Change the state of the MAC of lane `l`. -/
def Dev.setMac (d : Dev) (l : Nat) (f : MacSt → MacSt) : Dev := { d with macs := updAt d.macs l f }

/-- Field of the MAC block of lane `l`. -/
def Dev.mf (d : Dev) (l : Nat) (f : Fld) : Nat := d.gk (macId l) f

/-- Set a field of the MAC block of lane `l`. -/
def Dev.setMf (d : Dev) (l : Nat) (f : Fld) (v : Nat) : Dev := d.sk (macId l) f v

/-- A counter of the MAC block of lane `l` rises by `n`. -/
def Dev.macAdd (d : Dev) (l : Nat) (f : Fld) (n : Nat) : Dev := d.addk (macId l) f n

/-- R73: lane `l` is the first lane of a port. -/
def Dev.isPort (d : Dev) (l : Nat) : Bool := decide (l < 16) && d.mf l Mac.PORT_CFG_WIDTH ≠ 0

/-- Lanes of the port with first lane `l`. -/
def Dev.portLanes (d : Dev) (l : Nat) : List Nat := (List.range (d.mf l Mac.PORT_CFG_WIDTH)).map (· + l)

/-- First lane of the port that lane `l` belongs to. -/
def Dev.firstLane (d : Dev) (l : Nat) : Nat := d.mf l Mac.PORT_CFG_FIRST_LANE

/-! ### What a link and its pause frames depend on (R74, R82, R576) -/

/-- R74: PORT_STATUS.LINK_UP as its conditions stand. -/
def Dev.linkOk (d : Dev) (l : Nat) : Bool :=
  d.mf l Mac.PORT_STATUS_PCS_LOCK = 1 && d.mf l Mac.PORT_STATUS_AM_LOCK = 1 && d.mf l Mac.PORT_STATUS_FEC_ALIGN = 1 &&
    d.mf l Mac.PORT_STATUS_LOCAL_FAULT = 0 &&
    !(d.mf l Mac.PORT_STATUS_HI_SER = 1 && d.mf l Mac.PORT_CFG_HISER_DOWN = 1) &&
    d.ust (macId l) ≠ stOff && d.ust (macId l) ≠ stReset

/-- R576: TRAIN_STATE when a bring-up starts: 0 until every lane has a signal, else 1 or 2 by AN_EN. -/
def Dev.trainStart (d : Dev) (l : Nat) : Nat :=
  if (d.portLanes l).all (fun m => d.mf m Mac.LANE_STATUS_SIGNAL_DETECT = 1) then
    (if d.mf l Mac.PORT_CFG_AN_EN = 1 then 1 else 2)
  else 0

/-- R82, R83: bits of the classes the MAC holds in XOFF; in MODE 1 all move together. -/
def Dev.xoffMask (d : Dev) (l : Nat) : Nat :=
  let m := Nat.lor (d.mac l).swXoff (d.mf l Mac.PAUSE_CFG_FORCE_XOFF)
  if d.mf l Mac.PAUSE_CFG_MODE = 0 then 0
  else if d.mf l Mac.PAUSE_CFG_MODE = 1 then (if m ≠ 0 then 0xFF else 0)
  else m % 256

/-- R82: PCP_CLASS of PCP `p`. -/
def Dev.pcpClass (d : Dev) (l p : Nat) : Nat := d.mf l Mac.CLASS_MAP_PCP_CLASS / 2 ^ (3 * p) % 8

/-- R83: vector of the PCPs that map to a class of `mask`. -/
def Dev.pcpVector (d : Dev) (l mask : Nat) : Nat :=
  (List.range 8).foldl (fun a p => if mask / 2 ^ d.pcpClass l p % 2 = 1 then a + 2 ^ p else a) 0

/-! ### Timestamps and the timebase (R89 to R92) -/

/-- Nanoseconds of one second with 32 fraction bits. -/
def secUnits : Nat := 1000000000 * 2 ^ 32

/-- R89: the timebase moved by a signed amount in units of 2^-32 ns, wrapping its 48-bit seconds. -/
def TbSt.move (t : TbSt) (x : Int) : TbSt :=
  let v := ((t.sec * secUnits + t.ns : Nat) : Int) + x
  let m := (v % ((2 ^ 48 * secUnits : Nat) : Int)).toNat
  { t with sec := m / secUnits, ns := m % secUnits }

/-- A 32-bit or 64-bit value read as signed. -/
def signed (w v : Nat) : Int := if v < 2 ^ (w - 1) then v else (v : Int) - (2 ^ w : Nat)

/-- R90: a timestamp: the timebase plus a correction in units of 2^-16 ns; seconds and nanoseconds. -/
def Dev.stamp (d : Dev) (corr : Nat) : Nat × Nat :=
  let t := d.tb.move (signed 32 corr * 65536)
  (t.sec, t.ns / 2 ^ 32)

/-- TIMEBASE_TICK, R89: the timebase applies a pending set, which also starts it again, or adds TB_INCR, and applies a pending
adjust. One that stands reads 0, whatever adjust is pending, until it is set. -/
def TbSt.tick (t : TbSt) (incr : Nat) : TbSt :=
  let u := match t.set with
    | some (s, n) => { t with sec := s, ns := n * 2 ^ 32, set := none, stopped := false }
    | none => if t.stopped then t else t.move incr
  match u.adj with
  | some a => if u.stopped then { u with adj := none } else { u.move (a * 2 ^ 32) with adj := none }
  | none => u

/-- TB_ADJ, R89: a signed number of nanoseconds is added at the next tick. -/
def tbAdj (v : Word) (d : Dev) : Dev := { d with tb := { d.tb with adj := some v.toInt } }

/-- TB_ADJ. -/
def execTbAdj (v : Word) (s : State) : Host.Outcome State Fault Refusal := s.run (tbAdj v)

/-- TB_SET_NS, R89: TB_SET_SEC and the value are loaded at the next tick; 10^9 or more is not loaded. -/
def tbSetNs (v : Nat) (d : Dev) : Dev :=
  if 1000000000 ≤ v then d else { d with tb := { d.tb with set := some (d.mf 0 Mac.TB_SET_SEC_SEC, v) } }

/-- TB_SET_NS. -/
def execTbSetNs (v : Nat) (s : State) : Host.Outcome State Fault Refusal := s.run (tbSetNs v)

/-- TB_CAPTURE, R89. -/
def tbCapture (d : Dev) : Dev :=
  (d.setMf 0 Mac.TB_SNAP_NS_NS (d.tb.ns / 2 ^ 32)).setMf 0 Mac.TB_SNAP_SEC_SEC d.tb.sec

/-- TB_CAPTURE. -/
def execTbCapture (s : State) : Host.Outcome State Fault Refusal := s.run tbCapture

/-- R91: TX_TS_A shows the oldest entry of the FIFO. -/
def Dev.syncTs (d : Dev) (l : Nat) : Dev :=
  let (ns, tag, o, v) := match (d.mac l).tsFifo with
    | (ns, tag, o, _) :: _ => (ns, tag, if o then 1 else 0, 1)
    | [] => (0, 0, 0, 0)
  (((d.setMf l Mac.TX_TS_A_NS ns).setMf l Mac.TX_TS_A_TAG tag).setMf l Mac.TX_TS_A_OVERFLOW o).setMf l Mac.TX_TS_A_VALID v

/-- TX_TIMESTAMP, R91: a sent frame's timestamp enters the FIFO, or is discarded. -/
def Dev.txStamp (d : Dev) (l tag : Nat) : Dev :=
  let f := (d.mac l).tsFifo
  if 64 ≤ f.length then (d.macAdd l Mac.TS_OVERFLOW 1).setMac l (fun (m : MacSt) => { m with tsLost := true })
  else
    let (s, n) := d.stamp (d.mf l Mac.TS_CORR_TX_CORR)
    let d := (d.setMac l (fun (m : MacSt) => { m with tsFifo := f ++ [(n, tag, m.tsLost, s)], tsLost := false })).syncTs l
    if f.isEmpty then d.raise (macId l) 0x0204 0 0 else d

/-- TX_TS_READ, R91: a read of TX_TS_A with VALID removes the oldest entry and copies its seconds to TX_TS_B. -/
def txTsRead (l : Nat) (d : Dev) : Dev :=
  let d := d.emit (.readData (d.cell (macId l) Mac.TX_TS_A_NS.kind.off))
  match (d.mac l).tsFifo with
  | [] => d
  | (_, _, _, s) :: rest =>
    ((d.setMac l (fun (m : MacSt) => { m with tsFifo := rest })).setMf l Mac.TX_TS_B_SEC s).syncTs l

/-- TX_TS_READ. -/
def execTxTsRead (l : Nat) (s : State) : Host.Outcome State Fault Refusal := s.run (txTsRead l)

/-! ### Received frames (R76 to R81, R86) -/

/-- The FCS of a frame's bytes, as sent. -/
def fcsOf (bs : List Byte) : List Byte := leBytes 4 (Nat.xor (crcR poly32 0xFFFFFFFF bs) 0xFFFFFFFF)

/-- R79: the last 4 bytes are the FCS of the rest. -/
def fcsOk (bs : List Byte) : Bool := bs.drop (bs.length - 4) = fcsOf (bs.take (bs.length - 4))

/-- Big-endian 16-bit value at byte `o`. -/
def be16 (bs : List Byte) (o : Nat) : Nat := beNat (sliceBytes bs o 2)

/-- R76: number of recognised tags of a frame of `n` bytes. -/
def Dev.tags (d : Dev) (l : Nat) (bs : List Byte) : Nat :=
  let t := be16 bs 12
  if bs.length < 16 || !(t = d.mf l Mac.TAG_CFG_TPID_OUTER || t = d.mf l Mac.TAG_CFG_TPID_INNER) then 0
  else if 20 ≤ bs.length && be16 bs 16 = d.mf l Mac.TAG_CFG_TPID_INNER then 2
  else 1

/-- R76: class of a received frame. -/
def Dev.rxClass (d : Dev) (l : Nat) (bs : List Byte) : Nat :=
  if d.tags l bs = 0 then d.mf l Mac.CLASS_MAP_UNTAGGED_CLASS else d.pcpClass l (be16 bs 14 / 2 ^ 13)

/-- R79: whether a frame is a fragment, and its flags: FCS 1, CODE 2, OVERSIZE 4, RUNT 8, TRUNC 16. -/
def rxFlags (bs : List Byte) (code : Bool) (max : Nat) : Bool × Nat :=
  let bad := if fcsOk bs then 0 else 1
  if bs.length < 14 then (true, 0)
  else if bs.length < 64 then (false, 8 + bad)
  else (false, bad + (if code then 2 else 0) + (if max < bs.length then 20 else 0))

/-- R81, R82: a good MAC control frame loads or releases pause timers; the device and whether it was acted on. Of two PCPs of one
class the higher decides (assumption 121). -/
def Dev.macControl (d : Dev) (l : Nat) (bs : List Byte) : Dev × Bool :=
  let op := be16 bs 14
  let mode := d.mf l Mac.PAUSE_CFG_MODE
  let obey := d.mf l Mac.PAUSE_CFG_RX_OBEY = 1
  let load := fun (d : Dev) (c q : Nat) =>
    let d := d.setMac l (fun (m : MacSt) => { m with timers := m.timers.set c q })
    let p := d.mf l Mac.PAUSE_CFG_RX_PAUSED
    d.setMf l Mac.PAUSE_CFG_RX_PAUSED (if q = 0 then Nat.land p (255 - 2 ^ c) else Nat.lor p (2 ^ c))
  if op = 1 && mode = 1 && obey && beNat (bs.take 6) = 0x0180C2000001 then
    (((List.range 8).foldl (fun d c => load d c (be16 bs 16)) d).macAdd l Mac.RX_PAUSE 1, true)
  else if op = 0x0101 && mode = 2 && obey then
    let v := be16 bs 16
    (((List.range 8).foldl (fun (d : Dev) p =>
      if v / 2 ^ p % 2 = 1 then load d (d.pcpClass l p) (be16 bs (18 + 2 * p)) else d) d).macAdd l Mac.RX_PFC 1, true)
  else (d.macAdd l Mac.RX_CTRL_ERR 1, false)

/-- R90: the receive timestamp of a frame whose first bit crosses the balls of port `l` now. -/
def Dev.rxStamp (d : Dev) (l : Nat) : Nat × Nat := d.stamp (d.mf l Mac.TS_CORR_RX_CORR)

/-- R77, R80, R90, R107: the packet a received frame becomes: stripped unless flagged, its FCS kept when flagged or under
RX_FCS_KEEP, with source, class, flags, tags and timestamp `at_` in its metadata. -/
def Dev.rxPacket (d : Dev) (l : Nat) (bs : List Byte) (flags : Nat) (at_ : Nat × Nat) : Pkt :=
  let keep := flags ≠ 0 || d.mf l Mac.MAC_CFG_RX_FCS_KEEP = 1
  let n := if flags ≠ 0 then 0 else min (d.tags l bs) (d.mf l Mac.TAG_CFG_RX_STRIP)
  let cut := if Nat.land flags 16 ≠ 0 then bs.take (d.mf l Mac.MAC_CFG_MAX_FRAME) else bs
  let body := if keep then cut else cut.take (cut.length - 4)
  let data := body.take 12 ++ body.drop (12 + 4 * n)
  let (s, ns) := if d.mf l Mac.TS_CFG_RX_TS_EN = 1 then at_ else (0, 0)
  let p : Pkt := { data := data, m := List.replicate 16 0, poison := false, fcs := keep, prism := none, job := none }
  let p := (((p.ms Meta.SRC_ID l).ms Meta.CLASS (d.rxClass l bs)).ms Meta.RX_ERR flags).ms Meta.TAGS_STRIPPED n
  let p := if 1 ≤ n then (p.ms Meta.TCI_0 (be16 bs 14)).ms Meta.TPID_0 (be16 bs 12) else p
  let p := if 2 ≤ n then (p.ms Meta.TCI_1 (be16 bs 18)).ms Meta.TPID_1 (be16 bs 16) else p
  ((p.ms Meta.TS_NS ns).ms Meta.TS_SEC_LO (s % 2 ^ 32)).ms Meta.TS_SEC_HI (s / 2 ^ 32)

/-- A packet goes to a prism. -/
def Dev.toPrism (d : Dev) (n : Nat) (p : Pkt) : Dev :=
  ({ d with prism := { d.prism with wire := d.prism.wire ++ [(n, p)] } }).wakeUnit (prismId n)

/-- R74, R79 to R81, R490: a whole received frame, its first bit timed at `at_`, is sorted, counted, acted on, taken by the relay
engine, and delivered or dropped. -/
def Dev.rxFrame (d : Dev) (l : Nat) (bs : List Byte) (code : Bool) (at_ : Nat × Nat) : Dev :=
  let (frag, flags) := rxFlags bs code (d.mf l Mac.MAC_CFG_MAX_FRAME)
  if frag then d.macAdd l Mac.RX_FRAGMENT 1
  else
    let on := d.effEnable (macId l)
    let ctrl := be16 bs 12 = 0x8808
    let d := if flags % 2 = 1 then d.macAdd l Mac.RX_FCS_ERR 1 else d
    let d := if Nat.land flags 2 ≠ 0 then d.macAdd l Mac.RX_CODE_ERR 1 else d
    let d := if Nat.land flags 4 ≠ 0 then d.macAdd l Mac.RX_OVERSIZE 1 else d
    let d := if Nat.land flags 8 ≠ 0 then d.macAdd l Mac.RX_RUNT 1 else d
    let deliver := fun (d : Dev) => d.toPrism (prismOfLane l) (d.rxPacket l bs flags at_)
    if flags ≠ 0 then
      if ctrl then d.macAdd l Mac.RX_CTRL_ERR 1
      else if d.mf l Mac.RX_ERR_CFG_TAP_MASK / 2 ^ d.rxClass l bs % 2 = 0 then d.macAdd l Mac.RX_BAD_DROPPED 1
      else if !on then d.macAdd l Mac.RX_DISABLED_DROP 1
      else deliver (d.macAdd l Mac.RX_BAD_DELIVERED 1)
    else
      let d := (d.macAdd l Mac.RX_FRAMES_OK 1).macAdd l Mac.RX_BYTES_OK bs.length
      if ctrl then
        let (d, _) := d.macControl l bs
        if on && d.mf l Mac.MAC_CFG_PASS_CTRL = 1 then deliver d else d
      else if !on then d.macAdd l Mac.RX_DISABLED_DROP 1
      else if d.rlTakes bs then d.rlTake (bs.take (bs.length - 4))
      else deliver d

/-- R72, R93: FEC counters of codewords with the given numbers of symbol errors; whether a block was marked an error. -/
def Dev.fecCount (d : Dev) (l : Nat) (syms : List Nat) : Dev × Bool :=
  let only := d.mf l Mac.PORT_CFG_FEC_MODE = 1
  let d := syms.foldl (fun (d : Dev) k =>
    let d := if k < 16 then d.macAdd l (Mac.FEC_BIN k) 1 else d
    if k = 0 then d
    else if 16 ≤ k || only then d.macAdd l Mac.FEC_UNCORRECTED 1
    else (d.macAdd l Mac.FEC_CORRECTED 1).macAdd l Mac.FEC_SYMBOLS k) d
  (d, syms.any (fun k => 16 ≤ k || (only && k ≠ 0)))

/-- An open preemptable frame is discarded (R86). -/
def Dev.assyErr (d : Dev) (l : Nat) : Dev :=
  (d.macAdd l Mac.RX_ASSY_ERR 1).setMac l (fun (m : MacSt) => { m with rxOpen := none })

/-- R79, R84 to R86, R90: bytes behind a start code reach the receiver: 0 the normal SFD, 1 the start of a preemptable frame, 2 a
continuation with fragment count `cnt`. A preemptable frame is checked whole, with the error marks of all its fragments, and is
timed by its first one. -/
def Dev.frameIn (d : Dev) (l smd cnt : Nat) (bs : List Byte) (more mcrc code : Bool) : Dev :=
  if smd = 0 then d.rxFrame l bs code (d.rxStamp l)
  else if d.mf l Mac.PREEMPT_CFG_EN = 0 then d.macAdd l Mac.RX_ASSY_ERR 1
  else if smd = 1 then
    let d := if (d.mac l).rxOpen.isSome then d.assyErr l else d
    if !more then d.rxFrame l bs code (d.rxStamp l)
    else if !mcrc then d.assyErr l
    else d.setMac l (fun (m : MacSt) => { m with rxOpen := some { next := 0, bytes := bs, code := code, stamp := d.rxStamp l } })
  else match (d.mac l).rxOpen with
    | none => d.macAdd l Mac.RX_ASSY_ERR 1
    | some a =>
      let all := a.bytes ++ bs
      let bad := a.code || code
      if cnt ≠ a.next || (more && !mcrc) then d.assyErr l
      else if more then d.setMac l (fun (m : MacSt) => { m with
        rxOpen := some { a with next := (a.next + 1) % 4, bytes := all, code := bad } })
      else (d.setMac l (fun (m : MacSt) => { m with rxOpen := none })).rxFrame l all bad a.stamp

/-- R84: a response mPacket ends verification. -/
def Dev.verified (d : Dev) (l : Nat) : Dev :=
  if d.mf l Mac.PREEMPT_CFG_EN = 0 then d.macAdd l Mac.RX_ASSY_ERR 1
  else if d.mf l Mac.PREEMPT_STATUS_VERIFY_STATE = 2 then
    (d.setMf l Mac.PREEMPT_STATUS_VERIFY_STATE 3).setMf l Mac.PREEMPT_STATUS_ACTIVE 1
  else d

/-! ### What a port sends, and loopback (R74) -/

/-- Bytes as a receiver meets them that were sent with `errs` error blocks before their last 4. -/
def withErrs (bs : List Byte) (errs : Nat) : List Byte :=
  bs.take (bs.length - 4) ++ List.replicate errs 0 ++ bs.drop (bs.length - 4)

/-- Bytes of a pause or PFC frame (R81, R83), its FCS among them. Its source address, which the spec does not give, is `sa`. -/
def pauseBytes (isPfc : Bool) (classes : Nat) (times : List Nat) (sa : Word) : List Byte :=
  let b := beBytes 6 0x0180C2000001 ++ beBytes 6 sa.toNat ++ beBytes 2 0x8808 ++
    (if isPfc then beBytes 2 0x0101 ++ beBytes 2 classes else beBytes 2 1) ++ times.flatMap (fun t => beBytes 2 t)
  let b := b ++ List.replicate (60 - b.length) 0
  b ++ fcsOf b

/-- R74, LOOPBACK 1: what the port sends reaches its own receiver. -/
def Dev.loopIn (d : Dev) (l : Nat) (o : Out) : Dev :=
  match o with
  | .frame _ bs good errs => d.frameIn l 0 0 (withErrs bs errs) false true !good
  | .mframe _ start cnt bs last good errs =>
    d.frameIn l (if start then 1 else 2) cnt (if last then withErrs bs errs else bs.take (bs.length - 4)) (!last) true !good
  | .pfc _ isPfc classes times => d.used.frameIn l 0 0 (pauseBytes isPfc classes times d.freeVal) false true false
  | .mpacket _ _ => d.verified l
  | _ => d

/-- R74: frames and mPackets of port `l` go to the line; to its own receiver under LOOPBACK 1; and nowhere under LOOPBACK 2, where
the line carries what the port receives (assumption 123). -/
def Dev.lineOut (d : Dev) (l : Nat) (o : Out) : Dev :=
  if d.mf l Mac.PORT_CFG_LOOPBACK = 0 then d.emit o
  else if d.mf l Mac.PORT_CFG_LOOPBACK = 1 then d.loopIn l o
  else d

/-- R74: the port may send frames other than MAC control frames: its link is up, no remote fault, its MAC takes work. -/
def Dev.portSends (d : Dev) (l : Nat) : Bool :=
  d.mf l Mac.PORT_STATUS_LINK_UP = 1 && d.mf l Mac.PORT_STATUS_REMOTE_FAULT = 0 && d.takesWork (macId l)

/-! ### Pause and PFC frames sent (R83) -/

/-- R83: a pause or PFC frame leaves: the classes of `on` are told TX_QUANTA and the PCPs of no such class that map to a class of
`left` are told 0. -/
def Dev.sendPause (d : Dev) (l on left : Nat) : Dev :=
  let q := d.mf l Mac.PAUSE_CFG_TX_QUANTA
  let v := d.pcpVector l on
  let o := if d.mf l Mac.PAUSE_CFG_MODE = 2 then
      Out.pfc l true (d.pcpVector l (Nat.lor on left)) ((List.range 8).map (fun p => if v / 2 ^ p % 2 = 1 then q else 0))
    else .pfc l false 0 [if on = 0 then 0 else q]
  (((d.lineOut l o).macAdd l Mac.TX_PAUSE 1).macAdd l Mac.TX_FRAMES_OK 1).macAdd l Mac.TX_BYTES_OK 64

/-- R74, R83: the frame that is due leaves at a frame boundary, unless the port must send idles. -/
def Dev.pauseFlush (d : Dev) (l : Nat) : Dev :=
  match (d.mac l).due with
  | none => d
  | some (entered, left) =>
    if d.mf l Mac.PORT_STATUS_REMOTE_FAULT = 1 then d
    else (d.setMac l (fun (m : MacSt) => { m with due := none })).sendPause l
      (if entered then d.mf l Mac.PAUSE_CFG_XOFF_ACTIVE else 0) left

/-- R83: a pause or PFC frame becomes due: changes within one frame time merge. It leaves at once where no frame is in
progress. -/
def Dev.pauseDue (d : Dev) (l : Nat) (entered : Bool) (left : Nat) : Dev :=
  if d.mf l Mac.PORT_STATUS_LINK_UP = 0 || d.mf l Mac.PAUSE_CFG_TX_EN = 0 || d.mf l Mac.PAUSE_CFG_MODE = 0 then d
  else
    let d := d.setMac l (fun (m : MacSt) => { m with due := match m.due with
      | some (e, x) => some (e || entered, Nat.lor x left)
      | none => some (entered, left) })
    if (d.mac l).tx.isNone then d.pauseFlush l else d

/-- R83: XOFF_ACTIVE follows the XOFF state; classes that enter are to be told TX_QUANTA, classes that leave 0. -/
def Dev.syncXoff (d : Dev) (l : Nat) : Dev :=
  let old := d.mf l Mac.PAUSE_CFG_XOFF_ACTIVE
  let new := d.xoffMask l
  if old = new then d
  else (d.setMf l Mac.PAUSE_CFG_XOFF_ACTIVE new).pauseDue l (decide (Nat.land new (255 - old) ≠ 0)) (Nat.land old (255 - new))

/-- R82: a change of PAUSE_CFG.MODE clears every receive pause timer and ends every XOFF without sending XON. XOFF states that hold
on are then those of the new MODE. -/
def Dev.pauseMode (d : Dev) (l : Nat) : Dev :=
  let d := d.setMac l (fun (m : MacSt) => { m with timers := List.replicate 8 0, due := none })
  ((d.setMf l Mac.PAUSE_CFG_RX_PAUSED 0).setMf l Mac.PAUSE_CFG_XOFF_ACTIVE 0).syncXoff l

/-! ### Link state (R74, R75, R576) -/

/-- PREEMPT_VERIFY_START, R84: verification begins when EN is 1 and the link is up, or is skipped by VERIFY_DIS. -/
def Dev.verifyStart (d : Dev) (l : Nat) : Dev :=
  if d.mf l Mac.PREEMPT_CFG_EN = 0 then (d.setMf l Mac.PREEMPT_STATUS_VERIFY_STATE 0).setMf l Mac.PREEMPT_STATUS_ACTIVE 0
  else if d.mf l Mac.PREEMPT_CFG_VERIFY_DIS = 1 then
    (d.setMf l Mac.PREEMPT_STATUS_VERIFY_STATE 0).setMf l Mac.PREEMPT_STATUS_ACTIVE (d.mf l Mac.PORT_STATUS_LINK_UP)
  else if d.mf l Mac.PORT_STATUS_LINK_UP = 0 then
    (d.setMf l Mac.PREEMPT_STATUS_VERIFY_STATE 1).setMf l Mac.PREEMPT_STATUS_ACTIVE 0
  else
    (((d.setMf l Mac.PREEMPT_STATUS_VERIFY_STATE 2).setMf l Mac.PREEMPT_STATUS_ACTIVE 0).setMac l
      (fun (m : MacSt) => { m with tries := 1 })).lineOut l (.mpacket l false)

/-- The link-change event of a port. -/
def Dev.linkEvent (d : Dev) (l : Nat) : Dev :=
  (d.setMf l Mac.PORT_STATUS_LINK_CHANGED 1).raise (macId l) 0x0201 0
    (d.mf l Mac.PORT_STATUS_LINK_UP + d.mf l Mac.PORT_STATUS_TRAIN_STATE * 2 ^ 8)

/-- R75: LINK_UP falls. -/
def Dev.linkFall (d : Dev) (l : Nat) : Dev :=
  let lost := (if (d.mac l).tx.isSome then 1 else 0) + (if (d.mac l).held.isSome then 1 else 0)
  let d := if lost = 0 then d else d.macAdd l Mac.TX_LINK_DOWN_DROP lost
  let d := if (d.mac l).rxOpen.isSome then d.macAdd l Mac.RX_ASSY_ERR 1 else d
  let d := d.setMac l (fun (m : MacSt) => { m with
    timers := List.replicate 8 0, tx := none, held := none, rxOpen := none, tries := 0, due := none })
  let d := ((d.setMf l Mac.PAUSE_CFG_RX_PAUSED 0).setMf l Mac.PORT_STATUS_LINK_UP 0).setMf l Mac.PORT_STATUS_TRAIN_STATE 0
  let d := (d.linkEvent l).verifyStart l
  d.setMf l Mac.PORT_STATUS_TRAIN_STATE (d.trainStart l)

/-- R75, R576: LINK_UP rises; the MAC first sends the XOFF state then active, with time 0 where none is (assumption 120). -/
def Dev.linkRise (d : Dev) (l : Nat) : Dev :=
  let d := ((d.setMf l Mac.PORT_STATUS_LINK_UP 1).setMf l Mac.PORT_STATUS_TRAIN_STATE 3).linkEvent l
  let m := d.xoffMask l
  let d := d.setMf l Mac.PAUSE_CFG_XOFF_ACTIVE m
  (d.pauseDue l true 0).verifyStart l

/-- R72: the port sends remote fault while HI_SER acts by HISER_DOWN and its transmitters are on. -/
def Dev.syncFault (d : Dev) (l : Nat) : Dev :=
  let on := d.mf l Mac.PORT_STATUS_HI_SER = 1 && d.mf l Mac.PORT_CFG_HISER_DOWN = 1 && d.ust (macId l) ≠ stOff &&
    d.ust (macId l) ≠ stReset
  if (d.mac l).rf = on then d
  else (d.setMac l (fun (m : MacSt) => { m with rf := on })).emit (.remoteFault l on)

/-- R72, R74: remote fault sent and LINK_UP follow their conditions. -/
def Dev.evalLink (d : Dev) (l : Nat) : Dev :=
  let d := d.syncFault l
  let up := d.mf l Mac.PORT_STATUS_LINK_UP = 1
  if d.linkOk l && !up then d.linkRise l else if !d.linkOk l && up then d.linkFall l else d

/-- The lock and alignment flags of a port. -/
def Dev.setLock (d : Dev) (l v : Nat) : Dev :=
  ((d.setMf l Mac.PORT_STATUS_PCS_LOCK v).setMf l Mac.PORT_STATUS_AM_LOCK v).setMf l Mac.PORT_STATUS_FEC_ALIGN v

/-- LINK_UP, R74, R576: a port that brings its link up reaches the next stage: auto-negotiation is over and link training begins;
or, from TRAIN_STATE 2, the receivers have locked, and lock, alignment and FEC alignment hold (assumption 124). -/
def linkUp (l : Nat) (d : Dev) : Dev :=
  if !d.isPort l then d
  else if d.mf l Mac.PORT_STATUS_TRAIN_STATE = 1 then d.setMf l Mac.PORT_STATUS_TRAIN_STATE 2
  else if d.mf l Mac.PORT_STATUS_TRAIN_STATE = 2 then
    (((d.portLanes l).foldl (fun (d : Dev) m => d.setMf m Mac.LANE_STATUS_CDR_LOCK 1) d).setLock l 1).evalLink l
  else d

/-- LINK_UP. -/
def execLinkUp (l : Nat) (s : State) : Host.Outcome State Fault Refusal := s.run (linkUp l)

/-- LINK_DOWN, R75: alignment has been lost for LINK_DOWN_HOLD. -/
def linkDown (l : Nat) (d : Dev) : Dev := if d.isPort l then (d.setLock l 0).evalLink l else d

/-- LINK_DOWN. -/
def execLinkDown (l : Nat) (s : State) : Host.Outcome State Fault Refusal := s.run (linkDown l)

/-- TRAIN_FAIL, R576. -/
def trainFail (l : Nat) (d : Dev) : Dev :=
  if d.isPort l && (d.mf l Mac.PORT_STATUS_TRAIN_STATE = 1 || d.mf l Mac.PORT_STATUS_TRAIN_STATE = 2) then
    d.setMf l Mac.PORT_STATUS_TRAIN_STATE 4
  else d

/-- TRAIN_FAIL. -/
def execTrainFail (l : Nat) (s : State) : Host.Outcome State Fault Refusal := s.run (trainFail l)

/-- TRAIN_RETRY, R576. -/
def trainRetry (l : Nat) (d : Dev) : Dev :=
  if d.isPort l && d.mf l Mac.PORT_STATUS_TRAIN_STATE = 4 then d.setMf l Mac.PORT_STATUS_TRAIN_STATE (d.trainStart l)
  else d

/-- TRAIN_RETRY. -/
def execTrainRetry (l : Nat) (s : State) : Host.Outcome State Fault Refusal := s.run (trainRetry l)

/-- SIGNAL_DETECT_CHANGE, R568, R576: SIGNAL_DETECT of one lane; a fall also ends CDR_LOCK. A port leaves TRAIN_STATE 0
once every lane has a signal, and returns to it when a lane loses its signal before the link is up. -/
def signalDetectChange (l : Nat) (on : Bool) (d : Dev) : Dev :=
  let d := d.setMf l Mac.LANE_STATUS_SIGNAL_DETECT (if on then 1 else 0)
  let d := if on then d else d.setMf l Mac.LANE_STATUS_CDR_LOCK 0
  let p := d.firstLane l
  let t := d.mf p Mac.PORT_STATUS_TRAIN_STATE
  if !d.isPort p || d.ust (macId p) = stOff || d.ust (macId p) = stReset then d
  else if t = 0 || ((t = 1 || t = 2) && !on) then d.setMf p Mac.PORT_STATUS_TRAIN_STATE (d.trainStart p)
  else d

/-- SIGNAL_DETECT_CHANGE. -/
def execSignalDetectChange (l : Nat) (on : Bool) (s : State) : Host.Outcome State Fault Refusal :=
  s.run (signalDetectChange l on)

/-- LINK_FAULT_CHANGE, R72, R74: HI_SER, LOCAL_FAULT and REMOTE_FAULT take new values. A pause frame that remote fault held back
leaves once it is over. -/
def linkFaultChange (l : Nat) (hiSer loc rem : Bool) (d : Dev) : Dev :=
  if !d.isPort l then d
  else
    let d := (((d.setMf l Mac.PORT_STATUS_HI_SER (if hiSer then 1 else 0)).setMf l Mac.PORT_STATUS_LOCAL_FAULT
      (if loc then 1 else 0)).setMf l Mac.PORT_STATUS_REMOTE_FAULT (if rem then 1 else 0)).evalLink l
    if (d.mac l).tx.isNone then d.pauseFlush l else d

/-- LINK_FAULT_CHANGE. -/
def execLinkFaultChange (l : Nat) (hiSer loc rem : Bool) (s : State) : Host.Outcome State Fault Refusal :=
  s.run (linkFaultChange l hiSer loc rem)

/-- FRAME_RECEIVE, R74, R79, R84, R86: bytes arrive behind a start code: 0 the normal SFD, 1 the start of a preemptable frame, 2
a continuation with fragment count `cnt`, 3 a verify and 4 a response mPacket. `more` marks a fragment that is not the
last, `mcrc` that its mCRC is right, `code` an error block, and `syms` the symbol errors of the codewords they came in. Under
LOOPBACK 1 the receiver hears no line; under LOOPBACK 2 what it hears also leaves again (assumption 123). -/
def frameReceive (l smd cnt : Nat) (bs : List Byte) (more mcrc code : Bool) (syms : List Nat) (d : Dev) : Dev :=
  if !d.isPort l || d.mf l Mac.PORT_STATUS_LINK_UP = 0 || d.mf l Mac.PORT_CFG_LOOPBACK = 1 then d
  else
    let (d, bad) := d.fecCount l syms
    let d := if d.mf l Mac.PORT_CFG_LOOPBACK = 2 then d.emit (.loopBack l bs) else d
    if smd = 3 then
      (if d.mf l Mac.PREEMPT_CFG_EN = 0 then d.macAdd l Mac.RX_ASSY_ERR 1 else d.lineOut l (.mpacket l true))
    else if smd = 4 then d.verified l
    else (d.wakeUnit (macId l)).frameIn l smd cnt bs more mcrc (code || bad)

/-- FRAME_RECEIVE. -/
def execFrameReceive (l smd cnt : Nat) (bs : List Byte) (more mcrc code : Bool) (syms : List Nat) (s : State) :
    Host.Outcome State Fault Refusal := s.run (frameReceive l smd cnt bs more mcrc code syms)

/-- PAUSE_TIMER_EXPIRY, R82: the pause timer of a class reaches 0; in MODE 1 all classes move together. -/
def pauseTimerExpiry (l c : Nat) (d : Dev) : Dev :=
  if d.mf l Mac.PAUSE_CFG_MODE = 1 then
    (d.setMac l (fun (m : MacSt) => { m with timers := List.replicate 8 0 })).setMf l Mac.PAUSE_CFG_RX_PAUSED 0
  else
    (d.setMac l (fun (m : MacSt) => { m with timers := m.timers.set c 0 })).setMf l Mac.PAUSE_CFG_RX_PAUSED
      (Nat.land (d.mf l Mac.PAUSE_CFG_RX_PAUSED) (255 - 2 ^ c))

/-- PAUSE_TIMER_EXPIRY. -/
def execPauseTimerExpiry (l c : Nat) (s : State) : Host.Outcome State Fault Refusal := s.run (pauseTimerExpiry l c)

/-- PFC_REFRESH, R83: TX_REFRESH quanta have passed while a class stays in XOFF. -/
def pfcRefresh (l : Nat) (d : Dev) : Dev :=
  let m := d.mf l Mac.PAUSE_CFG_XOFF_ACTIVE
  if m = 0 then d else d.pauseDue l true 0

/-- PFC_REFRESH. -/
def execPfcRefresh (l : Nat) (s : State) : Host.Outcome State Fault Refusal := s.run (pfcRefresh l)

/-- PREEMPT_VERIFY_TIMEOUT, R84: another attempt, or failure after three. -/
def preemptVerifyTimeout (l : Nat) (d : Dev) : Dev :=
  if d.mf l Mac.PREEMPT_STATUS_VERIFY_STATE ≠ 2 then d
  else if (d.mac l).tries < 3 then
    (d.setMac l (fun (m : MacSt) => { m with tries := m.tries + 1 })).lineOut l (.mpacket l false)
  else (d.setMf l Mac.PREEMPT_STATUS_VERIFY_STATE 4).raise (macId l) 0x0202 0 0

/-- PREEMPT_VERIFY_TIMEOUT. -/
def execPreemptVerifyTimeout (l : Nat) (s : State) : Host.Outcome State Fault Refusal := s.run (preemptVerifyTimeout l)

/-! ### Transmission of a frame (R78, R85, R87, R88, R91, R92) -/

/-- R92: offset of the PTP message or UDP header of a frame whose EtherType stands at `o`, and its framing: 0 Ethernet, 1 UDP over
IPv4, 2 UDP over IPv6. PTP over UDP has destination port 319 or 320 (assumption 125). -/
def ptpFraming (o : Nat) (bs : List Byte) : Option (Nat × Nat) :=
  let ihl := ((bs.getD (o + 2) 0).toNat % 16) * 4
  let ptp := fun (u : Nat) => be16 bs (u + 2) = 319 || be16 bs (u + 2) = 320
  if be16 bs o = 0x88F7 then some (o + 2, 0)
  else if be16 bs o = 0x0800 && (bs.getD (o + 11) 0).toNat = 17 && ptp (o + 2 + ihl) then some (o + 2 + ihl, 1)
  else if be16 bs o = 0x86DD && (bs.getD (o + 8) 0).toNat = 17 && ptp (o + 42) then some (o + 42, 2)
  else none

/-- Ones-complement update of a checksum at `o` for bytes that change from `old` to `new` at even offsets. -/
def sumUpdate (bs : List Byte) (o : Nat) (old new : List Byte) : List Byte :=
  let c := fold16 ((65535 - be16 bs o) + (65535 - fold16 (sum16 old)) + fold16 (sum16 new))
  let v := 65535 - c
  spliceBytes bs o (beBytes 2 (if v = 0 then 65535 else v))

/-- R92: write bytes `new` at offset `o` of a frame whose EtherType stands at `et`, as a one-step operation does, with the UDP
checksum. -/
def oneStepWrite (et : Nat) (bs : List Byte) (o : Nat) (new : List Byte) : List Byte :=
  match ptpFraming et bs with
  | none => bs
  | some (u, k) =>
    let old := sliceBytes bs o new.length
    let pad := if (o - u) % 2 = 1 then [(0 : Byte)] else []
    let r := spliceBytes bs o new
    if bs.length < o + new.length then bs
    else if k = 1 then spliceBytes r (u + 6) [0, 0]
    else if k = 2 then sumUpdate r (u + 6) (pad ++ old) (pad ++ new)
    else r

/-- R92: the one-step operation a packet asks for. -/
def Dev.oneStep (d : Dev) (l : Nat) (p : Pkt) (bs : List Byte) : List Byte :=
  let m11 := p.m.getD 11 0
  let op := wget [m11] TxReq.ONE_STEP
  let off := wget [m11] TxReq.ONE_STEP_OFF
  let (s, n) := d.stamp (d.mf l Mac.TS_CORR_TX_CORR)
  let et := 12 + 4 * d.tags l bs
  if d.mf l Mac.TS_CFG_ONE_STEP_EN = 0 then bs
  else if op = 1 then oneStepWrite et bs off (beBytes 6 s ++ beBytes 4 n)
  else if op = 2 then
    let rx := (p.mg Meta.TS_SEC_LO + p.mg Meta.TS_SEC_HI * 2 ^ 32) * 1000000000 + p.mg Meta.TS_NS
    let dt : Int := Int.ofNat (s * 1000000000 + n) - Int.ofNat rx
    let old := beNat (sliceBytes bs off 8)
    oneStepWrite et bs off (beBytes 8 ((Int.ofNat old + dt * 65536) % Int.ofNat (2 ^ 64)).toNat)
  else bs

/-- R78: the bytes of a frame as sent, without FCS, or the counter of its drop. -/
def Dev.txBytes (d : Dev) (l : Nat) (p : Pkt) : Except Fld (List Byte) :=
  let m11 := p.m.getD 11 0
  let tag := beBytes 2 (d.mf l (if wget [m11] TxReq.TAG_TPID = 1 then Mac.TAG_CFG_TPID_OUTER else Mac.TAG_CFG_TPID_INNER)) ++
    beBytes 2 (wget [m11] TxReq.TCI)
  let bs := if d.mf l Mac.TAG_CFG_TX_INSERT_EN = 1 && wget [m11] TxReq.TAG_INS = 1 then
    p.data.take 12 ++ tag ++ p.data.drop 12 else p.data
  if d.mf l Mac.MAC_CFG_MAX_FRAME < bs.length + 4 then .error Mac.TX_OVERSIZE_DROP
  else if 60 ≤ bs.length then .ok bs
  else if d.mf l Mac.MAC_CFG_TX_PAD = 1 then .ok (bs ++ List.replicate (60 - bs.length) 0)
  else .error Mac.TX_RUNT_DROP

/-- R277, R279: a timestamped packet of a connection takes its transmit timestamp. `job` of such a packet names the connection
above 2^18, and the PSN. -/
def Dev.connStamp (d : Dev) (l : Nat) (p : Pkt) : Dev :=
  match p.job with
  | some (k, psn) =>
    let c := k - 0x40000
    if k < 0x40000 || d.cg .conn c Conn.TS_OUT = 0 || d.cg .conn c Conn.TS_PSN ≠ psn then d
    else
      let (s, n) := d.stamp (d.mf l Mac.TS_CORR_TX_CORR)
      (d.cs .conn c Conn.TS_SENT (s % 2 ^ 32 * 2 ^ 32 + n)).connRecord c
  | none => d

/-- R84, R85: class `c` of port `l` is sent express, also where the merge sublayer is off. -/
def Dev.sentWhole (d : Dev) (l c : Nat) : Bool :=
  d.mf l Mac.PREEMPT_CFG_EN = 0 || d.mf l Mac.PREEMPT_CFG_EXPRESS_MASK / 2 ^ c % 2 = 1

/-- FRAME_TRANSMIT, R78, R87, R91, R92: a packet starts on the wire of port `l` once min(CUR, length) of its bytes are in the
transmit buffer, or is dropped. -/
def Dev.txStart (d : Dev) (l : Nat) (p : Pkt) (c : Nat) : Dev :=
  match d.txBytes l p with
  | .error f => d.macAdd l f 1
  | .ok bs =>
    let m11 := p.m.getD 11 0
    let bs := d.oneStep l p bs
    let d := if d.mf l Mac.TS_CFG_TX_TS_EN = 1 && wget [m11] TxReq.TS_REQ = 1 then d.txStamp l (wget [m11] TxReq.TS_TAG)
      else d
    let d := d.connStamp l p
    let f : TxFrm :=
      { pkt := p, cls := c, bytes := bs, from_ := 0, frags := 0, pre := !d.sentWhole l c
        ahead := min (d.mf l Mac.TX_START_STATUS_CUR) bs.length, late := false }
    d.setMac l (fun (m : MacSt) => { m with tx := some f })

/-- R84, R85: the last part of a frame as it leaves: whole behind the normal SFD if express, else in an mPacket behind SMD-S, or behind
SMD-C with the count of its fragment. `errs` bytes before the FCS `fcs` leave as error blocks. -/
def TxFrm.lastPart (f : TxFrm) (l : Nat) (data fcs : List Byte) (errs : Nat) : Out :=
  let good := fcs = fcsOf f.bytes
  if f.pre then .mframe l (f.frags = 0) ((f.frags + 3) % 4) (data ++ fcs) true good errs
  else .frame l (data ++ fcs) good errs

/-- The complement of a frame's FCS (R87, R508). -/
def badFcs (bs : List Byte) : List Byte := (fcsOf bs).map (fun b => ~~~b)

/-- R85: the mCRC that ends a fragment, given the frame's bytes up to its end (assumption 122). -/
def mcrcOf (bs : List Byte) : List Byte := leBytes 4 (Nat.xor (leNat (fcsOf bs)) 0x0000FFFF)

/-- R233: a frame that ends after its gate has closed counts. -/
def Dev.countLate (d : Dev) (l : Nat) (f : TxFrm) : Dev := if f.late then d.add (wsUnit l) Ws.GATE_LATE 1 else d

/-- A continuation fragment counts when it leaves (R93). -/
def Dev.countCont (d : Dev) (l : Nat) (f : TxFrm) : Dev := if f.frags = 0 then d else d.macAdd l Mac.TX_CONT_FRAG 1

/-- The frame in progress on port `l` ends with its last byte. A poisoned packet leaves with a complemented FCS
(R508). -/
def Dev.txEnd (d : Dev) (l : Nat) : Dev :=
  match (d.mac l).tx with
  | none => d
  | some f =>
    let d := d.setMac l (fun (m : MacSt) => { m with tx := none })
    let fcs := if f.pkt.poison then badFcs f.bytes else fcsOf f.bytes
    let d := ((d.lineOut l (f.lastPart l (f.bytes.drop f.from_) fcs 0)).countCont l f).countLate l f
    (d.macAdd l Mac.TX_FRAMES_OK 1).macAdd l Mac.TX_BYTES_OK (f.bytes.length + 4)

/-- R85: the preemptable frame in progress may be interrupted after `sent` bytes of it. -/
def Dev.mayCut (d : Dev) (l sent : Nat) : Bool :=
  match (d.mac l).tx with
  | none => false
  | some f =>
    d.mf l Mac.PREEMPT_STATUS_ACTIVE = 1 && (d.mac l).held.isNone && f.pre &&
      decide (64 * (1 + d.mf l Mac.PREEMPT_CFG_ADD_FRAG_SIZE) ≤ sent - f.from_ + 4) &&
      decide (sent + 64 ≤ f.bytes.length + 4)

/-- R85: the frame in progress is interrupted after `sent` bytes. -/
def Dev.txCut (d : Dev) (l sent : Nat) : Dev :=
  match (d.mac l).tx with
  | none => d
  | some f =>
    let o := Out.mframe l (f.frags = 0) ((f.frags + 3) % 4) ((f.bytes.take sent).drop f.from_ ++ mcrcOf (f.bytes.take sent)) false
      true 0
    let d := (d.lineOut l o).countCont l f
    let d := if f.frags = 0 then d.macAdd l Mac.TX_PREEMPTED 1 else d
    d.setMac l (fun (m : MacSt) => { m with tx := none, held := some { f with from_ := sent, frags := f.frags + 1 } })

/-- R85: the interrupted frame goes on. -/
def Dev.txResume (d : Dev) (l : Nat) : Dev :=
  d.setMac l (fun (m : MacSt) => if m.tx.isNone then { m with tx := m.held, held := none } else m)

/-- TX_UNDERRUN, R87, R88: the buffer empties `sent` bytes into the frame in progress, which can be only behind the bytes it held at
the start and before the frame's last: the rest leaves as error blocks, behind them the complement of the frame's FCS. CUR rises
by STEP, and at most one event per window is raised. The boundary lets a pause frame that is due leave. -/
def txUnderrun (l sent : Nat) (d : Dev) : Dev :=
  match (d.mac l).tx with
  | none => d
  | some f =>
    if sent < f.ahead || sent < f.from_ || decide (f.bytes.length ≤ sent) then d
    else
      let seen := (d.mac l).under
      let cur := min (d.mf l Mac.TX_START_STATUS_CUR + d.mf l Mac.TX_START_CFG_STEP) (d.mf l Mac.TX_START_CFG_MAX)
      let d := d.setMac l (fun (m : MacSt) => { m with tx := none, under := true })
      let d := (d.lineOut l (f.lastPart l ((f.bytes.take sent).drop f.from_) (badFcs f.bytes) (f.bytes.length - sent))).countCont l f
      let d := d.countLate l f
      let d := ((d.macAdd l Mac.TX_UNDERRUN 1).setMf l Mac.TX_START_STATUS_CUR cur).setMf l Mac.TX_START_STATUS_QUIET 0
      (if seen then d else d.raise (macId l) 0x0203 0 cur).pauseFlush l

/-- TX_UNDERRUN. -/
def execTxUnderrun (l sent : Nat) (s : State) : Host.Outcome State Fault Refusal := s.run (txUnderrun l sent)

/-- TX_START_WINDOW, R88: a 1 ms window ends. -/
def txStartWindow (l : Nat) (d : Dev) : Dev :=
  if (d.mac l).under then d.setMac l (fun (m : MacSt) => { m with under := false })
  else
    let q := min 255 (d.mf l Mac.TX_START_STATUS_QUIET + 1)
    if d.mf l Mac.TX_START_CFG_DECAY_WINDOWS ≤ q then
      (d.setMf l Mac.TX_START_STATUS_QUIET 0).setMf l Mac.TX_START_STATUS_CUR
        (max (d.mf l Mac.TX_START_STATUS_CUR - d.mf l Mac.TX_START_CFG_STEP) (d.mf l Mac.TX_START_CFG_MIN))
    else d.setMf l Mac.TX_START_STATUS_QUIET q

/-- TX_START_WINDOW. -/
def execTxStartWindow (l : Nat) (s : State) : Host.Outcome State Fault Refusal := s.run (txStartWindow l)

end Sys2Proof.Machine
end

