-- ==== Sys2Proof/Machine/Gates.lean ====
section
/-! DEFINITION. Gates of the network ports: the operating list and the timebase, the guard band, and frames that could never be sent
(R89, R233 to R235). -/

namespace Sys2Proof.Machine

/-- A round robin with nobody in it. -/
def Drr.empty : Drr := { round := [], deficit := [], topped := [] }

/-- Field of the wire scheduler of port `p`. -/
def Dev.wf (d : Dev) (p : Nat) (f : Fld) : Nat := d.g (wsUnit p) f

/-- What the wire scheduler of port `p` keeps. -/
def Dev.wire (d : Dev) (p : Nat) : WireSt :=
  (d.sched.wires.find? (fun w => w.port = p)).getD { port := p, drr := Drr.empty, heldSeen := [], waiting := none, start := 0 }

/-- Change what the wire scheduler of port `p` keeps. -/
def Dev.setWire (d : Dev) (p : Nat) (f : WireSt → WireSt) : Dev :=
  { d with sched := { d.sched with wires := f (d.wire p) :: d.sched.wires.filter (fun w => w.port ≠ p) } }

/-- The PTP timebase in ns (R89). -/
def Dev.tbNs (d : Dev) : Nat := d.tb.sec * 1000000000 + d.tb.ns / 2 ^ 32

/-- R235: the gates of port `p` follow an operating list. -/
def Dev.gated (d : Dev) (p : Nat) : Bool :=
  decide (p < 16) && d.wf p Ws.GCL_CTL_EN = 1 && d.wf p Ws.GCL_STATUS_OPER_VALID = 1

/-- R235: the entries that run within a cycle of `left` ns, with their durations: the last one is extended to the cycle's end, the
one that runs at it is cut, and those behind it never run. -/
def cutList : Nat → List (Nat × Nat) → List (Nat × Nat)
  | _, [] => []
  | left, [(g, _)] => [(g, left)]
  | left, (g, n) :: rest => if left ≤ n then [(g, left)] else (g, n) :: cutList (left - n) rest

/-- The operating list of port `p`: gates and ns of each entry as they run within a cycle. -/
def Dev.operList (d : Dev) (p : Nat) : List (Nat × Nat) :=
  cutList (d.wf p Ws.GCL_OPER_CYCLE_NS)
    ((List.range (d.wf p Ws.GCL_STATUS_OPER_LEN)).map (fun e =>
      let w := d.wf p (Ws.GCL_OPER_RAW e)
      (w % 256, w / 2 ^ 32)))

/-- Entry that runs at `t` ns within the cycle, with the ns left of it. -/
def entryAt : List (Nat × Nat) → Nat → Nat → Nat × Nat
  | [], i, _ => (i, 0)
  | (_, n) :: rest, i, t => if t < n ∨ rest.isEmpty then (i, n - t) else entryAt rest (i + 1) (t - n)

/-- Place within the cycle of port `p`, in ns. -/
def Dev.cyclePos (d : Dev) (p : Nat) : Nat :=
  let c := Int.ofNat (max 1 (d.wf p Ws.GCL_OPER_CYCLE_NS))
  ((Int.ofNat d.tbNs - Int.ofNat (d.wire p).start) % c).toNat

/-- R233: a frame whose class's gate is closed in `gates` will end late. -/
def TxFrm.seen (f : TxFrm) (gates : Nat) : TxFrm := { f with late := f.late || gates / 2 ^ f.cls % 2 = 0 }

/-- R233, R235: CUR_ENTRY and GATES of port `p` follow the timebase; with EN 0 every gate is open. A frame in progress, or one that
is interrupted, remembers that its gate has closed. -/
def Dev.syncGates (d : Dev) (p : Nat) : Dev :=
  if !d.gated p then d.s (wsUnit p) Ws.GCL_STATUS_GATES 0xFF
  else
    let l := d.operList p
    let (i, _) := entryAt l 0 (d.cyclePos p)
    let gates := (l.getD i (0xFF, 0)).1
    ((d.s (wsUnit p) Ws.GCL_STATUS_CUR_ENTRY i).s (wsUnit p) Ws.GCL_STATUS_GATES gates).setMac p (fun (m : MacSt) =>
      { m with tx := m.tx.map (fun (f : TxFrm) => f.seen gates), held := m.held.map (fun (f : TxFrm) => f.seen gates) })

/-- TIMEBASE_TICK, R89, R235: the timebase advances; after a step by TB_SET_NS or TB_ADJ the gates take their place by the new
time. -/
def timebaseTick (d : Dev) : Dev :=
  let step := d.tb.set.isSome || d.tb.adj.isSome
  let d := { d with tb := d.tb.tick (d.mf 0 Mac.TB_INCR_INCR) }
  if step then (List.range 16).foldl (fun (d : Dev) p => if d.gated p then d.syncGates p else d) d else d

/-- TIMEBASE_TICK. -/
def execTimebaseTick (s : State) : Host.Outcome State Fault Refusal := s.run timebaseTick

/-- The gate of class `c` of port `p` is open. -/
def Dev.gateOpen (d : Dev) (p c : Nat) : Bool := !d.gated p || d.wf p Ws.GCL_STATUS_GATES / 2 ^ c % 2 = 1

/-- Length of the run of open entries of class `c` at the front of a list. -/
def openRun (c : Nat) (l : List (Nat × Nat)) : Nat :=
  ((l.takeWhile (fun x => x.1 / 2 ^ c % 2 = 1)).map (·.2)).foldl (· + ·) 0

/-- R233, R235: ns from now until the gate of class `c` next closes; none when it never does, as while the timebase stands. -/
def Dev.untilClose (d : Dev) (p c : Nat) : Option Nat :=
  let l := d.operList p
  if l.all (fun x => x.1 / 2 ^ c % 2 = 1) then none
  else if d.tb.stopped then (if d.gateOpen p c then none else some 0)
  else
    let (i, left) := entryAt l 0 (d.cyclePos p)
    if (l.getD i (0, 0)).1 / 2 ^ c % 2 = 0 then some 0
    else some (left + openRun c (l.drop (i + 1) ++ l))

/-- R234: ns of the longest open interval of class `c`; none when its gate never closes. -/
def Dev.longestOpen (d : Dev) (p c : Nat) : Option Nat :=
  let l := d.operList p
  if l.all (fun x => x.1 / 2 ^ c % 2 = 1) then none
  else some ((List.range l.length).foldl (fun m i => max m (openRun c (l.drop i ++ l.take i))) 0)

/-- R233: MAC rate of port `p` in Gb/s. -/
def Dev.macRate (d : Dev) (p : Nat) : Nat :=
  let w := d.mf p Mac.PORT_CFG_WIDTH
  if d.mf p Mac.PORT_CFG_LANE_RATE = 1 then 100 else 200 * w

/-- R78, R233: length of a packet on the wire, from destination address through FCS. -/
def Dev.wireLen (d : Dev) (p : Nat) (k : Pkt) : Nat :=
  if p < 16 then (match d.txBytes p k with
    | .ok bs => bs.length + 4
    | .error _ => k.data.length + 4)
  else k.data.length

/-- R85: class `c` of port `p` is sent express. -/
def Dev.express (d : Dev) (p c : Nat) : Bool := d.mf p Mac.PREEMPT_CFG_EXPRESS_MASK / 2 ^ c % 2 = 1

/-- R233: need N of a frame of class `c`, in bytes. -/
def Dev.need (d : Dev) (p c : Nat) (k : Pkt) : Nat :=
  d.wireLen p k + 20 +
    (if d.mf p Mac.PREEMPT_STATUS_ACTIVE = 1 && !d.express p c then d.wf p Ws.WS_PORT_PREEMPT_ALLOW else 0)

/-- `n` byte times at the MAC rate of port `p` fit in `ns`. -/
def Dev.fits (d : Dev) (p n ns : Nat) : Bool := decide (n * 8 ≤ d.macRate p * ns)

/-- R234: the head frame of class `c` of port `p` could never be sent. -/
def Dev.oversize (d : Dev) (p c : Nat) (x : SwPkt) : Bool :=
  d.gated p && (match d.longestOpen p c with
    | none => false
    | some ns => !d.fits p (d.need p c x.pkt) ns)

/-- R233: the head frame of class `c` passes the guard band. -/
def Dev.guardOk (d : Dev) (p c : Nat) (x : SwPkt) : Bool :=
  !d.gated p || (match d.untilClose p c with
    | none => true
    | some ns => d.fits p (d.need p c x.pkt) ns)

/-- The class's head frame is a new one: it has not been counted as held. -/
def Dev.newHead (d : Dev) (p c : Nat) : Dev :=
  d.setWire p (fun (w : WireSt) => { w with heldSeen := w.heldSeen.filter (fun x => x ≠ c) })

end Sys2Proof.Machine
end

