-- ==== Sys2Proof/Machine/Tables.lean ====
section
/-! DEFINITION. Match tables: entries, hashing, insertion and removal by kind, lookups and the flow cache, learning,
aging, and the step a home tile takes for each change (R112 to R139). -/

namespace Sys2Proof.Machine

/-! ### Tables and their entries -/

/-- Table with a given ID. -/
def Dev.table (d : Dev) (id : Nat) : Option Tbl := d.tbl.tables.find? (fun t => t.id = id)

/-- Change a table's record. -/
def Dev.setTbl (d : Dev) (id : Nat) (f : Tbl → Tbl) : Dev :=
  { d with tbl := { d.tbl with tables := d.tbl.tables.map (fun t => if t.id = id then f t else t) } }

/-- R112: home tile of a table. -/
def homeTile (id : Nat) : Nat := id % 32

/-- Record number of entry `i` of table `id` in the context store. -/
def entKey (id i : Nat) : Nat := id * 2 ^ 32 + i

/-- Words of one entry. -/
def Tbl.nWords (t : Tbl) : Nat := t.entryBytes / 8

/-- Entry `i` of table `t`. -/
def Dev.entry (d : Dev) (t : Tbl) (i : Nat) : List Word := d.crec .tblEntry (entKey t.id i) t.nWords

/-- Write entry `i` of table `t` from word `w`. -/
def Dev.putEntry (d : Dev) (t : Tbl) (i w : Nat) (ws : List Word) : Dev :=
  { d with objs := stPutList ctxReset d.objs (okey Cls.tblEntry.code (entKey t.id i) w) ws }

/-- Field `f` of entry `i`. -/
def Dev.eg (d : Dev) (t : Tbl) (i : Nat) (f : CFld) : Nat := d.cg .tblEntry (entKey t.id i) f

/-- Set field `f` of entry `i`. -/
def Dev.es (d : Dev) (t : Tbl) (i : Nat) (f : CFld) (v : Nat) : Dev := d.cs .tblEntry (entKey t.id i) f v

/-- Word in which the model keeps the bucket slot of a flow: bucket × 8 + slot (R117). -/
def flowSlot : CFld := ⟨32, 0, 64⟩

/-- VALID field of an entry by kind. -/
def validFld (kind : Nat) : CFld := if kind = 1 then Flow.VALID else if kind = 2 then L2.VALID else Lpm.VALID
/-- HIT field of an entry by kind. -/
def hitFld (kind : Nat) : CFld := if kind = 1 then Flow.HIT else if kind = 2 then L2.HIT else Lpm.HIT
/-- AGE_MARK field of a flow or L2 entry. -/
def markFld (kind : Nat) : CFld := if kind = 1 then Flow.AGE_MARK else L2.AGE_MARK
/-- STATIC field of a flow or L2 entry. -/
def staticFld (kind : Nat) : CFld := if kind = 1 then Flow.STATIC else L2.STATIC

/-- The kind is keyed. -/
def keyed (kind : Nat) : Bool := kind = 1 || kind = 2 || kind = 3
/-- The kind is a counter or direct-index array. -/
def arrayKind (kind : Nat) : Bool := kind = 7 || kind = 8

/-- R131: index `i` lies within the table. -/
def Tbl.inRange (t : Tbl) (i : Nat) : Bool :=
  if t.kind = 1 then decide (t.flowBase ≤ i) && decide (i < t.flowBase + t.entryCount)
  else if t.kind = 2 then decide (i < 2 * t.entryCount)
  else decide (i < t.entryCount)

/-- Entry `i` is valid: on arrays every index in range is (R135). -/
def Dev.evalid (d : Dev) (t : Tbl) (i : Nat) : Bool :=
  t.inRange i && (arrayKind t.kind || d.eg t i (validFld t.kind) = 1)

/-- Indices of the valid entries of a keyed table, in the order of the store. -/
def Dev.entries (d : Dev) (t : Tbl) : List Nat :=
  (((d.objs.filter (fun p => decide (okey Cls.tblEntry.code (entKey t.id 0) 0 ≤ p.1) &&
    decide (p.1 < okey Cls.tblEntry.code (entKey (t.id + 1) 0) 0))).map
      (fun p => p.1 % 2 ^ 40 / 2 ^ 8)).eraseDups).filter (fun i => d.evalid t i)

/-- R115: bytes of a key. -/
def Tbl.keyBytes (t : Tbl) : Nat := (t.keyBits + 7) / 8

/-- R115, R183: the first KEY_BYTES bytes with the bits beyond KEY_BITS forced to 0. -/
def Tbl.trimKey (t : Tbl) (k : List Byte) : List Byte :=
  let r := 8 * t.keyBytes - t.keyBits
  beBytes t.keyBytes (beNat (sliceBytes k 0 t.keyBytes) / 2 ^ r * 2 ^ r)

/-- R119, R122, R125: key bytes of an entry, key byte 0 first. -/
def Tbl.keyOf (t : Tbl) (ws : List Word) : List Byte :=
  if t.kind = 1 then sliceBytes (ofWords (ws.drop 1)) 0 t.keyBytes
  else if t.kind = 2 then beBytes 9 (wget ws L2.SLICE * 2 ^ 60 + wget ws L2.VID * 2 ^ 48 + wget ws L2.MAC)
  else beBytes 20 (wget ws Lpm.KEY_HI * 2 ^ 128 + wget ws Lpm.KEY_MID * 2 ^ 64 + wget ws Lpm.KEY_LO)

/-- PREFIX_LEN of an entry; 0 but for LPM. -/
def Tbl.plenOf (t : Tbl) (ws : List Word) : Nat := if t.kind = 3 then wget ws Lpm.PREFIX_LEN else 0

/-- R116: hash function A of a key, for a table ID. -/
def hashA (id : Nat) (key : List Byte) : Nat := crc32cFrom (Nat.xor 0xFFFFFFFF (id * 0x00010001 % 2 ^ 32)) key

/-- R116: hash function B. -/
def hashB (id : Nat) (key : List Byte) : Nat := crc32cFrom (Nat.xor 0x6A09E667 (id * 0x00010001 % 2 ^ 32)) key

/-- R117, R122: number of buckets. -/
def Tbl.nb (t : Tbl) : Nat := if t.kind = 1 then t.entryCount / 4 else t.entryCount / 2

/-- R116: candidate buckets of a key. -/
def Tbl.buckets (t : Tbl) (key : List Byte) : Nat × Nat :=
  let a := hashA t.id key % t.nb
  let b := hashB t.id key % t.nb
  (a, if a = b then Nat.xor a 1 else b)

/-- The valid entry with a key, and for LPM a prefix length. -/
def Dev.findKey (d : Dev) (t : Tbl) (key : List Byte) (plen : Nat) : Option Nat :=
  (d.entries t).find? (fun i => t.keyOf (d.entry t i) = key && (t.kind ≠ 3 || t.plenOf (d.entry t i) = plen))

/-- R127: the key bits an LPM entry compares. -/
def lpmMatch (plen : Nat) (ekey key : List Byte) : Bool :=
  beNat ekey / 2 ^ (160 - plen) = beNat key / 2 ^ (160 - plen)

/-- R127: the longest match of an LPM table. -/
def Dev.longest (d : Dev) (t : Tbl) (key : List Byte) : Option Nat :=
  ((d.entries t).filter (fun i => lpmMatch (t.plenOf (d.entry t i)) (t.keyOf (d.entry t i)) key)).foldl
    (fun best i => match best with
      | none => some i
      | some j => if t.plenOf (d.entry t j) < t.plenOf (d.entry t i) then some i else some j) none

/-- Occupied bucket positions of a flow or L2 table: bucket × slots + slot. -/
def Dev.slotsUsed (d : Dev) (t : Tbl) : List Nat :=
  if t.kind = 1 then (d.entries t).map (fun i => d.eg t i flowSlot) else d.entries t

/-- Slots of a bucket. -/
def Tbl.slots (t : Tbl) : Nat := if t.kind = 1 then 8 else 4

/-- Lowest free slot of bucket `b`, if any. -/
def freeSlot (slots : Nat) (used : List Nat) (b : Nat) : Option Nat :=
  (List.range slots).find? (fun s => !used.contains (b * slots + s))

/-- R117: the candidate bucket with more free slots, A on a tie, and its lowest free slot, as a position. -/
def Dev.placeKey (d : Dev) (t : Tbl) (key : List Byte) : Option Nat :=
  let used := d.slotsUsed t
  let n := fun b => (used.filter (fun p => p / t.slots = b)).length
  let (a, b) := t.buckets key
  let c := if n b < n a then b else a
  (freeSlot t.slots used c).map (fun s => c * t.slots + s)

/-! ### Statistics and the control word -/

/-- Counter `k` of R136 rises by `n`. -/
def Dev.tstat (d : Dev) (id k n : Nat) : Dev :=
  d.setTbl id (fun (t : Tbl) => { t with stats := updAt t.stats k (fun x => (x + n) % 2 ^ 64) })

/-- COUNT of the control word follows the number of valid entries (R135). -/
def Dev.syncTblCount (d : Dev) (id : Nat) : Dev :=
  match d.table id with
  | none => d
  | some t => let n := if keyed t.kind then (d.entries t).length else t.entryCount
    d.setTbl id (fun (t : Tbl) => { t with ctl0 := putBits t.ctl0 32 32 n })

/-- A field of a table's control word. -/
def Tbl.ctl (t : Tbl) (f : CFld) : Nat := wget [t.ctl0, t.ctl1] f

/-- R137: the sweeper's visits run. -/
def Tbl.sweeping (t : Tbl) : Bool := t.ctl TblCtl.AGE_EN = 1 && t.sweepP ≠ 0 && !t.offline

/-- The home tile's events of a table. -/
def Dev.tblEvent (d : Dev) (id kind payload : Nat) : Dev := d.raise (matchId (homeTile id)) kind 0 payload

/-! ### Format checks -/

/-- R128: a fast-path action word is well formed. -/
def actionOk (w : Nat) : Bool :=
  let a := w % 16
  let dest := w / 16 % 2 ^ 24
  w / 2 ^ 53 % 2 ^ 11 = 0 &&
    ((a = 0 && dest = 0) || (a = 1 && dest / 2 ^ 6 = 0) || (a = 2 && dest / 2 ^ 18 = 0) || a = 3 || (a = 4 && dest = 0))

/-- R115: the key field of an entry holds 0 beyond KEY_BITS. Only a flow table's may be shorter than its field. -/
def Tbl.keyFits (t : Tbl) (ws : List Word) : Bool :=
  t.kind ≠ 1 ||
    ((ofWords ((ws.drop 1).take 5)).drop t.keyBytes = List.replicate (40 - t.keyBytes) 0 &&
      t.trimKey (t.keyOf ws) = t.keyOf ws)

/-- R115, R119, R122, R125, R128: an entry as supplied breaks no format rule. -/
def Tbl.entryOk (t : Tbl) (ws : List Word) : Bool :=
  if t.kind = 1 then
    getBits (ws.getD 0 0) 5 11 = 0 && getBits (ws.getD 0 0) 56 8 = 0 && actionOk (wget ws Flow.ACTION) && t.keyFits ws
  else if t.kind = 2 then getBits (ws.getD 1 0) 42 22 = 0
  else
    let l := wget ws Lpm.PREFIX_LEN
    getBits (ws.getD 2 0) 42 22 = 0 && decide (l ≤ 160) && beNat (t.keyOf ws) % 2 ^ (160 - l) = 0 &&
      actionOk (wget ws Lpm.RESULT)

/-- R134, R184: an entry image with the fields the device sets: VALID, HIT 1, AGE_MARK 0, and by kind TABLE_ID, FLOW_ID,
DAMPED and MOVE_COUNT. -/
def Tbl.stored (t : Tbl) (i : Nat) (ws : List Word) : List Word :=
  let ws := wset (wset ws (validFld t.kind) 1) (hitFld t.kind) 1
  if t.kind = 1 then wset (wset (wset ws Flow.AGE_MARK 0) Flow.TABLE_ID t.id) Flow.FLOW_ID i
  else if t.kind = 2 then wset (wset (wset ws L2.AGE_MARK 0) L2.DAMPED 0) L2.MOVE_COUNT 0
  else ws

/-! ### Insertion and removal (R117, R118, R122, R126) -/

/-- R118: an entry of INIT_CONTENTS asks for the lowest free flow ID, whatever its FLOW_ID holds. -/
def Tbl.anyFlowId (t : Tbl) (ws : List Word) : List Word :=
  if t.kind = 1 then wset ws Flow.FLOW_ID 0xFFFFFF else ws

/-- R118: flow ID an insert takes, or the status with which it fails. -/
def Dev.flowIdFor (d : Dev) (t : Tbl) (want : Nat) : Except Nat Nat :=
  if want = 0xFFFFFF then
    match (List.range (t.entryCount)).find? (fun k => !(d.evalid t (t.flowBase + k))) with
    | some k => .ok (t.flowBase + k)
    | none => .error Sc.noResource
  else if !t.inRange want then .error Sc.malformed
  else if d.evalid t want then .error 0x20
  else .ok want

/-- R126: prefix length of a segment in use, if it is in use. -/
def Dev.segLen (d : Dev) (t : Tbl) (s : Nat) : Option Nat :=
  ((d.entries t).find? (fun i => i / 512 = s)).map (fun i => t.plenOf (d.entry t i))

/-- R126: index at which an LPM entry of length `l` is placed. -/
def Dev.lpmPlace (d : Dev) (t : Tbl) (l : Nat) : Option Nat :=
  let segs := List.range (8 * t.tcam)
  let es := d.entries t
  let room := fun s => (List.range 512).find? (fun o => !es.contains (s * 512 + o))
  match segs.findSome? (fun s => if d.segLen t s = some l then (room s).map (fun o => s * 512 + o) else none) with
  | some i => some i
  | none => (segs.find? (fun s => d.segLen t s = none)).map (fun s => s * 512)

/-- R140: the words of entry `i` itself are damaged: those of a flow's context, of an L2 entry or of its bucket, or of a RESULT. -/
def Tbl.entryBad (t : Tbl) (i : Nat) : Bool := t.damaged.contains i || (t.kind = 2 && t.badBuckets.contains (i / 4))

/-- R140: bucket `b` holds an error: in an L2 table also where one of its entries does. -/
def Tbl.bucketBad (t : Tbl) (b : Nat) : Bool :=
  t.badBuckets.contains b || (t.kind = 2 && t.damaged.any (fun i => i / 4 = b))

/-- R117, R140: a read of the candidate buckets of a key meets an error. -/
def Tbl.keyBad (t : Tbl) (key : List Byte) : Bool :=
  t.kind ≠ 3 && (t.bucketBad (t.buckets key).1 || t.bucketBad (t.buckets key).2)

/-- R140: a WRITE of the whole of entry `i`, or its DELETE, clears an error of it and of bucket `b` that holds it. -/
def Dev.mendEntry (d : Dev) (t : Tbl) (i b : Nat) : Dev :=
  d.setTbl t.id (fun (t : Tbl) => { t with
    damaged := t.damaged.filter (· ≠ i), badBuckets := t.badBuckets.filter (· ≠ b) })

/-- Bucket that holds entry `i` of a flow or L2 table. -/
def Dev.bucketOf (d : Dev) (t : Tbl) (i : Nat) : Nat := (if t.kind = 1 then d.eg t i flowSlot else i) / t.slots

/-- R117, R118, R122, R126, R140: insert an entry; the index it took, or the status with which it failed. The order of checks
where several hold is that in which the rules state them (assumption 12). -/
def Dev.tblInsert (d : Dev) (t : Tbl) (ws : List Word) : Dev × Except Nat Nat :=
  let key := t.keyOf ws
  let full := decide (t.entryCount ≤ (d.entries t).length)
  let fail := fun (st : Nat) => (if st = 0x22 then d.tstat t.id 9 1 else d, Except.error st)
  let done := fun (d : Dev) (i : Nat) => ((d.tstat t.id 2 1).syncTblCount t.id, Except.ok i)
  if !t.entryOk ws then (d, .error Sc.malformed)
  else if t.keyBad key then (d, .error Sc.integrity)
  else if (d.findKey t key (t.plenOf ws)).isSome then (d, .error 0x20)
  else if t.kind = 3 then
    match d.lpmPlace t (t.plenOf ws) with
    | none => (d, .error Sc.noResource)
    | some i => done (d.putEntry t i 0 (t.stored i ws)) i
  else
    match d.placeKey t key with
    | none => fail 0x22
    | some p =>
      if full then (d, .error Sc.noResource)
      else if t.kind = 2 then done (d.putEntry t p 0 (t.stored p ws)) p
      else match d.flowIdFor t (wget ws Flow.FLOW_ID) with
        | .error st => (d, .error st)
        | .ok i => done ((d.putEntry t i 0 (t.stored i ws)).es t i flowSlot p) i

/-- R118, R120, R138, R140: remove entry `i`: its words, its cache line and an error of it go. -/
def Dev.tblRemove (d : Dev) (t : Tbl) (i : Nat) : Dev :=
  let b := d.bucketOf t i
  let d := (d.clearRec .tblEntry (entKey t.id i)).mendEntry t i b
  let line := if t.kind = 2 then i / 4 else i
  (d.setTbl t.id (fun (t : Tbl) => { t with cache := t.cache.filter (fun c => c.id ≠ line) })).syncTblCount t.id

/-! ### Lookups and the flow cache (R120, R121, R127) -/

/-- R120: sets of a table's partition. -/
def Tbl.sets (t : Tbl) : Nat := t.onchip / 1024

/-- R120: the round-robin sweep from way `w` for a line that is not referenced and not pinned, clearing reference bits as
it passes; at most two rounds. -/
def sweepWay (lines : List CLine) (set : Nat) : Nat → Nat → List CLine × Option Nat
  | 0, _ => (lines, none)
  | n + 1, w =>
    match lines.find? (fun c => c.set = set && c.way = w) with
    | none => (lines, some w)
    | some c =>
      if c.pinned then sweepWay lines set n ((w + 1) % 16)
      else if c.refd then
        sweepWay (lines.map (fun (x : CLine) => if x.set = set && x.way = w then { x with refd := false } else x)) set n
          ((w + 1) % 16)
      else (lines, some w)

/-- R120: line `id` is cached in set `set`. -/
def Tbl.cached (t : Tbl) (set id : Nat) : Bool := t.cache.any (fun c => c.set = set && c.id = id)

/-- R120: a hit sets a line's reference bit; a change of what the line holds makes it dirty. -/
def Tbl.touchLine (t : Tbl) (set id : Nat) (refd dirty : Bool) : Tbl :=
  { t with cache := t.cache.map (fun (c : CLine) =>
      if c.set = set && c.id = id then { c with refd := c.refd || refd, dirty := c.dirty || dirty } else c) }

/-- R121: at most 8 lines of a set, line `id` left aside, leave room for a further pinned one. -/
def Tbl.pinRoom (t : Tbl) (set id : Nat) : Bool :=
  decide ((t.cache.filter (fun c => c.set = set && c.pinned && c.id ≠ id)).length < 8)

/-- R120, R121: a missing line is filled, evicting by the sweep; it is not where every way of its set is pinned. -/
def Tbl.fillLine (t : Tbl) (set id : Nat) (pin dirty : Bool) : Tbl :=
  let free := (List.range 16).find? (fun w => !t.cache.any (fun c => c.set = set && c.way = w))
  let start := ((t.rr.find? (fun p => p.1 = set)).map (·.2)).getD 0
  let (lines, way) := match free with
    | some w => (t.cache, some w)
    | none => sweepWay t.cache set 32 start
  match way with
  | none => { t with cache := lines }
  | some w =>
    let evict := lines.any (fun c => c.set = set && c.way = w)
    let line : CLine :=
      { set := set, way := w, id := id, refd := false, dirty := dirty, pinned := pin && t.pinRoom set id }
    { t with
        cache := lines.filter (fun c => !(c.set = set && c.way = w)) ++ [line]
        rr := (set, (w + 1) % 16) :: t.rr.filter (fun p => p.1 ≠ set)
        stats := if evict then updAt t.stats 11 (· + 1) else t.stats }

/-- R120: the cache line that holds entry `i` of a flow or L2 table: its set and number. -/
def Tbl.lineOf (t : Tbl) (key : List Byte) (i : Nat) : Nat × Nat :=
  if t.kind = 1 then (hashB t.id key % t.sets, i) else (i / 4 % t.sets, i / 4)

/-- R120: the table has a partition of the flow cache. -/
def Tbl.hasCache (t : Tbl) : Bool := (t.kind = 1 || t.kind = 2) && t.sets ≠ 0

/-- R120: the entry that `key` names lies in a cached line, so that the lookup touches no HBM. -/
def Tbl.cacheHit (t : Tbl) (key : List Byte) (found : Option Nat) : Bool :=
  match found with
  | some i => t.hasCache && t.cached (t.lineOf key i).1 (t.lineOf key i).2
  | none => false

/-- R120: what a lookup of `key` does to the cache. A hit marks its line; a miss fills the lines of what it read: the hot part of
the flow found, or the buckets of an L2 table that are not cached. HIT makes the line of the entry found dirty. -/
def Dev.cacheUse (d : Dev) (t : Tbl) (key : List Byte) (found : Option Nat) : Dev :=
  if !t.hasCache then d
  else if t.cacheHit key found then
    let (set, id) := t.lineOf key (found.getD 0)
    (d.setTbl t.id (fun (t : Tbl) => t.touchLine set id true true)).tstat t.id 10 1
  else if t.kind = 1 then
    match found with
    | none => d
    | some i => d.setTbl t.id (fun (x : Tbl) => x.fillLine (t.lineOf key i).1 i (d.eg t i Flow.PIN = 1) true)
  else
    let (a, b) := t.buckets key
    let fill := fun (b : Nat) (x : Tbl) =>
      if x.cached (b % t.sets) b then x else x.fillLine (b % t.sets) b false (found.map (· / 4) = some b)
    d.setTbl t.id (fun (x : Tbl) => fill b (fill a x))

/-- R120, R121: a WRITE of entry `i` goes through the cache: its line becomes dirty, and of a flow takes its new PIN. -/
def Tbl.writeLine (t : Tbl) (key : List Byte) (i : Nat) (pin : Bool) : Tbl :=
  if !t.hasCache then t
  else
    let (set, id) := t.lineOf key i
    let t := t.touchLine set id false true
    let room := t.pinRoom set id
    if t.kind ≠ 1 then t
    else { t with cache := t.cache.map (fun (c : CLine) =>
      if c.set = set && c.id = id then { c with pinned := pin && (c.pinned || room) } else c) }

/-- R120, R140: a lookup of `key` that finds `found` meets an error. One served by the cache reads no bucket, and of a flow's context
only what lies beyond the hot part, when `deep`. -/
def Tbl.lookBad (t : Tbl) (key : List Byte) (found : Option Nat) (deep : Bool) : Bool :=
  let own := found.any (fun i => t.damaged.contains i)
  if t.cacheHit key found then deep && own else own || t.keyBad key

/-- R119, R122, R125, R127, R140: a lookup of a keyed table: the entry it selects, HIT set, the cache and statistics
updated. One that meets an error is a miss with an integrity event, and fills no line. `deep` says that it reads words of a flow
beyond word 7. -/
def Dev.tblLookup (d : Dev) (t : Tbl) (key : List Byte) (deep : Bool) : Dev × Option Nat :=
  let f := if t.kind = 3 then d.longest t key else d.findKey t key 0
  let d := d.tstat t.id 0 1
  if t.lookBad key f deep then ((d.tstat t.id 12 1).tblEvent t.id 0x0005 (f.getD 0), none)
  else
    let d := d.cacheUse t key f
    match f with
    | some i => (((d.tstat t.id 1 1).es t i (hitFld t.kind) 1), some i)
    | none => (d, none)

/-! ### Learning (R123, R124) -/

/-- R123: a learn request is dropped and counted, with at most one event per table per millisecond. -/
def Dev.learnDrop (d : Dev) (id : Nat) : Dev :=
  let d := d.tstat id 6 1
  let ms := d.time / 1000000
  match d.table id with
  | some t => if t.learnAt = some ms then d
      else (d.setTbl id (fun (t : Tbl) => { t with learnAt := some ms })).tblEvent id 0x0302 id
  | none => d

/-- R123, R135, R139: the table learns. -/
def Tbl.learns (t : Tbl) : Bool := !t.offline && t.ctl TblCtl.LEARN_EN = 1 && t.ctl TblCtl.FROZEN = 0

/-- LEARN_REQUEST, R123, R139: a request enters the home tile's learn FIFO, merging with one for the same key. -/
def Dev.learnRequest (d : Dev) (r : LearnReq) : Dev :=
  match d.table r.table with
  | none => d
  | some t =>
    if !t.learns then d
    else if d.tbl.learn.any (fun x => x.table = r.table && x.key = r.key) then
      { d with tbl := { d.tbl with
          learn := d.tbl.learn.map (fun x => if x.table = r.table && x.key = r.key then r else x) } }
    else if 8192 ≤ (d.tbl.learn.filter (fun x => homeTile x.table = homeTile r.table)).length then d.learnDrop r.table
    else ({ d with tbl := { d.tbl with learn := d.tbl.learn ++ [r] } }).wakeUnit (matchId (homeTile r.table))

/-- STATION_MOVE, R123, R124: a source lookup hit entry `i` with a different destination. -/
def Dev.stationMove (d : Dev) (t : Tbl) (i port queue : Nat) : Dev :=
  if (d.eg t i L2.DEST_PORT = port && d.eg t i L2.DEST_QUEUE = queue) || d.eg t i L2.LEARNED = 0 ||
      d.eg t i L2.STATIC = 1 || t.ctl TblCtl.LEARN_EN = 0 || t.ctl TblCtl.FROZEN = 1 then d
  else
    let d := d.setTbl t.id (fun (t : Tbl) => { t with attempts := i :: t.attempts.filter (· ≠ i) })
    if d.eg t i L2.DAMPED = 1 then d
    else
      let d := (d.es t i L2.DEST_PORT port).es t i L2.DEST_QUEUE queue
      let n := d.eg t i L2.MOVE_COUNT + 1
      let d := (d.es t i L2.MOVE_COUNT (min n 15)).tstat t.id 7 1
      let lim := t.ctl TblCtl.MOVE_LIMIT
      if lim ≠ 0 && n = lim then (d.es t i L2.DAMPED 1).tstat t.id 8 1 else d

/-- R123: what a source lookup asks for, given its result. -/
def Dev.learnFrom (d : Dev) (t : Tbl) (key : List Byte) (found : Option Nat) (src : Option (Nat × Nat)) : Dev :=
  match src with
  | none => d
  | some (p, q) =>
    match found with
    | some i => d.stationMove t i p q
    | none => d.learnRequest { table := t.id, key := key, port := p, queue := q }

/-- R122, R123: the entry a learn request inserts. -/
def learnEntry (r : LearnReq) : List Word :=
  let k := beNat r.key
  let ws := wset (wset [0, 0] L2.MAC (k % 2 ^ 48)) L2.VID (k / 2 ^ 48 % 2 ^ 12)
  wset (wset (wset (wset ws L2.SLICE (k / 2 ^ 60)) L2.DEST_PORT r.port) L2.DEST_QUEUE r.queue) L2.LEARNED 1

/-- R133: commands or engine-code changes wait at home tile `m`; learn requests and sweeper visits wait behind them. -/
def Dev.changesWait (d : Dev) (m : Nat) : Bool := d.tbl.changes.any (fun c => homeTile c.table = m)

/-- LEARN_APPLY, R123, R133: the home tile of number `m` takes the oldest request of its learn FIFO, once no command or
engine change waits. A request for a table that no longer learns is dropped, not counted (assumption 133). -/
def learnApply (m : Nat) (d : Dev) : Dev :=
  if d.changesWait m then d
  else match d.tbl.learn.find? (fun r => homeTile r.table = m) with
    | none => d
    | some r =>
      let d := { d with tbl := { d.tbl with learn := d.tbl.learn.filter (· ≠ r) } }
      match d.table r.table with
      | none => d
      | some t =>
        if !t.learns then d
        else match d.tblInsert t (learnEntry r) with
          | (d, .ok _) => d.tstat t.id 5 1
          | (d, .error _) => d.learnDrop t.id

/-- LEARN_APPLY. -/
def execLearnApply (m : Nat) (s : State) : Host.Outcome State Fault Refusal := s.run (learnApply m)

/-- MOVE_WINDOW, R124: a 1 ms window of home tile `m` ends: move counts return to 0, and damped entries on which no move
was attempted clear DAMPED. -/
def moveWindow (m : Nat) (d : Dev) : Dev :=
  (d.tbl.tables.filter (fun t => t.kind = 2 && homeTile t.id = m)).foldl (fun d t =>
    let d := (d.entries t).foldl (fun d i =>
      let d := d.es t i L2.MOVE_COUNT 0
      if t.attempts.contains i then d else d.es t i L2.DAMPED 0) d
    d.setTbl t.id (fun (t : Tbl) => { t with attempts := [] })) d

/-- MOVE_WINDOW. -/
def execMoveWindow (m : Nat) (s : State) : Host.Outcome State Fault Refusal := s.run (moveWindow m)

/-! ### Aging (R135, R137) -/

/-- R135: entries have aged: AGED counts them, and the aged event carries the count since the last one. -/
def Dev.agedEvent (d : Dev) (id : Nat) : Dev :=
  match d.table id with
  | none => d
  | some t =>
    let ms := d.time / 1000000
    if t.ctl TblCtl.AGE_EVT_EN = 1 && t.agedN ≠ 0 && t.agedAt ≠ some ms then
      (d.setTbl id (fun (t : Tbl) => { t with agedN := 0, agedAt := some ms })).tblEvent id 0x0303 (id + t.agedN * 2 ^ 32)
    else d

/-- R137: number of positions and the index of position 0. -/
def Tbl.positions (t : Tbl) : Nat × Nat := if t.kind = 1 then (t.entryCount, t.flowBase) else (2 * t.entryCount, 0)

/-- AGE_VISIT, R133, R137: the sweeper of table `id` visits its next position, once no command or engine change waits at the home
tile. At the start of a period the period in force becomes AGE_PERIOD. -/
def ageVisit (id : Nat) (d : Dev) : Dev :=
  match d.table id with
  | none => d
  | some t =>
    let t := if t.sweepPos = 0 then { t with sweepP := t.ctl TblCtl.AGE_PERIOD } else t
    let d := d.setTbl id (fun _ => t)
    if !(t.kind = 1 || t.kind = 2) || !t.sweeping || d.changesWait (homeTile id) then d
    else
      let (n, base) := t.positions
      let i := base + t.sweepPos
      let d := d.setTbl id (fun (t : Tbl) => { t with sweepPos := (t.sweepPos + 1) % n })
      if !d.evalid t i || d.eg t i (staticFld t.kind) = 1 || t.entryBad i then d
      else if d.eg t i (hitFld t.kind) = 1 then (d.es t i (hitFld t.kind) 0).es t i (markFld t.kind) 0
      else if d.eg t i (markFld t.kind) = 0 then d.es t i (markFld t.kind) 1
      else if t.ctl TblCtl.FROZEN = 1 then d
      else
        let d := (d.tblRemove t i).tstat id 4 1
        (d.setTbl id (fun (t : Tbl) => { t with agedN := t.agedN + 1 })).agedEvent id

/-- AGE_VISIT. -/
def execAgeVisit (id : Nat) (s : State) : Host.Outcome State Fault Refusal := s.run (ageVisit id)

/-- R135, R137: a control word is written under the checks of R50 and its reserved bits. A period written while visits are
stopped takes effect when they restart. -/
def Dev.ctlWrite (d : Dev) (t : Tbl) (w0 w1 : Word) : Dev × Nat :=
  let p := getBits w1 0 32
  let (lo, hi, _) := if t.owner = 0 then d.bound 0x60 else d.boundAt 0x60 t.owner
  if getBits w0 4 4 ≠ 0 || getBits w0 12 20 ≠ 0 || getBits w1 32 32 ≠ 0 || p < lo || hi < p then (d, Sc.malformed)
  else
    let n : Tbl := { t with ctl0 := putBits (putBits t.ctl0 0 4 (getBits w0 0 4)) 8 4 (getBits w0 8 4), ctl1 := w1 }
    let n := if t.sweeping && n.sweeping then n else { n with sweepP := p }
    (d.setTbl t.id (fun _ => n), Sc.ok)

/-! ### The step of a home tile (R132 to R134, R184 to R186) -/

/-- R139, R188: the engine may alter the table. -/
def mayAlter (s : TblSrc) (t : Tbl) : Bool :=
  match s with
  | .iface _ => true
  | .engine _ _ _ owner => t.owner = 0 || t.owner = owner

/-- An answer with a status alone. -/
def ansSt (s : TblSrc) (st : Nat) : TblAns := { src := s, status := st, index := none, words := [], colour := 0 }

/-- An answer with an index and words. -/
def ansOk (s : TblSrc) (i : Option Nat) (ws : List Word) : TblAns :=
  { src := s, status := Sc.ok, index := i, words := ws, colour := 0 }

/-- R132: status of an index that READ and WRITE name. -/
def Dev.indexSt (d : Dev) (t : Tbl) (i : Nat) : Nat :=
  if !t.inRange i then Sc.malformed
  else if !d.evalid t i then 0x21
  else if t.entryBad i then Sc.integrity
  else Sc.ok

/-- R121, R134, R140: WRITE changes an entry in place when its key is the stored one. On arrays the whole entry is stored. -/
def Dev.tblWrite (d : Dev) (t : Tbl) (i : Nat) (ws : List Word) : Dev × Nat :=
  let st := d.indexSt t i
  if st ≠ Sc.ok && st ≠ Sc.integrity then (d, st)
  else
    if arrayKind t.kind then ((d.putEntry t i 0 (ws.take t.nWords)).mendEntry t i 0, Sc.ok)
    else
      let old := d.entry t i
      if !t.entryOk ws || t.keyOf ws ≠ t.keyOf old || t.plenOf ws ≠ t.plenOf old then (d, Sc.malformed)
      else
        let n := t.stored i (ws.take t.nWords)
        let n := if t.kind = 2 then wset (wset n L2.DAMPED (wget old L2.DAMPED)) L2.MOVE_COUNT (wget old L2.MOVE_COUNT)
          else n
        let b := d.bucketOf t i
        let d := (d.putEntry t i 0 n).mendEntry t i b
        (d.setTbl t.id (fun (t : Tbl) => t.writeLine (t.keyOf ws) i (wget ws Flow.PIN = 1)), Sc.ok)

/-- R132, R140, R184: remove the entry with a key. An error of its bucket goes with it (assumption 134). -/
def Dev.tblDelete (d : Dev) (t : Tbl) (key : List Byte) (plen : Nat) : Dev × Except Nat Nat :=
  match d.findKey t key plen with
  | none => (d, .error 0x21)
  | some i => ((d.tblRemove t i).tstat t.id 3 1, .ok i)

/-- R132: the first valid entry at or above an index. -/
def Dev.nextValid (d : Dev) (t : Tbl) (i : Nat) : Option Nat :=
  if arrayKind t.kind then (if i < t.entryCount then some i else none)
  else (d.entries t).foldl (fun b j => if i ≤ j && (b.isNone || decide (j < b.getD 0)) then some j else b) none

/-- R184: words of an entry that TWR may write. -/
def twrOk (t : Tbl) (first n : Nat) : Bool :=
  if t.kind = 1 then decide (6 ≤ first) && decide (first + n ≤ 32)
  else if t.kind = 2 then first = 1 && n = 1
  else if t.kind = 3 then first = 3 && n = 1
  else arrayKind t.kind && decide (first + n ≤ t.nWords)

/-- R184: TWR. -/
def Dev.tblTwr (d : Dev) (t : Tbl) (i first : Nat) (ws : List Word) : Dev × Nat :=
  if !twrOk t first ws.length || !t.inRange i then (d, Sc.malformed)
  else if !d.evalid t i then (d, 0x21)
  else if t.kind = 2 then
    ((d.es t i L2.DEST_PORT (wget ([0] ++ ws) L2.DEST_PORT)).es t i L2.DEST_QUEUE (wget ([0] ++ ws) L2.DEST_QUEUE), Sc.ok)
  else if (t.kind = 1 && first = 6 && !actionOk (ws.getD 0 0).toNat) || (t.kind = 3 && !actionOk (ws.getD 0 0).toNat) then
    (d, Sc.malformed)
  else (d.putEntry t i first ws, Sc.ok)

/-- R185: ATOM: the word's value from before and the word it becomes. -/
def atomNew (fn old a b : Nat) : Nat :=
  if fn = 0 then old + a else if fn = 1 then a else if old = b then a else old

/-- R185: the word ATOM may act on. -/
def atomOk (t : Tbl) (first : Nat) : Bool :=
  (t.kind = 7 && decide (first < 2)) || (t.kind = 8 && decide (first < t.nWords)) ||
    (t.kind = 1 && decide (7 ≤ first) && decide (first < 32))

/-- R132 to R135, R184 to R186, R188: apply one request to its table. -/
def Dev.tblApply (d : Dev) (c : TblChg) : Dev × TblAns :=
  match d.table c.table with
  | none => (d, ansSt c.src Sc.malformed)
  | some t =>
    if t.offline then (d, ansSt c.src 0x23)
    else if !(keyed t.kind || arrayKind t.kind) || !mayAlter c.src t then (d, ansSt c.src Sc.malformed)
    else match c.req with
      | .read i => (d, if d.indexSt t i = Sc.ok then ansOk c.src none (d.entry t i) else ansSt c.src (d.indexSt t i))
      | .write i ws => let (d, st) := d.tblWrite t i ws; (d, ansSt c.src st)
      | .insert ws | .tins ws =>
        if !keyed t.kind then (d, ansSt c.src Sc.malformed)
        else match d.tblInsert t (sliceWords ws t.nWords) with
          | (d, .ok i) => (d, ansOk c.src (some i) [])
          | (d, .error st) => (d, ansSt c.src st)
      | .delete ws =>
        if !keyed t.kind || !t.keyFits ws then (d, ansSt c.src Sc.malformed)
        else match d.tblDelete t (t.keyOf ws) (t.plenOf ws) with
          | (d, .ok i) => (d, ansOk c.src (some i) [])
          | (d, .error st) => (d, ansSt c.src st)
      | .tdel key plen =>
        if !keyed t.kind then (d, ansSt c.src Sc.malformed)
        else match d.tblDelete t (t.trimKey key) plen with
          | (d, .ok i) => (d, ansOk c.src (some i) [])
          | (d, .error st) => (d, ansSt c.src st)
      | .search ws =>
        let key := t.keyOf ws
        let f := if t.kind = 3 && t.plenOf ws = 0xFF then d.longest t key else d.findKey t key (t.plenOf ws)
        if !keyed t.kind || !t.keyFits ws then (d, ansSt c.src Sc.malformed)
        else if t.keyBad key || f.any t.entryBad then (d, ansSt c.src Sc.integrity)
        else match f with
          | some i => (d, ansOk c.src (some i) (d.entry t i))
          | none => (d, ansSt c.src 0x21)
      | .next i => (d, match d.nextValid t i with
          | some j => if t.entryBad j then ansSt c.src Sc.integrity else ansOk c.src (some j) (d.entry t j)
          | none => ansSt c.src 0x21)
      | .ctlRead => (d, ansOk c.src none [t.ctl0, t.ctl1])
      | .ctlWrite w0 w1 => let (d, st) := d.ctlWrite t w0 w1; (d, ansSt c.src st)
      | .stats => (d, ansOk c.src none (t.stats.map (BitVec.ofNat 64)))
      | .bad => (d, ansSt c.src Sc.malformed)
      | .twr i first ws =>
        let (d, st) := d.tblTwr t i first ws
        (d, { ansSt c.src st with index := if st = Sc.ok then some i else none })
      | .atom fn i first a b =>
        if !atomOk t first || !d.evalid t i then (d, ansSt c.src Sc.malformed)
        else if t.entryBad i then (d, ansSt c.src Sc.integrity)
        else
          let old := (d.entry t i).getD first 0
          (d.putEntry t i first [BitVec.ofNat 64 (atomNew fn old.toNat a b)], ansOk c.src (some i) [old])
      | .cnt i bytes =>
        if t.kind ≠ 7 || !t.inRange i then (d, ansSt c.src Sc.malformed)
        else
          let ws := d.entry t i
          (d.putEntry t i 0 [ws.getD 0 0 + 1, ws.getD 1 0 + BitVec.ofNat 64 bytes], ansSt c.src Sc.ok)
where
  /-- The words of an entry image, padded with 0. -/
  sliceWords (ws : List Word) (n : Nat) : List Word := (List.range n).map (fun i => ws.getD i 0)

/-- TABLE_CHANGE_STEP, R133: home tile `m` takes the oldest change that waits for it and applies it alone. -/
def tableChangeStep (m : Nat) (d : Dev) : Dev :=
  match d.tbl.changes.find? (fun c => homeTile c.table = m) with
  | none => d
  | some c =>
    let d := { d with tbl := { d.tbl with changes := d.tbl.changes.eraseP (fun x => homeTile x.table = m) } }
    let (d, a) := d.tblApply c
    match c.src, c.req with
    | .engine pe _ _ _, .cnt _ _ =>
      let d := { d with pes := updAt d.pes pe (fun (x : PeSt) => { x with cnts := x.cnts - 1 }) }
      if a.status = Sc.ok then d else d.bumpk (peId pe) Pe.TABLE_REFUSED
    | _, _ => { d with tbl := { d.tbl with answers := d.tbl.answers ++ [a] } }

/-- TABLE_CHANGE_STEP. -/
def execTableChangeStep (m : Nat) (s : State) : Host.Outcome State Fault Refusal := s.run (tableChangeStep m)

/-! ### The command interface (R131, R132) -/

/-- The words of TBL_DATA of match tile `m`. -/
def Dev.tblData (d : Dev) (m : Nat) : List Word :=
  (List.range 32).map (fun k => BitVec.ofNat 64 (d.gk (matchId m) (Match.TBL_DATA_W k)))

/-- R131: a write of TBL_CMD at match tile `m` starts operation `op` on table `id`: BUSY becomes 1. A write while BUSY is
1 is ignored and sets OVERRUN. -/
def Dev.tblCmd (d : Dev) (m id op evt : Nat) (req : Dev → TblReq) : Dev :=
  let u := matchId m
  if d.gk u Match.TBL_STATUS_BUSY = 1 then d.sk u Match.TBL_STATUS_OVERRUN 1
  else
    let d := (((d.sk u Match.TBL_CMD_TABLE_ID id).sk u Match.TBL_CMD_OP op).sk u Match.TBL_CMD_EVT evt).sk u
      Match.TBL_STATUS_BUSY 1
    let c : TblChg := { src := .iface m, table := id, req := req d }
    ({ d with tbl := { d.tbl with changes := d.tbl.changes ++ [c] } }).wakeUnit (matchId (homeTile id))

/-- TBL_INDEX of match tile `m`. -/
def Dev.tblIndex (d : Dev) (m : Nat) : Nat := d.gk (matchId m) Match.TBL_INDEX_INDEX

/-- READ, R132. -/
def readCmd (m id evt : Nat) (d : Dev) : Dev :=
  d.tblCmd m id 1 evt (fun d => .read (d.tblIndex m))

/-- READ. -/
def execRead (m id evt : Nat) (s : State) : Host.Outcome State Fault Refusal := s.run (readCmd m id evt)

/-- WRITE, R132, R134. -/
def writeCmd (m id evt : Nat) (d : Dev) : Dev :=
  d.tblCmd m id 2 evt (fun d => .write (d.tblIndex m) (d.tblData m))

/-- WRITE. -/
def execWrite (m id evt : Nat) (s : State) : Host.Outcome State Fault Refusal := s.run (writeCmd m id evt)

/-- INSERT, R132. -/
def insertCmd (m id evt : Nat) (d : Dev) : Dev :=
  d.tblCmd m id 3 evt (fun d => .insert (d.tblData m))

/-- INSERT. -/
def execInsert (m id evt : Nat) (s : State) : Host.Outcome State Fault Refusal := s.run (insertCmd m id evt)

/-- DELETE, R115, R132. -/
def deleteCmd (m id evt : Nat) (d : Dev) : Dev :=
  d.tblCmd m id 4 evt (fun d => .delete (d.tblData m))

/-- DELETE. -/
def execDelete (m id evt : Nat) (s : State) : Host.Outcome State Fault Refusal := s.run (deleteCmd m id evt)

/-- SEARCH, R115, R132. -/
def searchCmd (m id evt : Nat) (d : Dev) : Dev :=
  d.tblCmd m id 5 evt (fun d => .search (d.tblData m))

/-- SEARCH. -/
def execSearch (m id evt : Nat) (s : State) : Host.Outcome State Fault Refusal := s.run (searchCmd m id evt)

/-- NEXT, R132. -/
def nextCmd (m id evt : Nat) (d : Dev) : Dev :=
  d.tblCmd m id 6 evt (fun d => .next (d.tblIndex m))

/-- NEXT. -/
def execNext (m id evt : Nat) (s : State) : Host.Outcome State Fault Refusal := s.run (nextCmd m id evt)

/-- CTL_READ, R132, R135. -/
def ctlReadCmd (m id evt : Nat) (d : Dev) : Dev :=
  d.tblCmd m id 7 evt (fun _ => .ctlRead)

/-- CTL_READ. -/
def execCtlRead (m id evt : Nat) (s : State) : Host.Outcome State Fault Refusal := s.run (ctlReadCmd m id evt)

/-- CTL_WRITE, R132, R135. -/
def ctlWriteCmd (m id evt : Nat) (d : Dev) : Dev :=
  d.tblCmd m id 8 evt (fun d => .ctlWrite ((d.tblData m).getD 0 0) ((d.tblData m).getD 1 0))

/-- CTL_WRITE. -/
def execCtlWrite (m id evt : Nat) (s : State) : Host.Outcome State Fault Refusal := s.run (ctlWriteCmd m id evt)

/-- STATS, R132, R136. -/
def statsCmd (m id evt : Nat) (d : Dev) : Dev :=
  d.tblCmd m id 9 evt (fun _ => .stats)

/-- STATS. -/
def execStats (m id evt : Nat) (s : State) : Host.Outcome State Fault Refusal := s.run (statsCmd m id evt)

/-- TBL_CMD_DONE, R131, R132: the result of interface `m` is in place: TBL_DATA and TBL_INDEX take what the operation
returns, BUSY falls, RESULT is set, and an event follows if EVT was set. -/
def tblCmdDone (m : Nat) (d : Dev) : Dev :=
  match d.tbl.answers.find? (fun a => a.src = TblSrc.iface m) with
  | none => d
  | some a =>
    let u := matchId m
    let d := { d with tbl := { d.tbl with answers := d.tbl.answers.filter (fun a => a.src ≠ TblSrc.iface m) } }
    let d := (List.range a.words.length).foldl
      (fun (d : Dev) k => d.sk u (Match.TBL_DATA_W k) (a.words.getD k 0).toNat) d
    let d := match a.index with
      | some i => d.sk u Match.TBL_INDEX_INDEX i
      | none => d
    let d := (d.sk u Match.TBL_STATUS_BUSY 0).sk u Match.TBL_STATUS_RESULT a.status
    if d.gk u Match.TBL_CMD_EVT = 1 then d.raise u 0x0004 0 (a.status + d.gk u Match.TBL_CMD_OP * 2 ^ 16) else d

/-- TBL_CMD_DONE. -/
def execTblCmdDone (m : Nat) (s : State) : Host.Outcome State Fault Refusal := s.run (tblCmdDone m)

end Sys2Proof.Machine
end

