-- ==== Sys2Proof/Machine/Integrity.lean ====
section
/-! DEFINITION. Data found bad: the integrity registers (R503, R506, R508, R512), the background scrub (R504, R505) and
the TCAM scan (R507). -/

namespace Sys2Proof.Machine

/-- R512: the first uncorrectable or parity error latches INTEG_LAST and INTEG_ADDR: unit, structure and address. -/
def Dev.latchInteg (d : Dev) (unit struct addr : Nat) : Dev :=
  if d.on rootId Root.INTEG_LAST_VALID then d
  else (((d.s rootId Root.INTEG_LAST_UNIT unit).s rootId Root.INTEG_LAST_STRUCT struct).s rootId Root.INTEG_LAST_VALID
    1).s rootId Root.INTEG_ADDR_ADDR addr

/-- R506, R512: an uncorrectable error of a structure: code 1 met the mesh (R503), 2 lies in HBM, 3 to 9 on chip. -/
def Dev.uncorr (d : Dev) (unit struct addr : Nat) : Dev :=
  (d.latchInteg unit struct addr).bump (if struct = 1 then Root.MESH_PARITY else if struct = 2 then Root.HBM_UNCORR
    else Root.SRAM_UNCORR)

/-- R503, R512: a mesh parity error of an access, a packet or a DMA transfer, seen by a unit; the root hitch raises its event
(assumption 149). -/
def Dev.meshErr (d : Dev) (unit addr : Nat) : Dev := (d.uncorr unit 1 addr).raise rootId 0x0005 0 (addr % 2 ^ 48)

/-- POISON, R508: a packet is poisoned by bad bytes, and counts once. -/
def Dev.poisoned (d : Dev) (p : Pkt) : Dev × Pkt :=
  if p.poison then (d, p) else (d.bump Root.POISONED, { p with poison := true })

end Sys2Proof.Machine
end

