-- ==== Sys2Proof/Machine/Switch.lean ====
section
/-! DEFINITION. The switch core: destinations, admission, lossless classes, congestion marking, tunnel encapsulation,
readers and replication (R196 to R219). -/

namespace Sys2Proof.Machine

/-! ### Registers and counters -/

/-- Field of the switch core's own block. -/
def Dev.sf (d : Dev) (f : Fld) : Nat := d.gk switchId f

/-- Set a field of the switch core's own block. -/
def Dev.setSf (d : Dev) (f : Fld) (v : Nat) : Dev := d.sk switchId f v

/-- A counter of the switch core rises by 1. -/
def Dev.swBump (d : Dev) (f : Fld) : Dev := d.bumpk switchId f

/-- R196: cells a packet of `n` bytes occupies. -/
def cellsOf (n : Nat) : Nat := (n + 255) / 256

/-- Class of a packet: m0 CLASS. -/
def SwPkt.cls (p : SwPkt) : Nat := p.pkt.mg Meta.CLASS

/-- R199: the port has a reader. -/
def Dev.lpPresent (d : Dev) (p : Nat) : Bool := decide (p < 48) && d.on (swpUnit p) Swp.LP_INFO_PRESENT

/-- R199: a network port's input drops what is refused; every other input holds it. -/
def dropInput (i : Nat) : Bool := decide (i < 16)

/-! ### Destinations (R128, R199 to R201) -/

/-- R18: unit `u` is an engine hitch of the tree. -/
def Dev.isEngine (d : Dev) (u : Nat) : Bool := d.isHitch u && d.kindOf u = 0x83

/-- R200: the top-level engine hitch of an engine hitch: the highest one reached through engine hitches only. -/
def Dev.topEngine (d : Dev) (u : Nat) : Nat :=
  ((d.pathUp treeFuel u).takeWhile (fun a => d.isEngine a)).getLastD u

/-- R200: logical port of a top-level engine hitch. -/
def Dev.enginePort (d : Dev) (u : Nat) : Option Nat :=
  ((List.range 24).map (· + 24)).find? (fun p => d.lpPresent p && d.g (swpUnit p) Swp.LP_INFO_UNIT = u)

/-- R128, R199: destination an action word names; none for ACT 0 and values no rule allows. -/
def actDest (w : Nat) : Option SwDest :=
  match w % 16 with
  | 1 => some (.port (w / 16 % 64) 0x3FFFF)
  | 2 => some (.queue (w / 16 % 2 ^ 18))
  | 3 => some (.hitch (w / 16 % 2 ^ 24))
  | 4 => some (.port 19 0x3FFFF)
  | _ => none

/-- R199, R200, R205: output port of a destination; none when the port is absent or the hitch is not in the tree. -/
def Dev.outPort (d : Dev) (x : SwDest) : Option Nat :=
  match x with
  | .port p _ => if d.lpPresent p then some p else none
  | .queue q =>
    let p := if d.qExists q then 16 + d.qf q Qctx.OWNER else 16
    if d.lpPresent p then some p else none
  | .hitch u | .inner u => if d.isEngine u && d.present u then d.enginePort (d.topEngine u) else none

/-- R128, R158: a packet and its bytes are counted in entry `i` of the fast-path counter array, or the refusal is. -/
def Dev.countAct (d : Dev) (w len : Nat) : Dev :=
  if w / 2 ^ 52 % 2 = 0 then d
  else
    let i := w / 2 ^ 32 % 2 ^ 20
    let cands := d.tbl.tables.filter (fun t => t.owner = 0 && t.kind = 7 && !t.offline)
    let best := cands.foldl (fun (b : Option Tbl) t => match b with
      | none => some t
      | some x => if t.id < x.id then some t else some x) none
    match best with
    | none => d.swBump Sw.COUNT_REFUSED
    | some t =>
      if t.entryCount ≤ i then d.swBump Sw.COUNT_REFUSED
      else d.putEntry t i 0 [d.ow Cls.tblEntry.code (entKey t.id i) 0 + 1,
        d.ow Cls.tblEntry.code (entKey t.id i) 1 + BitVec.ofNat 64 len]

/-- A packet whose action sets its class takes it (R128). -/
def Pkt.withAct (p : Pkt) (w : Nat) : Pkt := if w / 2 ^ 31 % 2 = 1 then p.ms Meta.CLASS (w / 2 ^ 28 % 8) else p

/-- R198: a packet enters the path to the switch core at an input. A network input whose 64 KiB FIFO has no room drops
it. -/
def Dev.toSwitch (d : Dev) (p : Pkt) (input : Nat) (dest : SwDest) : Dev :=
  let waiting := ((d.sw.wire.filter (fun x => x.input = input)).map (fun x => x.pkt.data.length)).foldl (· + ·) 0
  if dropInput input && decide (65536 < waiting + p.data.length) then d.swBump Sw.INPUT_OVERRUN
  else
    let x : SwPkt := { id := d.sw.nextId, pkt := p, input := input, dest := dest
                       crypto := if p.mg CryReq.OP = 0 then 0 else 1, out := 0, cells := 0 }
    ({ d with sw := { d.sw with wire := d.sw.wire ++ [x], nextId := d.sw.nextId + 1 } }).wakeUnit switchId

/-! ### Free space, thresholds and lossless classes (R204, R207, R208) -/

/-- Free cells C. -/
def Dev.freeCells (d : Dev) : Nat := d.sf Sw.SC_STATUS_FREE_CELLS

/-- Field of class `c` of logical port `p`. -/
def Dev.cf (d : Dev) (p c : Nat) (f : Fld) : Nat := d.g (swcUnit p c) f

/-- Set a field of class `c` of logical port `p`. -/
def Dev.setCf (d : Dev) (p c : Nat) (f : Fld) (v : Nat) : Dev := d.s (swcUnit p c) f v

/-- R204: floor of 2^(a − 8) × F. -/
def alphaOf (a f : Nat) : Nat := 2 ^ a * f / 256

/-- R207: class `c` is lossless for packets that enter from port `p`. -/
def Dev.lossless (d : Dev) (p c : Nat) : Bool := decide (p < 16) && d.g (swpUnit p) Swp.LP_IN_CFG_LOSSLESS / 2 ^ c % 2 = 1

/-- The lossless pairs. -/
def Dev.pairs (d : Dev) : List (Nat × Nat) :=
  (List.range 16).flatMap (fun p => ((List.range 8).filter (fun c => d.lossless p c)).map (fun c => (p, c)))

/-- R207: XOFF point X of a pair with shared free count `f`. -/
def Dev.xoffPoint (d : Dev) (p c f : Nat) : Nat :=
  min (d.cf p c Swc.IN_PFC_XOFF_CELLS) (alphaOf (d.cf p c Swc.IN_PFC_IN_ALPHA_LOG2) f)

/-- R208: unused headroom HR, given F. -/
def Dev.headroomLeft (d : Dev) (prs : List (Nat × Nat)) (f : Nat) : Nat :=
  (prs.map (fun (p, c) => d.cf p c Swc.IN_PFC_HEADROOM - (d.cf p c Swc.IN_STATUS_INGRESS - d.xoffPoint p c f))).foldl
    (· + ·) 0

/-- Bisection for the largest F in [lo, lo + 2^n − 1] with F + HR(F) at most C, given that `lo` has it. -/
def Dev.searchFree (d : Dev) (prs : List (Nat × Nat)) : Nat → Nat → Nat
  | 0, lo => lo
  | n + 1, lo =>
    let m := lo + 2 ^ n
    if m + d.headroomLeft prs m ≤ d.freeCells then d.searchFree prs n m else d.searchFree prs n lo

/-- R204, R207, R208: the shared free count F. R204 gives F by HR and R208 gives HR by F: the model takes the greatest F
that both allow (assumption 13). -/
def Dev.sharedFree (d : Dev) : Nat :=
  let prs := d.pairs
  if prs.isEmpty then d.freeCells
  else if d.freeCells < d.headroomLeft prs 0 then 0
  else d.searchFree prs 19 0

/-- R204: threshold T of output queue (`p`, `c`). -/
def Dev.threshold (d : Dev) (p c : Nat) : Nat :=
  min (d.cf p c Swc.Q_LIMITS_CEIL) (max (d.cf p c Swc.Q_LIMITS_FLOOR) (alphaOf (d.cf p c Swc.Q_ADMIT_ALPHA_LOG2) d.sharedFree))

/-- XOFF_ENTER, XOFF_EXIT, R207: every pair's XOFF follows its cells, and the MAC is told. SHARED_FREE shows F. -/
def Dev.syncShared (d : Dev) : Dev :=
  let f := d.sharedFree
  let d := d.setSf Sw.SC_STATUS_SHARED_FREE f
  d.pairs.foldl (fun d (p, c) =>
    let x := d.xoffPoint p c f
    let i := d.cf p c Swc.IN_STATUS_INGRESS
    let old := d.g (swpUnit p) Swp.LP_XOFF_XOFF
    let on := old / 2 ^ c % 2 = 1
    let new := if !on && decide (x ≤ i) then old + 2 ^ c
      else if on && decide (i + d.cf p c Swc.IN_PFC_XON_DELTA ≤ x) then old - 2 ^ c else old
    if new = old then d
    else ((d.s (swpUnit p) Swp.LP_XOFF_XOFF new).setMac p (fun (m : MacSt) => { m with swXoff := new })).syncXoff p) d

/-! ### Encapsulation (R213, R214) -/

/-- A big-endian field at offset `o`. -/
def putBe (bs : List Byte) (o n v : Nat) : List Byte := spliceBytes bs o (beBytes n v)

/-- R213 step 1: bytes of the Ethernet header with up to two tags. -/
def ethLen (bs : List Byte) : Nat :=
  let tag := fun o => be16 bs o = 0x8100 || be16 bs o = 0x88A8
  if tag 12 then (if tag 16 then 22 else 18) else 14

/-- R213 step 5: ECN of the IP header a packet records at OUTER_L3_OFF. -/
def Pkt.ecn (p : Pkt) : Option Nat :=
  let o := p.mg Meta.OUTER_L3_OFF
  let b0 := (p.data.getD o 0).toNat
  let b1 := (p.data.getD (o + 1) 0).toNat
  if o = 0xFFFF then none
  else if b0 / 16 = 4 then some (b1 % 4)
  else if b0 / 16 = 6 then some (b1 / 16 % 4)
  else none

/-- Write an ECN field in the IP header at `o`. -/
def setEcn (bs : List Byte) (o : Nat) (v6 : Bool) (e : Nat) : List Byte :=
  let b1 := (bs.getD (o + 1) 0).toNat
  spliceBytes bs (o + 1) [BitVec.ofNat 8 (if v6 then b1 - b1 / 16 % 4 * 16 + e * 16 else b1 - b1 % 4 + e)]

/-- R213, R214: the packet with its template in front, or none when a rule of R214 drops it. -/
def encapPkt (t : List Byte) (m12 ident : Nat) (p : Pkt) : Option Pkt :=
  let kind := m12 / 2 ^ 24 % 8
  let id := m12 / 2 ^ 32 % 2 ^ 24
  let hl := (t.getD 0 0).toNat
  let l3 := (t.getD 1 0).toNat
  let v6 := (t.getD 2 0).toNat % 2 = 1
  let u := if v6 then l3 + 40 else l3 + 20
  let last := if kind = 1 ∨ kind = 2 then u + 15 else if kind = 4 then u + 11 else if v6 then l3 + 6 else l3 + 12
  let inner := if kind = 3 ∨ kind = 4 then p.data.drop (ethLen p.data) else p.data
  let n := hl + inner.length
  if hl < 34 ∨ 120 < hl ∨ ¬ (l3 = 14 ∨ l3 = 18) ∨ 2 ≤ (t.getD 2 0).toNat ∨ (t.drop 3).take 5 ≠ List.replicate 5 0 ∨ hl < last ∨
      16383 < n ∨ m12 / 2 ^ 27 % 32 ≠ 0 ∨ m12 / 2 ^ 56 ≠ 0 then none
  else
    let b := (t.drop 8).take hl ++ inner
    let b := match p.ecn with
      | some e => setEcn b l3 v6 e
      | none => b
    let b := if v6 then putBe b (l3 + 4) 2 (n - l3 - 40)
      else
        let b := putBe (putBe (putBe b (l3 + 2) 2 (n - l3)) (l3 + 4) 2 ident) (l3 + 10) 2 0
        putBe b (l3 + 10) 2 (inetSum (sliceBytes b l3 20))
    let b := if kind = 3 then b
      else
        let b := putBe (putBe (putBe b u 2 (49152 + p.mg Meta.FLOW_HASH % 16384)) (u + 4) 2 (n - u)) (u + 6) 2 0
        let b := if kind = 4 then putBe b (u + 8) 3 (id % 2 ^ 20 * 16 + id / 2 ^ 20 % 8 * 2 + 1) else putBe b (u + 12) 3 id
        if v6 then
          let c := inetSum (sliceBytes b (l3 + 8) 32 ++ beBytes 4 (n - u) ++ beBytes 4 17 ++ b.drop u)
          putBe b (u + 6) 2 (if c = 0 then 65535 else c)
        else b
    let q := { p with data := b }
    let q := ((((q.ms Meta.PKT_LEN n).ms Meta.OUTER_L2_OFF 0).ms Meta.OUTER_L3_OFF l3).ms Meta.OUTER_L4_OFF
      (if kind = 3 then 0xFFFF else u)).ms Meta.TUNNEL_OFF (if kind = 3 then 0xFFFF else u + 8)
    some (q.ms ⟨12, 24, 3⟩ 0)

/-- ENCAP, R213: a packet whose m12 asks for it is encapsulated; none when it is dropped and counted. -/
def Dev.encap (d : Dev) (p : Pkt) : Dev × Option Pkt :=
  let m12 := (p.m.getD 12 0).toNat
  if m12 / 2 ^ 24 % 8 = 0 then (d, some p)
  else
    let fail := (d.swBump Sw.ENCAP_DROP, none)
    match d.table (d.sf Sw.SC_CFG_ENCAP_TABLE) with
    | none => fail
    | some t =>
      if t.kind ≠ 8 || t.owner ≠ 0 || t.entryBytes ≠ 128 || t.offline || decide (5 ≤ m12 / 2 ^ 24 % 8) ||
          decide (t.entryCount ≤ m12 % 2 ^ 24) then fail
      else
        let tm := ofWords (d.entry t (m12 % 2 ^ 24))
        match encapPkt tm m12 d.sw.ident p with
        | none => fail
        | some q =>
          let v6 := (tm.getD 2 0).toNat % 2 = 1
          (if v6 then d else { d with sw := { d.sw with ident := (d.sw.ident + 1) % 65536 } }, some q)

/-! ### Admission (R205 to R209, R215) -/

/-- Outcome of the checks of R205 from order 2 on. -/
inductive Verdict where
  | accept | noBuf | thresh | headroom
  deriving DecidableEq, Repr

/-- R205, R207: the checks for a packet of `n` cells from input `i` in class `c` bound for port `o`. -/
def Dev.verdict (d : Dev) (i o c n : Nat) : Verdict :=
  let f := d.sharedFree
  if d.sf Sw.SC_DESC_FREE_DESC = 0 then .noBuf
  else if d.lossless i c then
    let x := d.xoffPoint i c f
    let held := d.cf i c Swc.IN_STATUS_INGRESS
    if held + n ≤ x then (if n ≤ f then .accept else .noBuf)
    else if held + n ≤ x + d.cf i c Swc.IN_PFC_HEADROOM ∧ n ≤ d.freeCells then .accept
    else .headroom
  else if f < n then .noBuf
  else if d.threshold o c < d.cf o c Swc.Q_STATUS_CELLS + n then .thresh
  else .accept

/-- R203, R207: a packet leaves the buffer: its cells and descriptor are free again. -/
def Dev.release (d : Dev) (x : SwPkt) : Dev :=
  let c := x.cls
  let d := { d with sw := { d.sw with queued := d.sw.queued.filter (fun y => y.id ≠ x.id) } }
  let d := (d.setSf Sw.SC_STATUS_FREE_CELLS (d.freeCells + x.cells)).setSf Sw.SC_DESC_FREE_DESC (d.sf Sw.SC_DESC_FREE_DESC + 1)
  let d := d.setCf x.out c Swc.Q_STATUS_CELLS (d.cf x.out c Swc.Q_STATUS_CELLS - x.cells)
  let d := if x.input < 16 then d.setCf x.input c Swc.IN_STATUS_INGRESS (d.cf x.input c Swc.IN_STATUS_INGRESS - x.cells) else d
  d.syncShared

/-- The oldest packet of output queue (`o`, `c`). -/
def Dev.headOf (d : Dev) (o c : Nat) : Option SwPkt := d.sw.queued.find? (fun x => x.out = o && x.cls = c)

/-- R234: frames at the head of class `c` of network port `p` that its operating list could never let start are dropped; `n` bounds
how many. -/
def Dev.headCheck (d : Dev) (p c : Nat) : Nat → Dev
  | 0 => d
  | n + 1 =>
    match d.headOf p c with
    | none => d
    | some x =>
      if decide (p < 16) && d.oversize p c x then
        Dev.headCheck ((((d.release x).add (swcUnit p c) Swc.DEQ_PKTS 1).add (wsUnit p) Ws.GATE_OVERSIZE_DROP 1).newHead p c) p c n
      else d

/-- R234: the head of every class of port `p` is checked. -/
def Dev.dropOversize (d : Dev) (p : Nat) : Dev :=
  (List.range 8).foldl (fun (d : Dev) c => d.headCheck p c d.sw.queued.length) d

/-- R205, R209: a packet is admitted to queue (`o`, its class): cells and a descriptor are taken, and it is marked where
the queue stands at or above MARK_CELLS. One that finds its class empty has reached its head (R234); one that waits for a quiet function
may wake its host (R309). -/
def Dev.enqueue (d : Dev) (x : SwPkt) (o : Nat) : Dev :=
  let c := x.cls
  let n := cellsOf x.pkt.data.length
  let lq := d.cf o c Swc.Q_STATUS_CELLS
  let mark := d.cf o c Swc.Q_MARK_MARK_CELLS ≠ 0 && decide (d.cf o c Swc.Q_MARK_MARK_CELLS ≤ lq)
  let d := if mark then d.add (swcUnit o c) Swc.MARKED 1 else d
  let p := if mark then x.pkt.ms Meta.CE_MARK 1 else x.pkt
  let d := (d.setSf Sw.SC_STATUS_FREE_CELLS (d.freeCells - n)).setSf Sw.SC_DESC_FREE_DESC (d.sf Sw.SC_DESC_FREE_DESC - 1)
  let d := (d.setCf o c Swc.Q_STATUS_CELLS (lq + n)).add (swcUnit o c) Swc.ENQ_PKTS 1
  let d := if x.input < 16 then d.setCf x.input c Swc.IN_STATUS_INGRESS (d.cf x.input c Swc.IN_STATUS_INGRESS + n) else d
  let d := { d with sw := { d.sw with queued := d.sw.queued ++ [{ x with pkt := p, out := o, cells := n }] } }
  let d := if o = 16 ∨ o = 17 then d.wakeHost (o - 16) else d
  d.syncShared.headCheck o c 1

/-- R202, R206: a packet with the same input, output and class waits ahead of `x` in list `l`. -/
def Dev.behind (d : Dev) (l : List SwPkt) (x : SwPkt) : Bool :=
  l.any (fun y => y.input = x.input && y.cls = x.cls && d.outPort y.dest = d.outPort x.dest)

/-- The switch core takes packets: it is not in UNIT_RESET (R198). -/
def Dev.swOpen (d : Dev) : Bool := d.takesWork switchId

/-- R198, R205, R206: the source of a packet stalls: the switch core takes none, or the packet would wait behind one that is held. -/
def Dev.stalled (d : Dev) (p : Pkt) (input : Nat) (dest : SwDest) : Bool :=
  !d.swOpen || d.behind d.sw.held
    { id := 0, pkt := p, input := input, dest := dest, crypto := 0, out := 0, cells := 0 }

/-- R205: the switch core would refuse a packet from `input` now. -/
def Dev.refused (d : Dev) (p : Pkt) (input : Nat) (dest : SwDest) : Bool :=
  match d.outPort dest with
  | none => false
  | some o => d.verdict input o (p.mg Meta.CLASS) (cellsOf p.data.length) ≠ .accept

/-- R205, R206: packet `x`, encapsulated if it asked for it, is admitted, dropped or held. -/
def Dev.accept (d : Dev) (x : SwPkt) : Dev :=
  match d.outPort x.dest with
  | none => d.swBump Sw.NO_PORT_DROP
  | some o =>
    let c := x.cls
    match d.verdict x.input o c (cellsOf x.pkt.data.length) with
    | .accept => d.enqueue x o
    | .headroom => d.add (swcUnit x.input c) Swc.HEADROOM_DROP 1
    | v =>
      if dropInput x.input || x.input = 20 then
        d.add (swcUnit o c) (if v = .thresh then Swc.DROP_THRESH else Swc.DROP_NOBUF) 1
      else { d with sw := { d.sw with held := d.sw.held ++ [x] } }

/-- R151, R152: a packet enters the dispatch FIFO of engine hitch `h`, if it has room, and takes a tag there, under the tag
`up` of the enclosing hitch when it was dispatched by one. -/
def Dev.enterFifo (d : Dev) (h : Nat) (p : Pkt) (up : Option (Nat × Nat)) : Dev :=
  match d.ehs.find? (fun x => x.id = h) with
  | none => d
  | some e =>
    let mode := d.gk h Eh.EH_CFG_REORDER_MODE
    let cls := if mode = 0 then 0 else if mode = 1 then p.mg Meta.CLASS else p.mg Meta.ORDER_KEY
    let r : TagRec :=
      { tag := e.next, cls := cls, up := up, done := false, outs := []
        first := if e.tags.any (fun (r : TagRec) => r.cls = cls) then none else some d.time }
    let e' := { e with fifo := e.fifo ++ [(e.next, p)], next := e.next + 1, tags := e.tags ++ [r] }
    let d := { d with ehs := d.ehs.map (fun (x : EhSt) => if x.id = h then e' else x) }
    let d := (d.sk h Eh.REORDER_STATUS_FIFO_DEPTH e'.fifo.length).addk h Eh.PKTS_IN 1
    d.sk h Eh.REORDER_STATUS_TAGS_OUT ((e'.tags.filter (fun (r : TagRec) => !r.done)).length)

/-- R151, R152: hitch `h` can take a packet: its dispatch FIFO has room, and a tag is left of the 4,096. -/
def Dev.fifoRoom (d : Dev) (h : Nat) : Bool :=
  match d.ehs.find? (fun x => x.id = h) with
  | none => false
  | some e => decide (e.fifo.length < 256) && decide ((e.tags.filter (fun (r : TagRec) => !r.done)).length < 4096)

/-- R151: the backlog of engine hitch `h`: the packets in its dispatch FIFO and, for the hitch of a logical port, those queued for
that port in the switch core. -/
def Dev.backlog (d : Dev) (h : Nat) : Nat :=
  ((d.ehs.find? (fun x => x.id = h)).map (fun (x : EhSt) => x.fifo.length)).getD 0 +
    (match d.enginePort h with
     | some p => (d.sw.queued.filter (fun x => x.out = p)).length
     | none => 0)

/-- R199, R201, R206: a packet that firmware of a management core has built, with its metadata and an action word in the format of
R128, reaches input 23; it is not taken while that input stalls. -/
def Dev.coreBuilt (d : Dev) (data : List Byte) (m : List Word) (w : Nat) : Dev :=
  match actDest w with
  | none => d
  | some x =>
    let p : Pkt := { Pkt.blank with data := data, m := (List.range 16).map (fun i => m.getD i 0) }
    let p := (p.withAct w).ms Meta.PKT_LEN data.length
    if d.stalled p 23 x then d else d.toSwitch p 23 x

/-- PACKET_ADMIT, R205, R206, R213: the next packet of input `i` that waits for no crypto tile and behind no packet of its
input, output and class enters the switch core. A packet bound inside the subtree it comes from enters its hitch. `built`: at
input 23, a packet that a management core has built by then (assumption 127). -/
def packetAdmit (i : Nat) (built : Option (List Byte × List Word × Nat)) (d : Dev) : Dev :=
  let d := match built with
    | some (data, m, w) => if i = 23 then d.coreBuilt data m w else d
    | none => d
  let ok := fun (x : SwPkt) => x.input = i && x.crypto = 0 && !d.behind d.sw.held x &&
    !d.behind (d.sw.wire.takeWhile (fun y => y.id ≠ x.id)) x
  match d.sw.wire.find? ok with
  | none => d
  | some x =>
    let rest := { d with sw := { d.sw with wire := d.sw.wire.filter (fun y => y.id ≠ x.id) } }
    match x.dest with
    | .inner u => if d.isEngine u && d.present u then (if d.fifoRoom u then rest.enterFifo u x.pkt none else d)
        else rest.swBump Sw.NO_PORT_DROP
    | _ =>
      if !d.swOpen then d
      else match rest.encap x.pkt with
        | (d, none) => d
        | (d, some p) => d.accept { x with pkt := p }

/-- PACKET_ADMIT: `port` is the input, with what a management core has built there. -/
def execPacketAdmit (port : Nat × Option (List Byte × List Word × Nat)) (s : State) :
    Host.Outcome State Fault Refusal := s.run (packetAdmit port.1 port.2)

/-- HELD_RETRY, R206: the oldest held packet of input `i` in class `c` bound for output `o` is tried again; it stays at
its place when it is refused. -/
def heldRetry (i o c : Nat) (d : Dev) : Dev :=
  match d.sw.held.find? (fun x => x.input = i && x.cls = c && (d.outPort x.dest = some o || (d.outPort x.dest).isNone)) with
  | none => d
  | some x =>
    let rest := { d with sw := { d.sw with held := d.sw.held.filter (fun y => y.id ≠ x.id) } }
    if !d.swOpen then d
    else match d.outPort x.dest with
      | none => rest.swBump Sw.NO_PORT_DROP
      | some o =>
        if rest.verdict x.input o c (cellsOf x.pkt.data.length) = .accept then rest.enqueue x o else d

/-- HELD_RETRY. -/
def execHeldRetry (i o c : Nat) (s : State) : Host.Outcome State Fault Refusal := s.run (heldRetry i o c)

/-! ### Readers (R203, R209, R215) -/

/-- R203: the class the reader of port `o` serves next: the first that is not empty after the one it served last. -/
def Dev.nextClass (d : Dev) (o : Nat) : Option Nat :=
  let last := ((d.sw.rr.find? (fun x => x.1 = o)).map (·.2)).getD 7
  ((List.range 8).map (fun k => (last + 1 + k) % 8)).find? (fun c => (d.headOf o c).isSome)

/-- R203, R508: the packet at the head of (`o`, `c`) is read: it leaves the buffer, poisoned if the read met
an uncorrectable error (R215) or bad parity (R503). -/
def Dev.readHead (d : Dev) (x : SwPkt) (bad : Option ReadFault) : Dev × Pkt :=
  let d := (d.release x).add (swcUnit x.out x.cls) Swc.DEQ_PKTS 1
  let d := d.headCheck x.out x.cls d.sw.queued.length
  match bad with
  | some (.mesh a) => (d.meshErr switchId a).poisoned x.pkt
  | some (.cell a) => (((d.uncorr switchId 3 a).swBump Sw.ECC_UNCORR).raise switchId 0x0005 0 (a % 2 ^ 48)).poisoned x.pkt
  | none => (d, x.pkt)

/-- R94, R107: a packet on port 19 goes to the prism that parsed it first, or to prism 2, as a recirculated packet. -/
def Dev.recirculate (d : Dev) (p : Pkt) : Dev :=
  d.toPrism (p.prism.getD 2) ((p.ms Meta.SRC_KIND 2).ms Meta.SRC_ID 0)

/-- R199, R203, R361: what the reader of port `o` does with a packet. -/
def Dev.deliver (d : Dev) (o : Nat) (x : SwPkt) (p : Pkt) : Dev :=
  if o = 16 ∨ o = 17 then
    let q := match x.dest with
      | .port _ q => q
      | .queue q => q
      | _ => 0
    let sl := d.qf q Qctx.SLICE
    if d.qExists q && d.qf q Qctx.KIND = 2 && d.sliceFrozen sl then d.cadd .slice sl Slc.FROZEN_RX_DROPS 1
    else ({ d with sw := { d.sw with hostRx := d.sw.hostRx ++ [(q, p)] } }).wakeUnit (dmaOf q)
  else if p.poison && o ≠ 18 then d
  else if o = 19 then d.recirculate p
  else if o = 21 then { d with sw := { d.sw with transport := d.sw.transport ++ [p] } }
  else if o = 22 then { d with sw := { d.sw with storage := d.sw.storage ++ [p] } }
  else if o = 23 then { d with sw := { d.sw with mgmt := d.sw.mgmt ++ [p] } }
  else match x.dest with
    | .hitch u => d.enterFifo u p none
    | _ => d.enterFifo (d.g (swpUnit o) Swp.LP_INFO_UNIT) p none

/-- R26, R64, R151, R309: the reader of port `o` can take the packet: the hitch named, or the port's own, takes work and has room;
the function of a host port is not quiet. -/
def Dev.readerRoom (d : Dev) (o : Nat) (x : SwPkt) : Bool :=
  if o = 16 ∨ o = 17 then !d.quiet (o - 16)
  else if o < 24 then true
  else match x.dest with
    | .hitch u => (d.takesWork u && d.fifoRoom u) || !(d.isEngine u && d.present u)
    | _ => d.takesWork (d.g (swpUnit o) Swp.LP_INFO_UNIT) && d.fifoRoom (d.g (swpUnit o) Swp.LP_INFO_UNIT)

/-- R203: ports whose reader is not a scheduler and not the replication stage. -/
def plainReader (o : Nat) : Bool := o = 16 || o = 17 || o = 19 || (decide (21 ≤ o) && decide (o < 48))

/-- PACKET_DEQUEUE, R203: the reader of port `o` takes one packet from the next class that holds one. `bad`: what its
read met. -/
def packetDequeue (o : Nat) (bad : Option ReadFault) (d : Dev) : Dev :=
  if !plainReader o || !d.swOpen || !d.lpPresent o then d
  else match d.nextClass o with
    | none => d
    | some c =>
      match d.headOf o c with
      | none => d
      | some x =>
        if !d.readerRoom o x then d
        else
          let d := { d with sw := { d.sw with rr := (o, c) :: d.sw.rr.filter (fun y => y.1 ≠ o) } }
          let (d, p) := d.readHead x bad
          d.deliver o x p

/-- PACKET_DEQUEUE. -/
def execPacketDequeue (o : Nat) (bad : Option ReadFault) (s : State) : Host.Outcome State Fault Refusal :=
  s.run (packetDequeue o bad)

/-- R209: the egress rewrite of a packet that carries CE_MARK. -/
def Pkt.applyCe (p : Pkt) : Pkt :=
  let o := p.mg Meta.OUTER_L3_OFF
  let b0 := (p.data.getD o 0).toNat
  let b1 := (p.data.getD (o + 1) 0).toNat
  let ihl := b0 % 16
  if p.mg Meta.CE_MARK = 0 || o = 0xFFFF then p
  else if b0 / 16 = 4 && decide (5 ≤ ihl) && decide (o + 4 * ihl ≤ p.data.length) then
    (if b1 % 4 = 1 || b1 % 4 = 2 then
      let b := putBe (setEcn p.data o false 3) (o + 10) 2 0
      { p with data := putBe b (o + 10) 2 (inetSum (sliceBytes b o (4 * ihl))) }
    else p)
  else if b0 / 16 = 6 && decide (o + 40 ≤ p.data.length) then
    (if b1 / 16 % 4 = 1 || b1 / 16 % 4 = 2 then { p with data := setEcn p.data o true 3 } else p)
  else p

/-! ### Replication (R210 to R212) -/

/-- The copy words of a group. -/
def copyWords (ws : List Word) : List Word :=
  ws.flatMap (fun w => [BitVec.ofNat 64 (getBits w 0 32), BitVec.ofNat 64 (getBits w 32 32)])

/-- R211, R212: one copy word makes its copy of packet `p`. -/
def Dev.makeCopy (d : Dev) (p : Pkt) (w : Word) : Dev :=
  let g := fun f => wget [w] f
  if g Copy.VALID = 0 then d
  else if 48 ≤ g Copy.PORT ∨ getBits w 28 3 ≠ 0 then d.swBump Sw.REPL_BAD
  else
    let q := if g Copy.CLASS_SET = 1 then p.ms Meta.CLASS (g Copy.CLASS) else p
    let pass := p.mg Meta.REPL_PASS
    let x : SwPkt :=
      { id := d.sw.nextId, pkt := q, input := 20, dest := .port (g Copy.PORT) (g Copy.QUEUE), crypto := 0, out := 0
        cells := 0 }
    let d := { d with sw := { d.sw with nextId := d.sw.nextId + 1 } }
    if g Copy.PORT = 20 then
      if 8 ≤ pass + 1 then d.swBump Sw.REPL_DEPTH_DROP
      else d.accept { x with pkt := (q.ms Meta.REPL_GROUP (g Copy.QUEUE)).ms Meta.REPL_PASS (pass + 1) }
    else d.accept x

/-- REPLICATE, R211: the replication stage reads a packet from port 20 and makes the copies its group lists. -/
def replicate (bad : Option ReadFault) (d : Dev) : Dev :=
  if !d.swOpen || !d.lpPresent 20 then d
  else match d.nextClass 20 with
    | none => d
    | some c =>
      match d.headOf 20 c with
      | none => d
      | some x =>
        let d := { d with sw := { d.sw with rr := (20, c) :: d.sw.rr.filter (fun y => y.1 ≠ 20) } }
        let (d, p) := d.readHead x bad
        if bad.isSome then d
        else match d.table (d.sf Sw.SC_CFG_REPL_TABLE) with
          | none => d.swBump Sw.REPL_BAD
          | some t =>
            if t.kind ≠ 8 || t.owner ≠ 0 || t.offline || decide (t.entryCount ≤ p.mg Meta.REPL_GROUP) then d.swBump Sw.REPL_BAD
            else (copyWords (d.entry t (p.mg Meta.REPL_GROUP))).foldl (fun d w => d.makeCopy p w) d

/-- REPLICATE. -/
def execReplicate (bad : Option ReadFault) (s : State) : Host.Outcome State Fault Refusal := s.run (replicate bad)

end Sys2Proof.Machine
end

