-- ==== Sys2Proof/Machine/Entropy.lean ====
section
/-! DEFINITION. The entropy source, its DRBG and the requests it serves (R260 to R265). -/

namespace Sys2Proof.Machine

/-- ENT_STATUS.STATE: 1 STARTUP, 2 SEEDED, 3 RESTARTING, 4 FAILED. -/
def Dev.entState (d : Dev) : Nat := d.g rootId Root.ENT_STATUS_STATE

/-- Set ENT_STATUS.STATE. -/
def Dev.setEnt (d : Dev) (v : Nat) : Dev := d.s rootId Root.ENT_STATUS_STATE v

/-- ENT_STATUS.WAITING shows the requests that wait. -/
def Dev.syncEnt (d : Dev) : Dev := d.s rootId Root.ENT_STATUS_WAITING d.cry.reqs.length

/-- Change what the entropy source keeps. -/
def Dev.setCry (d : Dev) (f : CrySt → CrySt) : Dev := { d with cry := f d.cry }

/-! ### Samples and the health tests (R260) -/

/-- R260: the health tests take one sample. They fail it by the repetition count test (1), at the 41st equal sample in a row, or by
the adaptive proportion test (2), when a window of 1,024 closes with its first sample 794 times or more (assumption 138). -/
def EntTest.feed (t : EntTest) (b : Bool) : EntTest × Nat :=
  let run := if t.last = some b then t.run + 1 else 1
  let first := if t.pos = 0 then b else t.first
  let same := (if t.pos = 0 then 0 else t.same) + (if b = first then 1 else 0)
  ({ last := some b, run := run, pos := (t.pos + 1) % 1024, first := first, same := same },
    if 41 ≤ run then 1 else if t.pos = 1023 ∧ 794 ≤ same then 2 else 0)

/-- R260: the health tests take samples in order, up to the first that fails: the tests after it, how many passed, and the test that
failed (0 none). -/
def EntTest.feedAll : EntTest → List Bool → EntTest × Nat × Nat
  | t, [] => (t, 0, 0)
  | t, b :: bs =>
    let (t, f) := t.feed b
    if f ≠ 0 then (t, 0, f)
    else
      let (t, n, f) := t.feedAll bs
      (t, n + 1, f)

/-! ### The DRBG (R261) -/

/-- R261: reseeding is due: DRBG_RESEED_DUE has said so, or 65,536 generate calls or 100 ms have gone by since the last seed. -/
def Dev.reseedDue (d : Dev) : Bool :=
  d.cry.due || decide (65536 ≤ d.cry.gens) || decide (d.cry.seedAt + 100000000 ≤ d.time)

/-- R261: the pool holds the samples of a seed. -/
def Dev.poolFull (d : Dev) : Bool := decide (1536 ≤ d.cry.pool.length)

/-- R261: a seed is made of 1,536 samples of the pool, and instantiates or reseeds the DRBG. -/
def Dev.reseed (d : Dev) : Dev :=
  (d.setCry (fun (c : CrySt) => { c with
    seeded := true, due := false, gens := 0, seedAt := d.time, pool := c.pool.drop 1536 })).bump Root.ENT_SEEDS

/-- R261, R263: a generate call can be made now: the DRBG is seeded, and where a reseed must precede the call, by `must` or because it
is due, the pool holds its samples. -/
def Dev.drbgReady (d : Dev) (must : Bool) : Bool :=
  d.entState = 2 && d.cry.seeded && (!(must || d.reseedDue) || d.poolFull)

/-- R261: one generate call, of at most 64 bytes, with the reseed that must precede it. -/
def Dev.drbg (d : Dev) (must : Bool) (n : Nat) : Dev × List Byte :=
  let d := if must || d.reseedDue then d.reseed else d
  (d.setCry (fun (c : CrySt) => { c with drawn := c.drawn + 1, gens := c.gens + 1 }), Config.drbgBytes d.cry.drawn n)

/-- R262: the DRBG fills the 16 entries of the RNG_DATA buffer. -/
def Dev.fillRng (d : Dev) : Nat → Dev
  | 0 => d
  | n + 1 =>
    if !d.drbgReady false || decide (16 ≤ d.cry.rng.length) then d
    else
      let (d, b) := d.drbg false 4
      (d.setCry (fun (c : CrySt) => { c with rng := c.rng ++ [leNat b % 2 ^ 32] })).fillRng n

/-! ### Failures and restarts (R263) -/

/-- R263, R323: a request ends without entropy. -/
def Dev.noEntropy (d : Dev) (r : EntReq) : Dev :=
  let d := d.bump Root.ENT_NO_ENTROPY
  let d := match r.adm with
    | some i => d.admEnd r.pf i Sc.noEntropy 0
    | none => d
  match r.spdm with
  | some body => d.spdmError r.pf 0x05 body
  | none => d

/-- R263: one more restart begins. -/
def Dev.entRestartNow (d : Dev) : Dev :=
  (((d.setEnt 3).add rootId Root.ENT_STATUS_RESTARTS 1).bump Root.ENT_RESTARTS).setCry
    (fun (c : CrySt) => { c with tested := false, started := 0 })

/-- R263: the source has FAILED: every request ends. -/
def Dev.entFailed (d : Dev) : Dev :=
  let d := d.cry.reqs.foldl (fun (d : Dev) r => d.noEntropy r) d
  ((d.setCry (fun (c : CrySt) => { c with reqs := [], tested := false })).setEnt 4).syncEnt

/-- R263: a restart's test fails: another begins while fewer than 3 were made and 1 ms has not passed. -/
def Dev.restartFails (d : Dev) : Dev :=
  if d.g rootId Root.ENT_STATUS_RESTARTS < 3 ∧ d.time - d.cry.failAt < 1000000 then d.entRestartNow else d.entFailed

/-- R263, R265: a failed test is recorded: 1 repetition count, 2 adaptive proportion. -/
def Dev.noteTest (d : Dev) (test : Nat) : Dev :=
  (d.bump (if test = 1 then Root.ENT_RCT_FAIL else Root.ENT_APT_FAIL)).s rootId Root.ENT_STATUS_LAST_FAIL test

/-- R263, R264: the pool, the RNG_DATA buffer and the bytes of requests not yet written are cleared, and the DRBG is unseeded. -/
def CrySt.flushed (c : CrySt) : CrySt :=
  { c with seeded := false, due := false, gens := 0, rng := [], pool := [], test := EntTest.init, started := 0
           reqs := c.reqs.map (fun (r : EntReq) => { r with gen := [], fresh := false }) }

/-- R263: pool, buffers and generated bytes are flushed and the DRBG is unseeded; requests that lose bytes count. -/
def Dev.entFlush (d : Dev) : Dev :=
  let n := (d.cry.reqs.filter (fun (r : EntReq) => !r.gen.isEmpty)).length
  (d.setCry CrySt.flushed).add rootId Root.ENT_DISCARDED n

/-- R263: health test `test` fails. Outside a sequence of restarts it begins one. -/
def Dev.entFailure (d : Dev) (test : Nat) : Dev :=
  let d := (d.noteTest test).entFlush
  if d.entState = 3 then d.restartFails
  else
    let d := (d.setCry (fun (c : CrySt) => { c with failAt := d.time })).s rootId Root.ENT_STATUS_RESTARTS 0
    d.entRestartNow.raise rootId 0x0505 0 test

/-- R260, R261: the source has delivered `samples` since its startup test: those that pass go to the raw pool, up to 4,096; the first
that fails a test ends the run. -/
def Dev.takeSamples (d : Dev) (samples : List Bool) : Dev :=
  let (t, n, f) := d.cry.test.feedAll samples
  let d := d.setCry (fun (c : CrySt) => { c with test := t, pool := (c.pool ++ samples.take n).take 4096 })
  if f = 0 then d else d.entFailure f

/-- ENTROPY_TEST_FAIL, R260, R261, R263: the source delivers `samples`, and the first that fails a continuous test is a failure. Before
the startup test has passed, and when the source has FAILED, there is no continuous test. -/
def entropyTestFail (samples : List Bool) (d : Dev) : Dev :=
  if !d.cry.tested || d.entState = 4 then d else d.takeSamples samples

/-- ENTROPY_TEST_FAIL. -/
def execEntropyTestFail (samples : List Bool) (s : State) : Host.Outcome State Fault Refusal := s.run (entropyTestFail samples)

/-- ENTROPY_RESTART_DONE, R260, R263: the startup test in progress takes `samples`: it fails at the first that fails a test, and passes
with its 4,096th, which like the others is discarded. -/
def entropyRestartDone (samples : List Bool) (d : Dev) : Dev :=
  if d.cry.tested || !(d.entState = 1 || d.entState = 3) then d
  else
    let (t, n, f) := d.cry.test.feedAll (samples.take (4096 - d.cry.started))
    if f ≠ 0 then d.entFailure f
    else
      let m := d.cry.started + n
      d.setCry (fun (c : CrySt) => { c with test := t, started := if m = 4096 then 0 else m, tested := decide (m = 4096) })

/-- ENTROPY_RESTART_DONE. -/
def execEntropyRestartDone (samples : List Bool) (s : State) : Host.Outcome State Fault Refusal :=
  s.run (entropyRestartDone samples)

/-- DRBG_SEED, R261, R263: with 1,536 samples in the pool a seed instantiates the DRBG, or reseeds it where that is due. After a
restart the source has recovered. -/
def drbgSeed (d : Dev) : Dev :=
  if !d.cry.tested || !d.poolFull then d
  else if !d.cry.seeded then
    let was := d.entState
    let d := d.reseed.setEnt 2
    (if was = 3 then d.raise rootId 0x0506 0 (d.g rootId Root.ENT_STATUS_RESTARTS) else d).fillRng 16
  else if d.reseedDue then d.reseed.fillRng 16
  else d

/-- DRBG_SEED. -/
def execDrbgSeed (s : State) : Host.Outcome State Fault Refusal := s.run drbgSeed

/-- DRBG_RESEED_DUE, R261. -/
def execDrbgReseedDue (s : State) : Host.Outcome State Fault Refusal :=
  s.run (fun d => if d.cry.seeded then d.setCry (fun (c : CrySt) => { c with due := true }) else d)

/-! ### Requests (R262, R323) -/

/-- R262: a request joins the list; a full list refuses it, and a FAILED source ends it. An SPDM request refused is answered Busy
(assumption 68). -/
def Dev.askRandom (d : Dev) (r : EntReq) : Dev :=
  if d.entState = 4 then d.noEntropy r
  else if 64 ≤ d.cry.reqs.length then
    match r.adm, r.spdm with
    | some i, _ => d.admEnd r.pf i Sc.noResource 0
    | none, some body => d.spdmError r.pf 0x03 body
    | none, none => d
  else (d.setCry (fun (c : CrySt) => { c with reqs := c.reqs ++ [r] })).syncEnt

/-- R323: the responder's requests that have waited for longer than 1 ms are answered Busy and leave the list. -/
def Dev.spdmBusy (d : Dev) : Dev :=
  let late := fun (r : EntReq) => r.spdm.isSome && decide (r.at_ + 1000000 < d.time)
  let d := (d.cry.reqs.filter late).foldl (fun (d : Dev) r => d.spdmError r.pf 0x03 (r.spdm.getD [])) d
  (d.setCry (fun (c : CrySt) => { c with reqs := c.reqs.filter (fun r => !late r) })).syncEnt

/-- R261: a request's bytes are generated in calls of at most 64 B, until it is whole or a call must wait. -/
def Dev.generate (d : Dev) (r : EntReq) : Nat → Dev × EntReq
  | 0 => (d, r)
  | k + 1 =>
    let must := d.on rootId Root.ENT_CTL_PRED_RESIST && !r.fresh
    if r.len ≤ r.gen.length || !d.drbgReady must then (d, r)
    else
      let (d, b) := d.drbg must (min 64 (r.len - r.gen.length))
      d.generate { r with gen := r.gen ++ (List.range (min 64 (r.len - r.gen.length))).map (fun i => b.getD i 0), fresh := true } k

/-- R262, R323: a request whose bytes are all generated is written out whole. `reach`: the host buffer can be reached. -/
def Dev.giveRandom (d : Dev) (r : EntReq) (reach : Bool) : Dev :=
  match r.adm, r.spdm with
  | some i, _ =>
    (match d.admin.find? (fun c => c.pf = r.pf && c.idx = i) with
     | none => d
     | some c => d.admOut c reach r.gen r.len)
  | none, some body => d.spdmReply r.pf 1 body r.gen
  | none, none => d

/-- RANDOM_REQUEST_SERVE, R261 to R263, R323: the oldest request is generated into its buffer, then, when the step comes again,
written out whole. With PRED_RESIST a reseed precedes it. -/
def randomRequestServe (reach : Bool) (d : Dev) : Dev :=
  match d.cry.reqs with
  | [] => d
  | r :: rest =>
    if r.len ≤ r.gen.length then
      ((d.setCry (fun (c : CrySt) => { c with reqs := rest })).syncEnt).giveRandom r reach
    else
      let (d', r') := d.generate r 64
      let d' := d'.setCry (fun (c : CrySt) => { c with reqs := r' :: rest })
      if r'.gen.length < r.len then d'.spdmBusy else d'

/-- RANDOM_REQUEST_SERVE. -/
def execRandomRequestServe (reach : Bool) (s : State) : Host.Outcome State Fault Refusal := s.run (randomRequestServe reach)

/-- RNG_DATA_READ, R262: a read takes a value of the buffer, or finds VALID 0. -/
def rngDataRead (d : Dev) : Dev :=
  match d.cry.rng with
  | [] => (d.emit (.readData 0)).fillRng 16
  | v :: rest =>
    ((d.setCry (fun (c : CrySt) => { c with rng := rest })).emit (.readData (BitVec.ofNat 64 (v + 2 ^ 63)))).fillRng 1

/-- RNG_DATA_READ. -/
def execRngDataRead (s : State) : Host.Outcome State Fault Refusal := s.run rngDataRead

/-- GET_RANDOM, R262, R380. -/
def getRandom (pf idx : Nat) (d : Dev) : Dev :=
  d.admRun pf idx 0x0002 (fun c d => d.askRandom
    { pf := pf, adm := some idx, spdm := none, len := c.len, gen := [], fresh := false, at_ := d.time })

/-- GET_RANDOM. -/
def execGetRandom (pf idx : Nat) (s : State) : Host.Outcome State Fault Refusal := s.run (getRandom pf idx)

/-- ENT_RESTART, R263, R265: writing RESTART while FAILED begins a new sequence of restarts. -/
def entRestart (d : Dev) : Dev :=
  if d.entState = 4 then
    ((d.setCry (fun (c : CrySt) => { c with failAt := d.time })).s rootId Root.ENT_STATUS_RESTARTS 0).entRestartNow
  else d

/-- ENT_RESTART. -/
def execEntRestart (s : State) : Host.Outcome State Fault Refusal := s.run entRestart

end Sys2Proof.Machine
end

