-- ==== Sys2Proof/Machine/EngIsa.lean ====
section
/-! DEFINITION. Engine instruction words: the mnemonics, their opcodes and formats, the legality of their fields, the decoder
and the encoder (R167 to R170, R172 to R192). -/

namespace Sys2Proof.Machine

/-- Mnemonics of the opcode map (R170). -/
inductive EMn where
  | add | sub | andr | orr | xorr | shl | shr | sar | mul | slt
  | sltu | addi | andi | ori | xori | shli | shri | movi | movk | ext
  | exts | ins | hld | hst | hadj | ldw | ldd | stw | std | beq
  | bne | blt | bge | bltu | bgeu | bbs | bbc | jal | jr | csadd
  | cshv | csfin | crcr | crchv | lk | tins | tdel | twr | atomAdd | atomSwp
  | atomCas | cnt | pol | emitCopy | emitFinal | drop | rds
  deriving DecidableEq, Repr

/-- Formats of instruction words as they place their operands (R168). BF words place POS and WM1 where RI words place IMM,
so they share a format here, the pair read as POS * 64 + WM1. -/
inductive EFmt where
  | rr | ri | br | li
  deriving DecidableEq, Repr

/-- R170: opcode, format, first FN value and how many more FN values a mnemonic has. -/
def EMn.info : EMn → Nat × EFmt × Nat × Nat
  | .add => (0x1, .rr, 0x0, 0)
  | .sub => (0x1, .rr, 0x1, 0)
  | .andr => (0x1, .rr, 0x2, 0)
  | .orr => (0x1, .rr, 0x3, 0)
  | .xorr => (0x1, .rr, 0x4, 0)
  | .shl => (0x1, .rr, 0x5, 0)
  | .shr => (0x1, .rr, 0x6, 0)
  | .sar => (0x1, .rr, 0x7, 0)
  | .mul => (0x1, .rr, 0x8, 0)
  | .slt => (0x1, .rr, 0x9, 0)
  | .sltu => (0x1, .rr, 0xa, 0)
  | .addi => (0x2, .ri, 0x0, 0)
  | .andi => (0x3, .ri, 0x0, 0)
  | .ori => (0x4, .ri, 0x0, 0)
  | .xori => (0x5, .ri, 0x0, 0)
  | .shli => (0x6, .ri, 0x0, 0)
  | .shri => (0x7, .ri, 0x0, 0)
  | .movi => (0x8, .li, 0x0, 0)
  | .movk => (0x9, .li, 0x0, 0)
  | .ext => (0xa, .ri, 0x0, 0)
  | .exts => (0xb, .ri, 0x0, 0)
  | .ins => (0xc, .ri, 0x0, 0)
  | .hld => (0xd, .ri, 0x0, 0)
  | .hst => (0xe, .ri, 0x0, 0)
  | .hadj => (0xf, .ri, 0x0, 0)
  | .ldw => (0x10, .ri, 0x0, 0)
  | .ldd => (0x11, .ri, 0x0, 0)
  | .stw => (0x12, .ri, 0x0, 0)
  | .std => (0x13, .ri, 0x0, 0)
  | .beq => (0x14, .br, 0x0, 0)
  | .bne => (0x15, .br, 0x0, 0)
  | .blt => (0x16, .br, 0x0, 0)
  | .bge => (0x17, .br, 0x0, 0)
  | .bltu => (0x18, .br, 0x0, 0)
  | .bgeu => (0x19, .br, 0x0, 0)
  | .bbs => (0x1a, .br, 0x0, 0)
  | .bbc => (0x1b, .br, 0x0, 0)
  | .jal => (0x1c, .li, 0x0, 0)
  | .jr => (0x1d, .rr, 0x0, 0)
  | .csadd => (0x1e, .rr, 0x0, 0)
  | .cshv => (0x1e, .rr, 0x1, 0)
  | .csfin => (0x1e, .rr, 0x2, 0)
  | .crcr => (0x1e, .rr, 0x4, 2)
  | .crchv => (0x1e, .rr, 0x8, 2)
  | .lk => (0x20, .rr, 0x0, 15)
  | .tins => (0x21, .rr, 0x0, 0)
  | .tdel => (0x22, .rr, 0x0, 0)
  | .twr => (0x23, .rr, 0x0, 7)
  | .atomAdd => (0x24, .rr, 0x0, 0)
  | .atomSwp => (0x24, .rr, 0x1, 0)
  | .atomCas => (0x24, .rr, 0x2, 0)
  | .cnt => (0x25, .rr, 0x0, 0)
  | .pol => (0x26, .rr, 0x0, 0)
  | .emitCopy => (0x28, .rr, 0x0, 0)
  | .emitFinal => (0x28, .rr, 0x1, 0)
  | .drop => (0x29, .rr, 0x0, 0)
  | .rds => (0x2a, .rr, 0x0, 3)

/-- An instruction: its mnemonic, the register fields D, A and B, and the rest of its word: the FN value above the first
for RR words, IMM for RI and LI words, POS * 64 + WM1 for BF words, OFF for BR words. -/
structure EngInst where
  op : EMn
  d : Nat
  a : Nat
  b : Nat
  x : Nat
  deriving DecidableEq, Repr

/-- R167: the specifier names a register. -/
def regOk (r : Nat) : Bool := decide (r < 0x30) || (decide (0x40 ≤ r) && decide (r < 0x80))

/-- The specifier names a g register. -/
def regG (r : Nat) : Bool := decide (r < 32)

/-- The specifier names a g or h register. -/
def regGH (r : Nat) : Bool := decide (r < 32) || (decide (0x40 ≤ r) && decide (r < 0x80))

/-- R182: D and the `n` registers after it may receive results. -/
def dstOk (d n : Nat) : Bool := decide (d + n < 32) && (d ≠ 0 || n = 0)

/-- Whether the fields a mnemonic does not use are 0, and the others name registers and values it accepts (R169, R172 to
R192). -/
def EngInst.ok (i : EngInst) : Bool :=
  match i.op with
  | .add | .sub | .andr | .orr | .xorr | .shl | .shr | .sar | .mul | .slt | .sltu | .csadd | .cshv =>
    regOk i.d && regOk i.a && regOk i.b && i.x = 0
  | .crcr | .crchv => regOk i.d && regOk i.a && regOk i.b && decide (i.x ≤ 2)
  | .csfin => regOk i.d && regOk i.a && i.b = 0 && i.x = 0
  | .addi | .andi | .ori | .xori | .ldw | .ldd | .stw | .std => regOk i.d && regOk i.a && i.b = 0 && decide (i.x < 4096)
  | .shli | .shri => regOk i.d && regOk i.a && i.b = 0 && decide (i.x < 64)
  | .movi => regOk i.d && i.a = 0 && i.b = 0 && decide (i.x < 2 ^ 19)
  | .movk => regOk i.d && i.a = 0 && i.b = 0 && decide (i.x < 2 ^ 18)
  | .ext | .exts | .ins =>
    regOk i.d && regOk i.a && i.b = 0 && decide (i.x < 4096) && decide (i.x / 64 + i.x % 64 ≤ 63)
  | .hld | .hst => regOk i.d && regOk i.a && i.b = 0 && decide (i.x < 2048)
  | .hadj => i.d = 0 && regOk i.a && i.b = 0 && decide (i.x < 4096)
  | .beq | .bne | .blt | .bge | .bltu | .bgeu => i.d = 0 && regOk i.a && regOk i.b && decide (i.x < 4096)
  | .bbs | .bbc => i.d = 0 && regOk i.a && decide (i.b < 64) && decide (i.x < 4096)
  | .jal => regG i.d && i.a = 0 && i.b = 0 && decide (i.x < 2 ^ 19)
  | .jr => regG i.d && regOk i.a && i.b = 0 && i.x = 0
  | .lk => dstOk i.d (i.x % 8) && regGH i.a && regOk i.b && decide (i.x < 16)
  | .tins => dstOk i.d 0 && regG i.a && regOk i.b && i.x = 0
  | .tdel => dstOk i.d 0 && regGH i.a && regOk i.b && i.x = 0
  | .twr => dstOk i.d 0 && regG i.a && decide (i.a + i.x < 32) && regOk i.b && decide (i.x < 8)
  | .atomAdd | .atomSwp => dstOk i.d 1 && regG i.a && regOk i.b && i.x = 0
  | .atomCas => dstOk i.d 1 && decide (i.a + 1 < 32) && regOk i.b && i.x = 0
  | .cnt => i.d = 0 && regOk i.a && regOk i.b && i.x = 0
  | .pol => dstOk i.d 0 && regOk i.a && regOk i.b && i.x = 0
  | .emitCopy | .emitFinal => i.d = 0 && regOk i.a && i.b = 0 && i.x = 0
  | .drop => i.d = 0 && i.a = 0 && i.b = 0 && i.x = 0
  | .rds => regOk i.d && i.a = 0 && i.b = 0 && decide (i.x < 4)

/-- R168: the word of an instruction. -/
def encodeInst (i : EngInst) : Nat :=
  let (op, fmt, fn, _) := i.op.info
  match fmt with
  | .rr => op * 2 ^ 26 + i.d * 2 ^ 19 + i.a * 2 ^ 12 + i.b * 2 ^ 5 + (fn + i.x)
  | .ri => op * 2 ^ 26 + i.d * 2 ^ 19 + i.a * 2 ^ 12 + i.x
  | .br => op * 2 ^ 26 + i.a * 2 ^ 19 + i.b * 2 ^ 12 + i.x
  | .li => op * 2 ^ 26 + i.d * 2 ^ 19 + i.x

/-- R170: mnemonic of an opcode and FN value, for opcodes of several mnemonics. -/
def opFn (op fn : Nat) : Option EMn :=
  match op, fn with
  | 0x1, 0x0 => some .add
  | 0x1, 0x1 => some .sub
  | 0x1, 0x2 => some .andr
  | 0x1, 0x3 => some .orr
  | 0x1, 0x4 => some .xorr
  | 0x1, 0x5 => some .shl
  | 0x1, 0x6 => some .shr
  | 0x1, 0x7 => some .sar
  | 0x1, 0x8 => some .mul
  | 0x1, 0x9 => some .slt
  | 0x1, 0xa => some .sltu
  | 0x1e, 0x0 => some .csadd
  | 0x1e, 0x1 => some .cshv
  | 0x1e, 0x2 => some .csfin
  | 0x1e, 0x4 => some .crcr
  | 0x1e, 0x5 => some .crcr
  | 0x1e, 0x6 => some .crcr
  | 0x1e, 0x8 => some .crchv
  | 0x1e, 0x9 => some .crchv
  | 0x1e, 0xa => some .crchv
  | 0x24, 0x0 => some .atomAdd
  | 0x24, 0x1 => some .atomSwp
  | 0x24, 0x2 => some .atomCas
  | 0x28, 0x0 => some .emitCopy
  | 0x28, 0x1 => some .emitFinal
  | _, _ => none

/-- R170: mnemonic that an opcode and FN value name; the FN field counts only for RR words. -/
def opOf (op fn : Nat) : Option EMn :=
  match op with
  | 0x1 => opFn 0x1 fn
  | 0x2 => some .addi
  | 0x3 => some .andi
  | 0x4 => some .ori
  | 0x5 => some .xori
  | 0x6 => some .shli
  | 0x7 => some .shri
  | 0x8 => some .movi
  | 0x9 => some .movk
  | 0xa => some .ext
  | 0xb => some .exts
  | 0xc => some .ins
  | 0xd => some .hld
  | 0xe => some .hst
  | 0xf => some .hadj
  | 0x10 => some .ldw
  | 0x11 => some .ldd
  | 0x12 => some .stw
  | 0x13 => some .std
  | 0x14 => some .beq
  | 0x15 => some .bne
  | 0x16 => some .blt
  | 0x17 => some .bge
  | 0x18 => some .bltu
  | 0x19 => some .bgeu
  | 0x1a => some .bbs
  | 0x1b => some .bbc
  | 0x1c => some .jal
  | 0x1d => if fn ≤ 0 then some .jr else none
  | 0x1e => opFn 0x1e fn
  | 0x20 => if fn ≤ 15 then some .lk else none
  | 0x21 => if fn ≤ 0 then some .tins else none
  | 0x22 => if fn ≤ 0 then some .tdel else none
  | 0x23 => if fn ≤ 7 then some .twr else none
  | 0x24 => opFn 0x24 fn
  | 0x25 => if fn ≤ 0 then some .cnt else none
  | 0x26 => if fn ≤ 0 then some .pol else none
  | 0x28 => opFn 0x28 fn
  | 0x29 => if fn ≤ 0 then some .drop else none
  | 0x2a => if fn ≤ 3 then some .rds else none
  | _ => none

/-- R168: the fields of a word under a mnemonic's format. -/
def fieldsOf (op : EMn) (w : Nat) : EngInst :=
  let hi := w / 2 ^ 19 % 128
  let mid := w / 2 ^ 12 % 128
  match op.info.2.1 with
  | .rr => { op := op, d := hi, a := mid, b := w / 2 ^ 5 % 128, x := w % 32 - op.info.2.2.1 }
  | .ri => { op := op, d := hi, a := mid, b := 0, x := w % 4096 }
  | .br => { op := op, d := 0, a := hi, b := mid, x := w % 4096 }
  | .li => { op := op, d := hi, a := 0, b := 0, x := w % 2 ^ 19 }

/-- R169: decode a 32-bit word; `none` traps ILLEGAL. -/
def decodeInst (w : Nat) : Option EngInst :=
  match opOf (w / 2 ^ 26 % 64) (w % 32) with
  | none => none
  | some op => if (fieldsOf op w).ok then some (fieldsOf op w) else none

end Sys2Proof.Machine
end

