-- ==== Sys2Proof/Machine/FastPath.lean ====
section
/-! DEFINITION. The classifier, lookups served by the match tiles, and the fast path (R127 to R130, R142, R183). -/

namespace Sys2Proof.Machine

/-! ### Keys (R129) -/

/-- R129: offset of the L3 header of the set the keys are built from, and its version, on an IP packet. -/
def Pkt.ipHeader (p : Pkt) : Option (Nat × Nat) :=
  let o := if p.mg Meta.INNER_PRESENT = 1 then p.mg Meta.INNER_L3_OFF else p.mg Meta.OUTER_L3_OFF
  let v := (p.data.getD o 0).toNat / 16
  if o ≠ 0xFFFF && (v = 4 || v = 6) then some (o, v) else none

/-- An IPv4 address as an IPv4-mapped IPv6 address. -/
def mapped (a : List Byte) : List Byte := List.replicate 10 0 ++ [0xFF, 0xFF] ++ a

/-- R129: source and destination address, 16 bytes each. -/
def Pkt.addrs (p : Pkt) (o v : Nat) : List Byte × List Byte :=
  if v = 4 then (mapped (sliceBytes p.data (o + 12) 4), mapped (sliceBytes p.data (o + 16) 4))
  else (sliceBytes p.data (o + 8) 16, sliceBytes p.data (o + 24) 16)

/-- R129: the 24-bit source of a packet. -/
def Pkt.source (p : Pkt) : Nat :=
  let k := p.mg Meta.SRC_KIND
  if k = 2 then 2 ^ 22 else if k = 1 then 2 ^ 23 + p.mg Meta.SRC_ID % 2 ^ 18 else p.mg Meta.SRC_ID % 2 ^ 18

/-- R129, R130: the flow key, 40 bytes. -/
def Pkt.flowKey (p : Pkt) : List Byte :=
  match p.ipHeader with
  | none => List.replicate 37 0 ++ beBytes 3 p.source
  | some (o, v) =>
    let l4 := if p.mg Meta.INNER_PRESENT = 1 then p.mg Meta.INNER_L4_OFF else p.mg Meta.OUTER_L4_OFF
    let ports := if l4 = 0xFFFF then List.replicate 4 0 else sliceBytes p.data l4 4
    let proto := p.data.getD (if v = 4 then o + 9 else o + 6) 0
    (p.addrs o v).1 ++ (p.addrs o v).2 ++ ports ++ [proto] ++ beBytes 3 p.source

/-- R129: slice of a packet's source. -/
def Dev.srcSlice (d : Dev) (p : Pkt) : Nat :=
  if p.mg Meta.SRC_KIND = 1 then d.qf (p.mg Meta.SRC_ID % 2 ^ 18) Qctx.SLICE else 0

/-- R129: an L2 key for the MAC address at byte `o` of the outer L2 header. -/
def Dev.l2Key (d : Dev) (p : Pkt) (o : Nat) : List Byte :=
  let vid := if p.mg Meta.TAGS_STRIPPED = 0 then 0 else p.mg Meta.TCI_0 % 2 ^ 12
  beBytes 3 (d.srcSlice p * 2 ^ 12 + vid) ++ sliceBytes p.data (p.mg Meta.OUTER_L2_OFF + o) 6

/-- R129: the LPM key of an IP packet. -/
def Dev.lpmKey (d : Dev) (p : Pkt) (o v : Nat) : List Byte := beBytes 4 (d.srcSlice p) ++ (p.addrs o v).2

/-- R123, R332: the source a packet is learned from: logical port and queue; none for a slice without a default receive
queue and for a recirculated packet. -/
def Dev.learnSource (d : Dev) (kind id : Nat) : Option (Nat × Nat) :=
  if kind = 0 then some (id % 64, 0)
  else if kind = 1 then
    let q := id % 2 ^ 18
    let sl := d.qf q Qctx.SLICE
    let rx := d.cg .slice sl Slc.DEFAULT_RXQ
    if sl = 0 || rx = 0x3FFFF then none else some (16 + d.qf q Qctx.OWNER, rx)
  else none

/-- R129: the device-wide table of lowest TABLE_ID of a kind. -/
def Dev.fastTable (d : Dev) (kind : Nat) : Option Tbl :=
  (d.tbl.tables.filter (fun t => t.owner = 0 && t.kind = kind)).foldl (fun (b : Option Tbl) t => match b with
    | none => some t
    | some x => if t.id < x.id then some t else some x) none

/-! ### Classification (R130) -/

/-- R201: input of a packet that comes from a prism. -/
def Dev.inputOf (d : Dev) (p : Pkt) : Nat :=
  let k := p.mg Meta.SRC_KIND
  if k = 0 then p.mg Meta.SRC_ID % 64
  else if k = 1 then 16 + d.qf (p.mg Meta.SRC_ID % 2 ^ 18) Qctx.OWNER
  else 19

/-- R109, R216: the fast path drops the packet whatever its tables hold. -/
def Pkt.fastBad (p : Pkt) : Bool :=
  p.mg Meta.END_REASON = 2 || p.mg Meta.END_REASON = 3 || p.mg Meta.CSUM_BAD_OUTER = 1 || p.mg Meta.CSUM_BAD_INNER = 1 ||
    p.mg Meta.RX_ERR ≠ 0

/-- R129: the lookups of steps 1 to 3 that packet `p` needs: role, table and key. -/
def Dev.fastLooks (d : Dev) (p : Pkt) : List (Nat × Nat × List Byte) :=
  let flow := match d.fastTable 1, p.ipHeader with
    | some t, some _ => if t.keyBits = 320 then [(0, t.id, p.flowKey)] else []
    | _, _ => []
  let l2 := match d.fastTable 2 with
    | some t => if p.mg Meta.OUTER_L2_OFF = 0xFFFF then [] else [(1, t.id, d.l2Key p 0)]
    | none => []
  let lpm := match d.fastTable 3, p.ipHeader with
    | some t, some (o, v) => [(2, t.id, d.lpmKey p o v)]
    | _, _ => []
  if p.fastBad then [] else flow ++ l2 ++ lpm

/-- R129: the source lookup of a packet: role 3. -/
def Dev.srcLook (d : Dev) (p : Pkt) : List (Nat × Nat × List Byte) :=
  match d.fastTable 2 with
  | some t => if p.mg Meta.OUTER_L2_OFF = 0xFFFF || p.fastBad then [] else [(3, t.id, d.l2Key p 6)]
  | none => []

/-- R129: the fast path takes a packet and starts its lookups, the source lookup among them. -/
def Dev.toFast (d : Dev) (p : Pkt) : Dev :=
  let ls := d.fastLooks p
  let n := d.tbl.fastId
  let f : FastPkt := { id := n, pkt := p, roles := ls.map (·.1), results := [] }
  let src := d.learnSource (p.mg Meta.SRC_KIND) (p.mg Meta.SRC_ID)
  let reqs := (ls ++ d.srcLook p).map (fun (r, t, k) =>
    ({ src := .fast n r, table := t, key := k, index := 0, first := 0, n := 0, learn := false, source := src } : LookReq))
  let d := { d with tbl := { d.tbl with fast := d.tbl.fast ++ [f], looks := d.tbl.looks ++ reqs, fastId := n + 1 } }
  reqs.foldl (fun (d : Dev) r => d.wakeUnit (matchId (homeTile r.table))) d

/-- CLASSIFY, R130, R200, R201: the classifier takes the next packet that prism `n` handed on, writes its flow hash, and
sends it to the engine hitch bound to its port and class or to its slice, or to the fast path. -/
def classify (n : Nat) (d : Dev) : Dev :=
  match d.prism.parsed.find? (fun p => p.prism = some n) with
  | none => d
  | some p =>
    let d := { d with prism := { d.prism with parsed := d.prism.parsed.eraseP (fun p => p.prism = some n) } }
    let h := hashA 0 p.flowKey
    let p := (p.ms Meta.FLOW_HASH h).ms Meta.ORDER_KEY (h % 256)
    let k := p.mg Meta.SRC_KIND
    let b := if k = 0 then d.portBinding (p.mg Meta.SRC_ID) (p.mg Meta.CLASS)
      else if k = 1 then (if d.srcSlice p = 0 then none else d.sliceBinding (d.srcSlice p))
      else none
    match b with
    | some u => d.toSwitch p (d.inputOf p) (.hitch u)
    | none => d.toFast p

/-- CLASSIFY. -/
def execClassify (n : Nat) (s : State) : Host.Outcome State Fault Refusal := s.run (classify n)

/-! ### Lookups (R127, R183) -/

/-- The words of an entry that a lookup returns. -/
def pickWords (ws : List Word) (first n : Nat) : List Word := (List.range n).map (fun i => ws.getD (first + i) 0)

/-- R183: an engine lookup of an array. -/
def Dev.lookArray (d : Dev) (t : Tbl) (r : LookReq) : Dev × TblAns :=
  let src : TblSrc := match r.src with
    | .engine pe th sl => .engine pe th sl 0
    | .fast _ _ => .iface 0
  if r.learn || t.nWords < r.first + r.n || !t.inRange r.index then (d, ansSt src Sc.malformed)
  else if t.damaged.contains r.index then
    (((d.tstat t.id 0 1).tstat t.id 12 1).tblEvent t.id 0x0005 r.index,
      { ansSt src 0x21 with words := List.replicate r.n 0 })
  else ((d.tstat t.id 0 1).tstat t.id 1 1, ansOk src (some r.index) (pickWords (d.entry t r.index) r.first r.n))

/-- R127, R183: an engine lookup, answered. -/
def Dev.lookEngine (d : Dev) (r : LookReq) (pe th sl : Nat) : Dev × TblAns :=
  let src : TblSrc := .engine pe th sl 0
  match d.table r.table with
  | none => (d, ansSt src Sc.malformed)
  | some t =>
    if t.offline then (d, ansSt src 0x23)
    else if arrayKind t.kind then d.lookArray t r
    else if !keyed t.kind || t.nWords < r.first + r.n || (r.learn && t.kind ≠ 2) then (d, ansSt src Sc.malformed)
    else
      let key := t.trimKey r.key
      let (d, f) := d.tblLookup t key (t.kind = 1 && decide (8 < r.first + r.n))
      let d := if r.learn then d.learnFrom t key f r.source else d
      match f with
      | some i => (d, ansOk src (some i) (pickWords (d.entry t i) r.first r.n))
      | none => (d, { ansSt src 0x21 with words := List.replicate r.n 0 })

/-- LOOKUP, R127: home tile `m` serves its oldest lookup. Its result returns to the packet or thread that waits for it; the source
lookup of a packet whose decision has reached step 2 asks for learning by it (R123, R129). -/
def lookup (m : Nat) (d : Dev) : Dev :=
  match d.tbl.looks.find? (fun r => homeTile r.table = m) with
  | none => d
  | some r =>
    let d := { d with tbl := { d.tbl with looks := d.tbl.looks.eraseP (fun r => homeTile r.table = m) } }
    match r.src with
    | .engine pe th sl =>
      let (d, a) := d.lookEngine r pe th sl
      { d with tbl := { d.tbl with answers := d.tbl.answers ++ [a] } }
    | .fast id role =>
      let (d, res) := match d.table r.table with
        | none => (d, none)
        | some t =>
          let (d, f) := d.tblLookup t (t.trimKey r.key) false
          let d := if r.learn then d.learnFrom t (t.trimKey r.key) f r.source else d
          (d, f.map (fun i => d.entry t i))
      { d with tbl := { d.tbl with fast := d.tbl.fast.map (fun (f : FastPkt) =>
          if f.id = id then { f with results := f.results ++ [(role, res)] } else f) } }

/-- LOOKUP. -/
def execLookup (m : Nat) (s : State) : Host.Outcome State Fault Refusal := s.run (lookup m)

/-! ### The decision (R129) -/

/-- What the fast path does with a packet. -/
inductive FastAct where
  /-- A result it needs has not returned. -/
  | wait
  | drop (step : Nat)
  | act (step w : Nat)
  | l2 (port queue : Nat)
  deriving DecidableEq, Repr

/-- R129: the result of a role: `none` while it is awaited, `some none` for a miss or a lookup not made. -/
def FastPkt.res (f : FastPkt) (role : Nat) : Option (Option (List Word)) :=
  if f.roles.contains role then (f.results.find? (fun x => x.1 = role)).map (·.2) else some none

/-- R129: steps 1 to 4. -/
def FastPkt.decide (f : FastPkt) : FastAct :=
  if f.pkt.fastBad then .drop 0
  else match f.res 0 with
    | none => .wait
    | some (some e) => .act 1 (wget e Flow.ACTION)
    | some none => match f.res 1 with
      | none => .wait
      | some (some e) => .l2 (wget e L2.DEST_PORT) (wget e L2.DEST_QUEUE)
      | some none => match f.res 2 with
        | none => .wait
        | some (some e) => .act 3 (wget e Lpm.RESULT)
        | some none => .drop 4

/-- R129: the L2 destination is the packet's own source. -/
def Dev.ownSource (d : Dev) (p : Pkt) (port queue : Nat) : Bool :=
  let k := p.mg Meta.SRC_KIND
  if k = 0 then port = p.mg Meta.SRC_ID
  else if k = 1 then d.learnSource 1 (p.mg Meta.SRC_ID) = some (port, queue)
  else port = 19

/-- R123, R129: a packet whose decision reached step 2 asks for learning by its source lookup: now if it has been answered, else
when it is. One that step 1 decided needs it no more (assumption 15). -/
def Dev.srcLookup (d : Dev) (f : FastPkt) (reached : Bool) : Dev :=
  let mine := fun (r : LookReq) => decide (r.src = .fast f.id 3)
  if !reached then { d with tbl := { d.tbl with looks := d.tbl.looks.filter (fun r => !mine r) } }
  else if d.tbl.looks.any mine then
    { d with tbl := { d.tbl with looks := d.tbl.looks.map (fun (r : LookReq) => if mine r then { r with learn := true } else r) } }
  else match d.fastTable 2 with
    | none => d
    | some t =>
      if f.results.any (fun x => x.1 = 3) then
        let key := t.trimKey (d.l2Key f.pkt 6)
        d.learnFrom t key (d.findKey t key 0) (d.learnSource (f.pkt.mg Meta.SRC_KIND) (f.pkt.mg Meta.SRC_ID))
      else d

/-- R128, R216: an action word of the fast path is carried out on a packet. -/
def Dev.fastAction (d : Dev) (p : Pkt) (w : Nat) : Dev :=
  let d := d.countAct w p.data.length
  match actDest w with
  | none => d.swBump Sw.FASTPATH_DROP
  | some x => d.toSwitch (p.withAct w) (d.inputOf p) x

/-- FASTPATH_DECIDE, R109, R129, R216: the oldest packet of the fast path whose deciding results have returned goes where
they send it. -/
def fastpathDecide (d : Dev) : Dev :=
  match d.tbl.fast.find? (fun f => f.decide ≠ .wait) with
  | none => d
  | some f =>
    let d := { d with tbl := { d.tbl with fast := d.tbl.fast.filter (fun (x : FastPkt) => x.id ≠ f.id) } }
    match f.decide with
    | .wait => d
    | .drop step =>
      let d := d.srcLookup f (step = 4)
      d.swBump Sw.FASTPATH_DROP
    | .act step w =>
      let d := d.srcLookup f (decide (2 ≤ step))
      d.fastAction f.pkt w
    | .l2 port queue =>
      let d := d.srcLookup f true
      if d.ownSource f.pkt port queue then d.swBump Sw.FASTPATH_DROP
      else if port = 16 ∨ port = 17 then d.toSwitch f.pkt (d.inputOf f.pkt) (.queue queue)
      else d.toSwitch f.pkt (d.inputOf f.pkt) (.port port 0x3FFFF)

/-- FASTPATH_DECIDE. -/
def execFastpathDecide (s : State) : Host.Outcome State Fault Refusal := s.run fastpathDecide

end Sys2Proof.Machine
end

