-- ==== Sys2Proof/Machine/Engines.lean ====
section
/-! DEFINITION. Packet engines: threads, dispatch, the reorder stage, traps and lookup results (R143 to R156, R188 to
R195). -/

namespace Sys2Proof.Machine

/-! ### PEs and threads -/

/-- PE `n`. -/
def Dev.pe (d : Dev) (n : Nat) : PeSt := d.pes.getD n PeSt.init

/-- Change PE `n`. -/
def Dev.setPe (d : Dev) (n : Nat) (f : PeSt → PeSt) : Dev := { d with pes := updAt d.pes n f }

/-- Thread `t` of PE `n`. -/
def Dev.thr (d : Dev) (n t : Nat) : Thr := (d.pe n).thr.getD t Thr.init

/-- Change thread `t` of PE `n`. -/
def Dev.setThr (d : Dev) (n t : Nat) (f : Thr → Thr) : Dev :=
  d.setPe n (fun (x : PeSt) => { x with thr := updAt x.thr t f })

/-- A mask of the threads of a PE that have a property. -/
def thrMask (l : List Thr) (p : Thr → Bool) : Nat :=
  (List.range l.length).foldl (fun a i => if p (l.getD i Thr.init) then a + 2 ^ i else a) 0

/-- R156: PE_STATUS follows the threads. -/
def Dev.syncPe (d : Dev) (n : Nat) : Dev :=
  let l := (d.pe n).thr
  ((d.sk (peId n) Pe.PE_STATUS_BUSY (thrMask l (fun t => t.st ≠ .idle))).sk (peId n) Pe.PE_STATUS_WAITING
    (thrMask l (fun t => t.st = .waiting))).sk (peId n) Pe.PE_STATUS_LOOKUPS_OUT
      ((l.map (fun t => t.ops.length)).foldl (· + ·) 0)

/-- R148: UNIT_ID of the hitch whose code PE `n` holds. -/
def Dev.peOwner (d : Dev) (n : Nat) : Nat := d.gk (peId n) Pe.PE_CODE_OWNER

/-- R44: ENTRY of the code a PE holds. -/
def Dev.peEntry (d : Dev) (n : Nat) : Nat :=
  ((d.img.code.find? (fun c => c.owner = d.peOwner n)).map CodeCopy.entry).getD 0

/-- The little-endian instruction word at address `a` of PE `n`'s instruction memory (R147). -/
def Dev.fetchWord (d : Dev) (n a : Nat) : Nat := leNat (d.readMem .peCode (n * 65536 + a) 4)

/-- PE number of a PE tile. -/
def peNum (u : Nat) : Nat := u - 0x100

/-- Unit `u` is a PE tile. -/
def isPe (u : Nat) : Bool := fixedKind u = 0x01

/-- R147, R148, R162: a PE receives the code and data of owner `o`; the rest of its memories reads 0. LOADS increments. -/
def Dev.loadPe (d : Dev) (n o : Nat) : Dev :=
  let d := d.clearMem .peCode (fun a => a / 65536 = n)
  let d := d.clearMem .peData (fun a => a / 196608 = n)
  let d := d.setPe n (fun (x : PeSt) => { x with badCode := [], badData := [] })
  let d := match d.img.code.find? (fun c => c.owner = o) with
    | none => d
    | some c => (d.writeMem .peCode (n * 65536) c.code).writeMem .peData (n * 196608) c.data
  (d.sk (peId n) Pe.PE_CODE_OWNER o).addk (peId n) Pe.PE_CODE_LOADS 1

/-! ### Tags and the reorder stage (R152 to R154) -/

/-- Engine hitch `h`'s own state. -/
def Dev.eh (d : Dev) (h : Nat) : Option EhSt := d.ehs.find? (fun (x : EhSt) => x.id = h)

/-- Change engine hitch `h`'s own state. -/
def Dev.setEh (d : Dev) (h : Nat) (f : EhSt → EhSt) : Dev :=
  { d with ehs := d.ehs.map (fun (x : EhSt) => if x.id = h then f x else x) }

/-- REORDER_STATUS follows the tags and the FIFO. -/
def Dev.syncEh (d : Dev) (h : Nat) : Dev :=
  match d.eh h with
  | none => d
  | some e => (d.sk h Eh.REORDER_STATUS_TAGS_OUT ((e.tags.filter (fun (r : TagRec) => !r.done)).length)).sk h
      Eh.REORDER_STATUS_FIFO_DEPTH e.fifo.length

/-- R153, R155: among tags in order, those that no earlier tag of their class precedes any more are marked with the time. -/
def firsts (now : Nat) : List Nat → List TagRec → List TagRec
  | _, [] => []
  | seen, r :: rest =>
    (if r.first.isNone && !seen.contains r.cls then { r with first := some now } else r) :: firsts now (r.cls :: seen) rest

/-- A tag whose packet has ended and left nothing to release goes; the tag it was dispatched under is then released too,
up to `n` levels (R153). -/
def Dev.sweepTag (h t : Nat) : Nat → Dev → Dev
  | 0, d => d
  | n + 1, d =>
    match (d.eh h).bind (fun (e : EhSt) => e.tags.find? (fun (r : TagRec) => r.tag = t)) with
    | none => d
    | some r =>
      if !r.done || !r.outs.isEmpty then d
      else
        let d := (d.setEh h (fun (e : EhSt) => { e with
          tags := firsts d.time [] (e.tags.filter (fun (r : TagRec) => r.tag ≠ t)) })).syncEh h
        match r.up with
        | none => d
        | some (h', t') =>
          let d := d.setEh h' (fun (e : EhSt) => { e with
            tags := e.tags.map (fun (r : TagRec) => if r.tag = t' then { r with done := true } else r) })
          Dev.sweepTag h' t' n (d.syncEh h')

/-- R153: tag `t` of hitch `h` is released. -/
def Dev.freeTag (d : Dev) (h t : Nat) : Dev :=
  let d := d.setEh h (fun (e : EhSt) => { e with
    tags := e.tags.map (fun (r : TagRec) => if r.tag = t then { r with done := true } else r) })
  Dev.sweepTag h t treeFuel (d.syncEh h)

/-- A packet is emitted under tag `t` of hitch `h`. -/
def Dev.pushEmit (d : Dev) (h t : Nat) (e : Emit) : Dev :=
  d.setEh h (fun (x : EhSt) => { x with
    tags := x.tags.map (fun (r : TagRec) => if r.tag = t then { r with outs := r.outs ++ [e] } else r) })

/-- R191: the packet of a thread ends: the thread is IDLE and its tag is released. Slots go on counting, so results still
outstanding match none of a later packet's. -/
def Dev.endPacket (d : Dev) (n t : Nat) : Dev :=
  let x := d.thr n t
  let d := d.setThr n t (fun (x : Thr) => { Thr.init with nextSlot := x.nextSlot })
  (d.freeTag x.hitch x.tag).syncPe n

/-- R194: thread `t` of PE `n` takes trap `code` at instruction word `w`. -/
def Dev.trap (d : Dev) (n t code w : Nat) : Dev :=
  let u := peId n
  let x := d.thr n t
  let d := d.bumpk u Pe.TRAPS
  let d := d.addk x.hitch Eh.DROP_ENGINE 1
  let ms := d.time / 1000000
  let info := code + t * 2 ^ 8 + 2 ^ 15 + x.pc % 2 ^ 16 * 2 ^ 16 + w % 2 ^ 32 * 2 ^ 32
  let d := if d.gk u Pe.PE_TRAP_INFO_VALID = 1 then d
    else ((((d.sk u Pe.PE_TRAP_INFO_CODE code).sk u Pe.PE_TRAP_INFO_THREAD t).sk u Pe.PE_TRAP_INFO_VALID 1).sk u
      Pe.PE_TRAP_INFO_PC x.pc).sk u Pe.PE_TRAP_INFO_INSTR w
  let d := if (d.pe n).trapAt = some ms then d
    else (d.setPe n (fun (x : PeSt) => { x with trapAt := some ms })).raise u 0x0401 0 info
  d.endPacket n t

/-- R194: an ECC error of an instruction word fetched by thread `t`: it traps, the PE latches ERR and HALTs, and every other thread with a
packet traps, in ascending order. -/
def Dev.codeEcc (d : Dev) (n t : Nat) : Dev :=
  let d := ((d.uncorr (peId n) 6 0).latchErr (peId n) Sc.integrity).setUst (peId n) stHalted
  (t :: List.range 8).foldl (fun (d : Dev) t => if (d.thr n t).st = .idle then d else d.trap n t 0x0A 0) d

/-! ### Dispatch (R144, R151, R152) -/

/-- R151: IDLE threads of a member: a PE's own, or those of a nested hitch's members; 0 without effective enable. -/
def Dev.idleOf (d : Dev) : Nat → Nat → Nat
  | 0, _ => 0
  | n + 1, u =>
    if !d.takesWork u then 0
    else if isPe u then ((d.pe (peNum u)).thr.filter (fun (t : Thr) => t.st = .idle)).length
    else if d.isEngine u then ((d.members u).map (fun m => d.idleOf n m)).foldl (· + ·) 0
    else 0

/-- R151: the member with the most IDLE threads, the lowest index on a tie; a nested hitch only with room in its FIFO. -/
def Dev.bestMember (d : Dev) (h : Nat) : Option Nat :=
  ((d.members h).filter (fun m => isPe m || d.fifoRoom m)).foldl (fun (b : Option Nat) m =>
    let k := d.idleOf treeFuel m
    match b with
    | none => if k = 0 then none else some m
    | some x => if d.idleOf treeFuel x < k then some m else some x) none

/-- R144, R145: packet `p` is placed in the registers of the lowest IDLE thread of PE `n`, under tag `tag` of `h`. -/
def Dev.loadThread (d : Dev) (n h tag : Nat) (p : Pkt) : Dev :=
  match (List.range 8).find? (fun t => (d.thr n t).st = .idle) with
  | none => d
  | some t =>
    let v := p.data.take 512
    let d := d.setThr n t (fun (x : Thr) =>
      { Thr.init with
        st := .loading, v := v ++ List.replicate (512 - v.length) 0, tail := p.data.drop 512
        pkt := { (p.ms Meta.PKT_LEN p.data.length) with data := [] }
        pc := d.peEntry n, hitch := h, tag := tag, nextSlot := x.nextSlot })
    ((d.bumpk (peId n) Pe.PKTS).syncPe n).wakeUnit (peId n)

/-- DISPATCH, R151, R152: hitch `h` hands the packet at the head of its dispatch FIFO to the member with the most IDLE
threads. With 4,096 tags outstanding it hands out none. -/
def dispatch (h : Nat) (d : Dev) : Dev :=
  match d.eh h with
  | none => d
  | some e =>
    match e.fifo, d.bestMember h with
    | (tag, p) :: rest, some m =>
      if !d.takesWork h || decide (4096 ≤ (e.tags.filter (fun (r : TagRec) => !r.done)).length) then d
      else
        let d := (d.setEh h (fun (e : EhSt) => { e with fifo := rest })).syncEh h
        if isPe m then d.loadThread (peNum m) h tag p else d.enterFifo m p (some (h, tag))
    | _, _ => d

/-- DISPATCH. -/
def execDispatch (h : Nat) (s : State) : Host.Outcome State Fault Refusal := s.run (dispatch h)

/-! ### Release (R153, R200, R201) -/

/-- The hitch an emitted packet is bound for. -/
def Emit.hitch (e : Emit) : Option Nat :=
  match actDest e.act with
  | some (.hitch u) => some u
  | _ => none

/-- R153: the first tag of a hitch with a packet to release and no earlier tag of its order class. -/
def releasable : List TagRec → List Nat → Option TagRec
  | [], _ => none
  | r :: rest, seen =>
    if !r.outs.isEmpty && !seen.contains r.cls then some r else releasable rest (r.cls :: seen)

/-- R153: a packet that left a hitch before waits on its way into hitch `u`. -/
def Dev.innerWaits (d : Dev) (u : Nat) : Bool := d.sw.wire.any (fun (x : SwPkt) => x.dest = .inner u)

/-- R153, R200, R244: an emitted packet goes to hitch `u` of the subtree it comes from: into its FIFO, or behind one that waits on
its way there, or first through a crypto tile. -/
def Dev.toInner (d : Dev) (p : Pkt) (input u : Nat) : Dev :=
  if p.mg CryReq.OP = 0 && !d.innerWaits u then d.enterFifo u p none else d.toSwitch p input (.inner u)

/-- REORDER_RELEASE, R153, R198, R206: the next packet that may leaves hitch `h`, unless the switch core holds one it would wait behind: to a hitch of the subtree it leaves, to the tags of
the enclosing hitch, or towards the switch core with the port of the top-level hitch as its input. -/
def reorderRelease (h : Nat) (d : Dev) : Dev :=
  match d.eh h with
  | none => d
  | some x =>
    match releasable x.tags [] with
    | none => d
    | some r =>
      match r.outs with
      | [] => d
      | e :: outs =>
        let top := d.topEngine h
        let input := (d.enginePort top).getD 47
        let in_ := match e.hitch with
          | some u => if d.inSubtree h u || (r.up.isNone && d.inSubtree top u) then some u else none
          | none => none
        let wait := match in_ with
          | some u => e.pkt.mg CryReq.OP = 0 && d.isEngine u && !d.innerWaits u && !d.fifoRoom u
          | none => r.up.isNone && (match actDest e.act with
            | some x => d.stalled e.pkt input x
            | none => false)
        if wait then d
        else
          let held := r.first.getD d.time - e.time
          let d := d.setEh h (fun (x : EhSt) => { x with
            tags := x.tags.map (fun (y : TagRec) => if y.tag = r.tag then { y with outs := outs } else y) })
          let d := (d.addk h Eh.PKTS_OUT 1).addk h Eh.REORDER_HOLD_NS held
          let d := match in_, r.up with
            | some u, _ => d.toInner e.pkt input u
            | none, some (h', t') => d.pushEmit h' t' { e with time := d.time }
            | none, none => match actDest e.act with
              | some x => d.toSwitch e.pkt input x
              | none => d
          Dev.sweepTag h r.tag treeFuel d

/-- REORDER_RELEASE. -/
def execReorderRelease (h : Nat) (s : State) : Host.Outcome State Fault Refusal := s.run (reorderRelease h)

/-! ### Results and limits -/

/-- R182: the status word of a table operation. -/
def statusWord (a : TblAns) : Nat :=
  (if a.status = 0 then 1 else 0) + a.status % 256 * 2 ^ 8 + a.colour % 4 * 2 ^ 16 + a.index.getD 0 % 2 ^ 32 * 2 ^ 24

/-- R182, R183, R188: the registers an operation writes, given its answer: status, then its words, 0 where it has none. -/
def ThrOp.writes (o : ThrOp) (a : TblAns) : List (Nat × Word) :=
  ((o.dst, BitVec.ofNat 64 (statusWord a)) :: (List.range o.n).map (fun k => (o.dst + 1 + k, a.words.getD k 0))).filter
    (fun (r, _) => r ≠ 0 && !o.dead.contains r)

/-- The answer is for a thread of PE `n`. -/
def TblAns.forPe (a : TblAns) (n : Nat) : Bool :=
  match a.src with
  | .engine pe _ _ _ => pe = n
  | .iface _ => false

/-- LOOKUP_RESULT, R146, R188, R191: the oldest answer for PE `n` reaches its thread, or is discarded with its packet. A
WAITING thread may issue again. -/
def lookupResult (n : Nat) (d : Dev) : Dev :=
  match d.tbl.answers.find? (fun a => a.forPe n) with
  | none => d
  | some a =>
    let d := { d with tbl := { d.tbl with answers := d.tbl.answers.eraseP (fun a => a.forPe n) } }
    match a.src with
    | .iface _ => d
    | .engine _ t slot _ =>
      match (d.thr n t).ops.find? (fun (o : ThrOp) => o.slot = slot) with
      | none => d
      | some o =>
        (d.setThr n t (fun (x : Thr) => { x with
          g := (o.writes a).foldl (fun (g : List Word) (r, v) => g.set r v) x.g
          ops := x.ops.filter (fun (y : ThrOp) => y.slot ≠ slot)
          st := if x.st = .waiting then .running else x.st })).syncPe n

/-- LOOKUP_RESULT. -/
def execLookupResult (n : Nat) (s : State) : Host.Outcome State Fault Refusal := s.run (lookupResult n)

/-- R149: THREAD_LIMIT that governs the threads of PE `n`: that of the engine hitch of which it is a direct member. -/
def Dev.threadLimit (d : Dev) (n : Nat) : Nat := d.gk ((d.parentOf (peId n)).getD rootId) Eh.THREAD_LIMIT_CYCLES

/-- THREAD_CYCLE_LIMIT, R149, R193: the cycle count of thread `t` of PE `n` has reached THREAD_LIMIT. -/
def threadCycleLimit (n t : Nat) (d : Dev) : Dev :=
  if (d.thr n t).st = .idle || decide ((d.thr n t).cycles < d.threadLimit n) then d
  else d.trap n t 0x09 (d.fetchWord n (d.thr n t).pc)

/-- THREAD_CYCLE_LIMIT. -/
def execThreadCycleLimit (n t : Nat) (s : State) : Host.Outcome State Fault Refusal := s.run (threadCycleLimit n t)

end Sys2Proof.Machine
end

