-- ==== Sys2Proof/Machine/Units.lean ====
section
/-! DEFINITION. The unit header: errors, enable, drain, event source, doorbell, and locating a unit (R17 to R32, R574). -/

namespace Sys2Proof.Machine

/-- R63, R66: `u` is the target of a patch in its Drain phase. -/
def Dev.patchDraining (d : Dev) (u : Nat) : Bool :=
  match d.img.patch with
  | some p => decide (p.target = u) && decide (p.phase = .drain)
  | none => false

/-- R165, R166: an entry is written to REIN_LOG for hitch `h`, with the microseconds since the decision at time `t0`, and a
rein-change event follows if the hitch asks for one. Actions 3 to 5 carry no PE and no time. -/
def Dev.logRein (d : Dev) (h action pe window t0 : Nat) : Dev :=
  let n := d.g rootId Root.REIN_LOG_WR_WR_COUNT
  let plain := 3 ≤ action ∧ action ≤ 5
  let us := if plain then 0 else (d.time - t0 + 999) / 1000
  let p := if plain then 0 else pe
  let cnt := (d.members h).length
  let w0 := window % 2 ^ 40 + action * 2 ^ 40 + cnt % 2 ^ 16 * 2 ^ 48
  let w1 := h % 2 ^ 24 + p % 2 ^ 24 * 2 ^ 24 + us % 2 ^ 16 * 2 ^ 48
  let d := d.setRec .reinLog (n % 1024) [BitVec.ofNat 64 w0, BitVec.ofNat 64 w1]
  let d := d.s rootId Root.REIN_LOG_WR_WR_COUNT (n + 1)
  if d.gk h Eh.EH_CFG_REIN_EVT_EN = 1 then d.raise h 0x0102 0 (action + p % 2 ^ 24 * 2 ^ 4 + cnt % 2 ^ 16 * 2 ^ 28) else d

/-- The rein controller's step at hitch `h` ends. -/
def Dev.endStep (d : Dev) (h : Nat) : Dev :=
  ({ d with ehs := d.ehs.map (fun (x : EhSt) => if x.id = h then { x with step := none } else x) }).sk h
    Eh.REIN_HSTATUS_STEP_BUSY 0

/-- R164: a removal in progress of PE tile `u` is cancelled with an entry of `action`. -/
def Dev.cancelRemoval (d : Dev) (u action : Nat) : Dev :=
  match d.ehs.findSome? (fun (x : EhSt) => x.step.bind (fun s => if s.pe = u && !s.add then some (x.id, s) else none)) with
  | some (h, s) => (d.endStep h).logRein h action u s.window s.time
  | none => d

/-- ERR_CLEAR, R17: writing 1 to ERR clears ERR and ERR_CODE. Writes in the subtree of a PATCHING hitch are ignored
(R23). -/
def errClear (u : Nat) (d : Dev) : Dev :=
  if d.inPatching u then d else (d.s u Hdr.UNIT_STATUS_ERR 0).s u Hdr.UNIT_STATUS_ERR_CODE 0

/-- ERR_CLEAR. -/
def execErrClear (u : Nat) (s : State) : Host.Outcome State Fault Refusal := s.run (errClear u)

/-- ENABLE_WRITE, R26, R27, R164: ENABLE is stored, a drain is cancelled by writing 1, and the units below follow their
effective enable. Ignored for a patch target in Drain (R66) and in a PATCHING subtree (R23). -/
def enableWrite (u : Nat) (en : Bool) (d : Dev) : Dev :=
  if d.inPatching u || d.patchDraining u then d
  else
    let d := d.s u Hdr.UNIT_CONTROL_ENABLE (if en then 1 else 0)
    let d := if en && decide (d.ust u = stDraining) && !ungoverned u then
      ((d.s u Hdr.UNIT_CONTROL_DRAIN 0).setUst u stActive).cancelRemoval u 7 else d
    (d.settleEnable u).takeBells (d.subtree u)

/-- ENABLE_WRITE. -/
def execEnableWrite (u : Nat) (en : Bool) (s : State) : Host.Outcome State Fault Refusal := s.run (enableWrite u en)

/-- R17, R27: start a drain of unit `u`: ENABLE clears and STATE becomes DRAINING. -/
def Dev.startDrain (d : Dev) (u : Nat) : Dev :=
  let d := ((d.s u Hdr.UNIT_CONTROL_ENABLE 0).s u Hdr.UNIT_CONTROL_DRAIN 1).setUst u stDraining
  d.settleEnable u

/-- DRAIN, R27, R574: accepted in ACTIVE and READY, without further effect in DRAINING, ignored in every other state, by
management cores and match tiles, by a patch target in Drain, and in a PATCHING subtree. -/
def drain (u : Nat) (d : Dev) : Dev :=
  if ungoverned u || d.inPatching u || d.patchDraining u then d
  else if d.ust u = stActive ∨ d.ust u = stReady then d.startDrain u
  else d

/-- DRAIN. -/
def execDrain (u : Nat) (s : State) : Host.Outcome State Fault Refusal := s.run (drain u)

/-- EVENT_SOURCE_WRITE, R28, R412: bits [12:0] are stored, unless they name management-core queues 1,016 to 1,023;
setting ENABLE from 0 presents the events held at the unit. -/
def eventSourceWrite (u : Nat) (v : Word) (d : Dev) : Dev :=
  let q := getBits v 0 10
  let o := getBits v 10 2
  if d.inPatching u then d
  else if 1016 ≤ q ∧ (o = 2 ∨ (o = 3 ∧ u = rootId)) then d.latchErr u Sc.malformed
  else
    let was := d.on u Hdr.EVENT_SOURCE_ENABLE
    let d := ((d.s u Hdr.EVENT_SOURCE_TARGET_EQ q).s u Hdr.EVENT_SOURCE_TARGET_OWNER o).s u Hdr.EVENT_SOURCE_ENABLE
      (getBits v 12 1)
    if !was && d.on u Hdr.EVENT_SOURCE_ENABLE then d.presentWaiting (fun w => w.heldAt = some u) else d

/-- EVENT_SOURCE_WRITE. -/
def execEventSourceWrite (u : Nat) (v : Word) (s : State) : Host.Outcome State Fault Refusal :=
  s.run (eventSourceWrite u v)

/-- R29, R425: one unit's doorbell is rung: DB_PENDING sets, merging with a pending ring, and a sleeping region starts
its wake; a unit that takes work in a region awake takes the ring at once. -/
def Dev.ringUnit (d : Dev) (u : Nat) : Dev :=
  if d.isHitch u then d else ((d.s u Hdr.UNIT_STATUS_DB_PENDING 1).wakeUnit u).takeBell u

/-- DOORBELL, R29: a hitch rings every current member in index order, recursively; a PATCHING subtree ignores it (R23), while a ring written above
reaches the members inside (assumption 119). -/
def doorbell (u : Nat) (d : Dev) : Dev :=
  if d.inPatching u then d else (d.subtree u).foldl (fun d m => d.ringUnit m) d

/-- DOORBELL. -/
def execDoorbell (u : Nat) (s : State) : Host.Outcome State Fault Refusal := s.run (doorbell u)

/-- ROOT_LOCATE_ID, R31: a lookup starts, or restarts with the new ID. -/
def rootLocateId (id : Nat) (d : Dev) : Dev :=
  (d.s rootId Root.ROOT_LOCATE_ID_ID id).s rootId Root.ROOT_LOCATE_ADDR_BUSY 1

/-- ROOT_LOCATE_ID. -/
def execRootLocateId (id : Nat) (s : State) : Host.Outcome State Fault Refusal := s.run (rootLocateId id)

/-- LOCATE_DONE, R31, R32: the result describes the tree as it stands when the lookup ends. -/
def locateDone (d : Dev) : Dev :=
  let id := d.g rootId Root.ROOT_LOCATE_ID_ID
  let found := d.present id && !((d.pathUp treeFuel id).drop 1).any (fun a => ((d.hitch a).map (·.patching)).getD false)
  if d.on rootId Root.ROOT_LOCATE_ADDR_BUSY then
    ((d.s rootId Root.ROOT_LOCATE_ADDR_BUSY 0).s rootId Root.ROOT_LOCATE_ADDR_FOUND (if found then 1 else 0)).s rootId
      Root.ROOT_LOCATE_ADDR_ADDR (if found then d.addrOf id else 0)
  else d

/-- LOCATE_DONE. -/
def execLocateDone (s : State) : Host.Outcome State Fault Refusal := s.run locateDone

end Sys2Proof.Machine
end

