-- ==== Sys2Proof/Machine/Rein.lean ====
section
/-! DEFINITION. The rein controller: windows, additions and removals of PEs, and its log (R157 to R166). -/

namespace Sys2Proof.Machine

/-- What the lens measured of an engine hitch over a window (R157): the hitch, its mean backlog, its utilisation in per
cent. -/
structure LensWindow where
  hitch : Nat
  backlog : Nat
  util : Nat
  deriving DecidableEq, Repr

/-- R157: a PE below hitch `h` is ACTIVE. -/
def Dev.anyPeActive (d : Dev) (h : Nat) : Bool := (d.subtree h).any (fun u => isPe u && d.ust u = stActive)

/-- R157, R158: the runs of hitch `h` after a window. Without a PE to measure UTIL is 0. -/
def Dev.updateRuns (d : Dev) (h : Nat) (m : Nat × Nat) : Dev :=
  let backlog := m.1
  let util := if d.anyPeActive h then m.2 else 0
  let gov := !((d.eh h).map EhSt.broke).getD true && d.governed h
  let high := decide (d.gk h Eh.REIN_MARKS_HIGH_MARK < backlog)
  let low := !high && decide (util < d.gk h Eh.REIN_MARKS_LOW_MARK)
  let hr := if gov && high then min 15 (d.gk h Eh.REIN_HSTATUS_HIGH_RUN + 1) else 0
  let lr := if gov && low then min 15 (d.gk h Eh.REIN_HSTATUS_LOW_RUN + 1) else 0
  let d := ((d.sk h Eh.REIN_HSTATUS_BACKLOG_AVG backlog).sk h Eh.REIN_HSTATUS_UTIL util).sk h Eh.REIN_HSTATUS_GOVERNED
    (if gov then 1 else 0)
  let d := (d.sk h Eh.REIN_HSTATUS_HIGH_RUN hr).sk h Eh.REIN_HSTATUS_LOW_RUN lr
  d.setEh h (fun (x : EhSt) => { x with
    highLogged := x.highLogged && decide (hr ≠ 0), lowLogged := x.lowLogged && decide (lr ≠ 0) })

/-- R159, R162: a PE the pool can give up: STATE neither OFF, RESET nor HALTED. -/
def Dev.poolPe (d : Dev) (pool : Nat) : Option Nat :=
  (((d.members pool).zipIdx.filter (fun (m, _) => isPe m && d.ust m ≠ stOff && d.ust m ≠ stReset &&
    d.ust m ≠ stHalted)).map (·.2)).getLast?

/-- R161: a step starts: both runs are 0 and STEP_BUSY is 1. -/
def Dev.startStep (d : Dev) (h : Nat) (s : ReinStep) : Dev :=
  ((((d.setEh h (fun (x : EhSt) => { x with step := some s })).sk h Eh.REIN_HSTATUS_STEP_BUSY 1).sk h
    Eh.REIN_HSTATUS_HIGH_RUN 0).sk h Eh.REIN_HSTATUS_LOW_RUN 0).setEh h (fun (x : EhSt) => { x with
      highLogged := false, lowLogged := false })

/-- REIN_ADD, R159, R162 steps 1 and 2: the PE in slot `k` of the pool leaves it; the pool's last member moves into the slot; the
region of the PE wakes. -/
def Dev.reinAdd (d : Dev) (h pool k window : Nat) : Dev :=
  let ms := d.members pool
  let pe := ms.getD k 0
  let d := ((d.setHitch pool (fun (x : Hitch) => { x with
    members := (x.members.set k (x.members.getLastD 0)).dropLast })).syncCount pool).incGen pool
  (d.startStep h { add := true, pe := pe, window := window, time := d.time }).wakeUnit pe

/-- R62, R66: no step may start at hitch `h`, of pool `p`: a patch that has passed its checks waits for a step to end in the subtree
of its target or at its pool, or a patch under way rebuilds the pool. -/
def Dev.stepBarred (d : Dev) (h p : Nat) : Bool :=
  (match d.img.waits with
   | some (b, _, _) => d.inSubtree (leNat (sliceBytes b 44 3)) h || (p ≠ 0 && ((d.hitch (leNat (sliceBytes b 44 3))).map Hitch.pool) = some p)
   | none => false) ||
    (match d.img.patch with
     | some x => p ≠ 0 && x.pool = p
     | none => false)

/-- R159: hitch `h` asks for an addition at the end of window `w`. -/
def Dev.tryAdd (d : Dev) (w h : Nat) : Dev :=
  match d.eh h, d.hitch h with
  | some e, some r =>
    if e.step.isSome || d.gk h Eh.REIN_HSTATUS_GOVERNED = 0 || decide (d.gk h Eh.REIN_HSTATUS_HIGH_RUN < 3) || d.stepBarred h r.pool then d
    else if r.maxM ≤ r.members.length then
      (if e.highLogged then d
        else (d.setEh h (fun (x : EhSt) => { x with highLogged := true })).logRein h 4 0 w d.time)
    else match d.poolPe r.pool with
      | some k => d.reinAdd h r.pool k w
      | none => if e.highLogged then d
          else (d.setEh h (fun (x : EhSt) => { x with highLogged := true })).logRein h 3 0 w d.time
  | _, _ => d

/-- REIN_REMOVE, R160, R163: hitch `h` may give up the PE in its last slot. -/
def Dev.tryRemove (d : Dev) (w h : Nat) : Dev :=
  match d.eh h, d.hitch h with
  | some e, some r =>
    if e.step.isSome || d.gk h Eh.REIN_HSTATUS_GOVERNED = 0 || decide (d.gk h Eh.REIN_HSTATUS_LOW_RUN < 10) ||
        decide (r.members.length ≤ r.minM) || d.stepBarred h r.pool then d
    else
      let m := r.members.getLastD 0
      let full := decide (d.g r.pool Hdr.MEMBER_COUNT_MAX_COUNT ≤ (d.members r.pool).length)
      if !isPe m || d.ust m ≠ stActive || full then
        (if e.lowLogged then d
          else (d.setEh h (fun (x : EhSt) => { x with lowLogged := true })).logRein h 5 0 w d.time)
      else (d.startDrain m).startStep h { add := false, pe := m, window := w, time := d.time }
  | _, _ => d

/-- R159: hitch `a` is served before `b`: greater backlog, or equal and lower UNIT_ID. -/
def Dev.servedFirst (d : Dev) (a b : Nat) : Bool :=
  let x := d.gk a Eh.REIN_HSTATUS_BACKLOG_AVG
  let y := d.gk b Eh.REIN_HSTATUS_BACKLOG_AVG
  decide (y < x) || (x = y && decide (a < b))

/-- Insert a hitch at its place in the order of service. -/
def Dev.insertServed (d : Dev) (h : Nat) : List Nat → List Nat
  | [] => [h]
  | x :: xs => if d.servedFirst h x then h :: x :: xs else x :: d.insertServed h xs

/-- R159: hitches in the order the pools serve them. -/
def Dev.byBacklog (d : Dev) (hs : List Nat) : List Nat := hs.foldl (fun l h => d.insertServed h l) []

/-- R157: what the lens measured of hitch `h`; one that it does not name had its present backlog throughout, and no busy PE. -/
def Dev.lensOf (d : Dev) (ms : List LensWindow) (h : Nat) : Nat × Nat :=
  ((ms.find? (fun (m : LensWindow) => m.hitch = h)).map (fun (m : LensWindow) => (m.backlog, min 100 m.util))).getD (d.backlog h, 0)

/-- REIN_WINDOW_END, R157 to R161: a window ends with the lens's measurements. Windows run from step 7 of R57 on. -/
def reinWindowEnd (ms : List LensWindow) (d : Dev) : Dev :=
  if decide (d.g rootId Root.IMG_STATUS_STATE ≠ 2) && decide (d.g rootId Root.IMG_STATUS_STATE ≠ 4) then d
  else
  let w := d.g rootId Root.REIN_WINDOW_WINDOW
  let hs := List.map EhSt.id d.ehs
  let of := d.lensOf ms
  let d := hs.foldl (fun (d : Dev) h => d.updateRuns h (of h)) d
  let d := (d.byBacklog hs).foldl (fun (d : Dev) h => d.tryAdd w h) d
  let d := hs.foldl (fun (d : Dev) h => d.tryRemove w h) d
  (d.s rootId Root.REIN_WINDOW_WINDOW (w + 1)).openWindow

/-- REIN_WINDOW_END. -/
def execReinWindowEnd (ms : List (Nat × Nat × Nat)) (s : State) : Host.Outcome State Fault Refusal :=
  s.run (reinWindowEnd (ms.map (fun (h, b, u) => { hitch := h, backlog := b, util := u })))

/-- R148: owner of the code that applies to a member of hitch `h`: the nearest engine hitch at or above with a section. -/
def Dev.codeOwner (d : Dev) (h : Nat) : Nat :=
  ((d.pathUp treeFuel h).find? (fun a => d.img.code.any (fun (c : CodeCopy) => c.owner = a))).getD 0

/-- REIN_ADD_JOIN, R162 steps 2 to 4: the added PE, its region awake, holds its code and data, joins hitch `h`, and is enabled. -/
def reinAddJoin (h : Nat) (d : Dev) : Dev :=
  match (d.eh h).bind EhSt.step with
  | none => d
  | some s =>
    if !s.add || decide (d.gait (regionOf s.pe) < 2) then d
    else
      let d := (d.loadPe (peNum s.pe) (d.codeOwner h)).joinHitch h s.pe
      let d := ((d.s s.pe Hdr.UNIT_CONTROL_ENABLE 1).settleEnable s.pe).takeBell s.pe
      ((d.endStep h).addk h Eh.ADDS 1).logRein h 1 s.pe s.window s.time

/-- REIN_ADD_JOIN. -/
def execReinAddJoin (h : Nat) (s : State) : Host.Outcome State Fault Refusal := s.run (reinAddJoin h)

/-- Every thread of PE `n` is IDLE. -/
def Dev.peIdle (d : Dev) (n : Nat) : Bool := (d.pe n).thr.all (fun (t : Thr) => t.st = .idle)

/-- REIN_REMOVE_DONE, R17, R163: the draining PE's threads are IDLE: its drain ends, it leaves hitch `h`, its data memory
is 0, and it joins the pool. -/
def reinRemoveDone (h : Nat) (d : Dev) : Dev :=
  match (d.eh h).bind EhSt.step, d.hitch h with
  | some s, some r =>
    if s.add || !d.peIdle (peNum s.pe) then d
    else
      let d := ((d.s s.pe Hdr.UNIT_CONTROL_DRAIN 0).setUst s.pe stReady).raise s.pe 0x0002 0 0
      let d := (d.dropLast h).clearMem .peData (fun a => a / 196608 = peNum s.pe)
      let d := d.joinHitch r.pool s.pe
      ((d.endStep h).addk h Eh.REMOVES 1).logRein h 2 s.pe s.window s.time
  | _, _ => d

/-- REIN_REMOVE_DONE. -/
def execReinRemoveDone (h : Nat) (s : State) : Host.Outcome State Fault Refusal := s.run (reinRemoveDone h)

/-- DRAIN_TIMEOUT, R163: the threads are not all IDLE 1 ms after the DRAIN write: the removal is cancelled. -/
def drainTimeout (h : Nat) (d : Dev) : Dev :=
  match (d.eh h).bind EhSt.step with
  | none => d
  | some s =>
    if s.add || d.peIdle (peNum s.pe) then d
    else
      let d := ((d.s s.pe Hdr.UNIT_CONTROL_DRAIN 0).s s.pe Hdr.UNIT_CONTROL_ENABLE 1).setUst s.pe stActive
      d.cancelRemoval s.pe 6

/-- DRAIN_TIMEOUT. -/
def execDrainTimeout (h : Nat) (s : State) : Host.Outcome State Fault Refusal := s.run (drainTimeout h)

end Sys2Proof.Machine
end

