-- ==== Sys2Proof/Machine/Work.lean ====
section
/-! DEFINITION. What work a unit has in progress, the end of its drain (R17, R26, R27, R63, R398), and the sleep of a region
without work (R443). -/

namespace Sys2Proof.Machine

/-- Direction of a packet's request of a crypto tile (R243): 1 encrypts, 0 does not. -/
def Pkt.cryDir (p : Pkt) : Nat := if p.mg CryReq.OP = 2 then 1 else 0

/-- R252: crypto tile `n` has packet `x` inside it. -/
def Dev.inCrypto (d : Dev) (n : Nat) (x : SwPkt) : Bool :=
  x.crypto = 2 && d.cry.steps.any (fun (s : CryStep) => s.id = x.id && saHome ((s.cands.map SaCand.idx).getD 0 0) x.pkt.cryDir = n)

/-- R26, R398: tile `u` has work in progress: a PE packets, a crypto tile packets and commands, a DMA tile running channels and jobs
taken, a storage tile commands, a MAC a frame on the wire. What waits at a tile is not yet its work (assumption 110). -/
def Dev.tileBusy (d : Dev) (u : Nat) : Bool :=
  match fixedKind u with
  | 0x01 => !d.peIdle (peNum u)
  | 0x03 => d.sw.wire.any (d.inCrypto (u - cryptoId 0)) || d.cry.ops.any (fun (o : SaOp) => o.tile = u - cryptoId 0)
  | 0x04 =>
    d.dma.chans.any (fun (x : ChSt) => x.tile = u - dmaId 0 && d.g (chUnit x.tile x.ch) DmaCh.CH_STATUS_STATE ≠ 3) ||
      d.queues.any (fun (x : QSt) => dmaOf x.qid = u && d.qf x.qid Qctx.KIND ≤ 2 && !x.jobs.isEmpty)
  | 0x05 => d.stor.cmds.any (fun (k : StCmd) => stHome k.sess = u)
  | 0x07 => (d.macs.getD (u - macId 0) MacSt.init).tx.isSome || (d.macs.getD (u - macId 0) MacSt.init).held.isSome
  | _ => false

/-- R153: engine hitch `u` has packets in its reorder stage. -/
def Dev.reorders (d : Dev) (u : Nat) : Bool :=
  d.ehs.any (fun (e : EhSt) => e.id = u && e.tags.any (fun (r : TagRec) => !r.outs.isEmpty))

/-- R17, R26: unit `u`, or a unit below it, has work in progress. -/
def Dev.unitBusy (d : Dev) (u : Nat) : Bool := (d.subtree u).any (fun m => d.tileBusy m || d.reorders m)

/-- DRAIN_DONE, R17: the work of a draining unit has finished. -/
def drainDone (u : Nat) (d : Dev) : Dev :=
  if d.ust u = stDraining && d.on u Hdr.UNIT_CONTROL_DRAIN && !d.unitBusy u then
    ((d.s u Hdr.UNIT_CONTROL_DRAIN 0).setUst u stReady).raise u 0x0002 0 0
  else d

/-- DRAIN_DONE. -/
def execDrainDone (u : Nat) (s : State) : Host.Outcome State Fault Refusal := s.run (drainDone u)

/-! ### Sleep (R443) -/

/-- R443: unit `u` holds packets, threads, commands, outstanding requests or a pending doorbell. -/
def Dev.hasWork (d : Dev) (u : Nat) : Bool :=
  d.on u Hdr.UNIT_STATUS_DB_PENDING || d.tileBusy u ||
    match fixedKind u with
    | 0x02 =>
      let m := u - matchId 0
      let here := fun (t : Nat) => homeTile t = m
      d.tbl.changes.any (fun (c : TblChg) => here c.table) || d.tbl.looks.any (fun (r : LookReq) => here r.table) ||
        d.tbl.learn.any (fun (r : LearnReq) => here r.table)
    | 0x04 =>
      d.sw.hostRx.any (fun x => dmaOf x.1 = u) || d.queues.any (fun (x : QSt) => dmaOf x.qid = u && x.rung && d.canScan x.qid)
    | 0x05 =>
      !d.sw.storage.isEmpty || d.stor.capsules.any (fun x => stHome x.1 = u) ||
        d.stor.tcp.any (fun (x : StTcp) => stHome x.sess = u && !x.buf.isEmpty)
    | 0x06 =>
      !d.sw.transport.isEmpty ||
        d.tp.conns.any (fun (x : TpConn) => homeOf x.cid = u && (x.rx.isSome || !x.msgs.isEmpty || !x.answers.isEmpty || !x.held.isEmpty))
    | 0x07 => (d.macs.getD (u - macId 0) MacSt.init).rxOpen.isSome
    | 0x08 => d.admin.any (fun (c : AdminCmd) => epId c.pf = u) || !(d.ep (u - epId 0)).heldWrites.isEmpty
    | 0x09 => !d.sw.wire.isEmpty || !d.sw.held.isEmpty || !d.sw.queued.isEmpty
    | 0x0B =>
      let n := u - prismId 0
      d.prism.wire.any (fun x => x.1 = n) || d.prism.fifo.any (fun x => x.1 = n)
    | _ => false

/-- R443: no unit of region `r` has work, and no wake trigger is pending. -/
def Dev.restful (d : Dev) (r : Nat) : Bool := !(d.region r).wakeReq && !(regionUnits r).any d.hasWork

/-- A region goes to sleep: gait `g`, with no step under way. -/
def Dev.sleep (d : Dev) (r g : Nat) : Dev :=
  (d.setGait r g).setRegion r (fun (x : RegionSt) => { x with step := none, upWaits := false, lowRun := 0 })

/-- REGION_STAND, R443: region `r`, without work and with no wake pending for STAND_DELAY, enters Stand. R442 lists the change from
Trot, Canter and Gallop only. -/
def regionStand (r : Nat) (d : Dev) : Dev := if !d.restful r || decide (d.gait r < 3) then d else d.sleep r 1

/-- REGION_STAND. -/
def execRegionStand (r : Nat) (s : State) : Host.Outcome State Fault Refusal := s.run (regionStand r)

/-- REGION_REST, R443: region `r`, at Stand (or Walk, R442) without work, enters Rest. -/
def regionRest (r : Nat) (d : Dev) : Dev :=
  if !d.restful r || d.restBarred r || !(decide (d.gait r = 1) || decide (d.gait r = 2)) then d else d.sleep r 0

/-- REGION_REST. -/
def execRegionRest (r : Nat) (s : State) : Host.Outcome State Fault Refusal := s.run (regionRest r)

end Sys2Proof.Machine
end

