-- ==== Sys2Proof/Machine/EngExec.lean ====
section
/-! DEFINITION. What each engine instruction does to its thread, its PE and the match tiles (R143, R146, R170 to R193), and
the command of each mnemonic: the next RUNNING thread of a PE issues the instruction at its PC. -/

namespace Sys2Proof.Machine

/-! ### Registers of a thread (R144, R167) -/

/-- R106, R175: byte `o` of the header vector; bytes at or beyond PKT_LEN read 0. -/
def Thr.vbyte (x : Thr) (o : Nat) : Byte := if o < x.pkt.mg Meta.PKT_LEN then x.v.getD o 0 else 0

/-- `n` bytes of the header vector from `o`. -/
def Thr.vbytes (x : Thr) (o n : Nat) : List Byte := (List.range n).map (fun i => x.vbyte (o + i))

/-- R167: value of the register a specifier names. -/
def Thr.reg (x : Thr) (r : Nat) : Word :=
  if r < 32 then (if r = 0 then 0 else x.g.getD r 0)
  else if r < 48 then x.pkt.m.getD (r - 32) 0
  else BitVec.ofNat 64 (beNat (x.vbytes (8 * (r - 64)) 8))

/-- R188: a late result for register `r` is discarded. -/
def Thr.kill (x : Thr) (r : Nat) : Thr :=
  { x with ops := x.ops.map (fun (o : ThrOp) => if o.dst ≤ r && decide (r ≤ o.dst + o.n) then { o with dead := r :: o.dead } else o) }

/-- R167, R188: write the register a specifier names: g0 discards, and m0's PKT_LEN is kept. -/
def Thr.setReg (x : Thr) (r : Nat) (v : Word) : Thr :=
  if r = 0 then x
  else if r < 32 then { x.kill r with g := x.g.set r v }
  else if r < 48 then
    let v := if r = 32 then putBits v 48 16 (x.pkt.mg Meta.PKT_LEN) else v
    { x with pkt := { x.pkt with m := x.pkt.m.set (r - 32) v } }
  else { x with v := spliceBytes x.v (8 * (r - 64)) (beBytes 8 v.toNat) }

/-- R188: register `r` awaits a result. -/
def Thr.pending (x : Thr) (r : Nat) : Bool :=
  r ≠ 0 && decide (r < 32) &&
    x.ops.any (fun (o : ThrOp) => decide (o.dst ≤ r) && decide (r ≤ o.dst + o.n) && !o.dead.contains r)

/-- The `n` specifiers from `r` that lie in its class (R183, R184). -/
def regRun (r n : Nat) : List Nat :=
  (List.range n).filterMap (fun k => if (r < 32 && r + k < 32) || (64 ≤ r && r + k < 128) then some (r + k) else none)

/-- Values of the `n` registers from `r`; past the end of the class they are 0. -/
def Thr.run (x : Thr) (r n : Nat) : List Word :=
  (List.range n).map (fun k => if (r < 32 && r + k < 32) || (64 ≤ r && r + k < 128) then x.reg (r + k) else 0)

/-- Registers an instruction reads. -/
def EngInst.reads (i : EngInst) : List Nat :=
  match i.op with
  | .movi | .jal | .drop | .rds => []
  | .movk => [i.d]
  | .ins | .hst | .stw | .std => [i.d, i.a]
  | .csadd | .cshv | .crcr | .crchv => [i.d, i.a, i.b]
  | .addi | .andi | .ori | .xori | .shli | .shri | .ext | .exts | .hld | .hadj | .ldw | .ldd | .jr | .csfin | .emitCopy
  | .emitFinal | .bbs | .bbc => [i.a]
  | .lk | .tdel => i.b :: regRun i.a 5
  | .tins => i.b :: regRun i.a 8
  | .twr => i.b :: regRun i.a (i.x + 1)
  | .atomCas => i.b :: regRun i.a 2
  | _ => [i.a, i.b]

/-- R188: an instruction that takes one of its thread's 4 slots. -/
def EMn.isLookup : EMn → Bool
  | .lk | .tins | .tdel | .twr | .atomAdd | .atomSwp | .atomCas | .pol => true
  | _ => false

/-! ### Arithmetic, fields and sums -/

/-- A value of `w` bits read as signed. -/
def sext (w v : Nat) : Int := if 2 ^ (w - 1) ≤ v then Int.ofNat v - Int.ofNat (2 ^ w) else Int.ofNat v

/-- A sign-extended immediate of `w` bits. -/
def simm (w v : Nat) : Word := BitVec.ofInt 64 (sext w v)

/-- R170: result of the RR arithmetic group. -/
def aluRR (op : EMn) (a b : Word) : Word :=
  let n := b.toNat % 64
  match op with
  | .add => a + b
  | .sub => a - b
  | .andr => a &&& b
  | .orr => a ||| b
  | .xorr => a ^^^ b
  | .shl => a <<< n
  | .shr => a >>> n
  | .sar => a.sshiftRight n
  | .mul => a * b
  | .slt => if a.slt b then 1 else 0
  | _ => if a.ult b then 1 else 0

/-- R172: result of the RI arithmetic group. -/
def aluRI (op : EMn) (a : Word) (x : Nat) : Word :=
  match op with
  | .addi => a + simm 12 x
  | .andi => a &&& BitVec.ofNat 64 x
  | .ori => a ||| BitVec.ofNat 64 x
  | .xori => a ^^^ BitVec.ofNat 64 x
  | .shli => a <<< (x % 64)
  | _ => a >>> (x % 64)

/-- R174: field of A, or D with the field replaced. -/
def bitFieldOp (op : EMn) (d a : Word) (x : Nat) : Word :=
  let pos := x / 64
  let w := x % 64 + 1
  match op with
  | .ext => BitVec.ofNat 64 (getBits a pos w)
  | .exts => simm w (getBits a pos w)
  | _ => putBits d pos w (getBits a 0 w)

/-- The four 16-bit fields of a register, added. -/
def fields16 (a : Word) : Nat := getBits a 0 16 + getBits a 16 16 + getBits a 32 16 + getBits a 48 16

/-- R180: a running CRC over bytes: the polynomial and register by FN. -/
def crcRun (x : Nat) (d : Word) (bs : List Byte) : Word :=
  BitVec.ofNat 64 (if x = 0 then crcR polyC (getBits d 0 32) bs else if x = 1 then crcR poly32 (getBits d 0 32) bs
    else crcN 16 0x8BB7 (getBits d 0 16) bs)

/-- R178: condition of a branch. -/
def branchTaken (op : EMn) (a b : Word) (bit : Nat) : Bool :=
  match op with
  | .beq => a = b
  | .bne => a ≠ b
  | .blt => a.slt b
  | .bge => !a.slt b
  | .bltu => a.ult b
  | .bgeu => !a.ult b
  | .bbs => getBits a bit 1 = 1
  | _ => getBits a bit 1 = 0

/-! ### The header vector (R175, R176) -/

/-- R176: bytes of V that belong to the packet. -/
def Thr.vl (x : Thr) : Nat := x.pkt.mg Meta.PKT_LEN - x.spill.length - x.tail.length

/-- R176: the packet as it would be emitted. -/
def Thr.bytes (x : Thr) : List Byte := x.v.take x.vl ++ x.spill ++ x.tail

/-- R176: HADJ with adjustment `n`; none where it traps LEN_RANGE. -/
def Thr.hadj (x : Thr) (n : Int) : Option Thr :=
  let k := n.natAbs
  let len := Int.ofNat (x.pkt.mg Meta.PKT_LEN) + n
  if n = 0 then some x
  else if 256 < k ∨ len < 14 ∨ 16383 < len then none
  else
    let p := x.pkt.ms Meta.PKT_LEN len.toNat
    if 0 < n then
      let excess := x.vl + k - 512
      if 256 < x.spill.length + excess then none
      else some { x with
        v := List.replicate k 0 ++ x.v.take (512 - k), spill := (x.v.take x.vl).drop (x.vl - excess) ++ x.spill, pkt := p }
    else if x.vl < k then none
    else some { x with
      v := x.v.drop k ++ x.spill.take k ++ List.replicate (k - x.spill.length) 0, spill := x.spill.drop k, pkt := p }

/-! ### Instructions that act on their thread alone -/

/-- What an instruction does to its thread: the thread as it then is, the next PC and the slots used, or a trap. -/
inductive EngRes where
  | go (x : Thr) (pc slots : Nat)
  | trap (code : Nat)
  deriving DecidableEq, Repr

/-- R178: a transfer to a target, or PC_RANGE. -/
def jumpTo (x : Thr) (t : Int) : EngRes := if t < 0 ∨ 0x10000 ≤ t ∨ t % 4 ≠ 0 then .trap 2 else .go x t.toNat 1

/-- R175: access of HLD and HST: offset and bytes. -/
def hvAccess (x : Thr) (i : EngInst) : Nat × Nat := ((x.reg i.a).toNat + i.x % 512, 2 ^ (i.x / 512 % 4))

/-- R170 to R180: an instruction that reads and writes only its own thread. -/
def Thr.exec (x : Thr) (i : EngInst) : EngRes :=
  let a := x.reg i.a
  let b := x.reg i.b
  let d := x.reg i.d
  let next := x.pc + 4
  match i.op with
  | .add | .sub | .andr | .orr | .xorr | .shl | .shr | .sar | .slt | .sltu => .go (x.setReg i.d (aluRR i.op a b)) next 1
  | .mul => .go (x.setReg i.d (aluRR i.op a b)) next 2
  | .addi | .andi | .ori | .xori | .shli | .shri => .go (x.setReg i.d (aluRI i.op a i.x)) next 1
  | .movi => .go (x.setReg i.d (simm 19 i.x)) next 1
  | .movk => .go (x.setReg i.d (putBits d (16 * (i.x / 65536)) 16 (i.x % 65536))) next 1
  | .ext | .exts | .ins => .go (x.setReg i.d (bitFieldOp i.op d a i.x)) next 1
  | .hld =>
    let (o, n) := hvAccess x i
    if 512 < o + n then .trap 5 else .go (x.setReg i.d (BitVec.ofNat 64 (beNat (x.vbytes o n)))) next 1
  | .hst =>
    let (o, n) := hvAccess x i
    if 512 < o + n then .trap 5 else .go { x with v := spliceBytes x.v o (beBytes n d.toNat) } next 1
  | .hadj =>
    match x.hadj (a.toInt + sext 12 i.x) with
    | some y => .go y next 2
    | none => .trap 6
  | .beq | .bne | .blt | .bge | .bltu | .bgeu | .bbs | .bbc =>
    if branchTaken i.op a b i.b then jumpTo x (Int.ofNat x.pc + 4 * sext 12 i.x) else .go x next 1
  | .jal => jumpTo (x.setReg i.d (BitVec.ofNat 64 next)) (Int.ofNat x.pc + 4 * sext 19 i.x)
  | .jr => jumpTo (x.setReg i.d (BitVec.ofNat 64 next)) (Int.ofNat a.toNat)
  | .csadd => .go (x.setReg i.d (BitVec.ofNat 64 (fold16 (getBits d 0 16 + fields16 a + fields16 b)))) next 1
  | .csfin => .go (x.setReg i.d (BitVec.ofNat 64 (65535 - fold16 (fields16 a)))) next 1
  | .cshv =>
    let n := b.toNat
    if n ≠ 0 ∧ 512 < a.toNat + n then .trap 5
    else if n = 0 then .go x next 1
    else .go (x.setReg i.d (BitVec.ofNat 64 (fold16 (getBits d 0 16 + sum16 (x.vbytes a.toNat n))))) next (1 + (n + 15) / 16)
  | .crcr =>
    let n := min 8 b.toNat
    .go (if n = 0 then x else x.setReg i.d (crcRun i.x d (beBytes n a.toNat))) next 1
  | .crchv =>
    let n := b.toNat
    if n ≠ 0 ∧ 512 < a.toNat + n then .trap 5
    else if n = 0 then .go x next 1
    else .go (x.setReg i.d (crcRun i.x d (x.vbytes a.toNat n))) next (1 + (n + 15) / 16)
  | _ => .go x next 1

/-! ### Instructions that act beyond their thread -/

/-- Thread `t` of PE `n` has issued an instruction of `slots` slots and stands as `x` with the given PC. -/
def Dev.issued (d : Dev) (n t : Nat) (x : Thr) (pc slots : Nat) : Dev :=
  (d.setThr n t (fun _ => { x with pc := pc })).addk (peId n) Pe.ISSUED slots

/-- R177: LDW, LDD, STW and STD. -/
def Dev.execMem (d : Dev) (n t : Nat) (x : Thr) (i : EngInst) (w : Nat) : Dev :=
  let sz := if i.op = .ldw ∨ i.op = .stw then 4 else 8
  let a := (x.reg i.a + simm 12 i.x).toNat
  let next := x.pc + 4
  if 0x30000 < a + sz then d.trap n t 3 w
  else if a % sz ≠ 0 then d.trap n t 4 w
  else if i.op = .ldw ∨ i.op = .ldd then
    if (d.pe n).badData.contains (a / 8) then (d.uncorr (peId n) 6 0).trap n t 0x0A w
    else d.issued n t (x.setReg i.d (BitVec.ofNat 64 (leNat (d.readMem .peData (n * 196608 + a) sz)))) next 1
  else
    let d := d.writeMem .peData (n * 196608 + a) (leBytes sz (x.reg i.d).toNat)
    let d := if sz = 8 then d.setPe n (fun (p : PeSt) => { p with badData := p.badData.filter (· ≠ a / 8) }) else d
    d.issued n t x next 1

/-- R181: table, index, first word and prefix length of a table operand; reserved bits. -/
def operandBad (b : Word) : Bool := getBits b 21 3 ≠ 0

/-- R182, R188: thread `x` has one more operation outstanding, with `n` words after the status; earlier results for its
registers are discarded. -/
def Thr.addOp (x : Thr) (dst n : Nat) : Thr :=
  let y := (List.range (n + 1)).foldl (fun (y : Thr) k => y.kill (dst + k)) x
  { y with ops := y.ops ++ [{ slot := x.nextSlot, dst := dst, n := n, dead := [] }], nextSlot := x.nextSlot + 1 }

/-- A change for a home tile. -/
def Dev.addChange (d : Dev) (c : TblChg) : Dev :=
  ({ d with tbl := { d.tbl with changes := d.tbl.changes ++ [c] } }).wakeUnit (matchId (homeTile c.table))

/-- The bytes of a key held in registers, key byte 0 first (R183). -/
def keyBytes (ws : List Word) : List Byte := ws.flatMap (fun w => beBytes 8 w.toNat)

/-- R184, R185: the change a table instruction asks of the home tile. -/
def Thr.tblReq (x : Thr) (i : EngInst) : TblReq :=
  let b := x.reg i.b
  let idx := wget [b] TOpnd.INDEX
  let first := wget [b] TOpnd.FIRST_WORD
  match i.op with
  | .tins => .tins (x.run i.a 8)
  | .tdel => .tdel (keyBytes (x.run i.a 5)) (wget [b] TOpnd.PREFIX_LEN)
  | .twr => .twr idx first (x.run i.a (i.x + 1))
  | .atomAdd => .atom 0 idx first (x.reg i.a).toNat 0
  | .atomSwp => .atom 1 idx first (x.reg i.a).toNat 0
  | .atomCas => .atom 2 idx first (x.reg i.a).toNat (x.reg (i.a + 1)).toNat
  | _ => .bad

/-- Words an operation returns after its status. -/
def EngInst.extra (i : EngInst) : Nat :=
  match i.op with
  | .lk => i.x % 8
  | .atomAdd | .atomSwp | .atomCas => 1
  | _ => 0

/-- R181 to R185, R187: LK, TINS, TDEL, TWR, ATOM and POL send their request and go on. -/
def Dev.execTable (d : Dev) (n t : Nat) (x : Thr) (i : EngInst) : Dev :=
  let b := x.reg i.b
  let src : TblSrc := .engine n t x.nextSlot (d.peOwner n)
  let id := wget [b] TOpnd.TABLE_ID
  let d := d.issued n t (x.addOp i.d i.extra) (x.pc + 4) 1
  if operandBad b then
    { d with tbl := { d.tbl with answers := d.tbl.answers ++ [{ ansSt src Sc.malformed with words := List.replicate i.extra 0 }] } }
  else if i.op = .lk then
    let learn := 8 ≤ i.x
    let r : LookReq :=
      { src := .engine n t x.nextSlot, table := id, key := keyBytes (x.run i.a 5), index := wget [b] TOpnd.INDEX
        first := wget [b] TOpnd.FIRST_WORD, n := i.x % 8, learn := learn
        source := if learn then d.learnSource (x.pkt.mg Meta.SRC_KIND) (x.pkt.mg Meta.SRC_ID) else none }
    ({ d with tbl := { d.tbl with looks := d.tbl.looks ++ [r] } }).wakeUnit (matchId (homeTile id))
  else if i.op = .pol then
    let a := x.reg i.a
    let r : PolReq := { src := src, table := id, index := wget [b] TOpnd.INDEX, bytes := getBits a 0 32
                        colour := getBits a 32 2, bad := getBits a 32 2 = 3 }
    ({ d with sched := { d.sched with pols := d.sched.pols ++ [r] } }).wakeUnit (matchId (homeTile id))
  else d.addChange { src := src, table := id, req := x.tblReq i }

/-- R186: CNT; with 64 in flight the thread stays at it. -/
def Dev.execCnt (d : Dev) (n t : Nat) (x : Thr) (i : EngInst) : Dev :=
  let b := x.reg i.b
  if 64 ≤ (d.pe n).cnts then d
  else
    let d := d.issued n t x (x.pc + 4) 1
    if operandBad b then d.bumpk (peId n) Pe.TABLE_REFUSED
    else
      (d.setPe n (fun (p : PeSt) => { p with cnts := p.cnts + 1 })).addChange
        { src := .engine n t x.nextSlot (d.peOwner n), table := wget [b] TOpnd.TABLE_ID
          req := .cnt (wget [b] TOpnd.INDEX) (x.reg i.a).toNat }

/-- R240: a crypto tile of the direction a request asks for has effective enable 1. -/
def Dev.cryptoOpen (d : Dev) (p : Pkt) : Bool :=
  match p.mg CryReq.OP with
  | 0 => true
  | 1 => (List.range 16).any (fun k => d.takesWork (cryptoId k))
  | 2 => (List.range 16).any (fun k => d.takesWork (cryptoId (16 + k)))
  | _ => (List.range 32).any (fun k => d.takesWork (cryptoId k))

/-- R189: trap code with which an EMIT of action word `w` by a PE of hitch `h`, after `k` emits, ends. -/
def Dev.emitTrap (d : Dev) (h w k : Nat) : Option Nat :=
  let act := w % 16
  let u := w / 16 % 2 ^ 24
  if 1 ≤ act ∧ act ≤ 4 ∧ 8 ≤ k then some 7
  else if !actionOk w || (act = 1 && decide (48 ≤ u)) ||
      (act = 3 && (!(d.isEngine u && d.present u) || (d.pathUp treeFuel h).contains u)) then some 8
  else none

/-- R189, R198, R205, R240: the destination cannot accept the packet now: a full dispatch FIFO, a crypto tile with no room, or a
switch core that would refuse or hold it. -/
def Dev.emitBlocked (d : Dev) (h w : Nat) (p : Pkt) : Bool :=
  let input := (d.enginePort (d.topEngine h)).getD 47
  match actDest w with
  | none => false
  | some x =>
    let inner := match x with
      | .hitch u => d.inSubtree (d.topEngine h) u && !d.fifoRoom u
      | _ => false
    let within := match x with
      | .hitch u => d.inSubtree (d.topEngine h) u
      | _ => false
    inner || !d.cryptoOpen p || (!within && (d.stalled p input x || d.refused p input x))

/-- R189, R190, R153: EMIT. -/
def Dev.execEmit (d : Dev) (n t : Nat) (x : Thr) (i : EngInst) (word : Nat) : Dev :=
  let w := (x.reg i.a).toNat
  let final := i.op = .emitFinal
  let slots := if final then 2 else 4
  let p : Pkt := { x.pkt with data := x.bytes, job := none }
  let p := p.withAct w
  match d.emitTrap x.hitch w x.emits with
  | some c => d.trap n t c word
  | none =>
    if w % 16 = 0 then
      (if final then (((d.issued n t x (x.pc + 4) slots).addk x.hitch Eh.DROP_ENGINE 1).endPacket n t)
        else d.issued n t x (x.pc + 4) slots)
    else if d.emitBlocked x.hitch w p then d
    else
      let d := d.issued n t { x with emits := x.emits + 1 } (x.pc + 4) slots
      let d := (d.countAct w p.data.length).pushEmit x.hitch x.tag { pkt := p, act := w, time := d.time }
      if final then d.endPacket n t else d

/-- R192: RDS. FN 0 reads the thread's count of cycles (R149, assumption 18). -/
def Dev.execRds (d : Dev) (n t : Nat) (x : Thr) (i : EngInst) : Dev :=
  let v : Word :=
    if i.x = 0 then BitVec.ofNat 64 x.cycles
    else if i.x = 1 then BitVec.ofNat 64 (d.tb.ns / 2 ^ 32 + d.tb.sec % 2 ^ 32 * 2 ^ 32)
    else if i.x = 2 then BitVec.ofNat 64 (peId n + t * 2 ^ 24 + d.peOwner n * 2 ^ 40)
    else BitVec.ofNat 64 x.emits
  d.issued n t (x.setReg i.d v) (x.pc + 4) 1

/-- R170 to R193: instruction `i`, whose word is `w`, issued by thread `t` of PE `n`. -/
def Dev.execInst (d : Dev) (n t : Nat) (i : EngInst) (w : Nat) : Dev :=
  let x := d.thr n t
  match i.op with
  | .ldw | .ldd | .stw | .std => d.execMem n t x i w
  | .lk | .tins | .tdel | .twr | .atomAdd | .atomSwp | .atomCas | .pol => d.execTable n t x i
  | .cnt => d.execCnt n t x i
  | .emitCopy | .emitFinal => d.execEmit n t x i w
  | .drop => ((d.issued n t x (x.pc + 4) 1).addk x.hitch Eh.DROP_ENGINE 1).endPacket n t
  | .rds => d.execRds n t x i
  | _ => match x.exec i with
    | .trap c => d.trap n t c w
    | .go y pc slots => d.issued n t y pc slots

/-! ### Issue (R143, R145, R146) -/

/-- A PE in which threads may issue: not OFF, in RESET, HALTED or PATCHING. -/
def Dev.peRuns (d : Dev) (n : Nat) : Bool :=
  let st := d.ust (peId n)
  st = stReady || st = stActive || st = stDraining

/-- R145: LOADING threads have their packet in place. -/
def Dev.promote (d : Dev) (n : Nat) : Dev :=
  d.setPe n (fun (p : PeSt) => { p with
    thr := p.thr.map (fun (t : Thr) => if t.st = .loading then { t with st := .running } else t) })

/-- R143: the first RUNNING thread after the one that issued last, ascending modulo 8. -/
def PeSt.nextThread (p : PeSt) : Option Nat :=
  ((List.range 8).map (fun k => (p.last + 1 + k) % 8)).find? (fun t => (p.thr.getD t Thr.init).st = .running)

/-- R146: the thread must wait: the instruction reads a register that awaits a result, or is a fifth table operation. -/
def Thr.mustWait (x : Thr) (i : EngInst) : Bool :=
  i.reads.any (fun r => x.pending r) || (i.op.isLookup && decide (4 ≤ x.ops.length))

/-- R143, R169, R193: PE `n` issues from its next thread, whose instruction is of mnemonic `m` or breaks a rule of its
encoding under it; an undefined opcode traps whichever mnemonic is asked. Any other instruction at the PC leaves the PE
as it is. -/
def issue (n : Nat) (m : EMn) (d0 : Dev) : Dev :=
  let d := d0.promote n
  match (d.pe n).nextThread with
  | none => d0
  | some t =>
    let x := d.thr n t
    let d := d.setPe n (fun (p : PeSt) => { p with last := t })
    let w := d.fetchWord n x.pc
    if !d.peRuns n then d0
    else if 0x10000 ≤ x.pc then d.trap n t 2 0
    else if (d.pe n).badCode.contains (x.pc / 8) then d.codeEcc n t
    else match decodeInst w with
      | none =>
        let o := opOf (w / 2 ^ 26 % 64) (w % 32)
        if o = none ∨ o = some m then d.trap n t 1 w else d0
      | some i =>
        if i.op ≠ m then d0
        else if x.mustWait i then (d.setThr n t (fun (x : Thr) => { x with st := .waiting })).syncPe n
        else (d.execInst n t i w).syncPe n

/-- ADD, R170. -/
def execAdd (n : Nat) (s : State) : Host.Outcome State Fault Refusal := s.run (issue n .add)

/-- SUB, R170. -/
def execSub (n : Nat) (s : State) : Host.Outcome State Fault Refusal := s.run (issue n .sub)

/-- AND, R170. -/
def execAnd (n : Nat) (s : State) : Host.Outcome State Fault Refusal := s.run (issue n .andr)

/-- OR, R170. -/
def execOr (n : Nat) (s : State) : Host.Outcome State Fault Refusal := s.run (issue n .orr)

/-- XOR, R170. -/
def execXor (n : Nat) (s : State) : Host.Outcome State Fault Refusal := s.run (issue n .xorr)

/-- SHL, R170. -/
def execShl (n : Nat) (s : State) : Host.Outcome State Fault Refusal := s.run (issue n .shl)

/-- SHR, R170. -/
def execShr (n : Nat) (s : State) : Host.Outcome State Fault Refusal := s.run (issue n .shr)

/-- SAR, R170. -/
def execSar (n : Nat) (s : State) : Host.Outcome State Fault Refusal := s.run (issue n .sar)

/-- MUL, R170. -/
def execMul (n : Nat) (s : State) : Host.Outcome State Fault Refusal := s.run (issue n .mul)

/-- SLT, R170. -/
def execSlt (n : Nat) (s : State) : Host.Outcome State Fault Refusal := s.run (issue n .slt)

/-- SLTU, R170. -/
def execSltu (n : Nat) (s : State) : Host.Outcome State Fault Refusal := s.run (issue n .sltu)

/-- ADDI, R172. -/
def execAddi (n : Nat) (s : State) : Host.Outcome State Fault Refusal := s.run (issue n .addi)

/-- ANDI, R172. -/
def execAndi (n : Nat) (s : State) : Host.Outcome State Fault Refusal := s.run (issue n .andi)

/-- ORI, R172. -/
def execOri (n : Nat) (s : State) : Host.Outcome State Fault Refusal := s.run (issue n .ori)

/-- XORI, R172. -/
def execXori (n : Nat) (s : State) : Host.Outcome State Fault Refusal := s.run (issue n .xori)

/-- SHLI, R172. -/
def execShli (n : Nat) (s : State) : Host.Outcome State Fault Refusal := s.run (issue n .shli)

/-- SHRI, R172. -/
def execShri (n : Nat) (s : State) : Host.Outcome State Fault Refusal := s.run (issue n .shri)

/-- MOVI, R172. -/
def execMovi (n : Nat) (s : State) : Host.Outcome State Fault Refusal := s.run (issue n .movi)

/-- MOVK, R173. -/
def execMovk (n : Nat) (s : State) : Host.Outcome State Fault Refusal := s.run (issue n .movk)

/-- EXT, R174. -/
def execExt (n : Nat) (s : State) : Host.Outcome State Fault Refusal := s.run (issue n .ext)

/-- EXTS, R174. -/
def execExts (n : Nat) (s : State) : Host.Outcome State Fault Refusal := s.run (issue n .exts)

/-- INS, R174. -/
def execIns (n : Nat) (s : State) : Host.Outcome State Fault Refusal := s.run (issue n .ins)

/-- HLD, R175. -/
def execHld (n : Nat) (s : State) : Host.Outcome State Fault Refusal := s.run (issue n .hld)

/-- HST, R175. -/
def execHst (n : Nat) (s : State) : Host.Outcome State Fault Refusal := s.run (issue n .hst)

/-- HADJ, R176. -/
def execHadj (n : Nat) (s : State) : Host.Outcome State Fault Refusal := s.run (issue n .hadj)

/-- LDW, R177. -/
def execLdw (n : Nat) (s : State) : Host.Outcome State Fault Refusal := s.run (issue n .ldw)

/-- LDD, R177. -/
def execLdd (n : Nat) (s : State) : Host.Outcome State Fault Refusal := s.run (issue n .ldd)

/-- STW, R177. -/
def execStw (n : Nat) (s : State) : Host.Outcome State Fault Refusal := s.run (issue n .stw)

/-- STD, R177. -/
def execStd (n : Nat) (s : State) : Host.Outcome State Fault Refusal := s.run (issue n .std)

/-- BEQ, R178. -/
def execBeq (n : Nat) (s : State) : Host.Outcome State Fault Refusal := s.run (issue n .beq)

/-- BNE, R178. -/
def execBne (n : Nat) (s : State) : Host.Outcome State Fault Refusal := s.run (issue n .bne)

/-- BLT, R178. -/
def execBlt (n : Nat) (s : State) : Host.Outcome State Fault Refusal := s.run (issue n .blt)

/-- BGE, R178. -/
def execBge (n : Nat) (s : State) : Host.Outcome State Fault Refusal := s.run (issue n .bge)

/-- BLTU, R178. -/
def execBltu (n : Nat) (s : State) : Host.Outcome State Fault Refusal := s.run (issue n .bltu)

/-- BGEU, R178. -/
def execBgeu (n : Nat) (s : State) : Host.Outcome State Fault Refusal := s.run (issue n .bgeu)

/-- BBS, R178. -/
def execBbs (n : Nat) (s : State) : Host.Outcome State Fault Refusal := s.run (issue n .bbs)

/-- BBC, R178. -/
def execBbc (n : Nat) (s : State) : Host.Outcome State Fault Refusal := s.run (issue n .bbc)

/-- JAL, R178. -/
def execJal (n : Nat) (s : State) : Host.Outcome State Fault Refusal := s.run (issue n .jal)

/-- JR, R178. -/
def execJr (n : Nat) (s : State) : Host.Outcome State Fault Refusal := s.run (issue n .jr)

/-- CSADD, R179. -/
def execCsadd (n : Nat) (s : State) : Host.Outcome State Fault Refusal := s.run (issue n .csadd)

/-- CSHV, R179. -/
def execCshv (n : Nat) (s : State) : Host.Outcome State Fault Refusal := s.run (issue n .cshv)

/-- CSFIN, R179. -/
def execCsfin (n : Nat) (s : State) : Host.Outcome State Fault Refusal := s.run (issue n .csfin)

/-- CRCR, R180. -/
def execCrcr (n : Nat) (s : State) : Host.Outcome State Fault Refusal := s.run (issue n .crcr)

/-- CRCHV, R180. -/
def execCrchv (n : Nat) (s : State) : Host.Outcome State Fault Refusal := s.run (issue n .crchv)

/-- LK, R183. -/
def execLk (n : Nat) (s : State) : Host.Outcome State Fault Refusal := s.run (issue n .lk)

/-- TINS, R184. -/
def execTins (n : Nat) (s : State) : Host.Outcome State Fault Refusal := s.run (issue n .tins)

/-- TDEL, R184. -/
def execTdel (n : Nat) (s : State) : Host.Outcome State Fault Refusal := s.run (issue n .tdel)

/-- TWR, R184. -/
def execTwr (n : Nat) (s : State) : Host.Outcome State Fault Refusal := s.run (issue n .twr)

/-- ATOM_ADD, R185. -/
def execAtomAdd (n : Nat) (s : State) : Host.Outcome State Fault Refusal := s.run (issue n .atomAdd)

/-- ATOM_SWP, R185. -/
def execAtomSwp (n : Nat) (s : State) : Host.Outcome State Fault Refusal := s.run (issue n .atomSwp)

/-- ATOM_CAS, R185. -/
def execAtomCas (n : Nat) (s : State) : Host.Outcome State Fault Refusal := s.run (issue n .atomCas)

/-- CNT, R186. -/
def execCnt (n : Nat) (s : State) : Host.Outcome State Fault Refusal := s.run (issue n .cnt)

/-- POL, R187. -/
def execPol (n : Nat) (s : State) : Host.Outcome State Fault Refusal := s.run (issue n .pol)

/-- EMIT_COPY, R189. -/
def execEmitCopy (n : Nat) (s : State) : Host.Outcome State Fault Refusal := s.run (issue n .emitCopy)

/-- EMIT_FINAL, R189. -/
def execEmitFinal (n : Nat) (s : State) : Host.Outcome State Fault Refusal := s.run (issue n .emitFinal)

/-- DROP, R190. -/
def execDrop (n : Nat) (s : State) : Host.Outcome State Fault Refusal := s.run (issue n .drop)

/-- RDS, R192. -/
def execRds (n : Nat) (s : State) : Host.Outcome State Fault Refusal := s.run (issue n .rds)

end Sys2Proof.Machine
end

