-- ==== Sys2Proof/Machine/Crypto.lean ====
section
/-! DEFINITION. Inline crypto: what a crypto tile does to a packet's bytes, security associations and their home-tile steps,
and the SA command interface (R240 to R259, R470). -/

namespace Sys2Proof.Machine

/-! ### Packet formats (R246, R247) -/

/-- Key words of an SA record. -/
def saKey (sa : List Word) : List Word := (List.range 4).map (fun i => sa.getD (4 + i) 0)

/-- R249: the 12 salt bytes of an SA record. -/
def saSalt (sa : List Word) : List Byte := leBytes 8 (wget sa SA.SALT_LO) ++ leBytes 4 (wget sa SA.SALT_HI)

/-- Bytes combined bit by bit. -/
def xorBytes (a b : List Byte) : List Byte := List.zipWith (fun x y => x ^^^ y) a b

/-- R249: bytes of the ICV. -/
def icvLen (sa : List Word) : Nat := match wget sa SA.ICV_LEN with
  | 1 => 12
  | 2 => 8
  | _ => 16

/-- R249: the SA uses XPN. -/
def saXpn (sa : List Word) : Bool := wget sa SA.SUITE = 3 || wget sa SA.SUITE = 4

/-- R246: the nonce of a packet with sequence `s`; `iv` is the IV that ESP carries. -/
def saNonce (sa : List Word) (s : Nat) (iv : List Byte) : List Byte :=
  if wget sa SA.PROTO = 1 then (saSalt sa).take 4 ++ iv
  else if wget sa SA.PROTO = 3 then xorBytes (saSalt sa) (beBytes 12 s)
  else if saXpn sa then xorBytes (saSalt sa) (beBytes 4 (wget sa SA.ID) ++ beBytes 8 s)
  else beBytes 8 (wget sa SA.SCI) ++ beBytes 4 s

/-- Big-endian field changed by a signed amount. -/
def addBe (bs : List Byte) (o n : Nat) (x : Int) : List Byte :=
  putBe bs o n ((Int.ofNat (beNat (sliceBytes bs o n)) + x) % Int.ofNat (2 ^ (8 * n))).toNat

/-- R246: lengths and checksums of the outer headers before `off` after `x` bytes were added there. -/
def adjustLens (p : Pkt) (off : Nat) (x : Int) : List Byte :=
  let o := p.mg Meta.OUTER_L3_OFF
  let u := p.mg Meta.OUTER_L4_OFF
  let b := p.data
  let v := (b.getD o 0).toNat / 16
  if off ≤ o ∨ ¬ (v = 4 ∨ v = 6) then b
  else
    let proto := (b.getD (if v = 4 then o + 9 else o + 6) 0).toNat
    let b := if v = 4 then
        let b := putBe (addBe b (o + 2) 2 x) (o + 10) 2 0
        putBe b (o + 10) 2 (inetSum (sliceBytes b o (4 * ((b.getD o 0).toNat % 16))))
      else addBe b (o + 4) 2 x
    if proto = 17 ∧ u < off then putBe (addBe b (u + 4) 2 x) (u + 6) 2 0 else b

/-- A packet with new bytes from `off` on; PKT_LEN follows. -/
def Pkt.replaceFrom (p : Pkt) (off : Nat) (body : List Byte) : Pkt :=
  let x := Int.ofNat (off + body.length) - Int.ofNat p.data.length
  let b := (adjustLens p off x).take off ++ body
  { p with data := b }.ms Meta.PKT_LEN b.length

/-- R246: ESP, encrypt. -/
def espSeal (p : Pkt) (off : Nat) (c : SaCand) : Pkt :=
  let body := p.data.drop off
  let pad := (4 - (body.length + 2) % 4) % 4
  let text := body ++ (List.range pad).map (fun i => BitVec.ofNat 8 (i + 1)) ++
    [BitVec.ofNat 8 pad, BitVec.ofNat 8 (p.mg CryReq.NEXT_HDR)]
  let iv := beBytes 8 c.seq
  let aad := beBytes 4 (wget c.sa SA.ID) ++ (if wget c.sa SA.ESN = 1 then beBytes 8 c.seq else beBytes 4 c.seq)
  let sealed := Config.aeadSeal (wget c.sa SA.SUITE) (saKey c.sa) (saNonce c.sa c.seq iv) aad text
  p.replaceFrom off (beBytes 4 (wget c.sa SA.ID) ++ beBytes 4 c.seq ++ iv ++ sealed.take (text.length + icvLen c.sa))

/-- What a cipher operation gives: the packet, or a status. -/
abbrev CryRes := Except Nat Pkt

/-- R246: ESP, decrypt: verified with the SPI the packet carries, opened, and its padding checked. -/
def espOpen (p : Pkt) (off : Nat) (c : SaCand) : CryRes :=
  let iv := sliceBytes p.data (off + 8) 8
  let aad := sliceBytes p.data off 4 ++ (if wget c.sa SA.ESN = 1 then beBytes 8 c.seq else beBytes 4 c.seq)
  match Config.aeadOpen (wget c.sa SA.SUITE) (icvLen c.sa) (saKey c.sa) (saNonce c.sa c.seq iv) aad (p.data.drop (off + 16)) with
  | none => .error Sc.integrity
  | some t =>
    let n := t.length
    let pad := (t.getD (n - 2) 0).toNat
    if n < pad + 2 ∨ sliceBytes t (n - 2 - pad) pad ≠ (List.range pad).map (fun i => BitVec.ofNat 8 (i + 1)) then
      .error Sc.malformed
    else .ok ((p.replaceFrom off (t.take (n - 2 - pad))).ms CryReq.NEXT_HDR (t.getD (n - 1) 0).toNat)

/-- R246: the SecTAG of a MACsec frame whose secure data has `n` bytes. -/
def secTag (sa : List Word) (s n : Nat) : List Byte :=
  let sc := wget sa SA.SC
  let tci := sc * 32 + (if wget sa SA.INTEG_ONLY = 1 then 0 else 12) + wget sa SA.AN
  beBytes 2 0x88E5 ++ [BitVec.ofNat 8 tci, BitVec.ofNat 8 (if n < 48 then n else 0)] ++ beBytes 4 s ++
    (if sc = 1 then beBytes 8 (wget sa SA.SCI) else [])

/-- R246: MACsec, encrypt. With INTEG_ONLY the data is authenticated and left as it is. -/
def macsecSeal (p : Pkt) (c : SaCand) : Pkt :=
  let body := p.data.drop 12
  let tag := secTag c.sa c.seq body.length
  let key := saKey c.sa
  let nonce := saNonce c.sa c.seq []
  let suite := wget c.sa SA.SUITE
  let sealed := if wget c.sa SA.INTEG_ONLY = 1 then
      body ++ Config.aeadSeal suite key nonce (p.data.take 12 ++ tag ++ body) []
    else Config.aeadSeal suite key nonce (p.data.take 12 ++ tag) body
  p.replaceFrom 12 (tag ++ sealed)

/-- R246: bytes of the SecTAG of a received frame. -/
def secTagLen (p : Pkt) : Nat := if (p.data.getD 14 0).toNat / 32 % 2 = 1 then 16 else 8

/-- R246: bytes of a received frame's secure data: SL of them when it is not 0, what follows being padding, else all up to the ICV. -/
def macsecLen (p : Pkt) : Nat :=
  let sl := (p.data.getD 15 0).toNat
  if sl = 0 then p.data.length - (12 + secTagLen p + 16) else sl

/-- R244, R246: a received frame has a SecTAG and is as long as it says (assumption 136). -/
def macsecOk (p : Pkt) : Bool :=
  let sl := (p.data.getD 15 0).toNat
  be16 p.data 12 = 0x88E5 && decide ((p.data.getD 14 0).toNat < 128) && decide (sl < 48) &&
    decide (12 + secTagLen p + 16 + macsecLen p ≤ p.data.length) && (sl ≠ 0 || decide (48 ≤ macsecLen p))

/-- R246: MACsec, decrypt. -/
def macsecOpen (p : Pkt) (c : SaCand) : CryRes :=
  let n := 12 + secTagLen p
  let m := macsecLen p
  let body := sliceBytes p.data n (m + 16)
  let key := saKey c.sa
  let nonce := saNonce c.sa c.seq []
  let suite := wget c.sa SA.SUITE
  let r := if wget c.sa SA.INTEG_ONLY = 1 then
      (Config.aeadOpen suite 16 key nonce (p.data.take (n + m)) (body.drop m)).map (fun _ => body.take m)
    else Config.aeadOpen suite 16 key nonce (p.data.take n) body
  match r with
  | none => .error Sc.integrity
  | some t => .ok (p.replaceFrom 12 t)

/-- R246: the L3 and L4 offsets of the TCP segment of a TLS packet: the inner headers where the packet has them. -/
def tlsOffs (p : Pkt) : Nat × Nat :=
  if p.mg Meta.INNER_L4_OFF < p.mg CryReq.CRYPTO_OFF then (p.mg Meta.INNER_L3_OFF, p.mg Meta.INNER_L4_OFF)
  else (p.mg Meta.OUTER_L3_OFF, p.mg Meta.OUTER_L4_OFF)

/-- First byte of the TCP payload of a TLS packet (R246). -/
def tcpPayload (p : Pkt) : Nat := (tlsOffs p).2 + 4 * ((p.data.getD ((tlsOffs p).2 + 12) 0).toNat / 16)

/-- End of the IP packet whose header is at `o`. -/
def ipEnd (bs : List Byte) (o : Nat) : Nat :=
  min bs.length (if (bs.getD o 0).toNat / 16 = 6 then o + 40 + be16 bs (o + 4) else o + be16 bs (o + 2))

/-- Checksum of the TCP segment at `u` of the IP packet at `o`, over the bytes as they stand (0 when it holds). -/
def tcpSum (bs : List Byte) (o u : Nat) : Nat :=
  let e := ipEnd bs o
  let addrs := if (bs.getD o 0).toNat / 16 = 6 then sliceBytes bs (o + 8) 32 else sliceBytes bs (o + 12) 8
  inetSum (addrs ++ beBytes 4 (e - u) ++ beBytes 4 6 ++ sliceBytes bs u (e - u))

/-- R246: the TCP checksum recomputed. -/
def fixTcp (bs : List Byte) (o u : Nat) : List Byte :=
  let b := putBe bs (u + 16) 2 0
  putBe b (u + 16) 2 (tcpSum b o u)

/-- R246, R247: the header of a protected TLS 1.3 record: content type 23, version 0x0303, and a length that RFC 8446 admits
(assumption 137). -/
def tlsHeadOk (bs : List Byte) : Bool :=
  bs.getD 0 0 = 23 && be16 bs 1 = 0x0303 && decide (17 ≤ be16 bs 3) && decide (be16 bs 3 ≤ 16640)

/-- R246, R247: the TLS records of bytes that hold whole records only: their lengths, header included. -/
def tlsRecords : Nat → List Byte → Option (List Nat)
  | 0, _ => none
  | n + 1, bs =>
    if bs.isEmpty then some []
    else
      let len := 5 + be16 bs 3
      if !tlsHeadOk bs || decide (bs.length < len) then none
      else (tlsRecords n (bs.drop len)).map (fun l => len :: l)

/-- TLS records of a packet from CRYPTO_OFF to the end of its IP packet; none when they are not whole. -/
def Pkt.tlsRecs (p : Pkt) : Option (List Nat) :=
  let off := p.mg CryReq.CRYPTO_OFF
  let b := sliceBytes p.data off (ipEnd p.data (tlsOffs p).1 - off)
  match tlsRecords (b.length / 21 + 1) b with
  | some [] => none
  | r => r

/-- R246: each record in turn is sealed or opened in place under rising record numbers. -/
def tlsRun (f : List Byte → List Byte → Nat → Option (List Byte)) : List Nat → Nat → List Byte → Option (List Byte)
  | [], _, bs => some bs
  | len :: rest, s, bs =>
    match f (bs.take 5) ((bs.take len).drop 5) s, tlsRun f rest (s + 1) (bs.drop len) with
    | some t, some r => some (bs.take 5 ++ t ++ r)
    | _, _ => none

/-- R246: TLS, encrypt. -/
def tlsSeal (p : Pkt) (off : Nat) (c : SaCand) (recs : List Nat) : Pkt :=
  let f := fun h b s => some (Config.aeadSeal (wget c.sa SA.SUITE) (saKey c.sa) (saNonce c.sa s []) h (b.take (b.length - 16)))
  match tlsRun f recs c.seq (p.data.drop off) with
  | some b =>
    let (o, u) := tlsOffs p
    { p with data := fixTcp (p.data.take off ++ b) o u }
  | none => p

/-- R246: TLS, decrypt: each record keeps its header, content type and padding; the place of its tag is left as it
came. -/
def tlsOpen (p : Pkt) (off : Nat) (c : SaCand) (recs : List Nat) : CryRes :=
  let f := fun h b s => (Config.aeadOpen (wget c.sa SA.SUITE) 16 (saKey c.sa) (saNonce c.sa s []) h b).map
    (fun t => t ++ b.drop t.length)
  match tlsRun f recs c.seq (p.data.drop off) with
  | some b =>
    let (o, u) := tlsOffs p
    .ok { p with data := fixTcp (p.data.take off ++ b) o u }
  | none => .error Sc.integrity

/-! ### Security associations (R248 to R256) -/

/-- R248: the SA array that holds global index `i`. -/
def Dev.saTable (d : Dev) (i : Nat) : Option Tbl :=
  d.tbl.tables.find? (fun t => t.kind = 6 && decide (t.flowBase ≤ i) && decide (i < t.flowBase + t.entryCount))

/-- Field of SA `i`. -/
def Dev.sa (d : Dev) (i : Nat) (f : CFld) : Nat := d.cg .sa i f

/-- R469, R470: the SA's record goes into the mirror stream, with ACK_NOW for an encrypt SA. -/
def Dev.saTouch (d : Dev) (i : Nat) : Dev := d.mirror 2 1 i (d.sa i SA.DIR = 1)

/-- R256: an event of SA `i`, from its home tile, with its SLICE. -/
def Dev.saEvent (d : Dev) (i kind extra : Nat) : Dev :=
  d.raise (cryptoId (saHome i (d.sa i SA.DIR))) kind (d.sa i SA.SLICE) (i + extra * 2 ^ 24)

/-- R253, R256: SA `i` becomes EXPIRED, for cause 1 time, 2 HARD_PKTS or 3 sequence. -/
def Dev.saExpire (d : Dev) (i cause : Nat) : Dev :=
  let d := d.cs .sa i SA.STATE 3
  (d.saEvent i 0x0503 cause).saTouch i

/-- R250: STATE of SA `i` moves where it is due. -/
def Dev.saDue (d : Dev) (i : Nat) : Dev :=
  let t := d.time
  let d := if d.sa i SA.STATE = 1 && (d.sa i SA.START = 0 || decide (d.sa i SA.START ≤ t)) then
    (d.cs .sa i SA.STATE 2).saTouch i else d
  if d.sa i SA.STATE ≠ 2 then d
  else if d.sa i SA.EXPIRE ≠ 0 && decide (d.sa i SA.EXPIRE ≤ t) then d.saExpire i 1
  else if d.sa i SA.HARD_PKTS ≠ 0 && decide (d.sa i SA.HARD_PKTS ≤ d.sa i SA.PKTS) then d.saExpire i 2
  else d

/-- R250, R258: SA `i` is valid now for direction `dir`, its sequence aside; not while its array is being replaced. -/
def Dev.saValid (d : Dev) (i dir : Nat) : Bool :=
  let t := d.time
  let offline := match d.saTable i, d.img.patch with
    | some a, some p => a.offline && p.phase = .swap
    | none, _ => true
    | _, _ => false
  !offline && (d.sa i SA.STATE = 1 || d.sa i SA.STATE = 2) && (d.sa i SA.START = 0 || decide (d.sa i SA.START ≤ t)) &&
    (d.sa i SA.EXPIRE = 0 || decide (t < d.sa i SA.EXPIRE)) &&
    (d.sa i SA.HARD_PKTS = 0 || decide (d.sa i SA.PKTS < d.sa i SA.HARD_PKTS)) && d.sa i SA.DIR = dir

/-- R253: the last usable sequence is 2^32 − 1 rather than 2^64 − 1. -/
def saShort (sa : List Word) : Bool :=
  (wget sa SA.PROTO = 1 && wget sa SA.ESN = 0) || (wget sa SA.PROTO = 2 && !saXpn sa)

/-- R253: a packet that needs `n` sequences finds SEQ past its last value. A 64-bit SEQ that has passed it reads 0, which
INSTALL allows for TLS only: there the packets sent tell it from a fresh SA. -/
def saExhausted (sa : List Word) (n : Nat) : Bool :=
  if saShort sa then decide (2 ^ 32 ≤ wget sa SA.SEQ)
  else decide (2 ^ 64 < wget sa SA.SEQ + n) || (wget sa SA.SEQ = 0 && (wget sa SA.PROTO ≠ 3 || wget sa SA.PKTS ≠ 0))

/-- R251: SA `i` is used through the key cache: a miss fills its line and counts in its home tile. -/
def Dev.saCache (d : Dev) (i dir : Nat) : Dev :=
  let set := i % 4096
  let c := d.cry.cache
  if c.any (fun l => l.set = set && l.id = i) then
    { d with cry := { d.cry with cache := c.map (fun (l : CLine) => if l.id = i then { l with refd := true } else l) } }
  else
    let free := (List.range 16).find? (fun w => !c.any (fun l => l.set = set && l.way = w))
    let start := ((d.cry.rr.find? (fun p => p.1 = set)).map (·.2)).getD 0
    let (lines, way) := match free with
      | some w => (c, some w)
      | none => sweepWay c set 32 start
    let w := way.getD 0
    let line : CLine := { set := set, way := w, id := i, refd := false, dirty := true, pinned := false }
    let lines := lines.filter (fun l => !(l.set = set && l.way = w)) ++ [line]
    ({ d with cry := { d.cry with cache := lines, rr := (set, (w + 1) % 16) :: d.cry.rr.filter (fun p => p.1 ≠ set) } }).bumpk
      (cryptoId (saHome i dir)) Cry.CACHE_MISS

/-- R258, R506: SA `i` becomes REVOKED and its key zeros; its cache line is invalidated (R251). -/
def Dev.saRevoke (d : Dev) (i : Nat) : Dev :=
  let d := (List.range 4).foldl (fun (d : Dev) k => d.setOw Cls.sa.code i (4 + k) 0) (d.cs .sa i SA.STATE 4)
  ({ d with cry := { d.cry with cache := d.cry.cache.filter (fun l => l.id ≠ i) } }).saTouch i

/-- R254: bit of sequence `s` in the replay bitmap of SA `i`. -/
def Dev.replayBit (d : Dev) (i s : Nat) : Bool := getBits (d.ow Cls.sa.code i (16 + s % 1024 / 64)) (s % 64) 1 = 1

/-- Set or clear a bit of the replay bitmap. -/
def Dev.setReplay (d : Dev) (i s v : Nat) : Dev :=
  d.setOw Cls.sa.code i (16 + s % 1024 / 64) (putBits (d.ow Cls.sa.code i (16 + s % 1024 / 64)) (s % 64) 1 v)

/-- REPLAY_CHECK, R254: sequence `s` passes the check of SA `i`. -/
def Dev.replayOk (d : Dev) (i s : Nat) : Bool :=
  let h := d.sa i SA.SEQ
  let w := d.sa i SA.WINDOW
  s ≠ 0 && (decide (h < s) || (w ≠ 0 && decide (h < s + w) && decide (s ≤ h) && !d.replayBit i s))

/-- R254: a packet with sequence `s` is not turned away: s = 0 always is, and others by the check where REPLAY_EN is 1. -/
def Dev.replayPass (d : Dev) (i s : Nat) : Bool := s ≠ 0 && (d.sa i SA.REPLAY_EN = 0 || d.replayOk i s)

/-- R254: an accepted sequence `s` is recorded: its bit set, the bits of sequences passed over cleared, and H moved. -/
def Dev.replayNote (d : Dev) (i s : Nat) : Dev :=
  let h := d.sa i SA.SEQ
  let d := if d.sa i SA.REPLAY_EN = 1 then
      let gap := if h < s then s - h - 1 else 0
      let d := (List.range (min gap 1024)).foldl (fun (d : Dev) k => d.setReplay i (s - 1 - k) 0) d
      d.setReplay i s 1
    else d
  if s ≤ h then d
  else
    let d := d.cs .sa i SA.SEQ s
    if d.mirroring && !d.twin.saHeads.contains i then
      { d with twin := { d.twin with saHeads := d.twin.saHeads ++ [i] } }
    else d

/-- RFC 4303 Appendix A, R254: the 64-bit sequence whose low half is `l`, from H and WINDOW. -/
def espSeq (h w l : Nat) : Nat :=
  let tl := h % 2 ^ 32
  let th := h / 2 ^ 32
  if w ≤ tl + 1 then (if tl + 1 ≤ l + w then th * 2 ^ 32 + l else (th + 1) * 2 ^ 32 + l)
  else if tl + 1 + 2 ^ 32 ≤ l + w then (th - 1) * 2 ^ 32 + l
  else th * 2 ^ 32 + l

/-- IEEE 802.1AE, R254: the 64-bit packet number whose low half is `l`, from the lowest acceptable one (PRESUMED,
assumption 26). -/
def xpnSeq (h w l : Nat) : Nat :=
  let low := h + 1 - w
  let up := if 2 ^ 31 ≤ low % 2 ^ 32 ∧ l < 2 ^ 31 then 1 else 0
  (low / 2 ^ 32 + up) * 2 ^ 32 + l

/-- R254: sequence of an ESP or MACsec packet under SA `i`. -/
def Dev.wireSeq (d : Dev) (i off : Nat) (p : Pkt) : Nat :=
  let sa := d.crec .sa i 16
  let h := wget sa SA.SEQ
  let w := wget sa SA.WINDOW
  if wget sa SA.PROTO = 1 then
    let l := beNat (sliceBytes p.data (off + 4) 4)
    if wget sa SA.ESN = 1 then espSeq h w l else l
  else
    let l := beNat (sliceBytes p.data 16 4)
    if saXpn sa then xpnSeq h w l else l

/-! ### Requests and their home-tile step (R243 to R245, R252 to R255) -/

/-- R244: a request's own format: OP is not 3, and the reserved bits of m10 are 0. -/
def Pkt.cryOk (p : Pkt) : Bool :=
  p.mg CryReq.OP ≠ 3 && getBits (p.m.getD 10 0) 33 7 = 0 && getBits (p.m.getD 10 0) 50 6 = 0

/-- R255: a decrypt request is a MACsec one: SA S is MACsec, or names no protocol and the packet carries a SecTAG. -/
def Dev.isMacsec (d : Dev) (p : Pkt) : Bool :=
  let i := p.mg CryReq.SA_INDEX
  d.sa i SA.PROTO = 2 || (d.sa i SA.PROTO = 0 && p.mg CryReq.CRYPTO_OFF = 12 && be16 p.data 12 = 0x88E5)

/-- R255: the candidate SAs of a request, the newer first. -/
def Dev.saCands (d : Dev) (p : Pkt) : List Nat :=
  let i := p.mg CryReq.SA_INDEX
  if p.cryDir = 1 then [i]
  else if d.isMacsec p then [i + (p.data.getD 14 0).toNat % 4]
  else if d.sa i SA.PROTO = 3 && d.sa i SA.PREV ≠ 0x3FFFFF then [i, d.sa i SA.PREV]
  else [i]

/-- R250, R255: a candidate of a request is valid. -/
def Dev.candValid (d : Dev) (p : Pkt) (c : Nat) : Bool :=
  d.saValid c p.cryDir &&
    (p.cryDir = 1 || !d.isMacsec p || (d.sa c SA.PROTO = 2 && d.sa c SA.AN = (p.data.getD 14 0).toNat % 4)) &&
    (c = p.mg CryReq.SA_INDEX || d.isMacsec p || d.sa c SA.PROTO = 3)

/-- R244, R246, R247: a packet has the form its SA's protocol asks for. -/
def Dev.formOk (d : Dev) (p : Pkt) (c : Nat) : Bool :=
  let off := p.mg CryReq.CRYPTO_OFF
  let n := p.data.length
  let icv := icvLen (d.crec .sa c 16)
  match d.sa c SA.PROTO with
  | 1 => if p.cryDir = 1 then decide (off ≤ n) else decide (off + 16 + 2 + icv ≤ n)
  | 2 => off = 12 && (if p.cryDir = 1 then decide (14 ≤ n) else macsecOk p)
  | _ => (p.tlsRecs).isSome && off = tcpPayload p

/-- R245, R259: the drop counter of a status. -/
def cryCounter (st : Nat) : Fld :=
  match st with
  | 0x06 => Cry.ICV_FAIL
  | 0x28 => Cry.NO_KEY_DROP
  | 0x29 => Cry.REPLAY_DROP
  | 0x2A => Cry.SEQ_EXHAUSTED
  | 0x2C => Cry.TLS_RESYNC
  | _ => Cry.MALFORMED_DROP

/-- R245, R256: at most one event of a kind per SA and millisecond: whether one may go now, by the list of last times. -/
def mayTell (l : List (Nat × Nat)) (i ms : Nat) : Bool := !l.contains (i, ms)

/-- R245: packet `x` fails at tile `n` with status `st` for SA `i`: a decrypt is delivered unchanged if its request asks so, else
dropped, counted and told at most once per SA and millisecond. -/
def Dev.cryFail (d : Dev) (n i st : Nat) (x : SwPkt) : Dev :=
  let rest := { d with cry := { d.cry with steps := d.cry.steps.filter (fun s => s.id ≠ x.id) } }
  if x.pkt.mg CryReq.DELIVER_FAIL = 1 && x.pkt.mg CryReq.OP = 1 then
    let p := ((x.pkt.ms CryReq.OP 0).ms CryReq.CRYPTO_STATUS st).ms CryReq.DECRYPTED 0
    ({ rest with sw := { rest.sw with wire := rest.sw.wire.map (fun (y : SwPkt) =>
        if y.id = x.id then { y with pkt := p, crypto := 0 } else y) } }).bumpk (cryptoId n) Cry.DELIVERED_FAIL
  else
    let d := ({ rest with sw := { rest.sw with wire := rest.sw.wire.filter (fun y => y.id ≠ x.id) } }).bumpk (cryptoId n)
      (cryCounter st)
    let ms := d.time / 1000000
    if mayTell d.cry.dropAt i ms then
      ({ d with cry := { d.cry with dropAt := (i, ms) :: d.cry.dropAt.filter (fun p => p.1 ≠ i) } }).raise
        (cryptoId (saHome i x.pkt.cryDir)) 0x0501 (d.sa i SA.SLICE) (i + st * 2 ^ 24)
    else d

/-- R250, R256: PKTS and BYTES of SA `i` rise; reaching SOFT_PKTS raises its event once. -/
def Dev.saCount (d : Dev) (i bytes : Nat) : Dev :=
  let d := (d.cadd .sa i SA.PKTS 1).cadd .sa i SA.BYTES bytes
  if d.sa i SA.SOFT_PKTS ≠ 0 && d.sa i SA.PKTS = d.sa i SA.SOFT_PKTS then d.saEvent i 0x0502 0 else d

/-- Packet `x` goes on to its tile with candidates `cs`. -/
def Dev.cryGo (d : Dev) (x : SwPkt) (cs : List SaCand) : Dev :=
  let d : Dev := { d with
    cry := { d.cry with steps := d.cry.steps ++ [{ id := x.id, cands := cs }] }
    sw := { d.sw with wire := d.sw.wire.map (fun (y : SwPkt) => if y.id = x.id then { y with crypto := 2 } else y) } }
  d.wakeUnit (cryptoId (saHome ((cs.map SaCand.idx).getD 0 0) x.pkt.cryDir))

/-- R470: the sequence lease lets SA `i` assign `n` sequences; it binds while the pair mirrors. -/
def Dev.leaseOk (d : Dev) (i n : Nat) : Bool :=
  !d.mirroring || (match d.twin.leases.find? (fun l => l.1 = i) with
    | some (_, l) => decide (d.sa i SA.SEQ + n ≤ l + 262144)
    | none => false)

/-- R252, R253: the home-tile step of an encrypt packet under SA `i`: sequences are assigned and counted. -/
def Dev.sealStep (d : Dev) (m i : Nat) (x : SwPkt) : Dev :=
  let sa := d.crec .sa i 16
  let n := if wget sa SA.PROTO = 3 then ((x.pkt.tlsRecs).getD []).length else 1
  if saExhausted sa n then (d.saExpire i 3).cryFail m i 0x2A x
  else if !d.leaseOk i n then
    (if d.cry.heldSeen.contains x.id then d
      else ({ d with cry := { d.cry with heldSeen := x.id :: d.cry.heldSeen } }).bumpk (cryptoId m) Cry.SEQ_HOLD)
  else
    let s := wget sa SA.SEQ
    let d := { d with cry := { d.cry with heldSeen := d.cry.heldSeen.filter (fun y => y ≠ x.id) } }
    let d := (d.cs .sa i SA.SEQ (s + n)).saCount i (x.pkt.data.length - x.pkt.mg CryReq.CRYPTO_OFF)
    let d := if s / 65536 ≠ (s + n) / 65536 then d.mirror 3 1 i true else d
    d.cryGo x [{ idx := i, sa := sa, seq := s }]

/-- R254: a TLS decrypt SA is suspended. -/
def Dev.resyncing (d : Dev) (c : Nat) : Bool := d.sa c SA.PROTO = 3 && d.sa c SA.DIR = 0 && d.sa c SA.RESYNC = 1

/-- R254, R255: the first step of a decrypt packet, before its cipher work: `cs` are its candidates that are valid and not suspended. -/
def Dev.openStep (d : Dev) (m : Nat) (cs : List Nat) (x : SwPkt) : Dev :=
  let i := cs.getD 0 0
  let off := x.pkt.mg CryReq.CRYPTO_OFF
  if d.sa i SA.PROTO = 3 then
    let (o, u) := tlsOffs x.pkt
    if tcpSum x.pkt.data o u ≠ 0 then d.cryFail m i Sc.integrity x
    else d.cryGo x (cs.map (fun c => { idx := c, sa := d.crec .sa c 16, seq := d.sa c SA.SEQ }))
  else
    let s := d.wireSeq i off x.pkt
    if !d.replayPass i s then d.cryFail m i 0x29 x
    else d.cryGo x [{ idx := i, sa := d.crec .sa i 16, seq := s }]

/-- SA_STEP, R26, R252 to R255, R506: home tile `m` (0 to 31), while it takes new work, takes the oldest packet whose SA it is home to:
its format, validity, sequence and replay. A suspended SA turns the packet away before its form is looked at (R254). `ecc`: the address at which the SA's cache line or record met an uncorrectable error. -/
def saStep (m : Nat) (ecc : Option Nat) (d : Dev) : Dev :=
  let home := fun (x : SwPkt) => x.crypto = 1 && saHome ((d.saCands x.pkt).getD 0 0) x.pkt.cryDir = m
  match (if d.takesWork (cryptoId m) then d.sw.wire.find? home else none) with
  | none => d
  | some x =>
    let p := x.pkt
    let i := p.mg CryReq.SA_INDEX
    if !p.cryOk then d.cryFail m i Sc.malformed x
    else if p.poison && p.cryDir = 1 then d.cryFail m i Sc.integrity x
    else
      let cands := d.saCands p
      let d := cands.foldl (fun (d : Dev) c => if (d.saTable c).isSome then (d.saCache c p.cryDir).saDue c else d) d
      match ecc with
      | some a =>
        let c := cands.getD 0 i
        (((d.saRevoke c).uncorr (cryptoId m) 8 a).raise (cryptoId m) 0x0005 (d.sa c SA.SLICE) c).cryFail m c Sc.integrity x
      | none =>
        match cands.filter (fun c => d.candValid p c) with
        | [] => d.cryFail m i 0x28 x
        | c :: cs =>
          match (c :: cs).filter (fun c => !d.resyncing c) with
          | [] => d.cryFail m c 0x2C x
          | c :: cs =>
            if !d.formOk p c then d.cryFail m c Sc.malformed x
            else if p.cryDir = 1 then d.sealStep m c x
            else d.openStep m (c :: cs) x

/-- SA_STEP. -/
def execSaStep (m : Nat) (ecc : Option Nat) (s : State) : Host.Outcome State Fault Refusal := s.run (saStep m ecc)

/-- R246: a packet opened under a candidate. -/
def openWith (p : Pkt) (c : SaCand) : CryRes :=
  let off := p.mg CryReq.CRYPTO_OFF
  match wget c.sa SA.PROTO with
  | 1 => espOpen p off c
  | 2 => macsecOpen p c
  | _ => tlsOpen p off c ((p.tlsRecs).getD [])

/-- R246: a packet sealed under its SA. -/
def sealWith (p : Pkt) (c : SaCand) : Pkt :=
  let off := p.mg CryReq.CRYPTO_OFF
  match wget c.sa SA.PROTO with
  | 1 => espSeal p off c
  | 2 => macsecSeal p c
  | _ => tlsSeal p off c ((p.tlsRecs).getD [])

/-- R244, R259: packet `x` leaves tile `n` as `p`, processed with OK. -/
def Dev.cryDone (d : Dev) (n : Nat) (x : SwPkt) (p : Pkt) (prev : Nat) : Dev :=
  let q := (((p.ms CryReq.OP 0).ms CryReq.CRYPTO_STATUS 0).ms CryReq.DECRYPTED (1 - x.pkt.cryDir)).ms CryReq.KEY_PREV prev
  let d := { d with
    cry := { d.cry with steps := d.cry.steps.filter (fun s => s.id ≠ x.id) }
    sw := { d.sw with wire := d.sw.wire.map (fun (y : SwPkt) =>
      if y.id = x.id then { y with pkt := q, crypto := 0 } else y) } }
  (d.bumpk (cryptoId n) Cry.PKTS_OK).addk (cryptoId n) Cry.BYTES_OK (x.pkt.data.length - x.pkt.mg CryReq.CRYPTO_OFF)

/-- R254: TCP sequence of a TLS packet. -/
def tlsSeq (p : Pkt) : Nat := beNat (sliceBytes p.data ((tlsOffs p).2 + 4) 4)

/-- R254, R255: a TLS packet that verified under candidate `c` is accepted. -/
def Dev.tlsAccept (d : Dev) (n : Nat) (c : SaCand) (x : SwPkt) (p : Pkt) : Dev :=
  let off := x.pkt.mg CryReq.CRYPTO_OFF
  let len := ipEnd x.pkt.data (tlsOffs x.pkt).1 - off
  let d := (d.cadd .sa c.idx SA.SEQ ((x.pkt.tlsRecs).getD []).length).cadd .sa c.idx SA.ID len
  (d.saCount c.idx (x.pkt.data.length - off)).cryDone n x p (if c.idx = x.pkt.mg CryReq.SA_INDEX then 0 else 1)

/-- R254: RESYNC of the candidates is set, and the packet fails with `st`. -/
def Dev.tlsLost (d : Dev) (n st : Nat) (cs : List SaCand) (x : SwPkt) : Dev :=
  match cs with
  | [] => d
  | c :: _ => (cs.foldl (fun (d : Dev) c => d.cs .sa c.idx SA.RESYNC 1) d).cryFail n c.idx st x

/-- R254, R255: the end of a TLS packet's cipher work at tile `n`, under the record number that the packets of its SA accepted before
it have left. A packet that comes next under no candidate fails before its ICV is looked at; of two candidates the newer is tried
first, and the older too, in a second pass where the newer verifies (assumption 140). -/
def Dev.tlsEnd (d : Dev) (n : Nat) (cs : List SaCand) (x : SwPkt) : Dev :=
  match (cs.filter (fun c => !d.resyncing c.idx)).map (fun (c : SaCand) => { c with seq := d.sa c.idx SA.SEQ }) with
  | [] => d.cryFail n ((cs.map SaCand.idx).getD 0 0) 0x2C x
  | c :: rest =>
    let next := fun (c : SaCand) => d.sa c.idx SA.ID = tlsSeq x.pkt
    let opens := fun (c : SaCand) => if next c then (match openWith x.pkt c with
      | .ok p => some p
      | .error _ => none) else none
    if !(c :: rest).any (fun c => next c) then d.tlsLost n 0x2C (c :: rest) x
    else match opens c, rest with
      | some p, [] => d.tlsAccept n c x p
      | some p, c' :: _ =>
        let d := d.bumpk (cryptoId n) Cry.OVERLAP_PASSES
        if (match openWith x.pkt c' with
          | .ok _ => true
          | .error _ => false) then
          let d := d.bumpk (cryptoId n) Cry.KEY_OVERLAP
          let ms := d.time / 1000000
          let d := if mayTell d.cry.overlapAt c.idx ms then
              ({ d with cry := { d.cry with overlapAt := (c.idx, ms) :: d.cry.overlapAt.filter (fun q => q.1 ≠ c.idx) } }).saEvent
                c.idx 0x0504 0
            else d
          d.tlsAccept n c x p
        else d.tlsAccept n c x p
      | none, [] => d.tlsLost n Sc.integrity [c] x
      | none, c' :: _ =>
        match opens c' with
        | some p => d.tlsAccept n c' x p
        | none => d.tlsLost n Sc.integrity (c :: rest) x

/-- R254: the second replay check of an ESP or MACsec packet and its acceptance. -/
def Dev.openEnd (d : Dev) (n : Nat) (c : SaCand) (x : SwPkt) : Dev :=
  let note := fun (d : Dev) => d.replayNote c.idx c.seq
  match openWith x.pkt c with
    | .ok p =>
      if !d.replayPass c.idx c.seq then d.cryFail n c.idx 0x29 x
      else ((note d).saCount c.idx (x.pkt.data.length - x.pkt.mg CryReq.CRYPTO_OFF)).cryDone n x p 0
    | .error e =>
      if e = Sc.integrity then d.cryFail n c.idx e x
      else if !d.replayPass c.idx c.seq then d.cryFail n c.idx 0x29 x
      else (note d).cryFail n c.idx e x

/-- CRYPTO_PROCESS, R240, R244 to R246: tile `n` (0 to 15 decrypt, 16 to 31 encrypt) ends the cipher work of the oldest
packet of its direction that has had its home-tile step. -/
def cryptoProcess (n : Nat) (d : Dev) : Dev :=
  if !d.takesWork (cryptoId n) then d
  else match d.sw.wire.find? (fun x => x.crypto = 2 && x.pkt.cryDir = n / 16) with
    | none => d
    | some x =>
      match d.cry.steps.find? (fun s => s.id = x.id) with
      | none => d
      | some s =>
        match s.cands with
        | [] => d
        | c :: _ =>
          if x.pkt.cryDir = 1 then d.cryDone n x (sealWith x.pkt c) 0
          else if wget c.sa SA.PROTO = 3 then d.tlsEnd n s.cands x
          else d.openEnd n c x

/-- CRYPTO_PROCESS. -/
def execCryptoProcess (n : Nat) (s : State) : Host.Outcome State Fault Refusal := s.run (cryptoProcess n)

/-- SA_SWEEP, R250: home tile `m` visits its SAs and moves their STATE where it is due. -/
def saSweep (m : Nat) (d : Dev) : Dev :=
  ((d.recs .sa).filter (fun i => saHome i (d.sa i SA.DIR) = m)).foldl (fun (d : Dev) i => d.saDue i) d

/-- SA_SWEEP. -/
def execSaSweep (m : Nat) (s : State) : Host.Outcome State Fault Refusal := s.run (saSweep m)

/-! ### The SA command interface (R257, R258) -/

/-- The words of SA_DATA of crypto tile `n`. -/
def Dev.saData (d : Dev) (n : Nat) : List Word :=
  (List.range 32).map (fun k => BitVec.ofNat 64 (d.gk (cryptoId n) (Cry.SA_DATA_W k)))

/-- SA_INDEX of tile `n`. -/
def Dev.saIndex (d : Dev) (n : Nat) : Nat := d.gk (cryptoId n) Cry.SA_INDEX_INDEX

/-- R247, R249, R253: every field of words 0 to 15 within its values, on a device with features `feat`. -/
def saFieldsOk (ws : List Word) (feat : Nat → Bool) : Bool :=
  let g := fun f => wget ws f
  let w := fun k => ws.getD k 0
  let proto := g SA.PROTO
  let suite := g SA.SUITE
  let mac := proto = 2
  let tlsDec := proto = 3 ∧ g SA.DIR = 0
  getBits (w 0) 3 1 = 0 && getBits (w 0) 31 1 = 0 && getBits (w 0) 54 10 = 0 && getBits (w 1) 43 21 = 0 &&
    getBits (w 3) 32 32 = 0 && getBits (w 14) 48 16 = 0 && getBits (w 15) 48 16 = 0 &&
    proto ≠ 0 && (if mac then feat 1 else feat 0) && decide (suite ≤ 4) && (mac || decide (suite < 3)) &&
    !(mac && suite = 2) && g SA.ICV_LEN ≠ 3 && (g SA.ICV_LEN = 0 || (proto = 1 && suite ≠ 2)) && (mac || g SA.SC = 0) &&
    decide (g SA.WINDOW ≤ 1024) && (g SA.PREV = 0x3FFFFF || (tlsDec && decide (g SA.PREV < 0x200000))) &&
    (proto = 1 || (mac && saXpn ws) || tlsDec || g SA.ID = 0) && (mac || g SA.SCI = 0) &&
    (!(suite = 0 || suite = 3) || (w 6 = 0 && w 7 = 0)) && !(g SA.DIR = 1 && proto ≠ 3 && g SA.SEQ = 0)

/-- SA_INSTALL, R258, R460. -/
def saInstall (n i : Nat) (d : Dev) : Dev × Nat × List Word :=
  let ws := (d.saData n).take 16
  let st := d.sa i SA.STATE
  if !saFieldsOk ws d.feature then (d, Sc.malformed, [])
  else if d.otherSide i then (d, 0x2E, [])
  else if st = 1 ∨ st = 2 then (d, 0x2D, [])
  else
    let state := if d.time < wget ws SA.START then 1 else 2
    let ws := wset (wset (wset (wset ws SA.STATE state) SA.RESYNC 0) SA.PKTS 0) SA.BYTES 0
    let d := (d.clearRec .sa i).setRec .sa i ws
    let d := { d with twin := { d.twin with leases := d.twin.leases.filter (fun l => l.1 ≠ i) } }
    (d.saTouch i, Sc.ok, [])

/-- SA_UPDATE, R258: limits, times, window and PREV; on a TLS decrypt SA also ID and SEQ, with RESYNC and REPLAY
cleared. -/
def saUpdate (n i : Nat) (d : Dev) : Dev × Nat × List Word :=
  let ws := (d.saData n).take 16
  let st := d.sa i SA.STATE
  let tls := d.sa i SA.PROTO = 3 && d.sa i SA.DIR = 0
  let bad := 1024 < wget ws SA.WINDOW ∨ 2 ^ 48 ≤ (ws.getD 14 0).toNat ∨ 2 ^ 48 ≤ (ws.getD 15 0).toNat ∨
    ¬ (wget ws SA.PREV = 0x3FFFFF ∨ (tls ∧ wget ws SA.PREV < 0x200000))
  if st ≠ 1 ∧ st ≠ 2 then (d, 0x28, [])
  else if bad then (d, Sc.malformed, [])
  else
    let d := [SA.SOFT_PKTS, SA.HARD_PKTS, SA.START, SA.EXPIRE, SA.WINDOW, SA.PREV].foldl
      (fun (d : Dev) f => d.cs .sa i f (wget ws f)) d
    let d := if tls then
        let d := ((d.cs .sa i SA.ID (wget ws SA.ID)).cs .sa i SA.SEQ (wget ws SA.SEQ)).cs .sa i SA.RESYNC 0
        (List.range 16).foldl (fun (d : Dev) k => d.setOw Cls.sa.code i (16 + k) 0) d
      else d
    (d.saTouch i, Sc.ok, [])

/-- R257, R258: what operation `op` of the interface of tile `n` does to SA `i`: the device, the status and the words returned. REVOKE of
a revoked or empty SA has the same effect. -/
def Dev.saOp (d : Dev) (n op i : Nat) : Dev × Nat × List Word :=
  match op with
  | 1 => (d, Sc.ok, (List.range 32).map (fun k => if 4 ≤ k ∧ k < 8 then 0 else d.ow Cls.sa.code i k))
  | 2 => saInstall n i d
  | 3 => saUpdate n i d
  | 4 => (d.saRevoke i, Sc.ok, [])
  | _ => (d, Sc.malformed, [])

/-- R252: direction of the SA that a command acts on: of an INSTALL, that of the record supplied. -/
def Dev.saCmdDir (d : Dev) (n op i : Nat) : Nat := if op = 2 then wget (d.saData n) SA.DIR else d.sa i SA.DIR

/-- R26, R252: the interface's tile and the home tile of the SA take new work (assumption 141). -/
def Dev.saCmdRuns (d : Dev) (n op i : Nat) : Bool :=
  d.takesWork (cryptoId n) && d.takesWork (cryptoId (saHome i (d.saCmdDir n op i)))

/-- R26, R252, R257, R258: the command that waits at the interface of tile `n` takes effect at its home tile, once the tiles take new
work. An index in no SA array is MALFORMED, and arrays of a subtree being patched are offline. -/
def Dev.saTake (d : Dev) (n : Nat) : Dev :=
  match d.cry.ops.find? (fun o => o.tile = n) with
  | none => d
  | some o =>
    if o.res.isSome || !d.saCmdRuns n o.op o.index then d
    else
      let (d, st, ws) := match d.saTable o.index with
        | none => (d, Sc.malformed, [])
        | some t => if t.offline then (d, 0x23, []) else d.saOp n o.op o.index
      { d with cry := { d.cry with ops := d.cry.ops.map (fun (x : SaOp) => if x.tile = n then { x with res := some (st, ws) } else x) } }

/-- R131, R257: a write of SA_CMD at tile `n` starts operation `op` on the SA that SA_INDEX names. -/
def Dev.saCmd (d : Dev) (n op evt : Nat) : Dev :=
  let u := cryptoId n
  if d.gk u Cry.SA_STATUS_BUSY = 1 then d.sk u Cry.SA_STATUS_OVERRUN 1
  else
    let d := ((d.sk u Cry.SA_CMD_OP op).sk u Cry.SA_CMD_EVT evt).sk u Cry.SA_STATUS_BUSY 1
    let o : SaOp := { tile := n, op := op, index := d.saIndex n, res := none }
    ({ d with cry := { d.cry with ops := d.cry.ops ++ [o] } }).saTake n

/-- SA_READ, R257: the record, KEY words 0. -/
def execSaRead (n evt : Nat) (s : State) : Host.Outcome State Fault Refusal := s.run (fun d => d.saCmd n 1 evt)

/-- SA_INSTALL, R258. -/
def execSaInstall (n evt : Nat) (s : State) : Host.Outcome State Fault Refusal := s.run (fun d => d.saCmd n 2 evt)

/-- SA_UPDATE, R258. -/
def execSaUpdate (n evt : Nat) (s : State) : Host.Outcome State Fault Refusal := s.run (fun d => d.saCmd n 3 evt)

/-- SA_REVOKE, R258. -/
def execSaRevoke (n evt : Nat) (s : State) : Host.Outcome State Fault Refusal := s.run (fun d => d.saCmd n 4 evt)

/-- SA_CMD_DONE, R257, R258: the result of the interface of tile `n` is in place; a REVOKE waits until no packet that read
the key remains in a tile. -/
def saCmdDone (n : Nat) (d : Dev) : Dev :=
  let d := d.saTake n
  match d.cry.ops.find? (fun o => o.tile = n) with
  | none => d
  | some o =>
    match o.res with
    | none => d
    | some (st, ws) =>
      if o.op = 4 && st = Sc.ok && d.cry.steps.any (fun s => s.cands.any (fun c => c.idx = o.index)) then d
      else
        let u := cryptoId n
        let d := { d with cry := { d.cry with ops := d.cry.ops.filter (fun o => o.tile ≠ n) } }
        let d := (List.range ws.length).foldl (fun (d : Dev) k => d.sk u (Cry.SA_DATA_W k) (ws.getD k 0).toNat) d
        let d := (d.sk u Cry.SA_STATUS_BUSY 0).sk u Cry.SA_STATUS_RESULT st
        if d.gk u Cry.SA_CMD_EVT = 1 then d.raise u 0x0004 0 (st + o.op * 2 ^ 16) else d

/-- SA_CMD_DONE. -/
def execSaCmdDone (n : Nat) (s : State) : Host.Outcome State Fault Refusal := s.run (saCmdDone n)

end Sys2Proof.Machine
end

