-- ==== Sys2Proof/Machine/RxRing.lean ====
section
/-! DEFINITION. Reading a work ring, and the receive buffers of an RX ring as packets and connections take them (R355,
R356, R360, R361). -/

namespace Sys2Proof.Machine

/-- R355: the complete owned jobs among the entries read from HEAD of queue `q`, and the error that ends the scan. -/
def Dev.ringJobs (d : Dev) (q : Nat) (ents : List (Option (List Word))) : List Job × Option (Nat × Nat) :=
  let h := d.qf q Qctx.HEAD
  scanJobs (d.qf q Qctx.KIND) (d.qSize q) (ents.take (d.qSize q)) h (d.qf q Qctx.HEAD_PHASE) [] h

/-- R360: an RX job that is not one entry of 64 to 65,536 bytes. -/
def rxBad (j : Job) : Bool :=
  let n := wget (j.ents.getD 0 []) Went.LEN
  decide (j.ents.length ≠ 1) || decide (n < 64) || decide (65536 < n)

/-- R360, R361, R371: the buffers of RX queue `q` that a packet may use, read from HEAD. Bad entries that stand at HEAD are
completed first, and an error that stands there stops the queue. -/
def Dev.rxReady (d : Dev) (q : Nat) (ents : List (Option (List Word))) : Dev × List Job :=
  let (js, e) := d.ringJobs q ents
  let bad := js.takeWhile rxBad
  let rest := js.drop bad.length
  let d := bad.foldl (fun (d : Dev) j => (d.takeJob q j).finishJob q j.idx Sc.malformed 0 0) d
  match rest, e with
  | [], some (code, i) => (d.qErr q code i, [])
  | _, _ => (d, rest.takeWhile (fun j => !rxBad j))

/-- R361: queue `q` is an RX queue that takes packets. -/
def Dev.rxUp (d : Dev) (q : Nat) : Bool :=
  d.qExists q && d.qf q Qctx.KIND = 2 && d.qstate q = qActive && ((d.qst q).map QSt.enable).getD true

/-- R64, R340, R361: the buffers of RX queue `q` may be used for a message now. -/
def Dev.rxOpen (d : Dev) (q : Nat) : Bool := d.rxUp q && !d.sliceFrozen (d.qf q Qctx.SLICE) && !d.heldByPatch q

/-- Write bytes across buffers (address and length), in order, in the requests of queue `q`'s owner and slice. -/
def Dev.scatter (d : Dev) (pf : Nat) (pasid : Option Nat) : List (Nat × Nat) → List Byte → Dev
  | [], _ => d
  | (a, n) :: rest, bs =>
    if bs.isEmpty then d
    else
      let d := if n = 0 then d else d.hostData pf pasid a (bs.take n)
      d.scatter pf pasid rest (bs.drop n)

/-- Buffers (address and length) from byte offset `o` on. -/
def dropBufs : List (Nat × Nat) → Nat → List (Nat × Nat)
  | [], _ => []
  | (a, n) :: rest, o => if n ≤ o then dropBufs rest (o - n) else (a + o, n - o) :: rest

/-- Address and length of a work entry. -/
def entBuf (e : List Word) : Nat × Nat := (wget e Went.ADDR, wget e Went.LEN)

/-- The job of queue `q` taken at ring index `i`. -/
def Dev.jobAt (d : Dev) (q i : Nat) : Option Job := (d.qst q).bind (fun x => x.jobs.find? (fun j => j.idx = i))

/-- Change the job of queue `q` at ring index `i` that has no result yet. -/
def Dev.setJob (d : Dev) (q i : Nat) (f : Job → Job) : Dev :=
  d.setQ q (fun (x : QSt) => { x with jobs := x.jobs.map (fun (j : Job) => if j.idx = i && j.result.isNone then f j else j) })

/-- WR_TAG of a job is replaced by immediate data (R367). -/
def Job.withTag (j : Job) (v : Nat) : Job := { j with ents := updAt j.ents 0 (fun e => wset e Went.WR_TAG v) }

end Sys2Proof.Machine
end

