-- ==== Sys2Proof/Machine/Sched.lean ====
section
/-! DEFINITION. Scheduling, shaping, gates and policing: the fetch tree, deficit round robin, shapers, the wire
schedulers with their gate control lists, policers, and the meter interface (R220 to R239). -/

namespace Sys2Proof.Machine

/-! ### Shapers (R227 to R230) -/

/-- R222, R236: the shaper number that names none. -/
def noShaper : Nat := 0x7FFFF

/-- R227: number `n` belongs to a shaper array. -/
def Dev.isShaper (d : Dev) (n : Nat) : Bool :=
  d.tbl.tables.any (fun t => t.kind = 5 && decide (t.flowBase ≤ n) && decide (n < t.flowBase + t.entryCount))

/-- Field of shaper `n`. -/
def Dev.shp (d : Dev) (n : Nat) (f : CFld) : Nat := d.cg .shaper n f

/-- R228: TOKENS of shaper `n`, signed, in units of 2^-16 byte. -/
def Dev.tokens (d : Dev) (n : Nat) : Int := signed 48 (d.shp n Shp.TOKENS)

/-- A signed 48-bit value as stored. -/
def low48 (x : Int) : Nat := (x % Int.ofNat (2 ^ 48)).toNat

/-- R229: shaper `n` is eligible; a node that names none always is. -/
def Dev.shaperOk (d : Dev) (n : Nat) : Bool := n = noShaper || d.shp n Shp.EN = 0 || decide (0 ≤ d.tokens n)

/-- R228: OVERHEAD of shaper `n`; 0 for none. -/
def Dev.overhead (d : Dev) (n : Nat) : Int := if n = noShaper then 0 else signed 8 (d.shp n Shp.OVERHEAD)

/-- R229: a charge of `b` bytes to shaper `n`. -/
def Dev.chargeShaper (d : Dev) (n : Nat) (b : Int) : Dev :=
  if n = noShaper then d else d.cs .shaper n Shp.TOKENS (low48 (d.tokens n - b * 65536))

/-- R229: tokens after a refill at `rate` kb/s under a cap of `burst` bytes. -/
def refill (tokens : Int) (rate burst : Nat) : Int :=
  min (tokens + Int.ofNat (rate * 65536 / 8000)) (Int.ofNat (burst * 65536))

/-- R229, R230: the refill tick of one shaper: a waiting change moves into force, then the refill and the cap. -/
def Dev.refillShaper (d : Dev) (n : Nat) : Dev :=
  let d := if d.shp n Shp.PEND = 1 then
      let d := (d.cs .shaper n Shp.RATE (d.shp n Shp.PEND_RATE)).cs .shaper n Shp.BURST (d.shp n Shp.PEND_BURST)
      d.setOw Cls.shaper.code n 3 0
    else d
  d.cs .shaper n Shp.TOKENS (low48 (refill (d.tokens n) (d.shp n Shp.RATE) (d.shp n Shp.BURST)))

/-- R230, R280: a RATE and SHP_BURST that a CONN_MODIFY left waiting move into force. -/
def Dev.applyPend (d : Dev) (c : Nat) : Dev :=
  match (d.tc c).pend with
  | some (r, b) =>
    let d := match r with
      | some r => d.cs .conn c Conn.RATE r
      | none => d
    (d.cs .conn c Conn.SHP_BURST b).setTc c (fun (x : TpConn) => { x with pend := none })
  | none => d

/-- R277, R280: the refill tick of a connection's shaper: its RATE is in Mb/s. A context that changes is mirrored. -/
def Dev.refillConn (d : Dev) (c : Nat) : Dev :=
  let was := d.crec .conn c 64
  let d := d.applyPend c
  let d := d.cs .conn c Conn.TOKENS
    (low48 (refill (signed 48 (d.cg .conn c Conn.TOKENS)) (d.cg .conn c Conn.RATE * 1000) (d.cg .conn c Conn.SHP_BURST)))
  if d.crec .conn c 64 = was then d else d.connRecord c

/-- SHAPER_REFILL, R229: the 1 µs tick of every shaper, those of connections among them. -/
def shaperRefill (d : Dev) : Dev :=
  let d := (d.recs .shaper).foldl (fun (d : Dev) n => d.refillShaper n) d
  (d.recs .conn).foldl (fun (d : Dev) c => d.refillConn c) d

/-- R228, R230: write words 0 and 1 of shaper `n`, which have passed their checks. -/
def Dev.putShaper (d : Dev) (n : Nat) (w0 w1 : Word) : Dev :=
  let d := d.cs .shaper n Shp.OVERHEAD (getBits w1 0 8)
  if d.g rootId Root.SERVICE_STATE_EFFECTIVE = 1 then
    let d := (d.setOw Cls.shaper.code n 0 w0).setOw Cls.shaper.code n 3 0
    d.cs .shaper n Shp.TOKENS (if wget [w0] Shp.RESET_TO = 1 then 0 else wget [w0] Shp.BURST * 65536)
  else
    let d := (d.cs .shaper n Shp.RESET_TO (wget [w0] Shp.RESET_TO)).cs .shaper n Shp.EN (wget [w0] Shp.EN)
    ((d.cs .shaper n Shp.PEND_RATE (wget [w0] Shp.RATE)).cs .shaper n Shp.PEND_BURST (wget [w0] Shp.BURST)).cs .shaper n
      Shp.PEND 1

/-- R228: words 0 and 1 of a shaper that a write may hold. -/
def shaperOkWords (w0 w1 : Word) : Bool :=
  let r := wget [w0] Shp.RATE
  (r = 0 || (decide (100 ≤ r) && decide (r ≤ 3200000000))) && wget [w0] Shp.BURST ≠ 0 && getBits w0 58 6 = 0 &&
    getBits w1 8 56 = 0

/-! ### Deficit round robin (R225) -/

/-- A sibling as a selection sees it: number, priority group, weight, whether it is eligible and has work. -/
structure Kid where
  id : Nat
  prio : Nat
  weight : Nat
  elig : Bool
  work : Bool
  deriving DecidableEq, Repr

/-- Deficit of a sibling. -/
def Drr.def (r : Drr) (c : Nat) : Int := ((r.deficit.find? (fun x => x.1 = c)).map (·.2)).getD 0

/-- Set the deficit of a sibling. -/
def Drr.setDef (r : Drr) (c : Nat) (v : Int) : Drr :=
  let rest := r.deficit.filter (fun x => x.1 ≠ c)
  { r with deficit := if v = 0 then rest else (c, v) :: rest }

/-- A sibling leaves its round. -/
def Drr.leave (r : Drr) (c : Nat) : Drr :=
  { r with round := r.round.filter (fun x => x.2 ≠ c), topped := r.topped.filter (fun x => x ≠ c) }

/-- R225: a sibling has no work: it keeps no positive deficit. -/
def Drr.spend (r : Drr) (c : Nat) : Drr := r.setDef c (min 0 (r.def c))

/-- R225, R226: siblings that are ineligible, gone, or in another priority group leave their round. One without work keeps no
positive deficit; one whose PRIO changed, or that is gone, keeps none at all. -/
def Drr.prune (r : Drr) (kids : List Kid) : Drr :=
  let r := r.round.foldl (fun (r : Drr) (x : Nat × Nat) =>
    match kids.find? (fun k => k.id = x.2) with
    | none => r.leave x.2
    | some k => if k.prio ≠ x.1 then (r.leave x.2).setDef x.2 0 else if k.elig then r else r.leave x.2) r
  r.deficit.foldl (fun (r : Drr) (x : Nat × Int) =>
    match kids.find? (fun k => k.id = x.1) with
    | none => r.setDef x.1 0
    | some k => if k.work then r else r.spend x.1) r

/-- R225: eligible siblings that are in no round join theirs at the tail. -/
def Drr.join (r : Drr) (kids : List Kid) : Drr :=
  (kids.filter (fun k => k.elig && !r.round.any (fun x => x.2 = k.id))).foldl
    (fun (r : Drr) k => { r with round := r.round ++ [(k.prio, k.id)] }) r

/-- R225: the head of group `g` is topped up once and selected while its deficit is above 0; else it moves to the
tail. -/
def Drr.turn (g : Nat) (weight : Nat → Nat) : Nat → Drr → Drr × Option Nat
  | 0, r => (r, none)
  | n + 1, r =>
    match r.round.find? (fun x => x.1 = g) with
    | none => (r, none)
    | some (_, c) =>
      let r := if r.topped.contains c then r
        else { r.setDef c (r.def c + Int.ofNat (weight c * 1024)) with topped := c :: r.topped }
      if 0 < r.def c then (r, some c)
      else Drr.turn g weight n { r.leave c with round := (r.leave c).round ++ [(g, c)] }

/-- R225: the rounds follow the eligibility of the siblings. -/
def Drr.settle (r : Drr) (kids : List Kid) : Drr := (r.prune kids).join kids

/-- R225: one selection among siblings. -/
def Drr.pick (r : Drr) (kids : List Kid) : Drr × Option Nat :=
  let r := r.settle kids
  match (kids.filter (fun k => k.elig)).foldl (fun (b : Option Nat) k => match b with
      | none => some k.prio
      | some p => some (min p k.prio)) none with
  | none => (r, none)
  | some g => r.turn g (fun c => ((kids.find? (fun k => k.id = c)).map (fun (k : Kid) => max 1 k.weight)).getD 1) 1048576

/-- R225: each selection subtracts its charge. -/
def Drr.charge (r : Drr) (c : Nat) (b : Int) : Drr := r.setDef c (r.def c - b)

/-! ### The fetch tree (R221 to R224) -/

/-- Field of node `n`. -/
def Dev.node (d : Dev) (n : Nat) (f : CFld) : Nat := d.cg .node n f

/-- Field of leaf `q`. -/
def Dev.leaf (d : Dev) (q : Nat) (f : CFld) : Nat := d.cg .leaf q f

/-- Nodes that are valid. -/
def Dev.nodes (d : Dev) : List Nat :=
  (List.range 27 ++ (d.recs .node).filter (fun n => decide (27 ≤ n))).filter (fun n => d.node n Node.VALID = 1)

/-- R221: queue `q` is a leaf of the fetch tree: a TX queue. -/
def Dev.isLeaf (d : Dev) (q : Nat) : Bool := d.qExists q && d.qf q Qctx.KIND = 1

/-- Leaves. -/
def Dev.leaves (d : Dev) : List Nat := (d.queues.map QSt.qid).filter (fun q => d.isLeaf q)

/-- Nodes below node `n`. -/
def Dev.nodeKids (d : Dev) (n : Nat) : List Nat :=
  d.nodes.filter (fun m => d.node m Node.LEVEL ≠ 0 && d.node m Node.PARENT = n)

/-- Leaves below class node `n`. -/
def Dev.leafKids (d : Dev) (n : Nat) : List Nat := d.leaves.filter (fun q => d.leaf q Node.PARENT = n)

/-- R224, R226: the job a grant of leaf `q` would fetch: its oldest job without a grant, when no granted one has data yet to be
fetched. -/
def Dev.nextJob (d : Dev) (q : Nat) : Option Job :=
  match d.qst q with
  | none => none
  | some x => if x.jobs.any (fun (j : Job) => j.granted && j.result.isNone && j.moved = 0) then none
    else x.jobs.find? (fun (j : Job) => !j.granted)

/-- R225: leaf `q` has work: a job whose data is yet to be fetched, which is work in progress whatever has stopped the queue since
it was taken. -/
def Dev.leafWork (d : Dev) (q : Nat) : Bool :=
  ((d.qst q).map (fun (x : QSt) => x.jobs.any (fun (j : Job) => j.result.isNone && j.moved = 0))).getD false

/-- R97: the prism that takes packets of queue `q` has room for them. -/
def Dev.prismRoom (d : Dev) (q : Nat) : Bool :=
  let n := prismOfQueue q
  d.takesWork (prismId n) && decide (d.prismDepth n + (d.prism.wire.filter (fun x => x.1 = n)).length < 4096)

/-- R205, R206: the switch core holds a packet of queue `q`. -/
def Dev.queueHeld (d : Dev) (q : Nat) : Bool := d.sw.held.any (fun x => x.pkt.job.any (fun j => j.1 = q))

/-- R97, R205, R224, R309: the DMA tile of queue `q` can accept a fetch. -/
def Dev.canFetch (d : Dev) (q : Nat) : Bool :=
  !d.quiet (d.qf q Qctx.OWNER) && d.prismRoom q && !d.queueHeld q

/-- R224: siblings at a class node. -/
def Dev.leafSibs (d : Dev) (n : Nat) : List Kid :=
  (d.leafKids n).map (fun q =>
    { id := q, prio := d.leaf q Node.PRIO, weight := d.leaf q Node.WEIGHT, work := d.leafWork q
      elig := (d.nextJob q).isSome && d.canFetch q && d.shaperOk (d.leaf q Node.SHAPER) })

/-- A node as a sibling, given the siblings below it (R224). -/
def Dev.nodeKid (d : Dev) (n : Nat) (below : List Kid) : Kid :=
  { id := n, prio := d.node n Node.PRIO, weight := d.node n Node.WEIGHT, work := below.any (fun k => k.work)
    elig := d.shaperOk (d.node n Node.SHAPER) && below.any (fun k => k.elig) }

/-- Siblings at a slice node. -/
def Dev.classSibs (d : Dev) (n : Nat) : List Kid := (d.nodeKids n).map (fun m => d.nodeKid m (d.leafSibs m))
/-- Siblings at a port node. -/
def Dev.sliceSibs (d : Dev) (n : Nat) : List Kid := (d.nodeKids n).map (fun m => d.nodeKid m (d.classSibs m))
/-- The roots. -/
def Dev.rootSibs (d : Dev) : List Kid := (List.range 18).map (fun m => d.nodeKid m (d.sliceSibs m))

/-- The point of arbitration of the roots. -/
def rootPoint : Nat := 65536

/-- Round robin at a point of the fetch tree. -/
def Dev.drr (d : Dev) (p : Nat) : Drr := ((d.sched.fetch.find? (fun x => x.1 = p)).map (·.2)).getD Drr.empty

/-- Set the round robin at a point. -/
def Dev.setDrr (d : Dev) (p : Nat) (r : Drr) : Dev :=
  let rest := d.sched.fetch.filter (fun x => x.1 ≠ p)
  { d with sched := { d.sched with fetch := if r = Drr.empty then rest else (p, r) :: rest } }

/-- R225: one selection at a point. -/
def Dev.pickAt (d : Dev) (p : Nat) (kids : List Kid) : Dev × Option Nat :=
  let (r, c) := (d.drr p).pick kids
  (d.setDrr p r, c)

/-- R224: the path of a grant, root first: port, slice, class and leaf. -/
def Dev.pickPath (d : Dev) : Dev × Option (Nat × Nat × Nat × Nat) :=
  match d.pickAt rootPoint d.rootSibs with
  | (d, none) => (d, none)
  | (d, some p) =>
    match d.pickAt p (d.sliceSibs p) with
    | (d, none) => (d, none)
    | (d, some s) =>
      match d.pickAt s (d.classSibs s) with
      | (d, none) => (d, none)
      | (d, some c) =>
        match d.pickAt c (d.leafSibs c) with
        | (d, none) => (d, none)
        | (d, some q) => (d, some (p, s, c, q))

/-- R225: siblings at point `p` of the fetch tree. -/
def Dev.sibsAt (d : Dev) (p : Nat) : List Kid :=
  if p = rootPoint then d.rootSibs
  else match d.node p Node.LEVEL with
    | 0 => d.sliceSibs p
    | 1 => d.classSibs p
    | _ => d.leafSibs p

/-- R225: every round of the fetch tree follows the eligibility of its siblings (assumption 128). -/
def Dev.settleFetch (d : Dev) : Dev :=
  d.sched.fetch.foldl (fun (d : Dev) (x : Nat × Drr) => d.setDrr x.1 (x.2.settle (d.sibsAt x.1))) d

/-- R224, R226: the charge of a grant whose job produces `frames` frames, to the leaf and each node of its path and to the shapers
they named at its selection. -/
def Dev.chargeGrant (d : Dev) (g : Grant) (bytes frames : Nat) : Dev :=
  let ov := (g.shapers.map (fun n => d.overhead n)).foldl (· + ·) 0
  let b := max 1 (Int.ofNat bytes + ov * Int.ofNat frames)
  let d := g.shapers.foldl (fun (d : Dev) n => d.chargeShaper n b) d
  g.path.foldl (fun (d : Dev) (x : Nat × Nat) => d.setDrr x.1 ((d.drr x.1).charge x.2 b)) d

/-- R224, R358, R359: the job asks for segmentation: its headers, which are read with its data, fix how many frames it gives. -/
def Job.tso (j : Job) : Bool := wget (j.ents.getD 0 []) TxE.TSO = 1

/-- FETCH_GRANT, R224: the fetch scheduler grants one leaf a job. Where the DMA tile has read the job's length by then (`early`), the
path is charged now, for the one frame the job gives; else it is charged at the end of the fetch (`txJobFetch`), as is every job to
be segmented, whose number of frames the fetch fixes. -/
def fetchGrant (early : Bool) (d : Dev) : Dev :=
  if !d.swOpen then d
  else match d.pickPath with
    | (d, none) => d
    | (d, some (p, s, c, q)) =>
      match d.nextJob q with
      | none => d
      | some j =>
        let g : Grant :=
          { path := [(rootPoint, p), (p, s), (s, c), (c, q)]
            shapers := [d.node p Node.SHAPER, d.node s Node.SHAPER, d.node c Node.SHAPER, d.leaf q Node.SHAPER], paid := early && !j.tso }
        let d := if g.paid then d.chargeGrant g (j.bytes 1) 1 else d
        (d.setQ q (fun (x : QSt) => { x with jobs := x.jobs.map (fun (k : Job) =>
          if k.idx = j.idx && !k.granted then { k with granted := true, grant := some g } else k) })).settleFetch

/-- FETCH_GRANT. -/
def execFetchGrant (early : Bool) (s : State) : Host.Outcome State Fault Refusal := s.run (fetchGrant early)

/-! ### Gate control lists (R234, R235) -/

/-- R235: the admin list of port `p` may be taken. -/
def Dev.gclOk (d : Dev) (p : Nat) : Bool :=
  let n := d.wf p Ws.GCL_CTL_ADMIN_LEN
  let c := d.wf p Ws.GCL_CYCLE_NS
  decide (1 ≤ n) && decide (n ≤ 256) && decide (1000 ≤ c) && decide (c ≤ 1000000000) &&
    (List.range n).all (fun e => d.wf p (Ws.GCL_ADMIN_INTERVAL e) ≠ 0)

/-- R235: the change time for a list with base time `b` and cycle `c`, now being `t`: the base if it lies 1 µs ahead, else
the earliest cycle boundary that does. -/
def changeTime (b c t : Nat) : Nat :=
  if t + 1000 ≤ b then b else b + (t + 1000 - b + c - 1) / c * c

/-- GCL_CHANGE, R235: writing CHANGE checks the admin list; a list that passes waits for its change time. -/
def gclChange (p : Nat) (d : Dev) : Dev :=
  if !(decide (p < 16) && d.lpPresent p) then d
  else if !d.gclOk p then d.latchErr switchId Sc.malformed
  else
    let c := d.wf p Ws.GCL_CYCLE_NS
    let t := changeTime (d.wf p Ws.GCL_BASE_SEC_SEC * 1000000000 + d.wf p Ws.GCL_BASE_NS_NS) c d.tbNs
    let l := (List.range (d.wf p Ws.GCL_CTL_ADMIN_LEN)).map (fun e => d.cell (wsUnit p) (0x800 + 8 * e))
    let d := d.setWire p (fun (w : WireSt) => { w with waiting := some (l, c, t) })
    ((d.s (wsUnit p) Ws.GCL_STATUS_PENDING 1).s (wsUnit p) Ws.GCL_CHANGE_NS_NS (t % 1000000000)).s (wsUnit p)
      Ws.GCL_CHANGE_SEC_SEC (t / 1000000000)

/-- GCL_CHANGE. -/
def execGclChange (p : Nat) (s : State) : Host.Outcome State Fault Refusal := s.run (gclChange p)

/-- GCL_CHANGE_APPLY, R235: at the change time the waiting list becomes the operating one, and heads that could never be
sent under it are dropped (R234). -/
def gclChangeApply (p : Nat) (d : Dev) : Dev :=
  match (d.wire p).waiting with
  | none => d
  | some (l, c, t) =>
    if d.tbNs < t then d
    else
      let d := d.setWire p (fun (w : WireSt) => { w with waiting := none, start := t })
      let d := (List.range 256).foldl (fun (d : Dev) e => d.setCell (wsUnit p) (0x1000 + 8 * e) (l.getD e 0)) d
      let d := ((d.s (wsUnit p) Ws.GCL_STATUS_PENDING 0).s (wsUnit p) Ws.GCL_STATUS_OPER_VALID 1).s (wsUnit p)
        Ws.GCL_STATUS_OPER_LEN l.length
      ((d.s (wsUnit p) Ws.GCL_OPER_CYCLE_NS c).syncGates p).dropOversize p

/-- GCL_CHANGE_APPLY. -/
def execGclChangeApply (p : Nat) (s : State) : Host.Outcome State Fault Refusal := s.run (gclChangeApply p)

/-- GCL_ENTRY_ADVANCE, R235: the running entry and the gates follow the timebase; while it stands they hold their states. -/
def gclEntryAdvance (p : Nat) (d : Dev) : Dev := if decide (p < 16) && !d.tb.stopped then d.syncGates p else d

/-- GCL_ENTRY_ADVANCE. -/
def execGclEntryAdvance (p : Nat) (s : State) : Host.Outcome State Fault Refusal := s.run (gclEntryAdvance p)

/-! ### Wire schedulers (R232) -/

/-- R232: class `c` of port `p` as the wire scheduler sees it. While a preemptable frame is interrupted only express
classes may start (R85). -/
def Dev.wireKid (d : Dev) (p c : Nat) : Kid :=
  { id := c, prio := d.wf p (Ws.WS_CLASS_PRIO c), weight := d.wf p (Ws.WS_CLASS_WEIGHT c)
    work := (d.headOf p c).isSome
    elig := match d.headOf p c with
      | none => false
      | some x => d.shaperOk (d.wf p (Ws.WS_CLASS_SHAPER c)) &&
          (decide (16 ≤ p) || (d.mf p Mac.PAUSE_CFG_RX_PAUSED / 2 ^ c % 2 = 0 && d.gateOpen p c && d.guardOk p c x &&
            ((d.mac p).held.isNone || d.express p c))) }

/-- R233: frames whose gate is open and which the guard band holds count once. -/
def Dev.countHeld (d : Dev) (p : Nat) : Dev :=
  (List.range 8).foldl (fun (d : Dev) c =>
    match d.headOf p c with
    | some x =>
      if d.gateOpen p c && !d.guardOk p c x && !(d.wire p).heldSeen.contains c then
        (d.add (wsUnit p) Ws.GATE_HELD 1).setWire p (fun (w : WireSt) => { w with heldSeen := c :: w.heldSeen })
      else d
    | none => d) d

/-- R224, R232: charge of a frame to a class's shaper and to its port's. -/
def Dev.chargeWire (d : Dev) (p c len : Nat) : Dev :=
  let d := [d.wf p (Ws.WS_CLASS_SHAPER c), d.wf p Ws.WS_PORT_SHAPER].foldl
    (fun (d : Dev) n => d.chargeShaper n (max 1 (Int.ofNat len + d.overhead n))) d
  let b := max 1 (Int.ofNat len + d.overhead (d.wf p (Ws.WS_CLASS_SHAPER c)))
  d.setWire p (fun (w : WireSt) => { w with drr := w.drr.charge c b })

/-- R464: payload of a DATA frame: metadata m0 to m15, then the packet. -/
def dataFrame (p : Pkt) : List Byte := ofWords ((List.range 16).map (fun i => p.m.getD i 0)) ++ p.data

/-- R464: the yoke can carry a DATA frame. -/
def Dev.yokeData (d : Dev) : Bool :=
  d.on rootId Root.TWIN_STATUS_LINK_UP && d.twinState ≠ 0 && d.twinState ≠ 4 && d.twinState ≠ 5

/-- R74, R464: the port takes what its wire scheduler selects; otherwise it discards heads, or leaves them. -/
def Dev.wireOpen (d : Dev) (p : Nat) : Bool := if p = 18 then d.yokeData else d.portSends p

/-- R74: heads of the port are discarded while it cannot send. -/
def Dev.wireDiscards (d : Dev) (p : Nat) : Bool :=
  if p = 18 then !d.yokeData
  else d.mf p Mac.PORT_STATUS_LINK_UP = 0 && d.mf p Mac.PORT_CFG_DOWN_ACTION = 0

/-- R78: the MAC of port `p` would send packet `k` and not drop it. -/
def Dev.startable (d : Dev) (p : Nat) (k : Pkt) : Bool :=
  decide (16 ≤ p) || (match d.txBytes p k with
    | .ok _ => true
    | .error _ => false)

/-- R215, R232: the selected head of class `c` leaves port `p`; `bad` is what its read met (R503). The charge is that of a frame that starts. -/
def Dev.wireSend (d : Dev) (p c : Nat) (bad : Option ReadFault) : Dev :=
  match d.headOf p c with
  | none => d
  | some x =>
    let len := d.wireLen p x.pkt
    let starts := d.startable p x.pkt
    let (d, k) := (d.newHead p c).readHead x bad
    if d.wireDiscards p then (if p = 18 then d.bump Root.DATA_DROP else d.macAdd p Mac.TX_LINK_DOWN_DROP 1)
    else
      let k := k.applyCe
      let d := if starts then d.chargeWire p c len else d
      if p = 18 then d.yokePacket k.poison (dataFrame k) else d.txStart p k c

/-- The frame in progress on port `p` ends once all its bytes are sent; one that outlasts its gate counts (R233). -/
def Dev.wireEnd (d : Dev) (p : Nat) : Dev := d.txEnd p

/-- R85: bytes of the frame in progress, its FCS among them. -/
def Dev.txLen (d : Dev) (p : Nat) : Nat := ((d.mac p).tx.map (fun (f : TxFrm) => f.bytes.length + 4)).getD 0

/-- R82, R85: an interrupted frame goes on, unless the port must send idles. -/
def Dev.wireResume (d : Dev) (p : Nat) : Dev :=
  if decide (p < 16) && (d.mf p Mac.PORT_STATUS_REMOTE_FAULT = 0) then d.txResume p else d

/-- One selection of the wire scheduler of port `p`, with no frame in progress; an interrupted frame goes on when nothing
is selected. -/
def Dev.wirePick (d : Dev) (p : Nat) (bad : Option ReadFault) : Dev :=
  let d := if p < 16 then d.countHeld p else d
  if !d.shaperOk (d.wf p Ws.WS_PORT_SHAPER) then d.wireResume p
  else
    let (r, c) := (d.wire p).drr.pick ((List.range 8).map (fun c => d.wireKid p c))
    let d := d.setWire p (fun (w : WireSt) => { w with drr := r })
    match c with
    | some c => d.wireSend p c bad
    | none => d.wireResume p

/-- R26, R74, R478: the wire scheduler of port `p` selects frames now. -/
def Dev.wireRuns (d : Dev) (p : Nat) : Bool :=
  (decide (16 ≤ p) || (d.twinState ≠ 5 && d.takesWork (macId p))) && (d.wireOpen p || d.wireDiscards p)

/-- R83, R226: at a frame boundary of port `p` a pause frame that is due leaves first, then the scheduler selects, or an interrupted
frame goes on. -/
def Dev.wireBoundary (d : Dev) (p : Nat) (bad : Option ReadFault) : Dev :=
  let d := d.pauseFlush p
  if d.wireRuns p then d.wirePick p bad else d.wireResume p

/-- R85, R232: an express class of port `p` may start a frame. -/
def Dev.expressWaits (d : Dev) (p : Nat) : Bool :=
  d.wireRuns p && d.shaperOk (d.wf p Ws.WS_PORT_SHAPER) && (List.range 8).any (fun c => d.express p c && (d.wireKid p c).elig)

/-- WIRE_SELECT, R83, R85, R226, R232: the wire scheduler of port `p` acts when `sent` bytes of the frame in progress are on the wire:
it ends a frame that is whole; interrupts a preemptable one for a pause frame that is due or an express class that may start; and
at a frame boundary selects the next. `bad`: what the read of the selected packet met. -/
def wireSelect (p sent : Nat) (bad : Option ReadFault) (d : Dev) : Dev :=
  if !(decide (p < 16) || p = 18) || !d.lpPresent p || !d.swOpen then d
  else if p = 18 then (if d.wireRuns p then d.wirePick p bad else d)
  else if (d.mac p).tx.isNone then d.wireBoundary p bad
  else if d.txLen p ≤ sent then (d.wireEnd p).wireBoundary p bad
  else if d.mayCut p sent && (((d.mac p).due.isSome && d.mf p Mac.PORT_STATUS_REMOTE_FAULT = 0) || d.expressWaits p) then
    (d.txCut p sent).wireBoundary p bad
  else d

/-- WIRE_SELECT: `sent` is the bytes on the wire, with what the read of the selected packet met. -/
def execWireSelect (p : Nat) (sent : Nat × Option ReadFault) (s : State) : Host.Outcome State Fault Refusal :=
  s.run (wireSelect p sent.1 sent.2)

/-! ### Policers (R237, R238) -/

/-- R238: the step of a policer record, at time `now`, for `b` bytes in colour `k` (0 green, 1 yellow, 2 red): the record
after it and the colour out. -/
def polStep (ws : List Word) (now b k : Nat) : List Word × Nat :=
  let g := fun f => wget ws f
  let e := min ((now - g Pol.LAST) % 2 ^ 48) (2 ^ 32)
  let ws := wset ws Pol.LAST now
  let addC := e * g Pol.CIR * 256 / 8000000
  let addP := e * g Pol.PIR * 256 / 8000000
  let cb := g Pol.CBS * 256
  let eb := g Pol.EBS_PBS * 256
  let k0 := if g Pol.AWARE = 0 then 0 else k
  let need := b * 256
  if g Pol.MODE = 1 then
    let t := g Pol.TC + addC
    let te := if cb < t then min eb (g Pol.TE_TP + t - cb) else g Pol.TE_TP
    let tc := min t cb
    if k0 = 0 ∧ need ≤ tc then (wset (wset ws Pol.TC (tc - need)) Pol.TE_TP te, 0)
    else if k0 ≠ 2 ∧ need ≤ te then (wset (wset ws Pol.TC tc) Pol.TE_TP (te - need), 1)
    else (wset (wset ws Pol.TC tc) Pol.TE_TP te, 2)
  else if g Pol.MODE = 2 then
    let tc := min cb (g Pol.TC + addC)
    let tp := min eb (g Pol.TE_TP + addP)
    if k0 = 2 ∨ tp < need then (wset (wset ws Pol.TC tc) Pol.TE_TP tp, 2)
    else if k0 = 1 ∨ tc < need then (wset (wset ws Pol.TC tc) Pol.TE_TP (tp - need), 1)
    else (wset (wset ws Pol.TC (tc - need)) Pol.TE_TP (tp - need), 0)
  else (ws, k0)

/-- R187, R238: one POL operation: its answer and the policer after it. -/
def Dev.meterPkt (d : Dev) (r : PolReq) : Dev × TblAns :=
  match d.table r.table with
  | none => (d, ansSt r.src Sc.malformed)
  | some t =>
    if t.kind ≠ 4 || r.bad || decide (t.entryCount ≤ r.index) then (d, ansSt r.src Sc.malformed)
    else if t.offline then (d, ansSt r.src 0x23)
    else
      let (ws, c) := polStep (d.entry t r.index) d.time r.bytes r.colour
      (d.putEntry t r.index 0 ws, { ansSt r.src Sc.ok with colour := c })

/-- POL_METER, R238: match tile `m` carries out the oldest POL operation on a policer array it is home to. -/
def polMeter (m : Nat) (d : Dev) : Dev :=
  let mine := fun (r : PolReq) => homeTile r.table = m
  match d.sched.pols.find? mine with
  | none => d
  | some r =>
    let d := { d with sched := { d.sched with pols := d.sched.pols.eraseP mine } }
    let (d, a) := d.meterPkt r
    { d with tbl := { d.tbl with answers := d.tbl.answers ++ [a] } }

/-- POL_METER. -/
def execPolMeter (m : Nat) (s : State) : Host.Outcome State Fault Refusal := s.run (polMeter m)

/-- R237: words 0 and 1 of a policer that a write may hold. -/
def polOkWords (w0 w1 : Word) : Bool :=
  let m := wget [w0, w1] Pol.MODE
  m ≠ 3 && getBits w1 51 13 = 0 && getBits w0 0 32 ≤ 3200000000 &&
    (if m = 2 then decide (getBits w0 0 32 ≤ getBits w0 32 32)
      else getBits w0 32 32 = 0)

/-- R237: a policer written: buckets full, LAST the time of the write. -/
def polFilled (w0 w1 : Word) (now : Nat) : List Word :=
  let ws := [w0, w1, 0, 0]
  wset (wset (wset ws Pol.TC (wget ws Pol.CBS * 256)) Pol.TE_TP (wget ws Pol.EBS_PBS * 256)) Pol.LAST now

/-! ### The meter interface (R223, R239) -/

/-- R223: a shaper number a node, leaf or wire class may name: of an array, and named by no other. `except` is the one that
is being written: 0 with a node, 1 with a leaf, 2 with a class (port × 8 + class). -/
def Dev.shaperFree (d : Dev) (n : Nat) (kind self : Nat) : Bool :=
  n = noShaper || (d.isShaper n &&
    !d.nodes.any (fun m => d.node m Node.SHAPER = n && !(kind = 0 && m = self)) &&
    !d.leaves.any (fun q => d.leaf q Node.SHAPER = n && !(kind = 1 && q = self)) &&
    !(List.range 152).any (fun i => d.wf (i / 8) (Ws.WS_CLASS_SHAPER (i % 8)) = n && !(kind = 2 && i = self)))

/-- R222: reserved bits of a record's words 0 and 1 are 0, and WEIGHT is not 0. -/
def nodeFormOk (w0 w1 : Word) : Bool :=
  getBits w0 3 5 = 0 && getBits w0 11 5 = 0 && getBits w0 24 8 = 0 && getBits w0 51 13 = 0 && getBits w1 28 36 = 0 &&
    wget [w0] Node.WEIGHT ≠ 0

/-- R223: the node has children. -/
def Dev.hasKids (d : Dev) (n : Nat) : Bool := !(d.nodeKids n).isEmpty || !(d.leafKids n).isEmpty

/-- R222, R223: node `n` may take words `w0` and `w1`. -/
def Dev.nodeWriteOk (d : Dev) (n : Nat) (w0 w1 : Word) : Bool :=
  let g := fun (f : CFld) => wget [w0, w1] f
  let same := fun (f : CFld) => g f = d.node n f
  let lv := g Node.LEVEL
  decide (n < 65536) && nodeFormOk w0 w1 && d.shaperFree (g Node.SHAPER) 0 n &&
    (if n ≤ 26 then same Node.VALID && same Node.LEVEL && same Node.PARENT && same Node.SLICE
     else
      (!d.hasKids n || (g Node.VALID = 1 && same Node.LEVEL && same Node.PARENT && same Node.SLICE)) &&
        (g Node.VALID = 0 ||
          (let par := g Node.PARENT
           let pv := d.node par Node.VALID = 1
           (lv = 1 && pv && d.node par Node.LEVEL = 0) ||
             (lv = 2 && pv && d.node par Node.LEVEL = 1 && g Node.SLICE = 0))))

/-- R221, R223: class node `n` may be the parent of a leaf whose queue belongs to slice `sl`. -/
def Dev.leafParentOk (d : Dev) (n sl : Nat) : Bool :=
  d.node n Node.VALID = 1 && d.node n Node.LEVEL = 2 &&
    ((decide (19 ≤ n) && decide (n ≤ 26)) || d.node (d.node n Node.PARENT) Node.SLICE = sl)

/-- R223: leaf `q` may take words `w0` and `w1`. -/
def Dev.leafWriteOk (d : Dev) (q : Nat) (w0 w1 : Word) : Bool :=
  let g := fun (f : CFld) => wget [w0, w1] f
  nodeFormOk w0 w1 && g Node.VALID = 1 && g Node.LEVEL = 3 && g Node.SLICE = d.leaf q Node.SLICE &&
    d.shaperFree (g Node.SHAPER) 1 q && d.leafParentOk (g Node.PARENT) (d.qf q Qctx.SLICE)

/-- R226: a node or leaf that moves or changes its priority group leaves its old round with deficit 0. -/
def Dev.leaveRound (d : Dev) (par id : Nat) : Dev := d.setDrr par (((d.drr par).leave id).setDef id 0)

/-- R221, R222: the leaf record of a new TX queue: PRIO 0, WEIGHT 1, no shaper (assumption 21). -/
def Dev.newLeaf (d : Dev) (q parent : Nat) : Dev :=
  d.setRec .leaf q [BitVec.ofNat 64 (1 + 2 * 3 + 2 ^ 16 + noShaper * 2 ^ 32), BitVec.ofNat 64 parent]

/-- Words 0 to 3 of MTR_DATA. -/
def Dev.mtrData (d : Dev) (k : Nat) : Word := BitVec.ofNat 64 (d.g mtrUnit (Mtr.MTR_DATA_W k))

/-- MTR_INDEX. -/
def Dev.mtrIndex (d : Dev) : Nat := d.g mtrUnit Mtr.MTR_INDEX_INDEX

/-- R131, R239: a write of MTR_CMD starts operation `op`: its effect is that of `f`, its result waits until
METER_CMD_DONE. While BUSY is 1 the write is ignored and sets OVERRUN. -/
def Dev.mtrRun (d : Dev) (op table evt : Nat) (f : Dev → Dev × Nat × List Word) : Dev :=
  if d.on mtrUnit Mtr.MTR_STATUS_BUSY then d.s mtrUnit Mtr.MTR_STATUS_OVERRUN 1
  else
    let d := (((d.s mtrUnit Mtr.MTR_CMD_TABLE_ID table).s mtrUnit Mtr.MTR_CMD_OP op).s mtrUnit Mtr.MTR_CMD_EVT evt).s mtrUnit
      Mtr.MTR_STATUS_BUSY 1
    let (d, st, ws) := f d
    { d with sched := { d.sched with meter := some { op := op, status := st, words := ws } } }

/-- A read of a record of class `c`. -/
def Dev.mtrRead (d : Dev) (ok : Bool) (c : Cls) : Dev × Nat × List Word :=
  if ok then (d, Sc.ok, d.crec c d.mtrIndex 4) else (d, Sc.malformed, [])

/-- SHP_READ, R239. -/
def shpReadCmd (table evt : Nat) (d : Dev) : Dev :=
  d.mtrRun 1 table evt (fun d => d.mtrRead (d.isShaper d.mtrIndex) .shaper)

/-- SHP_READ. -/
def execShpRead (table evt : Nat) (s : State) : Host.Outcome State Fault Refusal := s.run (shpReadCmd table evt)

/-- SHP_WRITE, R228, R230. -/
def shpWrite (d : Dev) : Dev × Nat × List Word :=
  if d.isShaper d.mtrIndex && shaperOkWords (d.mtrData 0) (d.mtrData 1) then
    (d.putShaper d.mtrIndex (d.mtrData 0) (d.mtrData 1), Sc.ok, [])
  else (d, Sc.malformed, [])

/-- SHP_WRITE. -/
def shpWriteCmd (table evt : Nat) (d : Dev) : Dev :=
  d.mtrRun 2 table evt shpWrite

/-- SHP_WRITE. -/
def execShpWrite (table evt : Nat) (s : State) : Host.Outcome State Fault Refusal := s.run (shpWriteCmd table evt)

/-- R237, R239: a policer operation on table `id`: its status, and the table when it is OK. -/
def Dev.polTable (d : Dev) (id : Nat) : Except Nat Tbl :=
  match d.table id with
  | none => .error Sc.malformed
  | some t => if t.kind ≠ 4 || decide (t.entryCount ≤ d.mtrIndex) then .error Sc.malformed
    else if t.offline then .error 0x23 else .ok t

/-- POL_READ, R239. -/
def polReadCmd (table evt : Nat) (d : Dev) : Dev :=
  d.mtrRun 3 table evt (fun d => match d.polTable table with
    | .error e => (d, e, [])
    | .ok t => (d, Sc.ok, d.entry t d.mtrIndex))

/-- POL_READ. -/
def execPolRead (table evt : Nat) (s : State) : Host.Outcome State Fault Refusal := s.run (polReadCmd table evt)

/-- POL_WRITE, R237. -/
def polWriteCmd (table evt : Nat) (d : Dev) : Dev :=
  d.mtrRun 4 table evt (fun d => match d.polTable table with
    | .error e => (d, e, [])
    | .ok t =>
      if polOkWords (d.mtrData 0) (d.mtrData 1) then
        (d.putEntry t d.mtrIndex 0 (polFilled (d.mtrData 0) (d.mtrData 1) d.time), Sc.ok, [])
      else (d, Sc.malformed, []))

/-- POL_WRITE. -/
def execPolWrite (table evt : Nat) (s : State) : Host.Outcome State Fault Refusal := s.run (polWriteCmd table evt)

/-- NODE_READ, R239. -/
def nodeReadCmd (table evt : Nat) (d : Dev) : Dev :=
  d.mtrRun 5 table evt (fun d => d.mtrRead (decide (d.mtrIndex < 65536)) .node)

/-- NODE_READ. -/
def execNodeRead (table evt : Nat) (s : State) : Host.Outcome State Fault Refusal := s.run (nodeReadCmd table evt)

/-- NODE_WRITE, R223, R226. -/
def nodeWrite (d : Dev) : Dev × Nat × List Word :=
  let n := d.mtrIndex
  let w0 := d.mtrData 0
  let w1 := d.mtrData 1
  if !d.nodeWriteOk n w0 w1 then (d, Sc.malformed, [])
  else
    let par := if d.node n Node.LEVEL = 0 then rootPoint else d.node n Node.PARENT
    let move := d.node n Node.PRIO ≠ wget [w0] Node.PRIO || d.node n Node.PARENT ≠ wget [w0, w1] Node.PARENT
    let d := if move then d.leaveRound par n else d
    (d.setRec .node n [w0, w1], Sc.ok, [])

/-- NODE_WRITE. -/
def nodeWriteCmd (table evt : Nat) (d : Dev) : Dev :=
  d.mtrRun 6 table evt nodeWrite

/-- NODE_WRITE. -/
def execNodeWrite (table evt : Nat) (s : State) : Host.Outcome State Fault Refusal := s.run (nodeWriteCmd table evt)

/-- LEAF_READ, R239. -/
def leafReadCmd (table evt : Nat) (d : Dev) : Dev :=
  d.mtrRun 7 table evt (fun d => d.mtrRead (d.isLeaf d.mtrIndex) .leaf)

/-- LEAF_READ. -/
def execLeafRead (table evt : Nat) (s : State) : Host.Outcome State Fault Refusal := s.run (leafReadCmd table evt)

/-- LEAF_WRITE, R223, R226: writing PARENT moves the leaf to another class node. -/
def leafWrite (d : Dev) : Dev × Nat × List Word :=
  let q := d.mtrIndex
  let w0 := d.mtrData 0
  let w1 := d.mtrData 1
  if !(d.isLeaf q && d.leafWriteOk q w0 w1) then (d, Sc.malformed, [])
  else
    let par := d.leaf q Node.PARENT
    let move := d.leaf q Node.PRIO ≠ wget [w0] Node.PRIO || par ≠ wget [w0, w1] Node.PARENT
    let d := if move then d.leaveRound par q else d
    (d.setRec .leaf q [w0, w1], Sc.ok, [])

/-- LEAF_WRITE. -/
def leafWriteCmd (table evt : Nat) (d : Dev) : Dev :=
  d.mtrRun 8 table evt leafWrite

/-- LEAF_WRITE. -/
def execLeafWrite (table evt : Nat) (s : State) : Host.Outcome State Fault Refusal := s.run (leafWriteCmd table evt)

/-- R239: a write of MTR_CMD whose OP names no operation completes with MALFORMED. -/
def Dev.mtrBad (d : Dev) (op table evt : Nat) : Dev := d.mtrRun op table evt (fun d => (d, Sc.malformed, []))

/-- METER_CMD_DONE, R239: the result of the meter operation is in place. -/
def meterCmdDone (d : Dev) : Dev :=
  match d.sched.meter with
  | none => d
  | some m =>
    let d := { d with sched := { d.sched with meter := none } }
    let d := (List.range m.words.length).foldl
      (fun (d : Dev) k => d.s mtrUnit (Mtr.MTR_DATA_W k) (m.words.getD k 0).toNat) d
    let d := (d.s mtrUnit Mtr.MTR_STATUS_BUSY 0).s mtrUnit Mtr.MTR_STATUS_RESULT m.status
    if d.on mtrUnit Mtr.MTR_CMD_EVT then d.raise switchId 0x0004 0 (m.status + m.op * 2 ^ 16) else d

/-- METER_CMD_DONE. -/
def execMeterCmdDone (s : State) : Host.Outcome State Fault Refusal := s.run meterCmdDone

end Sys2Proof.Machine
end

