-- ==== Sys2Proof/Machine/RoceFmt.lean ====
section
/-! DEFINITION. The packets of the reliable transport: framing, ICRC, headers and parsing (R266, R268, R272, R281). Opcodes,
header layouts and the ICRC are those of InfiniBand Annex A17, which R266 names (PRESUMED, assumption 37). -/

namespace Sys2Proof.Machine

/-- Field of connection `c`. -/
def Dev.cn (d : Dev) (c : Nat) (f : CFld) : Nat := d.cg .conn c f

/-- Set a field of connection `c`. -/
def Dev.setCn (d : Dev) (c : Nat) (f : CFld) (v : Nat) : Dev := d.cs .conn c f v

/-- R269: `a` is before `b`, modulo 2^24. -/
def psnBefore (a b : Nat) : Bool :=
  let x := (b + 2 ^ 24 - a % 2 ^ 24) % 2 ^ 24
  decide (0 < x) && decide (x < 2 ^ 23)

/-- `a + n` in PSN arithmetic. -/
def psnAdd (a n : Nat) : Nat := (a + n) % 2 ^ 24

/-- Steps from PSN `a` to PSN `b`. -/
def psnSub (b a : Nat) : Nat := (b + 2 ^ 24 - a % 2 ^ 24) % 2 ^ 24

/-- R269: PMTU in bytes. -/
def Dev.pmtu (d : Dev) (c : Nat) : Nat := 1024 * 2 ^ d.cn c Conn.PMTU

/-- Packets of a message of `len` bytes. -/
def Dev.pktsOf (d : Dev) (c len : Nat) : Nat := max 1 ((len + d.pmtu c - 1) / d.pmtu c)

/-- BTH opcodes of the reliable-connected service: SEND and WRITE, by place in the message, READ, ACK and CNP. -/
def bthReadReq : Nat := 0x0C
/-- READ response, by place: first 0x0D, middle 0x0E, last 0x0F, only 0x10. -/
def bthReadResp : Nat := 0x0D
/-- Acknowledge. -/
def bthAck : Nat := 0x11
/-- Congestion notification. -/
def bthCnp : Nat := 0x81

/-- Opcode of packet `i` of `n` of a SEND (`op` 1, 2) or WRITE (`op` 3, 4), with immediate data for even `op`. -/
def reqOpcode (op i n : Nat) : Nat :=
  let base := if op ≤ 2 then 0 else 6
  let imm := if op % 2 = 0 then 1 else 0
  if n = 1 then base + 4 + imm else if i = 0 then base else if i + 1 = n then base + 2 + imm else base + 1

/-- Opcode of packet `i` of `n` of a READ response. -/
def respOpcode (i n : Nat) : Nat :=
  if n = 1 then bthReadResp + 3 else if i = 0 then bthReadResp else if i + 1 = n then bthReadResp + 2 else bthReadResp + 1

/-- The base transport header. -/
def bth (opcode pad dqpn : Nat) (ackReq : Bool) (psn : Nat) : List Byte :=
  beBytes 1 opcode ++ beBytes 1 (0x40 + pad * 16) ++ beBytes 2 0xFFFF ++ [0] ++ beBytes 3 dqpn ++
    [if ackReq then 0x80 else 0] ++ beBytes 3 psn

/-- The RDMA extended header. -/
def reth (va rkey len : Nat) : List Byte := beBytes 8 va ++ beBytes 4 rkey ++ beBytes 4 len

/-- The acknowledge extended header. -/
def aeth (syndrome msn : Nat) : List Byte := beBytes 1 syndrome ++ beBytes 3 msn

/-- AETH syndromes: ACK without credits, RNR NAK, and NAKs for a sequence error, an invalid request and remote access. -/
def synAck : Nat := 0x1F
/-- Sequence-error NAK. -/
def synSeq : Nat := 0x60
/-- Invalid-request NAK. -/
def synInvalid : Nat := 0x61
/-- Remote-access NAK. -/
def synAccess : Nat := 0x62

/-- R266: the ICRC of an IP packet `ip` (header through payload, without ICRC), the fields that change on the way taken as
ones. -/
def icrc (v6 : Bool) (ip : List Byte) : List Byte :=
  let ones := fun (o n : Nat) (b : List Byte) => spliceBytes b o (List.replicate n 0xFF)
  let u := if v6 then 40 else 20
  let h := if v6 then ones 7 1 (ones 1 3 (spliceBytes ip 0 [(ip.getD 0 0) ||| 0x0F]))
    else ones 10 2 (ones 8 1 (ones 1 1 ip))
  let m := ones (u + 8 + 4) 1 (ones (u + 6) 2 h)
  leBytes 4 (Nat.xor (crcR poly32 0xFFFFFFFF (List.replicate 8 0xFF ++ m)) 0xFFFFFFFF)

/-- R269, R288: Ethernet header, IP header and metadata of a packet sent with the addressing words `ws` (words 1 to 7 of R269),
for protocol `proto` and `n` bytes of payload. The source MAC address, the IPv4 Identification and the IPv6 flow label are
free values. -/
def Dev.ipHead (d : Dev) (ws : List Word) (v6 : Bool) (proto n : Nat) : Dev × List Byte × List Byte :=
  let g := fun (f : CFld) => getBits (ws.getD (f.word - 1) 0) f.lo f.w
  let w := d.freeVal.toNat
  let x := d.used.freeVal.toNat
  let d := d.used.used
  let eth := beBytes 6 (g Conn.DST_MAC) ++ beBytes 6 w ++
    (if g Conn.VLAN_EN = 1 then beBytes 2 0x8100 ++ beBytes 2 (g Conn.CLASS * 2 ^ 13 + g Conn.VID) else []) ++
    beBytes 2 (if v6 then 0x86DD else 0x0800)
  let src := ofWords [ws.getD 1 0, ws.getD 2 0]
  let dst := ofWords [ws.getD 3 0, ws.getD 4 0]
  let tos := g Conn.DSCP * 4 + 2
  let ip := if v6 then
      beBytes 4 (6 * 2 ^ 28 + tos * 2 ^ 20 + x % 2 ^ 20) ++ beBytes 2 n ++ beBytes 1 proto ++ beBytes 1 (g Conn.HOP_LIMIT) ++
        src ++ dst
    else
      let h := beBytes 1 0x45 ++ beBytes 1 tos ++ beBytes 2 (20 + n) ++ beBytes 2 x ++ beBytes 2 0x4000 ++
        beBytes 1 (g Conn.HOP_LIMIT) ++ beBytes 1 proto ++ [0, 0] ++ src.drop 12 ++ dst.drop 12
      spliceBytes h 10 (beBytes 2 (inetSum h))
  (d, eth, ip)

/-- A packet ready for the switch core: its bytes, class, and the offsets of its headers. -/
def framePkt (cls : Nat) (eth ip rest : List Byte) : Pkt :=
  let bytes := eth ++ ip ++ rest
  let l3 := eth.length
  let p : Pkt := { Pkt.blank with data := bytes }
  let p := ((p.ms Meta.CLASS cls).ms Meta.PKT_LEN bytes.length).ms Meta.OUTER_L3_OFF l3
  let p := (p.ms Meta.OUTER_L4_OFF (l3 + ip.length)).ms Meta.TUNNEL_OFF 0xFFFF
  (((p.ms Meta.INNER_L2_OFF 0xFFFF).ms Meta.INNER_L3_OFF 0xFFFF).ms Meta.INNER_L4_OFF 0xFFFF).ms Meta.APP_OFF 0xFFFF

/-- R269, R272: a packet of connection `c` from its transport headers and payload, with its ICRC. -/
def Dev.buildRoce (d : Dev) (c : Nat) (t : List Byte) : Dev × Pkt :=
  let v6 := d.cn c Conn.IPV6 = 1
  let un := 8 + t.length + 4
  let (d, eth, ip) := d.ipHead ((d.crec .conn c 8).drop 1) v6 17 un
  let udp := beBytes 2 (d.cn c Conn.UDP_SPORT) ++ beBytes 2 4791 ++ beBytes 2 un ++ [0, 0]
  let body := ip ++ udp ++ t
  (d, framePkt (d.cn c Conn.CLASS) eth ip (udp ++ t ++ icrc v6 body))

/-- Payload padded to 4 bytes, and the pad count. -/
def padded (bs : List Byte) : List Byte × Nat :=
  let n := (4 - bs.length % 4) % 4
  (bs ++ List.replicate n 0, n)

/-- What a transport tile reads of a received packet: opcode, pad, destination QPN, AckReq, PSN, the bytes after the BTH up
to the ICRC, whether the ICRC holds, and whether the IP header carries ECN CE. -/
structure Roce where
  opcode : Nat
  pad : Nat
  qpn : Nat
  ackReq : Bool
  psn : Nat
  body : List Byte
  good : Bool
  ce : Bool
  deriving DecidableEq, Repr

/-- R268: a packet of port 21 as the transport reads it. One that is not framed as R266 says has no good ICRC. -/
def parseRoce (p : Pkt) : Roce :=
  let b := if p.fcs then p.data.take (p.data.length - 4) else p.data
  let o := ethLen b
  let v := (b.getD o 0).toNat / 16
  let v6 := v = 6
  let proto := (b.getD (if v6 then o + 6 else o + 9) 0).toNat
  let u := if v6 then o + 40 else o + 4 * ((b.getD o 0).toNat % 16)
  let un := be16 b (u + 4)
  let t := u + 8
  let framed := (v = 4 || v = 6) && proto = 17 && be16 b (u + 2) = 4791 && decide (24 ≤ un) && decide (u + un ≤ b.length) &&
    be16 b (o - 2) = (if v6 then 0x86DD else 0x0800) && (v6 || (b.getD o 0).toNat % 16 = 5)
  let sum := sliceBytes b (u + un - 4) 4
  let cover := (b.take (u + un - 4)).drop o
  { opcode := (b.getD t 0).toNat
    pad := (b.getD (t + 1) 0).toNat / 16 % 4
    qpn := beNat (sliceBytes b (t + 5) 3)
    ackReq := decide (128 ≤ (b.getD (t + 8) 0).toNat)
    psn := beNat (sliceBytes b (t + 9) 3)
    body := (b.take (u + un - 4)).drop (t + 12)
    good := framed && icrc v6 cover = sum && p.mg Meta.RX_ERR = 0
    ce := (if v6 then (b.getD (o + 1) 0).toNat / 16 % 4 else (b.getD (o + 1) 0).toNat % 4) = 3 }

/-- Payload of a packet whose extended headers take `n` bytes; none when its pad count does not fit. -/
def Roce.payload (r : Roce) (n : Nat) : Option (List Byte) :=
  let m := n + r.pad
  if r.body.length < m then none else some ((r.body.take (r.body.length - r.pad)).drop n)

end Sys2Proof.Machine
end

