-- ==== Sys2Proof/Machine/Transport.lean ====
section
/-! DEFINITION. The transport tiles: sending, responding, acknowledgement, tethering, congestion control and the tally (R266
to R284). -/

namespace Sys2Proof.Machine

/-! ### What a home tile keeps of a connection -/

/-- R273: the READs that connection `x` serves. -/
def TpConn.reads (x : TpConn) : List TpRead :=
  x.answers.filterMap (fun a => match a with
    | .read r => some r
    | _ => none)

/-- An event of connection `c`, from its home tile. -/
def Dev.connEvent (d : Dev) (c kind payload : Nat) : Dev := d.raise (homeOf c) kind (d.cn c Conn.SLICE) payload

/-- The function whose DMA serves connection `c`: that of its slice, or of its send queue. -/
def Dev.connPf (d : Dev) (c : Nat) : Nat :=
  if d.cn c Conn.SLICE ≠ 0 then d.cg .slice (d.cn c Conn.SLICE) Slc.OWNER else d.qf (d.cn c Conn.SQ) Qctx.OWNER

/-- PASID of the requests of connection `c` (R330). -/
def Dev.connPasid (d : Dev) (c : Nat) : Option Nat := d.pasidOf (d.cn c Conn.SLICE)

/-- R120, R267, R288: context `id` is used in set `set` of the cache of tile `t`: a hit marks it, a miss fills a way. -/
def tileCache (cache : List (Nat × CLine)) (rr : List (Nat × Nat × Nat)) (t set id : Nat) :
    List (Nat × CLine) × List (Nat × Nat × Nat) :=
  let lines := (cache.filter (fun x => x.1 = t)).map (·.2)
  let rest := cache.filter (fun x => x.1 ≠ t)
  if lines.any (fun l => l.id = id) then
    (rest ++ lines.map (fun (l : CLine) => (t, if l.id = id then { l with refd := true } else l)), rr)
  else
    let free := (List.range 16).find? (fun w => !lines.any (fun l => l.set = set && l.way = w))
    let start := ((rr.find? (fun x => x.1 = t && x.2.1 = set)).map (·.2.2)).getD 0
    let (ls, way) := match free with
      | some w => (lines, w)
      | none => let r := sweepWay lines set 32 start
                (r.1, r.2.getD 0)
    let line : CLine := { set := set, way := way, id := id, refd := false, dirty := true, pinned := false }
    (rest ++ (ls.filter (fun l => !(l.set = set && l.way = way)) ++ [line]).map (fun l => (t, l)),
      (t, set, (way + 1) % 16) :: rr.filter (fun x => !(x.1 = t && x.2.1 = set)))

/-- R267: a step uses the context of `c` through its tile's cache of 64 sets of 16 ways. -/
def Dev.tpCache (d : Dev) (c : Nat) : Dev :=
  let (cache, rr) := tileCache d.tp.cache d.tp.rr (c % 16) (c / 16 % 64) c
  ({ d with tp := { d.tp with cache := cache, rr := rr } }).sk (homeOf c) Tp.TP_STATUS_CACHED
    ((cache.filter (fun (x : Nat × CLine) => x.1 = c % 16)).length)

/-! ### Entries and the tally (R270, R282, R283) -/

/-- TALLY_HELD of the home tile of `c`. -/
def Dev.syncTally (d : Dev) (c : Nat) : Dev :=
  d.sk (homeOf c) Tp.TP_STATUS_TALLY_HELD ((d.tp.tally.filter (fun x => x.2 % 16 = c % 16)).length)

/-- R282: take a tally entry for connection `c`: the lowest free index, while the share of R283 lasts. -/
def Dev.takeTally (d : Dev) (c : Nat) : Dev × Option Nat :=
  if 524288 ≤ d.tp.tally.length then (d, none)
  else match (List.range (d.tp.tally.length + 1)).find? (fun i => !d.tp.tally.any (fun x => x.1 = i)) with
    | none => (d, none)
    | some i => (({ d with tp := { d.tp with tally := (i, c) :: d.tp.tally } }).syncTally c, some i)

/-- A tally entry of connection `c` is released. -/
def Dev.freeTally (d : Dev) (c i : Nat) : Dev :=
  ({ d with tp := { d.tp with tally := d.tp.tally.filter (fun x => x.1 ≠ i) } }).syncTally c

/-- R283: the share is exhausted. -/
def Dev.tallyFull (d : Dev) : Bool := decide (524288 ≤ d.tp.tally.length)

/-- R270: a free entry of the context. -/
def Dev.freeEntry (d : Dev) (c : Nat) : Option Nat := (List.range 24).find? (fun k => d.cn c (Conn.VALID k) = 0)

/-- R270: fill entry `k`. -/
def Dev.openEntry (d : Dev) (c k op first n tally tag : Nat) : Dev :=
  (((((d.setCn c (Conn.PSN_FIRST k) first).setCn c (Conn.PSN_LAST k) (psnAdd first (n - 1))).setCn c (Conn.OP k) op).setCn c
    (Conn.VALID k) 1).setCn c (Conn.TALLY k) tally).setCn c (Conn.WR_TAG k) tag

/-- R282: entry `k` and its tally entry are released. -/
def Dev.closeEntry (d : Dev) (c k : Nat) : Dev :=
  let d := d.freeTally c (d.cn c (Conn.TALLY k))
  ((d.setOw Cls.conn.code c (16 + 2 * k) 0).setOw Cls.conn.code c (17 + 2 * k) 0).connRecord c

/-! ### Messages of a storage session (R289) -/

/-- R289: the session that uses connection `c`. -/
def Dev.sessOf (d : Dev) (c : Nat) : Option Nat :=
  (d.recs .session).find? (fun s => d.cg .session s Sess.STATE = 1 && d.cg .session s Sess.BINDING = 0 &&
    d.cg .session s Sess.CID = c)

/-- Post `i` of the storage tiles. -/
def Dev.post (d : Dev) (i : Nat) : Option StPost := d.stor.posts.find? (fun p => p.id = i)

/-- Change post `i`. -/
def Dev.setPost (d : Dev) (i : Nat) (f : StPost → StPost) : Dev :=
  { d with stor := { d.stor with posts := d.stor.posts.map (fun (p : StPost) => if p.id = i then f p else p) } }

/-- Change the storage command with number `i`. -/
def Dev.setCmd (d : Dev) (i : Nat) (f : StCmd → StCmd) : Dev :=
  { d with stor := { d.stor with cmds := d.stor.cmds.map (fun (k : StCmd) => if k.id = i then f k else k) } }

/-- The key under which an initiator command offers its data to the peer (assumption 53). -/
def stKey (tag : Nat) : Nat := 0xFFFF0000 + tag

/-- R296: the initiator command on connection `c` whose data a remote key names. -/
def Dev.keyCmd (d : Dev) (c rkey : Nat) : Option StCmd :=
  match d.sessOf c with
  | none => none
  | some s => if d.cg .session s Sess.ROLE = 0 then none
      else d.stor.cmds.find? (fun k => k.sess = s && !k.gone && stKey k.tag = rkey)

/-! ### What a tether holds back (R277) -/

/-- A job of another queue of the connection ends, its tag replaced by immediate data where the packet carried it. -/
def Dev.endJob (d : Dev) (q idx status result flags : Nat) (imm : Option Nat) : Dev :=
  let d := match imm with
    | some v => d.setJob q idx (fun j => j.withTag v)
    | none => d
  d.finishJob q idx status result flags

/-- R198, R206: the switch core stalls input 21 for the packets of connection `c`. -/
def Dev.tpStalled (d : Dev) (c : Nat) : Bool :=
  d.stalled (Pkt.blank.ms Meta.CLASS (d.cn c Conn.CLASS)) 21 (.port (d.cn c Conn.EGRESS_PORT) 0x3FFFF)

/-- An output of connection `c` takes place. -/
def Dev.tpOut (d : Dev) (c : Nat) : TpOut → Dev
  | .frame p => d.toSwitch p 21 (.port (d.cn c Conn.EGRESS_PORT) 0x3FFFF)
  | .message slot status result =>
    match (d.tc c).msgs.find? (fun m => m.slot = slot) with
    | none => d
    | some m =>
      let d := match m.post with
        | some i => d.setPost i (fun (p : StPost) => { p with done := some status })
        | none => d.endJob (d.cn c Conn.SQ) m.job status result 0 none
      (d.setTc c (fun (x : TpConn) => { x with msgs := x.msgs.filter (fun m => m.slot ≠ slot) })).closeEntry c slot
  | .served slot => d.closeEntry c slot
  | .recv q idx status result flags imm => d.endJob q idx status result flags imm
  | .tally t => d.freeTally c t

/-- The slice of `c` is FREEZING or FROZEN (R340). -/
def Dev.connFrozen (d : Dev) (c : Nat) : Bool := d.sliceFrozen (d.cn c Conn.SLICE)

/-- R277: tethering is in effect for `c`. -/
def Dev.tetherOn (d : Dev) (c : Nat) : Bool := d.cn c Conn.TETHERED = 1 && (d.twinState = 3 || d.twinState = 6)

/-- R277: `n` records of tethered connection `c` are not waited for; the first raises an event (assumption 50). -/
def Dev.bypass (d : Dev) (c n : Nat) : Dev :=
  if n = 0 then d
  else
    let d := d.addk (homeOf c) Tp.TETHER_BYPASS n
    if d.tp.bypassed then d else ({ d with tp := { d.tp with bypassed := true } }).connEvent c 0x0602 c

/-- R277: an output of `c` takes place, or waits until the partner has acknowledged the record that carries what it reports. A
tethered connection that runs as loose does not wait for that record. -/
def Dev.tpHold (d : Dev) (c : Nat) (o : TpOut) : Dev :=
  let x := d.tc c
  if d.tetherOn c then
    if x.held.isEmpty && x.rec_.all d.yokeAcked then d.tpOut c o
    else d.setTc c (fun (x : TpConn) => { x with held := x.held ++ [(x.rec_, o)] })
  else if d.cn c Conn.TETHERED = 1 && x.rec_.isSome then
    ((d.setTc c (fun (x : TpConn) => { x with rec_ := none })).bypass c 1).tpOut c o
  else d.tpOut c o

/-- Message in entry `k` has ended and only its completion is held. -/
def TpConn.ended (x : TpConn) (k : Nat) : Bool :=
  x.held.any (fun h => match h.2 with
    | .message s _ _ => s = k
    | _ => false)

/-- Outstanding messages that have not ended. -/
def TpConn.live (x : TpConn) : List TpMsg := x.msgs.filter (fun m => !x.ended m.slot)

/-- The output is a packet. -/
def TpOut.isFrame : TpOut → Bool
  | .frame _ => true
  | _ => false

/-- TETHER_RELEASE, R277, R340: outputs held by `c` whose record is acknowledged take place, in order; all of them while the tether
is not in effect, and then each record among them counts as not waited for. A packet waits while the switch core stalls
its input or the slice is frozen. -/
def Dev.releaseHeld (d : Dev) (c : Nat) : Dev :=
  let shut := d.tpStalled c || d.connFrozen c
  let go := (d.tc c).held.takeWhile (fun h => (!d.tetherOn c || h.1.all d.yokeAcked) && !(h.2.isFrame && shut))
  let lost := if d.tetherOn c then [] else ((go.filterMap (·.1)).filter (fun s => !d.yokeAcked s)).eraseDups
  let d := d.setTc c (fun (x : TpConn) =>
    { x with
        held := x.held.drop go.length
        rec_ := if x.rec_.any (fun s => lost.contains s) then none else x.rec_ })
  (go.map (·.2)).foldl (fun (d : Dev) o => d.tpOut c o) (d.bypass c lost.length)

/-- TETHER_RELEASE. -/
def execTetherRelease (cid : Nat) (s : State) : Host.Outcome State Fault Refusal := s.run (fun d => d.releaseHeld cid)

/-! ### The connection shaper and congestion control (R279, R280) -/

/-- R229, R272: a packet is charged at its frame length, FCS included, plus 20 bytes. -/
def Dev.chargeConn (d : Dev) (c : Nat) (p : Pkt) : Dev :=
  (d.setCn c Conn.TOKENS (low48 (signed 48 (d.cn c Conn.TOKENS) - Int.ofNat ((p.data.length + 24) * 65536)))).connRecord c

/-- R229: the connection shaper is eligible. -/
def Dev.connEligible (d : Dev) (c : Nat) : Bool := decide (0 ≤ signed 48 (d.cn c Conn.TOKENS))

/-- Low 32 bits of the device time. -/
def Dev.now32 (d : Dev) : Nat := d.time % 2 ^ 32

/-- R279: no decrease has been made within the last SRTT. -/
def Dev.ccFree (d : Dev) (c : Nat) : Bool :=
  d.cn c Conn.LAST_DEC = 0 || decide (d.cn c Conn.SRTT ≤ (d.now32 + 2 ^ 32 - d.cn c Conn.LAST_DEC) % 2 ^ 32)

/-- R279: a new rate, clamped to CC_RATE; a decrease sets LAST_DEC; AT_MIN follows, with its event. -/
def Dev.ccSet (d : Dev) (c r : Nat) (dec : Bool) : Dev :=
  let (lo, hi, _) := d.boundAt 0x21 (homeOf c)
  let r := max lo (min hi r)
  let d := d.setCn c Conn.RATE r
  let d := if dec then d.setCn c Conn.LAST_DEC d.now32 else d
  if r = lo then
    (if d.cn c Conn.AT_MIN = 1 then d else (d.setCn c Conn.AT_MIN 1).connEvent c 0x0603 c)
  else d.setCn c Conn.AT_MIN 0

/-- R279: the smoothed round-trip time after a sample of `x` ns. -/
def srttNext (s x : Nat) : Nat := if s = 0 then x else (Int.ofNat s + (Int.ofNat x - Int.ofNat s) / 8).toNat

/-- R279: rate `r` after a delay sample of `x` ns against target `t` with gain `g` / 256, `free` if a decrease is allowed, and
whether it rose (1) or fell (2). -/
def ccDelay (r t g x : Nat) (free : Bool) : Nat × Nat :=
  if 16 * x < 15 * t then (r + max 100 (r * g * (t - x) / (256 * t)), 1)
  else if 17 * t < 16 * x && free then (r - min (r / 2) (r * g * (x - t) / (256 * x)), 2)
  else (r, 0)

/-- R279: a sample of `x` ns. -/
def Dev.ccSample (d : Dev) (c x : Nat) : Dev :=
  let d := d.setCn c Conn.SRTT (srttNext (d.cn c Conn.SRTT) x)
  match ccDelay (d.cn c Conn.RATE) (d.cn c Conn.TARGET) (d.boundAt 0x22 (homeOf c)).2.2 x (d.ccFree c) with
  | (r, 1) => (d.ccSet c r false).bumpk (homeOf c) Tp.CC_INC
  | (r, 2) => (d.ccSet c r true).bumpk (homeOf c) Tp.CC_DEC_DELAY
  | _ => d

/-- CC_UPDATE on a CNP, R279. -/
def Dev.ccCnp (d : Dev) (c : Nat) : Dev :=
  if d.cn c Conn.CC_EN = 1 && d.ccFree c then
    let r := d.cn c Conn.RATE
    (d.ccSet c (r - r * (d.boundAt 0x22 (homeOf c)).2.2 / 256) true).bumpk (homeOf c) Tp.CC_DEC_CNP
  else d

/-- CC_UPDATE on a timeout, R275, R279. -/
def Dev.ccTimeout (d : Dev) (c : Nat) : Dev :=
  let d := d.setCn c Conn.TS_OUT 0
  if d.cn c Conn.CC_EN = 1 then (d.ccSet c (d.cn c Conn.RATE / 2) true).bumpk (homeOf c) Tp.CC_DEC_TIMEOUT else d

/-- R279: the first ACK at or after TS_PSN gives a sample from the receive timestamp of packet `p`. -/
def Dev.ccAck (d : Dev) (c psn : Nat) (p : Pkt) : Dev :=
  if d.cn c Conn.TS_OUT = 0 || psnBefore psn (d.cn c Conn.TS_PSN) then d
  else
    let d := d.setCn c Conn.TS_OUT 0
    let sent := d.cn c Conn.TS_SENT
    let secs := (p.mg Meta.TS_SEC_LO + 2 ^ 32 - sent / 2 ^ 32) % 2 ^ 32
    let x := (Int.ofNat (secs * 1000000000 + p.mg Meta.TS_NS) - Int.ofNat (sent % 2 ^ 32)).toNat
    if d.cn c Conn.CC_EN = 1 then d.ccSample c (x % 2 ^ 32) else d

/-! ### Packets sent -/

/-- A packet is built for connection `c`, counted, and charged to its shaper. -/
def Dev.tpBuild (d : Dev) (c : Nat) (t : List Byte) : Dev × Pkt :=
  let (d, p) := d.buildRoce c t
  ((d.bumpk (homeOf c) Tp.TX_PKTS).chargeConn c p, p)

/-- An answer that connection `c` owes waits behind those before it. -/
def Dev.owe (d : Dev) (c : Nat) (a : TpAns) : Dev :=
  d.setTc c (fun (x : TpConn) => { x with answers := x.answers ++ [a] })

/-- An ACK or NAK for PSN `psn` is built, and held by the tether. -/
def Dev.ackNow (d : Dev) (c syn psn msn : Nat) : Dev :=
  let (d, p) := d.tpBuild c (bth bthAck 0 (d.cn c Conn.DEST_QPN) false psn ++ aeth syn msn)
  d.tpHold c (.frame p)

/-- R272, R273: an ACK or NAK for PSN `psn`: at once, or behind the answers owed before it and while the connection shaper is not
eligible or the switch core stalls. -/
def Dev.sendAck (d : Dev) (c syn psn : Nat) : Dev :=
  let d := if syn = synAck then d.setTc c (fun (x : TpConn) => { x with acks := 0 }) else d
  let msn := d.cn c Conn.MSN
  if (d.tc c).answers.isEmpty && d.connEligible c && !d.tpStalled c then d.ackNow c syn psn msn else d.owe c (.ack syn psn msn)

/-- R281: a CNP is built and leaves, not charged to the shaper. -/
def Dev.cnpNow (d : Dev) (c : Nat) : Dev :=
  let (d, p) := d.buildRoce c (bth bthCnp 0 (d.cn c Conn.DEST_QPN) false 0 ++ List.replicate 16 0)
  let d := ((d.bumpk (homeOf c) Tp.TX_PKTS).bumpk (homeOf c) Tp.CNP_TX).setCn c Conn.LAST_CNP d.now32
  (d.connRecord c).tpOut c (.frame p)

/-- CNP_SEND, R281: a CNP, at most one in 4 µs; it waits while the switch core stalls. -/
def Dev.sendCnp (d : Dev) (c : Nat) : Dev :=
  let last := d.cn c Conn.LAST_CNP
  if (last ≠ 0 && decide ((d.now32 + 2 ^ 32 - last) % 2 ^ 32 < 4000)) || (d.tc c).answers.contains .cnp then d
  else if d.tpStalled c then d.setTc c (fun (x : TpConn) => { x with answers := .cnp :: x.answers })
  else d.cnpNow c

/-- R272: the transport bytes of the packet at `psn` of message `m`: from `data` for a SEND or WRITE, a READ request for
what is still to come of a READ. -/
def Dev.reqBytes (d : Dev) (c : Nat) (m : TpMsg) (psn : Nat) (data : List Byte) (force : Bool) : List Byte :=
  let i := psnSub psn m.first
  let o := i * d.pmtu c
  let dq := d.cn c Conn.DEST_QPN
  if m.op = 5 then bth bthReadReq 0 dq true psn ++ reth (m.va + o) m.rkey (m.len - o)
  else
    let (bs, pad) := padded (sliceBytes data 0 (min (d.pmtu c) (m.len - o)))
    bth (reqOpcode m.op i m.n) pad dq (force || i + 1 = m.n || i % 16 = 15) psn ++
      (if (m.op = 3 || m.op = 4) && i = 0 then reth m.va m.rkey m.len else []) ++
      (if m.op % 2 = 0 && i + 1 = m.n then beBytes 4 m.imm else []) ++ bs

/-- RESULT of a message that ends (R367). -/
def Dev.msgResult (d : Dev) (c : Nat) (m : TpMsg) : Nat := if m.op = 5 then m.got else min m.len (m.sent * d.pmtu c)

/-- CONN_ERROR, R271: connection `c` moves to ERROR: outstanding messages end with the status `of` gives each, what waits in
SQ with CONN_ERROR, and an event carries `code`. -/
def Dev.connError (d : Dev) (c code : Nat) (of : TpMsg → Nat) : Dev :=
  let x := d.tc c
  let sq := d.cn c Conn.SQ
  let d := (d.setCn c Conn.STATE 4).touchConn c
  let d := x.live.foldl (fun (d : Dev) m => d.tpHold c (.message m.slot (of m) (d.msgResult c m))) d
  let waits := (((d.qst sq).map QSt.jobs).getD []).filter (fun j => j.result.isNone && !j.granted)
  let d := waits.foldl (fun (d : Dev) j => d.tpHold c (.recv sq j.idx 0x34 0 0 none)) d
  let d := match x.rx with
    | some r =>
      let d := match r.job with
        | some i => d.tpHold c (.recv (d.cn c Conn.RQ) i 0x34 r.got 0 none)
        | none => d
      (match r.tally with
        | some t => d.tpHold c (.tally t)
        | none => d)
    | none => d
  let d := x.reads.foldl (fun (d : Dev) (r : TpRead) => d.tpHold c (.served r.slot)) d
  let d := (d.stor.posts.filter (fun p => p.cid = c && !p.started)).foldl
    (fun (d : Dev) p => d.setPost p.id (fun (p : StPost) => { p with done := some 0x34 })) d
  let d := d.setTc c (fun (x : TpConn) =>
    { x with rx := none, answers := [], probe := 0, rnr := none, acks := 0, next := d.cn c Conn.SQ_PSN })
  d.connEvent c 0x0601 (c + code * 2 ^ 24)

/-- A request packet of message `m` at `psn` leaves: `first` unless it is sent again. Data that could not be read end the
message, and the connection where the peer is already waiting for the rest of it. -/
def Dev.sendReq (d : Dev) (c : Nat) (m : TpMsg) (psn : Nat) (data : Option (List Byte)) (first force : Bool) : Dev :=
  let o := psnSub psn m.first * d.pmtu c
  let data := match m.post.bind (fun i => d.post i) with
    | some p => some (p.data.drop o)
    | none => data
  if m.op ≠ 5 && decide (o < m.len) && data.isNone then
    if m.sent = 0 then d.tpHold c (.message m.slot Sc.busError 0)
    else d.connError c Sc.busError (fun x => if x.slot = m.slot then Sc.busError else 0x34)
  else
    let (d, p) := d.tpBuild c (d.reqBytes c m psn (data.getD []) force)
    let stamp := first && d.cn c Conn.CC_EN = 1 && d.cn c Conn.TS_OUT = 0
    let d := if stamp then (d.setCn c Conn.TS_OUT 1).setCn c Conn.TS_PSN psn else d
    let d := if first then
        let up := psnAdd psn (if m.op = 5 then m.n else 1)
        let d := (d.setCn c Conn.SQ_PSN up).setTc c (fun (x : TpConn) =>
          { x with
              next := up
              msgs := x.msgs.map (fun (k : TpMsg) => if k.slot = m.slot then { k with sent := k.sent + 1 } else k) })
        d.connRecord c
      else d.bumpk (homeOf c) Tp.RETX_PKTS
    d.tpOut c (.frame { p with job := if stamp then some (0x40000 + c, psn) else none })

/-- Message of `c` that holds PSN `psn`. -/
def TpConn.msgAt (x : TpConn) (psn : Nat) : Option TpMsg :=
  x.live.find? (fun m => decide (psnSub psn m.first < m.n))

/-- The next READ response of `c`, with its data; one whose memory cannot be read is answered as a failed check. -/
def Dev.sendResp (d : Dev) (c : Nat) (r : TpRead) (data : Option (List Byte)) : Dev :=
  let psn := psnAdd r.first r.next
  let o := r.next * d.pmtu c
  let drop := fun (d : Dev) => (d.setTc c (fun (x : TpConn) => { x with answers := x.answers.drop 1 })).tpHold c (.served r.slot)
  let data := match d.keyCmd c r.rkey with
    | some k => some (k.data.drop (r.va + o))
    | none => data
  match data, decide (o < r.len) with
  | none, true => drop (d.ackNow c synAccess psn (d.cn c Conn.MSN))
  | _, _ =>
    let (bs, pad) := padded (sliceBytes (data.getD []) 0 (min (d.pmtu c) (r.len - o)))
    let op := respOpcode r.next r.n
    let t := bth op pad (d.cn c Conn.DEST_QPN) false psn ++
      (if r.next = 0 || r.next + 1 = r.n then aeth synAck (d.cn c Conn.MSN) else []) ++ bs
    let (d, p) := d.tpBuild c t
    let d := d.tpHold c (.frame p)
    if r.next + 1 = r.n then drop d
    else d.setTc c (fun (x : TpConn) => { x with answers := .read { r with next := r.next + 1 } :: x.answers.drop 1 })

/-- R273: the oldest answer that `c` owes is sent, of a READ its next response. -/
def Dev.sendAnswer (d : Dev) (c : Nat) (a : TpAns) (data : Option (List Byte)) : Dev :=
  let pop := fun (d : Dev) => d.setTc c (fun (x : TpConn) => { x with answers := x.answers.drop 1 })
  match a with
  | .ack syn psn msn => (pop d).ackNow c syn psn msn
  | .read r => d.sendResp c r data
  | .cnp => (pop d).cnpNow c

/-- R270, R272, R282, R289: the next message, if an entry and a tally entry are free: the oldest post of the session that uses
the connection, or the oldest job of SQ that is not a message yet. -/
def Dev.startMsg (d : Dev) (c : Nat) : Dev × Option TpMsg :=
  let sq := d.cn c Conn.SQ
  let psn := d.cn c Conn.SQ_PSN
  let post := d.stor.posts.find? (fun p => p.cid = c && !p.started && p.done.isNone)
  let job := (((d.qst sq).map QSt.jobs).getD []).find? (fun j => j.result.isNone && !j.granted)
  match d.freeEntry c, post, job with
  | some k, some p, _ =>
    match d.takeTally c with
    | (d, none) => (d, none)
    | (d, some t) =>
      let m : TpMsg :=
        { slot := k, job := 0, op := p.op, len := p.len, va := p.va, rkey := p.rkey, imm := 0, first := psn
          n := d.pktsOf c p.len, sent := 0, got := 0, post := some p.id }
      let d := (d.openEntry c k m.op psn m.n t 0).setPost p.id (fun (p : StPost) => { p with started := true })
      (d.setTc c (fun (x : TpConn) => { x with msgs := x.msgs ++ [m] }), some m)
  | some k, none, some j =>
    match d.takeTally c with
    | (d, none) => (d, none)
    | (d, some t) =>
      let e := j.ents.getD 0 []
      let m : TpMsg :=
        { slot := k, job := j.idx, op := wget e Rdma.OP, len := wget e Went.LEN, va := wget e Rdma.REMOTE_VA
          rkey := wget e Rdma.RKEY, imm := wget e Rdma.IMM, first := psn, n := d.pktsOf c (wget e Went.LEN), sent := 0
          got := 0, post := none }
      let d := (d.openEntry c k m.op psn m.n t j.tag).setJob sq j.idx (fun (j : Job) => { j with granted := true })
      (d.setTc c (fun (x : TpConn) => { x with msgs := x.msgs ++ [m] }), some m)
  | _, _, _ => (d, none)

/-- TRANSPORT_SEND, R198, R272 to R275: while its shaper is eligible and the switch core does not stall it, connection `cid` builds
its next packet: an answer it owes, the packet at UNA_PSN alone after a timeout, one to be sent again, the next of the message in progress, or the first of the
next job. `data`: the bytes read for it. -/
def transportSend (c : Nat) (data : Option (List Byte)) (d : Dev) : Dev :=
  let st := d.cn c Conn.STATE
  if !(st = 2 || st = 3) || !d.takesWork (homeOf c) || d.connFrozen c || !d.connEligible c || d.tpStalled c || d.twinState = 5 then d
  else
    let d := d.tpCache c
    let x := d.tc c
    let una := d.cn c Conn.UNA_PSN
    let up := d.cn c Conn.SQ_PSN
    match x.answers with
    | a :: _ => d.sendAnswer c a data
    | [] =>
      if st ≠ 3 || x.rnr.isSome || x.probe = 2 then d
      else if x.probe = 1 then
        let d := d.setTc c (fun (x : TpConn) => { x with probe := 2 })
        (match x.msgAt una with
          | some m => d.sendReq c m una data false true
          | none => d)
      else if psnBefore x.next up then
        match x.msgAt x.next with
        | some m =>
          let n := if m.op = 5 then m.n - psnSub x.next m.first else 1
          (d.setTc c (fun (x : TpConn) => { x with next := psnAdd x.next n })).sendReq c m x.next data false false
        | none => d.setTc c (fun (x : TpConn) => { x with next := psnAdd x.next 1 })
      else
        match x.live.find? (fun m => decide (m.sent < (if m.op = 5 then 1 else m.n))) with
        | some m => d.sendReq c m up data true false
        | none =>
          match d.startMsg c with
          | (d, some m) => d.sendReq c m up data true false
          | (d, none) => d

/-- TRANSPORT_SEND. -/
def execTransportSend (cid : Nat) (data : Option (List Byte)) (s : State) : Host.Outcome State Fault Refusal :=
  s.run (transportSend cid data)

/-! ### The requester's side of what is received (R274 to R276) -/

/-- R274: the last PSN an acknowledgement of `p` can cover: not past a READ whose data is still to come. -/
def Dev.ackLimit (d : Dev) (c p : Nat) : Nat :=
  match (d.tc c).live.find? (fun m => m.op = 5 && m.sent = 1) with
  | some m =>
    let e := psnAdd m.first (m.got / d.pmtu c)
    if psnBefore p e then p else psnAdd e (2 ^ 24 - 1)
  | none => p

/-- R274: PSN `p` is acknowledged by packet `pk`. -/
def Dev.ackTo (d : Dev) (c p : Nat) (pk : Pkt) : Dev :=
  let p := d.ackLimit c p
  let una := d.cn c Conn.UNA_PSN
  if psnBefore p una || !psnBefore p (d.cn c Conn.SQ_PSN) then d
  else
    let up := psnAdd p 1
    let d := ((d.setCn c Conn.UNA_PSN up).setCn c Conn.RETRY_COUNT 0).setCn c Conn.RNR_COUNT 0
    let d := d.ccAck c p pk
    let d := d.setTc c (fun (x : TpConn) =>
      { x with next := if x.probe ≠ 0 || psnBefore x.next up then up else x.next, probe := 0 })
    let d := d.touchConn c
    let acked := (d.tc c).live.filter (fun m => psnBefore (psnAdd m.first (m.n - 1)) up)
    acked.foldl (fun (d : Dev) m => d.tpHold c (.message m.slot Sc.ok (if m.op = 5 then m.got else m.len))) d

/-- R274: a NAK with a syndrome for PSN `p`. -/
def Dev.nakIn (d : Dev) (c syn p : Nat) (pk : Pkt) : Dev :=
  let inFlight := !psnBefore p (d.cn c Conn.UNA_PSN) && psnBefore p (d.cn c Conn.SQ_PSN)
  let here := fun (code : Nat) (m : TpMsg) => if psnSub p m.first < m.n then code else 0x34
  if syn / 32 = 1 then
    let n := d.cn c Conn.RNR_COUNT + 1
    let lim := d.cn c Conn.RNR_LIMIT
    if !inFlight then d
    else if lim ≠ 7 && decide (lim < n) then d.connError c 0x31 (here 0x31)
    else ((d.setCn c Conn.RNR_COUNT (min n 7)).setTc c (fun (x : TpConn) => { x with rnr := some p, probe := 0 })).touchConn c
  else if syn = synSeq then
    let d := d.ackTo c (psnAdd p (2 ^ 24 - 1)) pk
    if inFlight then d.setTc c (fun (x : TpConn) => { x with next := p, probe := 0 }) else d
  else if inFlight && syn = synInvalid then d.connError c 0x33 (here 0x33)
  else if inFlight && syn = synAccess then d.connError c 0x32 (here 0x32)
  else d

/-- R274: a READ response: its data is written, and its PSN acknowledged, when it is the next of its READ. -/
def Dev.respIn (d : Dev) (c : Nat) (r : Roce) (pk : Pkt) : Dev :=
  let ext := if r.opcode = bthReadResp + 1 then 0 else 4
  match (d.tc c).live.find? (fun m => m.op = 5 && m.sent = 1), r.payload ext with
  | some m, some bs =>
    let i := m.got / d.pmtu c
    let last := i + 1 = m.n
    let sq := d.cn c Conn.SQ
    if psnAdd m.first i ≠ r.psn || bs.length ≠ (if last then m.len - m.got else d.pmtu c) then d
    else
      let bufs := (((d.jobAt sq m.job).map Job.ents).getD []).drop 1
      let d := match m.post with
        | some k => d.setPost k (fun (p : StPost) => { p with got := p.got ++ bs })
        | none => d.scatter (d.connPf c) (d.connPasid c) (dropBufs (bufs.map entBuf) m.got) bs
      let d := d.setTc c (fun (x : TpConn) => { x with msgs := x.msgs.map (fun (k : TpMsg) =>
        if k.slot = m.slot then { k with got := k.got + bs.length, sent := if last then 2 else 1 } else k) })
      d.ackTo c r.psn pk
  | _, _ => d

/-! ### The responder's side (R273, R281, R338) -/

/-- RETH_CHECK, R338: a remote key allows an access: the window is valid, the connection's, permits it, and covers it. -/
def Dev.rethOk (d : Dev) (c va rkey len : Nat) (write : Bool) : Bool :=
  let i := rkey % 65536
  let w := fun f => d.cg .window i f
  match d.keyCmd c rkey with
  | some k => decide (va + len ≤ k.data.length)
  | none => !d.badRec .window i && w Mw.VALID = 1 && w Mw.TAG = rkey / 65536 && w Mw.SLICE = d.cn c Conn.SLICE &&
    (w Mw.CID = 0 || w Mw.CID = c) && w (if write then Mw.REMOTE_WRITE else Mw.REMOTE_READ) = 1 &&
    decide (w Mw.BASE ≤ va) && decide (va + len ≤ w Mw.BASE + w Mw.LENGTH)

/-- R273: EPSN advances by `n`; a message that ends counts in MSN. -/
def Dev.advance (d : Dev) (c n : Nat) (ends : Bool) : Dev :=
  let d := d.setCn c Conn.EPSN (psnAdd (d.cn c Conn.EPSN) n)
  let d := if ends then d.setCn c Conn.MSN (psnAdd (d.cn c Conn.MSN) 1) else d
  (d.setTc c (fun (x : TpConn) => { x with naked := false })).touchConn c

/-- R273: the packet is acknowledged at once if it asks for it or is the 16th since the last ACK, else later. -/
def Dev.ackLater (d : Dev) (c : Nat) (ackReq : Bool) : Dev :=
  let d := d.setTc c (fun (x : TpConn) => { x with acks := x.acks + 1 })
  if ackReq || decide (16 ≤ (d.tc c).acks) then d.sendAck c synAck (psnAdd (d.cn c Conn.EPSN) (2 ^ 24 - 1)) else d

/-- R273: an RNR NAK. -/
def Dev.rnrNak (d : Dev) (c : Nat) : Dev :=
  (d.bumpk (homeOf c) Tp.RNR_TX).sendAck c (0x20 + d.cn c Conn.RNR_WAIT) (d.cn c Conn.EPSN)

/-- Kind (1 SEND, 3 WRITE) of a request opcode, whether it begins and ends its message, and whether it has immediate data. -/
def reqKind (o : Nat) : Option (Nat × Bool × Bool × Bool) :=
  if 12 ≤ o then none
  else
    let k := o % 6
    some (if o < 6 then 1 else 3, k = 0 || 4 ≤ k, 2 ≤ k, k = 3 || k = 5)

/-- R273, R282, R367: the message in reception, with `bs` more bytes, goes on or ends. -/
def Dev.rxGo (d : Dev) (c : Nat) (x : TpRx) (bs : List Byte) (last : Bool) (imm : Option Nat) (flags : Nat) : Dev :=
  let rq := d.cn c Conn.RQ
  let bufs := if x.op = 1 then dropBufs [entBuf x.ent] x.got else [(x.va + x.got, bs.length)]
  let pf := if x.op = 1 then d.qf rq Qctx.OWNER else d.connPf c
  let sess := if x.op = 1 then d.sessOf c else none
  let d := match sess, (if x.op = 3 then d.keyCmd c x.rkey else none) with
    | some _, _ => d
    | none, some k => d.setCmd k.id (fun (k : StCmd) =>
        { k with data := spliceBytes k.data (x.va + x.got) bs, got := k.got + bs.length })
    | none, none => d.scatter pf (d.connPasid c) bufs bs
  let x := { x with got := x.got + bs.length, len := if x.lost then x.got + bs.length else x.len, data := if sess.isSome then x.data ++ bs else [] }
  let d := match sess with
    | some s => if last then { d with stor := { d.stor with capsules := d.stor.capsules ++ [(s, x.data)] } } else d
    | none => d
  let d := d.setTc c (fun (t : TpConn) => { t with rx := if last then none else some x, adopted := false })
  let d := d.advance c 1 last
  if !last then d
  else
    let d := match x.job with
      | some i => d.tpHold c (.recv rq i Sc.ok x.got (flags + (if imm.isSome then 4096 else 0)) imm)
      | none => d
    match x.tally with
    | some t => d.tpHold c (.tally t)
    | none => d

/-- R278: the message whose first packets went to a device that has failed goes on here: where its next `n` bytes lie is not among
what the mirror holds, and is a free value (assumption 142). -/
def Dev.lostRx (d : Dev) (x : TpRx) (n : Nat) : Dev × TpRx :=
  let v := d.freeVal.toNat
  (d.used, { x with va := if x.op = 3 then v else 0, rkey := 0, len := 0
                    got := if x.op = 1 && x.job.isSome then v % (wget x.ent Went.LEN - n + 1) else 0 })

/-- R273, R282: a SEND or WRITE packet with PSN = EPSN. `ents` are the entries of RQ from its HEAD; `flags` the FLAGS a receive
completion takes from the packet. -/
def Dev.reqIn (d : Dev) (c : Nat) (r : Roce) (k : Nat × Bool × Bool × Bool) (ents : List (Option (List Word)))
    (flags : Nat) : Dev :=
  let (op, first, last, hasImm) := k
  let rq := d.cn c Conn.RQ
  let nak := fun (syn : Nat) (d : Dev) => d.sendAck c syn (d.cn c Conn.EPSN)
  let ext := (if op = 3 && first then 16 else 0) + (if hasImm then 4 else 0)
  match r.payload ext with
  | none => nak synInvalid d
  | some bs =>
    let mtu := d.pmtu c
    let va := beNat (sliceBytes r.body 0 8)
    let rkey := beNat (sliceBytes r.body 8 4)
    let len := beNat (sliceBytes r.body 12 4)
    let imm := if hasImm then some (beNat (sliceBytes r.body (ext - 4) 4)) else none
    let lost := (d.tc c).rx.isNone && (d.tc c).adopted && !first
    let cur := (d.tc c).rx
    let onSess := (d.sessOf c).isSome
    let sess := op = 1 && onSess
    let sized := if last then decide (bs.length ≤ mtu) && (first || !bs.isEmpty) else bs.length = mtu
    let fits := match cur with
      | some x => !first && x.op = op && (if x.lost && op = 3 then true else if op = 1 then decide (x.got + bs.length ≤ (if sess then 8256 else wget x.ent Went.LEN))
          else if last then x.got + bs.length = x.len else decide (x.got + bs.length < x.len))
      | none => lost || first && (op = 1 || (if last then bs.length = len else decide (bs.length < len)))
    if !sized || !fits then nak synInvalid d
    else if op = 3 && first && !d.rethOk c va rkey len true then nak synAccess d
    else if (first || lost) && d.tallyFull then d.rnrNak c
    else
      let needs := !onSess && ((op = 1 && (first || lost)) || (op = 3 && hasImm))
      let (d, good) := if needs && d.rxOpen rq then d.rxReady rq ents else (d, [])
      match needs, good with
      | true, [] => d.rnrNak c
      | _, _ =>
        let ent := ((good.head?).map (fun (j : Job) => j.ents.getD 0 [])).getD []
        if op = 1 && first && decide ((if sess then 8256 else wget ent Went.LEN) < bs.length) then nak synInvalid d
        else
          let d := match good with
            | j :: _ => if needs then d.takeJob rq j else d
            | [] => d
          let job := if needs then (good.head?).map (fun (j : Job) => j.idx) else none
          let (d, tally) := if (first || lost) && !last then d.takeTally c else (d, none)
          let x : TpRx := match cur with
            | some x => { x with job := if needs then job else x.job }
            | none => { lost := lost, op := op, va := va, rkey := rkey, len := len, got := 0, job := job, ent := ent, data := []
                        tally := tally }
          let (d, x) := if lost then d.lostRx x bs.length else (d, x)
          (d.rxGo c x bs last imm flags).ackLater c r.ackReq

/-- R270, R273: a READ request is served from PSN `psn`; `new` unless it is a duplicate. -/
def Dev.readIn (d : Dev) (c : Nat) (r : Roce) (new : Bool) : Dev :=
  let va := beNat (sliceBytes r.body 0 8)
  let rkey := beNat (sliceBytes r.body 8 4)
  let len := beNat (sliceBytes r.body 12 4)
  let nak := fun (syn : Nat) (d : Dev) => d.sendAck c syn (if new then d.cn c Conn.EPSN else r.psn)
  if r.body.length ≠ 16 || (new && (d.tc c).rx.isSome) then nak synInvalid d
  else if !d.rethOk c va rkey len false then nak synAccess d
  else
    match d.freeEntry c with
    | none => d.rnrNak c
    | some k =>
      match d.takeTally c with
      | (d, none) => d.rnrNak c
      | (d, some t) =>
        let n := d.pktsOf c len
        let d := d.openEntry c k 6 r.psn n t 0
        let x : TpRead := { slot := k, va := va, rkey := rkey, len := len, first := r.psn, n := n, next := 0 }
        let d := d.owe c (.read x)
        if new then d.advance c n true else d.connRecord c

/-- R273: a request packet. -/
def Dev.request (d : Dev) (c : Nat) (r : Roce) (ents : List (Option (List Word))) (flags : Nat) : Dev :=
  let e := d.cn c Conn.EPSN
  if psnBefore r.psn e then
    let d := d.bumpk (homeOf c) Tp.DUP_RX
    if r.opcode = bthReadReq then d.readIn c r false else d.sendAck c synAck (psnAdd e (2 ^ 24 - 1))
  else if r.psn ≠ e then
    if (d.tc c).naked then d
    else ((d.setTc c (fun (x : TpConn) => { x with naked := true })).bumpk (homeOf c) Tp.NAK_SEQ_TX).sendAck c synSeq e
  else if r.opcode = bthReadReq then d.readIn c r true
  else match reqKind r.opcode with
    | some k => d.reqIn c r k ents flags
    | none => d.sendAck c synInvalid e

/-- R367: FLAGS that a receive completion takes from the packet that ends a message. -/
def rxFlagsOf (p : Pkt) : Nat :=
  p.mg Meta.RX_ERR + p.mg Meta.CSUM_BAD_OUTER * 32 + p.mg Meta.CSUM_BAD_INNER * 64 + p.mg Meta.CE_MARK * 128 +
    p.mg Meta.CLASS * 256

/-- TRANSPORT_RX, R266, R268, R340: a packet on port 21 goes to its home tile. `ents`: entries of RQ as read from its HEAD;
`ecc`: an uncorrectable error met in the context. -/
def Dev.rxTransport (d : Dev) (p : Pkt) (ents : List (Option (List Word))) (ecc : Bool) : Dev :=
  let r := parseRoce p
  let c := r.qpn
  let t := homeOf c
  if !d.feature 2 then d.bumpk t Tp.NO_CONN_DROP
  else if !r.good then d.bumpk t Tp.ICRC_ERR
  else if c < 2 || 4194304 ≤ c || d.cn c Conn.STATE = 0 then d.bumpk t Tp.NO_CONN_DROP
  else if d.connFrozen c then d.cadd .slice (d.cn c Conn.SLICE) Slc.FROZEN_RX_DROPS 1
  else
    let d := (d.wakeUnit t).tpCache c
    let st := d.cn c Conn.STATE
    if !(st = 2 || st = 3) then d.bumpk t Tp.NO_CONN_DROP
    else if ecc then (((d.uncorr t 2 (c * 512)).bumpk t Tp.NO_CONN_DROP)).connError c 0x34 (fun _ => 0x34)
    else
      let d := d.bumpk t Tp.RX_PKTS
      if r.opcode = bthCnp then ((d.bumpk t Tp.CNP_RX).ccCnp c).connRecord c
      else if r.opcode = 0x12 then d
      else if bthReadResp ≤ r.opcode && r.opcode ≤ bthReadResp + 3 then (if st = 3 then d.respIn c r p else d)
      else if r.opcode = bthAck then
        let syn := (r.body.getD 0 0).toNat
        if st ≠ 3 || r.body.length ≠ 4 then d
        else if syn / 32 = 0 then d.ackTo c r.psn p
        else d.nakIn c syn r.psn p
      else
        let d := if r.ce || p.mg Meta.CE_MARK = 1 then d.sendCnp c else d
        d.request c r ents (rxFlagsOf p)

/-- TRANSPORT_RX, R268: the oldest packet on port 21 whose home tile takes work is handled. -/
def transportRx (ents : List (Option (List Word))) (ecc : Bool) (d : Dev) : Dev :=
  let l := d.sw.transport
  let go := fun (p : Pkt) => d.takesWork (homeOf (parseRoce p).qpn)
  if d.twinState = 5 then d
  else match l.find? go with
    | none => d
    | some p =>
      let rest := l.takeWhile (fun p => !go p) ++ (l.dropWhile (fun p => !go p)).drop 1
      ({ d with sw := { d.sw with transport := rest } }).rxTransport p ents ecc

/-- TRANSPORT_RX. -/
def execTransportRx (ents : List (Option (List Word))) (ecc : Bool) (s : State) : Host.Outcome State Fault Refusal :=
  s.run (transportRx ents ecc)

/-! ### Timers -/

/-- The connection may act on its own: in `st`, not frozen, not fenced. -/
def Dev.connRuns (d : Dev) (c st : Nat) : Bool :=
  decide (st ≤ d.cn c Conn.STATE) && decide (d.cn c Conn.STATE ≤ 3) && !d.connFrozen c && d.twinState ≠ 5

/-- ACK_TIMER, R273: 2 µs after the oldest packet not acknowledged, an ACK is sent. -/
def ackTimer (c : Nat) (d : Dev) : Dev :=
  if d.connRuns c 2 && (d.tc c).acks ≠ 0 then (d.tpCache c).sendAck c synAck (psnAdd (d.cn c Conn.EPSN) (2 ^ 24 - 1)) else d

/-- ACK_TIMER. -/
def execAckTimer (cid : Nat) (s : State) : Host.Outcome State Fault Refusal := s.run (ackTimer cid)

/-- RETRANSMIT_TIMEOUT, R275, R279: RETRY_COUNT rises, the rate halves, and UNA_PSN is to be sent again alone; past
RETRY_LIMIT the connection moves to ERROR and what is outstanding ends with RETRY_EXCEEDED. -/
def retransmitTimeout (c : Nat) (d : Dev) : Dev :=
  if !d.connRuns c 3 || d.cn c Conn.UNA_PSN = d.cn c Conn.SQ_PSN then d
  else
    let d := (d.tpCache c).bumpk (homeOf c) Tp.TIMEOUTS
    if d.cn c Conn.RETRY_LIMIT ≤ d.cn c Conn.RETRY_COUNT then d.connError c 0x30 (fun _ => 0x30)
    else
      let d := (d.cadd .conn c Conn.RETRY_COUNT 1).ccTimeout c
      (d.setTc c (fun (x : TpConn) => { x with probe := 1 })).touchConn c

/-- RETRANSMIT_TIMEOUT. -/
def execRetransmitTimeout (cid : Nat) (s : State) : Host.Outcome State Fault Refusal := s.run (retransmitTimeout cid)

/-- RNR_WAIT_EXPIRY, R274: sending resumes at the NAKed PSN. -/
def rnrWaitExpiry (c : Nat) (d : Dev) : Dev :=
  match (d.tc c).rnr with
  | some p => if d.connRuns c 3 then d.setTc c (fun (x : TpConn) => { x with rnr := none, next := p, probe := 0 }) else d
  | none => d

/-- RNR_WAIT_EXPIRY. -/
def execRnrWaitExpiry (cid : Nat) (s : State) : Host.Outcome State Fault Refusal := s.run (rnrWaitExpiry cid)

/-- R344, R479: connection `c` resends from UNA_PSN, as after a sequence-error NAK. -/
def Dev.connResend (d : Dev) (c : Nat) : Dev :=
  d.setTc c (fun (x : TpConn) => { x with next := d.cn c Conn.UNA_PSN, probe := 0, rnr := none })

/-! ### Connection commands (R271, R343, R380, R460) -/

/-- R269: bits of each context word that the table lists. -/
def connMask (w : Nat) : Nat :=
  if 16 ≤ w then (if w % 2 = 0 then 2 ^ 53 - 1 else 2 ^ 52 - 1)
  else match w with
    | 0 => 2 ^ 31 - 1 + (2 ^ 56 - 2 ^ 32)
    | 6 => 2 ^ 61 - 1
    | 7 => 2 ^ 16 - 1 + (2 ^ 64 - 2 ^ 32)
    | 8 | 9 => 2 ^ 24 - 1 + (2 ^ 56 - 2 ^ 32)
    | 11 => 2 ^ 48 - 1
    | 12 => 2 ^ 24 - 1 + (2 ^ 40 - 2 ^ 32)
    | 15 => 2 ^ 24 - 1
    | _ => 2 ^ 64 - 1

/-- R269: no reserved bit is set. -/
def connReservedOk (ws : List Word) : Bool :=
  (List.range 64).all (fun w => (ws.getD w 0) &&& ~~~ BitVec.ofNat 64 (connMask w) = 0)

/-- R49, R50: a value lies within a bound at the home tile of `c`. -/
def Dev.inBound (d : Dev) (id c v : Nat) : Bool :=
  let (lo, hi, _) := d.boundAt id (homeOf c)
  decide (lo ≤ v) && decide (v ≤ hi)

/-- R269, R50: words 1 to 7 are allowed. -/
def Dev.connAddrOk (d : Dev) (c : Nat) (ws : List Word) : Bool :=
  decide (wget ws Conn.EGRESS_PORT < 16) && d.inBound 0x20 c (wget ws Conn.TARGET)

/-- R269: SHP_BURST is allowed. -/
def burstOk (ws : List Word) : Bool := decide (4096 ≤ wget ws Conn.SHP_BURST) && decide (wget ws Conn.SHP_BURST ≤ 1048576)

/-- CONN_CREATE, R269, R271, R331, R460. -/
def Dev.connCreate (d : Dev) (pf c : Nat) (bs : List Byte) : Dev × Nat :=
  let ws := toWords 64 bs
  let sl := wget ws Conn.SLICE
  let t := wget ws Conn.TIMEOUT
  let bad := !d.feature 2 || decide (c < 2) || d.cn c Conn.STATE ≠ 0 || !connReservedOk ws || wget ws Conn.PMTU = 3 ||
    t = 0 || decide (20 < t) || !d.connAddrOk c ws || !burstOk ws ||
    (wget ws Conn.CC_EN = 0 && !d.inBound 0x21 c (wget ws Conn.RATE))
  if bad then (d, Sc.malformed)
  else if d.otherSide c then (d, 0x2E)
  else
    let st := d.sliceCheck pf sl Slc.USED_CONNS Slc.MAX_CONNS
    if st ≠ Sc.ok then (d, st)
    else
      let d := (d.clearRec .conn c).setRec .conn c (ws.take 8)
      let d := ((d.setCn c Conn.STATE 1).setCn c Conn.SHP_BURST (wget ws Conn.SHP_BURST)).setCn c Conn.TOKENS
        (wget ws Conn.SHP_BURST * 65536)
      let d := d.setCn c Conn.RATE (d.boundAt 0x21 (homeOf c)).2.2
      let d := { d with tp := { d.tp with conns := d.tp.conns.filter (fun (x : TpConn) => x.cid ≠ c) ++ [TpConn.init c 0] } }
      (((d.sliceInc sl Slc.USED_CONNS).tpCache c).touchConn c, Sc.ok)

/-- CONN_CREATE. -/
def connCreate (pf idx : Nat) (data : Option (List Byte)) (d : Dev) : Dev :=
  d.admIn pf idx 0x0401 data (fun a bs d =>
    let (d, st) := d.connCreate pf (a.arg % 2 ^ 22) bs
    d.admEnd pf idx st 0)

/-- CONN_CREATE. -/
def execConnCreate (pf idx : Nat) (data : Option (List Byte)) (s : State) : Host.Outcome State Fault Refusal :=
  s.run (connCreate pf idx data)

/-- R266, R346, R380: status of changing or removing connection `c` by function `pf`. -/
def Dev.connStatus (d : Dev) (pf c : Nat) : Nat :=
  let sl := d.cn c Conn.SLICE
  if !d.feature 2 || d.cn c Conn.STATE = 0 || (sl ≠ 0 && d.cg .slice sl Slc.OWNER ≠ pf) then Sc.malformed
  else if sl ≠ 0 && d.sliceState sl ≠ 1 then 0x3E
  else Sc.ok

/-- What a held output becomes when the entries of its connection are zeroed. -/
def Dev.heldPlain (d : Dev) (c : Nat) (h : Option Nat × TpOut) : List (Option Nat × TpOut) :=
  match h.2 with
  | .message k st res =>
    match (d.tc c).msgs.find? (fun m => m.slot = k) with
    | some m => [(h.1, .recv (d.cn c Conn.SQ) m.job st res 0 none), (h.1, .tally (d.cn c (Conn.TALLY k)))]
    | none => []
  | .served k => [(h.1, .tally (d.cn c (Conn.TALLY k)))]
  | _ => [h]

/-- R271: a connection returns to INIT, its device-owned fields zeroed; RATE and SHP_BURST stay. -/
def Dev.connReinit (d : Dev) (c : Nat) : Dev :=
  let r := d.cn c Conn.RATE
  let b := d.cn c Conn.SHP_BURST
  let held := (d.tc c).held.flatMap (fun h => d.heldPlain c h)
  let d := d.setRec .conn c (d.crec .conn c 8 ++ List.replicate 56 0)
  (((d.setCn c Conn.RATE r).setCn c Conn.SHP_BURST b).setCn c Conn.STATE 1).setTc c (fun (x : TpConn) =>
    { TpConn.init c 0 with held := held, rec_ := x.rec_, pend := x.pend })

/-- CONN_MODIFY, R269, R271, R280, R343. -/
def Dev.connModify (d : Dev) (pf c arg : Nat) (bs : List Byte) : Dev × Nat :=
  let ws := toWords 64 bs
  let dst := arg / 2 ^ 32 % 8
  let addr := arg / 2 ^ 35 % 2 = 1
  let rate := arg / 2 ^ 36 % 2 = 1
  let st := d.cn c Conn.STATE
  let own := d.connStatus pf c
  let thawed := own = 0x3E && d.sliceState (d.cn c Conn.SLICE) = 3 && addr && !rate && dst = 7
  let move := dst = 7 || (dst = 2 && st = 1) || (dst = 3 && st = 2) || (dst = 1 && st = 4)
  let cc := d.cn c Conn.CC_EN = 1
  if own ≠ Sc.ok && !thawed then (d, own)
  else if !move || !connReservedOk ws || (addr && !d.connAddrOk c ws) ||
      (rate && (!d.inBound 0x20 c (wget ws Conn.TARGET) || !burstOk ws || (!cc && !d.inBound 0x21 c (wget ws Conn.RATE)))) then
    (d, Sc.malformed)
  else
    let sq := d.cn c Conn.SQ
    let rq := d.cn c Conn.RQ
    let d := if addr then (List.range 7).foldl (fun (d : Dev) k => d.setOw Cls.conn.code c (k + 1) (ws.getD (k + 1) 0)) d else d
    let d := if thawed then (d.setCn c Conn.SQ sq).setCn c Conn.RQ rq else d
    let d := if rate then
        let d := d.setCn c Conn.TARGET (wget ws Conn.TARGET)
        let r := if cc then none else some (wget ws Conn.RATE)
        let b := wget ws Conn.SHP_BURST
        if d.g rootId Root.SERVICE_STATE_EFFECTIVE = 1 then
          ((d.setCn c Conn.RATE (r.getD (d.cn c Conn.RATE))).setCn c Conn.SHP_BURST b).setCn c Conn.TOKENS (b * 65536)
        else d.setTc c (fun (x : TpConn) => { x with pend := some (r, b) })
      else d
    let d := if dst = 2 then (d.setCn c Conn.EPSN (wget ws Conn.EPSN)).setCn c Conn.STATE 2
      else if dst = 3 then
        let p := wget ws Conn.SQ_PSN
        (((d.setCn c Conn.SQ_PSN p).setCn c Conn.UNA_PSN p).setCn c Conn.STATE 3).setTc c (fun (x : TpConn) => { x with next := p })
      else if dst = 1 then d.connReinit c
      else d
    (((if dst = 3 then d.ringQ (d.cn c Conn.SQ) else d).tpCache c).touchConn c, Sc.ok)

/-- CONN_MODIFY. -/
def connModify (pf idx : Nat) (data : Option (List Byte)) (d : Dev) : Dev :=
  d.admIn pf idx 0x0402 data (fun a bs d =>
    let (d, st) := d.connModify pf (a.arg % 2 ^ 22) a.arg bs
    d.admEnd pf idx st 0)

/-- CONN_MODIFY. -/
def execConnModify (pf idx : Nat) (data : Option (List Byte)) (s : State) : Host.Outcome State Fault Refusal :=
  s.run (connModify pf idx data)

/-- CONN_QUERY, R266, R271: the context as it stands, in any state. -/
def connQuery (pf idx : Nat) (reach : Bool) (d : Dev) : Dev :=
  d.admRun pf idx 0x0403 (fun a d =>
    let c := a.arg % 2 ^ 22
    let sl := d.cn c Conn.SLICE
    if !d.feature 2 || (sl ≠ 0 && d.cg .slice sl Slc.OWNER ≠ pf) then d.admEnd pf idx Sc.malformed 0
    else d.admOut a reach (ofWords (d.crec .conn c 64)) 0)

/-- CONN_QUERY. -/
def execConnQuery (pf idx : Nat) (reach : Bool) (s : State) : Host.Outcome State Fault Refusal :=
  s.run (connQuery pf idx reach)

/-- R271, R345: connection `c` goes: what it has outstanding ends with ABORTED, or without a completion where the slice has
moved away; tally entries are released. -/
def Dev.connRemove (d : Dev) (c : Nat) (report : Bool) : Dev :=
  let x := d.tc c
  let sl := d.cn c Conn.SLICE
  let sq := d.cn c Conn.SQ
  let rq := d.cn c Conn.RQ
  let go := fun (d : Dev) (h : Option Nat × TpOut) => match h.2 with
    | .frame _ => d
    | o => d.tpOut c o
  let d := if report then x.held.foldl go d else d
  let live := (d.tc c).msgs
  let waits := (((d.qst sq).map QSt.jobs).getD []).filter (fun j => j.result.isNone && !j.granted)
  let d := if report then
      let d := (live.filter (fun m => m.post.isNone)).foldl (fun (d : Dev) m => d.endJob sq m.job Sc.aborted (d.msgResult c m) 0 none) d
      let d := waits.foldl (fun (d : Dev) j => d.endJob sq j.idx Sc.aborted 0 0 none) d
      (match x.rx with
        | some r => (match r.job with
          | some i => d.endJob rq i Sc.aborted r.got 0 none
          | none => d)
        | none => d)
    else d
  let d := (d.stor.posts.filter (fun p => p.cid = c)).foldl
    (fun (d : Dev) p => d.setPost p.id (fun (p : StPost) => { p with done := some Sc.aborted })) d
  let d := { d with tp := { d.tp with
    conns := d.tp.conns.filter (fun (y : TpConn) => y.cid ≠ c)
    tally := d.tp.tally.filter (fun (y : Nat × Nat) => y.2 ≠ c)
    cache := d.tp.cache.filter (fun (y : Nat × CLine) => y.2.id ≠ c) } }
  let d := (d.syncTally c).sk (homeOf c) Tp.TP_STATUS_CACHED ((d.tp.cache.filter (fun y => y.1 = c % 16)).length)
  ((d.clearRec .conn c).sliceDec sl Slc.USED_CONNS).untouch 1 c

/-- CONN_DESTROY. -/
def connDestroy (pf idx : Nat) (d : Dev) : Dev :=
  d.admRun pf idx 0x0404 (fun a d =>
    let c := a.arg % 2 ^ 22
    let st := d.connStatus pf c
    if st = Sc.ok then (d.connRemove c true).admEnd pf idx Sc.ok 0 else d.admEnd pf idx st 0)

/-- CONN_DESTROY. -/
def execConnDestroy (pf idx : Nat) (s : State) : Host.Outcome State Fault Refusal := s.run (connDestroy pf idx)

end Sys2Proof.Machine
end

