-- ==== Sys2Proof/Machine/StorFmt.lean ====
section
/-! DEFINITION. NVMe as the storage tiles use it: submission entries, status, protection information, PDUs and TCP streams
(R286, R288, R290 to R293, R297, R300). Layouts and codes that the spec names without giving them are those of NVM Express
and its RDMA and TCP transports (PRESUMED, assumption 52). -/

namespace Sys2Proof.Machine

/-! ### Submission entries -/

/-- `n` bytes at offset `o` of a submission entry, little-endian. -/
def sqe (b : List Byte) (o n : Nat) : Nat := leNat (sliceBytes b o n)

/-- Opcode. -/
def sqeOp (b : List Byte) : Nat := sqe b 0 1
/-- First block. -/
def sqeLba (b : List Byte) : Nat := sqe b 40 8
/-- Number of blocks. -/
def sqeBlocks (b : List Byte) : Nat := sqe b 48 2 + 1
/-- Guard check asked for. -/
def sqeGuard (b : List Byte) : Bool := sqe b 51 1 / 16 % 2 = 1
/-- Application tag check asked for. -/
def sqeApp (b : List Byte) : Bool := sqe b 51 1 / 8 % 2 = 1
/-- Reference tag check asked for. -/
def sqeRef (b : List Byte) : Bool := sqe b 51 1 / 4 % 2 = 1
/-- Initial reference tag. -/
def sqeTag (b : List Byte) : Nat := sqe b 56 4 + sqe b 12 2 * 2 ^ 32
/-- Application tag. -/
def sqeAppTag (b : List Byte) : Nat := sqe b 60 2
/-- Application tag mask. -/
def sqeMask (b : List Byte) : Nat := sqe b 62 2

/-- R286: a command that the device runs unfused. -/
def sqeAlone (b : List Byte) : Bool := sqe b 1 1 % 4 = 0

/-- Opcodes of R286. -/
def opFlush : Nat := 0
/-- Write. -/
def opWrite : Nat := 1
/-- Read. -/
def opRead : Nat := 2
/-- Write Zeroes. -/
def opZeroes : Nat := 8
/-- Dataset Management. -/
def opDsm : Nat := 9

/-- The data descriptor of a command (R286): kind 0 in-capsule offset, 1 keyed, 2 transport; address, length and key. -/
def sqeSgl (b : List Byte) : Option (Nat × Nat × Nat × Nat) :=
  let t := sqe b 39 1
  if t = 0x40 || t = 0x4F then some (1, sqe b 24 8, sqe b 32 3, sqe b 35 4)
  else if t = 0x5A then some (2, 0, sqe b 32 4, 0)
  else if t = 0x01 then some (0, sqe b 24 8, sqe b 32 4, 0)
  else none

/-- A submission entry that the device sends as an initiator: entry `b` with the device's tag and a descriptor for `len` bytes
under key `key`, or a transport descriptor. -/
def sendSqe (b : List Byte) (tag len : Nat) (tcp : Bool) : List Byte :=
  let b := spliceBytes (spliceBytes b 1 [0x40]) 2 (leBytes 2 tag)
  spliceBytes b 24 (if tcp then leBytes 8 0 ++ leBytes 4 len ++ leBytes 3 0 ++ [0x5A]
    else leBytes 8 0 ++ leBytes 3 len ++ leBytes 4 (0xFFFF0000 + tag) ++ [0x40])

/-- R296: the entry of a sub-command: entry `b` for blocks of a backend, with PRACT 0 and the reference check off. -/
def subSqe (b : List Byte) (nsid lba nlb : Nat) : List Byte :=
  let b := spliceBytes b 4 (leBytes 4 nsid)
  let b := spliceBytes (spliceBytes b 40 (leBytes 8 lba)) 48 (leBytes 2 (nlb - 1))
  spliceBytes b 51 [b.getD 51 0 &&& 0xD8]

/-- R300: NVMe status of a status code; a backend's own where the code is BACKEND_ERROR. -/
def nvmeStatus (code own : Nat) (badOp : Bool) : Nat :=
  match code with
  | 0x00 => 0
  | 0x01 => if badOp then 0x001 else 0x002
  | 0x04 => 0x021
  | 0x06 => 0x022
  | 0x0F => 0x008
  | 0x35 => 0x00B
  | 0x36 => 0x080
  | 0x37 => 0x280
  | 0x38 => 0x182
  | 0x39 => 0x082
  | 0x3A => 0x282
  | 0x3B => 0x283
  | 0x3C => 0x284
  | _ => own

/-- A completion entry of the queue pair: Dword 0, SQHD, SQID, command tag and status. -/
def mkCqe (dw0 sqhd sqid tag status : Nat) : List Byte :=
  leBytes 4 dw0 ++ leBytes 4 0 ++ leBytes 2 sqhd ++ leBytes 2 sqid ++ leBytes 2 tag ++ leBytes 2 (status * 2)

/-! ### Blocks and protection information (R293, R297) -/

/-- R293: the format a namespace record gives. -/
def nsFmt (r : List Word) : NsFmt :=
  { lba4k := wget r Ns.LBA_4K = 1, md := 8 * wget r Ns.MD_SIZE, pi := wget r Ns.PI_TYPE, g64 := wget r Ns.GUARD64 = 1
    fab := wget r Ns.FABRIC_PI = 1 }

/-- Bytes of a block. -/
def NsFmt.lba (f : NsFmt) : Nat := if f.lba4k then 4096 else 512
/-- Bytes of protection information per block. -/
def NsFmt.piLen (f : NsFmt) : Nat := if f.pi = 0 then 0 else if f.g64 then 16 else 8
/-- Bytes of a block and its metadata on a backend. -/
def NsFmt.back (f : NsFmt) : Nat := f.lba + f.md
/-- Bytes of a block on the fabric: without the protection information that the device inserts and strips. -/
def NsFmt.fabric (f : NsFmt) : Nat := if f.fab then f.back else f.back - f.piLen
/-- R293: blocks of an extent. -/
def NsFmt.perExt (f : NsFmt) : Nat := if f.lba4k then 256 else 2048

/-- R297: CRC-64 of the NVMe 64b guard. -/
def crc64 (bs : List Byte) : Nat := Nat.xor (crcR 0x9A6C9329AC4BC9B5 (2 ^ 64 - 1) bs) (2 ^ 64 - 1)

/-- R297: the guard of a block's data. -/
def NsFmt.guard (f : NsFmt) (bs : List Byte) : Nat := if f.g64 then crc64 bs else crcN 16 0x8BB7 0 bs

/-- R297: bits of a reference tag. -/
def NsFmt.refBits (f : NsFmt) : Nat := if f.g64 then 48 else 32

/-- R297: reference tag of block `k` of command `b`. -/
def NsFmt.ref (f : NsFmt) (b : List Byte) (k : Nat) : Nat :=
  (if f.pi = 1 then sqeLba b + k else if f.pi = 2 then sqeTag b + k else sqeTag b) % 2 ^ f.refBits

/-- R297: the protection information of a block. -/
def NsFmt.mkPi (f : NsFmt) (bs : List Byte) (app ref : Nat) : List Byte :=
  if f.g64 then beBytes 8 (f.guard bs) ++ beBytes 2 app ++ beBytes 6 ref
  else beBytes 2 (f.guard bs) ++ beBytes 2 app ++ beBytes 4 ref

/-- R297: the first check that a block with its metadata fails, of guard, application tag and reference tag. A block whose
application tag is 0xFFFF is not checked. -/
def NsFmt.piFail (f : NsFmt) (b : List Byte) (k : Nat) (blk : List Byte) (g a r : Bool) : Option Nat :=
  let p := sliceBytes blk f.lba f.piLen
  let n := if f.g64 then 8 else 2
  let app := beNat (sliceBytes p n 2)
  let ref := beNat (p.drop (n + 2))
  if app = 0xFFFF then none
  else if g && beNat (p.take n) ≠ f.guard (blk.take f.lba) then some 0x3A
  else if a && Nat.land app (sqeMask b) ≠ Nat.land (sqeAppTag b) (sqeMask b) then some 0x3B
  else if r && f.pi ≠ 3 && ref ≠ f.ref b k then some 0x3C
  else none

/-- The blocks of a byte string, `w` bytes each. -/
def blocksOf (w n : Nat) (bs : List Byte) : List (List Byte) := (List.range n).map (fun k => sliceBytes bs (k * w) w)

/-- R297, R301: the status that the first failing block decides, and how many blocks fail. -/
def piFirst (es : List (Option Nat)) : Option (Nat × Nat) :=
  let bad := es.filterMap id
  bad.head?.map (fun c => (c, bad.length))

/-- R297: a write's data as it goes to the backends: checked, or given protection information; with the number of blocks
that got it. An error is a status and the number of failing blocks. -/
def NsFmt.toBack (f : NsFmt) (b : List Byte) (n : Nat) (bs : List Byte) : Except (Nat × Nat) (List Byte × Nat) :=
  if f.pi = 0 then .ok (bs, 0)
  else
    let blks := (blocksOf f.fabric n bs).zipIdx
    if f.fab then
      match piFirst (blks.map (fun x => f.piFail b x.2 x.1 (sqeGuard b) (sqeApp b) (sqeRef b))) with
      | some e => .error e
      | none => .ok (bs, 0)
    else .ok (blks.flatMap (fun x =>
      x.1.take f.lba ++ f.mkPi (x.1.take f.lba) (sqeAppTag b) (f.ref b x.2) ++ x.1.drop f.lba), n)

/-- R297: a read's blocks as they go to the fabric: checked, and stripped where the device does that. The device checks all
three where it strips it. -/
def NsFmt.toFabric (f : NsFmt) (b : List Byte) (n : Nat) (bs : List Byte) : Except (Nat × Nat) (List Byte) :=
  if f.pi = 0 then .ok bs
  else
    let blks := (blocksOf f.back n bs).zipIdx
    let g := !f.fab || sqeGuard b
    let a := !f.fab || sqeApp b
    let r := !f.fab || sqeRef b
    match piFirst (blks.map (fun x => f.piFail b x.2 x.1 g a r)) with
    | some e => .error e
    | none => .ok (if f.fab then bs else blks.flatMap (fun x => x.1.take f.lba ++ x.1.drop (f.lba + f.piLen)))

/-- R296: the blocks of an UNMAPPED extent read as zeros, with protection information of all 0xFF bytes. -/
def NsFmt.unmapped (f : NsFmt) (n : Nat) : List Byte :=
  (List.range n).flatMap (fun _ => List.replicate f.lba 0 ++ List.replicate f.piLen 0xFF ++ List.replicate (f.md - f.piLen) 0)

/-! ### Streams of TCP sessions (R288, R290). The spec names the fields of STREAM and not their places (assumption 54). -/

namespace Strm
/-- Oldest byte not acknowledged. -/
def SND_UNA : CFld := ⟨12, 0, 32⟩
/-- Next byte to send. -/
def SND_NXT : CFld := ⟨12, 32, 32⟩
/-- Next byte expected. -/
def RCV_NXT : CFld := ⟨13, 0, 32⟩
/-- Send window in bytes. -/
def WND : CFld := ⟨13, 32, 32⟩
/-- Window scale of the peer. -/
def SCALE : CFld := ⟨14, 0, 4⟩
/-- Timestamps were negotiated. -/
def TS_ON : CFld := ⟨14, 4, 1⟩
/-- Timestamp to echo. -/
def TS_RECENT : CFld := ⟨14, 32, 32⟩
/-- Smoothed round-trip time, ns. -/
def SRTT : CFld := ⟨15, 0, 32⟩
/-- Its variation, ns. -/
def RTTVAR : CFld := ⟨15, 32, 32⟩
/-- Rate, Mb/s. -/
def RATE : CFld := ⟨16, 0, 32⟩
/-- Time of the last decrease. -/
def LAST_DEC : CFld := ⟨16, 32, 32⟩
/-- Shaper tokens. -/
def TOKENS : CFld := ⟨17, 0, 48⟩
end Strm

/-- Field of session `s`. -/
def Dev.sn (d : Dev) (s : Nat) (f : CFld) : Nat := d.cg .session s f

/-- Set a field of session `s`. -/
def Dev.setSn (d : Dev) (s : Nat) (f : CFld) (v : Nat) : Dev := d.cs .session s f v

/-- What the tile keeps of the stream of session `s`. -/
def Dev.tcp (d : Dev) (s : Nat) : StTcp :=
  (d.stor.tcp.find? (fun x => x.sess = s)).getD (StTcp.init s [])

/-- Change what the tile keeps of a stream. -/
def Dev.setTcp (d : Dev) (s : Nat) (f : StTcp → StTcp) : Dev :=
  { d with stor := { d.stor with tcp := d.stor.tcp.map (fun (x : StTcp) => if x.sess = s then f x else x) } }

/-- The addressing words of session `s`, as words 1 to 7 of R269. -/
def Dev.sessAddr (d : Dev) (s : Nat) : List Word := (d.crec .session s 12).drop 4

/-- Field of the addressing words of session `s`, by its place in R269. -/
def Dev.sa1 (d : Dev) (s : Nat) (f : CFld) : Nat := getBits ((d.sessAddr s).getD (f.word - 1) 0) f.lo f.w

/-- Local TCP port. -/
def Dev.sport (d : Dev) (s : Nat) : Nat := getBits ((d.sessAddr s).getD 6 0) 0 16
/-- Remote TCP port. -/
def Dev.dport (d : Dev) (s : Nat) : Nat := getBits ((d.sessAddr s).getD 6 0) 16 16

/-- The session's addresses are IPv6: the local one is not IPv4-mapped (R269). -/
def Dev.sessV6 (d : Dev) (s : Nat) : Bool :=
  let a := ofWords [(d.sessAddr s).getD 1 0, (d.sessAddr s).getD 2 0]
  a.take 12 ≠ List.replicate 10 0 ++ [0xFF, 0xFF]

/-- Largest payload of a segment: what the stream's set-up announced, less the timestamps option, and at least one byte
(assumption 58). -/
def Dev.mss (d : Dev) (s : Nat) : Nat := max 1 (Config.tcpMss - (if d.sn s Strm.TS_ON = 1 then 12 else 0))

/-- Nanoseconds of one tick of the timestamps option (R290, assumption 58). -/
def tcpTick : Nat := max 1 Config.tcpTick

/-- R290: a segment of session `s` from sequence `seq` with a payload. The window it offers is a free value. -/
def Dev.tcpSegment (d : Dev) (s seq : Nat) (bs : List Byte) : Dev :=
  let ts := d.sn s Strm.TS_ON = 1
  let wnd := d.freeVal.toNat
  let d := d.used
  let opts := if ts then [1, 1, 8, 10] ++ beBytes 4 (d.time / tcpTick) ++ beBytes 4 (d.sn s Strm.TS_RECENT) else []
  let h := beBytes 2 (d.sport s) ++ beBytes 2 (d.dport s) ++ beBytes 4 seq ++ beBytes 4 (d.sn s Strm.RCV_NXT) ++
    beBytes 1 ((5 + opts.length / 4) * 16) ++ beBytes 1 (if bs.isEmpty then 0x10 else 0x18) ++ beBytes 2 wnd ++ [0, 0, 0, 0] ++
    opts
  let (d, eth, ip) := d.ipHead (d.sessAddr s) (d.sessV6 s) 6 (h.length + bs.length)
  let p := framePkt (d.sa1 s Conn.CLASS) eth ip (h ++ bs)
  let p := { p with data := fixTcp p.data eth.length (eth.length + ip.length) }
  let d := d.setSn s Strm.TOKENS (low48 (signed 48 (d.sn s Strm.TOKENS) - Int.ofNat ((p.data.length + 24) * 65536)))
  d.toSwitch p 22 (.port (d.sa1 s Conn.EGRESS_PORT) 0x3FFFF)

/-- The session may send: ACTIVE, its slice neither FREEZING nor FROZEN, and the twin not fenced (R340, R475). -/
def Dev.sessRuns (d : Dev) (s : Nat) : Bool :=
  d.sn s Sess.STATE = 1 && !d.sliceFrozen (d.sn s Sess.SLICE) && d.twinState ≠ 5

/-- The session may send what its stream holds: ACTIVE, or in ERROR with a termination request queued (R292), its slice neither
FREEZING nor FROZEN, and the twin not fenced. -/
def Dev.streamRuns (d : Dev) (s : Nat) : Bool :=
  (d.sn s Sess.STATE = 1 || d.sn s Sess.STATE = 2) && !d.sliceFrozen (d.sn s Sess.SLICE) && d.twinState ≠ 5

/-- R198, R229, R290: a packet of the stream may start: its shaper is eligible and the switch core does not stall its input. -/
def Dev.streamOpen (d : Dev) (s : Nat) : Bool :=
  d.streamRuns s && decide (0 ≤ signed 48 (d.sn s Strm.TOKENS)) &&
    !d.stalled (Pkt.blank.ms Meta.CLASS (d.sa1 s Conn.CLASS)) 22 (.port (d.sa1 s Conn.EGRESS_PORT) 0x3FFFF)

/-- R290: the next packet of the stream: a part to be sent again, an ACK owed, a byte that probes a closed window, or what is
queued as far as the peer's window lets it. -/
def Dev.tcpNext (d : Dev) (s : Nat) : Option Dev :=
  let una := d.sn s Strm.SND_UNA
  let nxt := d.sn s Strm.SND_NXT
  let out := (nxt + 2 ^ 32 - una) % 2 ^ 32
  let x := d.tcp s
  let sent := fun (d : Dev) (len : Nat) => (d.setSn s Strm.SND_NXT (nxt + len)).setTcp s (fun (x : StTcp) =>
    { x with
        timed := if x.timed.isNone && d.sn s Strm.TS_ON = 0 then some ((nxt + len) % 2 ^ 32, d.time) else x.timed
        probe := false })
  match x.again with
  | some (a, b) =>
    let a := if seqBefore a una then una else a
    if !seqBefore a b then some (d.setTcp s (fun (x : StTcp) => { x with again := none }))
    else
      let len := min (d.mss s) ((b + 2 ^ 32 - a) % 2 ^ 32)
      let d := (d.tcpSegment s a (sliceBytes x.buf ((a + 2 ^ 32 - una) % 2 ^ 32) len)).bumpk (stHome s) St.TCP_RETX
      some (d.setTcp s (fun (x : StTcp) => { x with again := some ((a + len) % 2 ^ 32, b) }))
  | none =>
    if x.owed ≠ 0 then some ((d.tcpSegment s nxt []).setTcp s (fun (x : StTcp) => { x with owed := x.owed - 1 }))
    else if x.probe && out = 0 && d.sn s Strm.WND = 0 && !x.buf.isEmpty then
      some (sent (d.tcpSegment s nxt (x.buf.take 1)) 1)
    else
      let len := min (d.mss s) (min (x.buf.length - out) (d.sn s Strm.WND - out))
      if len = 0 then none else some (sent (d.tcpSegment s nxt (sliceBytes x.buf out len)) len)

/-- R290: at most `n` packets of the stream leave, while they may. -/
def Dev.tcpSend (d : Dev) (s : Nat) : Nat → Dev
  | 0 => d
  | n + 1 =>
    if !d.streamOpen s then d
    else match d.tcpNext s with
      | some e => e.tcpSend s n
      | none => d

/-- R290: what is queued leaves as far as it can; the context goes into the mirror stream. -/
def Dev.tcpPush (d : Dev) (s : Nat) : Dev := (d.tcpSend s (2 * (d.tcp s).buf.length + (d.tcp s).owed + 3)).touch 9 s

/-- R290: bytes are queued on the stream of session `s`. -/
def Dev.tcpQueue (d : Dev) (s : Nat) (bs : List Byte) : Dev :=
  (d.setTcp s (fun (x : StTcp) => { x with buf := x.buf ++ bs })).tcpPush s

/-- R290: an ACK is owed. -/
def Dev.tcpOwe (d : Dev) (s : Nat) : Dev := (d.setTcp s (fun (x : StTcp) => { x with owed := x.owed + 1 })).tcpPush s

/-- R290, R344: the oldest segment, or `all` of what is not acknowledged, is sent again. -/
def Dev.tcpResend (d : Dev) (s : Nat) (all : Bool) : Dev :=
  let una := d.sn s Strm.SND_UNA
  let out := (d.sn s Strm.SND_NXT + 2 ^ 32 - una) % 2 ^ 32
  if out = 0 then d
  else (d.setTcp s (fun (x : StTcp) =>
    { x with timed := none, again := some (una, (una + (if all then out else min out (d.mss s))) % 2 ^ 32) })).tcpPush s

/-- Packets for software leave in order while the switch core does not stall them (R198). -/
def flushCopies : List (SwDest × Pkt) → Dev → Dev
  | [], d => { d with stor := { d.stor with copies := [] } }
  | (t, p) :: rest, d =>
    if d.stalled p 22 t then { d with stor := { d.stor with copies := (t, p) :: rest } }
    else flushCopies rest (d.toSwitch p 22 t)

/-- R286, R290, R292: packet `p` is handed to software behind those that wait. -/
def Dev.handOn (d : Dev) (t : SwDest) (p : Pkt) : Dev := flushCopies (d.stor.copies ++ [(t, p)]) d

/-- R279, R290: a rate of the stream, clamped to CC_RATE. -/
def Dev.stRate (d : Dev) (s r : Nat) (dec : Bool) : Dev :=
  let (lo, hi, _) := d.boundAt 0x21 (stHome s)
  let d := d.setSn s Strm.RATE (max lo (min hi r))
  if dec then d.setSn s Strm.LAST_DEC d.now32 else d

/-- R279: no decrease within the last SRTT. -/
def Dev.stFree (d : Dev) (s : Nat) : Bool :=
  d.sn s Strm.LAST_DEC = 0 || decide (d.sn s Strm.SRTT ≤ (d.now32 + 2 ^ 32 - d.sn s Strm.LAST_DEC) % 2 ^ 32)

/-- R279, R290: a round-trip sample of `x` ns, for SRTT, RTTVAR and the rate. -/
def Dev.stSample (d : Dev) (s x : Nat) : Dev :=
  let old := d.sn s Strm.SRTT
  let dev := if x < old then old - x else x - old
  let d := d.setSn s Strm.RTTVAR (if old = 0 then x / 2 else (3 * d.sn s Strm.RTTVAR + dev) / 4)
  let d := d.setSn s Strm.SRTT (srttNext old x)
  let (r, k) := ccDelay (d.sn s Strm.RATE) (getBits ((d.sessAddr s).getD 6 0) 32 32) (d.boundAt 0x22 (stHome s)).2.2 x
    (d.stFree s)
  if k = 0 then d else d.stRate s r (k = 2)

/-! ### PDUs (R292) -/

/-- R292: a PDU of session `s`: type, flags, the bytes after the common header, and data; digests as the session asks. -/
def Dev.pdu (d : Dev) (s type flags : Nat) (psh data : List Byte) : List Byte :=
  let hd := d.sn s Sess.HDGST = 1
  let dd := d.sn s Sess.DDGST = 1 && !data.isEmpty
  let hlen := 8 + psh.length
  let pdo := if data.isEmpty then 0 else hlen + (if hd then 4 else 0)
  let plen := hlen + (if hd then 4 else 0) + data.length + (if dd then 4 else 0)
  let h := leBytes 1 type ++ leBytes 1 (flags + (if hd then 1 else 0) + (if dd then 2 else 0)) ++ leBytes 1 hlen ++
    leBytes 1 pdo ++ leBytes 4 plen ++ psh
  h ++ (if hd then leBytes 4 (crc32c h) else []) ++ data ++ (if dd then leBytes 4 (crc32c data) else [])

/-- A PDU as received: its bytes, type, flags, the bytes after the common header, data, and whether each digest holds. -/
structure Pdu where
  raw : List Byte
  type : Nat
  flags : Nat
  psh : List Byte
  data : List Byte
  hOk : Bool
  dOk : Bool
  deriving DecidableEq, Repr

/-- R292: the first whole PDU of a byte string, and its length. -/
def Dev.takePdu (d : Dev) (s : Nat) (b : List Byte) : Option (Pdu × Nat) :=
  let hd := d.sn s Sess.HDGST = 1
  let dd := d.sn s Sess.DDGST = 1
  let hlen := sqe b 2 1
  let pdo := sqe b 3 1
  let plen := sqe b 4 4
  if b.length < 8 || b.length < plen || plen < 8 then none
  else
    let pdu := b.take plen
    let start := if pdo = 0 then hlen + (if hd then 4 else 0) else pdo
    let body := pdu.drop start
    let hasD := dd && !body.isEmpty
    let data := if hasD then body.take (body.length - 4) else body
    some ({ raw := pdu, type := sqe b 0 1, flags := sqe b 1 1, psh := (pdu.take hlen).drop 8, data := data
            hOk := !hd || sqe pdu hlen 4 = crc32c (pdu.take hlen)
            dOk := !hasD || sqe body data.length 4 = crc32c data }, plen)

end Sys2Proof.Machine
end

