-- ==== Sys2Proof/Machine/Storage.lean ====
section
/-! DEFINITION. The storage tiles: commands of targets and initiators through their steps, TCP reception, and the admin
commands of sessions, namespaces, backends and extents (R286 to R300). -/

namespace Sys2Proof.Machine

namespace Bk
/-- R295: kind of a backend. -/
def KIND : CFld := ⟨0, 0, 2⟩
/-- R295: 4,096-byte blocks. -/
def LBA_4K : CFld := ⟨0, 2, 1⟩
/-- R295: metadata size. -/
def MD_SIZE : CFld := ⟨0, 3, 2⟩
/-- R295: session or queue. -/
def TARGET : CFld := ⟨1, 0, 18⟩
/-- R295: namespace on the remote target. -/
def REMOTE_NSID : CFld := ⟨2, 0, 32⟩
end Bk

/-! ### Commands in flight -/

/-- Storage command `i`. -/
def Dev.stCmd (d : Dev) (i : Nat) : Option StCmd := d.stor.cmds.find? (fun k => k.id = i)

/-- R298: tally entries held by the storage tiles. -/
def Dev.stHeld (d : Dev) : Nat := (d.stor.cmds.map StCmd.tally).foldl (· + ·) 0

/-- ST_STATUS.TALLY_HELD of the home tile of session `s`. -/
def Dev.syncSt (d : Dev) (s : Nat) : Dev :=
  d.sk (stHome s) St.ST_STATUS_TALLY_HELD
    (((d.stor.cmds.filter (fun k => k.sess % 8 = s % 8)).map StCmd.tally).foldl (· + ·) 0)

/-- R288: session `s` is used through its tile's cache of 128 sets of 16 ways. -/
def Dev.stCache (d : Dev) (s : Nat) : Dev :=
  let (cache, rr) := tileCache d.stor.cache d.stor.rr (s % 8) (s / 8 % 128) s
  ({ d with stor := { d.stor with cache := cache, rr := rr } }).sk (stHome s) St.ST_STATUS_CACHED
    ((cache.filter (fun (x : Nat × CLine) => x.1 = s % 8)).length)

/-- R284, R289: a message is posted on connection `c` for command `k`; one on a connection that is not in RTS has failed. -/
def Dev.addPost (d : Dev) (c k op va rkey len : Nat) (data : List Byte) : Dev :=
  let p : StPost :=
    { id := d.stor.postNext, cid := c, cmd := k, op := op, va := va, rkey := rkey, data := data, len := len, started := false
      got := [], done := if d.cn c Conn.STATE = 3 then none else some 0x34 }
  { d with stor := { d.stor with posts := d.stor.posts ++ [p], postNext := d.stor.postNext + 1 } }

/-- R289, R292: a capsule leaves session `s`, as a SEND or as a PDU of type `type` with `psh` after its common header. -/
def Dev.sendCapsule (d : Dev) (s k type : Nat) (bytes : List Byte) : Dev :=
  if d.sn s Sess.BINDING = 0 then d.addPost (d.sn s Sess.CID) k 1 0 0 bytes.length bytes
  else d.tcpQueue s (d.pdu s type 0 bytes [])

/-- Opcodes that a target runs (R286). -/
def targetOps : List Nat := [0, 1, 2, 8, 9]

/-- Opcodes that an initiator runs (R286). -/
def initOps : List Nat := [0, 1, 2, 8]

/-- The command answers whom it serves (R296): the host's job, the command it is part of, or the remote host. A read that
ended well over TCP has answered with its last C2HData PDU (R292). -/
def Dev.stAnswer (d : Dev) (k : StCmd) (code own dw0 : Nat) : Dev :=
  let nv := nvmeStatus code own (!targetOps.contains (sqeOp k.sqe))
  match k.job, k.parent with
  | some j, _ => d.finishJob (d.sn k.sess Sess.HOST_Q) j code dw0 (if code = Sc.aborted then 0 else nv)
  | none, some (p, i) =>
    { d with stor := { d.stor with answers := d.stor.answers ++ [(p, i, code, nv, k.data)] } }
  | none, none =>
    if code = Sc.ok && sqeOp k.sqe = opRead && d.sn k.sess Sess.BINDING = 1 then d
    else d.sendCapsule k.sess k.id 5 (mkCqe dw0 (d.sn k.sess Sess.SQHD) (d.sn k.sess Sess.SQID) k.tag nv)

/-- R296 step 8: command `k` ends with a status code, a backend's NVMe status and Dword 0: it answers, and its tally entries
are free. A command whose session has gone only ends. -/
def Dev.stEnd (d : Dev) (k : StCmd) (code own dw0 : Nat) : Dev :=
  let s := k.sess
  let d := { d with stor := { d.stor with cmds := d.stor.cmds.filter (fun (x : StCmd) => x.id ≠ k.id) } }
  let d := (d.syncSt s).bumpk (stHome s) St.CMDS
  let d := if code = Sc.ok then d else d.bumpk (stHome s) St.CMD_ERR
  if k.gone then d
  else
    let d := d.setSn s Sess.OUTSTANDING (d.sn s Sess.OUTSTANDING - 1)
    (d.stAnswer k code own dw0).touch 9 s

/-! ### An initiator's commands (R296) -/

/-- R296, R298: an initiator session sends a command: `b` its entry, `data` what it writes or room for what it reads. -/
def Dev.initSend (d : Dev) (s tally : Nat) (b : List Byte) (fmt : NsFmt) (data : List Byte) (job : Option Nat)
    (parent : Option (Nat × Nat)) : Dev :=
  let i := d.stor.next
  let tcp := d.sn s Sess.BINDING = 1
  let tag := i % 65536
  let k : StCmd :=
    { id := i, sess := s, sqe := b, tag := tag, step := 8, ns := none, fmt := fmt, exts := [], data := data, got := 0
      due := data.length, subs := [], tally := tally, job := job, parent := parent, gone := false }
  let d := { d with stor := { d.stor with cmds := d.stor.cmds ++ [k], next := i + 1 } }
  let d := (d.setSn s Sess.OUTSTANDING (d.sn s Sess.OUTSTANDING + 1)).syncSt s
  ((d.stCache s).sendCapsule s i 4 (sendSqe b tag data.length tcp)).touch 9 s

/-- R364: the format that a STOR_INIT descriptor's word 2 names, if it is one. -/
def initFmt (w : Word) : Option NsFmt :=
  let f : NsFmt := { lba4k := getBits w 0 1 = 1, md := 8 * getBits w 1 2, pi := getBits w 3 2, g64 := getBits w 5 1 = 1
                     fab := getBits w 6 1 = 1 }
  if getBits w 7 57 ≠ 0 || getBits w 1 2 = 3 || (f.pi ≠ 0 && f.md = 0) || (f.g64 && f.md ≠ 16) then none else some f

/-- STOR_INIT_COMMAND, R286, R296, R364: initiator session `s` takes the command with entry `b` from the host's job `j`;
`data` is what the host would write. -/
def Dev.initCommand (d : Dev) (s : Nat) (j : Job) (b data : List Byte) : Dev :=
  let q := d.sn s Sess.HOST_Q
  let e := j.ents.getD 0 []
  let op := sqeOp b
  let fin := fun (code : Nat) =>
    ((d.bumpk (stHome s) St.CMDS).bumpk (stHome s) St.CMD_ERR).finishJob q j.idx code 0 (nvmeStatus code 0 (!initOps.contains op))
  match initFmt (e.getD 2 0) with
  | none => fin Sc.malformed
  | some f =>
    let n := sqeBlocks b
    let due := if op = opRead || op = opWrite then n * f.fabric else 0
    if wget e Went.LEN ≠ 64 || wget e Went.ADDR % 64 ≠ 0 || !initOps.contains op || !sqeAlone b || 2 ^ 21 < n * f.lba * (if due = 0 then 0 else 1)
      then fin Sc.malformed
    else if 262144 ≤ d.stHeld then fin Sc.noResource
    else if op = opWrite then
      match (if f.fab then f.toBack b n (sliceBytes data 0 due) else .ok (sliceBytes data 0 due, 0)) with
      | .error (code, m) => (fin code).addk (stHome s) St.PI_ERR m
      | .ok (bs, _) => d.initSend s 1 b f bs (some j.idx) none
    else d.initSend s 1 b f (List.replicate due 0) (some j.idx) none

/-- R296 step 7 for an initiator: the response to command `k` has come, with an NVMe status and Dword 0. A command that lost
data to a digest ends with INTEGRITY (R292). -/
def Dev.initDone (d : Dev) (k : StCmd) (nv dw0 : Nat) : Dev :=
  let s := k.sess
  let n := sqeBlocks k.sqe
  if k.step = 9 then d.stEnd k Sc.integrity 0 dw0
  else if nv ≠ 0 then d.stEnd k 0x3D nv dw0
  else if sqeOp k.sqe = opRead then
    match (if k.fmt.fab then k.fmt.toFabric k.sqe n k.data else .ok k.data) with
    | .error (code, m) => (d.addk (stHome s) St.PI_ERR m).stEnd k code 0 dw0
    | .ok bs =>
      let q := d.sn s Sess.HOST_Q
      let d := if k.job.isSome then d.hostData (d.qf q Qctx.OWNER) (d.pasidOf (d.sn s Sess.SLICE)) (sqe k.sqe 24 8) bs else d
      (d.addk (stHome s) St.BYTES_READ (n * k.fmt.lba)).stEnd k Sc.ok 0 dw0
  else if sqeOp k.sqe = opWrite then (d.addk (stHome s) St.BYTES_WRITTEN (n * k.fmt.lba)).stEnd k Sc.ok 0 dw0
  else d.stEnd k Sc.ok 0 dw0

/-! ### A target's commands (R296) -/

/-- R296: the sub-commands of a command over the extents of its snapshot; none for an UNMAPPED one. -/
def stSubs (f : NsFmt) (base lba n : Nat) (exts : List (Nat × List Word)) : List StSub :=
  (exts.filter (fun x => wget x.2 Ext.MAP_STATE ≠ 0)).map (fun x =>
    let lo := max lba ((x.1 - base) * f.perExt)
    let hi := min (lba + n) ((x.1 - base + 1) * f.perExt)
    { ext := x.1, backend := wget x.2 Ext.BACKEND, lba := wget x.2 Ext.BOFF * f.perExt + lo % f.perExt, nlb := hi - lo
      off := lo - lba, sent := false, status := none, data := [] })

/-- R296 step 7: a read's blocks in backend form, UNMAPPED extents as zeros. -/
def StCmd.blocks (k : StCmd) (base : Nat) : List Byte :=
  let lba := sqeLba k.sqe
  let n := sqeBlocks k.sqe
  k.exts.flatMap (fun x =>
    let lo := max lba ((x.1 - base) * k.fmt.perExt)
    let hi := min (lba + n) ((x.1 - base + 1) * k.fmt.perExt)
    match k.subs.find? (fun y => y.ext = x.1) with
    | some y => sliceBytes y.data 0 ((hi - lo) * k.fmt.back)
    | none => k.fmt.unmapped (hi - lo))

/-- R292, R296 step 7: a read's data leaves by RDMA WRITE or in a C2HData PDU with the SUCCESS flag. -/
def Dev.stReturn (d : Dev) (k : StCmd) (bs : List Byte) : Dev :=
  let s := k.sess
  match sqeSgl k.sqe with
  | some (1, a, _, key) => d.addPost (d.sn s Sess.CID) k.id 3 a key bs.length bs
  | _ => d.tcpQueue s (d.pdu s 7 12 (leBytes 2 k.tag ++ leBytes 2 0 ++ leBytes 4 0 ++ leBytes 4 bs.length ++ leBytes 4 0) bs)

/-- R296 steps 7 and 8, R299: every sub-command of `k` has been answered. The lowest failing extent decides; a command whose session
has gone ends with ABORTED. -/
def Dev.stFinish (d : Dev) (k : StCmd) : Dev :=
  let t := stHome k.sess
  let bad := k.subs.filter (fun y => (y.status.map (·.1)).getD 0 ≠ 0)
  let low := bad.foldl (fun (b : Option StSub) y => match b with
    | none => some y
    | some x => if y.ext < x.ext then some y else some x) none
  let n := sqeBlocks k.sqe
  if k.gone then d.stEnd k Sc.aborted 0 0
  else match low.bind StSub.status with
  | some (_, own) => d.stEnd k 0x3D own 0
  | none =>
    if sqeOp k.sqe ≠ opRead then d.stEnd k Sc.ok 0 0
    else
      match k.fmt.toFabric k.sqe n (k.blocks (d.cg .ns (k.ns.getD 0) Ns.EXT_BASE)) with
      | .error (code, m) => (d.addk t St.PI_ERR m).stEnd k code 0 0
      | .ok bs => ((d.addk t St.BYTES_READ (n * k.fmt.lba)).stReturn k bs).stEnd k Sc.ok 0 0

/-- A sub-command is marked sent, with its tally entry. -/
def Dev.subSent (d : Dev) (k : StCmd) (i : Nat) : Dev :=
  let d := d.setCmd k.id (fun (x : StCmd) =>
    { x with tally := x.tally + 1, subs := updAt x.subs i (fun (y : StSub) => { y with sent := true }) })
  (d.bumpk (stHome k.sess) St.SUBCMDS).syncSt k.sess

/-- R296 step 6, R299: sub-command `i` of `k` is sent to its backend once a tally entry and a place are free. A backend that
cannot be reached answers with an NVMe status of its own, a free value. -/
def Dev.stIssue (d : Dev) (k : StCmd) (i : Nat) : Dev :=
  match k.subs[i]? with
  | none => d
  | some y =>
    let b := fun f => d.cg .backend y.backend f
    let t := b Bk.TARGET
    let fail := fun (d : Dev) =>
      { ((d.subSent k i).used) with stor := { (d.subSent k i).stor with
        answers := d.stor.answers ++ [(k.id, i, 0x3D, max 1 (d.freeVal.toNat % 2 ^ 15), [])] } }
    if y.sent || k.gone || 262144 ≤ d.stHeld then d
    else if b Bk.KIND = 1 then
      if d.sn t Sess.STATE ≠ 1 || d.sn t Sess.ROLE ≠ 1 then fail d
      else if d.sn t Sess.QSIZE ≤ d.sn t Sess.OUTSTANDING + 1 || !d.sessRuns t then d
      else
        let f : NsFmt := { k.fmt with pi := 0, fab := true }
        let bytes := y.nlb * k.fmt.back
        let data := if sqeOp k.sqe = opWrite then sliceBytes k.data (y.off * k.fmt.back) bytes
          else if sqeOp k.sqe = opRead then List.replicate bytes 0 else []
        (d.subSent k i).initSend t 0 (subSqe k.sqe (b Bk.REMOTE_NSID) y.lba y.nlb) f data none (some (k.id, i))
    else if b Bk.KIND = 2 then
      let d := d.subSent k i
      { d with stor := { d.stor with backQ := d.stor.backQ ++ [(t, k.id, i)] } }
    else fail d

/-- R296 step 6: command `k` goes to its backends. -/
def Dev.stToBack (d : Dev) (k : StCmd) (subs : List StSub) : Dev :=
  let k := { k with subs := subs, step := 6 }
  let d := d.setCmd k.id (fun _ => k)
  if subs.isEmpty then d.stFinish k
  else (List.range subs.length).foldl (fun (d : Dev) i => match d.stCmd k.id with
    | some x => d.stIssue x i
    | none => d) d

/-- R293, R294: extents that `n` blocks from `lba` cover, as they stand. -/
def Dev.extsOf (d : Dev) (f : NsFmt) (base lba n : Nat) : List (Nat × List Word) :=
  let lo := lba / f.perExt
  let hi := (lba + max n 1 - 1) / f.perExt
  (List.range (hi + 1 - lo)).map (fun i => (base + lo + i, d.crec .extent (base + lo + i) 2))

/-- R296 step 6: the extents that a Deallocate covers whole, and whether every range lies in the namespace. -/
def dsmExts (f : NsFmt) (base blocks : Nat) (data : List Byte) (n : Nat) : List Nat × Bool :=
  let rs := (List.range n).map (fun i => (sqe data (16 * i + 8) 8, sqe data (16 * i + 4) 4))
  (rs.flatMap (fun (a, l) =>
      let lo := (a + f.perExt - 1) / f.perExt
      let hi := (a + l) / f.perExt
      (List.range (hi - lo)).map (fun i => base + lo + i)),
    rs.all (fun (a, l) => decide (a + l ≤ blocks)))

/-- R296: a command waits at step 4 for a FENCED extent, and counts once. -/
def Dev.stWaitFence (d : Dev) (k : StCmd) : Dev :=
  let d := if k.step = 4 then d else d.bumpk (stHome k.sess) St.FENCE_WAITS
  d.setCmd k.id (fun (x : StCmd) => { x with step := 4 })

/-- R296: Deallocate once its ranges have come. -/
def Dev.stDsm (d : Dev) (k : StCmd) : Dev :=
  let ns := k.ns.getD 0
  let base := d.cg .ns ns Ns.EXT_BASE
  let (es, ok) := dsmExts k.fmt base (d.cg .ns ns Ns.EXT_COUNT * k.fmt.perExt) k.data (sqe k.sqe 40 1 + 1)
  let st := fun i => d.cg .extent i Ext.MAP_STATE
  if !ok then d.stEnd k 0x36 0 0
  else if es.any (fun i => d.badRec .extent i) then d.stEnd k Sc.integrity 0 0
  else if es.any (fun i => st i = 3) then d.stWaitFence k
  else if es.any (fun i => st i = 2) then d.stEnd k 0x38 0 0
  else (es.foldl (fun (d : Dev) i => d.cs .extent i Ext.MAP_STATE 0) d).stEnd k Sc.ok 0 0

/-- R292, R296 step 5: the data of a write or of a Deallocate is fetched, unless it came in the capsule. -/
def Dev.stFetch (d : Dev) (k : StCmd) : Dev :=
  let s := k.sess
  let d := d.setCmd k.id (fun _ => { k with step := 5 })
  match sqeSgl k.sqe with
  | some (1, a, _, key) => d.addPost (d.sn s Sess.CID) k.id 5 a key k.due []
  | some (2, _, _, _) =>
    let m := max 1 (d.sn s Sess.MAXH2CDATA)
    (List.range ((k.due + m - 1) / m)).foldl (fun (d : Dev) i =>
      d.tcpQueue s (d.pdu s 9 0 (leBytes 2 k.tag ++ leBytes 2 k.tag ++ leBytes 4 (i * m) ++ leBytes 4 (min m (k.due - i * m)) ++
        leBytes 4 0) [])) d
  | _ => d

/-- R296 step 4, and the steps after it, of command `k`. -/
def Dev.stStep4 (d : Dev) (k : StCmd) : Dev :=
  let op := sqeOp k.sqe
  let ns := k.ns.getD 0
  let base := d.cg .ns ns Ns.EXT_BASE
  let wr := op = opWrite || op = opZeroes
  if op = opDsm then (if k.step = 4 then d.stDsm k else d.stFetch k)
  else if op = opFlush then
    let hi := base + d.cg .ns ns Ns.EXT_COUNT
    let es := (d.recs .extent).filter (fun i => decide (base ≤ i) && decide (i < hi) && d.cg .extent i Ext.MAP_STATE ≠ 0)
    let bs := es.foldl (fun (l : List (Nat × Nat)) i =>
      if l.any (fun x => x.2 = d.cg .extent i Ext.BACKEND) then l else l ++ [(i, d.cg .extent i Ext.BACKEND)]) []
    if es.any (fun i => d.badRec .extent i) then d.stEnd k Sc.integrity 0 0
    else d.stToBack k (bs.map (fun (x : Nat × Nat) =>
      { ext := x.1, backend := x.2, lba := 0, nlb := 0, off := 0, sent := false, status := none, data := [] }))
  else
    let es := d.extsOf k.fmt base (sqeLba k.sqe) (sqeBlocks k.sqe)
    let st := fun (x : Nat × List Word) => wget x.2 Ext.MAP_STATE
    if es.any (fun x => d.badRec .extent x.1) then d.stEnd k Sc.integrity 0 0
    else if es.any (fun x => st x = 3) then d.stWaitFence k
    else
      match (if wr then es.find? (fun x => st x = 0 || st x = 2) else none) with
      | some x => d.stEnd k (if st x = 0 then 0x37 else 0x38) 0 0
      | none =>
        let k := { k with exts := es }
        if op = opWrite then d.stFetch k else d.stToBack k (stSubs k.fmt base (sqeLba k.sqe) (sqeBlocks k.sqe) es)

/-- Retry what waited: sub-commands for tally entries, commands for fences; and end the admin commands that wait for commands
in flight (R298, R299). -/
def Dev.stPump (d : Dev) : Dev :=
  let d := (d.stor.cmds.map StCmd.id).foldl (fun (d : Dev) i => match d.stCmd i with
    | some k =>
      if k.step = 4 then d.stStep4 k
      else if k.step = 6 then (List.range k.subs.length).foldl (fun (d : Dev) n => match d.stCmd i with
        | some k => d.stIssue k n
        | none => d) d
      else d
    | none => d) d
  let busy := fun (d : Dev) (ids : List Nat) => d.stor.cmds.any (fun k => ids.contains k.id)
  let nsBusy := fun (d : Dev) (n : Nat) => d.stor.cmds.any (fun k => k.ns = some n)
  let d := d.stor.fences.foldl (fun (d : Dev) (x : Nat × Nat × List Nat) =>
    if busy d x.2.2 then d else d.admEnd x.1 x.2.1 Sc.ok 0) d
  let d := d.stor.nsWaits.foldl (fun (d : Dev) (x : Nat × Nat × Nat) =>
    if nsBusy d x.2.2 then d else (d.clearRec .ns x.2.2).admEnd x.1 x.2.1 Sc.ok 0) d
  let d := flushCopies d.stor.copies d
  { d with stor := { d.stor with
    fences := d.stor.fences.filter (fun x => busy d x.2.2)
    nsWaits := d.stor.nsWaits.filter (fun x => nsBusy d x.2.2)
    posts := d.stor.posts.filter (fun (p : StPost) => p.done.isNone || (p.op = 5 && (d.stCmd p.cmd).isSome)) } }

/-- R286: a descriptor that the command and the binding allow, for `due` bytes, `inCap` of them in the capsule. -/
def sglOk (b : List Byte) (tcp : Bool) (due inCap : Nat) (wr : Bool) : Bool :=
  match sqeSgl b with
  | some (0, a, l, _) => wr && decide (inCap ≤ 8192) && decide (a + l ≤ inCap) && l = due
  | some (1, _, l, _) => !tcp && l = due
  | some (2, _, l, _) => tcp && l = due
  | _ => due = 0

/-- R296 steps 1 to 4: a command capsule of target session `s`. -/
def Dev.targetCapsule (d : Dev) (s : Nat) (cap : List Byte) : Dev :=
  let b := sliceBytes cap 0 64
  let op := sqeOp b
  let ns := sqe b 4 4 - 1
  let r := d.crec .ns ns 8
  let f := nsFmt r
  let n := sqeBlocks b
  let i := d.stor.next
  let inCap := cap.drop 64
  let due := if op = opRead || op = opWrite then n * f.fabric else if op = opDsm then 16 * (sqe b 40 1 + 1) else 0
  let full := 262144 ≤ d.stHeld
  let k : StCmd :=
    { id := i, sess := s, sqe := b, tag := sqe b 2 2, step := 0, ns := none, fmt := f, exts := []
      data := List.replicate due 0, got := 0, due := due, subs := [], tally := if full then 0 else 1, job := none
      parent := none, gone := false }
  let d := d.setSn s Sess.SQHD ((d.sn s Sess.SQHD + 1) % d.sn s Sess.QSIZE)
  let d := d.setSn s Sess.OUTSTANDING (d.sn s Sess.OUTSTANDING + 1)
  let d := ({ d with stor := { d.stor with cmds := d.stor.cmds ++ [k], next := i + 1 } }).syncSt s
  let blocks := wget r Ns.EXT_COUNT * f.perExt
  if full then d.stEnd k Sc.noResource 0 0
  else if d.badRec .session s || (sqe b 4 4 ≠ 0 && d.badRec .ns ns) then d.stEnd k Sc.integrity 0 0
  else if sqe b 4 4 = 0 || 65536 < sqe b 4 4 || wget r Ns.STATE ≠ 1 || wget r Ns.SLICE ≠ d.sn s Sess.SLICE then
    d.stEnd k 0x35 0 0
  else if (op = opRead || op = opWrite || op = opZeroes) && decide (blocks < sqeLba b + n) then d.stEnd k 0x36 0 0
  else if !targetOps.contains op || !sqeAlone b || decide (2 ^ 21 < n * f.lba && op ≠ opFlush && op ≠ opDsm) ||
      (op = opDsm && sqe b 44 1 / 4 % 2 = 0) ||
      !sglOk b (d.sn s Sess.BINDING = 1) due inCap.length (op = opWrite || op = opDsm) then d.stEnd k Sc.malformed 0 0
  else
    let k := match sqeSgl b with
      | some (0, a, _, _) => { k with data := sliceBytes inCap a due, got := due }
      | _ => k
    let k := { k with ns := some ns }
    (d.setCmd i (fun _ => k)).stStep4 k

/-- R296: a response capsule of initiator session `s`. -/
def Dev.respCapsule (d : Dev) (s : Nat) (cap : List Byte) : Dev :=
  let d := d.setSn s Sess.SQHD (sqe cap 8 2)
  match d.stor.cmds.find? (fun k => k.sess = s && k.tag = sqe cap 12 2) with
  | some k => d.initDone k (sqe cap 14 2 / 2) (sqe cap 0 4)
  | none => d

/-- STORAGE_CAPSULE, R286, R296, R340: the oldest capsule that tile `t` has received is handled. Fabric commands of a target go
to logical port 23. -/
def storageCapsule (t : Nat) (d : Dev) : Dev :=
  match d.stor.capsules.find? (fun x => x.1 % 8 = t) with
  | none => d
  | some (s, cap) =>
    let rest := d.stor.capsules.takeWhile (fun x => x.1 % 8 ≠ t) ++ (d.stor.capsules.dropWhile (fun x => x.1 % 8 ≠ t)).drop 1
    if !d.takesWork (stHome s) || d.twinState = 5 then d
    else
      let d := { d with stor := { d.stor with capsules := rest } }
      if d.sn s Sess.STATE ≠ 1 then d
      else if d.sliceFrozen (d.sn s Sess.SLICE) then d.cadd .slice (d.sn s Sess.SLICE) Slc.FROZEN_RX_DROPS 1
      else
        let d := d.stCache s
        if d.sn s Sess.ROLE = 1 then (d.respCapsule s cap).stPump
        else if sqe cap 0 1 = 0x7F then d.handOn (.port 23 0x3FFFF) ({ Pkt.blank with data := cap }.ms Meta.PKT_LEN cap.length)
        else (d.targetCapsule s cap).stPump

/-- STORAGE_CAPSULE. -/
def execStorageCapsule (t : Nat) (s : State) : Host.Outcome State Fault Refusal := s.run (storageCapsule t)

/-- STORAGE_DATA_ARRIVED, R296, R297: a command of tile `t` at step 5 whose data has come goes on: PI is checked or inserted,
and its sub-commands are issued. -/
def storageDataArrived (t : Nat) (d : Dev) : Dev :=
  let postOf := fun (k : StCmd) => d.stor.posts.find? (fun p => p.cmd = k.id && p.op = 5 && p.done.isSome)
  match d.stor.cmds.find? (fun k => k.sess % 8 = t && k.step = 5 && (k.got = k.due || (postOf k).isSome)) with
  | none => d
  | some k =>
    let bad : Bool := match postOf k with
      | some p => p.done != some Sc.ok
      | none => false
    let k := match postOf k with
      | some p => { k with data := sliceBytes p.got 0 k.due, got := k.due }
      | none => k
    let d := { d with stor := { d.stor with posts := d.stor.posts.filter (fun (p : StPost) => !(p.cmd = k.id && p.op = 5)) } }
    let d := d.setCmd k.id (fun _ => k)
    if bad then (d.stEnd k Sc.integrity 0 0).stPump
    else if sqeOp k.sqe = opDsm then (d.stDsm k).stPump
    else
      let n := sqeBlocks k.sqe
      let h := stHome k.sess
      match k.fmt.toBack k.sqe n k.data with
      | .error (code, m) => ((d.addk h St.PI_ERR m).stEnd k code 0 0).stPump
      | .ok (bs, ins) =>
        let d := (d.addk h St.BYTES_WRITTEN (n * k.fmt.lba)).addk h St.PI_INSERTED ins
        let base := d.cg .ns (k.ns.getD 0) Ns.EXT_BASE
        (d.stToBack { k with data := bs } (stSubs k.fmt base (sqeLba k.sqe) n k.exts)).stPump

/-- STORAGE_DATA_ARRIVED. -/
def execStorageDataArrived (t : Nat) (s : State) : Host.Outcome State Fault Refusal := s.run (storageDataArrived t)

/-- SUBCMD_COMPLETE, R296: the oldest answer to a sub-command of tile `t` is taken; when all have come the command ends. -/
def subcmdComplete (t : Nat) (d : Dev) : Dev :=
  let mine := fun (a : Nat × Nat × Nat × Nat × List Byte) => match d.stCmd a.1 with
    | some k => k.sess % 8 = t
    | none => t = 0
  match d.stor.answers.find? mine with
  | none => d
  | some (c, i, code, own, bs) =>
    let as := d.stor.answers
    let rest := as.takeWhile (fun a => !mine a) ++ (as.dropWhile (fun a => !mine a)).drop 1
    let d := { d with stor := { d.stor with answers := rest } }
    let d := d.setCmd c (fun (k : StCmd) =>
      { k with subs := updAt k.subs i (fun (y : StSub) => { y with status := some (code, own), data := bs }) })
    match d.stCmd c with
    | none => d
    | some k =>
      let open_ := k.subs.any (fun y => y.status.isNone && (y.sent || !k.gone))
      (if open_ then d else d.stFinish k).stPump

/-- SUBCMD_COMPLETE. -/
def execSubcmdComplete (t : Nat) (s : State) : Host.Outcome State Fault Refusal := s.run (subcmdComplete t)

/-- FENCE_WAIT_TIMEOUT, R296: command `i` has waited 100 ms at step 4. -/
def fenceWaitTimeout (i : Nat) (d : Dev) : Dev :=
  match d.stCmd i with
  | some k => if k.step = 4 then (d.stEnd k 0x39 0 0).stPump else d
  | none => d

/-- FENCE_WAIT_TIMEOUT. -/
def execFenceWaitTimeout (i : Nat) (s : State) : Host.Outcome State Fault Refusal := s.run (fenceWaitTimeout i)

/-! ### The end of a session (R290, R292, R299) -/

/-- R299: the commands of session `s` end internally with ABORTED; an initiator reports it to its host queue, a target sends
nothing; sub-commands already sent are awaited. `special` has a status of its own. -/
def Dev.sessAbort (d : Dev) (s : Nat) (special : Option (Nat × Nat)) : Dev :=
  let ks := d.stor.cmds.filter (fun k => k.sess = s && !k.gone)
  let d := ks.foldl (fun (d : Dev) k =>
    let code := match special with
      | some (i, c) => if i = k.id then c else Sc.aborted
      | none => Sc.aborted
    let d := if k.job.isSome || k.parent.isSome then d.stAnswer k code 0x008 0 else d
    let waits := k.subs.any (fun y => y.sent && y.status.isNone)
    if waits then d.setCmd k.id (fun (x : StCmd) => { x with gone := true, tally := 0, step := 6 })
    else d.stEnd { k with gone := true } code 0 0) d
  let d := { d with stor := { d.stor with
    posts := d.stor.posts.filter (fun (p : StPost) => p.started || !ks.any (fun k => k.id = p.cmd))
    capsules := d.stor.capsules.filter (fun x => x.1 ≠ s) } }
  ((d.setSn s Sess.OUTSTANDING 0).syncSt s).stPump

/-- R292, R299: session `s` moves to `st` (2 ERROR, 3 DETACHED). -/
def Dev.sessStop (d : Dev) (s st : Nat) (special : Option (Nat × Nat)) : Dev :=
  ((d.setSn s Sess.STATE st).sessAbort s special).touch 9 s

/-- R290, R292: bytes of session `s` that the device does not handle go to HOST_Q, or to port 23 for a target. -/
def Dev.sessCopy (d : Dev) (s : Nat) (p : Pkt) : Dev :=
  let dest := if d.sn s Sess.ROLE = 0 then SwDest.port 23 0x3FFFF else SwDest.queue (d.sn s Sess.HOST_Q)
  d.handOn dest p

/-- R292: a termination request with a fatal error status leaves, and the session moves to ERROR. -/
def Dev.sessFatal (d : Dev) (s fes : Nat) (special : Option (Nat × Nat)) : Dev :=
  let type := if d.sn s Sess.ROLE = 0 then 3 else 2
  (d.tcpQueue s (d.pdu s type 0 (leBytes 2 fes ++ leBytes 14 0) [])).sessStop s 2 special

/-! ### TCP reception (R290 to R292) -/

/-- R292: data of a Data PDU: tag, offset and length. -/
def Pdu.range (p : Pdu) : Nat × Nat × Nat := (sqe p.psh 0 2, sqe p.psh 4 4, sqe p.psh 8 4)

/-- R292: data that a PDU may bring to command `k` now: a read's at an initiator, and at a target the data that R2T PDUs have
asked for, which is none of what came in the capsule. -/
def StCmd.takes (k : StCmd) (target : Bool) : Bool :=
  if target then (k.step = 5 || k.step = 9) && (sqeSgl k.sqe).any (fun g => g.1 = 2) else sqeOp k.sqe = opRead

/-- R292: tag of the command that a PDU is about: in its capsule, or at the start of what follows the common header. -/
def Pdu.about (p : Pdu) : Nat := if p.type = 5 then sqe p.psh 12 2 else if p.type = 4 then sqe p.psh 2 2 else sqe p.psh 0 2

/-- R292: `len` more bytes of command `k` have come. One that lost data to a digest (step 9) ends with INTEGRITY: at a target
when the last of its data has come, at an initiator with the response. -/
def Dev.stGot (d : Dev) (k : StCmd) (target : Bool) (len : Nat) : Dev :=
  let k := { k with got := k.got + len }
  let d := d.setCmd k.id (fun _ => k)
  if target && k.step = 9 && decide (k.due ≤ k.got) then d.stEnd k Sc.integrity 0 0 else d

/-- R292: one PDU of session `s`. -/
def Dev.pduIn (d : Dev) (s : Nat) (p : Pdu) : Dev :=
  let target := d.sn s Sess.ROLE = 0
  let t := stHome s
  let (tag, off, len) := p.range
  let cmd := d.stor.cmds.find? (fun k => k.sess = s && k.tag = tag && !k.gone)
  let dataType := if target then 6 else 7
  if !p.hOk then
    let hit := d.stor.cmds.find? (fun k => k.sess = s && k.tag = p.about && !k.gone)
    (d.bumpk t St.HDGST_ERR).sessFatal s 3 (hit.map (fun k => (k.id, Sc.integrity)))
  else if p.type = (if target then 2 else 3) then
    (d.sessCopy s ({ Pkt.blank with data := p.raw }.ms Meta.PKT_LEN p.raw.length)).sessStop s 2 none
  else if p.type = dataType then
    match cmd with
    | none => d.sessFatal s 2 none
    | some k =>
      if len ≠ p.data.length || d.sn s Sess.MAXH2CDATA < len && target || k.due < off + len || !k.takes target then
        d.sessFatal s 4 none
      else
        let d := if !p.dOk then (d.bumpk t St.DDGST_ERR).stGot { k with step := 9 } target len
          else d.stGot { k with data := spliceBytes k.data off p.data } target len
        if !target && p.flags / 8 % 2 = 1 then (match d.stCmd k.id with
          | some k => d.initDone k 0 0
          | none => d)
        else d
  else if p.type = (if target then 4 else 5) then
    if p.dOk then { d with stor := { d.stor with capsules := d.stor.capsules ++ [(s, p.psh ++ p.data)] } }
    else
      let d := ((d.bumpk t St.DDGST_ERR).bumpk t St.CMDS).bumpk t St.CMD_ERR
      let d := d.setSn s Sess.SQHD ((d.sn s Sess.SQHD + 1) % d.sn s Sess.QSIZE)
      d.sendCapsule s 0 5 (mkCqe 0 (d.sn s Sess.SQHD) (d.sn s Sess.SQID) (sqe p.psh 2 2) 0x022)
  else if p.type = 9 && !target then
    match cmd with
    | none => d.sessFatal s 2 none
    | some k =>
      if k.due < off + len || sqeOp k.sqe ≠ opWrite then d.sessFatal s 4 none
      else
        let m := max 1 (d.sn s Sess.MAXH2CDATA)
        let cnt := (len + m - 1) / m
        (List.range cnt).foldl (fun (d : Dev) i =>
          let o := off + i * m
          let l := min m (len - i * m)
          d.tcpQueue s (d.pdu s 6 (if i + 1 = cnt then 4 else 0)
            (leBytes 2 tag ++ sliceBytes p.psh 2 2 ++ leBytes 4 o ++ leBytes 4 l ++ leBytes 4 0) (sliceBytes k.data o l))) d
  else d.sessFatal s 1 none

/-- R292: the whole PDUs that session `s` has received, in order. -/
def Dev.pdusIn (d : Dev) (s : Nat) : Nat → Dev
  | 0 => d
  | n + 1 =>
    if d.sn s Sess.STATE ≠ 1 then d
    else match d.takePdu s (d.tcp s).rx with
      | none => d
      | some (p, len) => ((d.setTcp s (fun (x : StTcp) => { x with rx := x.rx.drop len })).pduIn s p).pdusIn s n

/-- TSval and TSecr of a segment's options. -/
def tsOption : Nat → List Byte → Option (Nat × Nat)
  | 0, _ => none
  | n + 1, b =>
    match b with
    | [] => none
    | k :: rest =>
      if k = 0 then none
      else if k = 1 then tsOption n rest
      else if k = 8 then some (beNat (sliceBytes rest 1 4), beNat (sliceBytes rest 5 4))
      else tsOption n (b.drop (max 2 (rest.getD 0 2).toNat))

/-- R291: the session of a TCP segment of the IP packet at `o` of packet `p`, an ACTIVE one before a DETACHED one: addresses and ports
are the session's, and so is the slice of the queue that a host sent it from (assumption 59). -/
def Dev.sessMatch (d : Dev) (p : Pkt) (b : List Byte) (o u : Nat) : Option Nat :=
  let v6 := (b.getD o 0).toNat / 16 = 6
  let src := if v6 then sliceBytes b (o + 8) 16 else mapped (sliceBytes b (o + 12) 4)
  let dst := if v6 then sliceBytes b (o + 24) 16 else mapped (sliceBytes b (o + 16) 4)
  let fits := fun (s : Nat) =>
    let w := d.sessAddr s
    d.sn s Sess.BINDING = 1 && (p.mg Meta.SRC_KIND ≠ 1 || d.srcSlice p = d.sn s Sess.SLICE) &&
      ofWords [w.getD 1 0, w.getD 2 0] = dst && ofWords [w.getD 3 0, w.getD 4 0] = src &&
      d.sport s = be16 b (u + 2) && d.dport s = be16 b u
  ((d.recs .session).find? (fun s => d.sn s Sess.STATE = 1 && fits s)).or
    ((d.recs .session).find? (fun s => d.sn s Sess.STATE = 3 && fits s))

/-- R290: acknowledgement `ack` of a segment, its window, and the echoed timestamp. A peer that answers with a closed window keeps the
stream up. -/
def Dev.tcpAck (d : Dev) (s ack wnd : Nat) (ts : Option (Nat × Nat)) (pure ece : Bool) : Dev :=
  let una := d.sn s Strm.SND_UNA
  let nxt := d.sn s Strm.SND_NXT
  let d := d.setSn s Strm.WND (wnd * 2 ^ d.sn s Strm.SCALE)
  let d := if ece && d.stFree s then
      d.stRate s (d.sn s Strm.RATE - d.sn s Strm.RATE * (d.boundAt 0x22 (stHome s)).2.2 / 256) true
    else d
  if seqBefore una ack && !seqBefore nxt ack then
    let n := (ack + 2 ^ 32 - una) % 2 ^ 32
    let x := d.tcp s
    let sample := match ts, x.timed with
      | some (_, e), _ => if d.sn s Strm.TS_ON = 1 then some ((d.time / tcpTick % 2 ^ 32 + 2 ^ 32 - e) % 2 ^ 32 * tcpTick) else none
      | none, some (q, t) => if seqBefore ack q then none else some (d.time - t)
      | none, none => none
    let d := d.setTcp s (fun (x : StTcp) =>
      { x with
          buf := x.buf.drop n, dup := 0, tries := 0
          timed := match x.timed with
            | some (q, t) => if seqBefore ack q then some (q, t) else none
            | none => none })
    let d := d.setSn s Strm.SND_UNA ack
    match sample with
    | some v => d.stSample s v
    | none => d
  else if ack = una && pure && wnd = 0 then d.setTcp s (fun (x : StTcp) => { x with tries := 0 })
  else if ack = una && pure && una ≠ nxt then
    let d := d.setTcp s (fun (x : StTcp) => { x with dup := x.dup + 1 })
    if (d.tcp s).dup = 3 then d.tcpResend s false else d
  else d

/-- STORAGE_TCP_RX, R286, R290, R291, R340: the oldest packet on port 22. -/
def Dev.rxStorage (d : Dev) (p : Pkt) : Dev :=
  let b := if p.fcs then p.data.take (p.data.length - 4) else p.data
  let o := ethLen b
  let v := (b.getD o 0).toNat / 16
  let u := if v = 6 then o + 40 else o + 4 * ((b.getD o 0).toNat % 16)
  let proto := (b.getD (if v = 6 then o + 6 else o + 9) 0).toNat
  let drop := fun (d : Dev) => d.bumpk (storageId 0) St.NO_SESSION_DROP
  if !d.feature 3 || !(v = 4 || v = 6) || proto ≠ 6 then drop d
  else if tcpSum b o u ≠ 0 || p.mg Meta.RX_ERR ≠ 0 then d
  else match d.sessMatch p b o u with
    | none => drop d
    | some s =>
      if d.sn s Sess.STATE = 3 then d.sessCopy s p
      else if d.sliceFrozen (d.sn s Sess.SLICE) then d.cadd .slice (d.sn s Sess.SLICE) Slc.FROZEN_RX_DROPS 1
      else
        let d := (d.wakeUnit (stHome s)).stCache s
        let flags := (b.getD (u + 13) 0).toNat
        let hl := (b.getD (u + 12) 0).toNat / 16 * 4
        let pay := (b.take (ipEnd b o)).drop (u + hl)
        let seq := beNat (sliceBytes b (u + 4) 4)
        let ts := tsOption 40 (sliceBytes b (u + 20) (hl - 20))
        if flags % 8 ≠ 0 || flags / 32 % 2 = 1 then d.sessStop s 3 none
        else
          let d := if flags / 16 % 2 = 1 then
              d.tcpAck s (beNat (sliceBytes b (u + 8) 4)) (be16 b (u + 14)) ts pay.isEmpty (flags / 64 % 2 = 1)
            else d
          let d := if pay.isEmpty then d
            else if seq = d.sn s Strm.RCV_NXT then
              let d := d.setSn s Strm.RCV_NXT (seq + pay.length)
              let d := match ts with
                | some (v, _) => d.setSn s Strm.TS_RECENT v
                | none => d
              let d := d.setTcp s (fun (x : StTcp) => { x with rx := x.rx ++ pay })
              (d.tcpOwe s).pdusIn s (pay.length + 1)
            else d.tcpOwe s
          (d.tcpPush s).stPump

/-- STORAGE_TCP_RX. -/
def storageTcpRx (d : Dev) : Dev :=
  match d.sw.storage with
  | [] => d
  | p :: rest => if d.twinState = 5 then d else ({ d with sw := { d.sw with storage := rest } }).rxStorage p

/-- STORAGE_TCP_RX. -/
def execStorageTcpRx (s : State) : Host.Outcome State Fault Refusal := s.run storageTcpRx

/-- STORAGE_TCP_RTO, R279, R290: a retransmit timeout of session `s`: the oldest segment is sent again at half the rate; the sixth in a
row moves the session to DETACHED. With nothing outstanding and a closed window, what is queued probes the window with one
byte (assumption 145). -/
def storageTcpRto (s : Nat) (d : Dev) : Dev :=
  if !d.sessRuns s || d.sn s Sess.BINDING = 0 then d
  else if d.sn s Strm.SND_UNA = d.sn s Strm.SND_NXT then
    if d.sn s Strm.WND = 0 && !(d.tcp s).buf.isEmpty then
      ((d.stCache s).setTcp s (fun (x : StTcp) => { x with probe := true })).tcpPush s
    else d
  else
    let d := (d.stCache s).setTcp s (fun (x : StTcp) => { x with tries := x.tries + 1 })
    if 6 ≤ (d.tcp s).tries then d.sessStop s 3 none
    else (if d.sn s Strm.WND = 0 then d else d.stRate s (d.sn s Strm.RATE / 2) true).tcpResend s false

/-- STORAGE_TCP_RTO. -/
def execStorageTcpRto (sess : Nat) (s : State) : Host.Outcome State Fault Refusal := s.run (storageTcpRto sess)

/-- SHAPER_REFILL, R229, R290: the 1 µs tick also refills the streams of TCP sessions that are not
DETACHED, which send what waited. -/
def refillAll (d : Dev) : Dev :=
  (d.stor.tcp.map StTcp.sess).foldl (fun (d : Dev) s =>
    if d.sn s Sess.STATE = 3 then d
    else
      let t := refill (signed 48 (d.sn s Strm.TOKENS)) (d.sn s Strm.RATE * 1000) Config.tcpBurst
      (d.setSn s Strm.TOKENS (low48 t)).tcpPush s) (flushCopies d.stor.copies (shaperRefill d).settleFetch)

/-- SHAPER_REFILL. -/
def execShaperRefill (s : State) : Host.Outcome State Fault Refusal := s.run refillAll

/-! ### Admin commands (R286 to R299, R331, R380, R460) -/

/-- R288: bits of each session word that the table lists. -/
def sessMask (w : Nat) : Nat :=
  if 32 ≤ w || w = 11 then 0
  else match w with
    | 0 => 2 ^ 6 - 1 + (2 ^ 28 - 2 ^ 16) + (2 ^ 64 - 2 ^ 32)
    | 1 => 2 ^ 22 - 1 + (2 ^ 50 - 2 ^ 32)
    | 3 => 2 ^ 27 - 1
    | 9 => 2 ^ 61 - 1
    | _ => 2 ^ 64 - 1

/-- R299, R345: session `s` goes; `report` unless its slice has moved away. -/
def Dev.sessRemove (d : Dev) (s : Nat) (report : Bool) : Dev :=
  let sl := d.sn s Sess.SLICE
  let d := if report then d.sessAbort s none
    else
      let gone := fun (k : StCmd) => k.sess = s
      { d with stor := { d.stor with cmds := d.stor.cmds.filter (fun k => !gone k) } }
  let d := { d with stor := { d.stor with
    tcp := d.stor.tcp.filter (fun (x : StTcp) => x.sess ≠ s)
    capsules := d.stor.capsules.filter (fun (x : Nat × List Byte) => x.1 ≠ s)
    cache := d.stor.cache.filter (fun (x : Nat × CLine) => x.2.id ≠ s) } }
  let d := (d.syncSt s).sk (stHome s) St.ST_STATUS_CACHED ((d.stor.cache.filter (fun (x : Nat × CLine) => x.1 = s % 8)).length)
  ((d.clearRec .session s).sliceDec sl Slc.USED_SESSIONS).untouch 9 s

/-- R289: host jobs of queue `q` that were taken and are no message yet complete with MALFORMED. -/
def Dev.sqRefuse (d : Dev) (q : Nat) : Dev :=
  ((((d.qst q).map QSt.jobs).getD []).filter (fun j => j.result.isNone && !j.granted)).foldl
    (fun (d : Dev) j => d.finishJob q j.idx Sc.malformed 0 0) d

/-- SESSION_CREATE, R50, R279, R288 to R290, R331, R460. -/
def Dev.sessCreate (d : Dev) (pf s : Nat) (bs : List Byte) : Dev × Nat :=
  let ws := toWords 64 bs
  let g := fun f => wget ws f
  let sl := g Sess.SLICE
  let tcp := g Sess.BINDING = 1
  let target := g Sess.ROLE = 0
  let q := g Sess.HOST_Q
  let c := g Sess.CID
  let reserved := !(List.range 64).all (fun w => (ws.getD w 0) &&& ~~~ BitVec.ofNat 64 (sessMask w) = 0)
  let within := fun (id v : Nat) => decide ((d.boundAt id (stHome s)).1 ≤ v) && decide (v ≤ (d.boundAt id (stHome s)).2.1)
  let bad := !d.feature 3 || (d.sn s Sess.STATE ≠ 0 && !d.badRec .session s) || reserved || decide (g Sess.QSIZE < 2) || decide (1024 < g Sess.QSIZE) ||
    g Sess.SQID = 0 || (target && q ≠ 0x3FFFF) ||
    (!target && !(d.qExists q && d.qf q Qctx.KIND = 5 && d.qf q Qctx.OWNER = pf && d.qf q Qctx.SLICE = sl)) ||
    (tcp && (c ≠ 0 || decide (g Sess.MAXH2CDATA < 4096) || decide (1048576 < g Sess.MAXH2CDATA) ||
      decide (g Sess.RTO_MIN < 50) || decide (200000 < g Sess.RTO_MIN) || decide (16 ≤ getBits (ws.getD 4 0) 36 6) ||
      !within 0x20 (getBits (ws.getD 10 0) 32 32) || !within 0x21 (g Strm.RATE))) ||
    (!tcp && (d.cn c Conn.STATE ≠ 3 || d.cn c Conn.SLICE ≠ sl))
  if bad then (d, Sc.malformed)
  else if d.otherSide s then (d, 0x2E)
  else
    let free := if d.sn s Sess.STATE = 0 then d else d.sessRemove s true
    let st := free.sliceCheck pf sl Slc.USED_SESSIONS Slc.MAX_SESSIONS
    if st ≠ Sc.ok then (d, st)
    else
      let d := if tcp then free else free.sqRefuse (d.cn c Conn.SQ)
      let d := (d.clearRec .session s).setRec .session s ws
      let d := ((d.setSn s Sess.STATE 1).setSn s Sess.SQHD 0).setSn s Sess.OUTSTANDING 0
      let d := if tcp then { d with stor := { d.stor with
        tcp := d.stor.tcp.filter (fun (x : StTcp) => x.sess ≠ s) ++ [StTcp.init s []] } } else d
      (((d.sliceInc sl Slc.USED_SESSIONS).stCache s).touch 9 s, Sc.ok)

/-- SESSION_CREATE. -/
def sessionCreate (pf idx : Nat) (data : Option (List Byte)) (d : Dev) : Dev :=
  d.admIn pf idx 0x0501 data (fun a bs d =>
    let s := a.arg % 2 ^ 17
    let (d, st) := d.sessCreate pf s bs
    d.admEnd pf idx st 0)

/-- SESSION_CREATE. -/
def execSessionCreate (pf idx : Nat) (data : Option (List Byte)) (s : State) : Host.Outcome State Fault Refusal :=
  s.run (sessionCreate pf idx data)

/-- SESSION_DESTROY, R299, R346. -/
def sessionDestroy (pf idx : Nat) (d : Dev) : Dev :=
  d.admRun pf idx 0x0502 (fun a d =>
    let s := a.arg % 2 ^ 17
    let sl := d.sn s Sess.SLICE
    if !d.feature 3 || d.sn s Sess.STATE = 0 || (sl ≠ 0 && d.cg .slice sl Slc.OWNER ≠ pf) then d.admEnd pf idx Sc.malformed 0
    else if d.badRec .session s then d.admEnd pf idx Sc.integrity 0
    else if sl ≠ 0 && d.sliceState sl ≠ 1 then d.admEnd pf idx 0x3E 0
    else (d.sessRemove s true).admEnd pf idx Sc.ok 0)

/-- SESSION_DESTROY. -/
def execSessionDestroy (pf idx : Nat) (s : State) : Host.Outcome State Fault Refusal := s.run (sessionDestroy pf idx)

/-- SESSION_QUERY, R290: the context, stream included. -/
def sessionQuery (pf idx : Nat) (reach : Bool) (d : Dev) : Dev :=
  d.admRun pf idx 0x0503 (fun a d =>
    let s := a.arg % 2 ^ 17
    let sl := d.sn s Sess.SLICE
    if !d.feature 3 || (sl ≠ 0 && d.cg .slice sl Slc.OWNER ≠ pf) then d.admEnd pf idx Sc.malformed 0
    else if d.badRec .session s then d.admEnd pf idx Sc.integrity 0
    else d.admOut a reach (ofWords (d.crec .session s 64)) 0)

/-- SESSION_QUERY. -/
def execSessionQuery (pf idx : Nat) (reach : Bool) (s : State) : Host.Outcome State Fault Refusal :=
  s.run (sessionQuery pf idx reach)

/-- R293: a namespace record that may stand. -/
def nsOk (ws : List Word) : Bool :=
  let g := fun f => wget ws f
  let w0 := ws.getD 0 0
  let w1 := ws.getD 1 0
  w0 &&& ~~~ BitVec.ofNat 64 (2 ^ 9 - 1 + (2 ^ 28 - 2 ^ 16)) = 0 && getBits w1 30 2 = 0 && (ws.drop 2).all (fun w => w = 0) &&
    g Ns.MD_SIZE ≠ 3 && (g Ns.PI_TYPE = 0 || g Ns.MD_SIZE ≠ 0) && (g Ns.GUARD64 = 0 || g Ns.MD_SIZE = 2) &&
    g Ns.EXT_COUNT ≠ 0 && decide (g Ns.EXT_COUNT ≤ 2 ^ 30)

/-- NS_CREATE, R293. -/
def nsCreate (pf idx : Nat) (data : Option (List Byte)) (d : Dev) : Dev :=
  d.admIn pf idx 0x0504 data (fun a bs d =>
    let n := a.arg % 2 ^ 16
    let ws := toWords 8 bs
    let sl := wget ws Ns.SLICE
    let lo := wget ws Ns.EXT_BASE
    let hi := lo + wget ws Ns.EXT_COUNT
    let hits := (d.recs .ns).any (fun m => !(m = n && d.badRec .ns n) && d.cg .ns m Ns.STATE ≠ 0 && decide (d.cg .ns m Ns.EXT_BASE < hi) &&
      decide (lo < d.cg .ns m Ns.EXT_BASE + d.cg .ns m Ns.EXT_COUNT))
    if !d.feature 3 || (d.cg .ns n Ns.STATE ≠ 0 && !d.badRec .ns n) || !nsOk ws ||
        (sl ≠ 0 && d.sliceState sl ≠ 0 && d.cg .slice sl Slc.OWNER ≠ pf) then d.admEnd pf idx Sc.malformed 0
    else if hits || decide (2 ^ 30 < hi) then d.admEnd pf idx Sc.noResource 0
    else (((d.clearRec .ns n).setRec .ns n ws).cs .ns n Ns.STATE 1).admEnd pf idx Sc.ok 0)

/-- NS_CREATE. -/
def execNsCreate (pf idx : Nat) (data : Option (List Byte)) (s : State) : Host.Outcome State Fault Refusal :=
  s.run (nsCreate pf idx data)

/-- NS_DESTROY, R299: DESTROYING, until the last command past step 2 has completed. -/
def nsDestroy (pf idx : Nat) (d : Dev) : Dev :=
  d.admRun pf idx 0x0505 (fun a d =>
    let n := a.arg % 2 ^ 16
    let sl := d.cg .ns n Ns.SLICE
    if !d.feature 3 || d.cg .ns n Ns.STATE ≠ 1 || (sl ≠ 0 && d.sliceState sl ≠ 0 && d.cg .slice sl Slc.OWNER ≠ pf) then
      d.admEnd pf idx Sc.malformed 0
    else if d.badRec .ns n then d.admEnd pf idx Sc.integrity 0
    else
      let d := d.cs .ns n Ns.STATE 2
      ({ d with stor := { d.stor with nsWaits := d.stor.nsWaits ++ [(pf, idx, n)] } }).stPump)

/-- NS_DESTROY. -/
def execNsDestroy (pf idx : Nat) (s : State) : Host.Outcome State Fault Refusal := s.run (nsDestroy pf idx)

/-- BACKEND_WRITE, R295. -/
def backendWrite (pf idx : Nat) (data : Option (List Byte)) (d : Dev) : Dev :=
  d.admIn pf idx 0x0506 data (fun a bs d =>
    let ws := toWords 4 bs
    let g := fun f => wget ws f
    let ok := getBits (ws.getD 0 0) 5 59 = 0 && getBits (ws.getD 1 0) 18 46 = 0 && getBits (ws.getD 2 0) 32 32 = 0 &&
      ws.getD 3 0 = 0 && g Bk.KIND ≠ 3 && g Bk.MD_SIZE ≠ 3 && (g Bk.KIND ≠ 2 || g Bk.REMOTE_NSID = 0)
    if !d.feature 3 || !ok then d.admEnd pf idx Sc.malformed 0
    else (d.setRec .backend (a.arg % 2 ^ 12) ws).admEnd pf idx Sc.ok 0)

/-- BACKEND_WRITE. -/
def execBackendWrite (pf idx : Nat) (data : Option (List Byte)) (s : State) : Host.Outcome State Fault Refusal :=
  s.run (backendWrite pf idx data)

/-- R294: the entry may stand at extent `i`: its backend is valid and has the format of the namespace that owns it. -/
def Dev.extOk (d : Dev) (i : Nat) (ws : List Word) : Bool :=
  let st := wget ws Ext.MAP_STATE
  let b := wget ws Ext.BACKEND
  let owner := (d.recs .ns).find? (fun n => d.cg .ns n Ns.STATE ≠ 0 && decide (d.cg .ns n Ns.EXT_BASE ≤ i) &&
    decide (i < d.cg .ns n Ns.EXT_BASE + d.cg .ns n Ns.EXT_COUNT))
  (ws.getD 0 0) &&& ~~~ BitVec.ofNat 64 (2 ^ 2 - 1 + (2 ^ 20 - 2 ^ 8)) = 0 && getBits (ws.getD 1 0) 44 20 = 0 &&
    (!(st = 1 || st = 2) || (d.cg .backend b Bk.KIND ≠ 0 && (match owner with
      | some n => d.cg .backend b Bk.LBA_4K = d.cg .ns n Ns.LBA_4K && d.cg .backend b Bk.MD_SIZE = d.cg .ns n Ns.MD_SIZE
      | none => true)))

/-- EXTENT_WRITE, R294: every entry is written, or none. -/
def extentWrite (pf idx : Nat) (data : Option (List Byte)) (d : Dev) : Dev :=
  d.admIn pf idx 0x0507 data (fun a bs d =>
    let n := a.len / 16
    let lo := a.arg % 2 ^ 30
    let es := (List.range n).map (fun i => (lo + i, toWords 2 (bs.drop (16 * i))))
    if !d.feature 3 || decide (2 ^ 30 < lo + n) || !es.all (fun x => d.extOk x.1 x.2) then d.admEnd pf idx Sc.malformed 0
    else ((es.foldl (fun (d : Dev) x => d.setRec .extent x.1 x.2) d).admEnd pf idx Sc.ok n).stPump)

/-- EXTENT_WRITE. -/
def execExtentWrite (pf idx : Nat) (data : Option (List Byte)) (s : State) : Host.Outcome State Fault Refusal :=
  s.run (extentWrite pf idx data)

/-- R299: command `k` has read the entry of extent `i`: a Flush those of its whole namespace. -/
def Dev.readExt (d : Dev) (k : StCmd) (i : Nat) : Bool :=
  let lo := d.cg .ns (k.ns.getD 0) Ns.EXT_BASE
  k.exts.any (fun x => x.1 = i) || (k.ns.isSome && sqeOp k.sqe = opFlush && decide (lo ≤ i) &&
    decide (i < lo + d.cg .ns (k.ns.getD 0) Ns.EXT_COUNT))

/-- EXTENT_FENCE, R299: the entry becomes FENCED; the command waits for those that read it before. -/
def extentFence (pf idx : Nat) (d : Dev) : Dev :=
  d.admRun pf idx 0x0508 (fun a d =>
    let i := a.arg % 2 ^ 30
    if !d.feature 3 then d.admEnd pf idx Sc.malformed 0
    else if d.badRec .extent i then d.admEnd pf idx Sc.integrity 0
    else
      let ids := (d.stor.cmds.filter (fun k => d.readExt k i)).map StCmd.id
      let d := d.cs .extent i Ext.MAP_STATE 3
      ({ d with stor := { d.stor with fences := d.stor.fences ++ [(pf, idx, ids)] } }).stPump)

/-- EXTENT_FENCE. -/
def execExtentFence (pf idx : Nat) (s : State) : Host.Outcome State Fault Refusal := s.run (extentFence pf idx)

end Sys2Proof.Machine
end

