-- ==== Sys2Proof/Machine/TxFetch.lean ====
section
/-! DEFINITION. What a DMA tile does with a TX job it has fetched: source checks, segmentation, the metadata of the packets
(R334 to R336, R358, R359), and the completion of the job (R368, R372). -/

namespace Sys2Proof.Machine

/-! ### Source checks (R334, R335) -/

/-- Entry `e` of the allow-list of slice `sl`. -/
def Dev.allowEnt (d : Dev) (sl e : Nat) : List Word := (d.crec .allow sl (4 * e + 4)).drop (4 * e)

/-- Entries of the allow-list of slice `sl`. -/
def Dev.allowList (d : Dev) (sl : Nat) : List (List Word) :=
  (List.range (d.cg .slice sl Slc.ALLOW_COUNT)).map (fun e => d.allowEnt sl e)

/-- R334: an entry of an IP kind covers an address of `n` bytes, both in wire order. -/
def allowCovers (kind n : Nat) (e : List Word) (addr : List Byte) : Bool :=
  wget e Allow.KIND = kind &&
    beNat addr / 2 ^ (8 * n - wget e Allow.PREFIX_LEN) = beNat (sliceBytes (ofWords (e.drop 2)) 0 n) /
      2 ^ (8 * n - wget e Allow.PREFIX_LEN)

/-- R335: the step of the source check that a frame fails, if any. -/
def spoofStep (l : List (List Word)) (otherOk : Bool) (b : List Byte) : Option Nat :=
  let tagged := be16 b 12 = 0x8100
  let vid := if tagged then be16 b 14 % 4096 else 0
  let t := if tagged then 16 else 12
  let et := be16 b t
  let p := t + 2
  let src := sliceBytes b 6 6
  let ip := fun (kind n o : Nat) => l.any (fun e => allowCovers kind n e (sliceBytes b o n))
  let mac := l.any (fun e => wget e Allow.KIND = 1 && wget e Allow.MAC = beNat src &&
    (wget e Allow.ANY_VID = 1 || wget e Allow.VID = vid))
  if b.length < t + 2 || be16 b 12 = 0x88A8 then some 1
  else if !mac then some 2
  else if et = 0x0800 then (if decide (b.length < p + 16) || !ip 2 4 (p + 12) then some 3 else none)
  else if et = 0x86DD then (if decide (b.length < p + 24) || !ip 3 16 (p + 8) then some 4 else none)
  else if et = 0x0806 then
    (if decide (b.length < p + 18) || sliceBytes b (p + 8) 6 ≠ src || !ip 2 4 (p + 14) then some 5 else none)
  else if otherOk then none else some 6

/-- SPOOF_CHECK, R336: a frame of slice `sl` that fails a step counts, and raises an event at most once a millisecond; whether
it is dropped. -/
def Dev.spoofFail (d : Dev) (q sl step : Nat) : Dev × Bool :=
  let d := d.cadd .slice sl Slc.SPOOF_DROPS 1
  let ms := d.time / 1000000
  let k := (q % 16, sl, ms)
  let d := if d.dma.spoofAt.contains k then d
    else
      let d := { d with dma := { d.dma with spoofAt := k :: d.dma.spoofAt.filter (fun (x : Nat × Nat × Nat) => !(x.1 = q % 16 && x.2.1 = sl)) } }
      d.raise (dmaOf q) 0x0704 sl step
  (d, d.cg .slice sl Slc.SPOOF_MODE = 1)

/-! ### Packets of a job (R358, R359) -/

/-- R358: metadata word m11 from the first entry of a job. -/
def txM11 (e : List Word) : Nat :=
  wget e TxE.TS_TAG + wget e TxE.TS_REQ * 2 ^ 16 + wget e TxE.TAG_INS * 2 ^ 17 + wget e TxE.TAG_TPID * 2 ^ 18 +
    wget e TxE.TCI * 2 ^ 20 + wget e TxE.ORIGIN_TS * 2 ^ 36 + wget e TxE.ORIGIN_OFF * 2 ^ 38

/-- R359: the headers of a segmentation job: their length, if they obey the rule. -/
def tsoHead (e : List Word) (b : List Byte) : Option Nat :=
  let o := wget e TxE.L3_OFF
  let u := wget e TxE.L4_OFF
  let v := (b.getD o 0).toNat / 16
  let ihl := 4 * ((b.getD o 0).toNat % 16)
  let n := u + 4 * ((b.getD (u + 12) 0).toNat / 16)
  let mss := wget e TxE.MSS
  let ip := (v = 4 && decide (20 ≤ ihl) && (b.getD (o + 9) 0).toNat = 6 && o + ihl = u) ||
    (v = 6 && (if u = o + 40 then (b.getD (o + 6) 0).toNat = 6 else decide (o + 40 < u)))
  if ip && decide (14 ≤ o) && decide (u + 20 ≤ n) && decide (n ≤ wget e Went.LEN) && decide (64 ≤ mss) && decide (mss ≤ 16000) &&
    decide (n + min mss (b.length - n) ≤ 16383) then some n else none

/-- R359: segment `i` of `k`, of headers `h` and a piece of payload that begins at offset `po`. -/
def tsoSeg (e : List Word) (h body : List Byte) (i k po : Nat) : List Byte :=
  let o := wget e TxE.L3_OFF
  let u := wget e TxE.L4_OFF
  let b := h ++ body
  let v4 := (b.getD o 0).toNat / 16 = 4
  let b := if v4 then
      let b := putBe (putBe b (o + 2) 2 (b.length - o)) (o + 4) 2 ((be16 b (o + 4) + i) % 65536)
      let b := putBe b (o + 10) 2 0
      putBe b (o + 10) 2 (inetSum (sliceBytes b o (u - o)))
    else putBe b (o + 4) 2 (b.length - o - 40)
  let b := putBe b (u + 4) 4 ((beNat (sliceBytes b (u + 4) 4) + po) % 2 ^ 32)
  let f := (b.getD (u + 13) 0).toNat
  let f := if i + 1 = k then f else f - Nat.land f 9
  let f := if i = 0 then f else f - Nat.land f 128
  fixTcp (putBe b (u + 13) 1 f) o u

/-- R356, R358, R359: the frames a job gives, or `none` where the job is malformed. -/
def txFrames (e : List Word) (b : List Byte) : Option (List (List Byte)) :=
  if wget e TxE.TSO = 1 then
    match tsoHead e b with
    | none => none
    | some n =>
      let mss := wget e TxE.MSS
      let k := max 1 ((b.length - n + mss - 1) / mss)
      some ((List.range k).map (fun i => tsoSeg e (b.take n) ((b.drop (n + i * mss)).take mss) i k (i * mss)))
  else if 14 ≤ b.length ∧ b.length ≤ 16383 then some [b]
  else none

/-- R94, R336, R506: a bad allow-list covers nothing (assumption 85). The frames of a job leave for the prism in order; the first one that enforcement drops ends the job, which is
then so reported. -/
def Dev.txSend (d : Dev) (q : Nat) (j : Job) (poison : Bool) : List (List Byte) → Dev × Bool
  | [] => (d, true)
  | b :: rest =>
    let sl := d.qf q Qctx.SLICE
    let d := if sl = 0 then d else d.cadd .slice sl Slc.TX_PKTS 1
    let step := if sl = 0 || d.cg .slice sl Slc.SPOOF_MODE = 0 then none
      else spoofStep (if d.badRec .allow sl || d.badRec .slice sl then [] else d.allowList sl) (d.cg .slice sl Slc.OTHER_OK = 1) b
    let (d, drop) := match step with
      | some n => d.spoofFail q sl n
      | none => (d, false)
    if drop then (d, false)
    else
      let p : Pkt := { data := b, m := List.replicate 16 0, poison := false, fcs := false, prism := none, job := some (q, j.idx) }
      let p := (((p.ms Meta.SRC_KIND 1).ms Meta.SRC_ID q).ms Meta.CLASS (d.qf q Qctx.CLASS)).ms Meta.M11 (txM11 (j.ents.getD 0 []))
      let (d, p) := if poison then d.poisoned p else (d, p)
      (d.toPrism (prismOfQueue q) p).txSend q j poison rest

/-- A job of queue `q` that the fetch scheduler granted and whose data has not been read. -/
def Dev.grantedJob (d : Dev) (q : Nat) : Option Job :=
  (d.qst q).bind (fun x => x.jobs.find? (fun (j : Job) => j.granted && j.result.isNone && j.moved = 0))

/-- R224: the grant of a job of queue `q` is charged at the end of its fetch, where it has not been yet. -/
def Dev.payGrant (d : Dev) (q : Nat) (j : Job) (frames : Nat) : Dev :=
  match j.grant with
  | none => d
  | some g =>
    if g.paid then d
    else (d.chargeGrant g (j.bytes 1) frames).setJob q j.idx (fun (k : Job) => { k with grant := some { g with paid := true } })

/-- R109: a packet of job `i` of queue `q` is still before or in a prism. -/
def Dev.inPrism (d : Dev) (q i : Nat) : Bool := (d.prism.wire ++ d.prism.fifo).any (fun x => x.2.job = some (q, i))

/-- TX_JOB_FETCH, R97, R206, R358, R359, R372: unless its fetch stalls, the DMA tile reads the data of the granted job of queue `q`: `data` as read, `ok` unless a
read failed, `poison` where the fetch failed its ECC (R508). -/
def txJobFetch (q : Nat) (data : List Byte) (ok poison : Bool) (d : Dev) : Dev :=
  match d.grantedJob q with
  | none => d
  | some j =>
    let b := sliceBytes data 0 (j.bytes 1)
    if d.qf q Qctx.KIND ≠ 1 || !d.canFetch q then d
    else
    let d := d.payGrant q j (if ok then ((txFrames (j.ents.getD 0 []) b).map List.length).getD 0 else 0)
    Dev.settleFetch <|
    if !ok then (d.bumpk (dmaOf q) Dma.QUEUE_BUS_ERR).finishJob q j.idx Sc.busError (min data.length (j.bytes 1)) 0
    else match txFrames (j.ents.getD 0 []) b with
      | none => d.finishJob q j.idx Sc.malformed b.length 0
      | some fs =>
        let d := d.setJob q j.idx (fun (j : Job) => { j with moved := b.length })
        match d.txSend q j poison fs with
        | (d, true) => d
        | (d, false) => d.finishJob q j.idx Sc.spoofDrop b.length 0

/-- TX_JOB_FETCH. -/
def execTxJobFetch (q : Nat) (data : List Byte) (ok poison : Bool) (s : State) : Host.Outcome State Fault Refusal :=
  s.run (txJobFetch q data ok poison)

/-- R372: before a completion of queue `q` whose write fails: its CQ stops in ERROR, and the completion will be held. -/
def Dev.cqGate (d : Dev) (q : Nat) (wr : Bool) : Dev :=
  let c := d.qf q Qctx.CQ
  if wr || d.qstate c = qError then d else (d.cqError c (d.qf c Qctx.HEAD)).bumpk (dmaOf c) Dma.QUEUE_BUS_ERR

/-- TX_JOB_COMPLETE, R109, R368: the data of the job of queue `q` has been read and its packets have passed their prism, which may
still have dropped one: its completion is written in ring order. `wr`: whether the write succeeds. -/
def txJobComplete (q : Nat) (wr : Bool) (d : Dev) : Dev :=
  match (d.qst q).bind (fun x => x.jobs.find? (fun (j : Job) => j.result.isNone && j.moved ≠ 0)) with
  | none => d
  | some j => if d.qf q Qctx.KIND ≠ 1 || d.inPrism q j.idx then d else (d.cqGate q wr).finishJob q j.idx Sc.ok j.moved 0

/-- TX_JOB_COMPLETE. -/
def execTxJobComplete (q : Nat) (wr : Bool) (s : State) : Host.Outcome State Fault Refusal := s.run (txJobComplete q wr)

end Sys2Proof.Machine
end

