-- ==== Sys2Proof/Machine/Rings.lean ====
section
/-! DEFINITION. Doorbells, scanning, receive writes and BACKEND queues (R354 to R366). -/

namespace Sys2Proof.Machine

/-! ### Doorbells (R315, R354) -/

/-- A counter of the host group of `pf`, if an image has placed one. -/
def Dev.hgBump (d : Dev) (pf : Nat) (f : Fld) : Dev :=
  if d.hostGroup pf = rootId then d else d.add (d.hostGroup pf) f 1

/-- R315, R354: a write of `n` bytes at byte `off` of doorbell page `q` of function `pf`. -/
def hostDoorbell (pf q off n : Nat) (d : Dev) : Dev :=
  if n = 0 || 8 ≤ off then d.hgBump pf Hg.DB_DISCARD
  else if q = 0 then
    ({ d with aqRung := if pf = 0 then (true, d.aqRung.2) else (d.aqRung.1, true) }).wakeUnit (epId pf)
  else if d.qExists q && d.qf q Qctx.OWNER = pf then d.ringQ q
  else d.hgBump pf Hg.DB_DISCARD

/-- R315: apertures translate while STATE is ACTIVE or PATCHING. -/
def Dev.aptLive (d : Dev) : Bool := d.imgState = 2 || d.imgState = 4

/-- R315: an entry of the BAR2 table of function `pf` covers offset `o`. -/
def Dev.apt2Covers (d : Dev) (pf o : Nat) : Bool :=
  let h := d.hostGroup pf
  (List.range 64).any (fun i =>
    d.on h (Hg.APT2_VALID i) && decide (d.g h (Hg.APT2_OFFSET i) * 4096 ≤ o) &&
      decide (o < d.g h (Hg.APT2_OFFSET i) * 4096 + 2 ^ d.g h (Hg.APT2_SIZE_LOG2 i)))

/-- R315: doorbell page `q` of function `pf` is open: page 0 always, any other while a valid entry of a live table covers it. -/
def Dev.pageOpen (d : Dev) (pf q : Nat) : Bool := q = 0 || (d.aptLive && d.apt2Covers pf (q * 4096))

/-- R312: an unmapped access of function `pf` at `off` of a BAR: counted, with an event at most once a millisecond. -/
def Dev.hostUnmappedAt (d : Dev) (pf bar off : Nat) (write : Bool) : Dev :=
  let d := d.hgBump pf (if write then Hg.UNMAPPED_WR else Hg.UNMAPPED_RD)
  let ms := d.time / 1000000
  if (d.ep pf).lastUnmappedMs = some ms then d
  else (d.setEp pf (fun (e : EpSt) => { e with lastUnmappedMs := some ms })).raise (d.hostGroup pf) 0x0003 0
    (off + (if bar = 2 then 2 ^ 62 else 0) + write.toNat * 2 ^ 63)

/-- R309, R311, R318: function `pf` answers memory requests: its link is up, it is in D0 and Memory Space Enable is set. -/
def Dev.answers (d : Dev) (pf : Nat) : Bool := (d.ep pf).linkUp && decide ((d.ep pf).dstate = 0) && (d.ep pf).mse

/-- HOST_DOORBELL, R312, R315, R354: the host of function `pf` writes `n` bytes at byte `off` of the doorbell page of queue `q`
through BAR2. A page that is not open makes an unmapped access. -/
def doorbellWrite (pf q off n : Nat) (d : Dev) : Dev :=
  if !d.answers pf then d
  else if d.pageOpen pf q then hostDoorbell pf q off n d
  else d.hostUnmappedAt pf 2 (q * 4096 + off) true

/-- HOST_DOORBELL. -/
def execHostDoorbell (pf q off n : Nat) (s : State) : Host.Outcome State Fault Refusal := s.run (doorbellWrite pf q off n)

/-! ### Scanning (R355, R356, R371) -/

/-- R358: a TX job that is no packet: its data is not 14 to 16,383 bytes and it asks for no segmentation. -/
def txBad (j : Job) : Bool :=
  wget (j.ents.getD 0 []) TxE.TSO = 0 && (decide (j.bytes 1 < 14) || decide (16383 < j.bytes 1))

/-- R363: an RDMA_SQ job whose lengths, operation or SEND fields break the rule. -/
def rdmaBad (j : Job) : Bool :=
  let e := j.ents.getD 0 []
  let op := wget e Rdma.OP
  j.bytes 4 ≠ wget e Went.LEN || op = 0 || decide (5 < op) ||
    (decide (op ≤ 2) && (wget e Rdma.REMOTE_VA ≠ 0 || wget e Rdma.RKEY ≠ 0))

/-- Connection whose SQ is `q`, in state `st`. -/
def Dev.connOfSq (d : Dev) (q st : Nat) : Option Nat :=
  (d.tp.conns.map TpConn.cid).find? (fun c => d.cn c Conn.SQ = q && d.cn c Conn.STATE = st)

/-- R270, R283: a work descriptor of the connection may be fetched: an entry is free besides those that jobs already taken will
use, and the tally is not exhausted. -/
def Dev.mayFetch (d : Dev) (c : Nat) : Bool :=
  let free := ((List.range 24).filter (fun k => d.cn c (Conn.VALID k) = 0)).length
  let taken := (((d.qst (d.cn c Conn.SQ)).map QSt.jobs).getD []).filter (fun j => j.result.isNone && !j.granted)
  decide (taken.length < free) && !d.tallyFull

/-- ACTIVE initiator session whose HOST_Q is `q`. -/
def Dev.sessOfHq (d : Dev) (q : Nat) : Option Nat :=
  (d.recs .session).find? (fun s => d.sn s Sess.STATE = 1 && d.sn s Sess.ROLE = 1 && d.sn s Sess.HOST_Q = q)

/-- A job of queue `q` that completes with `st` as it is taken. -/
def Dev.takeBad (d : Dev) (q : Nat) (j : Job) (st : Nat) : Dev := (d.takeJob q j).finishJob q j.idx st 0 0

/-- One job of queue `q` is taken, by its kind (R358, R363, R289, R364). For a STOR_INIT job, `aux` is the submission entry
(empty where it could not be read) and the data to be written. Whether the job could be taken now. -/
def Dev.takeOne (d : Dev) (q : Nat) (j : Job) (aux : List Byte × List Byte) : Dev × Bool :=
  let k := d.qf q Qctx.KIND
  if k = 1 then (if txBad j then d.takeBad q j Sc.malformed else d.takeJob q j, true)
  else if k = 4 then
    match d.connOfSq q 3, d.connOfSq q 4 with
    | some c, _ =>
      if !d.mayFetch c then (d, false)
      else (if rdmaBad j || (d.sessOf c).isSome then d.takeBad q j Sc.malformed else d.takeJob q j, true)
    | none, some _ => (d.takeBad q j 0x34, true)
    | none, none => (d, false)
  else
    match d.sessOfHq q with
    | none => (d, false)
    | some s =>
      if d.badRec .session s then (d.takeBad q j Sc.integrity, true)
      else if d.sn s Sess.QSIZE ≤ d.sn s Sess.OUTSTANDING + 1 || !d.sessRuns s then (d, false)
      else if j.ents.length ≠ 1 || j.bytes 5 ≠ 64 then (d.takeBad q j Sc.malformed, true)
      else if aux.1.isEmpty then ((d.takeBad q j Sc.busError).bumpk (dmaOf q) Dma.QUEUE_BUS_ERR, true)
      else ((d.takeJob q j).initCommand s j (sliceBytes aux.1 0 64) aux.2, true)

/-- Jobs are taken in ring order while they can be; whether all were. -/
def Dev.takeAll (d : Dev) (q : Nat) : List Job → List (List Byte × List Byte) → Dev × Bool
  | [], _ => (d, true)
  | j :: js, aux =>
    match d.takeOne q j (aux.headD ([], [])) with
    | (d, true) => d.takeAll q js aux.tail
    | (d, false) => (d, false)

/-- Blocks of `data` bytes followed by `md` bytes each, from separate runs of data and metadata. -/
def weave (data md : Nat) : Nat → List Byte → List Byte → List Byte
  | 0, _, _ => []
  | n + 1, a, b => sliceBytes a 0 data ++ sliceBytes b 0 md ++ weave data md n (a.drop data) (b.drop md)

/-- R365: one entry of the host-written completion ring of BACKEND queue `q`, with the data and metadata found in its slot. -/
def Dev.backAnswer (d : Dev) (q : Nat) (e : List Word) (a : List Byte × List Byte) : Dev :=
  let slots := ((d.qst q).map QSt.slots).getD []
  let hit := slots.find? (fun x => x.idx = wget e Cpl.INDEX && x.tag = wget e Cpl.WR_TAG && wget e Cpl.QID = q)
  let d := d.setQ q (fun (x : QSt) => { x with
    auxPos := (x.auxPos + 1) % d.qSize q, auxPhase := if x.auxPos + 1 = d.qSize q then 1 - x.auxPhase else x.auxPhase })
  match hit with
  | none => d.cadd .queue q Qctx.DROPS 1
  | some b =>
    let st := if wget e Cpl.STATUS = 0 then 0 else 0x3D
    let bs := match d.stCmd b.cmd with
      | some k => if sqeOp k.sqe = opRead then
          weave k.fmt.lba k.fmt.md (((k.subs[b.part]?).map StSub.nlb).getD 0) a.1 a.2 else []
      | none => []
    let d := d.setQ q (fun (x : QSt) => { x with slots := x.slots.filter (fun y => y.idx ≠ b.idx) })
    let d := (d.cadd .queue q Qctx.JOBS 1).setQf q Qctx.TAKEN (slots.length - 1)
    { d with stor := { d.stor with
      answers := d.stor.answers ++ [(b.cmd, b.part, st, if st = 0 then 0 else wget e Cpl.FLAGS, bs)] } }

/-- R365, R371: owned entries of a completion ring, in order; an entry that cannot be read stops the queue. -/
def Dev.backScan (d : Dev) (q : Nat) : List (Option (List Word)) → List (List Byte × List Byte) → Dev
  | [], _ => d
  | none :: _, _ => (d.qErr q 0x07 (((d.qst q).map QSt.auxPos).getD 0)).bumpk (dmaOf q) Dma.QUEUE_BUS_ERR
  | some e :: es, aux =>
    if wget e Cpl.PHASE ≠ ((d.qst q).map QSt.auxPhase).getD 0 then d
    else (d.backAnswer q e (aux.headD ([], []))).backScan q es aux.tail

/-- QUEUE_SCAN, R354, R355, R371: a rung queue that can scan reads entries from HEAD (`ents`; `none` where a read failed) and
takes complete jobs, and a structural error stops it. `aux` is what else is read for each: see `takeOne`, `backAnswer`. A
bad RX buffer is completed and an error met where it stands at HEAD (assumption 60). -/
def queueScan (q : Nat) (ents : List (Option (List Word))) (aux : List (List Byte × List Byte)) (d : Dev) : Dev :=
  let k := d.qf q Qctx.KIND
  if !(((d.qst q).map QSt.rung).getD false) || !d.canScan q || d.twinState = 5 then d
  else if k = 6 then (d.setQ q (fun (x : QSt) => { x with rung := false })).backScan q (ents.take (d.qSize q)) aux
  else if k = 2 then (d.setQ q (fun (x : QSt) => { x with rung := false })).rxReady q ents |>.1
  else
    let (js, e) := d.ringJobs q ents
    Dev.settleFetch <| match d.takeAll q js aux with
    | (d, false) => d
    | (d, true) =>
      let d := d.setQ q (fun (x : QSt) => { x with rung := false })
      match e with
      | some (code, i) =>
        let d := d.qErr q code i
        if code = 0x07 then d.bumpk (dmaOf q) Dma.QUEUE_BUS_ERR else d
      | none => d

/-- QUEUE_SCAN. -/
def execQueueScan (q : Nat) (ents : List (Option (List Word))) (aux : List (List Byte × List Byte)) (s : State) :
    Host.Outcome State Fault Refusal := s.run (queueScan q ents aux)

/-! ### Receive packets (R360 to R362, R367) -/

/-- R361: the fewest leading buffers that hold `n` bytes. -/
def bufsFor (n : Nat) : List Job → Option (List Job)
  | [] => if n = 0 then some [] else none
  | j :: js =>
    if n = 0 then some []
    else (bufsFor (n - j.bytes 2) js).map (fun l => j :: l)

/-- R341, R361, R362, R367: packet `p`, taken before any freeze of its slice, is written to RX queue `q` whose entries from HEAD are
`ents`; `dataOk` and `wr` tell whether its data and its completion can be written. -/
def Dev.rxWrite (d : Dev) (q : Nat) (p : Pkt) (ents : List (Option (List Word))) (dataOk wr : Bool) : Dev :=
  let drop := fun (d : Dev) => d.cadd .queue q Qctx.DROPS 1
  if !(d.qExists q && d.qf q Qctx.KIND = 2) then d.bumpk (dmaOf q) Dma.NO_QUEUE
  else if !d.rxUp q then drop d
  else
    let (d, good) := d.rxReady q ents
    let meta_ := d.qf q Qctx.RX_META = 1
    let hdr := if meta_ then ofWords [p.m.getD 0 0, p.m.getD 1 0, p.m.getD 6 0, p.m.getD 7 0] else []
    match bufsFor (hdr.length + p.data.length) good with
    | none => drop d
    | some js =>
      if js.isEmpty || decide (64 < js.length) then drop d
      else
        let own := d.qf q Qctx.OWNER
        let bufs := js.map (fun j => entBuf (j.ents.getD 0 []))
        let d := if dataOk then d.scatter own (d.qPasid q) bufs (hdr ++ p.data) else d.bumpk (dmaOf q) Dma.QUEUE_BUS_ERR
        let j : Job :=
          { idx := ((js.head?).map Job.idx).getD 0, ents := js.flatMap Job.ents, moved := 0, granted := false, grant := none, result := none }
        let st := if !dataOk then Sc.busError else if p.poison then Sc.integrity else Sc.ok
        let d := (d.takeJob q j).cqGate q wr
        let d := d.cadd .queue q Qctx.JOBS (js.length - 1)
        d.finishJob q j.idx st p.data.length (rxFlagsOf p + (if meta_ then 2048 else 0))

/-- RX_PACKET_WRITE, R64, R361: DMA tile `t` writes the oldest packet that the switch core has read for one of its queues that no
patch holds. -/
def rxPacketWrite (t : Nat) (ents : List (Option (List Word))) (dataOk wr : Bool) (d : Dev) : Dev :=
  match d.sw.hostRx.find? (fun x => x.1 % 16 = t && !d.heldByPatch x.1) with
  | none => d
  | some (q, p) =>
    if !d.takesWork (dmaId t) || (d.qExists q && d.quiet (d.qf q Qctx.OWNER)) then d
    else
      let d := { d with sw := { d.sw with hostRx := d.sw.hostRx.eraseP (fun x => x.1 % 16 = t && !d.heldByPatch x.1) } }
      d.rxWrite q p ents dataOk wr

/-- RX_PACKET_WRITE. -/
def execRxPacketWrite (t : Nat) (ents : List (Option (List Word))) (dataOk wr : Bool) (s : State) :
    Host.Outcome State Fault Refusal := s.run (rxPacketWrite t ents dataOk wr)

/-! ### BACKEND queues (R365) -/

/-- Data and metadata runs of `n` blocks of `data` and `md` bytes that follow one another. -/
def unweave (data md : Nat) : Nat → List Byte → List Byte × List Byte
  | 0, _ => ([], [])
  | n + 1, bs =>
    let (a, b) := unweave data md n (bs.drop (data + md))
    (sliceBytes bs 0 data ++ a, sliceBytes (bs.drop data) 0 md ++ b)

/-- R365: words of the work entry that carries part `y` of command `k`, its data slot at `slot`, with phase `ph`. -/
def backEntry (k : StCmd) (y : StSub) (slot tag ph : Nat) : List Word :=
  let b := k.sqe
  let op := sqeOp b
  let bytes := if op = opFlush || op = opZeroes then 0 else y.nlb * k.fmt.lba
  let pr := sqe b 48 4 / 2 ^ 26
  [ BitVec.ofNat 64 slot, BitVec.ofNat 64 (bytes + 2 ^ 25 + 2 ^ 26 + tag % 2 ^ 32 * 2 ^ 32), BitVec.ofNat 64 y.lba,
    BitVec.ofNat 64 (op + (y.nlb - 1) % 2 ^ 16 * 2 ^ 8 + pr / 4 % 2 * 2 ^ 24 + pr / 2 % 2 * 2 ^ 25 + sqe b 60 2 * 2 ^ 26 +
      sqe b 62 2 * 2 ^ 42 + ph * 2 ^ 63) ]

/-- BACKEND_SUBCOMMAND, R365, R372: the oldest sub-command that waits for BACKEND queue `q` is written, with a write's data in
its slot, while that slot is free. A write that fails (`wr`) stops the queue. -/
def backendSubcommand (q : Nat) (wr : Bool) (d : Dev) : Dev :=
  let h := d.qf q Qctx.HEAD
  let slots := ((d.qst q).map QSt.slots).getD []
  match d.stor.backQ.find? (fun x => x.1 = q) with
  | none => d
  | some (_, c, i) =>
    if d.qf q Qctx.KIND ≠ 6 || !d.canScan q || slots.any (fun x => x.idx = h) || d.twinState = 5 then d
    else if !wr then (d.qErr q 0x08 h).bumpk (dmaOf q) Dma.QUEUE_BUS_ERR
    else
      let d := { d with stor := { d.stor with backQ := d.stor.backQ.eraseP (fun x => x.1 = q) } }
      match d.stCmd c, (d.stCmd c).bind (fun k => k.subs[i]?) with
      | some k, some y =>
        let slot := d.qf q Qctx.DATA_BASE + h * 0x210000
        let own := d.qf q Qctx.OWNER
        let tag := d.freeVal.toNat % 2 ^ 32
        let (a, m) := unweave k.fmt.lba k.fmt.md y.nlb (sliceBytes k.data (y.off * k.fmt.back) (y.nlb * k.fmt.back))
        let d := d.used
        let d := if sqeOp k.sqe ≠ opWrite then d
          else
            let d := d.hostData own (d.qPasid q) slot a
            if m.isEmpty then d else d.hostData own (d.qPasid q) (slot + 0x200000) m
        let d := d.hostPut own (d.qPasid q) (d.qf q Qctx.RING_BASE + 32 * h)
          (ofWords (backEntry k y slot tag (d.qf q Qctx.HEAD_PHASE)))
        let b : BackSlot := { idx := h, tag := tag, cmd := c, part := i }
        ((d.advHead q 1).setQ q (fun (x : QSt) => { x with slots := x.slots ++ [b] })).setQf q Qctx.TAKEN (slots.length + 1)
      | _, _ => d

/-- BACKEND_SUBCOMMAND. -/
def execBackendSubcommand (q : Nat) (wr : Bool) (s : State) : Host.Outcome State Fault Refusal :=
  s.run (backendSubcommand q wr)

/-- R365: part `i` of command `c` fails with BACKEND_ERROR; its NVMe status is a free value. -/
def Dev.backFail (d : Dev) (c i : Nat) : Dev :=
  let nv := max 1 (d.freeVal.toNat % 2 ^ 15)
  let d := d.used
  { d with stor := { d.stor with answers := d.stor.answers ++ [(c, i, 0x3D, nv, [])] } }

/-- BACKEND_TIMEOUT, R365: 1 s has passed without a completion for part `i` of command `c` on queue `q`. -/
def backendTimeout (q c i : Nat) (d : Dev) : Dev :=
  let mine := fun (x : BackSlot) => x.cmd = c && x.part = i
  let slots := ((d.qst q).map QSt.slots).getD []
  if slots.any mine then
    let d := d.setQ q (fun (x : QSt) => { x with slots := x.slots.filter (fun y => !mine y) })
    (d.setQf q Qctx.TAKEN (slots.length - 1)).backFail c i
  else if d.stor.backQ.contains (q, c, i) then
    ({ d with stor := { d.stor with backQ := d.stor.backQ.filter (fun x => x ≠ (q, c, i)) } }).backFail c i
  else d

/-- BACKEND_TIMEOUT. -/
def execBackendTimeout (q c i : Nat) (s : State) : Host.Outcome State Fault Refusal := s.run (backendTimeout q c i)

end Sys2Proof.Machine
end

