-- ==== Sys2Proof/Machine/Queues.lean ====
section
/-! DEFINITION. Creating, stopping, restarting and destroying queues (R329, R350, R369, R373 to R375). -/

namespace Sys2Proof.Machine

/-! ### CREATE_QUEUE (R373) -/

/-- R350: bits of each context word that the table lists. -/
def queueMask (w : Nat) : Nat :=
  match w with
  | 0 | 1 | 2 | 5 | 7 => 2 ^ 64 - 1
  | 3 => 2 ^ 30 - 1 + (2 ^ 49 - 2 ^ 32) + (2 ^ 64 - 2 ^ 56)
  | 4 => 2 ^ 51 - 1
  | 6 => 2 ^ 32 - 1
  | _ => 0

/-- No bit outside a mask is set, in the first `n` words of a context. -/
def maskOk (mask : Nat → Nat) (n : Nat) (ws : List Word) : Bool :=
  (List.range n).all (fun w => (ws.getD w 0) &&& ~~~ BitVec.ofNat 64 (mask w) = 0)

/-- R349 to R351: a supplied context breaks no rule of its own. -/
def queueFormOk (ws : List Word) : Bool :=
  let g := fun f => wget ws f
  let k := g Qctx.KIND
  let z := g Qctx.SIZE_LOG2
  maskOk queueMask 8 ws && decide (1 ≤ k) && decide (k ≤ 6) && decide (6 ≤ z) && decide (z ≤ (if 5 ≤ k then 10 else 16)) &&
    g Qctx.RING_BASE % 4096 = 0 && g Qctx.AUX_BASE % 4096 = 0 && g Qctx.DATA_BASE % 4096 = 0 &&
    (k = 6 || (g Qctx.AUX_BASE = 0 && g Qctx.DATA_BASE = 0)) && ((k ≠ 3 && k ≠ 6) || g Qctx.CQ = 0) &&
    !(k = 3 && g Qctx.COMPAT = 1)

/-- R221: class node that a SCHED_NODE names for a queue of class `c`. -/
def schedNode (n c : Nat) : Nat := if n = 0xFFFF then 19 + c else n

/-- The device's own state of a queue just created. -/
def QSt.init (q : Nat) : QSt :=
  { qid := q, rung := false, enable := true, jobs := [], held := [], slots := [], auxPos := 0, auxPhase := 1 }

/-- A CQ that queue `q` may name: an existing one of kind 3 of the same function. -/
def Dev.cqOk (d : Dev) (pf c : Nat) : Bool := d.qExists c && d.qf c Qctx.KIND = 3 && d.qf c Qctx.OWNER = pf

/-- The queue `q`, with its context in place, joins what shares with it: its slice, its CQ, the fetch tree, and the latency
its function reports (R318). -/
def Dev.joinQueue (d : Dev) (q : Nat) : Dev :=
  let old := d
  let k := d.qf q Qctx.KIND
  let c := d.qf q Qctx.CQ
  let d := { d with queues := d.queues.filter (fun (x : QSt) => x.qid ≠ q) ++ [QSt.init q] }
  let d := if k = 3 || k = 6 then d else d.setQf c Qctx.ATTACHED (d.qf c Qctx.ATTACHED + d.qSize q)
  let d := if k = 1 then d.newLeaf q (schedNode (d.qf q Qctx.SCHED_NODE) (d.qf q Qctx.CLASS)) else d
  (d.sliceInc (d.qf q Qctx.SLICE) Slc.USED_QUEUES).tellLtr old (d.qf q Qctx.OWNER)

/-- CREATE_QUEUE, R329, R348, R373. The order of the checks is the model's (assumption 12). -/
def Dev.makeQueue (d : Dev) (pf : Nat) (bs : List Byte) : Dev × Nat :=
  let ws := toWords 8 bs
  let g := fun f => wget ws f
  let q := g Qctx.QID
  let k := g Qctx.KIND
  let c := g Qctx.CQ
  let sl := d.sliceOfQ q
  let needs := k ≠ 3 && k ≠ 6
  if d.qExists q then (d, 0x24)
  else if !queueFormOk ws || (needs && !d.cqOk pf c) || (sl ≠ 0 && d.cg .slice sl Slc.OWNER ≠ pf) ||
      (k = 1 && g Qctx.SCHED_NODE ≠ 0xFFFF && !d.leafParentOk (g Qctx.SCHED_NODE) sl) then (d, Sc.malformed)
  else if d.sliceState sl ≠ 1 then (d, 0x3E)
  else if d.inAdopt q || (d.queueBinding q).isNone || q = 0 ||
      (needs && decide (d.qSize c < d.qf c Qctx.ATTACHED + 2 ^ g Qctx.SIZE_LOG2)) then (d, Sc.noResource)
  else
    let d := (d.clearRec .queue q).setRec .queue q ws
    let d := ((d.setQf q Qctx.STATE (if needs && d.qstate c = qError then qStalled else qActive)).setQf q Qctx.SLICE sl).setQf q
      Qctx.OWNER pf
    let d := [Qctx.ARMED, Qctx.HEAD, Qctx.QERR_CODE, Qctx.QERR_INDEX, Qctx.TAKEN, Qctx.ATTACHED, Qctx.JOBS, Qctx.DROPS].foldl
      (fun (d : Dev) f => d.setQf q f 0) d
    (((d.setQf q Qctx.HEAD_PHASE 1).joinQueue q).touch 4 q, Sc.ok)

/-- CREATE_QUEUE. -/
def createQueue (pf idx : Nat) (data : Option (List Byte)) (d : Dev) : Dev :=
  d.admIn pf idx 0x0101 data (fun _ bs d =>
    let (d, st) := d.makeQueue pf bs
    d.admEnd pf idx st (if st = Sc.ok then wget (toWords 8 bs) Qctx.QID else 0))

/-- CREATE_QUEUE. -/
def execCreateQueue (pf idx : Nat) (data : Option (List Byte)) (s : State) : Host.Outcome State Fault Refusal :=
  s.run (createQueue pf idx data)

/-! ### Ending jobs (R374) -/

/-- Ring indices of jobs of queue `q` that have ended and whose completion a tether holds (R277). -/
def Dev.tetheredJobs (d : Dev) (q : Nat) : List Nat :=
  d.tp.conns.flatMap (fun x => x.held.filterMap (fun h => match h.2 with
    | .message slot _ _ => if d.cn x.cid Conn.SQ = q then (x.msgs.find? (fun m => m.slot = slot && m.post.isNone)).map TpMsg.job else none
    | .recv p i _ _ _ _ => if p = q then some i else none
    | _ => none))

/-- R374: bytes that connections have moved for the receive job of queue `q` at index `i`. -/
def Dev.rxMoved (d : Dev) (q i : Nat) : Nat :=
  (d.tp.conns.findSome? (fun x => match x.rx with
    | some r => if r.job = some i && d.cn x.cid Conn.RQ = q then some r.got else none
    | none => none)).getD 0

/-- A message in reception whose receive descriptor has been aborted accepts no more data. -/
def Dev.dropRx (d : Dev) (q : Nat) : Dev :=
  let f := fun (x : TpConn) => match x.rx with
    | some r => if r.job.isSome && d.cn x.cid Conn.RQ = q then
        { x with rx := some { r with job := none, ent := [], len := 0 } } else x
    | none => x
  { d with tp := { d.tp with conns := d.tp.conns.map f } }

/-- R374: every outstanding job of queue `q` ends with ABORTED: those taken, then every owned complete one among `ents`. How
many there were. Completions for a CQ in ERROR are discarded. -/
def Dev.abortQueue (d : Dev) (q : Nat) (ents : List (Option (List Word))) : Dev × Nat :=
  let k := d.qf q Qctx.KIND
  let keep := ((d.qst q).map QSt.held).getD []
  let tied := d.tetheredJobs q
  let js := (((d.qst q).map QSt.jobs).getD []).filter (fun j => j.result.isNone && !tied.contains j.idx)
  let d := if k ≠ 4 then d else
    (d.tp.conns.map TpConn.cid).foldl (fun (d : Dev) c =>
      if d.cn c Conn.SQ ≠ q then d
      else ((d.tc c).live.filter (fun m => m.post.isNone)).foldl (fun (d : Dev) m =>
        d.tpHold c (.message m.slot Sc.aborted (d.msgResult c m))) d) d
  let d := if k = 5 then (match d.sessOfHq q with
    | some s => d.sessAbort s none
    | none => d) else d
  let tied := d.tetheredJobs q
  let d := js.foldl (fun (d : Dev) j =>
    if tied.contains j.idx then d
    else d.finishJob q j.idx Sc.aborted (if k = 2 then d.rxMoved q j.idx else j.moved) 0) d
  let d := if k = 2 then d.dropRx q else d
  let more := if k = 3 || k = 6 then [] else (d.ringJobs q ents).1
  let d := more.foldl (fun (d : Dev) j => d.takeBad q j Sc.aborted) d
  let d := if k ≠ 3 && k ≠ 6 && d.qstate (d.qf q Qctx.CQ) = qError then d.setQ q (fun (x : QSt) => { x with held := keep }) else d
  (d, js.length + more.length)

/-- R365: the sub-commands of a BACKEND queue that goes fail. -/
def Dev.failSlots (d : Dev) (q : Nat) : Dev :=
  let d := (((d.qst q).map QSt.slots).getD []).foldl (fun (d : Dev) (b : BackSlot) => d.backFail b.cmd b.part) d
  let d := (d.stor.backQ.filter (fun x => x.1 = q)).foldl (fun (d : Dev) x => d.backFail x.2.1 x.2.2) d
  { d with stor := { d.stor with backQ := d.stor.backQ.filter (fun (x : Nat × Nat × Nat) => x.1 ≠ q) } }

/-- The queue `q` is gone: its ID and doorbell page are free, its CQ, slice and leaf no longer count it (R332, R369). -/
def Dev.removeQueue (d : Dev) (q : Nat) : Dev :=
  let old := d
  let k := d.qf q Qctx.KIND
  let c := d.qf q Qctx.CQ
  let sl := d.qf q Qctx.SLICE
  let d := d.failSlots q
  let d := if k = 3 || k = 6 then d else d.setQf c Qctx.ATTACHED (d.qf c Qctx.ATTACHED - d.qSize q)
  let d := if k = 1 then (d.leaveRound (d.leaf q Node.PARENT) q).clearRec .leaf q else d
  let d := { d with queues := d.queues.filter (fun (x : QSt) => x.qid ≠ q) }
  let d := if sl ≠ 0 && d.cg .slice sl Slc.DEFAULT_RXQ = q then d.cs .slice sl Slc.DEFAULT_RXQ 0x3FFFF else d
  (((d.clearRec .queue q).sliceDec sl Slc.USED_QUEUES).untouch 4 q).tellLtr old (old.qf q Qctx.OWNER)

/-- R369: a queue names CQ `c`. -/
def Dev.cqNamed (d : Dev) (c : Nat) : Bool :=
  d.queues.any (fun x => d.qf x.qid Qctx.KIND ≠ 3 && d.qf x.qid Qctx.KIND ≠ 6 && d.qf x.qid Qctx.CQ = c)

/-! ### Queue commands (R373) -/

/-- Status of a command of `pf` on queue `q` in a state that accepts those of `ok` (R346, R373, R380). -/
def Dev.queueStatus (d : Dev) (pf q : Nat) (ok : List Nat) : Nat :=
  if !d.qExists q then 0x24
  else if d.qf q Qctx.OWNER ≠ pf then Sc.malformed
  else if d.sliceFrozen (d.qf q Qctx.SLICE) then 0x3E
  else if !ok.contains (d.qstate q) then 0x24
  else Sc.ok

/-- R373, R374, R277: a command that ends the jobs of its queue: it starts by ending them, and finishes by `fin` once no
completion waits for a tether; presented again, it finishes then. -/
def Dev.stopQueue (d : Dev) (pf idx op : Nat) (ents : List (Option (List Word))) (ok : List Nat) (refuse : Dev → Nat → Bool)
    (fin : Nat → Dev → Dev) : Dev :=
  let done := fun (q : Nat) (d : Dev) => (((d.qst q).map QSt.jobs).getD []).isEmpty
  match d.admin.find? (fun c => c.pf = pf && c.idx = idx && c.op = op && c.started && c.done.isNone) with
  | some a =>
    let q := a.arg % 2 ^ 18
    if done q d then (fin q d).admEnd pf idx Sc.ok a.count else d
  | none =>
    d.admRun pf idx op (fun a d =>
      let q := a.arg % 2 ^ 18
      let st := d.queueStatus pf q ok
      if st ≠ Sc.ok then d.admEnd pf idx st 0
      else if refuse d q then d.admEnd pf idx 0x24 0
      else
        let (d, n) := d.abortQueue q ents
        let d := (d.setQf q Qctx.STATE qQuiesced).touch 4 q
        if done q d then (fin q d).admEnd pf idx Sc.ok n
        else d.setAdm pf idx (fun (c : AdminCmd) => { c with count := n }))

/-- QUIESCE_QUEUE, R373, R374. -/
def quiesceQueue (pf idx : Nat) (ents : List (Option (List Word))) (d : Dev) : Dev :=
  d.stopQueue pf idx 0x0102 ents [qActive, qError, qStalled] (fun _ _ => false) (fun _ d => d)

/-- QUIESCE_QUEUE. -/
def execQuiesceQueue (pf idx : Nat) (ents : List (Option (List Word))) (s : State) : Host.Outcome State Fault Refusal :=
  s.run (quiesceQueue pf idx ents)

/-- RESUME_QUEUE, R373: HEAD and HEAD_PHASE stay or are set, the error is cleared, and the queue is rung once. -/
def resumeQueue (pf idx : Nat) (d : Dev) : Dev :=
  d.admRun pf idx 0x0103 (fun a d =>
    let q := a.arg % 2 ^ 18
    let h := a.arg / 2 ^ 32 % 2 ^ 16
    let keep := a.arg / 2 ^ 49 % 2 = 1
    let st := d.queueStatus pf q [qQuiesced, qError]
    if st ≠ Sc.ok then d.admEnd pf idx st 0
    else if !keep && decide (d.qSize q ≤ h) then d.admEnd pf idx Sc.malformed 0
    else
      let d := if keep then d else ((d.setQf q Qctx.HEAD h).setQf q Qctx.HEAD_PHASE (a.arg / 2 ^ 48 % 2)).headMoved q
      let d := ((d.setQf q Qctx.STATE qActive).setQf q Qctx.QERR_CODE 0).setQf q Qctx.QERR_INDEX 0
      let d := if d.qf q Qctx.KIND = 3 then d.cqResumed q else d
      ((d.ringQ q).touch 4 q).admEnd pf idx Sc.ok 0)

/-- RESUME_QUEUE. -/
def execResumeQueue (pf idx : Nat) (s : State) : Host.Outcome State Fault Refusal := s.run (resumeQueue pf idx)

/-- DESTROY_QUEUE, R373, R374. -/
def destroyQueue (pf idx : Nat) (ents : List (Option (List Word))) (d : Dev) : Dev :=
  d.stopQueue pf idx 0x0104 ents [qActive, qQuiesced, qError, qStalled] (fun d q => d.cqNamed q) (fun q d => d.removeQueue q)

/-- DESTROY_QUEUE. -/
def execDestroyQueue (pf idx : Nat) (ents : List (Option (List Word))) (s : State) : Host.Outcome State Fault Refusal :=
  s.run (destroyQueue pf idx ents)

/-- QUERY_QUEUE, R350. -/
def queryQueue (pf idx : Nat) (reach : Bool) (d : Dev) : Dev :=
  d.admRun pf idx 0x0105 (fun a d =>
    let q := a.arg % 2 ^ 18
    if !d.qExists q then d.admEnd pf idx 0x24 0
    else if d.qf q Qctx.OWNER ≠ pf then d.admEnd pf idx Sc.malformed 0
    else d.admOut a reach (ofWords (d.crec .queue q 8)) 0)

/-- QUERY_QUEUE. -/
def execQueryQueue (pf idx : Nat) (reach : Bool) (s : State) : Host.Outcome State Fault Refusal :=
  s.run (queryQueue pf idx reach)

/-- R375: the queue that QSEL of function `pf` names, if QSTAT.VALID reads 1 for it. -/
def Dev.compatQ (d : Dev) (pf : Nat) : Option Nat :=
  let q := d.g (epId pf) Ep.QSEL_QID
  if d.qExists q && d.qf q Qctx.OWNER = pf && d.qf q Qctx.COMPAT = 1 then some q else none

/-- QCTL, R375: a write of QCTL.ENABLE stops or resumes the selected COMPAT queue. -/
def qctl (pf : Nat) (en : Bool) (d : Dev) : Dev :=
  match d.compatQ pf with
  | none => d
  | some q => (d.setQ q (fun (x : QSt) => { x with enable := en, rung := x.rung || (en && !x.enable) })).tellLtr d pf

/-- QCTL. -/
def execQctl (pf : Nat) (en : Bool) (s : State) : Host.Outcome State Fault Refusal := s.run (qctl pf en)

end Sys2Proof.Machine
end

