-- ==== Sys2Proof/Machine/EventQ.lean ====
section
/-! DEFINITION. The event arbiter's commands and the event queues (R401, R402, R406 to R413). -/

namespace Sys2Proof.Machine

/-- EVENT_ACCEPT, R401. -/
def execEventAccept (s : State) : Host.Outcome State Fault Refusal := s.run Dev.acceptEv

/-- ARBITER_STEP_UP, R402: a step up of the arbiter's clock has ended. -/
def arbiterStepUp (d : Dev) : Dev :=
  if d.on rootId Root.EVT_STATUS_FAST then d else (d.s rootId Root.EVT_STATUS_FAST 1).bump Root.EVT_FAST_STEPS

/-- ARBITER_STEP_UP. -/
def execArbiterStepUp (s : State) : Host.Outcome State Fault Refusal := s.run arbiterStepUp

/-- ARBITER_STEP_DOWN, R402: a step down has ended; FAST_FORCE bars it. -/
def arbiterStepDown (d : Dev) : Dev :=
  if d.on rootId Root.EVT_GLOBAL_FAST_FORCE then d else d.s rootId Root.EVT_STATUS_FAST 0

/-- ARBITER_STEP_DOWN. -/
def execArbiterStepDown (s : State) : Host.Outcome State Fault Refusal := s.run arbiterStepDown

/-- R408: the entries bound for queue `q` of owner `o` are presented. -/
def Dev.presentFor (d : Dev) (o q : Nat) : Dev := d.presentWaiting (fun w => (d.target w.ev).2 = (o, q))

/-- EQ_CONS, R410, R411: a write of EQ_CONS is stored if it lies between the stored value and WR_POS; space that frees releases
waiting entries, and a queue left non-empty signals. -/
def eqCons (o q v : Nat) (d : Dev) : Dev :=
  let u := eqUnit o q
  let n := d.eqSize o q
  let c := d.g u Eqb.EQ_CONS_CONS
  let w := d.g u Eqb.EQ_STATUS_WR_POS
  if n ≤ v || decide ((w + n - c) % n < (v + n - c) % n) then d.bump Root.EVT_BAD_CONS
  else
    let d := (d.s u Eqb.EQ_CONS_CONS v).syncFull o q
    let d := if d.eqEmpty o q || !d.eqValid o q then d else d.signalEq o q
    d.presentFor o q

/-- EQ_CONS. -/
def execEqCons (o q v : Nat) (s : State) : Host.Outcome State Fault Refusal := s.run (eqCons o q v)

/-- EVT_GLOBAL_HOLD, R408: HOLD stops acceptance; on 0 every entry not otherwise held is presented. -/
def evtGlobalHold (hold : Bool) (d : Dev) : Dev :=
  let d := d.s rootId Root.EVT_GLOBAL_HOLD (if hold then 1 else 0)
  if hold then d else d.presentWaiting (fun _ => true)

/-- EVT_GLOBAL_HOLD. -/
def execEvtGlobalHold (hold : Bool) (s : State) : Host.Outcome State Fault Refusal := s.run (evtGlobalHold hold)

/-- EQ_CFG_ENABLE, R413: setting ENABLE of a management-core queue from 0 sets its positions; clearing it makes it not VALID. -/
def eqCfgEnable (q : Nat) (en : Bool) (d : Dev) : Dev :=
  let u := eqUnit 2 q
  if en = d.on u Eqb.EQ_CFG_ENABLE then d
  else if en then
    (((((d.s u Eqb.EQ_CFG_ENABLE 1).s u Eqb.EQ_STATUS_WR_POS 0).s u Eqb.EQ_CONS_CONS 0).s u Eqb.EQ_STATUS_WR_PHASE 1).s u
      Eqb.EQ_STATUS_VALID 1).syncFull 2 q
  else ((d.s u Eqb.EQ_CFG_ENABLE 0).s u Eqb.EQ_STATUS_VALID 0).presentFor 2 q

/-- EQ_CFG_ENABLE. -/
def execEqCfgEnable (q : Nat) (en : Bool) (s : State) : Host.Outcome State Fault Refusal := s.run (eqCfgEnable q en)

/-! ### Host event queues (R407) -/

/-- R407: bits of each context word that the table lists. -/
def eqMask (w : Nat) : Nat :=
  match w with
  | 0 | 3 => 2 ^ 64 - 1
  | 1 => 2 ^ 31 - 1
  | 2 => 2 ^ 17 - 1 + (2 ^ 48 - 2 ^ 32)
  | _ => 0

/-- R407: the context of event queue `q` of function `o` as it stands. -/
def Dev.eqContext (d : Dev) (o q : Nat) : List Word :=
  let u := eqUnit o q
  let i := o * 1024 + q
  let w1 := d.g u Eqb.EQ_CFG_SIZE_LOG2 + d.g u Eqb.EQ_STATUS_VALID * 2 ^ 5 + d.cg .hostEq i EqC.INT_EN * 2 ^ 7 + q * 2 ^ 8 +
    d.cg .hostEq i EqC.SLICE * 2 ^ 18 + o * 2 ^ 30
  [ BitVec.ofNat 64 (d.g u Eqb.EQ_BASE_ADDR * 4096), BitVec.ofNat 64 w1,
    BitVec.ofNat 64 (d.g u Eqb.EQ_STATUS_WR_POS + d.g u Eqb.EQ_STATUS_WR_PHASE * 2 ^ 16 + d.g u Eqb.EQ_CONS_CONS * 2 ^ 32),
    BitVec.ofNat 64 (d.g u Eqb.EQ_RECORDS), 0, 0, 0, 0 ]

/-- Event queue `q` of function `o` takes a context: its own words, and its positions where `keep` holds, else from the
start. -/
def Dev.putEq (d : Dev) (o q : Nat) (ws : List Word) (keep : Bool) : Dev :=
  let u := eqUnit o q
  let g := fun f => wget ws f
  let d := ((d.clearRec .hostEq (o * 1024 + q)).cs .hostEq (o * 1024 + q) EqC.INT_EN (g EqC.INT_EN)).cs .hostEq (o * 1024 + q)
    EqC.SLICE (g EqC.SLICE)
  let d := ((d.s u Eqb.EQ_BASE_ADDR (g EqC.RING_BASE / 4096)).s u Eqb.EQ_CFG_SIZE_LOG2 (g EqC.SIZE_LOG2)).s u Eqb.EQ_CFG_ENABLE 1
  let d := ((d.s u Eqb.EQ_STATUS_VALID 1).s u Eqb.EQ_STATUS_WR_POS (if keep then g EqC.WR_POS else 0)).s u
    Eqb.EQ_STATUS_WR_PHASE (if keep then g EqC.WR_PHASE else 1)
  ((d.s u Eqb.EQ_CONS_CONS (if keep then g EqC.CONS else 0)).s u Eqb.EQ_RECORDS (if keep then g EqC.RECORDS else 0)).syncFull o q

/-- Form of a supplied event queue context. -/
def eqFormOk (ws : List Word) : Bool :=
  maskOk eqMask 8 ws && wget ws EqC.RING_BASE % 4096 = 0 && decide (6 ≤ wget ws EqC.SIZE_LOG2) &&
    decide (wget ws EqC.SIZE_LOG2 ≤ 16)

/-- EQ_CREATE, R331, R407. -/
def eqCreate (pf idx : Nat) (data : Option (List Byte)) (d : Dev) : Dev :=
  d.admIn pf idx 0x0201 data (fun a bs d =>
    let q := a.arg % 2 ^ 10
    let ws := toWords 8 bs
    let sl := wget ws EqC.SLICE
    if d.eqValid pf q then d.admEnd pf idx 0x24 0
    else if !eqFormOk ws || (q = 0 && sl ≠ 0) then d.admEnd pf idx Sc.malformed 0
    else
      let st := d.sliceCheck pf sl Slc.USED_EQS Slc.MAX_EQS
      if st ≠ Sc.ok then d.admEnd pf idx st 0
      else ((d.putEq pf q ws false).sliceInc sl Slc.USED_EQS).admEnd pf idx Sc.ok 0)

/-- EQ_CREATE. -/
def execEqCreate (pf idx : Nat) (data : Option (List Byte)) (s : State) : Host.Outcome State Fault Refusal :=
  s.run (eqCreate pf idx data)

/-- Event queue `q` of function `o` is gone: its control block reads its reset values, and what waited for it is presented. -/
def Dev.removeEq (d : Dev) (o q : Nat) : Dev :=
  let sl := d.cg .hostEq (o * 1024 + q) EqC.SLICE
  (((d.clearRec .hostEq (o * 1024 + q)).resetRegs (eqUnit o q) (fun _ => false)).sliceDec sl Slc.USED_EQS).presentFor o q

/-- R407: a CQ names event queue `q` of `pf`, or AQ_CFG does with EQ_EN 1. -/
def Dev.eqNamed (d : Dev) (pf q : Nat) : Bool :=
  d.queues.any (fun x => d.qf x.qid Qctx.KIND = 3 && d.qf x.qid Qctx.OWNER = pf && d.qf x.qid Qctx.EQ = q) ||
    (d.on (epId pf) Ep.AQ_CFG_EQ_EN && d.g (epId pf) Ep.AQ_CFG_EQ = q)

/-- EQ_DESTROY, R346, R407. -/
def eqDestroy (pf idx : Nat) (d : Dev) : Dev :=
  d.admRun pf idx 0x0202 (fun a d =>
    let q := a.arg % 2 ^ 10
    if !d.eqValid pf q || d.eqNamed pf q then d.admEnd pf idx 0x24 0
    else if d.sliceFrozen (d.cg .hostEq (pf * 1024 + q) EqC.SLICE) then d.admEnd pf idx 0x3E 0
    else (d.removeEq pf q).admEnd pf idx Sc.ok 0)

/-- EQ_DESTROY. -/
def execEqDestroy (pf idx : Nat) (s : State) : Host.Outcome State Fault Refusal := s.run (eqDestroy pf idx)

/-- EQ_QUERY, R407. -/
def eqQuery (pf idx : Nat) (reach : Bool) (d : Dev) : Dev :=
  d.admRun pf idx 0x0203 (fun a d =>
    let q := a.arg % 2 ^ 10
    if d.eqValid pf q then d.admOut a reach (ofWords (d.eqContext pf q)) 0 else d.admEnd pf idx 0x24 0)

/-- EQ_QUERY. -/
def execEqQuery (pf idx : Nat) (reach : Bool) (s : State) : Host.Outcome State Fault Refusal := s.run (eqQuery pf idx reach)

end Sys2Proof.Machine
end

