-- ==== Sys2Proof/Machine/Windows.lean ====
section
/-! DEFINITION. Memory windows of harness space: management-core memory and what the image maps (R16, R383, R531). -/

namespace Sys2Proof.Machine

/-- Bytes of the management-core memories, which lie one after another (R531). -/
def coreMemSize : Nat := 0x400000

/-- R16, R383: memory that the `n` bytes at harness address `a` lie wholly within, if any, and where in it. -/
def Dev.window (d : Dev) (a n : Nat) : Option (Space × Nat) :=
  if coreMemBase ≤ a ∧ a + n ≤ coreMemBase + coreMemSize then some (.core, a - coreMemBase)
  else if d.img.windows.any (fun w => decide (w.1 ≤ a) && decide (a + n ≤ w.1 + w.2)) then some (.hbm, a)
  else none

/-- Bytes at a harness address within a window. -/
def Dev.windowRead (d : Dev) (a n : Nat) : List Byte :=
  match d.window a n with
  | some (sp, o) => d.readMem sp o n
  | none => []

/-- Bytes are written at a harness address within a window. -/
def Dev.windowWrite (d : Dev) (a : Nat) (bs : List Byte) : Dev :=
  match d.window a bs.length with
  | some (sp, o) => d.writeMem sp o bs
  | none => d

end Sys2Proof.Machine
end

