-- ==== Sys2Proof/Machine/Dma.lean ====
section
/-! DEFINITION. The DMA channels: starting and stopping, descriptors, bursts, completion and halts (R382 to R397). -/

namespace Sys2Proof.Machine

/-- State of channel `c` of tile `t`: 0 IDLE, 1 RUNNING, 2 STOPPING, 3 HALTED (R389). -/
def Dev.chState (d : Dev) (t c : Nat) : Nat := d.g (chUnit t c) DmaCh.CH_STATUS_STATE

/-- The record of a channel that is not IDLE. -/
def Dev.chan (d : Dev) (t c : Nat) : Option ChSt := d.dma.chans.find? (fun x => x.tile = t && x.ch = c)

/-- Change the record of a channel. -/
def Dev.setChan (d : Dev) (t c : Nat) (f : ChSt → ChSt) : Dev :=
  { d with dma := { d.dma with chans := d.dma.chans.map (fun (x : ChSt) => if x.tile = t && x.ch = c then f x else x) } }

/-- A channel takes a state, which DMA_STATUS shows (R400); in IDLE it has no record. -/
def Dev.setChState (d : Dev) (t c st : Nat) : Dev :=
  let d := d.s (chUnit t c) DmaCh.CH_STATUS_STATE st
  let bits := fun (p : Nat → Bool) => ((List.range 16).map (fun i => if p (d.chState t i) then 2 ^ i else 0)).foldl (· + ·) 0
  let d := (d.sk (dmaId t) Dma.DMA_STATUS_RUNNING (bits (fun s => s = 1 || s = 2))).sk (dmaId t) Dma.DMA_STATUS_HALTED
    (bits (fun s => s = 3))
  if st = 0 then { d with dma := { d.dma with chans := d.dma.chans.filter (fun (x : ChSt) => !(x.tile = t && x.ch = c)) } } else d

/-- R399: a channel event. -/
def Dev.chEvent (d : Dev) (t c kind status : Nat) : Dev :=
  d.raise (dmaId t) kind 0 (c + status * 2 ^ 8 + d.g (chUnit t c) DmaCh.CH_STATUS_DESC_DONE * 2 ^ 32)

/-- R383, R384, R395: why `n` bytes at `a` in a space cannot be accessed: 5 not a memory window, 7 a function that is not in
D0 or without Bus Master Enable, 8 a link that is down. -/
def Dev.accessBad (d : Dev) (space a n : Nat) : Option Nat :=
  if space = 0 then (if (d.window a n).isSome then none else some 5)
  else
    let e := d.ep (space - 1)
    if !e.linkUp then some 8 else if e.dstate ≠ 0 || !e.bme then some 7 else none

/-- R386: address of byte `i` of a transfer from `start`, linear or circular. -/
def wrapAddr (start k i : Nat) : Nat :=
  if k = 0 then (start + i) % 2 ^ 64 else start / 2 ^ k * 2 ^ k + (start + i) % 2 ^ k

/-- R385 to R387: a descriptor breaks a rule. -/
def descBad (w : List Word) : Bool :=
  let badWrap := fun (k : Nat) => k ≠ 0 && (decide (k < 6) || decide (40 < k) || decide (2 ^ k < wget w Desc.LEN))
  let mask := 2 ^ 27 - 1 + (2 ^ 52 - 2 ^ 32) + (2 ^ 64 - 2 ^ 55)
  (w.getD 2 0) &&& ~~~ BitVec.ofNat 64 mask ≠ 0 || wget w Desc.LEN = 0 || decide (67108864 < wget w Desc.LEN) ||
    wget w Desc.SRC_SPACE = 3 || wget w Desc.DST_SPACE = 3 || badWrap (wget w Desc.SRC_WRAP_LOG2) ||
    badWrap (wget w Desc.DST_WRAP_LOG2) || (wget w Desc.LAST = 0 && wget w Desc.NEXT % 32 ≠ 0)

/-- Source address of byte `o` of a descriptor. -/
def descSrc (w : List Word) (o : Nat) : Nat := wrapAddr (wget w Desc.SRC) (wget w Desc.SRC_WRAP_LOG2) o

/-- Destination address of byte `o` of a descriptor. -/
def descDst (w : List Word) (o : Nat) : Nat := wrapAddr (wget w Desc.DST) (wget w Desc.DST_WRAP_LOG2) o

/-- R390: bytes of the burst that begins at byte `o` of a descriptor. -/
def burstLen (w : List Word) (o : Nat) : Nat :=
  let edge := fun (a k : Nat) => min (4096 - a % 4096) (if k = 0 then 4096 else 2 ^ k - a % 2 ^ k)
  min (min 512 (wget w Desc.LEN - o))
    (min (edge (descSrc w o) (wget w Desc.SRC_WRAP_LOG2)) (edge (descDst w o) (wget w Desc.DST_WRAP_LOG2)))

/-- A posted write of a channel to a space (R308, R384, R390): of data, which may carry Relaxed Ordering (R392), or of a write-back,
which never does (R391). -/
def Dev.chWrite (d : Dev) (t c space a : Nat) (isData : Bool) (bs : List Byte) : Dev :=
  let u := chUnit t c
  if space = 0 then d.windowWrite a bs
  else
    d.emits (d.hostTlps (isData && d.on u DmaCh.CH_CFG_RO && (d.ep (space - 1)).relaxed) (space - 1)
      (if d.on u DmaCh.CH_CFG_PASID_EN then some (d.g u DmaCh.CH_CFG_PASID) else none) a bs)

/-- R393: the channel halts: the failing access is latched, what is outstanding is discarded, and an event is raised. Next
descriptors already read stay. -/
def Dev.chHalt (d : Dev) (t c dir space cause a : Nat) : Dev :=
  let u := chUnit t c
  let st := if cause = 6 then Sc.integrity else Sc.busError
  let d := (((d.s u DmaCh.CH_ERR_ADDR_ADDR a).s u DmaCh.CH_ERR_DIR_DIR dir).s u DmaCh.CH_ERR_DIR_SPACE space).s u
    DmaCh.CH_ERR_DIR_CAUSE cause
  let d := d.setChan t c (fun (x : ChSt) =>
    { x with bursts := [], flush := false, fetch := x.fetch.filter (fun (f : ChFetch) => f.words.isSome) })
  let d := ((d.s u DmaCh.CH_STATUS_LAST_STATUS st).setChState t c 3).bumpk (dmaId t) Dma.CH_HALTS
  d.chEvent t c 0x0802 st

/-- R388: a descriptor read at `a` is issued. -/
def Dev.chFetch (d : Dev) (t c a : Nat) : Dev :=
  let bad := d.accessBad (d.g (chUnit t c) DmaCh.CH_CFG_DESC_SPACE) a 32
  d.setChan t c (fun (x : ChSt) => { x with fetch := x.fetch ++ [{ addr := a, words := none, bad := bad }] })

/-- R391, steps 3 and 4: the current descriptor completes with a status; `always` raises the event whatever EVT holds. True
when it has completed: a write-back that cannot be made halts the channel. -/
def Dev.chDone (d : Dev) (t c status : Nat) (w : List Word) (always : Bool) : Dev × Bool :=
  let u := chUnit t c
  let sp := d.g u DmaCh.CH_CFG_DESC_SPACE
  let a := d.g u DmaCh.CH_CUR_DESC_ADDR + 16
  match (if wget w Desc.WB = 1 then d.accessBad sp a 8 else none) with
  | some cause => (d.chHalt t c 4 sp cause a, false)
  | none =>
    let w2 := (wset (wset w Desc.DONE 1) Desc.STATUS status).getD 2 0
    let d := if wget w Desc.WB = 1 then d.chWrite t c sp a false (ofWords [w2]) else d
    let d := (d.add u DmaCh.CH_STATUS_DESC_DONE 1).s u DmaCh.CH_STATUS_LAST_STATUS status
    (if always || wget w Desc.EVT = 1 then d.chEvent t c 0x0801 status else d, true)

/-- R387, R388: the channel starts the descriptor `w` read at `a`: a broken one completes with MALFORMED and ends the list;
else the next one is read unless it is the last. -/
def Dev.chStart (d : Dev) (t c a : Nat) (w : List Word) : Dev :=
  let u := chUnit t c
  let d := ((d.s u DmaCh.CH_CUR_DESC_ADDR a).s u DmaCh.CH_DONE_BYTES_BYTES 0).setChan t c (fun (x : ChSt) =>
    { x with cur := some w, fetch := x.fetch.drop 1, issued := 0, bursts := [], flush := false })
  if descBad w then
    match d.chDone t c Sc.malformed w true with
    | (d, true) => d.setChState t c 0
    | (d, false) => d
  else if wget w Desc.LAST = 1 then d else d.chFetch t c (wget w Desc.NEXT)

/-- R388, R393: a channel without a current descriptor starts the one it has read, or halts where the read failed. -/
def Dev.chNext (d : Dev) (t c : Nat) : Dev :=
  match d.chan t c with
  | none => d
  | some x =>
    match x.cur, x.fetch with
    | none, f :: _ =>
      (match f.words, f.bad with
        | some w, _ => d.chStart t c f.addr w
        | none, some cause => d.chHalt t c 3 (d.g (chUnit t c) DmaCh.CH_CFG_DESC_SPACE) cause f.addr
        | none, none => d)
    | _, _ => d

/-- The current descriptor completes and the channel goes on at NEXT, or to IDLE after the last. -/
def Dev.chComplete (d : Dev) (t c status : Nat) (w : List Word) : Dev :=
  match d.chDone t c status w false with
  | (d, false) => d
  | (d, true) =>
    if wget w Desc.LAST = 1 then d.setChState t c 0
    else (d.setChan t c (fun (x : ChSt) => { x with cur := none })).chNext t c

/-- R391, steps 1 and 2: every byte has left: a flush read is issued, or the descriptor completes. -/
def Dev.chLast (d : Dev) (t c : Nat) (w : List Word) (a : Nat) : Dev :=
  let sp := wget w Desc.DST_SPACE
  if wget w Desc.FLUSH = 0 then d.chComplete t c Sc.ok w
  else
    let d := d.bumpk (dmaId t) Dma.FLUSH_READS
    match d.accessBad sp a 1 with
    | some cause => d.chHalt t c 5 sp cause a
    | none => d.setChan t c (fun (x : ChSt) => { x with flush := true })

/-- Address at which the last burst of a descriptor was written. -/
def lastBurst (w : List Word) : Nat → Nat → Nat
  | 0, o => descDst w o
  | n + 1, o => if wget w Desc.LEN ≤ o + burstLen w o then descDst w o else lastBurst w n (o + burstLen w o)

/-- R390, R393: writes of bursts leave in order as far as their reads have returned; the first that failed halts the channel. -/
def Dev.chPump (d : Dev) (t c : Nat) (w : List Word) : List ChBurst → Dev
  | [] => d
  | b :: bs =>
    let u := chUnit t c
    let sp := wget w Desc.DST_SPACE
    match b.bad, b.data with
    | some cause, _ => d.chHalt t c 1 (wget w Desc.SRC_SPACE) cause (descSrc w b.off)
    | none, none => d
    | none, some data =>
      let a := descDst w b.off
      (match d.accessBad sp a b.len with
        | some cause => d.chHalt t c 2 sp cause a
        | none =>
          let d := ((d.chWrite t c sp a true (sliceBytes data 0 b.len)).add u DmaCh.CH_DONE_BYTES_BYTES b.len).add u DmaCh.CH_BYTES b.len
          let d := d.setChan t c (fun (x : ChSt) => { x with bursts := bs })
          if wget w Desc.LEN ≤ b.off + b.len then d.chLast t c w a else d.chPump t c w bs)

/-- Write what can be written of a running channel. -/
def Dev.chGo (d : Dev) (t c : Nat) : Dev :=
  match d.chan t c with
  | some x => (match x.cur with
    | some w => d.chPump t c w x.bursts
    | none => d.chNext t c)
  | none => d

/-- A channel command that the state does not accept (R389). -/
def Dev.chRefuse (d : Dev) (t c : Nat) : Dev := d.s (chUnit t c) DmaCh.CH_STATUS_OVERRUN 1

/-- CH_GO, R33, R389. -/
def chGo (t c : Nat) (d : Dev) : Dev :=
  let u := chUnit t c
  if d.chState t c ≠ 0 || !d.takesWork (dmaId t) then d.chRefuse t c
  else
    let d := [DmaCh.CH_STATUS_DESC_DONE, DmaCh.CH_DONE_BYTES_BYTES, DmaCh.CH_ERR_ADDR_ADDR, DmaCh.CH_ERR_DIR_DIR,
      DmaCh.CH_ERR_DIR_SPACE, DmaCh.CH_ERR_DIR_CAUSE].foldl (fun (d : Dev) f => d.s u f 0) d
    let x : ChSt := { tile := t, ch := c, cur := none, fetch := [], issued := 0, bursts := [], flush := false }
    let d := ({ d with dma := { d.dma with chans := d.dma.chans ++ [x] } }).setChState t c 1
    ((d.wakeUnit (dmaId t)).chFetch t c (d.g u DmaCh.CH_HEAD_ADDR * 32)).chNext t c

/-- CH_GO. -/
def execChGo (t c : Nat) (s : State) : Host.Outcome State Fault Refusal := s.run (chGo t c)

/-- CH_STOP, R389: from RUNNING, through STOPPING, the current descriptor completes with ABORTED; from HALTED with its latched
status, the latched error staying. -/
def chStop (t c : Nat) (d : Dev) : Dev :=
  let u := chUnit t c
  match d.chan t c with
  | none => d.chRefuse t c
  | some x =>
    if d.chState t c = 1 then
      let d := (d.setChan t c (fun (x : ChSt) => { x with bursts := [], flush := false })).setChState t c 2
      (match x.cur with
        | none => d.setChState t c 0
        | some w => (match d.chDone t c Sc.aborted w false with
          | (d, true) => d.setChState t c 0
          | (d, false) => d))
    else if d.chState t c = 3 then
      let st := d.g u DmaCh.CH_STATUS_LAST_STATUS
      (match x.cur with
        | none => d.setChState t c 0
        | some w =>
          let sp := d.g u DmaCh.CH_CFG_DESC_SPACE
          let blocked := (d.accessBad sp (d.g u DmaCh.CH_CUR_DESC_ADDR + 16) 8).isSome
          (d.chDone t c st (if blocked then wset w Desc.WB 0 else w) false).1.setChState t c 0)
    else d.chRefuse t c

/-- CH_STOP. -/
def execChStop (t c : Nat) (s : State) : Host.Outcome State Fault Refusal := s.run (chStop t c)

/-- A halted channel reads again the next descriptor, if that read had not returned. -/
def Dev.chRefetch (d : Dev) (t c : Nat) (w : List Word) : Dev :=
  match d.chan t c with
  | some x => if wget w Desc.LAST = 0 && x.fetch.isEmpty then d.chFetch t c (wget w Desc.NEXT) else d
  | none => d

/-- CH_RETRY, R389, R394: a descriptor that could not be read is read again, any other is resumed from byte CH_DONE_BYTES, with
its flush read and write-back. -/
def chRetry (t c : Nat) (d : Dev) : Dev :=
  let u := chUnit t c
  if d.chState t c ≠ 3 then d.chRefuse t c
  else
    let d := d.setChState t c 1
    match (d.chan t c).bind ChSt.cur with
    | none => (d.chFetch t c (d.g u DmaCh.CH_ERR_ADDR_ADDR)).chNext t c
    | some w =>
      let d := if descBad w then d else d.chRefetch t c w
      let done := d.g u DmaCh.CH_DONE_BYTES_BYTES
      if descBad w then
        (match d.chDone t c Sc.malformed w true with
          | (d, true) => d.setChState t c 0
          | (d, false) => d)
      else if done < wget w Desc.LEN then d.setChan t c (fun (x : ChSt) => { x with issued := done })
      else d.chLast t c w (lastBurst w (wget w Desc.LEN) 0)

/-- CH_RETRY. -/
def execChRetry (t c : Nat) (s : State) : Host.Outcome State Fault Refusal := s.run (chRetry t c)

/-- CH_SKIP, R389: the failed descriptor completes with its latched status; a channel whose descriptor could not be read has no
NEXT and goes to IDLE (assumption 64). -/
def chSkip (t c : Nat) (d : Dev) : Dev :=
  if d.chState t c ≠ 3 then d.chRefuse t c
  else
    let d := d.setChState t c 1
    match (d.chan t c).bind ChSt.cur with
    | none => d.setChState t c 0
    | some w => (d.chRefetch t c w).chComplete t c (d.g (chUnit t c) DmaCh.CH_STATUS_LAST_STATUS) w

/-- CH_SKIP. -/
def execChSkip (t c : Nat) (s : State) : Host.Outcome State Fault Refusal := s.run (chSkip t c)

/-- R390, R396: channel `c` has a burst ready. -/
def Dev.chReady (d : Dev) (t c : Nat) : Bool :=
  match d.chan t c with
  | some x => d.chState t c = 1 && decide (x.bursts.length < 16) &&
    (match x.cur with
      | some w => decide (x.issued < wget w Desc.LEN) && !x.bursts.any (fun b => b.bad.isSome)
      | none => false)
  | none => false

/-- DMA_BURST, R396: a burst slot goes to the ready requester of lowest priority, round robin among equals; requester 16 is queue
work, ready when `queueReady` says so, whose own steps are commands of their own. -/
def dmaBurst (t : Nat) (queueReady : Bool) (d : Dev) : Dev :=
  let prio := fun (r : Nat) => if r = 16 then d.gk (dmaId t) Dma.DMA_CFG_QUEUE_PRIO else d.g (chUnit t r) DmaCh.CH_CFG_PRIO
  let ready := (List.range 17).filter (fun r => if r = 16 then queueReady else d.chReady t r)
  let best := (ready.map prio).foldl min 8
  let last := ((d.dma.rr.find? (fun x => x.1 = t)).map (fun x => x.2)).getD 16
  let turn := (List.range 17).map (fun i => (last + 1 + i) % 17)
  match turn.find? (fun r => ready.contains r && prio r = best) with
  | none => d
  | some r =>
    let d := { d with dma := { d.dma with rr := d.dma.rr.filter (fun (x : Nat × Nat) => x.1 ≠ t) ++ [(t, r)] } }
    match (d.chan t r).bind ChSt.cur, d.chan t r with
    | some w, some x =>
      if r = 16 then d
      else
        let n := burstLen w x.issued
        let b : ChBurst :=
          { off := x.issued, len := n, data := none, bad := d.accessBad (wget w Desc.SRC_SPACE) (descSrc w x.issued) n }
        (d.setChan t r (fun (x : ChSt) => { x with issued := x.issued + n, bursts := x.bursts ++ [b] })).chGo t r
    | _, _ => d

/-- DMA_BURST. -/
def execDmaBurst (t : Nat) (queueReady : Bool) (s : State) : Host.Outcome State Fault Refusal := s.run (dmaBurst t queueReady)

/-- The outstanding descriptor read of a running channel returns. -/
def Dev.fetchReturn (d : Dev) (t c : Nat) (words : Option (List Word)) (bad : Option Nat) : Dev :=
  if d.chState t c ≠ 1 then d
  else
    let f := fun (y : ChFetch) => if y.words.isNone && y.bad.isNone then { y with words := words, bad := bad } else y
    (d.setChan t c (fun (x : ChSt) => { x with fetch := x.fetch.map f })).chNext t c

/-- DESCRIPTOR_READ_RETURN, R387, R388, R503: `words` are those read from host memory; those of harness space are read from the
window. One with bad `parity` halts the channel. -/
def descriptorReadReturn (t c : Nat) (words : List Word) (parity : Bool) (d : Dev) : Dev :=
  match (d.chan t c).bind (fun x => x.fetch.find? (fun y => y.words.isNone && y.bad.isNone)) with
  | none => d
  | some f =>
    let ws := if d.g (chUnit t c) DmaCh.CH_CFG_DESC_SPACE = 0 then toWords 4 (d.windowRead f.addr 32)
      else (List.range 4).map (fun i => words.getD i 0)
    if !parity && d.chState t c = 1 then (d.meshErr (dmaId t) f.addr).fetchReturn t c none (some 6)
    else d.fetchReturn t c (some ws) none

/-- DESCRIPTOR_READ_RETURN: `words` are those read, with whether their parity is good. -/
def execDescriptorReadReturn (t c : Nat) (words : List Word × Bool) (s : State) : Host.Outcome State Fault Refusal :=
  s.run (descriptorReadReturn t c words.1 words.2)

/-- The read of the burst at byte `off` returns. -/
def Dev.burstReturn (d : Dev) (t c off : Nat) (data : Option (List Byte)) (bad : Option Nat) : Dev :=
  if d.chState t c ≠ 1 then d
  else
    let f := fun (b : ChBurst) => if b.off = off && b.data.isNone && b.bad.isNone then { b with data := data, bad := bad } else b
    (d.setChan t c (fun (x : ChSt) => { x with bursts := x.bursts.map f })).chGo t c

/-- BURST_READ_RETURN, R390, R503: `data` is what host memory holds; harness space is read from the window. Data with bad `parity`
halts the channel. -/
def burstReadReturn (t c off : Nat) (data : List Byte) (parity : Bool) (d : Dev) : Dev :=
  match (d.chan t c).bind ChSt.cur, (d.chan t c).bind (fun x => x.bursts.find? (fun b => b.off = off)) with
  | some w, some b =>
    if !parity && d.chState t c = 1 then (d.meshErr (dmaId t) (descSrc w off)).burstReturn t c off none (some 6)
    else d.burstReturn t c off (some (if wget w Desc.SRC_SPACE = 0 then d.windowRead (descSrc w off) b.len else data)) none
  | _, _ => d

/-- BURST_READ_RETURN: `data` is what was read, with whether its parity is good. -/
def execBurstReadReturn (t c off : Nat) (data : List Byte × Bool) (s : State) : Host.Outcome State Fault Refusal :=
  s.run (burstReadReturn t c off data.1 data.2)

/-- FLUSH_READ_RETURN, R391. -/
def flushReadReturn (t c : Nat) (d : Dev) : Dev :=
  match d.chan t c with
  | some x => (match x.cur with
    | some w => if x.flush && d.chState t c = 1 then
        (d.setChan t c (fun (x : ChSt) => { x with flush := false })).chComplete t c Sc.ok w else d
    | none => d)
  | none => d

/-- FLUSH_READ_RETURN. -/
def execFlushReadReturn (t c : Nat) (s : State) : Host.Outcome State Fault Refusal := s.run (flushReadReturn t c)

/-- CHANNEL_HALT, R393: an outstanding access of a running channel fails with a cause: the read of the burst at byte `off` (DIR
1), the harness-space write of the oldest burst (2), a descriptor read (3) or the flush read (5). Failures take effect in
request order. -/
def channelHalt (t c dir cause off : Nat) (d : Dev) : Dev :=
  match d.chan t c with
  | none => d
  | some x =>
    if d.chState t c ≠ 1 || cause = 0 then d
    else if dir = 3 then d.fetchReturn t c none (some cause)
    else
      match x.cur with
      | none => d
      | some w =>
        if dir = 1 then d.burstReturn t c off none (some cause)
        else if dir = 2 && wget w Desc.DST_SPACE = 0 && (x.bursts.head?.map ChBurst.off) = some off then
          d.chHalt t c 2 0 cause (descDst w off)
        else if dir = 5 && x.flush then
          d.chHalt t c 5 (wget w Desc.DST_SPACE) cause (lastBurst w (wget w Desc.LEN) 0)
        else d

/-- CHANNEL_HALT. -/
def execChannelHalt (t c dir cause off : Nat) (s : State) : Host.Outcome State Fault Refusal :=
  s.run (channelHalt t c dir cause off)

/-- R395: on a reset of the link of `pf`, every channel with an access outstanding on it, or about to issue one, halts with
cause 8. -/
def Dev.chLinkReset (d : Dev) (pf : Nat) : Dev :=
  let sp := pf + 1
  d.dma.chans.foldl (fun (d : Dev) x =>
    let u := chUnit x.tile x.ch
    let done := d.g u DmaCh.CH_DONE_BYTES_BYTES
    let desc : Bool := d.g u DmaCh.CH_CFG_DESC_SPACE = sp
    let waits := x.fetch.find? (fun f => f.words.isNone)
    if d.chState x.tile x.ch ≠ 1 then d
    else
      match x.cur with
      | some w =>
        let halt := fun (dir a : Nat) => d.chHalt x.tile x.ch dir sp 8 a
        if wget w Desc.SRC_SPACE = sp && decide (done < wget w Desc.LEN) then halt 1 (descSrc w done)
        else if wget w Desc.DST_SPACE = sp && decide (done < wget w Desc.LEN) then halt 2 (descDst w done)
        else if wget w Desc.DST_SPACE = sp && x.flush then halt 5 (lastBurst w (wget w Desc.LEN) 0)
        else if desc && wget w Desc.WB = 1 then halt 4 (d.g u DmaCh.CH_CUR_DESC_ADDR + 16)
        else (match desc, waits with
          | true, some f => halt 3 f.addr
          | _, _ => d)
      | none => (match desc, waits with
        | true, some f => d.chHalt x.tile x.ch 3 sp 8 f.addr
        | _, _ => d)) d

/-- R398: UNIT_RESET of tile `t` stops its channels without write-back or event. -/
def Dev.chReset (d : Dev) (t : Nat) : Dev :=
  { d with dma := { d.dma with
    chans := d.dma.chans.filter (fun (x : ChSt) => x.tile ≠ t)
    rr := d.dma.rr.filter (fun (x : Nat × Nat) => x.1 ≠ t) } }

end Sys2Proof.Machine
end

