-- ==== Sys2Proof/Machine/ImageFmt.lean ====
section
/-! DEFINITION. The layout of a harness image and the checks of R53: header, directory, sections, signature, tree,
capacity and patch scope (R35 to R54, R61, R62, R68, R98 to R100, R113, R114, R227, R248, R313, R314). -/

namespace Sys2Proof.Machine

/-- `n` bytes of an image at `o` as a little-endian number (R35). -/
def leAt (b : List Byte) (o n : Nat) : Nat := leNat (sliceBytes b o n)

/-- Every byte of a range is 0. -/
def zeroAt (b : List Byte) (o n : Nat) : Bool := (sliceBytes b o n).all (· = 0)

/-! ### Header and directory (R36, R37) -/

namespace Image
/-- MAGIC. -/
def magic (b : List Byte) : Nat := leAt b 0 4
/-- IMAGE_KIND. -/
def kind (b : List Byte) : Nat := leAt b 6 1
/-- IMAGE_SIZE. -/
def size (b : List Byte) : Nat := leAt b 8 4
/-- SIG_OFFSET. -/
def sigOff (b : List Byte) : Nat := leAt b 12 4
/-- SECTION_COUNT. -/
def sections (b : List Byte) : Nat := leAt b 22 2
/-- IMAGE_SEQ. -/
def seq (b : List Byte) : Nat := leAt b 32 4
/-- SVN. -/
def svn (b : List Byte) : Nat := leAt b 36 2
/-- DIR_OFFSET. -/
def dirOff (b : List Byte) : Nat := leAt b 40 4
/-- TARGET_HITCH. -/
def target (b : List Byte) : Nat := leAt b 44 3
/-- BASE_SEQ. -/
def baseSeq (b : List Byte) : Nat := leAt b 48 4
/-- MIRROR_FMT_MIN. -/
def fmtMin (b : List Byte) : Nat := leAt b 18 1
/-- MIRROR_FMT_MAX. -/
def fmtMax (b : List Byte) : Nat := leAt b 19 1
/-- RELAY_EPOCH. -/
def epoch (b : List Byte) : Nat := leAt b 20 2
end Image

/-- A section as its directory entry describes it, with its directory index and bytes. -/
structure Sect where
  idx : Nat
  typ : Nat
  ver : Nat
  items : Nat
  off : Nat
  len : Nat
  crc : Nat
  owner : Nat
  data : List Byte
  deriving DecidableEq, Repr

/-- R37: the sections of an image in directory order. -/
def sectionsOf (b : List Byte) : List Sect :=
  (List.range (Image.sections b)).map (fun i =>
    let e := Image.dirOff b + 32 * i
    { idx := i, typ := leAt b e 1, ver := leAt b (e + 1) 1, items := leAt b (e + 4) 4, off := leAt b (e + 8) 4
      len := leAt b (e + 12) 4, crc := leAt b (e + 16) 4, owner := leAt b (e + 20) 3
      data := sliceBytes b (leAt b (e + 8) 4) (leAt b (e + 12) 4) })

/-- Sections of a type. -/
def ofType (ss : List Sect) (t : Nat) : List Sect := ss.filter (fun s => s.typ = t)

/-- Why an image is refused: status, byte offset and directory index, 0xFFFF for the header or signature block (R55). -/
structure Fail where
  status : Nat
  offset : Nat
  sect : Nat
  deriving DecidableEq, Repr

/-- A check that must hold, with what its failure reports. -/
structure Chk where
  good : Bool
  fail : Fail
  deriving DecidableEq, Repr

/-- R53: the first check that fails. -/
def firstFail (cs : List Chk) : Option Fail := (cs.find? (fun c => !c.good)).map Chk.fail

/-- A check of the header or signature block. -/
def hchk (st off : Nat) (good : Bool) : Chk := { good := good, fail := { status := st, offset := off, sect := 0xFFFF } }

/-- A check of section `s` at byte `off` of the section. -/
def schk (st : Nat) (s : Sect) (off : Nat) (good : Bool) : Chk :=
  { good := good, fail := { status := st, offset := s.off + off, sect := s.idx } }

/-! ### Steps 1 to 6 -/

/-- Step 1 of R53 on the bytes supplied. -/
def checkFormat (b : List Byte) (supplied : Nat) : List Chk :=
  let hdr := sliceBytes b 0 256
  [ hchk Sc.imageFormat 0 (Image.magic b = 0x48455A41), hchk Sc.imageFormat 4 (leAt b 4 2 = 256)
  , hchk Sc.imageFormat 6 (Image.kind b = 1 || Image.kind b = 2)
  , hchk Sc.imageFormat 0x38 (crc32c (spliceBytes hdr 0x38 [0, 0, 0, 0]) = leAt b 0x38 4)
  , hchk Sc.imageFormat 8 (decide (Image.size b ≤ 67108864) && Image.size b = Image.sigOff b + 0x1D40 &&
      Image.size b = supplied) ]

/-- Step 2 of R53: the signature block and its key (R51, R52). -/
def checkKey (f : FuseSt) (b : List Byte) : List Chk :=
  let o := Image.sigOff b
  let slot := leAt b (o + 6) 1
  let dig := f.imgKeys.getD slot []
  [ hchk Sc.imageKey o (leAt b o 4 = 0x4E474953), hchk Sc.imageKey (o + 4) (leAt b (o + 4) 2 = 0x1D40)
  , hchk Sc.imageKey (o + 6) (decide (slot ≤ 3) && !dig.all (· = 0) && f.imgRevoke / 2 ^ slot % 2 = 0 &&
      Config.sha384 (sliceBytes b (o + 0x40) 97 ++ sliceBytes b (o + 0xA8) 2592) = dig) ]

/-- The context string of R52. -/
def mldsaContext : List Byte := [0x5A, 0x53, 0x2D, 0x41, 0x45, 0x33, 0x32, 0x30, 0x30]

/-- R52: the digest the signatures cover. -/
def imageDigest (b : List Byte) : List Byte := Config.sha384 (sliceBytes b 0 (Image.sigOff b))

/-- Step 3 of R53. -/
def checkSig (b : List Byte) : List Chk :=
  let o := Image.sigOff b
  let m := imageDigest b
  [ hchk Sc.imageSignature (o + 0xAC8)
      (Config.ecdsaVerify (sliceBytes b (o + 0x40) 97) m (sliceBytes b (o + 0xAC8) 96))
  , hchk Sc.imageSignature (o + 0xB28)
      (Config.mldsaVerify (sliceBytes b (o + 0xA8) 2592) m mldsaContext (sliceBytes b (o + 0xB28) 4627)) ]

/-- Steps 4 to 6 of R53, with the header of the running full image and the feature word. -/
def checkVersion (f : FuseSt) (features : Nat) (running b : List Byte) : List Chk :=
  [ hchk Sc.imageRollback 0x24 (decide (f.imgSvn ≤ Image.svn b))
  , hchk Sc.imageVersion 0x11 (leAt b 17 1 = 3), hchk Sc.imageVersion 0x10 (decide (leAt b 16 1 ≤ 1))
  , hchk Sc.imageVersion 0x12 (Image.kind b = 1 || Image.fmtMin b = Image.fmtMin running)
  , hchk Sc.imageVersion 0x13 (Image.kind b = 1 || Image.fmtMax b = Image.fmtMax running)
  , hchk Sc.imageVersion 0x14 (Image.kind b = 1 || Image.epoch b = Image.epoch running)
  , hchk Sc.imageFeature 0x18 (Nat.land (leAt b 24 8) features = leAt b 24 8) ]

/-! ### Records of the sections -/

/-- A hitch record of R39 with its member list and its place in the section. -/
structure HRec where
  at_ : Nat
  id : Nat
  kind : Nat
  parent : Nat
  slot : Nat
  maxC : Nat
  stride : Nat
  first : Nat
  minM : Nat
  maxM : Nat
  pool : Nat
  pin : Bool
  enable : Nat
  evsrc : Nat
  floor : Nat
  ceil : Nat
  list : List Nat
  deriving DecidableEq, Repr

/-- Length of a hitch record with `n` list entries. -/
def hrecLen (n : Nat) : Nat := 64 + (4 * n + 7) / 8 * 8

/-- R39: the record at `o` of a STRUCTURE section. -/
def hrecAt (b : List Byte) (o : Nat) : HRec :=
  let w := fun (i : Nat) => BitVec.ofNat 64 (leAt b (o + 8 * i) 8)
  let n := getBits (w 4) 32 16
  { at_ := o, id := getBits (w 0) 0 24, kind := getBits (w 0) 24 8, parent := getBits (w 0) 32 24
    slot := getBits (w 1) 0 16, maxC := getBits (w 1) 16 16, stride := getBits (w 1) 32 6, first := getBits (w 2) 0 48
    minM := getBits (w 3) 0 16, maxM := getBits (w 3) 16 16, pool := getBits (w 3) 32 24, pin := getBits (w 3) 56 1 = 1
    enable := getBits (w 4) 0 1, evsrc := getBits (w 4) 1 13, floor := getBits (w 4) 16 3, ceil := getBits (w 4) 20 3
    list := (List.range n).map (fun i => leAt b (o + 64 + 4 * i) 3) }

/-- The records of a STRUCTURE section, `n` of them from byte `o`. -/
def hrecsFrom (b : List Byte) : Nat → Nat → List HRec
  | 0, _ => []
  | n + 1, o => let r := hrecAt b o; r :: hrecsFrom b n (o + hrecLen r.list.length)

/-- The hitch records of an image. -/
def hrecsOf (ss : List Sect) : List HRec :=
  (ofType ss 1).flatMap (fun s => hrecsFrom s.data s.items 0)

/-- R41: the bindings of an image, each with its section and offset. -/
def bindingsOf (ss : List Sect) : List (Sect × Nat × Binding) :=
  (ofType ss 2).flatMap (fun s => (List.range s.items).map (fun i =>
    let o := 32 * i
    (s, o, { kind := leAt s.data o 1, target := leAt s.data (o + 2) 3, srcA := leAt s.data (o + 8) 4
             srcB := leAt s.data (o + 12) 4, argA := leAt s.data (o + 16) 8, argB := leAt s.data (o + 24) 8 })))

/-- R49: the bounds of an image, each with its section and offset. -/
def boundsOf (ss : List Sect) : List (Sect × Nat × Bound) :=
  (ofType ss 7).flatMap (fun s => (List.range s.items).map (fun i =>
    let o := 32 * i
    (s, o, { id := leAt s.data o 2, scope := leAt s.data (o + 2) 3, min := leAt s.data (o + 8) 8
             max := leAt s.data (o + 16) 8, initial := leAt s.data (o + 24) 8 })))

/-- R43: the parse graph of a PARSE_GRAPH section. -/
def graphOf (s : Sect) : Graph :=
  let n := leAt s.data 0 2
  let t := leAt s.data 2 4
  { nodes := (List.range n).map (fun i => toWords 4 (sliceBytes s.data (16 + 32 * i) 32))
    trans := toWords t (s.data.drop (16 + 32 * n)), start := leAt s.data 8 2 }

/-- R44: the code of an ENGINE_CODE section. -/
def codeOf (s : Sect) : CodeCopy :=
  let c := leAt s.data 0 4
  { owner := s.owner, entry := leAt s.data 8 2, code := sliceBytes s.data 16 c
    data := sliceBytes s.data (16 + c) (leAt s.data 4 4) }

/-- A TABLE_LAYOUT record of R45 with HBM_BYTES, as a table without resources. -/
structure Layout where
  sect : Sect
  at_ : Nat
  tbl : Tbl
  hbm : Nat
  deriving DecidableEq, Repr

/-- R45: the tables of an image. -/
def layoutsOf (ss : List Sect) : List Layout :=
  (ofType ss 4).flatMap (fun s => (List.range s.items).map (fun i =>
    let o := 32 * i
    { sect := s, at_ := o, hbm := leAt s.data (o + 16) 8
      tbl :=
        { id := leAt s.data o 2, kind := leAt s.data (o + 2) 1, keyBits := leAt s.data (o + 3) 2
          entryBytes := leAt s.data (o + 5) 2, entryCount := leAt s.data (o + 8) 4, tcam := leAt s.data (o + 12) 2
          onchip := leAt s.data (o + 24) 8, owner := s.owner, flowBase := 0, firstBlock := 0, part := 0
          ctl0 := BitVec.ofNat 64 (2 + 4 * 2 ^ 8), ctl1 := 0, stats := List.replicate 13 0, sweepPos := 0, sweepP := 0
          offline := false, agedN := 0, agedAt := none, learnAt := none, attempts := [], damaged := [], badBuckets := [], cache := []
          rr := [] } }))

/-- R48: the table, mode, first index and entries of an INIT_CONTENTS section, entries of `n` bytes. -/
def initEntries (s : Sect) (n : Nat) : List (List Word) :=
  (List.range s.items).map (fun i => toWords (n / 8) (sliceBytes s.data (16 + n * i) n))

/-- TABLE_ID of an INIT_CONTENTS section. -/
def initTable (s : Sect) : Nat := leAt s.data 0 2
/-- MODE of an INIT_CONTENTS section. -/
def initMode (s : Sect) : Nat := leAt s.data 2 1
/-- FIRST_INDEX of an INIT_CONTENTS section. -/
def initFirst (s : Sect) : Nat := leAt s.data 4 4

/-! ### Step 7: directory, CRCs and record formats -/

/-- Intervals of the image that hold something: header, directory, sections, signature block. -/
def parts (b : List Byte) (ss : List Sect) : List (Nat × Nat) :=
  (0, 256) :: (Image.dirOff b, 32 * Image.sections b) :: (Image.sigOff b, 0x1D40) :: ss.map (fun s => (s.off, s.len))

/-- R35: bytes that belong to nothing are 0. -/
def gapsZero (b : List Byte) (ss : List Sect) : Bool :=
  (List.range b.length).all (fun i => b.getD i 0 = 0 || (parts b ss).any (fun p => decide (p.1 ≤ i) && decide (i < p.1 + p.2)))

/-- Two intervals do not overlap. -/
def apart (a b : Nat × Nat) : Bool := decide (a.1 + a.2 ≤ b.1) || decide (b.1 + b.2 ≤ a.1) || a.2 = 0 || b.2 = 0

/-- R36, R51: reserved bits and field rules of the header and signature block. -/
def checkHeader (b : List Byte) : List Chk :=
  let k := Image.kind b
  let o := Image.sigOff b
  let st := Sc.imageSection
  [ hchk st 7 (zeroAt b 7 1), hchk st 0x0C (o % 64 = 0)
  , hchk st 0x16 (decide (1 ≤ Image.sections b) && decide (Image.sections b ≤ 4096)), hchk st 0x26 (zeroAt b 38 2)
  , hchk st 0x28 (decide (256 ≤ Image.dirOff b) && Image.dirOff b % 64 = 0 &&
      decide (Image.dirOff b + 32 * Image.sections b ≤ o))
  , hchk st 0x2C (k = 2 || Image.target b = 0), hchk st 0x2F (zeroAt b 47 1), hchk st 0x30 (k = 2 || Image.baseSeq b = 0)
  , hchk st 0x3C (zeroAt b 60 4), hchk st 0x80 (zeroAt b 128 128)
  , hchk st (o + 7) (zeroAt b (o + 7) 57 && zeroAt b (o + 0xA1) 7 && zeroAt b (o + 0x1D3B) 5) ]

/-- R35, R37: bounds, alignment, overlap, reserved bits, CRC and version of the section in directory slot `s.idx`. -/
def checkEntry (b : List Byte) (ss : List Sect) (s : Sect) : List Chk :=
  let e := Image.dirOff b + 32 * s.idx
  let at_ := fun (k : Nat) (g : Bool) => ({ good := g, fail := { status := Sc.imageSection, offset := e + k, sect := s.idx } } : Chk)
  [ at_ 2 (zeroAt b (e + 2) 2 && zeroAt b (e + 23) 1 && zeroAt b (e + 24) 8)
  , at_ 8 (s.off % 64 = 0 && decide (Image.dirOff b + 32 * Image.sections b ≤ s.off) &&
      decide (s.off + s.len ≤ Image.sigOff b))
  , at_ 8 ((ss.take s.idx).all (fun t => apart (t.off, t.len) (s.off, s.len)))
  , at_ 1 (s.ver = 1), at_ 0x10 (crc32c s.data = s.crc) ]

/-- R38: least and greatest number of sections of a type in an image of a kind. -/
def countRule (kind typ : Nat) : Nat × Nat :=
  match typ with
  | 1 => (1, 1)
  | 2 => (0, 1)
  | 3 => if kind = 1 then (1, 1) else (0, 0)
  | 4 => (0, 256)
  | 5 => (0, 4096)
  | 6 => (0, 4096)
  | 7 => if kind = 1 then (1, 1) else (0, 1)
  | 8 => (0, 1)
  | _ => (0, 0)

/-- R38: the section counts, and no NOTE above 64 KiB. -/
def checkCounts (b : List Byte) (ss : List Sect) : List Chk :=
  (List.range 8).map (fun i =>
    let n := (ofType ss (i + 1)).length
    let (lo, hi) := countRule (Image.kind b) (i + 1)
    hchk Sc.imageSection (Image.dirOff b) (decide (lo ≤ n) && decide (n ≤ hi))) ++
  ss.map (fun s => schk Sc.imageSection s 0 (decide (1 ≤ s.typ) && decide (s.typ ≤ 8) && (s.typ ≠ 8 || decide (s.len ≤ 65536))))

/-- R18, R39: the format of a hitch record. `root` says that it is the first record of a full image, whose SLOT must be 0 (assumption
116). -/
def hrecOk (b : List Byte) (r : HRec) (root : Bool) : Bool :=
  let o := r.at_
  let w := fun (i : Nat) => BitVec.ofNat 64 (leAt b (o + 8 * i) 8)
  let n := r.list.length
  let k := r.kind
  getBits (w 0) 56 8 = 0 && getBits (w 1) 38 26 = 0 && getBits (w 2) 48 16 = 0 && getBits (w 3) 57 7 = 0 &&
    getBits (w 4) 14 2 = 0 && getBits (w 4) 19 1 = 0 && getBits (w 4) 23 9 = 0 && getBits (w 4) 48 16 = 0 &&
    zeroAt b (o + 40) 24 && (List.range n).all (fun i => zeroAt b (o + 64 + 4 * i + 3) 1) &&
    zeroAt b (o + 64 + 4 * n) (hrecLen n - 64 - 4 * n) &&
    (if root then r.id = 0 && k = 0x81 && r.parent = 0 && r.slot = 0
      else decide (0x1000 ≤ r.id) && (k = 0x80 || (decide (0x82 ≤ k) && decide (k ≤ 0x85)) || decide (0xC0 ≤ k))) &&
    decide (1 ≤ r.maxC) && decide (16 ≤ r.stride) && decide (r.stride ≤ 47) && decide (r.floor ≤ 5) && decide (r.ceil ≤ 5) &&
    !(decide (1016 ≤ r.evsrc % 1024) && (r.evsrc / 1024 % 4 = 2 || (r.evsrc / 1024 % 4 = 3 && root))) &&
    (k = 0x83 && decide (r.minM ≤ r.maxM) && decide (r.maxM ≤ r.maxC) ||
      k ≠ 0x83 && r.minM = 0 && r.maxM = 0 && r.pool = 0 && !r.pin)

/-- R39: the STRUCTURE section's records fill it exactly and are well formed. -/
def checkStructure (kind : Nat) (s : Sect) : List Chk :=
  let rs := hrecsFrom s.data s.items 0
  schk Sc.imageSection s 0 (decide (1 ≤ s.items) && (rs.map (fun r => hrecLen r.list.length)).foldl (· + ·) 0 = s.len) ::
    rs.zipIdx.map (fun (r, i) => schk Sc.imageSection s r.at_ (hrecOk s.data r (kind = 1 && i = 0)))

/-- R41: the format of a binding. A class mask of 0 and a range of no queues bind nothing and are accepted (assumption 111). -/
def bindingOk (w : List Byte) (x : Binding) : Bool :=
  zeroAt w 1 1 && zeroAt w 5 3 &&
    (match x.kind with
     | 1 => decide (x.srcA ≤ 15) && decide (x.srcB < 256) && x.argA = 0 && x.argB = 0
     | 2 => decide (x.srcA < 2 ^ 18) && decide (x.srcA + x.srcB ≤ 2 ^ 18) && x.argA = 0 && x.argB = 0
     | 3 => decide (x.srcA < 4096) && x.srcB = 0 && x.argA = 0 && x.argB = 0
     | 4 => Nat.land x.srcA 0x3F0F01 = x.srcA && (x.srcA / 256 % 16 = 0 || x.srcA / 256 % 16 = 2) &&
         decide (12 ≤ x.srcB) && decide (x.srcB ≤ 40) && decide (x.argB < 2 ^ 48)
     | _ => false)

/-- R43, R98: the parse graph's section. -/
def checkGraph (s : Sect) : List Chk :=
  let n := leAt s.data 0 2
  let t := leAt s.data 2 4
  [ schk Sc.imageSection s 0 (zeroAt s.data 6 2 && zeroAt s.data 10 6)
  , schk Sc.imageSection s 0 (s.len = 16 + 32 * n + 8 * t && (graphOf s).ok) ]

/-- R44: an ENGINE_CODE section. -/
def checkCode (s : Sect) : List Chk :=
  let c := leAt s.data 0 4
  let n := leAt s.data 4 4
  [ schk Sc.imageSection s 10 (zeroAt s.data 10 6)
  , schk Sc.imageSection s 0 (c % 4 = 0 && decide (c ≤ 65536) && decide (n ≤ 196608) && s.len = 16 + c + n) ]

/-- A power of two in a range. -/
def pow2In (n lo hi : Nat) : Bool :=
  decide (lo ≤ n) && decide (n ≤ hi) && (List.range 32).any (fun i => 2 ^ i = n)

/-- R113, R227, R248: the rules of a TABLE_LAYOUT record by kind. -/
def layoutOk (l : Layout) : Bool :=
  let t := l.tbl
  let n := t.entryCount
  let plain := fun (bytes most hbm : Nat) =>
    t.keyBits = 0 && t.entryBytes = bytes && decide (1 ≤ n) && decide (n ≤ most) && t.tcam = 0 && l.hbm = n * hbm && t.onchip = 0
  match t.kind with
  | 1 => decide (1 ≤ t.keyBits) && decide (t.keyBits ≤ 320) && t.entryBytes = 256 && pow2In n 4096 16777216 && t.tcam = 0 &&
      l.hbm = n * 272 && t.onchip % 2 ^ 20 = 0 && decide (t.onchip ≤ min (2 ^ 26) (n * 64))
  | 2 => t.keyBits = 72 && t.entryBytes = 16 && pow2In n 4096 2097152 && t.tcam = 0 && l.hbm = n * 32 &&
      t.onchip % 2 ^ 20 = 0 && decide (t.onchip ≤ n * 32)
  | 3 => t.keyBits = 160 && t.entryBytes = 32 && n = t.tcam * 4096 && decide (1 ≤ t.tcam) && decide (t.tcam ≤ 128) &&
      l.hbm = 0 && t.onchip = 0
  | 4 => plain 32 1048576 32
  | 5 => plain 32 262144 0
  | 6 => plain 256 2097152 256
  | 7 => plain 16 16777216 16
  | 8 => pow2In t.entryBytes 8 256 && plain t.entryBytes 16777216 t.entryBytes
  | _ => false

/-- R45, R113: a TABLE_LAYOUT section; no TABLE_ID of the image appears twice, nor among `kept` tables (assumption 12). -/
def checkLayout (kept : List Nat) (all : List Layout) (s : Sect) : List Chk :=
  schk Sc.imageSection s 0 (s.len = 32 * s.items) ::
    (all.filter (fun l => l.sect.idx = s.idx)).map (fun l => schk Sc.imageSection s l.at_
      (zeroAt s.data (l.at_ + 7) 1 && zeroAt s.data (l.at_ + 14) 2 && layoutOk l && !kept.contains l.tbl.id &&
        (all.filter (fun m => m.tbl.id = l.tbl.id)).length = 1))

/-- R115, R228, R237: an initial entry breaks no format rule of its table's kind. -/
def initOk (t : Tbl) (ws : List Word) : Bool :=
  if keyed t.kind then t.entryOk ws
  else if t.kind = 4 then polOkWords (ws.getD 0 0) (ws.getD 1 0)
  else if t.kind = 5 then shaperOkWords (ws.getD 0 0) (ws.getD 1 0)
  else true

/-- R48: an INIT_CONTENTS section fills a table the image lays out, in the mode of its kind. -/
def checkInit (all : List Layout) (s : Sect) : List Chk :=
  match all.find? (fun l => l.tbl.id = initTable s) with
  | none => [schk Sc.imageSection s 0 false]
  | some l =>
    let n := l.tbl.entryBytes
    [ schk Sc.imageSection s 0 (zeroAt s.data 3 1 && zeroAt s.data 8 8)
    , schk Sc.imageSection s 2 (initMode s = (if keyed l.tbl.kind then 2 else 1) && l.tbl.kind ≠ 6)
    , schk Sc.imageSection s 0 (s.len = 16 + n * s.items) ] ++
      (initEntries s n).zipIdx.map (fun (ws, i) => schk Sc.imageSection s (16 + n * i) (initOk l.tbl ws))

/-- R49: the bounds the table lists, and which of them a hitch may scope. -/
def knownBound (id : Nat) : Bool :=
  [0x01, 0x02, 0x10, 0x11, 0x20, 0x21, 0x22, 0x30, 0x31, 0x40, 0x41, 0x50, 0x60, 0x70].contains id
/-- R49: bounds of device scope only. -/
def deviceBound (id : Nat) : Bool := [0x10, 0x11, 0x31, 0x40, 0x41, 0x70].contains id

/-- R49: a POLICY_BOUNDS section. A second record of one bound and scope is refused (assumption 31). -/
def checkBounds (all : List (Sect × Nat × Bound)) (s : Sect) : List Chk :=
  schk Sc.imageSection s 0 (s.len = 32 * s.items) ::
    (all.filter (fun x => x.1.idx = s.idx)).map (fun x =>
      let b := x.2.2
      schk Sc.imageSection s x.2.1
        (zeroAt s.data (x.2.1 + 5) 3 && knownBound b.id && decide (b.min ≤ b.initial) && decide (b.initial ≤ b.max) &&
          (b.scope = 0 || !deviceBound b.id) &&
          (all.filter (fun y => y.2.2.id = b.id && y.2.2.scope = b.scope)).length = 1))

/-- The checks of step 7 of R53; `kept` are the tables a patch leaves alone. -/
def checkSections (kept : List Nat) (b : List Byte) : List Chk :=
  let ss := sectionsOf b
  let ls := layoutsOf ss
  let bs := bindingsOf ss
  checkHeader b ++ ss.flatMap (checkEntry b ss) ++ [hchk Sc.imageSection 0x100 (gapsZero b ss)] ++ checkCounts b ss ++
    ss.flatMap (fun s =>
      match s.typ with
      | 1 => checkStructure (Image.kind b) s
      | 2 => schk Sc.imageSection s 0 (s.len = 32 * s.items) ::
          (bs.filter (fun x => x.1.idx = s.idx)).map (fun x =>
            schk Sc.imageSection s x.2.1 (bindingOk (sliceBytes s.data x.2.1 32) x.2.2))
      | 3 => checkGraph s
      | 4 => checkLayout kept ls s
      | 5 => checkCode s
      | 6 => checkInit ls s
      | 7 => checkBounds (boundsOf ss) s
      | _ => [])

/-! ### The tree an image makes -/

/-- The hitch a record describes; the root holds the switch core as member 0 (R11). -/
def HRec.hitch (r : HRec) : Hitch :=
  { id := r.id, kind := r.kind, parent := r.parent, slot := r.slot, minM := r.minM, maxM := r.maxM, pool := r.pool
    pin := r.pin, members := if r.id = rootId then switchId :: r.list else r.list, patching := false }

/-- PEs among units. -/
def pesOf (us : List Nat) : List Nat := us.filter (fun u => isPe u)

/-- What a patch of `target` with records `rs` does to PEs: those it takes from the pool and those it gives up (R62). -/
def Dev.patchPes (d : Dev) (target : Nat) (rs : List HRec) : List Nat × List Nat :=
  let old := pesOf (d.subtree target)
  let new := pesOf (rs.flatMap HRec.list)
  (new.filter (fun u => !old.contains u), old.filter (fun u => !new.contains u))

/-- R62: the patch pool of a target. -/
def Dev.patchPool (d : Dev) (target : Nat) : Nat := ((d.hitch target).map Hitch.pool).getD 0

/-- Insert a number into an ascending list. -/
def insertAsc (n : Nat) : List Nat → List Nat
  | [] => [n]
  | x :: xs => if n ≤ x then n :: x :: xs else x :: insertAsc n xs

/-- Numbers in ascending order. -/
def ascending (l : List Nat) : List Nat := l.foldl (fun a n => insertAsc n a) []

/-- R62: members of the patch pool after the patch: those left in their order, then the surplus PEs in ascending order. -/
def Dev.poolAfter (d : Dev) (target : Nat) (rs : List HRec) : List Nat :=
  let (taken, surplus) := d.patchPes target rs
  (d.members (d.patchPool target)).filter (fun u => !taken.contains u) ++ ascending surplus

/-- The hitches after image `b` with records `rs` is applied; a patch's member lists stand as written (assumption 117). -/
def Dev.hitchesAfter (d : Dev) (b : List Byte) (rs : List HRec) : List Hitch :=
  if Image.kind b = 1 then rs.map HRec.hitch
  else
    let t := Image.target b
    let old := d.subtree t
    let pool := d.patchPool t
    (d.hitches.filter (fun (h : Hitch) => !old.contains h.id)).map (fun (h : Hitch) =>
      if pool ≠ 0 && h.id = pool then { h with members := d.poolAfter t rs } else h) ++ rs.map HRec.hitch

/-- The ports an image's port groups make: first lane and width of each (R68). -/
def portsOf (hs : List Hitch) : List (Nat × Nat) :=
  (hs.filter (fun h => h.kind = 0x84)).map (fun h => (h.members.foldl (fun m u => min m (u - 0x26C)) 15, h.members.length))

/-- R68: a port group's members are the MAC blocks of one aligned run of 1, 2, 4 or 8 lanes. -/
def portGroupOk (wide : Bool) (h : Hitch) : Bool :=
  let n := h.members.length
  let l := h.members.foldl (fun m u => min m (u - 0x26C)) 15
  (n = 1 || (wide && (n = 2 || n = 4 || n = 8))) && l % n = 0 &&
    ascending h.members = (List.range n).map (fun i => macId (l + i))

/-- R200: the top-level engine hitches of a tree. -/
def topEngines (hs : List Hitch) : List Nat :=
  (hs.filter (fun h => h.kind = 0x83 && !hs.any (fun p => p.kind = 0x83 && p.members.contains h.id))).map Hitch.id

/-- Every hitch above unit `u` in a tree of hitches, `u` first. -/
def pathIn (hs : List Hitch) : Nat → Nat → List Nat
  | 0, u => [u]
  | n + 1, u => match hs.find? (fun h => h.members.contains u) with
    | some h => u :: pathIn hs n h.id
    | none => [u]

/-- R148: an engine hitch at or above `u` has code among `owners`. -/
def hasCode (hs : List Hitch) (owners : List Nat) (u : Nat) : Bool :=
  (pathIn hs treeFuel u).any (fun a => owners.contains a)

/-! ### Step 8 -/

/-- R40: what must hold of one record within the resulting tree `hs`. `span` is the greatest span its parent allows. -/
def recTreeOk (rs : List HRec) (hs : List Hitch) (wide : Bool) (owners : List Nat) (before : List HRec)
    (spanMax : Nat) (r : HRec) : Bool :=
  let base := if r.id = rootId then 1 else 0
  let first := before.isEmpty
  let named := (rs.flatMap HRec.list).filter (fun u => u = r.id)
  let up := (hs.flatMap Hitch.members).filter (fun u => u = r.id)
  -- item 1: named once, at its SLOT, after its parent; the first record in no list of the section
  ((first && named.isEmpty) || (!first && named.length = 1 && up.length = 1 && before.any (fun p => p.id = r.parent &&
      p.list[r.slot - (if p.id = rootId then 1 else 0)]? = some r.id && decide ((if p.id = rootId then 1 else 0) ≤ r.slot)))) &&
    (hs.filter (fun h => h.id = r.id)).length = 1 &&
    r.list.all (fun u => decide (u < 0x1000) || rs.any (fun p => p.id = u)) &&
    -- item 3
    decide (r.list.length + base ≤ r.maxC) &&
    (r.kind ≠ 0x83 || (decide (r.minM ≤ r.list.length) && decide (r.list.length ≤ r.maxM))) &&
    -- item 4
    decide (0x10000 ≤ r.first) && r.first % 0x10000 = 0 && decide (r.first + r.maxC * 2 ^ r.stride ≤ spanMax) &&
    -- item 5
    (match r.kind with
     | 0x82 => r.list.all isPe
     | 0x83 => r.list.all (fun u => isPe u || rs.any (fun p => p.id = u && p.kind = 0x83)) &&
         (!r.list.any isPe || hasCode hs owners r.id)
     | 0x84 => portGroupOk wide { r.hitch with id := r.id }
     | 0x85 => r.parent = rootId && r.maxC = 1 && decide (0x80000000 ≤ r.first) &&
         r.list.length = 1 && r.list.all (fun u => fixedKind u = 0x08)
     | _ => r.list.all (fun u => fixedKind u ≠ 0x08)) &&
    -- item 6
    (r.pool = 0 || hs.any (fun h => h.id = r.pool && h.kind = 0x82))

/-- R20, R532: greatest span of the hitch a record describes. -/
def Dev.spanMax (d : Dev) (rs : List HRec) (r : HRec) : Nat :=
  if r.id = rootId then 0xFE0000000000
  else match rs.find? (fun p => p.id = r.parent) with
    | some p => 2 ^ p.stride
    | none => 2 ^ d.g r.parent Hdr.MEMBER_STRIDE_STRIDE_LOG2

/-- R40 item 2, R62: each tile of the scope appears exactly once, and no other unit: all 390 tiles of a full image, and in
a patch the tiles of the old subtree besides PEs. -/
def Dev.tilesOk (d : Dev) (b : List Byte) (rs : List HRec) : Bool :=
  let ts := (rs.flatMap HRec.list).filter (fun u => decide (u < 0x1000))
  let want := if Image.kind b = 1 then (List.range 390).map (· + 0x100)
    else (d.subtree (Image.target b)).filter (fun u => decide (u < 0x1000) && !isPe u)
  want.all (fun u => (ts.filter (· = u)).length = 1) &&
    ts.all (fun u => want.contains u || (Image.kind b = 2 && isPe u && (ts.filter (· = u)).length = 1))

/-- Lane and class pairs, queue ranges, slices and aperture entries of two bindings meet (R42). -/
def Binding.clashes (x y : Binding) : Bool :=
  x.kind = y.kind &&
    (match x.kind with
     | 1 => x.srcA = y.srcA && Nat.land x.srcB y.srcB ≠ 0
     | 2 => x.srcB ≠ 0 && y.srcB ≠ 0 && decide (x.srcA < y.srcA + y.srcB) && decide (y.srcA < x.srcA + x.srcB)
     | 3 => x.srcA = y.srcA
     | _ => x.srcA % 4096 = y.srcA % 4096 && (x.srcA = y.srcA ||
         (decide (x.argA < y.argA + 2 ^ y.srcB) && decide (y.argA < x.argA + 2 ^ x.srcB))))

/-- A bound of a list, device-wide, or its default. -/
def boundIn (bs : List Bound) (id : Nat) : Nat × Nat × Nat :=
  match bs.find? (fun b => b.id = id && b.scope = 0) with
  | some b => (b.min, b.max, b.initial)
  | none => boundDefault id

/-- Harness address of the base of hitch `h`, a member of the root in records `rs` of a full image. -/
def rootMemberBase (rs : List HRec) (h : Nat) : Nat :=
  match rs.find? (fun r => r.id = rootId), rs.find? (fun r => r.id = h) with
  | some r, some x => r.first + x.slot * 2 ^ r.stride
  | _, _ => 0

/-- R313: harness address of the base of host group `h` once image `b` with records `rs` is applied; no patch moves one. -/
def Dev.groupBase (d : Dev) (b : List Byte) (rs : List HRec) (h : Nat) : Nat :=
  if Image.kind b = 1 then rootMemberBase rs h else d.addrOf h

/-- R42, R313: what must hold of a binding alone, in the resulting tree, where its target's base is `base`. -/
def bindingTreeOk (base : Nat) (hs : List Hitch) (adopt : Nat × Nat) (x : Binding) : Bool :=
  hs.any (fun h => h.id = x.target) &&
    (match x.kind with
     | 1 => (portsOf hs).any (fun p => p.1 = x.srcA)
     | 2 => (x.srcB = 0 || decide (1 ≤ x.srcA)) && apart (x.srcA, x.srcB) adopt
     | 3 => true
     | _ =>
       let ep := epId (x.srcA % 2)
       let n := 2 ^ x.srcB
       hs.any (fun h => h.id = x.target && h.kind = 0x85 && h.members.contains ep) &&
         x.argA % n = 0 && x.argB % n = 0 &&
         (if x.srcA / 256 % 16 = 0 then decide (x.srcB ≤ 28) && decide (x.argA + n ≤ 2 ^ 28) && decide (0x100000 ≤ x.argA)
          else decide (x.srcB ≤ 30) && decide (x.argA + n ≤ 2 ^ 30) &&
            x.argB = base + 0x40000000 + x.argA))

/-- Device limits of a bound (R137, R204, R281, R428): least and greatest value it may allow. -/
def boundLimits (b : Bound) : Bool :=
  let within := fun (lo hi : Nat) => decide (lo ≤ b.min) && decide (b.max ≤ hi)
  match b.id with
  | 0x10 => within 2 14
  | 0x11 => within 64 393216
  | 0x20 => within 1000 1000000
  | 0x21 => within 100 1600000
  | 0x22 => within 1 128
  | 0x30 => within 0 5
  | 0x31 => within 0 1
  | 0x60 => within 100 86400000 || b.max = 0
  | 0x70 => within 10 1000000
  | _ => true

/-- Bindings that stay when a patch of `target` is applied (R61 item 5). -/
def Dev.keptBindings (d : Dev) (b : List Byte) : List Binding :=
  if Image.kind b = 1 then [] else d.img.bindings.filter (fun (x : Binding) => !(d.subtree (Image.target b)).contains x.target)

/-- Tables that stay when a patch is applied (R62). -/
def Dev.keptTables (d : Dev) (b : List Byte) : List Tbl :=
  if Image.kind b = 1 then []
  else d.tbl.tables.filter (fun (t : Tbl) => t.owner = 0 || !(d.subtree (Image.target b)).contains t.owner)

/-- Code copies that stay when a patch is applied (R148). -/
def Dev.keptCode (d : Dev) (b : List Byte) : List CodeCopy :=
  if Image.kind b = 1 then [] else d.img.code.filter (fun (c : CodeCopy) => !(d.subtree (Image.target b)).contains c.owner)

/-- Bounds that stay when a patch is applied: those of the old subtree go, whether or not the patch carries a POLICY_BOUNDS section
(R61 item 7; assumption 115). -/
def Dev.keptBounds (d : Dev) (b : List Byte) : List Bound :=
  if Image.kind b = 1 then []
  else d.img.bounds.filter (fun (x : Bound) => x.scope = 0 || !(d.subtree (Image.target b)).contains x.scope)

/-- The checks of step 8 of R53. Of two ENGINE_CODE sections with one OWNER neither is accepted (assumption 112). -/
def Dev.checkTree (d : Dev) (b : List Byte) : List Chk :=
  let ss := sectionsOf b
  let rs := hrecsOf ss
  let hs := d.hitchesAfter b rs
  let code := (d.keptCode b).map CodeCopy.owner ++ (ofType ss 5).map Sect.owner
  let bounds := d.keptBounds b ++ (boundsOf ss).map (fun x => x.2.2)
  let adopt := ((boundIn bounds 0x40).2.2, (boundIn bounds 0x41).2.2)
  let bs := bindingsOf ss
  let ids := hs.map Hitch.id
  let s0 := (ofType ss 1).getD 0 { idx := 0, typ := 1, ver := 1, items := 0, off := 0, len := 0, crc := 0, owner := 0, data := [] }
  [schk Sc.imageTree s0 0 (d.tilesOk b rs), schk Sc.imageTree s0 0 (decide ((topEngines hs).length ≤ 24))] ++
    rs.zipIdx.map (fun (r, i) => schk Sc.imageTree s0 r.at_
      (recTreeOk rs hs (d.feature 8) code (rs.take i) (d.spanMax rs r) r)) ++
    (ofType ss 5).map (fun s => schk Sc.imageTree s 0 (hs.any (fun h => h.id = s.owner && h.kind = 0x83) &&
      ((ofType ss 5).filter (fun t => t.owner = s.owner)).length = 1)) ++
    (ofType ss 4).map (fun s => schk Sc.imageTree s 0 (s.owner = 0 || ids.contains s.owner)) ++
    bs.zipIdx.map (fun (x, i) => schk Sc.imageTree x.1 x.2.1
      (bindingTreeOk (d.groupBase b rs x.2.2.target) hs adopt x.2.2 &&
        !((bs.take i).map (fun y => y.2.2) ++ d.keptBindings b).any (fun y => y.clashes x.2.2))) ++
    (d.keptBindings b).map (fun y => schk Sc.imageTree s0 0 (y.kind ≠ 2 || apart (y.srcA, y.srcB) adopt)) ++
    (boundsOf ss).map (fun x => schk Sc.imageTree x.1 x.2.1
      (boundLimits x.2.2 && (x.2.2.scope = 0 || ids.contains x.2.2.scope)))

/-! ### Step 9: resources (R46, R48, R62, R114) -/

/-- The lowest start from which `n` units are free among used intervals, below `top`. -/
def lowestFree (used : List (Nat × Nat)) (n top : Nat) : Option Nat :=
  let starts := 0 :: used.map (fun u => u.1 + u.2)
  let ok := fun (s : Nat) => decide (s + n ≤ top) && used.all (fun u => apart (s, n) u)
  (ascending (starts.filter ok)).head?

/-- Insert a table by TABLE_ID. -/
def insertTbl (t : Tbl) : List Tbl → List Tbl
  | [] => [t]
  | x :: xs => if t.id < x.id then t :: x :: xs else x :: insertTbl t xs

/-- R114, R227, R248: ranges of flow IDs, shapers and SAs, cache partitions and TCAM blocks for the tables of a list in
ascending TABLE_ID order, beside those that have theirs. -/
def allocTables (have_ : List Tbl) : List Tbl → Option (List Tbl)
  | [] => some have_
  | t :: ts =>
    let base := if t.kind = 1 ∨ t.kind = 5 ∨ t.kind = 6 then
        lowestFree ((have_.filter (fun x => x.kind = t.kind)).map (fun x => (x.flowBase, x.entryCount))) t.entryCount
          (if t.kind = 1 then 16777216 else if t.kind = 5 then 262144 else 2097152)
      else some 0
    let blk := if t.kind = 3 then
        lowestFree ((have_.filter (fun x => x.kind = 3)).map (fun x => (x.firstBlock, x.tcam))) t.tcam 128 else some 0
    let part := if t.onchip = 0 then some 0 else
        lowestFree ((have_.filter (fun x => x.onchip ≠ 0)).map (fun x => (x.part, x.onchip))) t.onchip (2 ^ 26)
    match base, blk, part with
    | some f, some k, some p => allocTables (insertTbl { t with flowBase := f, firstBlock := k, part := p } have_) ts
    | _, _, _ => none

/-- Sum of a quantity over tables of a kind. -/
def sumKind (ts : List Tbl) (k : Nat) (f : Tbl → Nat) : Nat := ((ts.filter (fun t => t.kind = k)).map f).foldl (· + ·) 0

/-- HBM_BYTES of a table whose layout has passed its checks (R113, R227, R248). -/
def Tbl.hbm (t : Tbl) : Nat :=
  t.entryCount * (match t.kind with | 1 => 272 | 2 => 32 | 4 => 32 | 6 => 256 | 7 => 16 | 8 => t.entryBytes | _ => 0)

/-- R47: the HBM regions the device reserves, from the top of HBM downward. -/
inductive HbmRegion where
  /-- Connection contexts (R267). -/
  | connections
  /-- Storage: extent map, session contexts, namespace and backend records (R287). -/
  | storage
  /-- Partner mirror (R468). -/
  | mirror
  /-- Image staging area (R57, R380). -/
  | staging
  /-- Engine code copies (R148). -/
  | code
  /-- Yoke retransmit buffer (R465). -/
  | yoke
  deriving DecidableEq, Repr

/-- R47: the regions in their order of placement. -/
def HbmRegion.all : List HbmRegion := [.connections, .storage, .mirror, .staging, .code, .yoke]

/-- R47: size of a region in bytes. -/
def HbmRegion.size : HbmRegion → Nat
  | .connections => 2 ^ 31
  | .storage => 2 ^ 34 + 68 * 2 ^ 20 + 2 ^ 17
  | .mirror => 3 * 2 ^ 30
  | .staging => 2 ^ 26
  | .code => 2 ^ 26
  | .yoke => 2 ^ 24

/-- R46, R54: bytes of HBM present, by whether stack 1 exists. -/
def hbmTop (stack1 : Bool) : Nat := if stack1 then 48 * 2 ^ 30 else 24 * 2 ^ 30

/-- R47: lowest HBM address of region `r`: below every region placed before it. -/
def HbmRegion.base (r : HbmRegion) (stack1 : Bool) : Nat :=
  hbmTop stack1 - ((HbmRegion.all.take (HbmRegion.all.idxOf r + 1)).map HbmRegion.size).foldl (· + ·) 0

/-- R46, R47: the HBM that tables may take, from address 0 up to the lowest region. -/
def hbmForTables (stack1 : Bool) : Nat := HbmRegion.yoke.base stack1

/-- R46: the capacity sums of a set of tables. -/
def capacityOk (ts : List Tbl) (stack1 : Bool) : Bool :=
  let n := fun (k : Nat) => sumKind ts k Tbl.entryCount
  decide (n 1 ≤ 16777216) && decide (n 2 ≤ 2097152) && decide (sumKind ts 3 Tbl.tcam ≤ 128) && decide (n 4 ≤ 1048576) &&
    decide (n 5 ≤ 262144) && decide (n 6 ≤ 2097152) && decide ((ts.map Tbl.onchip).foldl (· + ·) 0 ≤ 2 ^ 26) &&
    decide ((ts.map Tbl.hbm).foldl (· + ·) 0 ≤ hbmForTables stack1)

/-- Step 4 of R57, R48, R227: write entry `i` of a section with mode 1 into array table `t`; a shaper or policer starts with
full buckets. -/
def Dev.fillIndex (d : Dev) (t : Tbl) (i : Nat) (ws : List Word) : Dev :=
  if t.kind = 5 then
    let w0 := ws.getD 0 0
    ((d.setOw Cls.shaper.code (t.flowBase + i) 0 w0).setOw Cls.shaper.code (t.flowBase + i) 1
      (BitVec.ofNat 64 (getBits (ws.getD 1 0) 0 8))).cs .shaper (t.flowBase + i) Shp.TOKENS
        (wget [w0] Shp.BURST * 65536)
  else if t.kind = 4 then d.putEntry t i 0 (polFilled (ws.getD 0 0) (ws.getD 1 0) d.time)
  else d.putEntry t i 0 ws

/-- R48: the entries of a section are written in order; the offset of the first that cannot be, if any. -/
def Dev.fillSection (d : Dev) (s : Sect) : Dev × Option Nat :=
  match d.table (initTable s) with
  | none => (d, some 0)
  | some t =>
    (initEntries s t.entryBytes).zipIdx.foldl (fun (acc : Dev × Option Nat) (ws, i) =>
      match acc with
      | (d, some o) => (d, some o)
      | (d, none) =>
        if initMode s = 1 then
          if initFirst s + i < t.entryCount then (d.fillIndex t (initFirst s + i) ws, none)
          else (d, some (16 + t.entryBytes * i))
        else match d.tblInsert t (t.anyFlowId ws) with
          | (d, .ok _) => (d, none)
          | (d, .error _) => (d, some (16 + t.entryBytes * i))) (d, none)

/-- The device with the tables of an image laid out and empty, used to try its contents. -/
def Dev.withTables (d : Dev) (ts : List Tbl) : Dev := { d with tbl := { d.tbl with tables := ts } }

/-- R48: every INIT_CONTENTS section fits, tried on a copy of the device that is then thrown away. -/
def Dev.checkFill (d : Dev) (ss : List Sect) (ts : List Tbl) : List Chk :=
  let kept := ts.map Tbl.id
  let d := { d with objs := stDrop (fun k => decide (k / 2 ^ 64 = Cls.tblEntry.code) &&
    kept.contains (k % 2 ^ 64 / 2 ^ 8 / 2 ^ 32)) d.objs }
  ((ofType ss 6).foldl (fun (acc : Dev × List Chk) s =>
    let (d, o) := acc.1.fillSection s
    (d, acc.2 ++ [schk Sc.imageCapacity s (o.getD 0) o.isNone])) (d.withTables ts, [])).2

/-- The checks of step 9 of R53. -/
def Dev.checkCapacity (d : Dev) (b : List Byte) : List Chk :=
  let ss := sectionsOf b
  let rs := hrecsOf ss
  let kept := d.keptTables b
  let new := (layoutsOf ss).foldl (fun l x => insertTbl x.tbl l) []
  let t := Image.target b
  let (taken, surplus) := d.patchPes t rs
  let pool := d.patchPool t
  let ms := d.members pool
  let supply := (taken.isEmpty && surplus.isEmpty) ||
    (pool ≠ 0 && !d.inSubtree t pool && taken.all (fun u => ms.contains u) &&
      decide (ms.length + surplus.length ≤ d.g pool Hdr.MEMBER_COUNT_MAX_COUNT + taken.length))
  let ts := allocTables kept new
  let s0 := (ofType ss 4).getD 0 { idx := 0xFFFF, typ := 4, ver := 1, items := 0, off := 0, len := 0, crc := 0, owner := 0, data := [] }
  [ schk Sc.imageCapacity s0 0 (capacityOk (kept ++ new) (d.feature 6)), schk Sc.imageCapacity s0 0 ts.isSome
  , hchk Sc.imageCapacity 0x2C (Image.kind b = 1 || supply) ] ++
    (match ts with
     | some ts => d.checkFill ss (ts.filter (fun x => new.any (fun y => y.id = x.id)))
     | none => [])

/-! ### Step 10: the scope of a patch (R61) -/

/-- The checks of step 10 of R53. -/
def Dev.checkScope (d : Dev) (b : List Byte) : List Chk :=
  let ss := sectionsOf b
  let rs := hrecsOf ss
  let t := Image.target b
  let ids := rs.map HRec.id
  let st := Sc.patchTarget
  let last := d.g rootId Root.IMG_ACTIVE_LAST_PATCH_SEQ
  let base := d.g rootId Root.IMG_ACTIVE_BASE_SEQ
  [ hchk st 0x2C (d.isHitch t && d.present t && t ≠ rootId && !(d.subtree t).any (fun u => d.kindOf u = 0x85))
  , hchk st 0x30 (Image.baseSeq b = base)
  , hchk st 0x20 (decide ((if last = 0 then base else last) < Image.seq b)) ] ++
    (ofType ss 1).map (fun s => schk st s 0
      (match rs.head?, d.hitch t with
       | some r, some h => r.id = t && r.kind = h.kind && r.parent = (d.parentOf t).getD rootId &&
           r.slot = (d.members r.parent).idxOf t
       | _, _ => false)) ++
    (bindingsOf ss).map (fun x => schk st x.1 x.2.1 (ids.contains x.2.2.target)) ++
    (ss.filter (fun s => s.typ = 4 || s.typ = 5 || s.typ = 6)).map (fun s => schk st s 0 (ids.contains s.owner)) ++
    (boundsOf ss).map (fun x => schk st x.1 x.2.1 (ids.contains x.2.2.scope))

/-- R53: the checks of every image in order; the first failure, if one. No later step is evaluated after a failure. -/
def Dev.imageCheck (d : Dev) (b : List Byte) (supplied : Nat) : Option Fail :=
  let kept := (d.keptTables b).map Tbl.id
  ((((((firstFail (checkFormat b supplied)).orElse (fun _ => firstFail (checkKey d.fuseLoaded b))).orElse
    (fun _ => firstFail (checkSig b))).orElse
    (fun _ => firstFail (checkVersion d.fuseLoaded (d.g rootId Root.IMG_FEATURE_WORD_FEATURES) d.img.header b))).orElse
    (fun _ => firstFail (checkSections kept b))).orElse (fun _ => firstFail (d.checkTree b))).orElse
    (fun _ => (firstFail (d.checkCapacity b)).orElse
      (fun _ => if Image.kind b = 2 then firstFail (d.checkScope b) else none))

end Sys2Proof.Machine
end

