-- ==== Sys2Proof/Machine/ImageLoad.lean ====
section
/-! DEFINITION. Building what an image describes: hitches, bindings, ports, parse graph, tables, engine code, bounds and
enables, whole (R57) or for the subtree a patch replaces (R61 to R63). -/

namespace Sys2Proof.Machine

/-! ### Hitches -/

/-- R17, R39, R57 step 1: the header of a hitch as its record gives it, STATE READY. MEMBER_GEN counts on, and so do an engine
hitch's counters, which only its UNIT_RESET clears (R155). Events that its old EVENT_SOURCE held are presented (R28). -/
def Dev.buildHitch (d : Dev) (r : HRec) : Dev :=
  let u := r.id
  let gen := d.g u Hdr.MEMBER_GEN_GEN
  let d := if u = rootId then d else (d.resetRegs u (fun off => decide (kb + 0x100 ≤ off) && decide (off < kb + 0x138))).s u
    Hdr.MEMBER_GEN_GEN gen
  let d := ((d.s u Hdr.UNIT_ID u).s u Hdr.UNIT_KIND_KIND r.kind).s u Hdr.UNIT_KIND_KIND_REV 1
  let d := (d.s u Hdr.MEMBER_COUNT_COUNT r.hitch.members.length).s u Hdr.MEMBER_COUNT_MAX_COUNT r.maxC
  let d := (d.s u Hdr.FIRST_MEMBER_OFFSET_OFFSET r.first).s u Hdr.MEMBER_STRIDE_STRIDE_LOG2 r.stride
  let d := ((d.s u Hdr.EVENT_SOURCE_TARGET_EQ r.evsrc).s u Hdr.EVENT_SOURCE_TARGET_OWNER (r.evsrc / 1024)).s u
    Hdr.EVENT_SOURCE_ENABLE (r.evsrc / 4096)
  let d := ((d.s u Hdr.GAIT_STATE_FLOOR r.floor).s u Hdr.GAIT_STATE_CEIL r.ceil).setUst u stReady
  (if r.kind = 0x83 then d.sk u Eh.REIN_HCTL_PIN (if r.pin then 1 else 0) else d).presentWaiting (fun w => w.heldAt = some u)

/-- An engine hitch with nothing dispatched. -/
def EhSt.init (u : Nat) : EhSt :=
  { id := u, fifo := [], next := 0, tags := [], step := none, highLogged := false, lowLogged := false
    broke := true }

/-- The engine hitches of the tree each have their own state; one that stays keeps the packets in its dispatch FIFO with
their tags (assumption 33). -/
def Dev.syncEngines (d : Dev) : Dev :=
  let us := (d.hitches.filter (fun (h : Hitch) => h.kind = 0x83)).map Hitch.id
  let d := { d with ehs := us.map (fun u => (d.ehs.find? (fun (e : EhSt) => e.id = u)).getD (EhSt.init u)) }
  us.foldl (fun (d : Dev) u => d.syncEh u) d

/-! ### Ports (R68, R69, R199, R200) -/

/-- R68, R69, R576: PORT_CFG of every lane follows the port groups. The links of ports that changed go down, and every port whose
link is not coming up yet begins to bring it up. A port that has become wide takes the rate and FEC of its mode (assumption 126). -/
def Dev.setPorts (d : Dev) : Dev :=
  let ps := portsOf d.hitches
  let d := (List.range 16).foldl (fun (d : Dev) l =>
    let (f, w) := match ps.find? (fun p => decide (p.1 ≤ l) && decide (l < p.1 + p.2)) with
      | some (f, w) => (f, if f = l then w else 0)
      | none => (l, 0)
    if d.mf l Mac.PORT_CFG_WIDTH = w && d.mf l Mac.PORT_CFG_FIRST_LANE = f then d
    else
      let d := if d.isPort l then (d.setLock l 0).evalLink l else d
      let d := ((d.setMf l Mac.PORT_CFG_WIDTH w).setMf l Mac.PORT_CFG_FIRST_LANE f).setMf l Mac.PORT_STATUS_TRAIN_STATE 0
      if 1 < w then (d.setMf l Mac.PORT_CFG_LANE_RATE 0).setMf l Mac.PORT_CFG_FEC_MODE 0 else d) d
  (List.range 16).foldl (fun (d : Dev) l =>
    if d.isPort l && d.mf l Mac.PORT_STATUS_TRAIN_STATE = 0 && d.ust (macId l) ≠ stOff && d.ust (macId l) ≠ stReset then
      d.setMf l Mac.PORT_STATUS_TRAIN_STATE (d.trainStart l) else d) d

/-- R199: the reader of a logical port below 24 and whether it is present. -/
def Dev.portUnit (d : Dev) (p : Nat) : Nat × Bool :=
  if p < 16 then (macId p, (portsOf d.hitches).any (fun x => x.1 = p))
  else if p < 18 then (epId (p - 16), true)
  else if p = 18 then (switchId, d.feature 4 && d.on rootId Root.TWIN_CFG_EN)
  else (switchId, true)

/-- R200: ports 24 to 47 after the tree has changed: a top-level engine hitch that stays keeps its port, a new one takes
the lowest free port, in ascending UNIT_ID order. -/
def Dev.setHitchPorts (d : Dev) : Dev :=
  let tops := ascending (topEngines d.hitches)
  let freed := (List.range 24).map (· + 24)
  let d := freed.foldl (fun (d : Dev) p =>
    if d.lpPresent p && !tops.contains (d.g (swpUnit p) Swp.LP_INFO_UNIT) then
      let gone := d.sw.queued.filter (fun (x : SwPkt) => x.out = p)
      let d := gone.foldl (fun (d : Dev) x => (d.release x).swBump Sw.NO_PORT_DROP) d
      (d.s (swpUnit p) Swp.LP_INFO_PRESENT 0).s (swpUnit p) Swp.LP_INFO_UNIT 0
    else d) d
  tops.foldl (fun (d : Dev) u =>
    if (d.enginePort u).isSome then d
    else match freed.find? (fun p => !d.lpPresent p) with
      | some p => (d.s (swpUnit p) Swp.LP_INFO_UNIT u).s (swpUnit p) Swp.LP_INFO_PRESENT 1
      | none => d) d

/-- R199: LP_INFO of every logical port. -/
def Dev.setLogicalPorts (d : Dev) : Dev :=
  ((List.range 24).foldl (fun (d : Dev) p =>
    let (u, on) := d.portUnit p
    (d.s (swpUnit p) Swp.LP_INFO_UNIT (if on || p = 18 then u else 0)).s (swpUnit p) Swp.LP_INFO_PRESENT (if on then 1 else 0))
    d).setHitchPorts

/-! ### Bindings and apertures (R41, R313, R316) -/

/-- R316: one aperture entry is written into the tables of its host group hitch. -/
def Dev.putAperture (d : Dev) (x : Binding) : Dev :=
  let i := x.srcA / 65536 % 64
  let u := x.target
  if x.srcA / 256 % 16 = 0 then
    (((d.s u (Hg.APT0_VALID i) 1).s u (Hg.APT0_SIZE_LOG2 i) x.srcB).s u (Hg.APT0_OFFSET i) (x.argA / 4096)).s u
      (Hg.APT0_HADDR i) x.argB
  else (((d.s u (Hg.APT2_VALID i) 1).s u (Hg.APT2_SIZE_LOG2 i) x.srcB).s u (Hg.APT2_OFFSET i) (x.argA / 4096)).s u
      (Hg.APT2_HADDR i) x.argB

/-- Step 2 of R57: the bindings take effect. -/
def Dev.setBindings (d : Dev) (bs : List Binding) : Dev :=
  let d := { d with img := { d.img with bindings := bs } }
  (bs.filter (fun (x : Binding) => x.kind = 4)).foldl (fun (d : Dev) x => d.putAperture x) d

/-! ### Parse graph (R43, R111) -/

/-- Step 3 of R57: the four prism tiles load the graph. -/
def Dev.setGraph (d : Dev) (g : Graph) : Dev :=
  (List.range 4).foldl (fun (d : Dev) n =>
    ((d.sk (prismId n) Prism.PRISM_STATUS_NODES g.nodes.length).sk (prismId n) Prism.PRISM_STATUS_TRANSITIONS
      g.trans.length).sk (prismId n) Prism.PRISM_STATUS_GRAPH_LOADED 1) { d with prism := { d.prism with graph := some g } }

/-! ### Tables (R48, R62, R114) -/

/-- R227: nodes, leaves, wire classes and ports that name a shaper of a discarded array become unshaped. -/
def Dev.unshape (d : Dev) (t : Tbl) : Dev :=
  let gone := fun (n : Nat) => n ≠ noShaper && decide (t.flowBase ≤ n) && decide (n < t.flowBase + t.entryCount)
  let d := (d.nodes.filter (fun n => gone (d.node n Node.SHAPER))).foldl
    (fun (d : Dev) n => d.cs .node n Node.SHAPER noShaper) d
  let d := (d.leaves.filter (fun q => gone (d.leaf q Node.SHAPER))).foldl
    (fun (d : Dev) q => d.cs .leaf q Node.SHAPER noShaper) d
  let d := (List.range 152).foldl (fun (d : Dev) i =>
    if gone (d.wf (i / 8) (Ws.WS_CLASS_SHAPER (i % 8))) then d.s (wsUnit (i / 8)) (Ws.WS_CLASS_SHAPER (i % 8)) noShaper
    else d) d
  (List.range 19).foldl (fun (d : Dev) p =>
    if gone (d.wf p Ws.WS_PORT_SHAPER) then d.s (wsUnit p) Ws.WS_PORT_SHAPER noShaper else d) d

/-- R62, R227, R251: a table is discarded with its contents, and the records it held elsewhere: what names a shaper of it
becomes unshaped, and key cache lines of its associations go. -/
def Dev.dropTable (d : Dev) (t : Tbl) : Dev :=
  let d := if t.kind = 5 then d.unshape t else d
  let d := if t.kind = 6 then { d with cry := { d.cry with cache := d.cry.cache.filter (fun (l : CLine) =>
    !(decide (t.flowBase ≤ l.id) && decide (l.id < t.flowBase + t.entryCount))) } } else d
  let d := { d with objs := stDrop (fun k =>
    (decide (k / 2 ^ 64 = Cls.tblEntry.code) && decide (k % 2 ^ 64 / 2 ^ 8 / 2 ^ 32 = t.id)) ||
    (t.kind = 5 && decide (k / 2 ^ 64 = Cls.shaper.code) && decide (t.flowBase ≤ k % 2 ^ 64 / 2 ^ 8) &&
      decide (k % 2 ^ 64 / 2 ^ 8 < t.flowBase + t.entryCount)) ||
    (t.kind = 6 && decide (k / 2 ^ 64 = Cls.sa.code) && decide (t.flowBase ≤ k % 2 ^ 64 / 2 ^ 8) &&
      decide (k % 2 ^ 64 / 2 ^ 8 < t.flowBase + t.entryCount))) d.objs }
  { d with tbl := { d.tbl with
      tables := d.tbl.tables.filter (fun (x : Tbl) => x.id ≠ t.id)
      learn := d.tbl.learn.filter (fun (r : LearnReq) => r.table ≠ t.id) } }

/-- Step 4 of R57: tables `ts` are laid out, new ones empty, and the image's initial contents written. -/
def Dev.setTables (d : Dev) (ss : List Sect) (ts : List Tbl) : Dev :=
  let d := { d with tbl := { d.tbl with tables := ts } }
  let d := (ofType ss 6).foldl (fun (d : Dev) s => (d.fillSection s).1) d
  (layoutsOf ss).foldl (fun (d : Dev) l => d.syncTblCount l.tbl.id) d

/-! ### Engine code (R44, R148) -/

/-- Step 5 of R57: PEs `us`, members of hitch `h`, receive the code that applies to them. -/
def Dev.loadMembers (d : Dev) (r : HRec) : Dev :=
  (pesOf r.list).foldl (fun (d : Dev) u => d.loadPe (peNum u) (d.codeOwner r.id)) d

/-! ### Bounds (R49) -/

/-- R49: INITIAL of the bounds that govern an engine hitch and the tables of owner `u` is in force. -/
def Dev.boundHitch (d : Dev) (r : HRec) : Dev :=
  if r.kind = 0x83 then
    (d.sk r.id Eh.REIN_MARKS_HIGH_MARK (d.boundAt 0x01 r.id).2.2).sk r.id Eh.REIN_MARKS_LOW_MARK (d.boundAt 0x02 r.id).2.2
  else d

/-- R135: AGE_PERIOD of the tables an image lays out is INITIAL of their bound. -/
def Dev.boundTables (d : Dev) (ss : List Sect) : Dev :=
  (layoutsOf ss).foldl (fun (d : Dev) l => d.setTbl l.tbl.id (fun (t : Tbl) => { t with
    ctl1 := BitVec.ofNat 64 ((d.boundAt 0x60 t.owner).2.2 % 2 ^ 32) })) d

/-- Step 6 of R57: registers governed by a device-wide bound take its INITIAL (R204, R428, R449). -/
def Dev.boundDevice (d : Dev) : Dev :=
  let d := (List.range 384).foldl (fun (d : Dev) i =>
    ((d.setCf (i / 8) (i % 8) Swc.Q_ADMIT_ALPHA_LOG2 (d.bound 0x10).2.2).setCf (i / 8) (i % 8) Swc.Q_LIMITS_FLOOR
      (d.bound 0x11).1).setCf (i / 8) (i % 8) Swc.Q_LIMITS_CEIL (d.bound 0x11).2.1) d
  let d := (List.range 128).foldl (fun (d : Dev) i =>
    d.setCf (i / 8) (i % 8) Swc.IN_PFC_IN_ALPHA_LOG2 (d.bound 0x10).2.2) d
  ((d.s rootId Root.GOV_CTL_GALLOP_EN (d.bound 0x31).2.2).s rootId Root.MBX_TIMEOUT_US (d.bound 0x70).2.2).syncGallop

/-! ### Enables (R57 step 7) -/

/-- A tile that a hitch holds takes ENABLE 1, but for the PEs of a remount pool, which wait with ENABLE 0, and the
management cores, which R535 governs (assumption 32). -/
def Dev.enableTiles (d : Dev) (r : HRec) : Dev :=
  r.list.foldl (fun (d : Dev) u =>
    if fixedKind u = 0 ∨ fixedKind u = 0x0A then d
    else d.s u Hdr.UNIT_CONTROL_ENABLE (if r.kind = 0x82 then 0 else 1)) d

/-- Match tiles serve whatever their ENABLE (R574): they leave READY for ACTIVE. -/
def Dev.settleMatch (d : Dev) : Dev :=
  (List.range 32).foldl (fun (d : Dev) n => if d.ust (matchId n) = stReady then d.setUst (matchId n) stActive else d) d

/-- R57 step 7, R63 Resume: units take the ENABLE of their records and follow their effective enable. -/
def Dev.enableAll (d : Dev) (rs : List HRec) (top : Nat) : Dev :=
  let d := (rs.foldl (fun (d : Dev) (r : HRec) => d.s r.id Hdr.UNIT_CONTROL_ENABLE r.enable) d).settleEnable top
  d.takeBells (d.subtree top)

/-! ### A full image (R57) -/

/-- R55: outcome registers of a load. -/
def Dev.imgResult (d : Dev) (st : Nat) : Dev := d.s rootId Root.IMG_STATUS_LAST_RESULT st

/-- IMAGE_CHECK, R53, R55: an image is refused: the reporting registers and the image-refused event. -/
def Dev.imgRefuse (d : Dev) (f : Fail) (source : Nat) : Dev :=
  let d := (((d.imgResult f.status).s rootId Root.IMG_FAIL_INFO_OFFSET f.offset).s rootId Root.IMG_FAIL_INFO_SECTION
    f.sect).s rootId Root.IMG_FAIL_INFO_SOURCE source
  d.raise rootId 0x0101 0 f.status

/-- R33: a tile of the bare tree that is not fused off or stopped is READY once its tree is built. -/
def Dev.readyTile (d : Dev) (u : Nat) : Dev :=
  if ungoverned u && fixedKind u = 0x0A then d
  else if d.ust u = stReset ∨ d.ust u = stActive then d.setUst u stReady else d

/-- FULL_IMAGE_LOAD, R57: image `b`, which has passed its checks, is applied from source `src` (coded as BOOT_SLOT).
The root's member set is replaced, so its MEMBER_GEN rises with ROOT_TREE_GEN (assumption 118). Rein windows are counted from here (R157). -/
def Dev.loadFull (d : Dev) (b : List Byte) (src : Nat) : Dev :=
  let ss := sectionsOf b
  let rs := hrecsOf ss
  let d := { d with hitches := d.hitchesAfter b rs }
  let d := rs.foldl (fun (d : Dev) r => d.buildHitch r) d
  let d := ((List.range 390).map (· + 0x100) ++ [switchId]).foldl (fun (d : Dev) u => d.readyTile u) d
  let d := d.syncEngines.setBindings ((bindingsOf ss).map (fun x => x.2.2))
  let d := match (ofType ss 3).head? with
    | some s => d.setGraph (graphOf s)
    | none => d
  let new := (layoutsOf ss).foldl (fun l x => insertTbl x.tbl l) []
  let d := d.setTables ss ((allocTables [] new).getD [])
  let d := { d with img := { d.img with code := (ofType ss 5).map codeOf } }
  let d := (rs.filter (fun r => r.kind = 0x83)).foldl (fun (d : Dev) r => d.loadMembers r) d
  let d := { d with img := { d.img with bounds := (boundsOf ss).map (fun x => x.2.2) } }
  let d := (rs.foldl (fun (d : Dev) r => d.boundHitch r) d).boundDevice.boundTables ss
  let d := d.setPorts.setLogicalPorts
  let d := (rs.foldl (fun (d : Dev) r => d.enableTiles r) d).s switchId Hdr.UNIT_CONTROL_ENABLE 1
  let d := (d.settleMatch.enableAll rs rootId).incGen rootId
  let d := ((d.s rootId Root.IMG_STATUS_STATE 2).s rootId Root.IMG_STATUS_BOOT_SLOT src).s rootId
    Root.IMG_STATUS_PATCH_COUNT 0
  let d := (d.s rootId Root.IMG_ACTIVE_BASE_SEQ (Image.seq b)).s rootId Root.IMG_ACTIVE_LAST_PATCH_SEQ 0
  let d := (d.s rootId Root.REIN_WINDOW_WINDOW 0).openWindow
  { d.imgResult 0 with img := { d.img with
      header := sliceBytes b 0 256, windows := Config.imageWindows b, measure3 := imageDigest b, measure4 := [] } }

/-! ### A patch (R61 to R66) -/

/-- R63: engine hitches a patch of `t` freezes: those of its subtree. Others that draw from the patch pool only may start no step
(R62, `stepBarred`). -/
def Dev.patchFrozen (d : Dev) (t : Nat) : List Nat :=
  (d.hitches.filter (fun (h : Hitch) => h.kind = 0x83 && (d.subtree t).contains h.id)).map Hitch.id

/-- R63, R158: PATCH_FROZEN of hitches `us`. -/
def Dev.setFrozen (d : Dev) (us : List Nat) (v : Nat) : Dev :=
  (us.foldl (fun (d : Dev) u => d.sk u Eh.REIN_HSTATUS_PATCH_FROZEN v) d).watchWindow

/-- R139: tables owned by one of `us` are offline during its patch, or no longer. Learn requests for an offline table are dropped,
not counted. -/
def Dev.setOffline (d : Dev) (us : List Nat) (off : Bool) : Dev :=
  let ts := d.tbl.tables.map (fun (x : Tbl) =>
    if x.owner ≠ 0 && us.contains x.owner then { x with offline := off } else x)
  { d with tbl := { d.tbl with
      tables := ts
      learn := d.tbl.learn.filter (fun (r : LearnReq) => !ts.any (fun (x : Tbl) => x.id = r.table && x.offline)) } }

/-- R66: a rein step is in progress in the subtree of `t` or against its pool. -/
def Dev.reinBusy (d : Dev) (t : Nat) : Bool :=
  let p := d.patchPool t
  d.ehs.any (fun (e : EhSt) => e.step.isSome && ((d.patchFrozen t).contains e.id || (p ≠ 0 && ((d.hitch e.id).map Hitch.pool) = some p)))

/-- PATCH_DRAIN_START, R63: the target drains; its ENABLE reads 0 meanwhile (assumption 114). -/
def Dev.patchStart (d : Dev) (b : List Byte) (pf idx : Nat) : Dev :=
  let t := Image.target b
  let p : PatchSt :=
    { target := t, image := b, phase := .drain, oldEnable := d.g t Hdr.UNIT_CONTROL_ENABLE, oldState := d.ust t
      pool := d.patchPool t, pf := pf, idx := idx }
  let d := { d with img := { d.img with patch := some p, waits := none } }
  let d := (d.s rootId Root.IMG_STATUS_STATE 4).setFrozen (d.patchFrozen t) 1
  let d := (d.setOffline (d.subtree t) true).s t Hdr.UNIT_CONTROL_ENABLE 0
  (d.settleEnable t).setUst t stDraining

/-- R65: a patch in its Drain phase ends with `st`: the target returns to its old contents and enable. Unless it is ABORTED it is
reported as a refusal, at TARGET_HITCH in the header (assumption 113). -/
def Dev.patchEnd (d : Dev) (st : Nat) : Dev :=
  match d.img.patch with
  | none => d
  | some p =>
    let t := p.target
    let d := { d with img := { d.img with patch := none } }
    let d := (d.s rootId Root.IMG_STATUS_STATE 2).setFrozen (d.patchFrozen t) 0
    let d := (d.setOffline (d.subtree t) false).s t Hdr.UNIT_CONTROL_ENABLE p.oldEnable
    let d := (d.setUst t p.oldState).settleEnable t
    let d := d.takeBells (d.subtree t)
    let d := if st = Sc.aborted then d.imgResult st
      else d.imgRefuse { status := st, offset := 0x2C, sect := 0xFFFF } 2
    d.admEnd p.pf p.idx st 0

/-- R66: a reset or a takeover ends a patch in Drain, or one that waits for a rein step, as ABORTED. -/
def Dev.abortPatch (d : Dev) : Dev :=
  match d.img.patch, d.img.waits with
  | some p, _ => if p.phase = .drain then d.patchEnd Sc.aborted else d
  | none, some (_, pf, idx) =>
    ({ d with img := { d.img with waits := none } }.imgResult Sc.aborted).admEnd pf idx Sc.aborted 0
  | none, none => d

/-- R63: the queues bound to the subtree of `t` have no entry taken and no completion to write. -/
def Dev.queuesDone (d : Dev) (t : Nat) : Bool :=
  d.queues.all (fun (x : QSt) => (x.jobs.isEmpty && x.held.isEmpty) || !d.img.bindings.any (fun (b : Binding) =>
    b.kind = 2 && decide (b.srcA ≤ x.qid) && decide (x.qid < b.srcA + b.srcB) && d.inSubtree t b.target))

/-- R63: the drain of the subtree of `t` is done: every thread has finished, the reorder stages hold no packet, and every completion and
event for work taken has been written. Packets still in a dispatch FIFO wait there (assumption 33). -/
def Dev.drained (d : Dev) (t : Nat) : Bool :=
  let us := d.subtree t
  !d.unitBusy t && d.queuesDone t && !d.ev.presented.any (fun (e : Ev) => us.contains e.unit) &&
    !d.ev.waiting.any (fun (w : Waiting) => us.contains w.ev.unit)

/-- PATCH_SWAP, R62, R63: STATE of the target becomes PATCHING, and the new subtree is built: hitches, pool, code, tables,
bounds and bindings. -/
def Dev.patchBuild (d : Dev) (p : PatchSt) : Dev :=
  let t := p.target
  let b := p.image
  let ss := sectionsOf b
  let rs := hrecsOf ss
  let pool := d.patchPool t
  let (taken, surplus) := d.patchPes t rs
  let swaps := !(taken.isEmpty && surplus.isEmpty)
  let oldTbls := d.tbl.tables.filter (fun (x : Tbl) => x.owner ≠ 0 && (d.subtree t).contains x.owner)
  let keptB := d.keptBindings b
  let keptT := d.keptTables b
  let keptC := d.keptCode b
  let keptL := d.keptBounds b
  let after := d.hitchesAfter b rs
  let oldHs := (d.subtree t).filter (fun u => d.isHitch u && !(rs.any (fun r => r.id = u && r.kind = d.kindOf u)))
  let d := (d.setUst t stPatching).incGen t
  let d := if swaps then (d.setUst pool stPatching).incGen pool else d
  let d := { d with hitches := after }
  let d := oldHs.foldl (fun (d : Dev) u => d.resetRegs u (fun _ => false)) d
  let d := rs.foldl (fun (d : Dev) r => d.buildHitch r) d
  let d := if swaps then d.syncCount pool else d
  let d := surplus.foldl (fun (d : Dev) u =>
    let d := (d.clearMem .peData (fun a => a / 196608 = peNum u)).s u Hdr.UNIT_CONTROL_ENABLE 0
    if d.ust u = stActive ∨ d.ust u = stDraining then d.setUst u stReady else d) d
  let d := d.syncEngines
  let d := d.setFrozen (d.patchFrozen t) 1
  let d := d.setBindings (keptB ++ (bindingsOf ss).map (fun x => x.2.2))
  let d := oldTbls.foldl (fun (d : Dev) x => d.dropTable x) d
  let new := (layoutsOf ss).foldl (fun l x => insertTbl x.tbl l) []
  let d := d.setTables ss ((allocTables keptT new).getD keptT)
  let d := { d with img := { d.img with code := keptC ++ (ofType ss 5).map codeOf } }
  let d := (rs.filter (fun r => r.kind = 0x83)).foldl (fun (d : Dev) r => d.loadMembers r) d
  let d := { d with img := { d.img with bounds := keptL ++ (boundsOf ss).map (fun x => x.2.2) } }
  let d := (rs.foldl (fun (d : Dev) r => d.boundHitch r) d).boundTables ss
  let d := d.setPorts.setLogicalPorts.setOffline (rs.map HRec.id) true
  let mark := fun (d : Dev) (u : Nat) => d.setHitch u (fun (h : Hitch) => { h with patching := true })
  let d := (mark d t).setUst t stPatching
  let d := if swaps then mark d pool else d
  { d with img := { d.img with patch := some { p with phase := .swap } } }

/-- R63 Resume: the subtree is readable again, units take their records' ENABLE, the freeze lifts, and the command
completes with OK. -/
def Dev.patchResume (d : Dev) (p : PatchSt) : Dev :=
  let t := p.target
  let b := p.image
  let rs := hrecsOf (sectionsOf b)
  let pools := (d.hitches.filter (fun (h : Hitch) => h.patching && h.id ≠ t)).map Hitch.id
  let clear := fun (d : Dev) (u : Nat) => (d.setHitch u (fun (h : Hitch) => { h with patching := false })).incGen u
  let d := (clear d t).setUst t stReady
  let d := pools.foldl (fun (d : Dev) u => ((clear d u).setUst u stReady).settleEnable u) d
  let d := (pesOf (rs.flatMap HRec.list)).foldl (fun (d : Dev) u =>
    let d := d.s u Hdr.UNIT_CONTROL_ENABLE 1
    if d.ust u = stActive then d.setUst u stReady else d) d
  let d := d.enableAll rs t
  let d := { d with img := { d.img with patch := none, measure4 := d.img.measure4 ++ imageDigest b } }
  let d := d.setFrozen ((d.hitches.filter (fun (h : Hitch) => h.kind = 0x83)).map Hitch.id) 0
  let d := d.setOffline (rs.map HRec.id) false
  let d := (d.s rootId Root.IMG_STATUS_STATE 2).s rootId Root.IMG_ACTIVE_LAST_PATCH_SEQ (Image.seq b)
  let d := d.s rootId Root.IMG_STATUS_PATCH_COUNT (min 255 (d.g rootId Root.IMG_STATUS_PATCH_COUNT + 1))
  (d.imgResult 0).admEnd p.pf p.idx Sc.ok 0

end Sys2Proof.Machine
end

