-- ==== Sys2Proof/Machine/Image.lean ====
section
/-! DEFINITION. The image commands of the admin queue, flash slots, patches in progress, and the boot procedure (R56 to
R66). -/

namespace Sys2Proof.Machine

/-- R538: flash offset of slot `n` (0 = A, 1 = B). -/
def slotFlash (n : Nat) : Nat := 0x04000000 + n % 2 * 0x04000000

/-- The staged image: the bytes from staging offset 0 to the highest byte staged (assumption 34). -/
def Dev.stagedImage (d : Dev) : List Byte := d.readMem .staging 0 d.img.staged

/-- R60: an apply or a slot write is in progress. -/
def Dev.imageBusy (d : Dev) : Bool := d.img.patch.isSome || d.img.waits.isSome || d.img.slotWrite.isSome || d.imgState = 1

/-- IMAGE_STAGE, R60, R380: the buffer's bytes are copied into the staging area. -/
def imageStage (pf idx : Nat) (data : Option (List Byte)) (d : Dev) : Dev :=
  d.admRun pf idx 0x0601 (fun c d =>
    let o := c.arg % 2 ^ 26
    if 67108864 < o + c.len then d.admEnd pf idx Sc.malformed 0
    else if d.imageBusy then d.admEnd pf idx Sc.patchBusy 0
    else match data with
      | none => d.admEnd pf idx Sc.busError 0
      | some bs =>
        let d := d.writeMem .staging o (sliceBytes bs 0 c.len)
        ({ d with img := { d.img with staged := max d.img.staged (o + c.len) } }).admEnd pf idx Sc.ok 0)

/-- IMAGE_STAGE. -/
def execImageStage (pf idx : Nat) (data : Option (List Byte)) (s : State) : Host.Outcome State Fault Refusal :=
  s.run (imageStage pf idx data)

/-- The command ends with a status that LAST_RESULT also shows. -/
def Dev.imgEnd (d : Dev) (pf idx st : Nat) : Dev := (d.imgResult st).admEnd pf idx st 0

/-- IMAGE_APPLY, R53, R57, R58, R63, R66: the staged image is checked and applied, or a patch starts to drain. A patch
that has passed its checks waits while a rein step runs in its subtree or against its pool, and no new one starts there; the command
presented again once the step has ended begins the drain (assumption 33). -/
def imageApply (pf idx : Nat) (d : Dev) : Dev :=
  let begun := d.admin.any (fun (c : AdminCmd) => c.pf = pf && c.idx = idx && c.started)
  match d.img.waits.filter (fun x => begun && x.2 = (pf, idx)) with
  | some (b, _, _) => if d.reinBusy (Image.target b) then d else d.patchStart b pf idx
  | none => d.admRun pf idx 0x0602 (fun _ d =>
    if d.img.patch.isSome || d.img.waits.isSome || d.img.slotWrite.isSome then d.admEnd pf idx Sc.patchBusy 0
    else
      let b := d.stagedImage
      let bare := decide (d.imgState = 0) || decide (d.imgState = 3)
      if Image.kind b = 1 && !bare then d.admEnd pf idx Sc.imageLive 0
      else if Image.kind b = 2 && d.imgState ≠ 2 then d.admEnd pf idx Sc.patchTarget 0
      else match d.imageCheck b d.img.staged with
        | some f => (d.imgRefuse f 2).admEnd pf idx f.status 0
        | none =>
          if Image.kind b = 1 then (d.loadFull b 2).admEnd pf idx Sc.ok 0
          else if d.reinBusy (Image.target b) then { d with img := { d.img with waits := some (b, pf, idx) } }
          else d.patchStart b pf idx)

/-- IMAGE_APPLY. -/
def execImageApply (pf idx : Nat) (s : State) : Host.Outcome State Fault Refusal := s.run (imageApply pf idx)

/-- R59: a patch image is no image for a slot. -/
def notForSlot : Fail := { status := Sc.imageFormat, offset := 6, sect := 0xFFFF }

/-- IMAGE_WRITE_SLOT, R59: a full image that passes every check goes to slot A or B; SLOT_WRITE_DONE ends the command. -/
def imageWriteSlot (pf idx : Nat) (d : Dev) : Dev :=
  d.admRun pf idx 0x0603 (fun c d =>
    let b := d.stagedImage
    if d.imageBusy then d.admEnd pf idx Sc.patchBusy 0
    else if Image.kind b = 2 then (d.imgRefuse notForSlot 2).admEnd pf idx Sc.imageFormat 0
    else match d.imageCheck b d.img.staged with
      | some f => (d.imgRefuse f 2).admEnd pf idx f.status 0
      | none => { d with img := { d.img with slotWrite := some (c.arg % 2, pf, idx) } })

/-- IMAGE_WRITE_SLOT. -/
def execImageWriteSlot (pf idx : Nat) (s : State) : Host.Outcome State Fault Refusal := s.run (imageWriteSlot pf idx)

/-- SLOT_WRITE_DONE, R59: the slot has been erased and programmed and is read back; `readBack` is what it now holds where
that differs from the staged image. The command completes with OK or INTEGRITY. -/
def slotWriteDone (readBack : Option (List Byte)) (d : Dev) : Dev :=
  match d.img.slotWrite with
  | none => d
  | some (n, pf, idx) =>
    let b := d.stagedImage
    let got := readBack.getD b
    let o := slotFlash n
    let d := (d.clearMem .flash (fun a => decide (o ≤ a) && decide (a < o + 67108864))).writeMem .flash o (got.take 67108864)
    let d := { d with img := { d.img with slotWrite := none } }
    d.imgEnd pf idx (if Config.sha384 (sliceBytes got 0 b.length) = Config.sha384 b then Sc.ok else Sc.integrity)

/-- SLOT_WRITE_DONE. -/
def execSlotWriteDone (readBack : Option (List Byte)) (s : State) : Host.Outcome State Fault Refusal :=
  s.run (slotWriteDone readBack)

/-- PATCH_SWAP, R62, R63: the drain is done. A taken PE that has left the pool ends the patch with IMAGE_CAPACITY. -/
def patchSwap (d : Dev) : Dev :=
  match d.img.patch with
  | none => d
  | some p =>
    if p.phase ≠ .drain || !d.drained p.target then d
    else
      let rs := hrecsOf (sectionsOf p.image)
      if (d.patchPes p.target rs).1.all (fun u => (d.members (d.patchPool p.target)).contains u) then d.patchBuild p
      else d.patchEnd Sc.imageCapacity

/-- PATCH_DRAIN_TIMEOUT, R65: the drain is not done within PATCH_DRAIN_TIMEOUT of the target. -/
def patchDrainTimeout (d : Dev) : Dev :=
  match d.img.patch with
  | none => d
  | some p => if p.phase = .drain then d.patchEnd Sc.patchDrain else d

/-- PATCH_RESUME, R63: the swap is done. -/
def patchResume (d : Dev) : Dev :=
  match d.img.patch with
  | none => d
  | some p => if p.phase = .swap then d.patchResume p else d

/-! ### Bring-up (R56) -/

/-- The image in slot `n`, as its header gives its size. -/
def Dev.slotImage (d : Dev) (n : Nat) : List Byte :=
  d.readMem .flash (slotFlash n) (min 67108864 (leNat (d.readMem .flash (slotFlash n + 8) 4)))

/-- R56: why slot `n` cannot be booted, if it cannot. -/
def Dev.slotFail (d : Dev) (n : Nat) : Option Fail :=
  let b := d.slotImage n
  (firstFail (checkFormat b b.length)).orElse (fun _ =>
    if Image.kind b ≠ 1 then some notForSlot else d.imageCheck b b.length)

/-- R56: the slots of `order` are tried; the device enters RECOVERY when none boots. -/
def Dev.trySlots (d : Dev) : List Nat → Dev
  | [] => d.s rootId Root.IMG_STATUS_STATE 3
  | n :: ns =>
    match d.slotFail n with
    | none => d.loadFull (d.slotImage n) n
    | some f => Dev.trySlots (d.imgRefuse f n) ns

/-- R56: the boot procedure from the bare tree. -/
def Dev.bootImage (d : Dev) : Dev :=
  let pref := d.g rootId Root.IMG_BOOT_CTL_SLOT_PREF
  let d := if d.on rootId Root.IMG_BOOT_CTL_ONE_SHOT then
    (d.s rootId Root.IMG_BOOT_CTL_SLOT_PREF 0).s rootId Root.IMG_BOOT_CTL_ONE_SHOT 0 else d
  let a := Image.seq (d.slotImage 0)
  let b := Image.seq (d.slotImage 1)
  if pref = 3 then d.s rootId Root.IMG_STATUS_STATE 3
  else if pref = 1 then d.trySlots [0]
  else if pref = 2 then d.trySlots [1]
  else d.trySlots (if b ≤ a then [0, 1] else [1, 0])

end Sys2Proof.Machine
end

