-- ==== Sys2Proof/Machine/Mailbox.lean ====
section
/-! DEFINITION. Mailboxes and hardware locks (R416 to R435). -/

namespace Sys2Proof.Machine

/-- R416: UNIT_IDs of agents: the management cores and the endpoint tiles. -/
def isAgent (a : Nat) : Bool := (decide (0x27E ≤ a) && decide (a ≤ 0x285)) || a = 0x27C || a = 0x27D

/-- A management core. -/
def isCore (a : Nat) : Bool := decide (0x27E ≤ a) && decide (a ≤ 0x285)

/-- R417: UNIT_ID of the receiving core of mailbox `m`. -/
def boxCore (m : Nat) : Nat := mcId (m / 8)

/-- Messages of mailbox `m`, oldest first. -/
def Dev.boxMsgs (d : Dev) (m : Nat) : List MbxMsg := d.mbx.filter (fun x => x.box = m)

/-- Mailbox `m` holds a latched message. -/
def Dev.boxLatched (d : Dev) (m : Nat) : Bool := d.on (mrxUnit m) MbxRx.RX_STATUS_LATCHED

/-- R420, R431, R433: RX_STATUS and MBX_NONEMPTY show the messages of mailbox `m`. -/
def Dev.syncBox (d : Dev) (m : Nat) : Dev :=
  let ms := d.boxMsgs m
  let u := mrxUnit m
  let bits := (ms.map (fun x => 2 ^ x.ch)).foldl (· + ·) 0
  let d := (d.s u MbxRx.RX_STATUS_PENDING bits).s u MbxRx.RX_STATUS_HEAD ((ms.head?.map MbxMsg.ch).getD 0)
  let d := d.s u MbxRx.RX_STATUS_VALID (if ms.isEmpty then 0 else 1)
  d.s rootId Root.MBX_NONEMPTY_MAP (putBits (BitVec.ofNat 64 (d.g rootId Root.MBX_NONEMPTY_MAP)) m 1 (if ms.isEmpty then 0 else 1)).toNat

/-- R418: a write by an agent that is not the sender of the channel. -/
def Dev.boxForeign (d : Dev) (agent m c : Nat) : Bool := d.g (mbxUnit m c) MbxCh.CH_CTL_SENDER ≠ agent || !isAgent agent

/-- R421, R422: a core mailbox event naming mailbox `m` for core `u`, which wakes its region. -/
def Dev.boxEvent (d : Dev) (u m : Nat) : Dev := (d.raisePriv (u - 0x27E) 0x0902 m).wakeUnit u

/-- R420: word `k` of the head message of mailbox `m`, 0 while it is empty. -/
def Dev.rxMsg (d : Dev) (m k : Nat) : Word :=
  match d.boxMsgs m with
  | x :: _ => d.cell (mbxUnit m x.ch) (MbxCh.MSG_DATA k).off
  | [] => 0

/-- SEND, R418, R419, R421. -/
def send (agent m c : Nat) (d : Dev) : Dev :=
  let u := mbxUnit m c
  if d.boxForeign agent m c then d.bump Root.MBX_FOREIGN
  else if d.on u MbxCh.CH_STAT_FULL then d.s u MbxCh.CH_STAT_OVERRUN 1
  else
    let empty := (d.boxMsgs m).isEmpty
    let d := (((d.s u MbxCh.CH_STAT_FULL 1).s u MbxCh.CH_STAT_LAST 0).add u MbxCh.CH_STAT_SENT 1).bump Root.MBX_SENT
    let us := d.g rootId Root.MBX_TIMEOUT_US
    let x : MbxMsg := { box := m, ch := c, us := us, due := some (d.time + 1000 * us) }
    let d := ({ d with mbx := d.mbx ++ [x] }).syncBox m
    if empty && d.on (mrxUnit m) MbxRx.RX_CFG_EVT_EN then d.boxEvent (boxCore m) m else d

/-- SEND. -/
def execSend (agent m c : Nat) (s : State) : Host.Outcome State Fault Refusal := s.run (send agent m c)

/-- The message of channel `c` leaves mailbox `m` with a fate (R420, R423). -/
def Dev.takeMsg (d : Dev) (m c fate : Nat) : Dev :=
  let u := mbxUnit m c
  let d := (d.s u MbxCh.CH_STAT_FULL 0).s u MbxCh.CH_STAT_LAST fate
  ({ d with mbx := d.mbx.filter (fun (x : MbxMsg) => !(x.box = m && x.ch = c)) }).syncBox m

/-- Channel `c` holds the latched message of mailbox `m`. -/
def Dev.latchedAt (d : Dev) (m c : Nat) : Bool := d.boxLatched m && (d.boxMsgs m).head?.map MbxMsg.ch = some c

/-- CANCEL, R423, R424. -/
def cancel (agent m c : Nat) (d : Dev) : Dev :=
  let u := mbxUnit m c
  if d.boxForeign agent m c then d.bump Root.MBX_FOREIGN
  else if !d.on u MbxCh.CH_STAT_FULL || d.latchedAt m c then d.s u MbxCh.CH_STAT_OVERRUN 1
  else d.takeMsg m c 2

/-- CANCEL. -/
def execCancel (agent m c : Nat) (s : State) : Host.Outcome State Fault Refusal := s.run (cancel agent m c)

/-- SENDER_WRITE, R418, R432. -/
def senderWrite (agent m c v : Nat) (d : Dev) : Dev :=
  let u := mbxUnit m c
  if agent ≠ boxCore m || d.on u MbxCh.CH_STAT_FULL || !(v = 0 || isAgent v) then d else d.s u MbxCh.CH_CTL_SENDER v

/-- SENDER_WRITE. -/
def execSenderWrite (agent m c v : Nat) (s : State) : Host.Outcome State Fault Refusal := s.run (senderWrite agent m c v)

/-- R420, R424: the timer of the message of channel `c` of mailbox `m` starts with its full time, or stops. -/
def Dev.armMsg (d : Dev) (m c : Nat) (on : Bool) : Dev :=
  { d with mbx := d.mbx.map (fun (x : MbxMsg) =>
      if x.box = m && x.ch = c then { x with due := if on then some (d.time + 1000 * x.us) else none } else x) }

/-- R422: the timer of message `x` has ended at the last tick of 1 µs. -/
def Dev.msgLate (d : Dev) (x : MbxMsg) : Bool :=
  match x.due with
  | some t => decide (t ≤ d.time / 1000 * 1000)
  | none => false

/-- MAILBOX_LATCH, R420: a read of RX_MSG_0 returns word 0 of the head message; the receiving core's latches it. -/
def mailboxLatch (agent m : Nat) (d : Dev) : Dev :=
  let d := d.emit (.readData (d.rxMsg m 0))
  match d.boxMsgs m with
  | x :: _ => if agent = boxCore m then (d.s (mrxUnit m) MbxRx.RX_STATUS_LATCHED 1).armMsg m x.ch false else d
  | [] => d

/-- MAILBOX_LATCH. -/
def execMailboxLatch (agent m : Nat) (s : State) : Host.Outcome State Fault Refusal := s.run (mailboxLatch agent m)

/-- MAILBOX_RELEASE, R420: a read of RX_MSG_7 returns word 7; the receiving core's releases the latched message. -/
def mailboxRelease (agent m : Nat) (d : Dev) : Dev :=
  let d := d.emit (.readData (d.rxMsg m 7))
  match d.boxMsgs m with
  | x :: _ =>
    if agent = boxCore m && d.boxLatched m then
      ((d.s (mrxUnit m) MbxRx.RX_STATUS_LATCHED 0).takeMsg m x.ch 1).bump Root.MBX_DELIVERED
    else d
  | [] => d

/-- MAILBOX_RELEASE. -/
def execMailboxRelease (agent m : Nat) (s : State) : Host.Outcome State Fault Refusal := s.run (mailboxRelease agent m)

/-- MAILBOX_TIMEOUT, R422: the timer of the message of channel `c` ends. -/
def mailboxTimeout (m c : Nat) (d : Dev) : Dev :=
  let u := mbxUnit m c
  let core := boxCore m
  let by_ := d.g u MbxCh.CH_CTL_SENDER
  if !d.mbx.any (fun x => x.box = m && x.ch = c && d.msgLate x) then d
  else
    let d := ((d.armMsg m c false).s u MbxCh.CH_STAT_TIMEOUT 1).s u MbxCh.CH_STAT_RCV_STATE (d.ust core)
    let d := (d.s u MbxCh.CH_STAT_RCV_REST (if d.gait (regionOf core) = 0 then 1 else 0)).bump Root.MBX_TIMEOUTS
    if isCore by_ then d.boxEvent by_ m else d

/-- MAILBOX_TIMEOUT. -/
def execMailboxTimeout (m c : Nat) (s : State) : Host.Outcome State Fault Refusal := s.run (mailboxTimeout m c)

/-- R424: a reset of management core `u` unlatches what it has latched; the timer of that message restarts. -/
def Dev.boxReset (d : Dev) (u : Nat) : Dev :=
  ((List.range 64).filter (fun m => boxCore m = u && d.boxLatched m)).foldl (fun (d : Dev) m =>
    let d := d.s (mrxUnit m) MbxRx.RX_STATUS_LATCHED 0
    match d.boxMsgs m with
    | x :: _ => d.armMsg m x.ch true
    | [] => d) d

/-! ### Locks -/

/-- LOCK_STATE of lock `n` (R434). -/
def Dev.lockWord (d : Dev) (n : Nat) : Word := d.cell (lockUnit n) Lock.LOCK_STATE_HELD.off

/-- LOCK_TRY, R427: a read of LOCK_TRY by an agent grants a free lock, or reports it held. -/
def lockTry (agent n : Nat) (d : Dev) : Dev :=
  let u := lockUnit n
  if !isAgent agent then d
  else if d.on u Lock.LOCK_STATE_HELD then
    let own : Bool := d.g u Lock.LOCK_STATE_HOLDER = agent
    let v := putBits (putBits (d.lockWord n) 31 1 0) 29 1 (if own then 1 else 0)
    (if own then d else d.bump Root.LOCK_CONTENDED).emit (.readData v)
  else
    let d := ((d.s u Lock.LOCK_STATE_HELD 1).s u Lock.LOCK_STATE_HOLDER agent).add u Lock.LOCK_STATE_GEN 1
    d.emit (.readData (d.lockWord n))

/-- LOCK_TRY. -/
def execLockTry (agent n : Nat) (s : State) : Host.Outcome State Fault Refusal := s.run (lockTry agent n)

/-- LOCK_REL, R428. -/
def lockRel (agent n : Nat) (d : Dev) : Dev :=
  let u := lockUnit n
  if d.on u Lock.LOCK_STATE_HELD && d.g u Lock.LOCK_STATE_HOLDER = agent then
    (d.s u Lock.LOCK_STATE_HELD 0).s u Lock.LOCK_STATE_BROKEN 0
  else d.bump Root.LOCK_FOREIGN

/-- LOCK_REL. -/
def execLockRel (agent n : Nat) (s : State) : Host.Outcome State Fault Refusal := s.run (lockRel agent n)

/-- R429: lock `n` is freed with BROKEN 1. -/
def Dev.breakLock (d : Dev) (n : Nat) : Dev :=
  ((d.s (lockUnit n) Lock.LOCK_STATE_HELD 0).s (lockUnit n) Lock.LOCK_STATE_BROKEN 1).bump Root.LOCK_BROKEN

/-- LOCK_BREAK, R430. -/
def lockBreak (agent n : Nat) (d : Dev) : Dev :=
  if isCore agent && d.on (lockUnit n) Lock.LOCK_STATE_HELD then d.breakLock n else d.bump Root.LOCK_FOREIGN

/-- LOCK_BREAK. -/
def execLockBreak (agent n : Nat) (s : State) : Host.Outcome State Fault Refusal := s.run (lockBreak agent n)

/-- R429: agent `a` is reset: every lock it holds is freed with BROKEN 1. -/
def Dev.agentReset (d : Dev) (a : Nat) : Dev :=
  (List.range 1024).foldl (fun (d : Dev) n =>
    if d.on (lockUnit n) Lock.LOCK_STATE_HELD && d.g (lockUnit n) Lock.LOCK_STATE_HOLDER = a then d.breakLock n else d) d

/-- R435: mailboxes and locks, with their counters, are cleared. -/
def Dev.clearBoxes (d : Dev) : Dev :=
  let d := { d with
    mbx := []
    regs := stDrop (fun k => decide (0x1020000 ≤ k / 2 ^ 22) && decide (k / 2 ^ 22 < 0x1023000)) d.regs }
  d.resetRegs rootId (fun off => !(decide (0x700 ≤ off) && decide (off < 0x778) && off ≠ 0x720))

end Sys2Proof.Machine
end

