-- ==== Sys2Proof/Machine/Slices.lean ====
section
/-! DEFINITION. Tenant slices: creating, changing, freezing, saving, restoring, thawing and destroying them, their
allow-lists and memory windows (R326 to R346). -/

namespace Sys2Proof.Machine

/-! ### Checks (R327 to R331) -/

/-- R327: bits of each slice context word that the table lists. -/
def sliceMask (w : Nat) : Nat :=
  match w with
  | 0 => 2 ^ 10 - 1 + (2 ^ 44 - 2 ^ 12)
  | 1 => 2 ^ 18 - 1 + (2 ^ 39 - 2 ^ 20) + (2 ^ 58 - 2 ^ 40)
  | 2 | 4 => 2 ^ 23 - 1 + (2 ^ 42 - 2 ^ 24) + (2 ^ 53 - 2 ^ 42)
  | 3 => 2 ^ 17 - 1 + (2 ^ 38 - 2 ^ 32)
  | 5 => 2 ^ 17 - 1 + (2 ^ 51 - 2 ^ 32)
  | 6 | 7 | 8 => 2 ^ 64 - 1
  | 9 => 2 ^ 32 - 1
  | _ => 0

/-- R329: `n` queue IDs from `q0` may be the range of slice `sl` of function `pf`. -/
def Dev.rangeOk (d : Dev) (pf sl q0 n : Nat) : Bool :=
  let a := (d.bound 0x40).2.2
  let apart := fun (b m : Nat) => m = 0 || decide (q0 + n ≤ b) || decide (b + m ≤ q0)
  decide (0 < q0) && decide (q0 + n ≤ 2 ^ 18) && apart a (d.bound 0x41).2.2 &&
    d.slices.all (fun o => o = sl || apart (d.cg .slice o Slc.QBASE) (d.cg .slice o Slc.QCOUNT)) &&
    d.queues.all (fun x => decide (x.qid < q0) || decide (q0 + n ≤ x.qid) ||
      (d.qf x.qid Qctx.SLICE = 0 && d.qf x.qid Qctx.OWNER = pf)) &&
    (List.range n).all (fun i => d.pageOpen pf (q0 + i))

/-- R330: the PASID fields that a context asks for, with PASID `p`, are allowed for slice `sl` of function `pf`. -/
def Dev.pasidOk (d : Dev) (pf sl : Nat) (ws : List Word) (p : Nat) : Bool :=
  let en := wget ws Slc.PASID_EN = 1
  (!en || ((d.ep pf).pasidEn && d.slices.all (fun o => o = sl || d.cg .slice o Slc.OWNER ≠ pf ||
      d.cg .slice o Slc.PASID_EN = 0 || d.cg .slice o Slc.PASID ≠ p))) &&
    (wget ws Slc.ATS_EN = 0 || (en && (d.ep pf).atsEn))

/-- R327: a supplied slice context breaks no rule of its own. -/
def sliceFormOk (ws : List Word) : Bool :=
  maskOk sliceMask 16 ws && wget ws Slc.SPOOF_MODE ≠ 3 && decide (1 ≤ wget ws Slc.QCOUNT) &&
    decide (wget ws Slc.QCOUNT ≤ 65536) && decide (wget ws Slc.MAX_EQS ≤ 1024) && decide (wget ws Slc.MAX_MWS ≤ 65536)

/-- R332: queue `q` may be the DEFAULT_RXQ of a slice with the range of `n` queues from `q0`. -/
def Dev.rxqOk (d : Dev) (q0 n q : Nat) : Bool :=
  q = 0x3FFFF || (decide (q0 ≤ q) && decide (q < q0 + n) && d.qExists q && d.qf q Qctx.KIND = 2)

/-- Sum of a maximum over the other slices that are not FREE and that `p` names. -/
def Dev.sumMax (d : Dev) (sl : Nat) (f : CFld) (p : Nat → Bool) : Nat :=
  ((d.slices.filter (fun o => o ≠ sl && p o)).map (fun o => d.cg .slice o f)).foldl (· + ·) 0

/-- R328, check 3: the maxima of a context fit beside those of the other slices. -/
def Dev.maxFit (d : Dev) (pf sl : Nat) (ws : List Word) : Bool :=
  let all_ := fun (_ : Nat) => true
  decide (d.sumMax sl Slc.MAX_CONNS all_ + wget ws Slc.MAX_CONNS ≤ 4194302) &&
    decide (d.sumMax sl Slc.MAX_SESSIONS all_ + wget ws Slc.MAX_SESSIONS ≤ 131072) &&
    decide (d.sumMax sl Slc.MAX_MWS all_ + wget ws Slc.MAX_MWS ≤ 65536) &&
    decide (d.sumMax sl Slc.MAX_EQS (fun o => d.cg .slice o Slc.OWNER = pf) + wget ws Slc.MAX_EQS ≤ 1023)

/-- R484: slice `sl` is being adopted. -/
def Dev.adopting (d : Dev) (sl : Nat) : Bool :=
  d.twinState = 4 && d.twin.mirror.any (fun r => r.rtype = 6 && r.index = sl)

/-- R339: status of a command of `pf` on slice `sl` accepted in the states of `ok`. -/
def Dev.sliceStatus (d : Dev) (pf sl : Nat) (ok : List Nat) : Nat :=
  if sl = 0 || d.adopting sl then 0x3E
  else if d.badRec .slice sl then Sc.integrity
  else if d.sliceState sl ≠ 0 && d.cg .slice sl Slc.OWNER ≠ pf then Sc.malformed
  else if ok.contains (d.sliceState sl) then Sc.ok
  else 0x3E

/-! ### Creating and changing (R328, R332, R334) -/

/-- SLICE_CREATE, R328, R329, R460. -/
def Dev.makeSlice (d : Dev) (pf sl : Nat) (ws : List Word) : Dev × Nat :=
  let q0 := wget ws Slc.QBASE
  let n := wget ws Slc.QCOUNT
  if d.badRec .slice sl then (d, Sc.integrity)
  else if sl = 0 || d.sliceState sl ≠ 0 || d.adopting sl then (d, 0x3E)
  else if !sliceFormOk ws || !d.rangeOk pf sl q0 n || !d.rxqOk q0 n (wget ws Slc.DEFAULT_RXQ) ||
      !d.pasidOk pf sl ws (wget ws Slc.PASID) then (d, Sc.malformed)
  else if d.otherSide sl then (d, 0x2E)
  else if !d.maxFit pf sl ws then (d, Sc.noResource)
  else
    let d := ((d.clearRec .slice sl).clearRec .allow sl).setRec .slice sl (ws.take 4)
    let d := ((((d.cs .slice sl Slc.STATE 1).cs .slice sl Slc.OWNER pf).cs .slice sl Slc.RESTORED 0).cs .slice sl Slc.SLICE_ID
      sl).cs .slice sl Slc.ALLOW_COUNT 0
    let d := d.queues.foldl (fun (d : Dev) x =>
      if d.inSlice sl x.qid then ((d.setQf x.qid Qctx.SLICE sl).cadd .slice sl Slc.USED_QUEUES 1).touch 4 x.qid else d) d
    (d.touch 6 sl, Sc.ok)

/-- SLICE_CREATE. -/
def sliceCreate (pf idx : Nat) (data : Option (List Byte)) (d : Dev) : Dev :=
  d.admIn pf idx 0x0301 data (fun a bs d =>
    let (d, st) := d.makeSlice pf (a.arg % 2 ^ 12) (toWords 16 bs)
    d.admEnd pf idx st 0)

/-- SLICE_CREATE. -/
def execSliceCreate (pf idx : Nat) (data : Option (List Byte)) (s : State) : Host.Outcome State Fault Refusal :=
  s.run (sliceCreate pf idx data)

/-- SLICE_MODIFY, R328: SPOOF_MODE, OTHER_OK, DEFAULT_RXQ and the maxima of an ACTIVE slice; other fields are not read. -/
def Dev.changeSlice (d : Dev) (pf sl : Nat) (ws : List Word) : Dev × Nat :=
  let st := d.sliceStatus pf sl [1]
  let low := fun (p : CFld × CFld) => decide (wget ws p.1 < d.cg .slice sl p.2)
  let pairs := [(Slc.MAX_CONNS, Slc.USED_CONNS), (Slc.MAX_SESSIONS, Slc.USED_SESSIONS), (Slc.MAX_EQS, Slc.USED_EQS),
    (Slc.MAX_MWS, Slc.USED_MWS)]
  if st ≠ Sc.ok then (d, st)
  else if !maskOk sliceMask 16 ws || wget ws Slc.SPOOF_MODE = 3 || decide (1024 < wget ws Slc.MAX_EQS) ||
      decide (65536 < wget ws Slc.MAX_MWS) ||
      !d.rxqOk (d.cg .slice sl Slc.QBASE) (d.cg .slice sl Slc.QCOUNT) (wget ws Slc.DEFAULT_RXQ) then (d, Sc.malformed)
  else if !d.maxFit pf sl ws || pairs.any low then (d, Sc.noResource)
  else
    let d := [Slc.SPOOF_MODE, Slc.OTHER_OK, Slc.DEFAULT_RXQ, Slc.MAX_CONNS, Slc.MAX_SESSIONS, Slc.MAX_EQS,
      Slc.MAX_MWS].foldl (fun (d : Dev) f => d.cs .slice sl f (wget ws f)) d
    (d.touch 6 sl, Sc.ok)

/-- SLICE_MODIFY. -/
def sliceModify (pf idx : Nat) (data : Option (List Byte)) (d : Dev) : Dev :=
  d.admIn pf idx 0x0302 data (fun a bs d =>
    let (d, st) := d.changeSlice pf (a.arg % 2 ^ 12) (toWords 16 bs)
    d.admEnd pf idx st 0)

/-- SLICE_MODIFY. -/
def execSliceModify (pf idx : Nat) (data : Option (List Byte)) (s : State) : Host.Outcome State Fault Refusal :=
  s.run (sliceModify pf idx data)

/-- SLICE_QUERY, R327, R339. Slice 0 has no context: its record reads ACTIVE and otherwise 0 (assumption 62). -/
def sliceQuery (pf idx : Nat) (reach : Bool) (d : Dev) : Dev :=
  d.admRun pf idx 0x0303 (fun a d =>
    let sl := a.arg % 2 ^ 12
    if sl = 0 then d.admOut a reach (ofWords (1#64 :: List.replicate 15 0)) 0
    else if d.adopting sl then d.admEnd pf idx 0x3E 0
    else if d.badRec .slice sl then d.admEnd pf idx Sc.integrity 0
    else if d.sliceState sl ≠ 0 && d.cg .slice sl Slc.OWNER ≠ pf then d.admEnd pf idx Sc.malformed 0
    else d.admOut a reach (ofWords (d.crec .slice sl 16)) 0)

/-- SLICE_QUERY. -/
def execSliceQuery (pf idx : Nat) (reach : Bool) (s : State) : Host.Outcome State Fault Refusal :=
  s.run (sliceQuery pf idx reach)

/-- R334: an allow-list entry that may stand. -/
def allowOk (e : List Word) : Bool :=
  let k := wget e Allow.KIND
  let n := wget e Allow.PREFIX_LEN
  let mask := fun (w : Nat) =>
    match w with
    | 0 => 2 ^ 3 - 1 + (2 ^ 24 - 2 ^ 4)
    | 1 => 2 ^ 48 - 1
    | _ => 2 ^ 64 - 1
  maskOk mask 4 e && k ≠ 0 && decide (n ≤ (if k = 1 then 0 else if k = 2 then 32 else 128))

/-- The allow-list of slice `sl` becomes `es`. -/
def Dev.putAllow (d : Dev) (sl : Nat) (es : List (List Word)) : Dev :=
  ((((d.clearRec .allow sl).setRec .allow sl (es.flatMap (fun e => (List.range 4).map (fun w => e.getD w 0)))).cs .slice sl
    Slc.ALLOW_COUNT es.length).touch 6 sl).touch 7 sl

/-- `k` runs of `n` words. -/
def chunk (n k : Nat) (ws : List Word) : List (List Word) := (List.range k).map (fun i => (ws.drop (n * i)).take n)

/-- ALLOW_WRITE, R334. -/
def allowWrite (pf idx : Nat) (data : Option (List Byte)) (d : Dev) : Dev :=
  d.admIn pf idx 0x0309 data (fun a bs d =>
    let sl := a.arg % 2 ^ 12
    let n := a.len / 32
    let es := chunk 4 n (toWords (4 * n) bs)
    let st := d.sliceStatus pf sl [1]
    if st ≠ Sc.ok then d.admEnd pf idx st 0
    else if !es.all allowOk then d.admEnd pf idx Sc.malformed 0
    else (d.putAllow sl es).admEnd pf idx Sc.ok n)

/-- ALLOW_WRITE. -/
def execAllowWrite (pf idx : Nat) (data : Option (List Byte)) (s : State) : Host.Outcome State Fault Refusal :=
  s.run (allowWrite pf idx data)

/-! ### Memory windows (R337, R338) -/

/-- R337: a supplied window that may stand. -/
def mwOk (ws : List Word) : Bool :=
  let mask := fun (w : Nat) =>
    match w with
    | 0 => 2 ^ 3 - 1 + (2 ^ 28 - 2 ^ 16) + (2 ^ 48 - 2 ^ 32)
    | 1 => 2 ^ 22 - 1
    | _ => 2 ^ 64 - 1
  maskOk mask 4 ws && decide (1 ≤ wget ws Mw.LENGTH) && decide (wget ws Mw.LENGTH ≤ 2 ^ 48)

/-- Remote key of window `i` (R337). -/
def Dev.mwKey (d : Dev) (i : Nat) : Nat := d.cg .window i Mw.TAG * 65536 + i

/-- MW_CREATE, R331, R337, R338, R460. -/
def mwCreate (pf idx : Nat) (data : Option (List Byte)) (d : Dev) : Dev :=
  d.admIn pf idx 0x030A data (fun a bs d =>
    let i := a.arg % 65536
    let ws := toWords 4 bs
    let sl := wget ws Mw.SLICE
    if d.badRec .window i then d.admEnd pf idx Sc.integrity 0
    else if d.cg .window i Mw.VALID = 1 || !mwOk ws then d.admEnd pf idx Sc.malformed 0
    else if d.otherSide i then d.admEnd pf idx 0x2E 0
    else
      let st := d.sliceCheck pf sl Slc.USED_MWS Slc.MAX_MWS
      if st ≠ Sc.ok then d.admEnd pf idx st 0
      else
        let d := ((d.clearRec .window i).setRec .window i ws).cs .window i Mw.VALID 1
        ((d.sliceInc sl Slc.USED_MWS).touch 8 i).admEnd pf idx Sc.ok (d.mwKey i))

/-- MW_CREATE. -/
def execMwCreate (pf idx : Nat) (data : Option (List Byte)) (s : State) : Host.Outcome State Fault Refusal :=
  s.run (mwCreate pf idx data)

/-- R338: an operation that passed the check of key `key` still moves data. -/
def Dev.keyBusy (d : Dev) (key : Nat) : Bool :=
  d.tp.conns.any (fun x => x.reads.any (fun r => r.rkey = key) ||
    (match x.rx with
      | some r => r.op = 3 && r.rkey = key
      | none => false))

/-- The window `i` is gone. -/
def Dev.dropMw (d : Dev) (i : Nat) : Dev :=
  ((d.clearRec .window i).sliceDec (d.cg .window i Mw.SLICE) Slc.USED_MWS).untouch 8 i

/-- MW_DESTROY, R338: the window is invalid at once; the command finishes, at once or when presented again, when nothing
that passed the check moves data. Destroying a window that does not exist is MALFORMED. -/
def mwDestroy (pf idx : Nat) (d : Dev) : Dev :=
  match d.admin.find? (fun c => c.pf = pf && c.idx = idx && c.op = 0x030B && c.started && c.done.isNone) with
  | some a => if d.keyBusy a.count then d else d.admEnd pf idx Sc.ok 0
  | none =>
    d.admRun pf idx 0x030B (fun a d =>
      let i := a.arg % 65536
      let sl := d.cg .window i Mw.SLICE
      if d.badRec .window i || d.badRec .slice sl then d.admEnd pf idx Sc.integrity 0
      else if d.cg .window i Mw.VALID = 0 || (sl ≠ 0 && d.cg .slice sl Slc.OWNER ≠ pf) then d.admEnd pf idx Sc.malformed 0
      else if sl ≠ 0 && d.sliceState sl ≠ 1 then d.admEnd pf idx 0x3E 0
      else
        let key := d.mwKey i
        let d := d.dropMw i
        if d.keyBusy key then d.setAdm pf idx (fun (c : AdminCmd) => { c with count := key }) else d.admEnd pf idx Sc.ok 0)

/-- MW_DESTROY. -/
def execMwDestroy (pf idx : Nat) (s : State) : Host.Outcome State Fault Refusal := s.run (mwDestroy pf idx)

/-! ### Freezing and thawing (R340, R341, R344) -/

/-- Queues of slice `sl`, lowest first. -/
def Dev.queuesOf (d : Dev) (sl : Nat) : List Nat := (d.recs .queue).filter (fun q => d.qExists q && d.qf q Qctx.SLICE = sl)

/-- Connections of slice `sl`. -/
def Dev.connsOf (d : Dev) (sl : Nat) : List Nat :=
  (d.recs .conn).filter (fun c => d.cn c Conn.STATE ≠ 0 && d.cn c Conn.SLICE = sl)

/-- Sessions of slice `sl`. -/
def Dev.sessionsOf (d : Dev) (sl : Nat) : List Nat :=
  (d.recs .session).filter (fun s => d.sn s Sess.STATE ≠ 0 && d.sn s Sess.SLICE = sl)

/-- Event queues of slice `sl` of function `pf`. -/
def Dev.eqsOf (d : Dev) (pf sl : Nat) : List Nat :=
  ((d.recs .hostEq).filter (fun i => i / 1024 = pf && d.cg .hostEq i EqC.SLICE = sl && d.eqValid pf (i % 1024))).map
    (fun i => i % 1024)

/-- Windows of slice `sl`. -/
def Dev.windowsOf (d : Dev) (sl : Nat) : List Nat :=
  (d.recs .window).filter (fun i => d.cg .window i Mw.VALID = 1 && d.cg .window i Mw.SLICE = sl)

/-- R340: jobs at the end of a TX or SQ queue that the fetch scheduler has not granted go back to the ring; the queue
stays rung (assumption 61). -/
def Dev.untake (d : Dev) (q : Nat) : Dev :=
  let js := ((d.qst q).map QSt.jobs).getD []
  let back := (js.reverse.takeWhile (fun j => !j.granted && j.result.isNone)).reverse
  let n := (back.map (fun j => j.ents.length)).foldl (· + ·) 0
  let k := d.qf q Qctx.KIND
  if (k ≠ 1 && k ≠ 4) || back.isEmpty then d
  else
    let h := d.qf q Qctx.HEAD
    let d := if h < n then d.setQf q Qctx.HEAD_PHASE (1 - d.qf q Qctx.HEAD_PHASE) else d
    let d := (d.setQf q Qctx.HEAD ((h + d.qSize q - n) % d.qSize q)).setQf q Qctx.TAKEN (d.qf q Qctx.TAKEN - back.length)
    (d.setQ q (fun (x : QSt) => { x with rung := true, jobs := js.take (js.length - back.length) })).headMoved q

/-- R340: slice `sl` enters FREEZING; RNR waits of its connections end. -/
def Dev.startFreeze (d : Dev) (sl : Nat) : Dev :=
  let d := d.cs .slice sl Slc.STATE 2
  let d := (d.queuesOf sl).foldl (fun (d : Dev) q => d.untake q) d
  let d := (d.connsOf sl).foldl (fun (d : Dev) c => match (d.tc c).rnr with
    | some p => d.setTc c (fun (x : TpConn) => { x with rnr := none, next := p })
    | none => d) d
  d.touch 6 sl

/-- SLICE_FREEZE, R340. -/
def sliceFreeze (pf idx : Nat) (d : Dev) : Dev :=
  d.admRun pf idx 0x0304 (fun a d =>
    let sl := a.arg % 2 ^ 12
    let st := d.sliceStatus pf sl [1]
    if st ≠ Sc.ok then d.admEnd pf idx st 0 else d.startFreeze sl)

/-- SLICE_FREEZE. -/
def execSliceFreeze (pf idx : Nat) (s : State) : Host.Outcome State Fault Refusal := s.run (sliceFreeze pf idx)

/-- R341: the freeze of slice `sl` is done. -/
def Dev.frozenNow (d : Dev) (sl : Nat) : Bool :=
  let out := fun (q : Nat) => d.tp.conns.flatMap (fun x => if d.cn x.cid Conn.SQ = q then x.msgs.map TpMsg.job else [])
  let quietQ := fun (q : Nat) =>
    match d.qst q with
    | none => true
    | some x => x.held.isEmpty && (if d.qf q Qctx.KIND = 4 then x.jobs.all (fun j => (out q).contains j.idx) else x.jobs.isEmpty)
  (d.queuesOf sl).all quietQ && !d.sw.hostRx.any (fun x => (d.queuesOf sl).contains x.1) && (d.sessionsOf sl).all (fun s => d.sn s Sess.OUTSTANDING = 0) &&
    !d.ev.presented.any (fun e => e.slice = sl) && !d.ev.waiting.any (fun w => w.ev.slice = sl)

/-- The SLICE_FREEZE of slice `sl` in progress ends with a status. -/
def Dev.freezeEnd (d : Dev) (sl status : Nat) : Dev :=
  match d.admin.find? (fun c => c.op = 0x0304 && c.started && c.done.isNone && c.arg % 2 ^ 12 = sl) with
  | some c => d.admEnd c.pf c.idx status 0
  | none => d

/-- FREEZE_DONE, R341. -/
def freezeDone (sl : Nat) (d : Dev) : Dev :=
  if d.sliceState sl ≠ 2 || !d.frozenNow sl then d
  else (((d.cs .slice sl Slc.STATE 3).cadd .slice sl Slc.FREEZE_GEN 1).touch 6 sl).freezeEnd sl Sc.ok

/-- FREEZE_DONE. -/
def execFreezeDone (slice : Nat) (s : State) : Host.Outcome State Fault Refusal := s.run (freezeDone slice)

/-- R341: the freeze of slice `sl` ends undone: the slice is ACTIVE again and pending doorbells are served. -/
def Dev.freezeUndo (d : Dev) (sl : Nat) : Dev :=
  if d.sliceState sl ≠ 2 then d
  else
    let d := (d.cs .slice sl Slc.STATE 1).touch 6 sl
    let d := (d.queuesOf sl).foldl (fun (d : Dev) q => if ((d.qst q).map QSt.rung).getD false then d.ringQ q else d) d
    d.freezeEnd sl 0x3F

/-- R344: slice `sl` becomes ACTIVE: its queues are rung and what its connections and sessions have outstanding is resent. -/
def Dev.thaw (d : Dev) (sl : Nat) : Dev :=
  let d := d.cs .slice sl Slc.STATE 1
  let d := (d.queuesOf sl).foldl (fun (d : Dev) q => d.ringQ q) d
  let d := (d.connsOf sl).foldl (fun (d : Dev) c =>
    if d.cn c Conn.STATE = 3 && d.cn c Conn.UNA_PSN ≠ d.cn c Conn.SQ_PSN then d.connResend c else d) d
  let d := (d.sessionsOf sl).foldl (fun (d : Dev) s => if d.sn s Sess.BINDING = 1 then d.tcpResend s true else d) d
  d.touch 6 sl

/-- SLICE_THAW. -/
def sliceThaw (pf idx : Nat) (d : Dev) : Dev :=
  d.admRun pf idx 0x0307 (fun a d =>
    let sl := a.arg % 2 ^ 12
    let st := d.sliceStatus pf sl [3]
    if st ≠ Sc.ok then d.admEnd pf idx st 0 else (d.thaw sl).admEnd pf idx Sc.ok 0)

/-- SLICE_THAW. -/
def execSliceThaw (pf idx : Nat) (s : State) : Host.Outcome State Fault Refusal := s.run (sliceThaw pf idx)

/-! ### Saving (R342) -/

/-- Words of one entry of each record of the saved state. -/
def savedWords : List Nat := [16, 4, 8, 8, 64, 64, 4]

/-- R342: one record: its header and entries. -/
def savedRec (type n : Nat) (es : List (List Word)) : List Word :=
  [BitVec.ofNat 64 (type + es.length * 2 ^ 32), BitVec.ofNat 64 (8 * n)] ++ es.flatMap id

/-- R342: the saved state of slice `sl`. -/
def Dev.savedState (d : Dev) (pf sl : Nat) : List Byte :=
  let recs := [[d.crec .slice sl 16], d.allowList sl, (d.queuesOf sl).map (fun q => d.crec .queue q 8),
    (d.eqsOf pf sl).map (fun q => d.eqContext pf q), (d.connsOf sl).map (fun c => d.crec .conn c 64),
    (d.sessionsOf sl).map (fun s => d.crec .session s 64), (d.windowsOf sl).map (fun i => d.crec .window i 4)]
  let body := (List.range 7).flatMap (fun i => savedRec (i + 1) (savedWords.getD i 0) (recs.getD i []))
  let hd := fun (crc : Nat) => [BitVec.ofNat 64 (0x54434C53 + 2 ^ 32 + 7 * 2 ^ 40),
    BitVec.ofNat 64 (64 + 8 * body.length + sl * 2 ^ 32),
    BitVec.ofNat 64 (d.cg .slice sl Slc.QBASE + d.cg .slice sl Slc.QCOUNT * 2 ^ 20),
    BitVec.ofNat 64 (d.cg .slice sl Slc.FREEZE_GEN), 0, 0, 0, BitVec.ofNat 64 crc]
  ofWords (hd (crc32c (ofWords (hd 0 ++ body))) ++ body)

/-- SLICE_SAVE, R342. -/
def sliceSave (pf idx : Nat) (reach : Bool) (d : Dev) : Dev :=
  d.admRun pf idx 0x0305 (fun a d =>
    let sl := a.arg % 2 ^ 12
    let st := d.sliceStatus pf sl [3]
    if st ≠ Sc.ok then d.admEnd pf idx st 0
    else
      let bs := d.savedState pf sl
      if d.badRec .allow sl || (d.windowsOf sl).any (fun i => d.badRec .window i) ||
          (d.sessionsOf sl).any (fun s => d.badRec .session s) then d.admEnd pf idx Sc.integrity 0
      else if a.len < bs.length then d.admEnd pf idx Sc.noResource bs.length else d.admOut a reach bs bs.length)

/-- SLICE_SAVE. -/
def execSliceSave (pf idx : Nat) (reach : Bool) (s : State) : Host.Outcome State Fault Refusal :=
  s.run (sliceSave pf idx reach)

/-! ### Restoring (R343) -/

/-- R342: the entries of the records that follow the header, where they agree with their table and fill `ws`. -/
def parseSaved : List Nat → Nat → List Word → Option (List (List (List Word)))
  | [], _, ws => if ws.isEmpty then some [] else none
  | n :: ns, type, ws =>
    let h := ws.getD 0 0
    let k := getBits h 32 32
    if ws.length < 2 || h.toNat ≠ type + k * 2 ^ 32 || (ws.getD 1 0).toNat ≠ 8 * n || decide (ws.length < 2 + n * k) then none
    else (parseSaved ns (type + 1) (ws.drop (2 + n * k))).map (fun rest => chunk n k (ws.drop 2) :: rest)

/-- R343, check 1: header words and records of a saved state that is whole. A buffer may be longer than the state in it. -/
def readSaved (bs : List Byte) : Option (List Word × List (List (List Word))) :=
  let h := toWords 8 bs
  let w := fun (i : Nat) => h.getD i 0
  let len := getBits (w 1) 0 32
  let whole := spliceBytes (bs.take len) 56 (leBytes 4 0)
  if bs.length < 64 || decide (bs.length < len) || decide (len < 64) || len % 8 ≠ 0 || getBits (w 0) 0 32 ≠ 0x54434C53 ||
      getBits (w 0) 40 8 ≠ 7 || crc32c whole ≠ getBits (w 7) 0 32 then none
  else (parseSaved savedWords 1 (toWords (len / 8 - 8) (bs.drop 64))).map (fun r => (h, r))

/-- R343: queue ID `q` of a saved state under the new range. -/
def moved (src dst q : Nat) : Nat := if q = 0x3FFFF then q else (q + dst + 2 ^ 18 - src) % 2 ^ 18

/-- R343: a saved queue context with its queue IDs and slice rewritten. -/
def movedQueue (src dst sl : Nat) (ws : List Word) : List Word :=
  let m := fun (f : CFld) (ws : List Word) => wset ws f (moved src dst (wget ws f))
  let ws := wset (m Qctx.QID ws) Qctx.SLICE sl
  let k := wget ws Qctx.KIND
  if k = 3 || k = 6 then ws else m Qctx.CQ ws

/-- R343, check 2: the records of a saved state are allowed, in themselves and among each other. -/
def savedOk (h : List Word) (r : List (List (List Word))) : Bool :=
  let at_ := fun (i : Nat) => r.getD i []
  let ctx := (at_ 0).getD 0 []
  let q0 := getBits (h.getD 2 0) 0 18
  let n := getBits (h.getD 2 0) 20 19
  let ids := (at_ 2).map (fun ws => wget ws Qctx.QID)
  let inR := fun (q : Nat) => decide (q0 ≤ q) && decide (q < q0 + n)
  let sreserved := fun (ws : List Word) => (List.range 64).all (fun w => (ws.getD w 0) &&& ~~~ BitVec.ofNat 64 (sessMask w) = 0)
  getBits (h.getD 0 0) 32 8 = 1 && (at_ 0).length = 1 && sliceFormOk ctx && wget ctx Slc.QBASE = q0 && wget ctx Slc.QCOUNT = n &&
    (at_ 1).length = wget ctx Slc.ALLOW_COUNT && decide ((at_ 1).length ≤ 32) && (at_ 1).all allowOk &&
    (at_ 2).all (fun ws => queueFormOk ws && inR (wget ws Qctx.QID)) && ids.eraseDups.length = ids.length &&
    (at_ 3).all (fun ws => eqFormOk ws && wget ws EqC.EQ ≠ 0) &&
    (at_ 4).all (fun ws => connReservedOk ws && wget ws Conn.STATE ≠ 0 && wget ws Conn.PMTU ≠ 3) &&
    (at_ 5).all (fun ws => sreserved ws && wget ws Sess.STATE ≠ 0) && (at_ 6).all (fun ws => mwOk ws && wget ws Mw.VALID = 1)

/-- Insert into a list that rises by `f`. -/
def insertBy (f : Nat → Nat) (a : Nat) : List Nat → List Nat
  | [] => [a]
  | b :: bs => if f a ≤ f b then a :: b :: bs else b :: insertBy f a bs

/-- A list in order of `f`. -/
def sortBy (f : Nat → Nat) : List Nat → List Nat
  | [] => []
  | a :: as => insertBy f a (sortBy f as)

/-- R270, R343, R479: connection `c`, its context in place, takes new tally entries for its outstanding messages, and the
messages are resumed from their work entries, read again: `jobs` lists ring indices and entries of its SQ, paired with
context entries by WR_TAG. A message that is acknowledged in full still owes its completion (R278). READs being served and
messages without an entry are dropped (assumption 51). -/
def Dev.adoptMsgs (d : Dev) (c : Nat) (jobs : List (Nat × List (List Word))) : Dev :=
  let sq := d.cn c Conn.SQ
  let una := d.cn c Conn.UNA_PSN
  let valid := (List.range 24).filter (fun k => d.cn c (Conn.VALID k) = 1)
  let d := { d with tp := { d.tp with conns := d.tp.conns.filter (fun (x : TpConn) => x.cid ≠ c) ++
    [{ TpConn.init c (d.cn c Conn.SQ_PSN) with adopted := true }] } }
  let ahead := fun (k : Nat) => psnSub (d.cn c (Conn.PSN_LAST k)) una
  let order := sortBy ahead valid
  order.foldl (fun (d : Dev) k =>
    let first := d.cn c (Conn.PSN_FIRST k)
    let n := psnSub (d.cn c (Conn.PSN_LAST k)) first + 1
    let op := d.cn c (Conn.OP k)
    let gone := (d.setOw Cls.conn.code c (16 + 2 * k) 0).setOw Cls.conn.code c (17 + 2 * k) 0
    match jobs.find? (fun j => wget (j.2.getD 0 []) Went.WR_TAG = d.cn c (Conn.WR_TAG k) &&
        !(((d.qst sq).map QSt.jobs).getD []).any (fun x => x.idx = j.1)), d.takeTally c with
    | some j, (d', some t) =>
      if op = 6 then gone
      else
        let e := j.2.getD 0 []
        let up := psnSub (d.cn c Conn.SQ_PSN) first
        let m : TpMsg :=
          { slot := k, job := j.1, op := op, len := wget e Went.LEN, va := wget e Rdma.REMOTE_VA, rkey := wget e Rdma.RKEY
            imm := wget e Rdma.IMM, first := first, n := n, sent := if op = 5 then min 1 up else min n up
            got := if op = 5 && decide (psnSub una first < n) then psnSub una first * d.pmtu c else 0, post := none }
        let job : Job := { idx := j.1, ents := j.2, moved := 0, granted := true, grant := none, result := none }
        let d := d'.setCn c (Conn.TALLY k) t
        let done := psnBefore (d.cn c (Conn.PSN_LAST k)) una
        let d := d.setTc c (fun (x : TpConn) =>
          { x with
              msgs := x.msgs ++ [m]
              held := if done then x.held ++ [(none, .message k Sc.ok m.len)] else x.held })
        d.setQ sq (fun (x : QSt) => { x with jobs := x.jobs ++ [job] })
    | _, _ => gone) d

/-- Stream bytes that a saved session has sent and that have not been acknowledged are not in the saved state: free values. -/
def Dev.freeStream (d : Dev) (s : Nat) : Dev :=
  let n := (d.sn s Strm.SND_NXT + 2 ^ 32 - d.sn s Strm.SND_UNA) % 2 ^ 32
  let bs := (List.range n).map (fun i => BitVec.ofNat 8 (Config.freeValue (d.free + i)).toNat)
  { d with free := d.free + n
           stor := { d.stor with tcp := d.stor.tcp.filter (fun (x : StTcp) => x.sess ≠ s) ++ [StTcp.init s bs] } }

/-- R343: numbers under which entries `0` to `n` of record `type` of a saved state are created: no field of the entries holds
them (assumption 63). -/
def savedNums (bs : List Byte) (type n size : Nat) : List Nat :=
  (List.range n).map (fun i => Config.savedIndex bs type i % size)

/-- No number stands twice. -/
def distinct (l : List Nat) : Bool := l.eraseDups.length = l.length

/-- R343, checks 3 and 4, and R460: status of restoring records as slice `sl` of `pf`. -/
def Dev.restoreStatus (d : Dev) (pf sl dst pasid : Nat) (h : List Word) (r : List (List (List Word))) (cs ss ms : List Nat) :
    Nat :=
  let at_ := fun (i : Nat) => r.getD i []
  let ctx := (at_ 0).getD 0 []
  let src := wget ctx Slc.QBASE
  let qs := (at_ 2).map (movedQueue src dst sl)
  let cqIds := (qs.filter (fun ws => wget ws Qctx.KIND = 3)).map (fun ws => wget ws Qctx.QID)
  let rxIds := (qs.filter (fun ws => wget ws Qctx.KIND = 2)).map (fun ws => wget ws Qctx.QID)
  let rxq := moved src dst (wget ctx Slc.DEFAULT_RXQ)
  let cqKnown := fun (ws : List Word) => wget ws Qctx.KIND = 3 || wget ws Qctx.KIND = 6 || cqIds.contains (wget ws Qctx.CQ) ||
    d.cqOk pf (wget ws Qctx.CQ)
  let eqs := (at_ 3).map (fun ws => wget ws EqC.EQ)
  let needs := ((at_ 4).map (fun ws => ((List.range 24).filter (fun k => wget ws (Conn.VALID k) = 1)).length)).foldl (· + ·) 0
  if !d.rangeOk pf sl dst (getBits (h.getD 2 0) 20 19) || !d.pasidOk pf sl ctx pasid || !qs.all cqKnown ||
      !(rxq = 0x3FFFF || rxIds.contains rxq) || (!(at_ 4).isEmpty && !d.feature 2) || (!(at_ 5).isEmpty && !d.feature 3) then
    Sc.malformed
  else if d.otherSide sl || (cs ++ ss ++ ms).any d.otherSide then 0x2E
  else if !d.maxFit pf sl ctx || !distinct cs || !distinct ss || !distinct ms || !distinct eqs ||
      cs.any (fun c => decide (c < 2) || d.cn c Conn.STATE ≠ 0) || ss.any (fun s => d.sn s Sess.STATE ≠ 0) ||
      ms.any (fun i => d.cg .window i Mw.VALID = 1) || eqs.any (fun q => d.eqValid pf q) ||
      qs.any (fun ws => (d.queueBinding (wget ws Qctx.QID)).isNone || d.qExists (wget ws Qctx.QID)) ||
      decide (524288 < d.tp.tally.length + needs) then Sc.noResource
  else Sc.ok

/-- R343: the FROZEN slice `sl` and its objects, each under its saved number. -/
def Dev.restore (d : Dev) (pf sl dst pasid : Nat) (r : List (List (List Word))) (cs ss ms : List Nat)
    (rings : List (Nat × List (Nat × List (List Word)))) : Dev :=
  let at_ := fun (i : Nat) => r.getD i []
  let ctx := (at_ 0).getD 0 []
  let src := wget ctx Slc.QBASE
  let d := ((d.clearRec .slice sl).setRec .slice sl ctx).setOw Cls.slice.code sl 4 0
  let d := (d.setOw Cls.slice.code sl 5 0).cs .slice sl Slc.STATE 3
  let d := (((d.cs .slice sl Slc.OWNER pf).cs .slice sl Slc.RESTORED 1).cs .slice sl Slc.PASID pasid).cs .slice sl Slc.SLICE_ID sl
  let d := (d.cs .slice sl Slc.QBASE dst).cs .slice sl Slc.DEFAULT_RXQ (moved src dst (wget ctx Slc.DEFAULT_RXQ))
  let d := d.putAllow sl (at_ 1)
  let (cqs, others) := ((at_ 2).map (movedQueue src dst sl)).partition (fun ws => wget ws Qctx.KIND = 3)
  let d := (cqs ++ others).foldl (fun (d : Dev) ws =>
    let q := wget ws Qctx.QID
    let n := wget ws Qctx.SCHED_NODE
    let ws := if wget ws Qctx.KIND = 1 && n ≠ 0xFFFF && !d.leafParentOk n sl then wset ws Qctx.SCHED_NODE 0xFFFF else ws
    let d := (d.clearRec .queue q).setRec .queue q ws
    (((d.setQf q Qctx.ATTACHED 0).setQf q Qctx.OWNER pf).joinQueue q).touch 4 q) d
  let d := (at_ 3).foldl (fun (d : Dev) ws => (d.putEq pf (wget ws EqC.EQ) (wset ws EqC.SLICE sl) true).sliceInc sl Slc.USED_EQS) d
  let d := ((at_ 6).zip ms).foldl (fun (d : Dev) x =>
    (((d.clearRec .window x.2).setRec .window x.2 (wset x.1 Mw.SLICE sl)).sliceInc sl Slc.USED_MWS).touch 8 x.2) d
  let d := ((at_ 4).zip cs).foldl (fun (d : Dev) x =>
    let ws := wset x.1 Conn.SLICE sl
    let ws := wset (wset ws Conn.SQ (moved src dst (wget ws Conn.SQ))) Conn.RQ (moved src dst (wget ws Conn.RQ))
    let d := ((d.clearRec .conn x.2).setRec .conn x.2 ws).sliceInc sl Slc.USED_CONNS
    let jobs := ((rings.find? (fun y => y.1 = d.cn x.2 Conn.SQ)).map (fun y => y.2)).getD []
    ((d.adoptMsgs x.2 jobs).tpCache x.2).touchConn x.2) d
  let d := ((at_ 5).zip ss).foldl (fun (d : Dev) x =>
    let ws := wset x.1 Sess.SLICE sl
    let ws := wset ws Sess.HOST_Q (moved src dst (wget ws Sess.HOST_Q))
    let d := ((d.clearRec .session x.2).setRec .session x.2 ws).sliceInc sl Slc.USED_SESSIONS
    let d := if d.sn x.2 Sess.BINDING = 1 then d.freeStream x.2 else d
    (d.stCache x.2).touch 9 x.2) d
  d.touch 6 sl

/-- SLICE_RESTORE, R343: `rings` holds, for each SQ of the saved state under its new ID, the work entries that its outstanding
messages need, read from its ring. -/
def sliceRestore (pf idx : Nat) (data : Option (List Byte)) (rings : List (Nat × List (Nat × List (List Word)))) (d : Dev) : Dev :=
  d.admIn pf idx 0x0306 data (fun a bs d =>
    let sl := a.arg % 2 ^ 12
    let dst := a.arg / 2 ^ 20 % 2 ^ 18
    let pasid := a.arg / 2 ^ 40 % 2 ^ 20
    if d.badRec .slice sl then d.admEnd pf idx Sc.integrity 0
    else if sl = 0 || d.sliceState sl ≠ 0 || d.adopting sl then d.admEnd pf idx 0x3E 0
    else
      match readSaved bs with
      | none => d.admEnd pf idx Sc.integrity 0
      | some (h, r) =>
        let cs := savedNums bs 5 (r.getD 4 []).length (2 ^ 22)
        let ss := savedNums bs 6 (r.getD 5 []).length (2 ^ 17)
        let ms := savedNums bs 7 (r.getD 6 []).length 65536
        if !savedOk h r then d.admEnd pf idx Sc.malformed 0
        else
          let st := d.restoreStatus pf sl dst pasid h r cs ss ms
          if st ≠ Sc.ok then d.admEnd pf idx st 0 else (d.restore pf sl dst pasid r cs ss ms rings).admEnd pf idx Sc.ok 0)

/-- SLICE_RESTORE. -/
def execSliceRestore (pf idx : Nat) (data : Option (List Byte)) (rings : List (Nat × List (Nat × List (List Word))))
    (s : State) : Host.Outcome State Fault Refusal := s.run (sliceRestore pf idx data rings)

/-! ### Destroying (R345) -/

/-- R345: slice `sl` of `pf` and everything in it goes; `report` from ACTIVE, silently from FROZEN. `rings`: entries read from
HEAD of its work rings. -/
def Dev.dropSlice (d : Dev) (pf sl : Nat) (report : Bool) (rings : List (Nat × List (Option (List Word)))) : Dev :=
  let d := (d.cs .slice sl Slc.STATE 4).touch 6 sl
  let d := (d.sessionsOf sl).foldl (fun (d : Dev) s => d.sessRemove s report) d
  let d := (d.connsOf sl).foldl (fun (d : Dev) c => d.connRemove c report) d
  let (cqs, others) := (d.queuesOf sl).partition (fun q => d.qf q Qctx.KIND = 3)
  let go := fun (d : Dev) (q : Nat) =>
    let d := if report then (d.abortQueue q (((rings.find? (fun x => x.1 = q)).map (fun x => x.2)).getD [])).1 else d
    d.removeQueue q
  let d := cqs.foldl go (others.foldl go d)
  let d := (d.eqsOf pf sl).foldl (fun (d : Dev) q => d.removeEq pf q) d
  let d := (d.windowsOf sl).foldl (fun (d : Dev) i => d.dropMw i) d
  (((d.clearRec .allow sl).clearRec .slice sl).untouch 6 sl).untouch 7 sl

/-- SLICE_DESTROY. -/
def sliceDestroy (pf idx : Nat) (rings : List (Nat × List (Option (List Word)))) (d : Dev) : Dev :=
  d.admRun pf idx 0x0308 (fun a d =>
    let sl := a.arg % 2 ^ 12
    let st := d.sliceStatus pf sl [1, 3]
    if st ≠ Sc.ok then d.admEnd pf idx st 0
    else (d.dropSlice pf sl (d.sliceState sl = 1) rings).admEnd pf idx Sc.ok 0)

/-- SLICE_DESTROY. -/
def execSliceDestroy (pf idx : Nat) (rings : List (Nat × List (Option (List Word)))) (s : State) :
    Host.Outcome State Fault Refusal := s.run (sliceDestroy pf idx rings)

end Sys2Proof.Machine
end

