-- ==== Sys2Proof/Machine/LinkReset.lean ====
section
/-! DEFINITION. Link-level resets of a function and their end (R304, R518 to R520, R527). -/

namespace Sys2Proof.Machine

/-- Queue `q` goes with every job it holds ABORTED. -/
def Dev.killQueue (d : Dev) (q : Nat) : Dev := if d.qExists q then (d.abortQueue q []).1.removeQueue q else d

/-- R527: the patch has ended: queues whose destruction waited for it go. -/
def Dev.finishDoomed (d : Dev) : Dev :=
  if d.img.patch.isSome then d
  else
    let qs := d.boot.doomed
    qs.foldl (fun (d : Dev) q => d.killQueue q) { d with boot := { d.boot with doomed := [] } }

/-- PATCH_SWAP, R63, R527. -/
def execPatchSwap (s : State) : Host.Outcome State Fault Refusal := s.run (fun d => (patchSwap d).finishDoomed)

/-- PATCH_RESUME, R63, R527. -/
def execPatchResume (s : State) : Host.Outcome State Fault Refusal := s.run (fun d => (patchResume d).finishDoomed)

/-- PATCH_DRAIN_TIMEOUT, R65, R527. -/
def execPatchDrainTimeout (s : State) : Host.Outcome State Fault Refusal :=
  s.run (fun d => (patchDrainTimeout d).finishDoomed)

/-- R518: the configuration words kept: by an FLR what governs the link, by a Hot Reset sticky bits only. -/
def keepCfg (kind : Nat) (cfg : List (Nat × Word)) : List (Nat × Word) :=
  cfg.filterMap (fun x =>
    if x.1 = 0x44 && kind ≤ 2 then some (x.1, x.2 &&& 0x100)
    else if kind ≤ 2 && (x.1 = 0x108 || x.1 = 0x10C || x.1 = 0x114 || x.1 = 0x118 || (x.1 = 0x90 && kind = 2)) then some x
    else if kind = 1 && (x.1 = 0x70 || x.1 = 0x90) then some x
    else if kind = 1 && x.1 = 0x68 then some (x.1, (x.2 &&& 0xE0) ||| 0x2910)
    else none)

/-- R518: the configuration space of function `pf` is cleared, with the enables and power state it holds and the MSI-X table. -/
def Dev.clearCfg (d : Dev) (pf kind : Nat) : Dev :=
  let d := d.setEp pf (fun (e : EpSt) =>
    { e with
        cfg := keepCfg kind e.cfg, bme := false, mse := false, dstate := 0, l0pEn := false
        aspmL1 := kind = 1 && e.aspmL1, l11En := false, l12En := false, atsEn := false, relaxed := true
        pasidEn := false, msixEn := false, msixMask := false })
  d.resetRegs (msixUnit pf) (fun _ => false)

/-- R518: the queues, event queues and admin queue of function `pf` go, and then the connections and sessions of slice 0
that used them. -/
def Dev.dropFunction (d : Dev) (pf : Nat) : Dev :=
  let mine := fun (q : Nat) => d.qExists q && d.qf q Qctx.OWNER = pf
  let ss := (d.recs .session).filter (fun s => d.sn s Sess.STATE ≠ 0 && d.sn s Sess.SLICE = 0 && mine (d.sn s Sess.HOST_Q))
  let cs := (d.recs .conn).filter (fun c => d.cn c Conn.STATE ≠ 0 && d.cn c Conn.SLICE = 0 &&
    (mine (d.cn c Conn.SQ) || mine (d.cn c Conn.RQ)))
  let qs := (d.queues.map QSt.qid).filter mine
  let (late, now) := qs.partition (fun q => d.heldByPatch q)
  let needed := fun (q : Nat) => late.any (fun x => d.qf x Qctx.CQ = q)
  let (cqs, others) := now.partition (fun q => d.qf q Qctx.KIND = 3)
  let (kept, gone) := cqs.partition needed
  let d := { d with boot := { d.boot with doomed := d.boot.doomed ++ late ++ kept } }
  let d := (others ++ gone).foldl (fun (d : Dev) q => d.killQueue q) d
  let d := ((List.range 1024).filter (fun q => d.eqValid pf q)).foldl (fun (d : Dev) q => d.removeEq pf q) d
  let d := { d with
    admin := d.admin.filter (fun (c : AdminCmd) => c.pf ≠ pf)
    aqRung := if pf = 0 then (false, d.aqRung.2) else (d.aqRung.1, false) }
  let d := d.resetRegs (epId pf) (fun off => decide (off < 0x800) || decide (0x828 ≤ off))
  let d := ss.foldl (fun (d : Dev) s => d.sessRemove s true) d
  cs.foldl (fun (d : Dev) c => d.connRemove c true) d

/-- R346, R518: the slices of function `pf` go, then its queues and what used them. -/
def Dev.dropObjects (d : Dev) (pf : Nat) : Dev :=
  let d := (d.slices.filter (fun sl => d.cg .slice sl Slc.OWNER = pf)).foldl
    (fun (d : Dev) sl => d.dropSlice pf sl (d.sliceState sl ≠ 3) []) d
  d.dropFunction pf

/-- R527: a link-level reset during a takeover destroys the objects of function `pf`, adopted ones included, when it ends. -/
def Dev.dropOrWait (d : Dev) (pf : Nat) : Dev :=
  if d.twinState = 4 then { d with boot := { d.boot with late := d.boot.late.filter (· ≠ pf) ++ [pf] } } else d.dropObjects pf

/-- R527: the takeover has ended: objects whose destruction waited for it go. -/
def Dev.finishLate (d : Dev) : Dev :=
  d.boot.late.foldl (fun (d : Dev) pf => d.dropObjects pf) { d with boot := { d.boot with late := [] } }

/-- R518 to R520: a link-level reset of function `pf`: kind 1 FLR, 2 Hot Reset, 3 Conventional Reset. Bus Master Enable is 0 from
its start, so no write it gives rise to leaves. A reset in progress merges, the stronger deciding. -/
def Dev.linkReset (d : Dev) (pf kind : Nat) : Dev :=
  let u := epId pf
  let k := max kind (d.ep pf).resetKind
  let d := d.setEp pf (fun (e : EpSt) => { e with bme := false })
  let d := if 2 ≤ kind then
      let d := if (d.ep pf).linkUp then d.add u Ep.LINK_DOWN 1 else d
      let d := d.setEp pf (fun (e : EpSt) => { e with linkUp := false, l0pRun := 0, l0pReq := none })
      ((((d.s u Ep.EP_LINK_STATUS_RATE 0).s u Ep.EP_LINK_STATUS_WIDTH 0).s u Ep.EP_LINK_STATUS_CUR_WIDTH 0).s u
        Ep.EP_LINK_STATUS_FLIT 0).s u Ep.EP_LINK_STATUS_PM_STATE 5
    else d
  let d := ((((d.chLinkReset pf).clearCfg pf k).dropOrWait pf).dropSpdm pf).agentReset u
  let d := d.setEp pf (fun (e : EpSt) =>
    { e with
        resetKind := k, pmeSent := false, ats := [], doeIn := [], doeOut := [], doeErr := false, spdmLog := [], ideInsecure := []
        heldWrites := [] })
  (d.s u Ep.EP_CFG_CTL_CFG_READY 0).s u Ep.EP_CFG_CTL_AUTO_READY 0

/-- R528: BOOT_TIME.READY_MS holds the ms to the first CFG_READY of either endpoint. -/
def Dev.noteReady (d : Dev) : Dev :=
  if d.on rootId Root.BOOT_TIME_READY_MS then d else d.s rootId Root.BOOT_TIME_READY_MS ((d.time - d.boot.t0) / 1000000)

/-- R304: CFG_READY becomes 1. -/
def Dev.setReady (d : Dev) (pf auto : Nat) : Dev :=
  ((d.s (epId pf) Ep.EP_CFG_CTL_CFG_READY 1).s (epId pf) Ep.EP_CFG_CTL_AUTO_READY auto).noteReady

/-- PERST_ASSERT, R516, R518: PERST_x_N falls. In Sealed standby only the level of the pin changes. -/
def perstAssert (pf : Nat) (d : Dev) : Dev :=
  if (d.ep pf).perst then d
  else (if d.power.state = .sealed || d.boot.tripped then d else d.linkReset pf 3).setEp pf
    (fun (e : EpSt) => { e with perst := true })

/-- PERST_ASSERT. -/
def execPerstAssert (pf : Nat) (s : State) : Host.Outcome State Fault Refusal := s.runIf (fun _ => true) (perstAssert pf)

/-- PERST_DEASSERT, R304: PERST_x_N rises; the link trains. -/
def perstDeassert (pf : Nat) (d : Dev) : Dev := d.setEp pf (fun (e : EpSt) => { e with perst := false, resetKind := 0 })

/-- PERST_DEASSERT. -/
def execPerstDeassert (pf : Nat) (s : State) : Host.Outcome State Fault Refusal :=
  s.runIf (fun _ => true) (perstDeassert pf)

/-- HOT_RESET, R518: an in-band Hot Reset, or a drop of the link to Detect. -/
def hotReset (pf : Nat) (d : Dev) : Dev := if (d.ep pf).linkUp then d.linkReset pf 2 else d

/-- HOT_RESET. -/
def execHotReset (pf : Nat) (s : State) : Host.Outcome State Fault Refusal := s.run (hotReset pf)

/-- FLR, R518: Initiate FLR; the link stays up. -/
def flr (pf : Nat) (d : Dev) : Dev := if (d.ep pf).linkUp then d.linkReset pf 1 else d

/-- FLR. -/
def execFlr (pf : Nat) (s : State) : Host.Outcome State Fault Refusal := s.run (flr pf)

/-- LINK_RESET_DONE, R519: the work of an FLR, or of a Hot Reset whose link is up again, is finished. It waits for a
takeover in progress (R527). -/
def linkResetDone (pf : Nat) (d : Dev) : Dev :=
  let e := d.ep pf
  if e.resetKind = 0 || e.resetKind = 3 || !e.linkUp || d.boot.late.contains pf then d
  else (d.setReady pf 0).setEp pf (fun (e : EpSt) => { e with resetKind := 0 })

/-- LINK_RESET_DONE. -/
def execLinkResetDone (pf : Nat) (s : State) : Host.Outcome State Fault Refusal := s.run (linkResetDone pf)

/-- CFG_READY, R304, R325: firmware writes CFG_READY. -/
def cfgReadyCmd (pf : Nat) (d : Dev) : Dev :=
  if d.on (epId pf) Ep.EP_CFG_CTL_CFG_READY then d else d.setReady pf 0

/-- CFG_READY. -/
def execCfgReady (pf : Nat) (s : State) : Host.Outcome State Fault Refusal := s.run (cfgReadyCmd pf)

/-- READY_TIMEOUT, R304: 900 ms after PERST_x_N rose. -/
def readyTimeout (pf : Nat) (d : Dev) : Dev :=
  if (d.ep pf).perst || d.on (epId pf) Ep.EP_CFG_CTL_CFG_READY then d
  else (d.setReady pf 1).raise (epId pf) 0x0706 0 0

/-- READY_TIMEOUT. -/
def execReadyTimeout (pf : Nat) (s : State) : Host.Outcome State Fault Refusal := s.run (readyTimeout pf)

/-- R303: code of the highest rate offered. -/
def Dev.rateOffered (d : Dev) (pf : Nat) : Nat := min (d.g (epId pf) Ep.EP_LINK_CTL_MAX_RATE) (if d.feature 9 then 7 else 6)

/-- PCIE_LINK_UP, R302, R303: the link reaches L0 at a rate and width, within what is offered; `common` is the highest rate of
both partners, `recoveries` the entries to Recovery on the way. -/
def pcieLinkUp (pf rate width common recoveries : Nat) (flit : Bool) (d : Dev) : Dev :=
  let u := epId pf
  let ok := !(d.ep pf).perst && decide (1 ≤ rate) && decide (rate ≤ d.rateOffered pf) && [1, 2, 4, 8, 16].contains width &&
    decide (width ≤ d.g u Ep.EP_LINK_CTL_MAX_WIDTH)
  if !ok then d
  else
    let d := ((((d.s u Ep.EP_LINK_STATUS_RATE rate).s u Ep.EP_LINK_STATUS_WIDTH width).s u Ep.EP_LINK_STATUS_CUR_WIDTH width).s u
      Ep.EP_LINK_STATUS_FLIT (if flit || decide (6 ≤ rate) then 1 else 0)).s u Ep.EP_LINK_STATUS_PM_STATE 0
    let d := (d.add u Ep.RECOVERY recoveries).setEp pf (fun (e : EpSt) => { e with linkUp := true, l0pRun := 0, l0pReq := none })
    if width < 16 || rate < min common (d.rateOffered pf) then d.raise u 0x0705 0 (rate + width * 8) else d

/-- PCIE_LINK_UP. -/
def execPcieLinkUp (pf rate width common recoveries : Nat) (flit : Bool) (s : State) : Host.Outcome State Fault Refusal :=
  s.run (pcieLinkUp pf rate width common recoveries flit)

end Sys2Proof.Machine
end

