-- ==== Sys2Proof/Machine/Adopt.lean ====
section
/-! DEFINITION. What a twin builds from its partner's mirror at a takeover or a switchover, and what it gives away
(R470, R476 to R481). -/

namespace Sys2Proof.Machine

/-! ### The mirror (R468) -/

/-- Body of the newest write record of an object, if the mirror holds it. -/
def Dev.mirrored (d : Dev) (rtype i : Nat) : Option (List Byte) :=
  (d.twin.mirror.find? (fun r => r.rtype = rtype && r.index = i)).map MirRec.body

/-- Objects of a record type that the mirror holds: index and body. -/
def Dev.mirrorOf (d : Dev) (rtype : Nat) : List (Nat × List Byte) :=
  (d.twin.mirror.filter (fun r => r.rtype = rtype)).map (fun r => (r.index, r.body))

/-! ### The map of queue IDs (R477) -/

/-- Which of the partner's ranges are adopted: both at a takeover, the mirror range for SCOPE 0 of a switchover and the adopt
range for SCOPE 1. -/
structure AdoptSet where
  own : Bool
  back : Bool
  deriving DecidableEq, Repr

/-- R477: the queue ID that ID `q` of the partner becomes, if it maps. -/
def Dev.mapQ (d : Dev) (x : AdoptSet) (q : Nat) : Option Nat :=
  let base := (d.bound 0x40).2.2
  let n := (d.bound 0x41).2.2
  let peer := d.g rootId Root.TWIN_MIRROR_PEER_QBASE
  if x.own && decide (peer ≤ q) && decide (q < peer + n) then some (base + (q - peer))
  else if x.back && decide (base ≤ q) && decide (q < base + n) then some (d.g rootId Root.TWIN_MIRROR_OWN_QBASE + (q - base))
  else none

/-- R477: first ID of the range that `n` IDs from `q0` become, if they lie wholly in one range that maps. -/
def Dev.mapRange (d : Dev) (x : AdoptSet) (q0 n : Nat) : Option Nat :=
  match d.mapQ x q0, d.mapQ x (q0 + n - 1) with
  | some a, some b => if b = a + (n - 1) then some a else none
  | _, _ => none

/-- The ID that `q` becomes where it maps, else `q`. -/
def Dev.mapOr (d : Dev) (x : AdoptSet) (q : Nat) : Nat := (d.mapQ x q).getD q

/-- R480: PEER_OFFSET. -/
def Dev.peerOffset (d : Dev) : Nat := d.g rootId Root.TWIN_PEER_OFFSET_NS

/-- R480: a device-time field of `w` bits moves to this twin's time, unless it is 0. -/
def Dev.moveTime (d : Dev) (ws : List Word) (f : CFld) : List Word :=
  if wget ws f = 0 then ws else wset ws f (wget ws f + d.peerOffset)

/-- R460: an object has been adopted. -/
def Dev.noteAdopted (d : Dev) (rtype i : Nat) : Dev :=
  { d with twin := { d.twin with adopted := d.twin.adopted ++ [(rtype, i)] } }

/-- R477: slice `sl` has been adopted in this takeover or an earlier one. -/
def Dev.adoptedSlice (d : Dev) (sl : Nat) : Bool := d.twin.adopted.contains (6, sl) && d.sliceState sl ≠ 0

/-! ### Building (R477 to R480) -/

/-- R477: a slice of the partner whose range maps. -/
def Dev.adoptSlice (d : Dev) (x : AdoptSet) (r : Nat × List Byte) : Dev :=
  let sl := r.1
  let ws := toWords 16 r.2
  let n := wget ws Slc.QCOUNT
  let st := wget ws Slc.STATE
  match d.mapRange x (wget ws Slc.QBASE) n with
  | none => d
  | some q0 =>
    let apart := fun (o : Nat) =>
      decide (q0 + n ≤ d.cg .slice o Slc.QBASE) || decide (d.cg .slice o Slc.QBASE + d.cg .slice o Slc.QCOUNT ≤ q0)
    if sl = 0 || st = 0 || st = 4 then d
    else if d.sliceState sl ≠ 0 || !d.slices.all apart || !d.maxFit (wget ws Slc.OWNER) sl ws then d.bump Root.ADOPT_FAIL
    else
      let d := ((d.clearRec .slice sl).setRec .slice sl ws).setOw Cls.slice.code sl 4 0
      let d := (d.setOw Cls.slice.code sl 5 0).cs .slice sl Slc.STATE (if st = 3 then 3 else 1)
      let rx := wget ws Slc.DEFAULT_RXQ
      let d := (d.cs .slice sl Slc.QBASE q0).cs .slice sl Slc.DEFAULT_RXQ (if rx = 0x3FFFF then rx else d.mapOr x rx)
      let k := wget ws Slc.ALLOW_COUNT
      let d := d.putAllow sl (chunk 4 k (toWords (4 * k) ((d.mirrored 7 sl).getD [])))
      (d.touch 6 sl).noteAdopted 6 sl

/-- R471, R477: a queue of the partner whose ID maps, of slice 0 or of an adopted slice. -/
def Dev.adoptQueue (d : Dev) (x : AdoptSet) (r : Nat × List Byte) : Dev :=
  let ws := toWords 8 r.2
  let sl := wget ws Qctx.SLICE
  let k := wget ws Qctx.KIND
  let alone := k = 3 || k = 6
  match d.mapQ x r.1 with
  | none => d
  | some q =>
    let cq := d.mapOr x (wget ws Qctx.CQ)
    if wget ws Qctx.STATE = qFree || (sl ≠ 0 && !d.adoptedSlice sl) then d
    else if d.qExists q || (d.queueBinding q).isNone || (!alone && !d.cqOk (wget ws Qctx.OWNER) cq) then
      d.bump Root.ADOPT_FAIL
    else
      let ws := match d.mirrored 5 r.1 with
        | some b => ws.set 3 (putBits (ws.getD 3 0) 32 17 (leNat b))
        | none => ws
      let ws := wset (wset (wset ws Qctx.QID q) Qctx.STATE qQuiesced) Qctx.SCHED_NODE 0xFFFF
      let ws := wset (wset ws Qctx.TAKEN 0) Qctx.ATTACHED 0
      let ws := if k = 3 then wset ws Qctx.EQ 0 else ws
      let ws := if alone then ws else wset ws Qctx.CQ cq
      ((((d.clearRec .queue q).setRec .queue q ws).joinQueue q).touch 4 q).noteAdopted 4 q

/-- R477: an object of slice `sl` is adopted. -/
def Dev.takesOf (d : Dev) (sl : Nat) : Bool := sl ≠ 0 && d.adoptedSlice sl

/-- R477, R479, R480: a connection of an adopted slice, or of slice 0 with both its queues mapped. `rings`: work entries of its
SQ that its outstanding messages need. One that cannot have its tally entries is adopted in ERROR. -/
def Dev.adoptConn (d : Dev) (x : AdoptSet) (rings : List (Nat × List (Nat × List (List Word)))) (r : Nat × List Byte) : Dev :=
  let c := r.1
  let ws := toWords 64 r.2
  let sl := wget ws Conn.SLICE
  let both := sl = 0 && (d.mapQ x (wget ws Conn.SQ)).isSome && (d.mapQ x (wget ws Conn.RQ)).isSome
  if wget ws Conn.STATE = 0 || !(both || d.takesOf sl) then d
  else
    let sq := d.mapOr x (wget ws Conn.SQ)
    let rq := d.mapOr x (wget ws Conn.RQ)
    if d.cn c Conn.STATE ≠ 0 || !d.qExists sq || !d.qExists rq || !d.feature 2 then d.bump Root.ADOPT_FAIL
    else
      let ws := wset (wset ws Conn.SQ sq) Conn.RQ rq
      let ws := d.moveTime (d.moveTime ws Conn.LAST_DEC) Conn.LAST_CNP
      let needs := ((List.range 24).filter (fun k => wget ws (Conn.VALID k) = 1)).length
      let d := ((d.clearRec .conn c).setRec .conn c ws).sliceInc sl Slc.USED_CONNS
      let jobs := ((rings.find? (fun y => y.1 = sq)).map (fun y => y.2)).getD []
      let short : Bool := decide (524288 < d.tp.tally.length + needs)
      let d := d.adoptMsgs c (if short then [] else jobs)
      let d := if short then d.connError c 0x34 (fun _ => 0x34)
        else if d.cn c Conn.STATE = 3 && d.cn c Conn.UNA_PSN ≠ d.cn c Conn.SQ_PSN then d.connResend c else d
      ((d.tpCache c).touchConn c).noteAdopted 1 c

/-- R299, R477: a session of an adopted slice. An initiator completes with ABORTED every command that was in flight: `rings` lists
their work entries under the new ID of HOST_Q. -/
def Dev.adoptSession (d : Dev) (x : AdoptSet) (rings : List (Nat × List (Nat × List (List Word)))) (r : Nat × List Byte) : Dev :=
  let s := r.1
  let ws := toWords 64 r.2
  let sl := wget ws Sess.SLICE
  if wget ws Sess.STATE = 0 || !d.takesOf sl then d
  else if d.sn s Sess.STATE ≠ 0 || !d.feature 3 then d.bump Root.ADOPT_FAIL
  else
    let q := d.mapOr x (wget ws Sess.HOST_Q)
    let ws := wset (wset ws Sess.HOST_Q q) Sess.OUTSTANDING 0
    let d := ((d.clearRec .session s).setRec .session s ws).sliceInc sl Slc.USED_SESSIONS
    let d := if d.sn s Sess.BINDING = 1 then d.freeStream s else d
    let jobs := if wget ws Sess.ROLE = 1 then ((rings.find? (fun y => y.1 = q)).map (fun y => y.2)).getD [] else []
    let d := jobs.foldl (fun (d : Dev) j =>
      let job : Job := { idx := j.1, ents := j.2, moved := 0, granted := true, grant := none, result := none }
      (d.setQ q (fun (y : QSt) => { y with jobs := y.jobs ++ [job] })).finishJob q j.1 Sc.aborted 0 0) d
    ((d.stCache s).touch 9 s).noteAdopted 9 s

/-- R477: a memory window of an adopted slice. -/
def Dev.adoptWindow (d : Dev) (r : Nat × List Byte) : Dev :=
  let i := r.1
  let ws := toWords 4 r.2
  let sl := wget ws Mw.SLICE
  if wget ws Mw.VALID = 0 || !d.takesOf sl then d
  else if d.cg .window i Mw.VALID = 1 then d.bump Root.ADOPT_FAIL
  else (((((d.clearRec .window i).setRec .window i ws).sliceInc sl Slc.USED_MWS).touch 8 i)).noteAdopted 8 i

/-- R470, R480: an SA of an adopted slice. -/
def Dev.adoptSa (d : Dev) (r : Nat × List Byte) : Dev :=
  let i := r.1
  let all_ := toWords 20 r.2
  let ws := all_.take 4 ++ all_.drop 16 ++ (all_.drop 8).take 8
  let st := wget ws SA.STATE
  if st = 0 || st = 4 || !d.takesOf (wget ws SA.SLICE) then d
  else if d.sa i SA.STATE = 1 || d.sa i SA.STATE = 2 || (d.saTable i).isNone then d.bump Root.ADOPT_FAIL
  else
    let seq := match d.mirrored 3 i with
      | some b => leNat b
      | none => wget ws SA.SEQ
    let tls : Bool := wget ws SA.PROTO = 3
    let enc : Bool := wget ws SA.DIR = 1
    let ws := d.moveTime (d.moveTime ws SA.START) SA.EXPIRE
    let next := seq + 262144
    let past : Bool := decide ((if saShort ws then 2 ^ 32 else 2 ^ 64) ≤ next)
    let ws := if tls then (if enc then ws else wset ws SA.RESYNC 1)
      else if enc then wset ws SA.SEQ (if past && !saShort ws then 0 else next)
      else wset ws SA.SEQ seq
    let d := (d.clearRec .sa i).setRec .sa i ws
    let d := if !tls && !enc then (List.range 16).foldl (fun (d : Dev) k => d.setOw Cls.sa.code i (16 + k)
      (BitVec.allOnes 64)) d else d
    let d := { d with
      cry := { d.cry with cache := d.cry.cache.filter (fun l => l.id ≠ i) }
      twin := { d.twin with leases := d.twin.leases.filter (fun l => l.1 ≠ i) } }
    let d := if enc && (tls || past) && st ≠ 3 then d.saExpire i 3 else d.saTouch i
    d.noteAdopted 2 i

/-- R476, R477: the objects of the mirror that map are built, slices first and CQs before the queues that name them. The queues,
slices and connections adopted. -/
def Dev.adopt (d : Dev) (x : AdoptSet) (rings : List (Nat × List (Nat × List (List Word)))) : Dev × (Nat × Nat × Nat) :=
  let n := fun (d : Dev) (t : Nat) => (d.twin.adopted.filter (fun (y : Nat × Nat) => y.1 = t)).length
  let was := d
  let bad := fun (t : Nat) (r : Nat × List Byte) => d.integ.recs.contains (64 + t, r.1)
  let lost := [6, 4, 8, 1, 9, 2].flatMap (fun t => (d.mirrorOf t).filter (bad t))
  let good := fun (d : Dev) (t : Nat) => (d.mirrorOf t).filter (fun r => !bad t r)
  let d := d.add rootId Root.ADOPT_FAIL lost.length
  let (cqs, others) := (good d 4).partition (fun r => wget (toWords 8 r.2) Qctx.KIND = 3)
  let d := (good d 6).foldl (fun (d : Dev) r => d.adoptSlice x r) d
  let d := (cqs ++ others).foldl (fun (d : Dev) r => d.adoptQueue x r) d
  let d := (good d 8).foldl (fun (d : Dev) r => d.adoptWindow r) d
  let d := (good d 1).foldl (fun (d : Dev) r => d.adoptConn x rings r) d
  let d := (good d 9).foldl (fun (d : Dev) r => d.adoptSession x rings r) d
  let d := (good d 2).foldl (fun (d : Dev) r => d.adoptSa r) d
  (d, n d 4 - n was 4, n d 6 - n was 6, n d 1 - n was 1)

/-! ### Giving away (R481) -/

/-- R481: queue `q` belongs to what SCOPE hands over: the own mirror range, or the adopt range. -/
def Dev.handedQ (d : Dev) (scope q : Nat) : Bool :=
  if scope = 0 then
    decide (d.g rootId Root.TWIN_MIRROR_OWN_QBASE ≤ q) &&
      decide (q < d.g rootId Root.TWIN_MIRROR_OWN_QBASE + (d.bound 0x41).2.2)
  else d.inAdopt q

/-- R481: slices that SCOPE hands over: those whose range lies wholly in the range the partner maps. -/
def Dev.handedSlices (d : Dev) (scope : Nat) : List Nat :=
  d.slices.filter (fun sl =>
    let q0 := d.cg .slice sl Slc.QBASE
    d.sliceState sl ≠ 4 && d.handedQ scope q0 && d.handedQ scope (q0 + d.cg .slice sl Slc.QCOUNT - 1))

/-- R481: the handed objects go, as SLICE_DESTROY of a FROZEN slice leaves it, and with them the SAs of the slices and the
connections and queues of slice 0 that map. How many slices went. -/
def Dev.handOver (d : Dev) (scope : Nat) : Dev × Nat :=
  let sls := d.handedSlices scope
  let sas := (d.recs .sa).filter (fun i => sls.contains (d.sa i SA.SLICE) && (d.sa i SA.STATE = 1 || d.sa i SA.STATE = 2))
  let d := sas.foldl (fun (d : Dev) i => d.saRevoke i) d
  let d := sls.foldl (fun (d : Dev) sl => d.dropSlice (d.cg .slice sl Slc.OWNER) sl false []) d
  let cs := (d.recs .conn).filter (fun c => d.cn c Conn.STATE ≠ 0 && d.cn c Conn.SLICE = 0 &&
    d.handedQ scope (d.cn c Conn.SQ) && d.handedQ scope (d.cn c Conn.RQ))
  let d := cs.foldl (fun (d : Dev) c => d.connRemove c false) d
  let (cqs, others) := ((d.queuesOf 0).filter (fun q => d.handedQ scope q)).partition (fun q => d.qf q Qctx.KIND = 3)
  ((others ++ cqs).foldl (fun (d : Dev) q => d.removeQueue q) d, sls.length)

end Sys2Proof.Machine
end

