-- ==== Sys2Proof/Machine/Twin.lean ====
section
/-! DEFINITION. The twin pair: yoke frames received, attaching, heartbeats, takeover, switchover and detaching
(R459 to R487). -/

namespace Sys2Proof.Machine

/-! ### Shared parts -/

/-- R231: EFFECTIVE follows the other bits. -/
def Dev.syncService (d : Dev) : Dev :=
  let b : Bool := d.on rootId Root.SERVICE_STATE_IN_SERVICE && !d.on rootId Root.SERVICE_STATE_TEST_MODE &&
    !d.on rootId Root.SERVICE_STATE_RECOVERY
  d.s rootId Root.SERVICE_STATE_EFFECTIVE (if b then 1 else 0)

/-- R231, R476: SERVICE_STATE.RECOVERY. -/
def Dev.setRecovery (d : Dev) (v : Nat) : Dev := (d.s rootId Root.SERVICE_STATE_RECOVERY v).syncService

/-- R459: the device takes part in a pair. -/
def Dev.paired (d : Dev) : Bool := d.feature 4 && d.on rootId Root.TWIN_CFG_EN

/-- TWIN_STATUS.STATE moves; MISSED is 0 in DETACHED (R486). -/
def Dev.setTwin (d : Dev) (st : Nat) : Dev :=
  let d := d.s rootId Root.TWIN_STATUS_STATE st
  if st = 0 then d.s rootId Root.TWIN_STATUS_MISSED 0 else d

/-- R461: TWIN_STATUS.ROLE reads PRIMARY. -/
def Dev.primary (d : Dev) : Bool := d.g rootId Root.TWIN_STATUS_ROLE = 0

/-- The admin command of the pair in progress ends. -/
def Dev.twinEnd (d : Dev) (st res : Nat) : Dev :=
  match d.twin.cmd with
  | some (pf, idx) => ({ d with twin := { d.twin with cmd := none } }).admEnd pf idx st res
  | none => d

/-- The partner's mirror and what the reliable channel holds are discarded (R473). -/
def Dev.dropMirror (d : Dev) : Dev :=
  let d := match d.twin.fullSince with
    | some t => d.add rootId Root.BUF_FULL ((d.time - t) / 1000)
    | none => d
  { d with twin := { d.twin with
      unacked := [], deferred := [], fullSince := none, heads := [], saHeads := [], mirror := [], nakSent := false
      sinceAck := 0, ackDue := false, doneSeq := none, peerDone := false, declared := none, fixed := none, switchover := none
      leases := [], leaseSent := [] } }

/-- R461: the role held on leaving ATTACHED is the next claim. -/
def Dev.noteClaim (d : Dev) : Dev := { d with twin := { d.twin with claim := d.primary } }

/-! ### Attaching (R461, R472, R473) -/

/-- R461: this twin's claim: PRIMARY if it held it, or if it has adopted objects. -/
def Dev.claimsPrimary (d : Dev) : Bool := d.twin.claim || d.twin.adopted.any (fun x => x.1 ≠ 4 && d.otherSide x.2)

/-- R472: the device implements mirror format 1, and the image allows it. -/
def Dev.offersFmt (d : Dev) : Bool :=
  decide (Image.fmtMin d.img.header ≤ 1) && decide (1 ≤ Image.fmtMax d.img.header)

/-- R472: HELLO leaves, outside the numbered stream. -/
def Dev.sendHello (d : Dev) : Dev :=
  d.yokeOut 3 0 0 (beBytes 1 1 ++ beBytes 1 (d.g rootId Root.TWIN_CFG_SIDE) ++ beBytes 1 (if d.claimsPrimary then 0 else 1) ++
    beBytes 1 1 ++ beBytes 1 (if d.offersFmt then 1 else 0) ++ beBytes 4 (d.bound 0x40).2.2 ++ beBytes 4 (d.bound 0x41).2.2 ++
    beBytes 4 (d.g rootId Root.TWIN_MIRROR_OWN_QBASE) ++ beBytes 2 (d.g rootId Root.TWIN_STATUS_LINK_EPOCH))

/-- R460, R472 check 4: an object that this twin created lies in the partner's half. -/
def Dev.strayObject (d : Dev) : Bool :=
  let stray := fun (t i : Nat) => d.otherSide i && !d.twin.adopted.contains (t, i)
  d.slices.any (fun i => stray 6 i) || (d.recs .conn).any (fun i => d.cn i Conn.STATE ≠ 0 && stray 1 i) ||
    (d.recs .session).any (fun i => d.sn i Sess.STATE ≠ 0 && stray 9 i) ||
    (d.recs .window).any (fun i => d.cg .window i Mw.VALID = 1 && stray 8 i) ||
    (d.recs .sa).any (fun i => d.sa i SA.STATE ≠ 0 && stray 2 i)

/-- R472: the first check that the partner's HELLO fails, and the status it gives. -/
def Dev.helloFails (d : Dev) (h : PeerHello) : Option (Nat × Nat) :=
  if h.side = d.g rootId Root.TWIN_CFG_SIDE then some (1, 0x27)
  else if h.adoptBase ≠ (d.bound 0x40).2.2 || h.adoptCount ≠ (d.bound 0x41).2.2 then some (2, 0x27)
  else if !d.offersFmt || !(decide (h.fmtMin ≤ 1) && decide (1 ≤ h.fmtMax)) then some (3, 0x27)
  else if d.strayObject then some (4, 0x2E)
  else none

/-- R473: the attach ends with a status and the twin is DETACHED. -/
def Dev.attachEnd (d : Dev) (st : Nat) : Dev :=
  let d := (d.dropMirror.setTwin 0).twinEnd st 0
  { d with twin := { d.twin with hello := none } }

/-- R473, R469 to R471: write records of every kept object. -/
def Dev.bulkCopy (d : Dev) : Dev :=
  let d := d.slices.foldl (fun (d : Dev) i => if i = 0 then d else (d.touch 6 i).touch 7 i) d
  let qs := (d.queues.map QSt.qid).filter (fun q => d.mirroredQueue q)
  let d := qs.foldl (fun (d : Dev) q => (d.touch 4 q).touch 5 q) d
  let d := (d.recs .conn).foldl (fun (d : Dev) i => if d.cn i Conn.STATE = 0 then d else d.touch 1 i) d
  let d := (d.recs .window).foldl (fun (d : Dev) i => if d.cg .window i Mw.VALID = 0 then d else d.touch 8 i) d
  let d := (d.recs .session).foldl (fun (d : Dev) i => if d.sn i Sess.STATE = 0 then d else d.touch 9 i) d
  (d.recs .sa).foldl (fun (d : Dev) i => if d.sa i SA.STATE = 0 then d else d.mirror 2 1 i (d.sa i SA.DIR = 1)) d

/-- R473: the twin is ATTACHED once its SYNC_DONE is acknowledged and the partner's is applied. -/
def Dev.syncCheck (d : Dev) : Dev :=
  let done := match d.twin.doneSeq with
    | some s => d.yokeAcked s
    | none => false
  if d.twinState = 2 && done && d.twin.peerDone then
    let d := ((d.setTwin 3).twinEnd Sc.ok 0)
    let d := { d with tp := { d.tp with bypassed := false } }
    d.raise rootId 0x0A03 0 (d.g rootId Root.TWIN_STATUS_FMT + d.g rootId Root.TWIN_STATUS_LINK_EPOCH * 65536)
  else d

/-- R277, R461, R465, R470, R472, R473: both HELLOs have been exchanged and pass: what a tether of the last epoch still holds goes,
the epoch, the role and the format are settled, and the bulk copy begins. -/
def Dev.enterSync (d : Dev) (h : PeerHello) : Dev :=
  let cs := d.tp.conns.map TpConn.cid
  let d := cs.foldl (fun (d : Dev) c => (d.releaseHeld c).setTc c (fun (x : TpConn) => { x with rec_ := none })) d
  let mine := d.claimsPrimary
  let peer : Bool := h.role = 0
  let prim : Bool := if mine = peer then d.g rootId Root.TWIN_CFG_SIDE = 0 else mine
  let e := (max (d.g rootId Root.TWIN_STATUS_LINK_EPOCH) h.epoch + 1) % 65536
  let d := ((d.s rootId Root.TWIN_STATUS_LINK_EPOCH e).s rootId Root.TWIN_STATUS_FMT 1).s rootId Root.TWIN_STATUS_ROLE
    (if prim then 0 else 1)
  let d := (d.s rootId Root.TWIN_SEQ_TX_NEXT 1).s rootId Root.TWIN_SEQ_RX_EXPECTED 1
  let d := (d.s rootId Root.TWIN_MIRROR_PEER_QBASE h.mirrorQbase).setTwin 2
  let ls := ((d.recs .sa).filter (fun i => d.sa i SA.STATE ≠ 0 && d.sa i SA.DIR = 1)).map (fun i => (i, d.sa i SA.SEQ))
  let d := { d with twin := { d.twin with hello := none, leases := ls, offsets := [] } }
  d.bulkCopy.sendControl 2 []

/-- R472: the partner's HELLO is checked in HELLO. -/
def Dev.checkHello (d : Dev) (h : PeerHello) : Dev :=
  match d.helloFails h with
  | some (n, st) => (d.raise rootId 0x0A06 0 (st + n * 256)).attachEnd st
  | none => d.enterSync h

/-- TWIN_ATTACH, R471 to R473, R485. A HELLO that came before is answered now (R484). -/
def twinAttach (pf idx : Nat) (d : Dev) : Dev :=
  d.admRun pf idx 0x0701 (fun a d =>
    let q := a.arg % 2 ^ 18
    let base := (d.bound 0x40).2.2
    let n := (d.bound 0x41).2.2
    if !d.paired || d.twinState ≠ 0 then d.admEnd pf idx 0x26 0
    else if decide (2 ^ 18 < q + n) || !(decide (q + n ≤ base) || decide (base + n ≤ q)) then d.admEnd pf idx Sc.malformed 0
    else
      let d := (d.s rootId Root.TWIN_MIRROR_OWN_QBASE q).setTwin 1
      let d := ({ d with twin := { d.twin with cmd := some (pf, idx) } }).sendHello
      match d.twin.hello with
      | some h => d.checkHello h
      | none => d)

/-- TWIN_ATTACH. -/
def execTwinAttach (pf idx : Nat) (s : State) : Host.Outcome State Fault Refusal := s.run (twinAttach pf idx)

/-- HELLO_REPEAT, R472. -/
def helloRepeat (d : Dev) : Dev := if d.twinState = 1 then d.sendHello else d

/-- HELLO_REPEAT. -/
def execHelloRepeat (s : State) : Host.Outcome State Fault Refusal := s.run helloRepeat

/-- ATTACH_TIMEOUT, R473. -/
def attachTimeout (d : Dev) : Dev := if d.twinState = 1 || d.twinState = 2 then d.attachEnd 0x26 else d

/-- ATTACH_TIMEOUT. -/
def execAttachTimeout (s : State) : Host.Outcome State Fault Refusal := s.run attachTimeout

/-- YOKE_DOWN_TIMEOUT, R473. -/
def yokeDownTimeout (d : Dev) : Dev := if d.on rootId Root.TWIN_STATUS_LINK_UP then d else attachTimeout d

/-- YOKE_DOWN_TIMEOUT. -/
def execYokeDownTimeout (s : State) : Host.Outcome State Fault Refusal := s.run yokeDownTimeout

/-! ### Receiving (R462, R465, R466) -/

/-- Big-endian field of a frame. -/
def beAt (bs : List Byte) (o n : Nat) : Nat := beNat (sliceBytes bs o n)

/-- Payload of a yoke frame. -/
def yokePayload (bs : List Byte) : List Byte := (bs.drop 16).take (bs.length - 20)

/-- R465, R470: an ACK value releases frames, moves the sequence leases on and lets deferred records leave. -/
def Dev.yokeAckIn (d : Dev) (ack : Nat) : Dev :=
  if !(d.mirroring || d.twinState = 4) then d
  else
    let upTo := fun (s : Nat) => s = ack || seqBefore s ack
    let (done, rest) := d.twin.leaseSent.partition (fun x => upTo x.1)
    let ls := done.foldl (fun (l : List (Nat × Nat)) x => l.filter (fun y => y.1 ≠ x.2.1) ++ [(x.2.1, x.2.2)]) d.twin.leases
    let d := { d with twin := { d.twin with
      unacked := d.twin.unacked.filter (fun f => !upTo f.seq), leases := ls, leaseSent := rest } }
    d.flushMirror.syncCheck

/-- R462: a received frame of command kind `kind`, and for a CONTROL frame with operation `op`, reaches `f` once its checks
pass. -/
def Dev.yokeRx (d : Dev) (bs : List Byte) (kind : Nat) (op : Option Nat) (f : Dev → Dev) : Dev :=
  let n := bs.length
  let lost := fun (d : Dev) => if kind = 1 then d.bump Root.DATA_DROP else d
  let k := beAt bs 0 1
  let isHello : Bool := k = 3 && beAt bs 16 1 = 1
  let st := d.twinState
  let off : Bool := st = 0 || st = 5
  let other : Bool := beAt bs 12 2 ≠ d.g rootId Root.TWIN_STATUS_LINK_EPOCH || beAt bs 14 1 ≠ d.yokeFmt
  if !d.paired || !d.on rootId Root.TWIN_STATUS_LINK_UP then d
  else if n < 20 || n ≠ beAt bs 2 2 + 20 || decide (16511 < beAt bs 2 2) || crc32c (bs.take (n - 4)) ≠ beAt bs (n - 4) 4 then
    lost (d.bump Root.CRC_ERR)
  else if k = 0 || decide (6 < k) || (isHello && beAt bs 14 1 ≠ 0) || (!isHello && (off || other)) then
    lost (d.bump Root.TWIN_STALE_DROP)
  else if k ≠ kind || (op.isSome && op ≠ some (beAt bs 16 1)) then d
  else if isHello then f d
  else f (d.yokeAckIn (beAt bs 8 4))

/-- R466: an ACK frame leaves. -/
def Dev.sendAckFrame (d : Dev) : Dev :=
  ({ d with twin := { d.twin with ackDue := false, sinceAck := 0 } }).yokeOut 5 0 0 []

/-- R466: a gap is answered with one NAK carrying EXPECTED. -/
def Dev.yokeGap (d : Dev) : Dev :=
  if d.twin.nakSent then d
  else (({ d with twin := { d.twin with nakSent := true } }).bump Root.NAK_TX).yokeOut 6 0
    (d.g rootId Root.TWIN_SEQ_RX_EXPECTED) []

/-- R466: a reliable frame in its order is applied by `f`; a duplicate is acknowledged again; a gap is answered. After the
mirror is fixed nothing is applied (R476). -/
def Dev.yokeInOrder (d : Dev) (bs : List Byte) (f : Dev → Dev) : Dev :=
  let seq := beAt bs 4 4
  let exp := d.g rootId Root.TWIN_SEQ_RX_EXPECTED
  if !(d.mirroring || d.twinState = 4) || d.twin.fixed.isSome then d
  else if seq = exp then
    let d := d.s rootId Root.TWIN_SEQ_RX_EXPECTED (exp + 1)
    let d := { d with twin := { d.twin with
      nakSent := false, ackDue := true, sinceAck := d.twin.sinceAck + (bs.length - 20) } }
    let d := f d
    if d.twin.ackDue && (beAt bs 1 1 % 2 = 1 || decide (65536 ≤ d.twin.sinceAck)) then d.sendAckFrame else d
  else if seqBefore seq exp then (d.bump Root.TWIN_DUP_DROP).sendAckFrame
  else d.yokeGap

/-- A received CONTROL frame with operation `op`. -/
def Dev.yokeControl (d : Dev) (bs : List Byte) (op : Nat) (f : Dev → Dev) : Dev :=
  d.yokeRx bs 3 (some op) (fun d => d.yokeInOrder bs f)

/-- DATA, R201, R464: the packet enters the switch core with input 18. No rule names its destination: it is free. -/
def data (bs : List Byte) (d : Dev) : Dev :=
  d.yokeRx bs 1 none (fun d =>
    let p := yokePayload bs
    let w := d.freeVal
    let pkt : Pkt := { Pkt.blank with data := p.drop 128, m := toWords 16 p }
    d.used.toSwitch pkt 18 ((actDest w.toNat).getD (.port 19 0x3FFFF)))

/-- DATA. -/
def execData (bs : List Byte) (s : State) : Host.Outcome State Fault Refusal := s.run (data bs)

/-- R468: one record is applied to the mirror. -/
def applyRec (m : List MirRec) (r : MirRec) : List MirRec :=
  let dep := if r.rtype = 2 then 3 else if r.rtype = 4 then 5 else 0
  let m := m.filter (fun x => !(x.index = r.index && (x.rtype = r.rtype || x.rtype = dep)))
  if r.op = 1 then m ++ [r] else m

/-- R468: the records of a payload, in order, within `fuel`. -/
def records : Nat → List Byte → List MirRec
  | 0, _ => []
  | fuel + 1, bs =>
    if bs.length < 8 then []
    else
      let n := beAt bs 2 2
      let r : MirRec := { rtype := beAt bs 0 1, op := beAt bs 1 1, index := beAt bs 4 4, body := (bs.drop 8).take n }
      r :: records fuel (bs.drop (8 + n))

/-- MIRROR, R466, R468. -/
def mirror (bs : List Byte) (d : Dev) : Dev :=
  d.yokeRx bs 2 none (fun d => d.yokeInOrder bs (fun d =>
    let rs := records bs.length (yokePayload bs)
    { d with
      twin := { d.twin with mirror := rs.foldl applyRec d.twin.mirror }
      integ := { d.integ with recs := d.integ.recs.filter (fun (x : Nat × Nat) =>
        !rs.any (fun r => r.rtype + 64 = x.1 && r.index = x.2)) } }))

/-- MIRROR. -/
def execMirror (bs : List Byte) (s : State) : Host.Outcome State Fault Refusal := s.run (mirror bs)

/-- R480: one more estimate of PEER_OFFSET, the mean of the last 16. -/
def Dev.noteOffset (d : Dev) (e : Int) : Dev :=
  let l := d.twin.offsets ++ [e]
  let l := l.drop (l.length - 16)
  let m := l.foldl (· + ·) 0 / Int.ofNat l.length
  ({ d with twin := { d.twin with offsets := l } }).s rootId Root.TWIN_PEER_OFFSET_NS (m % Int.ofNat (2 ^ 64)).toNat

/-- HEARTBEAT, R466, R474, R480. -/
def heartbeat (bs : List Byte) (d : Dev) : Dev :=
  d.yokeRx bs 4 none (fun d =>
    let d := (d.s rootId Root.TWIN_STATUS_MISSED 0).noteOffset
      (Int.ofNat d.time - 250 - Int.ofNat (beAt (yokePayload bs) 0 8))
    if d.mirroring && seqBefore (d.g rootId Root.TWIN_SEQ_RX_EXPECTED) (beAt bs 4 4) then d.yokeGap else d)

/-- HEARTBEAT. -/
def execHeartbeat (bs : List Byte) (s : State) : Host.Outcome State Fault Refusal := s.run (heartbeat bs)

/-- ACK, R465. -/
def execAck (bs : List Byte) (s : State) : Host.Outcome State Fault Refusal := s.run (fun d => d.yokeRx bs 5 none id)

/-- R465: frames from sequence `n` on are sent again. -/
def Dev.yokeResend (d : Dev) (p : YokeFrm → Bool) : Dev :=
  (d.twin.unacked.filter p).foldl (fun (d : Dev) f =>
    (d.yokeOut f.kind (2 + (if f.ackNow then 1 else 0)) f.seq f.payload).bump Root.RETX_FRAMES) d

/-- NAK, R465: its SEQ is the first frame wanted. -/
def nak (bs : List Byte) (d : Dev) : Dev :=
  d.yokeRx bs 6 none (fun d => d.yokeResend (fun f => !seqBefore f.seq (beAt bs 4 4)))

/-- NAK. -/
def execNak (bs : List Byte) (s : State) : Host.Outcome State Fault Refusal := s.run (nak bs)

/-- YOKE_RETRANSMIT_TIMEOUT, R465. -/
def execYokeRetransmitTimeout (s : State) : Host.Outcome State Fault Refusal :=
  s.run (fun d => d.yokeResend (fun _ => true))

/-- YOKE_ACK_TIMER, R466. -/
def yokeAckTimer (d : Dev) : Dev := if d.twin.ackDue then d.sendAckFrame else d

/-- YOKE_ACK_TIMER. -/
def execYokeAckTimer (s : State) : Host.Outcome State Fault Refusal := s.run yokeAckTimer

/-- HELLO, R472, R484: checked in HELLO; kept in DETACHED and TAKEOVER for the next TWIN_ATTACH. -/
def hello (bs : List Byte) (d : Dev) : Dev :=
  d.yokeRx bs 3 (some 1) (fun d =>
    let p := yokePayload bs
    let h : PeerHello :=
      { side := beAt p 1 1, role := beAt p 2 1, fmtMin := beAt p 3 1, fmtMax := beAt p 4 1, adoptBase := beAt p 5 4
        adoptCount := beAt p 9 4, mirrorQbase := beAt p 13 4, epoch := beAt p 17 2 }
    if d.twinState = 1 then d.checkHello h
    else if d.twinState = 0 || d.twinState = 4 then { d with twin := { d.twin with hello := some h } }
    else d)

/-- HELLO. -/
def execHello (bs : List Byte) (s : State) : Host.Outcome State Fault Refusal := s.run (hello bs)

/-- SYNC_DONE, R473. -/
def syncDone (bs : List Byte) (d : Dev) : Dev :=
  d.yokeControl bs 2 (fun d => ({ d with twin := { d.twin with peerDone := true } }).syncCheck)

/-- SYNC_DONE. -/
def execSyncDone (bs : List Byte) (s : State) : Host.Outcome State Fault Refusal := s.run (syncDone bs)

/-! ### Declaring and fencing (R474, R475, R484) -/

/-- R481, R484: an own TWIN_SWITCHOVER ends with a status and the slices frozen for it are thawed in place. -/
def Dev.switchEnd (d : Dev) (st : Nat) : Dev :=
  match d.twin.switchover with
  | none => d
  | some (_, _, sls) =>
    let d := { d with twin := { d.twin with switchover := none } }
    let d := sls.foldl (fun (d : Dev) sl => if d.sliceState sl = 3 then d.thaw sl else d.freezeUndo sl) d
    d.twinEnd st 0

/-- R484: a declaration ends an own switchover: ABORTED before SWITCHOVER was sent, TWIN_STATE after. -/
def Dev.switchAbort (d : Dev) : Dev :=
  match d.twin.switchover with
  | some (_, sent, _) => d.switchEnd (if sent then 0x26 else Sc.aborted)
  | none => d

/-- R475: the twin fences itself; `why` is 1 when TAKEOVER was received. -/
def Dev.fence (d : Dev) (why : Nat) : Dev :=
  let d := d.switchAbort.noteClaim
  let d := ((d.dropMirror.setTwin 5).setRecovery 0).emit (.pin .twinAliveOut false)
  (d.raise rootId 0x0A05 0 why).finishLate

/-- R474 to R476: a declaration, with cause 1 heartbeats or 2 TWIN_ALIVE loss. -/
def Dev.declareTakeover (d : Dev) (cause : Nat) : Dev :=
  let high := cause = 1 && d.on rootId Root.TWIN_STATUS_ALIVE_IN
  if !(d.twinState = 3 || d.twinState = 6) then d
  else if high && !d.primary then d.fence 0
  else
    let d := d.switchAbort.noteClaim
    let d := if d.on rootId Root.TWIN_STATUS_LINK_UP then d.sendControl 3 [] else d
    let d := (d.setTwin 4).setRecovery 1
    let d := d.abortPatch.finishDoomed
    let d := { d with twin := { d.twin with declared := some (cause, d.time, high) } }
    d.raise rootId 0x0A01 0 cause

/-- HEARTBEAT_SEND, R474: with the SEQ that the next reliable frame will carry. -/
def heartbeatSend (d : Dev) : Dev :=
  if d.twinState = 1 || d.mirroring then d.yokeOut 4 0 (d.g rootId Root.TWIN_SEQ_TX_NEXT) (beBytes 8 d.time) else d

/-- HEARTBEAT_SEND. -/
def execHeartbeatSend (s : State) : Host.Outcome State Fault Refusal := s.run heartbeatSend

/-- The level of TWIN_ALIVE_I. -/
def Dev.aliveIn (d : Dev) (b : Bool) : Dev := d.s rootId Root.TWIN_STATUS_ALIVE_IN (if b then 1 else 0)

/-- HEARTBEAT_MISSED, R474; `alive` is the level of TWIN_ALIVE_I. -/
def heartbeatMissed (alive : Bool) (d : Dev) : Dev :=
  let d := d.aliveIn alive
  if !(d.twinState = 1 || d.mirroring) then d
  else
    let m := min 15 (d.g rootId Root.TWIN_STATUS_MISSED + 1)
    let d := (d.bump Root.HB_MISSED).s rootId Root.TWIN_STATUS_MISSED m
    if 5 ≤ m then d.declareTakeover 1 else d

/-- HEARTBEAT_MISSED. -/
def execHeartbeatMissed (alive : Bool) (s : State) : Host.Outcome State Fault Refusal := s.run (heartbeatMissed alive)

/-- R475: a PRIMARY twin waits no longer. -/
def Dev.aliveWaitOver (d : Dev) : Dev :=
  { d with twin := { d.twin with declared := d.twin.declared.map (fun x => (x.1, x.2.1, false)) } }

/-- TWIN_ALIVE_LOSS, R474, R475. -/
def twinAliveLoss (d : Dev) : Dev :=
  let d := d.aliveIn false
  if d.twinState = 4 then d.aliveWaitOver else d.declareTakeover 2

/-- TWIN_ALIVE_LOSS. -/
def execTwinAliveLoss (s : State) : Host.Outcome State Fault Refusal := s.run twinAliveLoss

/-- ALIVE_WAIT_END, R475. -/
def execAliveWaitEnd (s : State) : Host.Outcome State Fault Refusal := s.run (fun d => d.aliveWaitOver)

/-- TAKEOVER, R473, R475. -/
def takeover (bs : List Byte) (d : Dev) : Dev :=
  d.yokeControl bs 3 (fun d =>
    if d.twinState = 3 || d.twinState = 6 || (d.twinState = 4 && !d.primary) then d.fence 1 else d)

/-- TAKEOVER. -/
def execTakeover (bs : List Byte) (s : State) : Host.Outcome State Fault Refusal := s.run (takeover bs)

/-! ### Takeover (R476) -/

/-- MIRROR_FIXED, R66, R476: the mirror is fixed, once no patch is under way, and the partner's objects are built. -/
def mirrorFixed (rings : List (Nat × List (Nat × List (List Word)))) (d : Dev) : Dev :=
  match d.twin.declared, d.twin.fixed with
  | some (_, _, false), none =>
    if d.twinState ≠ 4 || d.img.patch.isSome then d
    else
      let (d, n) := d.adopt { own := true, back := true } rings
      { d with twin := { d.twin with fixed := some n } }
  | _, _ => d

/-- MIRROR_FIXED. -/
def execMirrorFixed (rings : List (Nat × List (Nat × List (List Word)))) (s : State) :
    Host.Outcome State Fault Refusal := s.run (mirrorFixed rings)

/-- R476, R486: what an adoption since `t0` leaves in the registers, and its event. -/
def Dev.adopted (d : Dev) (n : Nat × Nat × Nat) (t0 cause : Nat) : Dev :=
  let d := (d.s rootId Root.TWIN_LAST_TAKEOVER_QUEUES n.1).s rootId Root.TWIN_LAST_TAKEOVER_SLICES n.2.1
  let d := (d.s rootId Root.TWIN_LAST_TAKEOVER_DURATION_US ((d.time - t0 + 999) / 1000)).s rootId
    Root.TWIN_LAST_TAKEOVER_CAUSE cause
  let d := ((d.s rootId Root.TWIN_LAST_CONNS_CONNS n.2.2).s rootId Root.TWIN_STATUS_ROLE 0).bump Root.TAKEOVERS
  d.raise rootId 0x0A02 0 (d.cell rootId Root.TWIN_LAST_TAKEOVER_QUEUES.off).toNat

/-- TAKEOVER_COMPLETE, R473, R476, R527. -/
def takeoverComplete (d : Dev) : Dev :=
  match d.twin.declared, d.twin.fixed with
  | some (cause, t0, _), some n =>
    if d.twinState ≠ 4 then d
    else
      let d := ((d.setRecovery 0).dropMirror.setTwin 0).adopted n t0 cause
      ({ d with twin := { d.twin with claim := true } }).finishLate
  | _, _ => d

/-- TAKEOVER_COMPLETE. -/
def execTakeoverComplete (s : State) : Host.Outcome State Fault Refusal := s.run takeoverComplete

/-! ### Switchover (R481) -/

/-- TWIN_SWITCHOVER, R481, R485. -/
def twinSwitchover (pf idx : Nat) (d : Dev) : Dev :=
  d.admRun pf idx 0x0703 (fun a d =>
    let scope := a.arg % 2
    if d.twinState ≠ 3 then d.admEnd pf idx 0x26 0
    else
      let sls := (d.handedSlices scope).filter (fun sl => d.sliceState sl = 1)
      let d := d.setTwin 6
      let d := { d with twin := { d.twin with cmd := some (pf, idx), switchover := some (scope, false, sls) } }
      sls.foldl (fun (d : Dev) sl => d.startFreeze sl) d)

/-- TWIN_SWITCHOVER. -/
def execTwinSwitchover (pf idx : Nat) (s : State) : Host.Outcome State Fault Refusal := s.run (twinSwitchover pf idx)

/-- SWITCHOVER_SEND, R481. -/
def switchoverSend (d : Dev) : Dev :=
  match d.twin.switchover with
  | some (scope, false, sls) =>
    if d.twinState ≠ 6 || !(d.handedSlices scope).all (fun sl => d.sliceState sl = 3) || !d.twin.unacked.isEmpty ||
        !d.twin.deferred.isEmpty || d.twin.heads.any (fun q => d.handedQ scope q) then d
    else ({ d with twin := { d.twin with switchover := some (scope, true, sls) } }).sendControl 4 (beBytes 1 scope)
  | _ => d

/-- SWITCHOVER_SEND. -/
def execSwitchoverSend (s : State) : Host.Outcome State Fault Refusal := s.run switchoverSend

/-- SWITCHOVER_TIMEOUT, R481. -/
def switchoverTimeout (d : Dev) : Dev :=
  match d.twin.switchover with
  | some (_, true, _) => (d.switchEnd 0x26).setTwin 3
  | _ => d

/-- SWITCHOVER_TIMEOUT. -/
def execSwitchoverTimeout (s : State) : Host.Outcome State Fault Refusal := s.run switchoverTimeout

/-- FREEZE_TIMEOUT, R341, R481: one that a switchover waits for ends the switchover too. -/
def freezeTimeout (sl : Nat) (d : Dev) : Dev :=
  if d.sliceState sl ≠ 2 then d
  else
    let d := d.freezeUndo sl
    match d.twin.switchover with
    | some (scope, false, _) => if (d.handedSlices scope).contains sl then (d.switchEnd 0x3F).setTwin 3 else d
    | _ => d

/-- FREEZE_TIMEOUT. -/
def execFreezeTimeout (slice : Nat) (s : State) : Host.Outcome State Fault Refusal := s.run (freezeTimeout slice)

/-- SWITCHOVER, R461, R477, R481: the handed objects are adopted, the slices thawed, and SWITCHOVER_DONE answers. A twin that
hands over itself does not answer. -/
def switchover (bs : List Byte) (rings : List (Nat × List (Nat × List (List Word)))) (d : Dev) : Dev :=
  d.yokeControl bs 4 (fun d =>
    if d.twinState ≠ 3 then d
    else
      let scope := beAt (yokePayload bs) 1 1
      let was := d.slices
      let t0 := d.time
      let d := (d.setTwin 6).setRecovery 1
      let (d, n) := d.adopt { own := scope = 0, back := scope ≠ 0 } rings
      let new := d.slices.filter (fun sl => !was.contains sl)
      let d := new.foldl (fun (d : Dev) sl => d.thaw sl) d
      (((d.adopted n t0 3).setRecovery 0).sendControl 5 []).setTwin 3)

/-- SWITCHOVER. -/
def execSwitchover (bs : List Byte) (rings : List (Nat × List (Nat × List (List Word)))) (s : State) :
    Host.Outcome State Fault Refusal := s.run (switchover bs rings)

/-- SWITCHOVER_DONE, R461, R481. -/
def switchoverDone (bs : List Byte) (d : Dev) : Dev :=
  d.yokeControl bs 5 (fun d =>
    match d.twin.switchover with
    | some (scope, true, _) =>
      let d := { d with twin := { d.twin with switchover := none } }
      let (d, n) := d.handOver scope
      ((d.s rootId Root.TWIN_STATUS_ROLE 1).setTwin 3).twinEnd Sc.ok n
    | _ => d)

/-- SWITCHOVER_DONE. -/
def execSwitchoverDone (bs : List Byte) (s : State) : Host.Outcome State Fault Refusal := s.run (switchoverDone bs)

/-! ### Detaching (R473, R482) -/

/-- Both ways of detaching: `by_` is 1 when the partner asked. -/
def Dev.detach (d : Dev) (by_ : Nat) : Dev := (d.noteClaim.dropMirror.setTwin 0).raise rootId 0x0A04 0 by_

/-- TWIN_DETACH, R482, R485. -/
def twinDetach (pf idx : Nat) (d : Dev) : Dev :=
  d.admRun pf idx 0x0702 (fun _ d =>
    if d.twinState ≠ 3 then d.admEnd pf idx 0x26 0 else ((d.sendControl 6 []).detach 0).admEnd pf idx Sc.ok 0)

/-- TWIN_DETACH. -/
def execTwinDetach (pf idx : Nat) (s : State) : Host.Outcome State Fault Refusal := s.run (twinDetach pf idx)

/-- DETACH, R473. -/
def detach (bs : List Byte) (d : Dev) : Dev :=
  d.yokeControl bs 6 (fun d => if d.twinState = 3 then d.sendAckFrame.detach 1 else d)

/-- DETACH. -/
def execDetach (bs : List Byte) (s : State) : Host.Outcome State Fault Refusal := s.run (detach bs)

/-! ### The mirror stream's timers and the link -/

/-- MIRROR_RECORD_SEND, R469 to R471: deferred records leave, with the head records due for the queues of `qs` and the sequence
records due for the decrypt SAs of `sas`. -/
def mirrorRecordSend (qs sas : List Nat) (d : Dev) : Dev :=
  if !d.mirroring then d
  else
    let (hq, hrest) := d.twin.heads.partition (fun q => qs.contains q)
    let (hs, srest) := d.twin.saHeads.partition (fun i => sas.contains i)
    let d := { d with twin := { d.twin with heads := hrest, saHeads := srest } }
    let d := hq.foldl (fun (d : Dev) q => if d.qExists q then d.touch 5 q else d) d
    (hs.foldl (fun (d : Dev) i => if d.sa i SA.STATE = 0 then d else d.touch 3 i) d).flushMirror

/-- MIRROR_RECORD_SEND. -/
def execMirrorRecordSend (qs sas : List Nat) (s : State) : Host.Outcome State Fault Refusal :=
  s.run (mirrorRecordSend qs sas)

/-- YOKE_LINK_CHANGE, R487: the yoke PCS gains or loses alignment, which it has only while the device may pair; `alive` is the
level of TWIN_ALIVE_I. -/
def yokeLinkChange (up alive : Bool) (d : Dev) : Dev :=
  let v := if up && d.paired then 1 else 0
  let d := d.aliveIn alive
  if d.g rootId Root.TWIN_STATUS_LINK_UP = v then d
  else (d.s rootId Root.TWIN_STATUS_LINK_UP v).raise rootId 0x0A07 0 v

/-- YOKE_LINK_CHANGE. -/
def execYokeLinkChange (up alive : Bool) (s : State) : Host.Outcome State Fault Refusal := s.run (yokeLinkChange up alive)

end Sys2Proof.Machine
end

