-- ==== Sys2Proof/Machine/Boot.lean ====
section
/-! DEFINITION. Hold, Sealed standby, the resets of the root hitch and the boot sequence (R452, R453, R513 to R517, R523 to R528,
R550, R551, R560). -/

namespace Sys2Proof.Machine

/-! ### What each reset keeps (R516) -/

/-- Register cells the keeper island holds: the wear ledger, KEEP_* and GPIO_WAKE_EN, IMG_BOOT_CTL, RST_CAUSE and SMB_CFG (R55,
R457, R528, R546, R549). -/
def keeperCell (k : Nat) : Bool :=
  let off := k % 2 ^ 22
  k / 2 ^ 22 = rootId &&
    ((decide (0x0A00 ≤ off) && decide (off < 0x0AB0)) || off = 0x0218 || off = 0x5008 || off = 0x6900)

/-- Register cells that show the levels of pins (R544, R549). -/
def pinCell (k : Nat) : Bool := k / 2 ^ 22 = rootId && (k % 2 ^ 22 = 0x6808 || k % 2 ^ 22 = 0x6A18)

/-- R59, R527: a slot write that a reset or the loss of power ends leaves a slot without a header. -/
def Dev.spoilSlot (d : Dev) : Dev :=
  match d.img.slotWrite with
  | some (n, _, _) => d.clearMem .flash (fun a => decide (slotFlash n ≤ a) && decide (a < slotFlash n + 256))
  | none => d

/-- R265: register cells of the entropy counters, which only loss of Run power clears (assumption 139). -/
def entropyCell (k : Nat) : Bool :=
  k / 2 ^ 22 = rootId && decide (0x0540 ≤ k % 2 ^ 22) && decide (k % 2 ^ 22 < 0x0570)

/-- R516: everything but fuses, flash, the levels of input pins, if `keeper` the keeper island, and if `run` what only loss of Run power
clears, returns to its reset value. -/
def Dev.fresh (d : Dev) (keeper run : Bool) : Dev :=
  let d := d.spoilSlot
  { Dev.reset with
    regs := stDrop (fun k => !((keeper && keeperCell k) || (run && entropyCell k) || pinCell k)) d.regs
    bytes := stDrop (fun k => decide (k / 2 ^ 56 ≠ Space.flash.code)) d.bytes
    out := d.out, free := d.free, fuse := d.fuse
    epA := { EpSt.init with perst := d.epA.perst }, epB := { EpSt.init with perst := d.epB.perst }
    power := { PowerSt.init with ledgerNext := d.power.ledgerNext }
    boot := { Dev.reset.boot with cause := d.boot.cause, armed := d.boot.armed, tripped := d.boot.tripped } }

/-- R452: Sealed standby, with the cause the next power-on records; `armed` says that a rise of PWR_GOOD counts. -/
def Dev.seal (d : Dev) (keeper : Bool) (cause : Nat) (armed : Bool) : Dev :=
  let d := (d.fresh keeper false).emit (.pin .twinAliveOut false)
  { d with power := { d.power with state := .sealed }, boot := { d.boot with cause := cause, armed := armed } }

/-- PWR_GOOD_FALL, R452, R551: PWR_GOOD has been low for 1 µs. THERMTRIP_N is released (R550). -/
def pwrGoodFall (d : Dev) : Dev :=
  if d.power.state = .sealed then { d with boot := { d.boot with armed := true } }
  else
    let was := d.boot.tripped
    let d := d.seal true 2 true
    if was then d.emit (.pin .thermtrip true) else d

/-- PWR_GOOD_FALL. -/
def execPwrGoodFall (s : State) : Host.Outcome State Fault Refusal := s.runIf (fun _ => true) pwrGoodFall

/-- BROWNOUT, R514: a monitored rail leaves regulation in Run or Hold: Sealed standby, with the cause recorded at once. A rise of
PWR_GOOD counts only after it has fallen (R551). -/
def brownout (d : Dev) : Dev :=
  if d.power.state = .sealed then d else (d.seal true 5 false).s rootId Root.RST_CAUSE_LAST 5

/-- BROWNOUT. -/
def execBrownout (s : State) : Host.Outcome State Fault Refusal := s.runIf (fun _ => true) brownout

/-- KEEPER_RESET, R516, R560: VKEEP rises through 1.60 V after having been below 1.50 V: all but fuses and flash is cleared, and the
device stands in Sealed standby. -/
def keeperReset (d : Dev) : Dev :=
  let d := d.seal false 1 true
  { d with boot := { d.boot with tripped := false } }

/-- KEEPER_RESET. -/
def execKeeperReset (s : State) : Host.Outcome State Fault Refusal := s.runIf (fun _ => true) keeperReset

/-- THERMTRIP, R550: a sensor reaches 125 °C: THERMTRIP_N asserts until PWR_GOOD falls, clocks stop, TWIN_ALIVE_O falls. -/
def thermtrip (d : Dev) : Dev :=
  if d.power.state = .sealed || d.boot.tripped then d
  else
    let d := (d.emit (.pin .thermtrip false)).emit (.pin .twinAliveOut false)
    let d := (d.s rootId Root.RST_CAUSE_THERMTRIP 1).bump Root.WEAR_THERMTRIPS
    { d with boot := { d.boot with tripped := true } }

/-- THERMTRIP. -/
def execThermtrip (s : State) : Host.Outcome State Fault Refusal := s.runIf (fun _ => true) thermtrip

/-! ### Firmware copies (R523 phase 3, R539) -/

/-- R538: flash offset of firmware copy `n` (0 = FW_A, 1 = FW_B). -/
def fwFlash (n : Nat) : Nat := n % 2 * 0x01000000

/-- A byte range of firmware copy `n` as a little-endian number. -/
def Dev.fwAt (d : Dev) (n o len : Nat) : Nat := leNat (d.readMem .flash (fwFlash n + o) len)

/-- The context string of R523. -/
def fwContext : List Byte := mldsaContext ++ [0x2D, 0x46, 0x57]

/-- R523, R539: why firmware copy `n` is refused, 0 if it is accepted, with the codes of R53. -/
def Dev.fwCheck (d : Dev) (n : Nat) : Nat :=
  let size := d.fwAt n 12 4
  let sig := d.fwAt n 20 4
  let key := d.fwAt n 10 1
  let bytes := fun (o len : Nat) => d.readMem .flash (fwFlash n + sig + o) len
  let form : Bool := d.fwAt n 0 4 = 0x5746535A && decide (4 ≤ size) && decide (size ≤ 4194304) && size % 4 = 0 &&
    sig = 64 + size && d.fwAt n 24 40 = 0
  if !form then Sc.imageFormat
  else
    let m := Config.sha384 (d.readMem .flash (fwFlash n) sig)
    let dig := Config.sha384 (bytes 0x40 97 ++ bytes 0xA8 2592)
    let slot := d.fuseLoaded.fwKeys.getD key []
    let own : Bool := key = 0xFF && dig = Config.romFwKey
    let fused : Bool := decide (key ≤ 1) && d.feature 10 && !slot.all (· = 0) && d.fuseLoaded.fwRevoke / 2 ^ key % 2 = 0 &&
      dig = slot
    let block : Bool := leNat (bytes 0 4) = 0x4E474953 && leNat (bytes 4 2) = 0x1D40 && leNat (bytes 6 1) = key
    if !(block && (own || fused)) then Sc.imageKey
    else if !(Config.ecdsaVerify (bytes 0x40 97) m (bytes 0xAC8 96) &&
        Config.mldsaVerify (bytes 0xA8 2592) m fwContext (bytes 0xB28 4627)) then Sc.imageSignature
    else if d.fwAt n 8 2 < d.fuseLoaded.fwSvn then Sc.imageRollback
    else 0

/-- R523 phase 3, R533, R539: accepted copy `n`: its code is loaded, its entry point is that of every core, and its digest is
measurement 2. -/
def Dev.takeFw (d : Dev) (n : Nat) : Dev :=
  let entry := 0xFF00 * 2 ^ 32 + d.fwAt n 16 4
  let d := d.writeMem .core 0 (d.readMem .flash (fwFlash n + 64) (d.fwAt n 12 4))
  let d := (List.range 8).foldl (fun (d : Dev) i => d.s (mcUnit i) Mc.MC_ENTRY_ADDR entry) d
  let d := { d with boot := { d.boot with fw := Config.sha384 (d.readMem .flash (fwFlash n) (d.fwAt n 20 4)) } }
  d.s rootId Root.BOOT_STATUS_FW_SLOT n

/-- R523 phase 3: the copies are tried in order. -/
def Dev.tryFw (d : Dev) : List Nat → Dev
  | [] => d
  | n :: ns =>
    let r := d.fwCheck n
    let d := d.s rootId Root.BOOT_STATUS_FW_RESULT r
    if r = 0 then d.takeFw n else Dev.tryFw d ns

/-- R539: FW_A before FW_B unless FW_B has the higher VERSION. -/
def Dev.fwOrder (d : Dev) : List Nat := if d.fwAt 1 4 4 ≤ d.fwAt 0 4 4 then [0, 1] else [1, 0]

/-! ### The boot sequence (R523 to R528) -/

/-- Phases 1 and 2: fuses, the wear ledger, UB at Trot, the boot ROM on core 0. -/
def Dev.bootEarly (d : Dev) : Dev :=
  let d := { d with fuseLoaded := d.fuse }
  let d := d.s rootId Root.IMG_FEATURE_WORD_FEATURES d.fuse.feature
  let d := d.s rootId Root.XSPI_STATUS_MODE (min Config.flashMode 2)
  let d := if d.feature 8 then d
    else (List.range 16).foldl (fun (d : Dev) l => d.setMf l Mac.PORT_CFG_LANE_RATE 1) d
  ((d.mergeLedger.setGait 18 2).setGait 18 3).setUst (mcId 0) stActive

/-- Phases 3 to 6, ending `t3`, `t4` and `t5` nanoseconds after the start. With no firmware copy accepted the boot stops in
ROM_RECOVERY at the end of phase 4. -/
def Dev.bootLate (d : Dev) (t3 t4 t5 : Nat) : Dev :=
  let at_ := fun (d : Dev) (t : Nat) => { d with time := (t + 10) / 20 * 20 }
  let d := (at_ (d.tryFw d.fwOrder) t3).s rootId Root.BOOT_TIME_FW_MS (t3 / 1000000)
  let d := (at_ d t4).s rootId Root.BOOT_TIME_MEM_MS (t4 / 1000000)
  if d.boot.fw.isEmpty then
    let d := (d.s rootId Root.BOOT_STATUS_PHASE 7).s rootId Root.IMG_STATUS_STATE 3
    (d.setReady 0 0).setReady 1 0
  else
    let d := (at_ d.bootImage t5).s rootId Root.BOOT_TIME_IMAGE_MS (t5 / 1000000)
    (d.s rootId Root.BOOT_STATUS_PHASE 6).s (mcUnit 0) Mc.MC_STATUS_STATE 1

/-- R523, R528: a reset of the root hitch from a device in reset, with its cause. THERMTRIP stays 1 where THERMTRIP_N was asserted
since the reset before. -/
def Dev.rootReset (d : Dev) (cause t3 t4 t5 : Nat) : Dev :=
  let d := (d.s rootId Root.RST_CAUSE_LAST cause).add rootId Root.RST_CAUSE_RESETS 1
  let d := if d.boot.tripped then d else d.s rootId Root.RST_CAUSE_THERMTRIP 0
  let d := { d with boot := { d.boot with armed := false, tripped := false } }
  d.bootEarly.bootLate t3 t4 t5

/-- POWER_ON_RESET, R452, R515, R523: PWR_GOOD rises after a counted fall or a keeper reset. `ticks` is what KEEP_TIME has counted
in Sealed standby. -/
def powerOnReset (ticks t3 t4 t5 : Nat) (d : Dev) : Dev :=
  if !d.boot.armed then d
  else ((d.fresh true false).add rootId Root.KEEP_TIME_TICKS ticks).rootReset d.boot.cause t3 t4 t5

/-- POWER_ON_RESET. -/
def execPowerOnReset (ticks t3 t4 t5 : Nat) (s : State) : Host.Outcome State Fault Refusal :=
  s.runIf (fun _ => true) (powerOnReset ticks t3 t4 t5)

/-- R516, R527: a device reset, with cause 3 (RST_CTL or root UNIT_RESET) or 4 (domain reset): TWIN_ALIVE_O falls at its start and
both PCIe links go down. -/
def Dev.deviceReset (d : Dev) (cause t3 t4 t5 : Nat) : Dev :=
  let tap := d.mgmt
  let stopped := d.tb.stopped
  let d := (d.fresh true true).emit (.pin .twinAliveOut false)
  let d := { d with
    mgmt := { d.mgmt with ir := tap.ir, boundary := tap.boundary }
    tb := { d.tb with stopped := stopped } }
  d.rootReset cause t3 t4 t5

/-- DEVICE_RESET, R527, R528: RST_CTL.DEVICE_RESET written by `agent` with `key`. A host function's write is ignored and counted;
one with another key is ignored. -/
def rstCtl (agent key t3 t4 t5 : Nat) (d : Dev) : Dev :=
  if agent = epId 0 ∨ agent = epId 1 then d.bump Root.LOCK_FOREIGN
  else if key ≠ 0xA5C3 then d
  else d.deviceReset 3 t3 t4 t5

/-- DEVICE_RESET. -/
def execDeviceReset (agent key t3 t4 t5 : Nat) (s : State) : Host.Outcome State Fault Refusal :=
  s.run (rstCtl agent key t3 t4 t5)

/-! ### Hold (R453) -/

/-- R453: why Hold is refused, 0 if it is not. -/
def Dev.holdRefusal (d : Dev) : Nat :=
  let eqs := (List.range 2).flatMap (fun o => (List.range 1024).map (fun q => (o, q))) ++ (List.range 1024).map (fun q => (2, q))
  if d.twinState = 3 ∨ d.twinState = 6 then 1
  else if (List.range 2).any (fun pf => (d.ep pf).linkUp && (d.ep pf).dstate = 0) then 2
  else if d.on rootId Root.EVT_STATUS_PENDING || eqs.any (fun (o, q) => d.eqValid o q && !d.eqEmpty o q) then 3
  else if !d.mbx.isEmpty || (List.range 1024).any (fun n => d.on (lockUnit n) Lock.LOCK_STATE_HELD) then 4
  else if (List.range 16).any (fun t => (List.range 16).any (fun c => d.chState t c = 1 || d.chState t c = 2)) then 5
  else if d.imgState = 1 ∨ d.imgState = 4 then 6
  else 0

/-- R264: the entropy source stops and its pool and DRBG state are cleared; requests wait for the next seed. -/
def Dev.clearEntropy (d : Dev) : Dev :=
  (d.setCry (fun (c : CrySt) => { c.flushed with tested := false })).setEnt 1

/-- HOLD, R453: a write of PWR_CTL.HOLD. `good` says whether the ledger checkpoint's flash write succeeds. -/
def hold (good : Bool) (d : Dev) : Dev :=
  let r := d.holdRefusal
  let d := d.s rootId Root.PWR_STATUS_HOLD_RESULT r
  if r ≠ 0 then d
  else
    let d := (List.range 16).foldl (fun (d : Dev) l => if d.isPort l then (d.setLock l 0).evalLink l else d) d
    let d := (List.range 2).foldl (fun (d : Dev) pf => if (d.ep pf).linkUp then d.linkReset pf 2 else d) d
    let d := (List.range 19).foldl (fun (d : Dev) r =>
      (d.setGait r 0).setRegion r (fun (x : RegionSt) => { x with
        step := none, upWaits := false, wakeReq := false, lowRun := 0 })) d
    let d := (d.checkpoint good).clearEntropy.clearBoxes
    let d := d.emit (.pin .twinAliveOut false)
    { d with
      tb := Dev.reset.tb
      power := { d.power with state := .hold, keepAtHold := d.g rootId Root.KEEP_TIME_TICKS } }

/-- HOLD. -/
def execHold (good : Bool) (s : State) : Host.Outcome State Fault Refusal := s.run (hold good)

/-- R457, R549: which of the wake sources `sources` end Hold after `ticks` cycles of XKEEP: those that KEEP_WAKE_EN enables, the
alarm when KEEP_TIME reaches KEEP_ALARM, a GPIO when one is enabled for wake. -/
def Dev.wakeCause (d : Dev) (sources ticks : Nat) : Nat :=
  let t := d.g rootId Root.KEEP_TIME_TICKS
  let a := d.g rootId Root.KEEP_ALARM_TICKS
  let able := (if a ≠ 0 ∧ t < a ∧ a ≤ t + ticks then 1 else 0) + 14 + (if d.g rootId Root.GPIO_WAKE_EN_EN = 0 then 0 else 16) + 32
  Nat.land (Nat.land sources (d.g rootId Root.KEEP_WAKE_EN_EN)) able

/-- HOLD_WAKE, R450, R453: wake sources, coded as KEEP_WAKE_EN, after `ticks` cycles of XKEEP in Hold. Device time resumes at its
value at entry plus what KEEP_TIME measured, rounded to 20 ns. -/
def holdWake (sources ticks : Nat) (d : Dev) : Dev :=
  let cause := d.wakeCause sources ticks
  if cause = 0 then d
  else
    let d := d.add rootId Root.KEEP_TIME_TICKS ticks
    let held := (d.g rootId Root.KEEP_TIME_TICKS + 2 ^ 48 - d.power.keepAtHold) % 2 ^ 48
    let ns := held * 1000000000 / 32768
    let d := { d with
      time := d.time + (ns + 10) / 20 * 20
      power := { d.power with state := .run, creditUj := 1500000000 } }
    let d := ((d.s rootId Root.GALLOP_CREDIT_MJ 1500000).s rootId Root.GOV_STATUS_CREDIT_LOCK 0).syncGallop
    let d := d.s rootId Root.KEEP_WAKE_CAUSE_CAUSE cause
    let d := if d.paired && d.twinState ≠ 5 then d.emit (.pin .twinAliveOut true) else d
    d.raise rootId 0x0C04 0 cause

/-- HOLD_WAKE. -/
def execHoldWake (sources ticks : Nat) (s : State) : Host.Outcome State Fault Refusal :=
  s.runIf (fun d => d.power.state = .hold && !d.boot.tripped) (holdWake sources ticks)

end Sys2Proof.Machine
end

