-- ==== Sys2Proof/Machine/Endpoint.lean ====
section
/-! DEFINITION. The host endpoint: configuration space, the ROM shadow, link power states, translation services, DOE and
the end of quiet times (R304 to R324). The places of fields within capability registers are those of the PCIe Base
Specification, which R305 to R307 name (assumption 66). -/

namespace Sys2Proof.Machine

/-! ### MSI-X (R310) -/

/-- R310: vectors of `pf` that are pending and no longer masked send their messages. -/
def Dev.msixPump (d : Dev) (pf : Nat) : Dev :=
  let u := msixUnit pf
  if !(d.ep pf).msixEn || (d.ep pf).msixMask then d
  else
    (List.range 16).foldl (fun (d : Dev) k =>
      let off := 0x8000 + 8 * k
      (List.range 64).foldl (fun (d : Dev) b =>
        let v := 64 * k + b
        if getBits (d.cell u off) b 1 = 1 && getBits (d.cell u (16 * v + 8)) 32 1 = 0 then
          (d.setCell u off (putBits (d.cell u off) b 1 0)).hostOut pf [.msix pf v]
        else d) d) d

/-! ### Configuration space (R305 to R307) -/

/-- Defaults of what a write stores in a configuration register (R305 to R307, assumption 66). -/
def cfgDefault (reg : Nat) : Nat :=
  match reg with
  | 0x68 => devCtlReset
  | 0x108 => 0x00400000
  | 0x10C => 0x70462010
  | 0x114 => 0xE000
  | 0x274 => 0x28
  | _ => 0

/-- The stored dword of a configuration register; what the host has not written reads its default. -/
def EpSt.cfgStored (e : EpSt) (reg : Nat) : Nat :=
  match e.cfg.find? (fun x => x.1 = reg) with
  | some x => x.2.toNat
  | none => cfgDefault reg

/-- R307: the registers of a Selective IDE stream, 44 bytes from 0x2C4 on each: the offset within them. -/
def ideReg (reg : Nat) : Option Nat := if 0x2C4 ≤ reg && reg < 0x2C4 + 8 * 44 then some ((reg - 0x2C4) % 44) else none

/-- Bits of configuration register `reg` of function `pf` that a write stores (R305 to R307, assumption 66). -/
def cfgWritable (rom : Bool) (pf reg : Nat) : Nat :=
  match reg with
  | 0x04 => 0x0546
  | 0x0C => 0xFF
  | 0x10 => 0xF0000000
  | 0x14 | 0x1C => 0xFFFFFFFF
  | 0x18 => 0xC0000000
  | 0x30 => if rom then 0xFFF00001 else 0
  | 0x3C => 0xFF
  | 0x44 => 0x0103
  | 0x50 => 0xC0000000
  | 0x68 => 0x7FFF
  | 0x70 => 0x01CB
  | 0x88 => 0x141F
  | 0x90 => 0xFFBF
  | 0x108 | 0x10C => 0x705FF010
  | 0x114 => 0xF1C1
  | 0x118 => Nat.land (2 * (Config.cfgFixed pf 0x118).toNat) 0x140
  | 0x154 => 0xFE00
  | 0x1C8 => 0x703
  | 0x258 => 0x8
  | 0x264 => 0x1FFF1FFF
  | 0x270 => 0xE3FF000F
  | 0x274 => 0xFB
  | 0x27C => 0x801F0000
  | 0x284 => 0x1
  | 0x28C => 0xFFFFFFFF
  | 0x294 => 0x00010000
  | 0x2A0 => 0x2
  | 0x2BC => 0xFF3FC101
  | _ =>
    match ideReg reg with
    | some 4 => 0xFF7FC301
    | some 12 => 0x00FFFF00
    | some 16 | some 20 | some 32 => 0xFFFFFF01
    | some 24 | some 28 | some 36 | some 40 => 0xFFFFFFFF
    | _ => 0

/-- R306: an extended capability header: the ID and the offset of the next. Its version is known for one capability only. -/
def extHead (id next : Nat) : Nat × Nat := (id + next * 2 ^ 20, 0xFFF0FFFF)

/-- R305 to R307: the value of the configuration dword at `reg` of function `pf`, and which of its bits the spec, or the PCIe Base
Specification for a field that the spec leaves to it, states. -/
def Dev.cfgWord (d : Dev) (pf reg : Nat) : Nat × Nat :=
  let e := d.ep pf
  let u := epId pf
  let st := e.cfgStored reg
  let all_ := 0xFFFFFFFF
  match reg with
  | 0x00 => (0x32001F9C, all_)
  | 0x04 => (st + 0x00100000, all_)
  | 0x08 => (revisionId + 0x02000000, all_)
  | 0x0C => (st, all_)
  | 0x10 => (st + 0x4, all_)
  | 0x14 | 0x1C => (st, all_)
  | 0x18 => (st + 0xC, all_)
  | 0x20 | 0x24 => (0, all_)
  | 0x2C => (d.g u Ep.EP_SUBSYS_SSVID + d.g u Ep.EP_SUBSYS_SSID * 65536, all_)
  | 0x30 => (if d.on u Ep.EP_CFG_CTL_ROM_PRESENT then st else 0, all_)
  | 0x34 => (0x40, all_)
  | 0x3C => (st, all_)
  | 0x40 => (0xC8035001, 0xFFC7FFFF)
  | 0x44 => (st / 256 * 256 + 8 + e.dstate, 0xFFFF7FFF)
  | 0x50 => (st + 0x03FF6011, all_)
  | 0x54 => (0x10000, all_)
  | 0x58 => (0x18000, all_)
  | 0x60 => (0x80020010, 0x81FFFFFF)
  | 0x64 => (0x10008022, 0x50008027)
  | 0x68 => (st, 0xFFCFFFFF)
  | 0x6C => (d.rateOffered pf + d.g u Ep.EP_LINK_CTL_MAX_WIDTH * 16 + 0x800 + 0x18000, 0x38FFF)
  | 0x70 => (st + d.g u Ep.EP_LINK_STATUS_RATE * 2 ^ 16 + d.g u Ep.EP_LINK_STATUS_WIDTH * 2 ^ 20, 0xCBFFFFFF)
  | 0x84 => (0x0003081E, 0x0003081F)
  | 0x88 => (st, all_)
  | 0x8C => ((2 ^ d.rateOffered pf - 1) * 2, 0xFF)
  | 0x90 => (if e.cfg.any (fun x => x.1 = 0x90) then st else d.rateOffered pf, 0xFFFF)
  | 0x100 => (0x0001 + 0x20000 + 0x150 * 2 ^ 20, all_)
  | 0x108 | 0x10C | 0x114 | 0x154 => (st, all_)
  | 0x118 => (st, 0xFFFFFF5F)
  | 0x150 => extHead 0x0019 0x180
  | 0x180 => extHead 0x0025 0x190
  | 0x184 => (0x80000001, 0xFF800001)
  | 0x190 => extHead 0x0026 0x1C0
  | 0x1C0 => extHead 0x002A 0x1F0
  | 0x1C8 => (st, all_)
  | 0x1F0 => extHead 0x0031 0x220
  | 0x220 => (0x250 * 2 ^ 20, 0xFFF00000)
  | 0x250 => extHead 0x002F 0x260
  | 0x258 => (st, all_)
  | 0x260 => extHead 0x0018 0x268
  | 0x264 => (st, all_)
  | 0x268 => extHead 0x001E 0x278
  | 0x26C => (0x00210A1F, 0x00FBFF1F)
  | 0x270 | 0x274 => (st, all_)
  | 0x278 => extHead 0x000F 0x280
  | 0x27C => (st + 0x60, 0x801F007F)
  | 0x280 => extHead 0x0013 0x290
  | 0x284 => (st, 0xFFFF)
  | 0x288 => (1024, all_)
  | 0x28C => (st, all_)
  | 0x290 => extHead 0x001B 0x298
  | 0x294 => (st + 0x1400, 0x00071F06)
  | 0x298 => extHead 0x002E 0x2B0
  | 0x2A0 => (st, all_)
  | 0x2A4 => ((if e.doeErr then 4 else 0) + (if e.doeOut.isEmpty then 0 else 0x80000000), 0x80000005)
  | 0x2AC => (e.doeOut.headD 0, all_)
  | 0x2B0 => extHead 0x0030 0x000
  | 0x2B4 => (0x00070023, 0x01FFE033)
  | 0x2BC => (st, all_)
  | 0x188 | 0x19C | 0x1C4 | 0x1CC | 0x1FC | 0x254 | 0x25C | 0x29C | 0x2C0 => (0, 0)
  | _ =>
    match ideReg reg with
    | some 0 => (2, 0xF)
    | some 8 => (0, 0)
    | some _ => (st, all_)
    | none =>
      let lanes := (0x15C ≤ reg && reg < 0x17C) || (0x1B0 ≤ reg && reg < 0x1C0) || (0x1D0 ≤ reg && reg < 0x1F0) ||
        (0x200 ≤ reg && reg < 0x220) || (0x224 ≤ reg && reg < 0x250)
      (0, if lanes then 0 else all_)

/-- Registers whose bits that the spec does not state follow the link, the partner or traffic: each read gives a free value. -/
def cfgLive : List Nat := [0x44, 0x68, 0x70, 0x90, 0x188, 0x19C, 0x1CC, 0x1D0, 0x1D4, 0x1FC, 0x22C, 0x25C, 0x284, 0x2A4, 0x2C0]

/-! ### DOE and SPDM (R321 to R324) -/

/-- R321 to R323: a data object is answered: DOE Discovery at once, an SPDM message at once or, where its answer needs random bytes,
when its request has been served. -/
def Dev.doeAnswer (d : Dev) (pf : Nat) (obj : List Byte) : Dev :=
  let vendor := leNat (sliceBytes obj 0 2)
  let type := leNat (sliceBytes obj 2 1)
  let body := obj.drop 8
  if vendor ≠ 1 then d
  else if type = 0 then
    let i := leNat (sliceBytes body 0 1)
    d.doeSend pf (doeObject 0 (if 2 < i then leBytes 4 0xFFFF else leBytes 4 (0x0001 + i * 65536 + (if i = 2 then 0 else i + 1) * 2 ^ 24)))
  else if 2 < type then d
  else
    let need := if type = 1 then spdmNeeds (leNat (sliceBytes body 1 1)) else 0
    if need = 0 then d.spdmReply pf type body []
    else d.askRandom { pf := pf, adm := none, spdm := some body, len := need, gen := [], fresh := false, at_ := d.time }

/-- DOE_OBJECT, R321: a data object is answered, or sets DOE Error and is discarded when it is longer than 16,384 dwords or not
as long as it says. -/
def doeObjectIn (pf : Nat) (obj : List Byte) (d : Dev) : Dev :=
  let said := leNat (sliceBytes obj 4 4) % 2 ^ 18
  let n := (obj.length + 3) / 4
  if !d.on (epId pf) Ep.EP_CFG_CTL_CFG_READY || !(d.ep pf).linkUp then d
  else if 16384 < n || n < 2 || said ≠ n then d.setEp pf (fun (e : EpSt) => { e with doeErr := true })
  else d.doeAnswer pf obj

/-- DOE_OBJECT. -/
def execDoeObject (pf : Nat) (obj : List Byte) (s : State) : Host.Outcome State Fault Refusal := s.run (doeObjectIn pf obj)

/-- DOE_ABORT, R321. -/
def doeAbort (pf : Nat) (d : Dev) : Dev :=
  (d.dropSpdm pf).setEp pf (fun (e : EpSt) => { e with doeIn := [], doeOut := [], doeErr := false })

/-- DOE_ABORT. -/
def execDoeAbort (pf : Nat) (s : State) : Host.Outcome State Fault Refusal := s.run (doeAbort pf)

/-! ### Configuration requests (R304) -/

/-- Write a dword of configuration space under its byte mask. -/
def Dev.cfgStore (d : Dev) (pf reg mask v : Nat) : Dev :=
  let w := Nat.land (cfgWritable (d.on (epId pf) Ep.EP_CFG_CTL_ROM_PRESENT) pf reg) mask
  if w = 0 then d
  else d.setEp pf (fun (e : EpSt) =>
    let old := e.cfgStored reg
    { e with cfg := e.cfg.filter (fun (x : Nat × Word) => x.1 ≠ reg) ++
        [(reg, BitVec.ofNat 64 (Nat.lor (old - Nat.land old w) (Nat.land v w)))] })

/-- R307 to R309, R318 to R321: what a written configuration register governs. -/
def Dev.cfgEffect (d : Dev) (pf reg mask v : Nat) : Dev :=
  let st := (d.ep pf).cfgStored reg
  let bit := fun (n : Nat) => st / 2 ^ n % 2 = 1
  let set := fun (f : EpSt → EpSt) => d.setEp pf f
  match reg with
  | 0x04 => set (fun (e : EpSt) => { e with bme := bit 2, mse := bit 1 })
  | 0x44 =>
    let p := v % 4
    if mask % 4 = 3 && (p = 0 || p = 3) then set (fun (e : EpSt) => { e with dstate := p }) else d
  | 0x50 => (set (fun (e : EpSt) => { e with msixEn := bit 31, msixMask := bit 30 })).msixPump pf
  | 0x68 =>
    let d := set (fun (e : EpSt) => { e with relaxed := bit 4 })
    if Nat.land mask v / 2 ^ 15 % 2 = 1 then flr pf d else d
  | 0x70 => set (fun (e : EpSt) => { e with aspmL1 := bit 1 })
  | 0x258 => set (fun (e : EpSt) => { e with l0pEn := bit 3 })
  | 0x270 => set (fun (e : EpSt) => { e with l12En := bit 2, l11En := bit 3 })
  | 0x27C => set (fun (e : EpSt) => { e with atsEn := bit 31 })
  | 0x294 => set (fun (e : EpSt) => { e with pasidEn := bit 16 })
  | 0x2A0 =>
    let w := Nat.land mask v
    if w % 2 = 1 then doeAbort pf d
    else if w / 2 ^ 31 % 2 = 1 then
      let obj := (d.ep pf).doeIn.flatMap (fun x => leBytes 4 x)
      doeObjectIn pf obj (set (fun (e : EpSt) => { e with doeIn := [] }))
    else d
  | 0x2A8 => set (fun (e : EpSt) => { e with doeIn := e.doeIn ++ [v % 2 ^ 32] })
  | 0x2AC => set (fun (e : EpSt) => { e with doeOut := e.doeOut.drop 1 })
  | _ => d

/-- CONFIG_REQUEST, R304 to R307: a Configuration Request of the dword at `reg`, with byte enables `be`; a write of `v`, or a
read. It is answered with RRS until CFG_READY. Bits that the spec does not state read as free values: the same at every read, but for
those that follow the link. -/
def configRequest (pf reg be : Nat) (write : Option Nat) (d : Dev) : Dev :=
  let u := epId pf
  let reg := reg % 4096 / 4 * 4
  let mask := ((List.range 4).map (fun i => if be / 2 ^ i % 2 = 1 then 0xFF * 2 ^ (8 * i) else 0)).foldl (· + ·) 0
  if !(d.ep pf).linkUp then d
  else if !d.on u Ep.EP_CFG_CTL_CFG_READY then (d.emit (.cfgCpl pf none)).add u Ep.RRS_SENT 1
  else
    match write with
    | some v => (((d.cfgStore pf reg mask v).cfgEffect pf reg mask v).tellLtr d pf).emit (.cfgCpl pf (some 0))
    | none =>
      let (v, known) := d.cfgWord pf reg
      let v := Nat.land v known
      let reply := fun (f : Nat) => Out.cfgCpl pf (some (BitVec.ofNat 64 (Nat.lor v (f - Nat.land f known))))
      if known = 0xFFFFFFFF then d.emit (.cfgCpl pf (some (BitVec.ofNat 64 v)))
      else if cfgLive.contains reg || (ideReg reg).any (· = 8) then d.used.emit (reply (d.freeVal.toNat % 2 ^ 32))
      else d.emit (reply (Config.cfgFixed pf reg).toNat)

/-- CONFIG_REQUEST. -/
def execConfigRequest (pf reg be : Nat) (write : Option Nat) (s : State) : Host.Outcome State Fault Refusal :=
  s.run (configRequest pf reg be write)

/-- FUNCTION_QUIET_END, R309: the function is no longer quiet: held writes leave in order, and waiting events are presented. -/
def functionQuietEnd (pf : Nat) (d : Dev) : Dev :=
  if d.quiet pf then d
  else
    let os := (d.ep pf).heldWrites
    let d := (d.setEp pf (fun (e : EpSt) => { e with heldWrites := [], pmeSent := false })).emits os
    d.presentWaiting (fun w => (d.target w.ev).2.1 = pf)

/-- FUNCTION_QUIET_END. -/
def execFunctionQuietEnd (pf : Nat) (s : State) : Host.Outcome State Fault Refusal := s.run (functionQuietEnd pf)

/-- ROM_DATA, R317, R325: 8 bytes are stored in the ROM shadow at ROM_ADDR, which moves on, while CFG_READY is 0. -/
def romData (pf : Nat) (v : Word) (d : Dev) : Dev :=
  let u := epId pf
  let a := d.g u Ep.ROM_ADDR_ADDR
  if d.on u Ep.EP_CFG_CTL_CFG_READY then d
  else (d.writeMem .rom (pf * 2 ^ 20 + 8 * a) (leBytes 8 v.toNat)).s u Ep.ROM_ADDR_ADDR (a + 1)

/-- ROM_DATA. -/
def execRomData (pf : Nat) (v : Word) (s : State) : Host.Outcome State Fault Refusal := s.run (romData pf v)

/-! ### Link power (R318, R319) -/

/-- PM_STATE of a link in L0: 0, or 1 at reduced width. -/
def Dev.l0State (d : Dev) (pf : Nat) : Nat :=
  if d.g (epId pf) Ep.EP_LINK_STATUS_CUR_WIDTH < d.g (epId pf) Ep.EP_LINK_STATUS_WIDTH then 1 else 0

/-- ASPM_L1_ENTRY, R318: the idle timer expires with nothing waiting. -/
def aspmL1Entry (pf : Nat) (d : Dev) : Dev :=
  let u := epId pf
  let e := d.ep pf
  if !e.linkUp || !e.aspmL1 || decide (2 ≤ d.g u Ep.EP_LINK_STATUS_PM_STATE) then d
  else (d.s u Ep.EP_LINK_STATUS_PM_STATE (if e.l12En then 4 else if e.l11En then 3 else 2)).add u Ep.L1_ENTRIES 1

/-- ASPM_L1_ENTRY. -/
def execAspmL1Entry (pf : Nat) (s : State) : Host.Outcome State Fault Refusal := s.run (aspmL1Entry pf)

/-- ASPM_L1_EXIT, R318: the link is back in L0. -/
def aspmL1Exit (pf : Nat) (d : Dev) : Dev :=
  let p := d.g (epId pf) Ep.EP_LINK_STATUS_PM_STATE
  if 2 ≤ p && p ≤ 4 then d.s (epId pf) Ep.EP_LINK_STATUS_PM_STATE (d.l0State pf) else d

/-- ASPM_L1_EXIT. -/
def execAspmL1Exit (pf : Nat) (s : State) : Host.Outcome State Fault Refusal := s.run (aspmL1Exit pf)

/-- Rate of a link in MT/s per lane, by its code (R303). -/
def rateMt (code : Nat) : Nat := [0, 2500, 5000, 8000, 16000, 32000, 64000, 128000].getD code 0

/-- Bytes that a link's lanes carry in 10 µs, one way (R319, assumption 67). -/
def linkCapacity (rate width : Nat) : Nat := rateMt rate * width * 10 / 8

/-- L0P_WINDOW, R319: the end of a 10 µs window with the bytes sent and received and the transmit backlog: the endpoint may ask
for half the width, or for the full one. -/
def l0pWindow (pf tx rx backlog : Nat) (d : Dev) : Dev :=
  let u := epId pf
  let e := d.ep pf
  let cur := d.g u Ep.EP_LINK_STATUS_CUR_WIDTH
  let full := d.g u Ep.EP_LINK_STATUS_WIDTH
  let cap := linkCapacity (d.g u Ep.EP_LINK_STATUS_RATE) cur
  let low := decide (tx * 4 < cap) && decide (rx * 4 < cap)
  let high := decide (cap * 60 < tx * 100) || decide (cap * 60 < rx * 100) || decide (16384 < backlog)
  let run := if low then e.l0pRun + 1 else 0
  let may := e.linkUp && e.l0pEn && d.on u Ep.EP_LINK_CTL_L0P_AUTO && d.on u Ep.EP_LINK_STATUS_FLIT
  let ask := fun (w : Nat) => d.setEp pf (fun (e : EpSt) => { e with l0pReq := some w, l0pRun := 0 })
  if !e.linkUp || e.l0pReq.isSome then d
  else if may && high && decide (cur < full) then ask full
  else if may && decide (16 ≤ run) && decide (d.g u Ep.EP_LINK_CTL_L0P_MIN_WIDTH ≤ cur / 2) then ask (cur / 2)
  else d.setEp pf (fun (e : EpSt) => { e with l0pRun := run })

/-- L0P_WINDOW. -/
def execL0pWindow (pf tx rx backlog : Nat) (s : State) : Host.Outcome State Fault Refusal := s.run (l0pWindow pf tx rx backlog)

/-- R319: the link's active lanes change. -/
def Dev.setWidth (d : Dev) (pf w : Nat) : Dev :=
  let u := epId pf
  let cur := d.g u Ep.EP_LINK_STATUS_CUR_WIDTH
  let d := if w < cur then d.add u Ep.L0P_NARROW 1 else if cur < w then d.add u Ep.L0P_WIDEN 1 else d
  let d := (d.s u Ep.EP_LINK_STATUS_CUR_WIDTH w).setEp pf (fun (e : EpSt) => { e with l0pRun := 0, l0pReq := none })
  if d.g u Ep.EP_LINK_STATUS_PM_STATE ≤ 1 then d.s u Ep.EP_LINK_STATUS_PM_STATE (d.l0State pf) else d

/-- L0P_PARTNER_CHANGE, R319: the partner asks for a width (`some w`), which is accepted while L0p is enabled, or answers the
endpoint's request (`none`), accepting or refusing it. -/
def l0pPartnerChange (pf : Nat) (width : Option Nat) (accept : Bool) (d : Dev) : Dev :=
  let u := epId pf
  let e := d.ep pf
  match width, e.l0pReq with
  | some w, _ =>
    if e.linkUp && e.l0pEn && d.on u Ep.EP_LINK_STATUS_FLIT && [1, 2, 4, 8, 16].contains w &&
      decide (w ≤ d.g u Ep.EP_LINK_STATUS_WIDTH) then d.setWidth pf w else d
  | none, some w =>
    if accept then d.setWidth pf w
    else (d.add u Ep.L0P_REFUSED 1).setEp pf (fun (e : EpSt) => { e with l0pRun := 0, l0pReq := none })
  | none, none => d

/-- L0P_PARTNER_CHANGE. -/
def execL0pPartnerChange (pf : Nat) (width : Option Nat) (accept : Bool) (s : State) : Host.Outcome State Fault Refusal :=
  s.run (l0pPartnerChange pf width accept)

/-! ### Translation services (R320) -/

/-- ATS_INVALIDATE, R320: cached translations of a PASID's page leave, and the completion with the request's tag is sent. -/
def atsInvalidate (pf tag pasid page : Nat) (d : Dev) : Dev :=
  let d := d.setEp pf (fun (e : EpSt) => { e with ats := e.ats.filter (fun (x : Nat × Nat) => !(x = (pasid, page))) })
  if d.quiet pf then d else d.emit (.pcieMsg pf 1 tag)

/-- ATS_INVALIDATE. -/
def execAtsInvalidate (pf tag pasid page : Nat) (s : State) : Host.Outcome State Fault Refusal :=
  s.run (atsInvalidate pf tag pasid page)

/-- R320, R330: the operation of queue `q` that waits for a page fails with BUS_ERROR; only a queue that uses translated
addresses waits for one. -/
def Dev.pageFail (d : Dev) (q : Nat) : Dev :=
  if !d.qExists q || !d.qAts q then d
  else
    let d := d.bumpk (dmaOf q) Dma.PAGE_REQ_FAIL
    match d.qf q Qctx.KIND with
    | 1 => txJobFetch q [] false false d
    | 4 => (match d.connOfSq q 3 with
      | some c => transportSend c none d
      | none => d)
    | _ => d

/-- PAGE_GROUP_RESPONSE, R320: the page a DMA of queue `q` waits for is resident, and its translation cached, or the operation
fails. -/
def pageGroupResponse (q page : Nat) (ok : Bool) (d : Dev) : Dev :=
  if !ok then d.pageFail q
  else if !d.qAts q then d
  else
    match d.qPasid q with
    | some p => d.setEp (d.qf q Qctx.OWNER) (fun (e : EpSt) =>
        if 16384 ≤ e.ats.length || e.ats.contains (p, page) then e else { e with ats := e.ats ++ [(p, page)] })
    | none => d

/-- PAGE_GROUP_RESPONSE. -/
def execPageGroupResponse (q page : Nat) (ok : Bool) (s : State) : Host.Outcome State Fault Refusal :=
  s.run (pageGroupResponse q page ok)

/-- PAGE_REQUEST_TIMEOUT, R320. -/
def execPageRequestTimeout (q : Nat) (s : State) : Host.Outcome State Fault Refusal := s.run (fun d => d.pageFail q)

end Sys2Proof.Machine
end

