-- ==== Sys2Proof/Machine/UnitReset.lean ====
section
/-! DEFINITION. Unit reset: what UNIT_RESET clears by kind, and its end (R154, R164, R521, R522). -/

namespace Sys2Proof.Machine

/-- Every kind-specific register of unit `u` returns to its reset value. -/
def Dev.clearKind (d : Dev) (u : Nat) : Dev := d.resetRegs u (fun off => decide (off < kb))

/-- The kind-specific registers of unit `u` from `lo` up to `hi` return to their reset values. -/
def Dev.clearRange (d : Dev) (u lo hi : Nat) : Dev :=
  d.resetRegs u (fun off => !(decide (kb + lo ≤ off) && decide (off < kb + hi)))

/-- R521, R154: a PE loses its threads' packets, each counted in DROP_RESET of its hitch; code and data are loaded again. -/
def Dev.resetPe (d : Dev) (u : Nat) : Dev :=
  let n := peNum u
  let owner := d.gk u Pe.PE_CODE_OWNER
  let d := (List.range 8).foldl (fun (d : Dev) t =>
    if (d.thr n t).st = .idle then d else (d.addk (d.thr n t).hitch Eh.DROP_RESET 1).endPacket n t) d
  let d := (d.clearKind u).setPe n (fun (x : PeSt) => { x with last := 7, trapAt := none })
  (d.loadPe n owner).syncPe n

/-- R521: an engine hitch loses its dispatch FIFO and reorder stage; a tag of an enclosing hitch that one of its packets held is
released (R154). Its registers return to their reset values, the bounds' INITIAL and the image's PIN. -/
def Dev.resetEngine (d : Dev) (u : Nat) : Dev :=
  let ups := (((d.eh u).map EhSt.tags).getD []).filterMap TagRec.up
  let frozen := d.gk u Eh.REIN_HSTATUS_PATCH_FROZEN
  let d := d.setEh u (fun (x : EhSt) => { x with fifo := [], next := 0, tags := [], highLogged := false, lowLogged := false })
  let d := ups.foldl (fun (d : Dev) (x : Nat × Nat) => (d.addk x.1 Eh.DROP_RESET 1).freeTag x.1 x.2) d
  let d := ((d.clearKind u).sk u Eh.REIN_MARKS_HIGH_MARK (d.boundAt 0x01 u).2.2).sk u Eh.REIN_MARKS_LOW_MARK
    (d.boundAt 0x02 u).2.2
  let pin := ((d.hitch u).map (fun (h : Hitch) => h.pin)).getD false
  ((d.sk u Eh.REIN_HCTL_PIN (if pin then 1 else 0)).sk u Eh.REIN_HSTATUS_PATCH_FROZEN frozen).syncEh u

/-- R521: a match tile loses its command interface and the learn requests of its home tables. -/
def Dev.resetMatch (d : Dev) (m : Nat) : Dev :=
  let mine := fun (s : TblSrc) => s = .iface m
  { d.clearKind (matchId m) with tbl := { d.tbl with
    learn := d.tbl.learn.filter (fun (r : LearnReq) => homeTile r.table ≠ m)
    changes := d.tbl.changes.filter (fun (c : TblChg) => !mine c.src)
    answers := d.tbl.answers.filter (fun (a : TblAns) => !mine a.src) } }

/-- R521: a crypto tile drops the packets inside it, those whose SA it is home to. -/
def Dev.resetCrypto (d : Dev) (n : Nat) : Dev :=
  let inside := (d.sw.wire.filter (d.inCrypto n)).map SwPkt.id
  let d := d.setCry (fun (c : CrySt) => { c with
    steps := c.steps.filter (fun (s : CryStep) => !inside.contains s.id)
    ops := c.ops.filter (fun (o : SaOp) => o.tile ≠ n) })
  { d.clearKind (cryptoId n) with sw := { d.sw with
    wire := d.sw.wire.filter (fun (x : SwPkt) => !inside.contains x.id) } }

/-- R521: a transport tile loses the packets it is parsing; its cached contexts are written back. -/
def Dev.resetTransport (d : Dev) (n : Nat) : Dev :=
  let d := d.clearKind (transportId n)
  ({ d with
    sw := { d.sw with transport := d.sw.transport.filter (fun (p : Pkt) => homeOf (parseRoce p).qpn ≠ transportId n) }
    tp := { d.tp with
      cache := d.tp.cache.filter (fun (x : Nat × CLine) => x.1 ≠ n)
      rr := d.tp.rr.filter (fun (x : Nat × Nat × Nat) => x.1 ≠ n) } }).syncTally n

/-- R299, R521: a storage tile ends the commands in flight of its sessions, which stay ACTIVE. -/
def Dev.resetStorage (d : Dev) (n : Nat) : Dev :=
  let ss := (d.recs .session).filter (fun s => stHome s = storageId n && d.sn s Sess.STATE ≠ 0)
  let d := ss.foldl (fun (d : Dev) s => d.sessAbort s none) d
  let d := d.clearKind (storageId n)
  let d := { d with stor := { d.stor with
    cache := d.stor.cache.filter (fun (x : Nat × CLine) => x.1 ≠ n)
    rr := d.stor.rr.filter (fun (x : Nat × Nat × Nat) => x.1 ≠ n) } }
  ss.foldl (fun (d : Dev) s => d.syncSt s) d

/-- R398, R521: every channel of a DMA tile stops at once and its registers, and the tile's, return to their reset values. -/
def Dev.resetDma (d : Dev) (t : Nat) : Dev :=
  (List.range 16).foldl (fun (d : Dev) c => d.resetRegs (chUnit t c) (fun _ => false)) ((d.chReset t).clearKind (dmaId t))

/-- R521: a prism drops the received frames in its FIFO. -/
def Dev.resetPrism (d : Dev) (n : Nat) : Dev :=
  let d := (d.clearRange (prismId n) 0 8).clearRange (prismId n) 0x100 0x158
  ({ d with prism := { d.prism with
    fifo := d.prism.fifo.filter (fun (x : Nat × Pkt) => !(x.1 = n && x.2.mg Meta.SRC_KIND = 0)) } }).syncFifo n

/-- R521: a MAC port block: the link goes down, and trains again once the tile leaves RESET (R74); registers and counters return to their reset values, but for the
timebase, the lane's status, and the width and first lane the image gives. -/
def Dev.resetMac (d : Dev) (l : Nat) : Dev :=
  let u := macId l
  let d := if d.isPort l then (d.setLock l 0).evalLink l else d
  let w := d.mf l Mac.PORT_CFG_WIDTH
  let f := d.mf l Mac.PORT_CFG_FIRST_LANE
  let d := d.resetRegs u (fun off => decide (off < kb) || decide (kb + 0x3000 ≤ off) || off = kb + 0x2008)
  let d := (d.setMf l Mac.PORT_CFG_WIDTH w).setMf l Mac.PORT_CFG_FIRST_LANE f
  let d := if d.feature 8 then d else d.setMf l Mac.PORT_CFG_LANE_RATE 1
  let d := d.setMac l (fun (m : MacSt) => { MacSt.init with swXoff := m.swXoff })
  d.setMf l Mac.PORT_STATUS_TRAIN_STATE 0

/-- R521: the function of an endpoint tile, as by a Hot Reset, and the endpoint's counters. -/
def Dev.resetEndpoint (d : Dev) (pf : Nat) : Dev :=
  (d.linkReset pf 2).resetRegs (epId pf) (fun off => !(decide (0x200 ≤ off) && decide (off < 0x238)))

/-- R424, R429, R521: a management core's locks and mailboxes; one that had been started runs again from MC_ENTRY. -/
def Dev.resetCore (d : Dev) (u : Nat) : Dev :=
  let c := mcUnit (u - mcId 0)
  let d := (d.agentReset u).boxReset u
  if d.on c Mc.MC_STATUS_STATE then d.s c Mc.MC_STATUS_STATE 1 else d

/-- R521: the switch core discards every packet in the buffer, not counted, and clears its counters. -/
def Dev.resetSwitch (d : Dev) : Dev :=
  let d := d.sw.queued.foldl (fun (d : Dev) x => d.release x) d
  let d := d.clearRange switchId 0x100 0x148
  (List.range 48).foldl (fun (d : Dev) p =>
    let d := (List.range 8).foldl (fun (d : Dev) c =>
      d.resetRegs (swcUnit p c) (fun off => !(decide (0x80 ≤ off) && decide (off < 0xB0)))) d
    d.resetRegs (wsUnit p) (fun off => !(decide (0x100 ≤ off) && decide (off < 0x118)))) d

/-- What a reset clears of unit `u`, by its kind (R521). -/
def Dev.resetKind (d : Dev) (u : Nat) : Dev :=
  match d.kindOf u with
  | 0x01 => d.resetPe u
  | 0x02 => d.resetMatch (u - matchId 0)
  | 0x03 => d.resetCrypto (u - cryptoId 0)
  | 0x04 => d.resetDma (u - dmaId 0)
  | 0x05 => d.resetStorage (u - storageId 0)
  | 0x06 => d.resetTransport (u - transportId 0)
  | 0x07 => d.resetMac (u - macId 0)
  | 0x08 => d.resetEndpoint (u - epId 0)
  | 0x09 => d.resetSwitch
  | 0x0A => d.resetCore u
  | 0x0B => d.resetPrism (u - prismId 0)
  | 0x83 => d.resetEngine u
  | 0x85 => d.resetRegs u (fun off => !(decide (0x200 ≤ off) && decide (off < 0x220)))
  | _ => d

/-- R521: the header of unit `u` during its reset: ENABLE, EVENT_SOURCE, FLOOR, CEIL and the image's fields are kept. -/
def Dev.resetHeader (d : Dev) (u : Nat) : Dev :=
  if d.ust u = stOff then d
  else ((((d.s u Hdr.UNIT_STATUS_ERR 0).s u Hdr.UNIT_STATUS_ERR_CODE 0).s u Hdr.UNIT_STATUS_DB_PENDING 0).s u
    Hdr.UNIT_CONTROL_DRAIN 0).setUst u stReset

/-- R164: a PE of a step that ends goes to the pool; a PE taken out of its hitch leaves its data memory at 0 (R163). -/
def Dev.stepToPool (d : Dev) (h : Nat) (s : ReinStep) : Dev :=
  let pool := ((d.hitch h).map (fun (x : Hitch) => x.pool)).getD 0
  let d := if s.add then d
    else (d.dropLast h).clearMem .peData (fun a => decide (a / 196608 = peNum s.pe))
  d.joinHitch pool s.pe

/-- R164: rein steps that a reset of units `us` meets. A removal whose PE alone was reset completes; any other step is cancelled,
its PE in the pool. -/
def Dev.resetSteps (d : Dev) (us : List Nat) : Dev :=
  d.ehs.foldl (fun (d : Dev) (x : EhSt) =>
    match x.step with
    | none => d
    | some s =>
      if !us.contains x.id && !us.contains s.pe then d
      else
        let d := (d.stepToPool x.id s).endStep x.id
        if us.contains x.id || s.add then d.logRein x.id 7 s.pe s.window s.time
        else (d.addk x.id Eh.REMOVES 1).logRein x.id 2 s.pe s.window s.time) d

/-- UNIT_RESET, R17, R27, R66, R521, R522: unit `u` and the units below it are reset. The root's is a device reset. A write within
the subtree of a PATCHING hitch is ignored; a patch whose target lies at or below `u` ends first. The times are those of the
boot sequence that a device reset runs. -/
def unitReset (u t3 t4 t5 : Nat) (d : Dev) : Dev :=
  let swapping : Bool := match d.img.patch, d.img.waits with
    | some p, _ => d.inSubtree u p.target
    | none, some (b, _, _) => d.inSubtree u (Image.target b)
    | none, none => false
  if u = rootId then d.deviceReset 3 t3 t4 t5
  else if d.inPatching u && !swapping then d
  else
    let d := if swapping then (patchResume d.abortPatch).finishDoomed else d
    let us := d.subtree u
    let d := us.reverse.foldl (fun (d : Dev) m => (d.resetKind m).resetHeader m) d
    let d := (d.resetSteps us).watchWindow
    { d with boot := { d.boot with resetting := d.boot.resetting.filter (fun x => x.1 ≠ u) ++ [(u, us)] } }

/-- UNIT_RESET. -/
def execUnitReset (u t3 t4 t5 : Nat) (s : State) : Host.Outcome State Fault Refusal := s.run (unitReset u t3 t4 t5)

/-- R33, R521, R574: the STATE of unit `u` after its reset. -/
def Dev.stateAfter (d : Dev) (u : Nat) : Nat :=
  if fixedKind u = 0x0A then (if d.on (mcUnit (u - mcId 0)) Mc.MC_STATUS_STATE then stActive else stReset)
  else if d.bareState then stReset
  else if ungoverned u || d.effEnable u then stActive
  else stReady

/-- R74, R576: the port of a MAC tile that leaves RESET brings its link up. -/
def Dev.startMac (d : Dev) (m : Nat) : Dev :=
  let l := m - macId 0
  if fixedKind m = 0x07 && d.isPort l && d.ust m ≠ stReset then d.setMf l Mac.PORT_STATUS_TRAIN_STATE (d.trainStart l) else d

/-- UNIT_RESET_DONE, R521: the reset of unit `u` completes. -/
def unitResetDone (u : Nat) (d : Dev) : Dev :=
  match d.boot.resetting.find? (fun x => x.1 = u) with
  | none => d
  | some (_, us) =>
    let d := { d with boot := { d.boot with resetting := d.boot.resetting.filter (fun x => x.1 ≠ u) } }
    us.foldl (fun (d : Dev) m => if d.ust m = stReset then (d.setUst m (d.stateAfter m)).startMac m else d) d

/-- UNIT_RESET_DONE. -/
def execUnitResetDone (u : Nat) (s : State) : Host.Outcome State Fault Refusal := s.run (unitResetDone u)

end Sys2Proof.Machine
end

