-- ==== Sys2Proof/Machine/Relay.lean ====
section
/-! DEFINITION. The relay domain: links, joining and repair, domain time, and the operations of a member (R488 to R502). -/

namespace Sys2Proof.Machine

/-! ### The constructed tree (R488) -/

/-- Constructed parent of member `m`. -/
def rlUp (m : Nat) : Nat := (m - 1) / 16

/-- Constructed level of member `m`. -/
def rlLevel (m : Nat) : Nat := if m = 0 then 0 else if m ≤ 16 then 1 else if m ≤ 272 then 2 else 3

/-- Constructed ancestors of member `m`, nearest first. -/
def rlAbove (m : Nat) : List Nat :=
  if m = 0 then []
  else if rlLevel m = 1 then [0]
  else if rlLevel m = 2 then [rlUp m, 0]
  else [rlUp m, rlUp (rlUp m), 0]

/-- Members of level 1. -/
def Dev.rlFirst (d : Dev) : List Nat := ((List.range 16).map (· + 1)).filter (fun m => m < d.relay.size)

/-! ### State -/

/-- Change the relay engine's state. -/
def Dev.setRl (d : Dev) (f : RelaySt → RelaySt) : Dev := { d with relay := f d.relay }

/-- R54: relay operations work. -/
def Dev.rlOn (d : Dev) : Bool := d.feature 5

/-- The link to member `m`. -/
def Dev.rlLink (d : Dev) (m : Nat) : Option RlLink := d.relay.links.find? (fun l => l.id = m)

/-- Change the link to member `m`. -/
def Dev.setLink (d : Dev) (m : Nat) (f : RlLink → RlLink) : Dev :=
  d.setRl (fun (r : RelaySt) => { r with links := r.links.map (fun (l : RlLink) => if l.id = m then f l else l) })

/-- Members attached to this one. -/
def Dev.rlKids (d : Dev) : List Nat := (d.relay.links.filter (fun (l : RlLink) => l.kind = 1)).map RlLink.id

/-- RELAY_TREE shows the parent and the children. -/
def Dev.syncRlTree (d : Dev) : Dev :=
  (d.s rootId Root.RELAY_TREE_PARENT (d.relay.parent.getD 0)).s rootId Root.RELAY_TREE_CHILDREN d.rlKids.length

/-- The link to member `m` goes. -/
def Dev.rlUnlink (d : Dev) (m : Nat) : Dev :=
  (d.setRl (fun (r : RelaySt) => { r with links := r.links.filter (fun (l : RlLink) => l.id ≠ m) })).syncRlTree

/-- R493: a link begins anew, having received up to LINK_SEQ `rx`. -/
def Dev.rlAttach (d : Dev) (m kind rx epoch : Nat) : Dev :=
  let l : RlLink :=
    { id := m, kind := kind, tx := 1, rx := rx, sent := [], epoch := epoch, count := 1, heard := none, asked := none }
  let d := d.rlUnlink m
  (d.setRl (fun (r : RelaySt) => { r with links := r.links ++ [l] })).syncRlTree

/-- R499: the epoch this member announces. -/
def Dev.rlEpoch (d : Dev) : Nat := min 2 (Image.epoch d.img.header)

/-- Members of this member's subtree, itself included. -/
def Dev.rlCount (d : Dev) : Nat :=
  d.relay.links.foldl (fun n (l : RlLink) => if l.kind = 1 then n + l.count else n) 1

/-- Lowest epoch announced in this member's subtree. -/
def Dev.rlLowest (d : Dev) : Nat :=
  d.relay.links.foldl (fun n (l : RlLink) => if l.kind = 1 then min n l.epoch else n) d.rlEpoch

/-- This member is the root, or acts as it. -/
def Dev.rlRoot (d : Dev) : Bool := d.rlState = 2 && d.relay.parent.isNone

/-! ### Domain time (R495) -/

/-- OFFSET as it stands: a change of at most 1 µs is made at 20 ns per 100 µs. -/
def Dev.rlOffset (d : Dev) : Int :=
  let step : Int := 20 * ((d.time - d.relay.goalAt) / 100000)
  let diff := d.relay.goal - d.relay.base
  if diff ≤ step ∧ -step ≤ diff then d.relay.goal else if 0 < diff then d.relay.base + step else d.relay.base - step

/-- Domain time at device time `t`. -/
def Dev.domainAt (d : Dev) (t : Nat) : Nat := ((t + d.rlOffset) % 2 ^ 64).toNat

/-- DOMAIN_NS. -/
def Dev.domainNs (d : Dev) : Nat := d.domainAt d.time

/-- OFFSET is to become `v`: at once if it differs by more than 1 µs or by the first exchange. -/
def Dev.setOffset (d : Dev) (v : Int) : Dev :=
  let now := d.rlOffset
  let jump : Bool := d.relay.first || decide (v - now > 1000) || decide (now - v > 1000)
  d.setRl (fun (r : RelaySt) => { r with base := if jump then v else now, goal := v, goalAt := d.time, first := false })

/-! ### Sending (R490, R493) -/

/-- R74: a relay frame leaves through the port of member `dst`, if it sends frames. -/
def Dev.rlOut (d : Dev) (dst typ seq opSeq opId : Nat) (payload : List Byte) : Dev :=
  let l := (d.rlPeer dst).2 % 16
  let ack := ((d.rlLink dst).map RlLink.rx).getD 0
  let bs := d.rlBytes dst typ seq ack opSeq opId d.domainNs payload
  let full := bs ++ fcsOf bs
  if !d.isPort l || !d.portSends l || d.twinState = 5 then d
  else (((d.lineOut l (.frame l full true 0)).bump Root.RELAY_TX).macAdd l Mac.TX_FRAMES_OK 1).macAdd l Mac.TX_BYTES_OK full.length

/-- A reliable frame to neighbour `dst`. -/
def Dev.rlSend (d : Dev) (dst typ opSeq opId : Nat) (payload : List Byte) : Dev :=
  match d.rlLink dst with
  | none => d
  | some l =>
    let x : RlSent := { seq := l.tx, typ := typ, opSeq := opSeq, opId := opId, payload := payload, tries := 0 }
    (d.setLink dst (fun (l : RlLink) => { l with tx := (l.tx + 1) % 2 ^ 32, sent := l.sent ++ [x] })).rlOut dst typ x.seq opSeq opId
      payload

/-- A reliable frame to every child. -/
def Dev.rlDown (d : Dev) (typ opSeq opId : Nat) (payload : List Byte) : Dev :=
  d.rlKids.foldl (fun (d : Dev) m => d.rlSend m typ opSeq opId payload) d

/-- A reliable frame to the parent. -/
def Dev.rlToParent (d : Dev) (typ opSeq opId : Nat) (payload : List Byte) : Dev :=
  match d.relay.parent with
  | some p => d.rlSend p typ opSeq opId payload
  | none => d

/-! ### Operations: completion at this member (R496, R497) -/

/-- R496, R502: an operation that this member started completes. -/
def Dev.rlComplete (d : Dev) (o : RlOp) (seq st result : Nat) : Dev :=
  match o.own with
  | none => d
  | some (pf, idx) => (d.admEnd pf idx st result).raise rootId 0x0B01 0 (seq + o.opId * 2 ^ 32 + st * 2 ^ 48)

/-- Operations that `p` names leave the list. -/
def Dev.rlForget (d : Dev) (p : RlOp → Bool) : Dev :=
  d.setRl (fun (r : RelaySt) => { r with ops := r.ops.filter (fun (o : RlOp) => !p o) })

/-- Change operations that `p` names. -/
def Dev.setOps (d : Dev) (p : RlOp → Bool) (f : RlOp → RlOp) : Dev :=
  d.setRl (fun (r : RelaySt) => { r with ops := r.ops.map (fun (o : RlOp) => if p o then f o else o) })

/-- Operations of a kind and OP_ID. -/
def rlIs (kind opId : Nat) (o : RlOp) : Bool := o.kind = kind && o.opId = opId

/-- R494: TREE_UPDATEs that waited for the operations in flight are sent. -/
def Dev.rlFlush (d : Dev) : Dev :=
  if !d.relay.ops.isEmpty then d
  else
    let us := d.relay.updates
    let d := d.setRl (fun (r : RelaySt) => { r with updates := [] })
    us.foldl (fun (d : Dev) (x : Nat × Nat) =>
      if x.1 = d.rlId then
        d.setRl (fun (r : RelaySt) => { r with
          join := [x.2], joinKind := 2, joinAt := d.time, heir := false, after := some x.2 })
      else d.rlSend x.1 0x06 0 0 (beBytes 2 x.2)) d

/-- R496: the operation completes with a count of members that took no part. -/
def rlStatus (missing : Nat) : Nat := if missing = 0 then Sc.ok else 0x1F

/-- R496: a barrier is released: `n` members had not entered. -/
def Dev.rlRelease (d : Dev) (opId seq n : Nat) : Dev :=
  let os := d.relay.ops.filter (fun (o : RlOp) => rlIs 1 opId o && o.entered)
  let d := (d.rlForget (rlIs 1 opId)).rlDown 0x11 seq opId (beBytes 2 n)
  (os.foldl (fun (d : Dev) o => d.rlComplete o seq (rlStatus n) n) d).rlFlush

/-- R496: the totals of a snapshot or reset reach this member, and its originator completes. -/
def Dev.rlTotals (d : Dev) (kind opId seq a b missing : Nat) : Dev :=
  let os := d.relay.ops.filter (rlIs kind opId)
  let res := if missing = 0 then a + b * 2 ^ 16 else missing
  let d := (d.rlForget (rlIs kind opId)).rlDown (if kind = 3 then 0x31 else 0x41) seq opId
    (beBytes 2 a ++ beBytes 2 b ++ beBytes 2 missing)
  (os.foldl (fun (d : Dev) o => d.rlComplete o seq (rlStatus missing) res) d).rlFlush

/-- R497: the next OP_SEQ. -/
def Dev.rlNext (d : Dev) : Dev × Nat :=
  let n := (d.relay.seq + 1) % 2 ^ 32
  (d.setRl (fun (r : RelaySt) => { r with seq := n }), n)

/-- R496: an operation whose own part and children's parts are all in goes up, or at the root completes. -/
def Dev.rlCheck (d : Dev) (kind opId : Nat) : Dev :=
  match d.relay.ops.find? (rlIs kind opId) with
  | none => d
  | some o =>
    if !o.entered || !o.waits.isEmpty || o.up then d
    else if d.rlRoot then
      if kind = 1 then
        let (d, n) := d.rlNext
        d.rlRelease opId n (o.a - d.rlCount)
      else d.rlTotals kind opId (o.seq.getD 0) o.a o.b (o.a + (if kind = 4 then o.b else 0) - d.rlCount)
    else
      let d := d.setOps (rlIs kind opId) (fun (o : RlOp) => { o with up := true })
      let typ := if kind = 1 then 0x10 else if kind = 3 then 0x31 else 0x41
      d.rlToParent typ (o.seq.getD 0) opId (beBytes 2 o.a ++ (if kind = 1 then [] else beBytes 2 o.b))

/-- Every operation is looked at again. -/
def Dev.rlCheckAll (d : Dev) : Dev := d.relay.ops.foldl (fun (d : Dev) o => d.rlCheck o.kind o.opId) d

/-- An operation not known at this member is noted, with its present children awaited. -/
def Dev.rlNote (d : Dev) (kind opId : Nat) (seq : Option Nat) : Dev :=
  if d.relay.ops.any (rlIs kind opId) then d.setOps (rlIs kind opId) (fun (o : RlOp) => { o with seq := seq, waits := d.rlKids })
  else
    let o : RlOp :=
      { kind := kind, opId := opId, seq := seq, own := none, arg := 0, payload := [], entered := false, up := false
        waits := d.rlKids, a := 0, b := 0 }
    d.setRl (fun (r : RelaySt) => { r with ops := r.ops ++ [o] })

/-- This member has taken part, adding to the counts. -/
def Dev.rlPart (d : Dev) (kind opId a b : Nat) : Dev :=
  (d.setOps (rlIs kind opId) (fun (o : RlOp) => { o with entered := true, a := o.a + a, b := o.b + b })).rlCheck kind opId

/-- R500: a broadcast is written to the receive ring. -/
def Dev.rlRing (d : Dev) (seq src opId : Nat) (payload : List Byte) : Dev :=
  let n := d.relay.slot
  let off := d.g rootId Root.RELAY_RX_BASE_ADDR - coreMemBase + 288 * n
  let d := if d.relay.unread.contains n then d.bump Root.BCAST_OVERWRITE else d
  let d := d.writeMem .core off (leBytes 8 seq ++ leBytes 8 (src + opId * 2 ^ 16 + payload.length * 2 ^ 32) ++
    leBytes 8 d.domainNs ++ leBytes 8 0 ++ payload)
  (d.setRl (fun (r : RelaySt) => { r with slot := (n + 1) % 64, unread := n :: r.unread.filter (· ≠ n) })).raise rootId
    0x0B07 0 n

/-- R496: a broadcast reaches this member, goes on, and completes at its originator. -/
def Dev.rlBcast (d : Dev) (seq src opId : Nat) (payload : List Byte) : Dev :=
  let d := (d.rlRing seq src opId payload).rlDown 0x21 seq opId payload
  let os := d.relay.ops.filter (rlIs 2 opId)
  (os.foldl (fun (d : Dev) o => d.rlComplete o seq Sc.ok 0) (d.rlForget (rlIs 2 opId))).rlFlush

/-- SNAP_LATCH, R496, R501: the snapshot registers are latched in one step. -/
def Dev.rlLatch (d : Dev) (seq at_ : Nat) (late : Bool) : Dev :=
  let l := if late then 1 else 0
  let d := ((d.s rootId Root.SNAP_INFO_OP_SEQ seq).s rootId Root.SNAP_INFO_VALID 1).s rootId Root.SNAP_INFO_LATE l
  let d := ((d.s rootId Root.SNAP_TIME_DOMAIN_NS at_).s rootId Root.SNAP_EVT_SEQ_SEQ (d.g rootId Root.EVT_SEQ_NEXT)).s rootId
    Root.SNAP_TREE_GEN_GEN (d.g rootId Root.ROOT_TREE_GEN_GEN)
  let d := d.s rootId Root.SNAP_FREE_CELLS_CELLS d.freeCells
  let d := (List.range 16).foldl (fun (d : Dev) p =>
    let on := d.isPort p
    (d.s rootId (Root.SNAP_RX p) (if on then d.mf p Mac.RX_FRAMES_OK else 0)).s rootId (Root.SNAP_TX p)
      (if on then d.mf p Mac.TX_FRAMES_OK else 0)) d
  let d := d.raise rootId 0x0B05 0 (seq + l * 2 ^ 32)
  let opId := ((d.relay.ops.find? (fun (o : RlOp) => o.kind = 3 && o.seq = some seq)).map RlOp.opId).getD 0
  d.rlPart 3 opId 1 l

/-- R496: a marker with instant `i` reaches this member. -/
def Dev.rlMarker (d : Dev) (seq opId i : Nat) : Dev :=
  let d := (d.rlNote 3 opId (some seq)).rlDown 0x30 seq opId (beBytes 8 i)
  if i < d.domainNs then d.rlLatch seq d.domainNs true
  else d.setRl (fun (r : RelaySt) => { r with snaps := r.snaps ++ [(seq, i)] })

/-- R496: this member's RELAY_CFG allows a reset kind. -/
def Dev.rlAllows (d : Dev) (kind : Nat) : Bool :=
  if kind = 1 then d.on rootId Root.RELAY_CFG_RESET1_OK else kind = 2 && d.on rootId Root.RELAY_CFG_RESET2_OK

/-- R496: a reset order with instant `i` reaches this member. -/
def Dev.rlOrder (d : Dev) (seq opId i kind : Nat) : Dev :=
  let d := (d.rlNote 4 opId (some seq)).rlDown 0x40 seq opId (beBytes 8 i ++ beBytes 1 kind)
  let d := d.raise rootId 0x0B06 0 (kind + i % 2 ^ 56 * 2 ^ 8)
  let d := d.setRl (fun (r : RelaySt) => { r with resets := r.resets ++ [(seq, i, kind)] })
  let ok := d.rlAllows kind
  d.rlPart 4 opId (if ok then 1 else 0) (if ok then 0 else 1)

/-- R488: depth of the tree. -/
def Dev.rlDepth (d : Dev) : Nat := rlLevel (d.relay.size - 1)

/-- R496, R497, R499: epoch an operation needs. -/
def rlNeeds (kind len : Nat) : Nat := if kind = 3 || (kind = 2 && decide (64 < len)) then 2 else 1

/-- R496, R497: the root gives an operation its OP_SEQ, and it starts; one whose epoch is above the domain's completes with
RELAY_EPOCH. -/
def Dev.rlAssign (d : Dev) (kind opId src arg : Nat) (payload : List Byte) : Dev :=
  let os := d.relay.ops.filter (rlIs kind opId)
  if d.g rootId Root.RELAY_STATUS_EPOCH < rlNeeds kind payload.length then
    (os.foldl (fun (d : Dev) o => d.rlComplete o 0 0x1E 0) (d.rlForget (rlIs kind opId))).rlFlush
  else
    let (d, n) := d.rlNext
    let h := d.g rootId Root.RELAY_HOP_HOP_NS
    let now := d.domainNs
    if kind = 2 then d.rlBcast n src opId payload
    else if kind = 3 then d.rlMarker n opId (now + d.rlDepth * h + 500)
    else d.rlOrder n opId (now + (2 * d.rlDepth + 2) * h) arg

/-- R497: the request of an operation of this member: to the root, or at the root assigned. -/
def Dev.rlRequest (d : Dev) (o : RlOp) : Dev :=
  if d.rlRoot then d.rlAssign o.kind o.opId d.rlId o.arg o.payload
  else if o.kind = 2 then d.rlToParent 0x20 0 o.opId o.payload
  else if o.kind = 3 then d.rlToParent 0x31 0 o.opId (beBytes 4 0)
  else d.rlToParent 0x41 0 o.opId (beBytes 8 0 ++ beBytes 1 o.arg)

/-! ### Epochs and counts at the root (R494, R499) -/

/-- R497, R499: the domain epoch is `e` from now on: operations of this member without an OP_SEQ that need more end. -/
def Dev.rlSetEpoch (d : Dev) (e : Nat) : Dev :=
  let late := fun (o : RlOp) => o.own.isSome && o.kind ≠ 1 && o.seq.isNone && decide (e < rlNeeds o.kind o.payload.length)
  let os := d.relay.ops.filter late
  let d := (d.s rootId Root.RELAY_STATUS_EPOCH e).raise rootId 0x0B04 0 e
  let d := (os.foldl (fun (d : Dev) o => d.rlComplete o 0 0x1E 0) (d.rlForget late)).rlFlush
  d.rlDown 0x50 0 0 (beBytes 1 e)

/-- The root's LIVE and the domain epoch follow its subtree. -/
def Dev.rlRefresh (d : Dev) : Dev :=
  if !d.rlRoot then d
  else
    let d := d.s rootId Root.RELAY_STATUS_LIVE d.rlCount
    let e := d.rlLowest
    if e = d.g rootId Root.RELAY_STATUS_EPOCH then d else d.rlSetEpoch e

/-! ### Joining, loss and repair (R494) -/

/-- The engine leaves the domain: state OUT. Operations of its own that were in flight end with RELAY_LOST. -/
def Dev.rlLeaveDomain (d : Dev) : Dev :=
  let os := d.relay.ops
  let d := os.foldl (fun (d : Dev) o => d.rlComplete o (o.seq.getD 0) 0x1F 0) d
  let d := d.setRl (fun (r : RelaySt) => { RelaySt.init with slot := r.slot, unread := r.unread })
  let d := [Root.RELAY_STATUS_STATE, Root.RELAY_STATUS_LEVEL, Root.RELAY_STATUS_EPOCH, Root.RELAY_STATUS_MEMBER_ID,
    Root.RELAY_STATUS_DOMAIN_ID, Root.RELAY_STATUS_LIVE, Root.RELAY_STATUS_ACTING_ROOT].foldl
      (fun (d : Dev) f => d.s rootId f 0) d
  d.syncRlTree

/-- The command that waits ends. -/
def Dev.rlCmdEnd (d : Dev) (st result : Nat) : Dev :=
  match d.relay.cmd with
  | none => d
  | some (pf, idx) => (d.setRl (fun (r : RelaySt) => { r with cmd := none })).admEnd pf idx st result

/-- R494, R499: JOIN goes to the first member still to be asked, with the epoch this member announces. -/
def Dev.rlAsk (d : Dev) : Dev :=
  match d.relay.join with
  | [] => d
  | m :: _ =>
    let d := (d.rlAttach m 0 0 0).setRl (fun (r : RelaySt) => { r with after := none })
    d.rlSend m 0x01 0 0 (beBytes 1 d.rlEpoch)

/-- R494: this member becomes the root, or the acting root. -/
def Dev.rlReign (d : Dev) : Dev :=
  let d := d.setRl (fun (r : RelaySt) => { r with
    join := [], joinKind := 0, parent := none, base := 0, goal := 0, first := false, after := none })
  let d := ((d.s rootId Root.RELAY_STATUS_STATE 2).s rootId Root.RELAY_STATUS_LEVEL 0).s rootId Root.RELAY_STATUS_ACTING_ROOT
    (if d.rlId = 0 then 0 else 1)
  let d := if d.on rootId Root.RELAY_STATUS_EPOCH then d else d.s rootId Root.RELAY_STATUS_EPOCH d.rlLowest
  let d := (d.syncRlTree.rlCmdEnd Sc.ok 0).rlRefresh
  let own := d.relay.ops.filter (fun (o : RlOp) => o.own.isSome && o.kind ≠ 1 && o.seq.isNone)
  let d := own.foldl (fun (d : Dev) o => d.rlRequest o) (d.setOps (fun _ => true) (fun (o : RlOp) => { o with up := false }))
  d.rlCheckAll

/-- An attempt to attach begins. -/
def Dev.rlSeek (d : Dev) (kind : Nat) (ms : List Nat) (heir : Bool) : Dev :=
  let d := d.setRl (fun (r : RelaySt) => { r with join := ms, joinKind := kind, joinAt := d.time, heir := heir })
  if ms.isEmpty then d.rlReign else d.rlAsk

/-- The member asked did not take this one: the next ancestor is asked; the last one is asked again. -/
def Dev.rlNextAsk (d : Dev) : Dev :=
  match d.relay.join with
  | [] => d
  | m :: rest =>
    let d := if d.relay.parent = some m then d else d.rlUnlink m
    if rest.isEmpty && !d.relay.heir then d.rlAsk
    else
      let d := d.setRl (fun (r : RelaySt) => { r with join := rest })
      if rest.isEmpty then d.rlReign else d.rlAsk

/-- R494: the members asked when the parent `p` is lost: ancestors above it; for level 1, whose root is lost, the level-1 members of
lower MEMBER_ID, of which the lowest present acts as root. -/
def Dev.rlReattach (d : Dev) (p : Nat) : Dev :=
  let m := d.rlId
  if rlLevel m = 1 then d.rlSeek 2 (d.rlFirst.filter (fun x => x < m)) true
  else
    let up := (rlAbove m).filter (fun x => x < p)
    d.rlSeek 2 (if up.isEmpty then rlAbove m else up) false

/-- R494, R497: child `m` has gone: its subtree counts as having taken part. -/
def Dev.rlDropKid (d : Dev) (m : Nat) : Dev :=
  let n := ((d.rlLink m).map RlLink.count).getD 0
  let d := d.rlUnlink m
  let d := d.setOps (fun (o : RlOp) => o.waits.contains m) (fun (o : RlOp) => { o with
    waits := o.waits.filter (· ≠ m), a := o.a + n })
  let d := d.setRl (fun (r : RelaySt) => { r with updates := r.updates.filter (fun x => x.1 ≠ m) })
  d.rlCheckAll.rlRefresh.rlFlush

/-- R494: neighbour `m` is lost. A member that is only being asked, or was refused, is no neighbour yet. -/
def Dev.rlLost (d : Dev) (m : Nat) : Dev :=
  match d.rlLink m with
  | none => d
  | some l =>
    let gone := fun (d : Dev) => (d.bump Root.LOST_NEIGHBOURS).raise rootId 0x0B02 0 m
    if l.kind = 1 then (gone d).rlDropKid m
    else if d.relay.parent = some m then
      let d := (gone d).rlUnlink m
      if d.rlState = 3 then (d.rlCmdEnd Sc.ok 0).rlLeaveDomain
      else (d.setRl (fun (r : RelaySt) => { r with parent := none })).syncRlTree.rlReattach m
    else if l.kind = 2 then d.rlUnlink m
    else d.setLink m (fun (l : RlLink) => { l with sent := [] })

/-- R494: this member is attached to `p` under domain epoch `e`. -/
def Dev.rlJoined (d : Dev) (p e : Nat) : Dev :=
  let kind := d.relay.joinKind
  let old := d.relay.parent
  let level := min (rlLevel p + 1) (max 1 (rlLevel d.rlId))
  let d := match old with
    | some x => if x = p then d else d.rlUnlink x
    | none => d
  let d := d.setRl (fun (r : RelaySt) => { r with
    join := [], joinKind := 0, parent := some p, first := r.first || kind = 1 })
  let d := (((d.s rootId Root.RELAY_STATUS_STATE 2).s rootId Root.RELAY_STATUS_LEVEL level).s rootId
    Root.RELAY_STATUS_ACTING_ROOT 0).s rootId Root.RELAY_STATUS_EPOCH e
  let d := d.syncRlTree
  if kind = 1 then d.rlCmdEnd Sc.ok level
  else
    let d := d.raise rootId 0x0B03 0 p
    let own := d.relay.ops.filter (fun (o : RlOp) => o.own.isSome && o.kind ≠ 1 && o.seq.isNone)
    let d := own.foldl (fun (d : Dev) o => d.rlRequest o) (d.setOps (fun _ => true) (fun (o : RlOp) => { o with up := false }))
    d.rlCheckAll

/-! ### The admin commands (R489, R494, R500) -/

/-- R489: reserved bits of the peer table are 0, and the entries of constructed ancestors and children, and of level 1 where it may
elect a root, name ports that are present. -/
def Dev.rlTableOk (d : Dev) (m n : Nat) (ps : List (Nat × Nat)) : Bool :=
  let kids := ((List.range 16).map (fun i => 16 * m + 1 + i)).filter (fun k => k < n)
  let peers := if m ≤ 16 then ((List.range 17).filter (fun k => k < n && k ≠ m)) else []
  decide (ps.all (fun p => p.1 / 2 ^ 61 = 0 ∧ p.2 / 2 ^ 7 = 0)) &&
    (rlAbove m ++ kids ++ peers).all (fun k => d.lpPresent ((ps.getD k (0, 0)).2 % 16))

/-- RELAY_JOIN, R489, R494, R499. -/
def relayJoin (pf idx : Nat) (data : Option (List Byte)) (d : Dev) : Dev :=
  d.admIn pf idx 0x0801 data (fun c bs d =>
    let dom := c.arg % 2 ^ 16
    let m := c.arg / 2 ^ 16 % 2 ^ 12
    let n := c.arg / 2 ^ 32 % 2 ^ 13
    let ps := (List.range n).map (fun i => (leNat (sliceBytes bs (16 * i) 8), leNat (sliceBytes bs (16 * i + 8) 8)))
    if !d.rlOn then d.admEnd pf idx Sc.malformed 0
    else if d.rlState ≠ 0 then d.admEnd pf idx 0x1D 0
    else if d.rlEpoch = 0 || n = 0 || 4096 < n || n ≤ m || c.len ≠ 16 * n || !d.rlTableOk m n ps then
      d.admEnd pf idx Sc.malformed 0
    else
      let d := d.setRl (fun (r : RelaySt) => { RelaySt.init with
        peers := ps, size := n, cmd := some (pf, idx), slot := r.slot, unread := r.unread })
      let d := ((d.s rootId Root.RELAY_STATUS_STATE 1).s rootId Root.RELAY_STATUS_MEMBER_ID m).s rootId
        Root.RELAY_STATUS_DOMAIN_ID dom
      if m = 0 then d.rlSeek 1 d.rlFirst true else d.rlSeek 1 (rlAbove m) false)

/-- RELAY_JOIN. -/
def execRelayJoin (pf idx : Nat) (data : Option (List Byte)) (s : State) : Host.Outcome State Fault Refusal :=
  s.run (relayJoin pf idx data)

/-- The LEAVE and what it told the children have been acknowledged: state OUT. -/
def Dev.rlLeft (d : Dev) : Dev :=
  if d.rlState = 3 && d.relay.links.all (fun (l : RlLink) => l.sent.isEmpty) then (d.rlCmdEnd Sc.ok 0).rlLeaveDomain else d

/-- RELAY_LEAVE, R494: LEAVE goes to the parent, and the children are told where to attach: to the parent, or to the first of them
where the root leaves. -/
def relayLeave (pf idx : Nat) (d : Dev) : Dev :=
  d.admRun pf idx 0x0802 (fun _ d =>
    if !d.rlOn then d.admEnd pf idx Sc.malformed 0
    else if d.rlState ≠ 2 then d.admEnd pf idx 0x1D 0
    else
      let heir := d.relay.parent.getD (d.rlKids.foldl min 4096)
      let d := (d.rlDown 0x06 0 0 (beBytes 2 heir)).rlToParent 0x05 0 0 []
      let d := (d.setRl (fun (r : RelaySt) => { r with cmd := some (pf, idx), join := [], joinKind := 0 })).s rootId
        Root.RELAY_STATUS_STATE 3
      d.rlLeft)

/-- RELAY_LEAVE. -/
def execRelayLeave (pf idx : Nat) (s : State) : Host.Outcome State Fault Refusal := s.run (relayLeave pf idx)

/-- R496, R497, R500: RELAY_OP of kind `kind` starts. A command of no listed kind is MALFORMED. -/
def Dev.rlOp (d : Dev) (pf idx kind : Nat) (data : Option (List Byte)) (f : RlOp → Dev → Dev) : Dev :=
  match d.admin.find? (fun c => c.pf = pf && c.idx = idx) with
  | none => d
  | some c =>
    let k := c.arg % 16
    let bad : Bool := !(decide (1 ≤ k) && decide (k ≤ 4))
    if k ≠ kind && !(bad && kind = 1) then d
    else d.admRun pf idx 0x0803 (fun c d =>
      let rk := c.arg / 2 ^ 32 % 16
      let own := (d.relay.ops.filter (fun (o : RlOp) => o.own.isSome)).length
      if !d.rlOn || bad || (if kind = 2 then decide (256 < c.len) else c.len ≠ 0) || (kind = 4 && !(rk = 1 || rk = 2)) then
        d.admEnd pf idx Sc.malformed 0
      else if d.rlState ≠ 2 then d.admEnd pf idx 0x1D 0
      else if kind = 2 && c.len ≠ 0 && data.isNone then d.admEnd pf idx Sc.busError 0
      else if 16 ≤ own then d.admEnd pf idx Sc.noResource 0
      else if d.relay.ops.any (fun (o : RlOp) => rlIs kind (c.arg / 2 ^ 16 % 2 ^ 16) o && o.own.isSome) then
        d.admEnd pf idx 0x1D 0
      else
        f { kind := kind, opId := c.arg / 2 ^ 16 % 2 ^ 16, seq := none, own := some (pf, idx)
            arg := if kind = 1 then c.arg / 2 ^ 48 else rk, payload := sliceBytes (data.getD []) 0 c.len, entered := false
            up := false, waits := d.rlKids, a := 0, b := 0 } d)

/-- BARRIER, R496: the member enters a barrier that its children may have entered already. -/
def barrier (pf idx : Nat) (d : Dev) : Dev :=
  d.rlOp pf idx 1 none (fun o d =>
    let d := if d.relay.ops.any (rlIs 1 o.opId) then
        d.setOps (rlIs 1 o.opId) (fun (x : RlOp) => { x with own := o.own, arg := o.arg })
      else d.setRl (fun (r : RelaySt) => { r with ops := r.ops ++ [o] })
    d.rlPart 1 o.opId 1 0)

/-- BARRIER. -/
def execBarrier (pf idx : Nat) (s : State) : Host.Outcome State Fault Refusal := s.run (barrier pf idx)

/-- R496, R499: an operation of this member asks the root to start, if the domain epoch allows it. -/
def Dev.rlStart (d : Dev) (o : RlOp) : Dev :=
  if d.g rootId Root.RELAY_STATUS_EPOCH < rlNeeds o.kind o.payload.length then d.rlComplete o 0 0x1E 0
  else (d.setRl (fun (r : RelaySt) => { r with ops := r.ops ++ [o] })).rlRequest o

/-- BROADCAST. -/
def execBroadcast (pf idx : Nat) (data : Option (List Byte)) (s : State) : Host.Outcome State Fault Refusal :=
  s.run (fun d => d.rlOp pf idx 2 data (fun o d => d.rlStart o))

/-- SNAPSHOT. -/
def execSnapshot (pf idx : Nat) (s : State) : Host.Outcome State Fault Refusal :=
  s.run (fun d => d.rlOp pf idx 3 none (fun o d => d.rlStart o))

/-- DOMAIN_RESET. -/
def execDomainReset (pf idx : Nat) (s : State) : Host.Outcome State Fault Refusal :=
  s.run (fun d => d.rlOp pf idx 4 none (fun o d => d.rlStart o))

/-! ### Frames received (R490 to R493) -/

/-- R493: frames up to LINK_SEQ `ack` are acknowledged by neighbour `m`. A child that has acknowledged a TREE_UPDATE leaves. -/
def Dev.rlAcked (d : Dev) (m ack : Nat) : Dev :=
  match d.rlLink m with
  | none => d
  | some l =>
    let done := l.sent.filter (fun (x : RlSent) => decide (x.seq ≤ ack))
    let d := d.setLink m (fun (l : RlLink) => { l with sent := l.sent.filter (fun (x : RlSent) => decide (ack < x.seq)) })
    let d := if l.kind = 1 && done.any (fun (x : RlSent) => x.typ = 0x06) && d.rlState ≠ 3 then d.rlDropKid m else d
    let d := if l.kind = 2 && l.sent.length = done.length then d.rlUnlink m else d
    let d := if d.relay.after = some m && !done.isEmpty then d.rlAsk else d
    d.rlLeft

/-- The oldest frame taken, if its type is `typ`: its LINK_ACK is noted, and the frame leaves. -/
def Dev.rlPop (d : Dev) (typ : Nat) : Option (RlFrame × Dev) :=
  match d.relay.rx with
  | [] => none
  | x :: rest =>
    if x.typ ≠ typ then none
    else some (x, (d.setRl (fun (r : RelaySt) => { r with rx := rest })).rlAcked x.src x.ack)

/-- LINK_ACK goes to neighbour `m`. -/
def Dev.rlAckTo (d : Dev) (m : Nat) : Dev := d.rlOut m 0x04 0 0 0 []

/-- R493: the oldest frame taken, of reliable type `typ`: applied when it is next in order, else dropped; answered by LINK_ACK. -/
def Dev.rlIn (d : Dev) (typ : Nat) (f : RlFrame → Dev → Dev) : Dev :=
  match d.rlPop typ with
  | none => d
  | some (x, d) =>
    match d.rlLink x.src with
    | none => d.bump Root.RELAY_DUP_DROP
    | some l =>
      if x.seq ≠ (l.rx + 1) % 2 ^ 32 then (d.bump Root.RELAY_DUP_DROP).rlAckTo x.src
      else
        let d := (d.setLink x.src (fun (l : RlLink) => { l with rx := x.seq })).rlAckTo x.src
        f x d

/-- R497: a down frame of an operation is applied in OP_SEQ order. -/
def Dev.rlDownSeq (d : Dev) (x : RlFrame) : Dev := d.setRl (fun (r : RelaySt) => { r with seq := max r.seq x.opSeq })

/-- A big-endian number of the payload. -/
def RlFrame.num (x : RlFrame) (o n : Nat) : Nat := beNat (sliceBytes x.payload o n)

/-- R494: a JOIN of member `j` is accepted: it is a child, and members that belong to it are told. -/
def Dev.rlAccept (d : Dev) (x : RlFrame) : Dev :=
  let j := x.src
  let acting := d.on rootId Root.RELAY_STATUS_ACTING_ROOT
  let d := (d.rlAttach j 1 x.seq (x.num 0 1)).rlAckTo j
  let d := d.rlSend j 0x02 0 0 (beBytes 1 (d.g rootId Root.RELAY_STATUS_EPOCH) ++ beBytes 1 0)
  let moved := if j = 0 && acting then
      d.rlKids.map (fun m => (m, 0)) ++ [(d.rlId, 0)]
    else (d.rlKids.filter (fun m => m ≠ j && m ≠ 0 && rlUp m = j)).map (fun m => (m, j))
  let d := d.setRl (fun (r : RelaySt) => { r with updates := r.updates ++ moved })
  d.rlRefresh.rlFlush

/-- JOIN, R494: taken while this member is JOINED; refused beyond 64 children, never by the root. Member 0 is taken by the acting root
only. -/
def join (d : Dev) : Dev :=
  match d.rlPop 0x01 with
  | none => d
  | some (x, d) =>
    let dup : Bool := match d.rlLink x.src with
      | some l => l.kind = 1 && l.rx = x.seq
      | none => false
    if d.rlState ≠ 2 then d
    else if dup then (d.bump Root.RELAY_DUP_DROP).rlAckTo x.src
    else
      let d := if d.relay.parent = some x.src then d.rlLost x.src else d
      let d := if d.rlKids.contains x.src then d.rlDropKid x.src else d
      if x.src = 0 && !d.on rootId Root.RELAY_STATUS_ACTING_ROOT then d
      else
      let kids := (d.rlKids.filter (· ≠ x.src)).length
      if kids < 64 || d.rlRoot then d.rlAccept x
      else
        let d := (d.rlAttach x.src 2 x.seq 0).rlAckTo x.src
        d.rlSend x.src 0x02 0 0 (beBytes 1 (d.g rootId Root.RELAY_STATUS_EPOCH) ++ beBytes 1 1)

/-- JOIN. -/
def execJoin (s : State) : Host.Outcome State Fault Refusal := s.run join

/-- JOIN_ACK, R494. -/
def joinAck (d : Dev) : Dev :=
  d.rlIn 0x02 (fun x d =>
    if d.relay.join.head? ≠ some x.src then d
    else if x.num 1 1 = 1 then d.rlNextAsk
    else d.rlJoined x.src (x.num 0 1))

/-- JOIN_ACK. -/
def execJoinAck (s : State) : Host.Outcome State Fault Refusal := s.run joinAck

/-- KEEPALIVE, R494, R495, R499: a child's brings the counts of its subtree; the parent's the domain epoch, LIVE and the exchange of
times, the arrival of this member's last one in payload bytes 4 to 11 (assumption 80). -/
def keepalive (d : Dev) : Dev :=
  match d.rlPop 0x03 with
  | none => d
  | some (x, d) =>
    match d.rlLink x.src with
    | none => d
    | some l =>
      if l.kind = 1 then
        (d.setLink x.src (fun (l : RlLink) => { l with
          epoch := x.num 0 1, count := x.num 2 2, heard := some (d.domainAt x.at_) })).rlRefresh
      else if d.relay.parent ≠ some x.src then d
      else
        let d := (d.s rootId Root.RELAY_STATUS_EPOCH (x.num 0 1)).s rootId Root.RELAY_STATUS_LIVE (x.num 2 2)
        let t2 := x.num 4 8
        match l.asked with
        | none => d
        | some t1 =>
          if t2 = 0 then d
          else
            let o : Int := (((t2 : Int) - t1) + ((x.sent : Int) - x.at_)) / 2
            (d.setLink x.src (fun (l : RlLink) => { l with asked := none })).setOffset o

/-- KEEPALIVE. -/
def execKeepalive (s : State) : Host.Outcome State Fault Refusal := s.run keepalive

/-- LINK_ACK, R493. -/
def linkAck (d : Dev) : Dev :=
  match d.rlPop 0x04 with
  | none => d
  | some (_, d) => d

/-- LINK_ACK. -/
def execLinkAck (s : State) : Host.Outcome State Fault Refusal := s.run linkAck

/-- LEAVE, R494: the child's subtree is dropped. -/
def execLeave (s : State) : Host.Outcome State Fault Refusal :=
  s.run (fun d => d.rlIn 0x05 (fun x d => if d.rlKids.contains x.src then d.rlDropKid x.src else d))

/-- TREE_UPDATE, R494: this member re-attaches to the member named; the one that names itself becomes the root. -/
def treeUpdate (d : Dev) : Dev :=
  d.rlIn 0x06 (fun x d =>
    let heir := x.num 0 2 % 4096
    if d.relay.parent ≠ some x.src then d
    else if heir = d.rlId then (d.rlUnlink x.src).rlReign
    else d.rlSeek 2 (heir :: (rlAbove d.rlId).filter (fun m => m < heir)) false)

/-- TREE_UPDATE. -/
def execTreeUpdate (s : State) : Host.Outcome State Fault Refusal := s.run treeUpdate

/-- R496: a child's counts join an operation. -/
def Dev.rlChildPart (d : Dev) (kind : Nat) (x : RlFrame) (a b : Nat) : Dev :=
  let mine := fun (o : RlOp) => rlIs kind x.opId o && o.waits.contains x.src
  (d.setOps mine (fun (o : RlOp) => { o with waits := o.waits.filter (· ≠ x.src), a := o.a + a, b := o.b + b })).rlCheck kind
    x.opId

/-- BARRIER_ENTER, R496. -/
def barrierEnter (d : Dev) : Dev :=
  d.rlIn 0x10 (fun x d =>
    let d := if d.relay.ops.any (rlIs 1 x.opId) then d else d.rlNote 1 x.opId none
    d.rlChildPart 1 x (x.num 0 2) 0)

/-- BARRIER_ENTER. -/
def execBarrierEnter (s : State) : Host.Outcome State Fault Refusal := s.run barrierEnter

/-- BARRIER_RELEASE, R496. -/
def execBarrierRelease (s : State) : Host.Outcome State Fault Refusal :=
  s.run (fun d => d.rlIn 0x11 (fun x d => (d.rlDownSeq x).rlRelease x.opId x.opSeq (x.num 0 2)))

/-- BCAST_UP, R496: towards the root, which starts it. -/
def execBcastUp (s : State) : Host.Outcome State Fault Refusal :=
  s.run (fun d => d.rlIn 0x20 (fun x d =>
    if d.rlRoot then d.rlAssign 2 x.opId x.src 0 x.payload else d.rlToParent 0x20 0 x.opId x.payload))

/-- BCAST_DOWN, R496, R500. -/
def execBcastDown (s : State) : Host.Outcome State Fault Refusal :=
  s.run (fun d => d.rlIn 0x21 (fun x d => (d.rlDownSeq x).rlBcast x.opSeq x.src x.opId x.payload))

/-- SNAP_MARKER, R496. -/
def execSnapMarker (s : State) : Host.Outcome State Fault Refusal :=
  s.run (fun d => d.rlIn 0x30 (fun x d => (d.rlDownSeq x).rlMarker x.opSeq x.opId (x.num 0 8)))

/-- R496, R497: an up frame of kind 3 or 4: a request (OP_SEQ 0) for the root, or a child's counts; from the parent, the totals
(assumption 81). -/
def Dev.rlUpIn (d : Dev) (kind : Nat) (x : RlFrame) : Dev :=
  if d.relay.parent = some x.src then d.rlTotals kind x.opId x.opSeq (x.num 0 2) (x.num 2 2) (x.num 4 2)
  else if x.opSeq = 0 then
    if d.rlRoot then d.rlAssign kind x.opId x.src (x.num 8 1) []
    else d.rlToParent x.typ 0 x.opId x.payload
  else d.rlChildPart kind x (x.num 0 2) (x.num 2 2)

/-- SNAP_DONE, R496. -/
def execSnapDone (s : State) : Host.Outcome State Fault Refusal := s.run (fun d => d.rlIn 0x31 (fun x d => d.rlUpIn 3 x))

/-- RESET_ORDER, R496. -/
def execResetOrder (s : State) : Host.Outcome State Fault Refusal :=
  s.run (fun d => d.rlIn 0x40 (fun x d => (d.rlDownSeq x).rlOrder x.opSeq x.opId (x.num 0 8) (x.num 8 1)))

/-- RESET_ACK, R496. -/
def execResetAck (s : State) : Host.Outcome State Fault Refusal := s.run (fun d => d.rlIn 0x41 (fun x d => d.rlUpIn 4 x))

/-- EPOCH_SET, R499. -/
def execEpochSet (s : State) : Host.Outcome State Fault Refusal :=
  s.run (fun d => d.rlIn 0x50 (fun x d => d.rlSetEpoch (x.num 0 1)))

/-! ### Instants and timers (R493, R494, R496) -/

/-- SNAP_LATCH, R496: domain time has reached the instant of the oldest armed snapshot. -/
def snapLatch (d : Dev) : Dev :=
  match d.relay.snaps with
  | [] => d
  | (seq, i) :: rest => (d.setRl (fun (r : RelaySt) => { r with snaps := rest })).rlLatch seq i false

/-- SNAP_LATCH. -/
def execSnapLatch (s : State) : Host.Outcome State Fault Refusal := s.run snapLatch

/-- DOMAIN_RESET_APPLY, R496: domain time has reached the instant of the oldest armed reset. Kind 1 resets every top-level engine hitch,
kind 2 the device, with the times of its boot. -/
def domainResetApply (t3 t4 t5 : Nat) (d : Dev) : Dev :=
  match d.relay.resets with
  | [] => d
  | (_, _, kind) :: rest =>
    let d := d.setRl (fun (r : RelaySt) => { r with resets := rest })
    if !d.rlAllows kind then d
    else if kind = 2 then d.deviceReset 4 t3 t4 t5
    else (topEngines d.hitches).foldl (fun (d : Dev) u => unitReset u 0 0 0 d) d

/-- DOMAIN_RESET_APPLY. -/
def execDomainResetApply (t3 t4 t5 : Nat) (s : State) : Host.Outcome State Fault Refusal := s.run (domainResetApply t3 t4 t5)

/-- RELAY_RETRANSMIT, R493: no acknowledgement from neighbour `m` within 4 × HOP_NS: every frame is sent again; after three
retransmissions of one frame the neighbour is lost. -/
def relayRetransmit (m : Nat) (d : Dev) : Dev :=
  match d.rlLink m with
  | none => d
  | some l =>
    if l.sent.any (fun (x : RlSent) => decide (3 ≤ x.tries)) then d.rlLost m
    else
      let d := d.setLink m (fun (l : RlLink) => { l with
        sent := l.sent.map (fun (x : RlSent) => { x with tries := x.tries + 1 }) })
      l.sent.foldl (fun (d : Dev) (x : RlSent) =>
        (d.bump Root.RELAY_RETX).rlOut m x.typ x.seq x.opSeq x.opId x.payload) d

/-- RELAY_RETRANSMIT. -/
def execRelayRetransmit (m : Nat) (s : State) : Host.Outcome State Fault Refusal := s.run (relayRetransmit m)

/-- KEEPALIVE_SEND, R494, R495: every KA_US. -/
def keepaliveSend (d : Dev) : Dev :=
  if d.rlState ≠ 2 then d
  else
    let d := match d.relay.parent with
      | some p =>
        let pay := beBytes 1 d.rlLowest ++ beBytes 1 0 ++ beBytes 2 d.rlCount
        (d.rlOut p 0x03 0 0 0 pay).setLink p (fun (l : RlLink) => { l with asked := some d.time })
      | none => d
    d.rlKids.foldl (fun (d : Dev) m =>
      let t2 := ((d.rlLink m).bind RlLink.heard).getD 0
      let pay := beBytes 1 (d.g rootId Root.RELAY_STATUS_EPOCH) ++ beBytes 1 0 ++
        beBytes 2 (d.g rootId Root.RELAY_STATUS_LIVE) ++ beBytes 8 t2
      (d.rlOut m 0x03 0 0 0 pay).setLink m (fun (l : RlLink) => { l with heard := none })) d

/-- KEEPALIVE_SEND. -/
def execKeepaliveSend (s : State) : Host.Outcome State Fault Refusal := s.run keepaliveSend

/-- NEIGHBOUR_LOST, R494: no frame from neighbour `m` for 5 × KA_US. -/
def neighbourLost (m : Nat) (d : Dev) : Dev := if d.rlState = 2 || d.rlState = 3 then d.rlLost m else d

/-- NEIGHBOUR_LOST. -/
def execNeighbourLost (m : Nat) (s : State) : Host.Outcome State Fault Refusal := s.run (neighbourLost m)

/-- JOIN_RETRY, R494: no JOIN_ACK within 5 ms: the next ancestor is asked. Within 1 s of no acknowledgement a member that is not the
root returns to OUT. -/
def joinRetry (d : Dev) : Dev :=
  if d.relay.join.isEmpty then d
  else if d.rlId ≠ 0 && decide (1000000000 ≤ d.time - d.relay.joinAt) then (d.rlCmdEnd 0x1F 0).rlLeaveDomain
  else if d.relay.after.isSome then d.rlAsk
  else d.rlNextAsk

/-- JOIN_RETRY. -/
def execJoinRetry (s : State) : Host.Outcome State Fault Refusal := s.run joinRetry

/-- BARRIER_TIMEOUT, R496: the timeout of the root's own command of barrier `opId` passes: the root releases it. -/
def barrierTimeout (opId : Nat) (d : Dev) : Dev :=
  match d.relay.ops.find? (rlIs 1 opId) with
  | none => d
  | some o =>
    if !d.rlRoot || !o.entered || o.arg = 0 then d
    else
      let (d, n) := d.rlNext
      d.rlRelease opId n (d.rlCount - o.a)

/-- BARRIER_TIMEOUT. -/
def execBarrierTimeout (opId : Nat) (s : State) : Host.Outcome State Fault Refusal := s.run (barrierTimeout opId)

end Sys2Proof.Machine
end

