-- ==== Sys2Proof/Machine/Flags.lean ====
section
/-! DEFINITION. The flags and status fields that are computed as they are read: MEMBER_ERR, CURRENT, KIND_BLOCK, PARENT,
QSTAT, thresholds, EQ_STATUS.PENDING and the times of the relay domain. -/

namespace Sys2Proof.Machine

/-- Offsets of the gate registers of a wire scheduler (R236). -/
def gateOff (off : Nat) : Bool := (decide (0x10 ≤ off) && decide (off < 0x50)) || (decide (0x800 ≤ off) && decide (off < 0x1800))

/-- R236: the gate registers of port 18 and of an absent port read 0 and ignore writes. -/
def Dev.noGates (d : Dev) (p off : Nat) : Bool := gateOff off && !(decide (p < 16) && d.lpPresent p)

/-- R25: where the kind-specific registers of unit `u` lie; 0 for a kind that has none. -/
def Dev.kindBlock (d : Dev) (u : Nat) : Nat :=
  match d.kindOf u with
  | 0x07 => 0xFE0000100000
  | 0x09 => 0xFE0000000000
  | 0x01 | 0x02 | 0x03 | 0x04 | 0x05 | 0x06 | 0x08 | 0x0B | 0x81 | 0x83 | 0x85 => d.addrOf u + 0x100
  | _ => 0

/-- R17, R455: gait of a tile's region; of a hitch, the highest below it. -/
def Dev.curGait (d : Dev) (u : Nat) : Nat :=
  if regionOf u ≠ 0xFF then d.gait (regionOf u)
  else (d.subtree u).foldl (fun m x => if regionOf x = 0xFF then m else max m (d.gait (regionOf x))) 0

/-- R17: a unit below hitch `u` has ERR latched. -/
def Dev.memberErr (d : Dev) (u : Nat) : Bool := ((d.subtree u).drop 1).any (fun x => d.on x Hdr.UNIT_STATUS_ERR)

/-- What the header cell at `off` of unit `u` shows. -/
def Dev.hdrShown (d : Dev) (u off : Nat) : Word :=
  let x := d.cell u off
  if off = 0x8 then putBits x 6 1 (d.memberErr u).toNat
  else if off = 0x28 then putBits x 32 3 (d.curGait u)
  else if off = 0x30 then BitVec.ofNat 64 (d.kindBlock u)
  else if off = 0x38 then BitVec.ofNat 64 (((d.parentOf u).map (fun p => d.addrOf p)).getD 0)
  else x

/-- R375: what QCTL and QSTAT of function `pf` show of the selected queue. -/
def Dev.queueShown (d : Dev) (pf off : Nat) : Word :=
  match d.compatQ pf with
  | none => 0
  | some q =>
    let x := d.queues.find? (fun (x : QSt) => x.qid = q)
    if off = 0x908 then (if (x.map QSt.enable).getD false then 1 else 0)
    else BitVec.ofNat 64 ((if ((x.map QSt.jobs).getD []).isEmpty then 1 else 0) + 2 + d.qf q Qctx.STATE % 16 * 4 +
      d.qf q Qctx.HEAD % 65536 * 65536)

/-- What a cell shows, before write-only fields are blanked: some fields are computed as they are read. -/
def Dev.shown (d : Dev) (u off : Nat) : Word :=
  let x := d.cell u off
  if u < 0x1000000 then
    if off < 0x40 then d.hdrShown u off
    else if u = rootId then
      if off = 0xC08 then (if d.paired then x else putBits x 4 1 0)
      else if off = 0xD20 then BitVec.ofNat 64 d.domainNs
      else if off = 0xD28 then BitVec.ofInt 64 d.rlOffset
      else x
    else if fixedKind u = 0x08 ∧ (off = 0x908 ∨ off = 0x910) then d.queueShown (u - epId 0) off
    else x
  else if 0x1001000 ≤ u ∧ u < 0x1002000 then
    let p := (u - 0x1001000) / 8
    let c := (u - 0x1001000) % 8
    if off = 0x18 then putBits x 32 19 (d.threshold p c)
    else if 16 ≤ p ∧ (off = 0x20 ∨ off = 0x28 ∨ off = 0xA8) then 0
    else if off = 0x28 then putBits x 32 19 (d.xoffPoint p c d.sharedFree)
    else x
  else if 0x1002000 ≤ u ∧ u < 0x1003000 then (if d.noGates (u - 0x1002000) off then 0 else x)
  else if 0x1010000 ≤ u ∧ u < 0x1020000 ∧ off = 0x8 then
    let t := ((u - 0x1010000) / 1024, (u - 0x1010000) % 1024)
    putBits x 19 1 (d.ev.waiting.any (fun w => (d.target w.ev).2 = t)).toNat
  else x

end Sys2Proof.Machine
end

