-- ==== Sys2Proof/Machine/Mgmt.lean ====
section
/-! DEFINITION. Management cores, fuses, and the slow interfaces they own: flash, module management, SMBus, JTAG and GPIO
(R530 to R552). -/

namespace Sys2Proof.Machine

/-- Change the state of the slow interfaces. -/
def Dev.setMgmt (d : Dev) (f : MgmtSt → MgmtSt) : Dev := { d with mgmt := f d.mgmt }

/-- R535: a register of this chapter is written by `agent`: a host function's write is ignored and counted. -/
def Dev.coreOnly (d : Dev) (agent : Nat) (f : Dev → Dev) : Dev := if isCore agent then f d else d.bump Root.LOCK_FOREIGN

/-! ### Cores (R530, R533) -/

/-- MC_CTL_START, R533, R535, R574: core `n` starts at MC_ENTRY if it has not been started, and reads ACTIVE from then on. -/
def mcCtlStart (agent n : Nat) (d : Dev) : Dev :=
  d.coreOnly agent (fun d => if decide (8 ≤ n) || d.on (mcUnit n) Mc.MC_STATUS_STATE then d else (d.s (mcUnit n) Mc.MC_STATUS_STATE 1).setUst (mcId n) stActive)

/-- MC_CTL_START. -/
def execMcCtlStart (agent n : Nat) (s : State) : Host.Outcome State Fault Refusal := s.run (mcCtlStart agent n)

/-- CORE_TIMER, R533: device time reaches MC_TIMECMP of core `n`. -/
def coreTimer (n : Nat) (d : Dev) : Dev :=
  let t := d.g (mcUnit n) Mc.MC_TIMECMP_TIME
  if decide (8 ≤ n) || decide (d.time < t) || t = 2 ^ 64 - 1 then d
  else (d.s (mcUnit n) Mc.MC_TIMECMP_TIME (2 ^ 64 - 1)).raisePriv n 0x0901 t
    |>.wakeUnit (mcId n)

/-- CORE_TIMER. -/
def execCoreTimer (n : Nat) (s : State) : Host.Outcome State Fault Refusal := s.run (coreTimer n)

/-! ### Fuses (R536, R537) -/

/-- FUSE_DATA_0 to FUSE_DATA_5. -/
def Dev.fuseData (d : Dev) : List Byte := ofWords ((List.range 6).map (fun k => d.cell rootId (0x6240 + 8 * k)))

/-- A write of FUSE_CMD with GO and operation `op`: it starts unless one runs. -/
def fuseGo (agent op arg : Nat) (evt : Bool) (d : Dev) : Dev :=
  d.coreOnly agent (fun d =>
    let d := ((d.s rootId Root.FUSE_CMD_OP op).s rootId Root.FUSE_CMD_ARG arg).s rootId Root.FUSE_CMD_EVT evt.toNat
    if d.mgmt.fuse.isSome then d
    else (d.s rootId Root.FUSE_STATUS_BUSY 1).setMgmt (fun (m : MgmtSt) => { m with
      fuse := some { op := op, arg := arg % 256, data := d.fuseData, evt := evt } }))

/-- FUSE_WRITE_IMG_KEY. -/
def execFuseWriteImgKey (agent arg : Nat) (evt : Bool) (s : State) : Host.Outcome State Fault Refusal :=
  s.run (fuseGo agent 1 arg evt)

/-- FUSE_REVOKE_IMG_KEY. -/
def execFuseRevokeImgKey (agent arg : Nat) (evt : Bool) (s : State) : Host.Outcome State Fault Refusal :=
  s.run (fuseGo agent 2 arg evt)

/-- FUSE_WRITE_FW_KEY. -/
def execFuseWriteFwKey (agent arg : Nat) (evt : Bool) (s : State) : Host.Outcome State Fault Refusal :=
  s.run (fuseGo agent 3 arg evt)

/-- FUSE_REVOKE_FW_KEY. -/
def execFuseRevokeFwKey (agent arg : Nat) (evt : Bool) (s : State) : Host.Outcome State Fault Refusal :=
  s.run (fuseGo agent 4 arg evt)

/-- FUSE_RAISE_IMG_SVN. -/
def execFuseRaiseImgSvn (agent arg : Nat) (evt : Bool) (s : State) : Host.Outcome State Fault Refusal :=
  s.run (fuseGo agent 5 arg evt)

/-- FUSE_RAISE_FW_SVN. -/
def execFuseRaiseFwSvn (agent arg : Nat) (evt : Bool) (s : State) : Host.Outcome State Fault Refusal :=
  s.run (fuseGo agent 6 arg evt)

/-- R537: the operation names a blank slot, a slot that exists, or an SVN that is not below the current one. -/
def fuseOk (f : FuseSt) (o : FuseOp) : Bool :=
  let blank := fun (l : List (List Byte)) => decide (o.arg < l.length) && (l.getD o.arg []).all (fun b => b = 0)
  match o.op with
  | 1 => blank f.imgKeys
  | 2 => decide (o.arg < 4)
  | 3 => blank f.fwKeys
  | 4 => decide (o.arg < 2)
  | 5 => decide (f.imgSvn ≤ o.arg)
  | _ => decide (f.fwSvn ≤ o.arg)

/-- R536, R537: the fuses after an operation, of which the bits of `mask` were blown. Numbers are held as a thermometer code, so a
raised SVN that did not verify reads as many steps as were blown. -/
def fuseBlow (f : FuseSt) (o : FuseOp) (mask : Option (List Byte)) : FuseSt :=
  let m := fun (i : Nat) => match mask with
    | some bs => bs.getD i 0
    | none => 0xFF
  let key := (List.range o.data.length).map (fun i => o.data.getD i 0 &&& m i)
  let bit := if (m 0).toNat % 2 = 1 then 2 ^ o.arg else 0
  let svn := fun (v : Nat) => match mask with
    | some _ => min o.arg (v + (m 0).toNat)
    | none => max v o.arg
  match o.op with
  | 1 => { f with imgKeys := updAt f.imgKeys o.arg (fun _ => key) }
  | 2 => { f with imgRevoke := Nat.lor f.imgRevoke bit }
  | 3 => { f with fwKeys := updAt f.fwKeys o.arg (fun _ => key) }
  | 4 => { f with fwRevoke := Nat.lor f.fwRevoke bit }
  | 5 => { f with imgSvn := svn f.imgSvn }
  | _ => { f with fwSvn := svn f.fwSvn }

/-- FUSE_DONE, R537: the operation ends. `burnt`: none when the read-back is what was requested, else the bits that were blown. The
new fuses take effect at the next reset of the root hitch (R536). -/
def fuseDone (burnt : Option (List Byte)) (d : Dev) : Dev :=
  match d.mgmt.fuse with
  | none => d
  | some o =>
    let ok := fuseOk d.fuse o
    let r := if !ok then 1 else if burnt.isSome then 2 else 0
    let d := if ok then { d with fuse := fuseBlow d.fuse o burnt } else d
    let d := d.setMgmt (fun (m : MgmtSt) => { m with fuse := none })
    let d := (d.s rootId Root.FUSE_STATUS_BUSY 0).s rootId Root.FUSE_STATUS_RESULT r
    if o.evt then d.raise rootId 0x0D08 0 (r * 16) else d

/-- FUSE_DONE. -/
def execFuseDone (burnt : Option (List Byte)) (s : State) : Host.Outcome State Fault Refusal := s.run (fuseDone burnt)

/-! ### Flash (R538, R540) -/

/-- A write of XSPI_CMD with GO: it joins the controller's operations, unless a firmware operation waits or runs. -/
def xspiGo (agent op len : Nat) (evt : Bool) (d : Dev) : Dev :=
  d.coreOnly agent (fun d =>
    let d := ((d.s rootId Root.XSPI_CMD_OP op).s rootId Root.XSPI_CMD_LEN len).s rootId Root.XSPI_CMD_EVT evt.toNat
    if d.mgmt.xspi.isSome then d.s rootId Root.XSPI_STATUS_OVERRUN 1
    else
      let o : XspiOp :=
        { op := op, addr := d.g rootId Root.XSPI_ADDR_ADDR, len := len, buf := d.g rootId Root.XSPI_BUF_ADDR, evt := evt }
      (d.s rootId Root.XSPI_STATUS_BUSY 1).setMgmt (fun (m : MgmtSt) => { m with xspi := some o }))

/-- XSPI_READ. -/
def execXspiRead (agent len : Nat) (evt : Bool) (s : State) : Host.Outcome State Fault Refusal := s.run (xspiGo agent 1 len evt)

/-- XSPI_PROGRAM. -/
def execXspiProgram (agent len : Nat) (evt : Bool) (s : State) : Host.Outcome State Fault Refusal :=
  s.run (xspiGo agent 2 len evt)

/-- XSPI_ERASE. -/
def execXspiErase (agent len : Nat) (evt : Bool) (s : State) : Host.Outcome State Fault Refusal :=
  s.run (xspiGo agent 3 len evt)

/-- R531: bytes of flash that the read window shows. -/
def flashSize : Nat := 0x10000000

/-- First byte and number of bytes of flash that the operation touches. -/
def XspiOp.range (o : XspiOp) : Nat × Nat := if o.op = 3 then (o.addr / 65536 * 65536, 65536) else (o.addr, o.len)

/-- R540: the range meets the ledger area or an image slot. -/
def flashGuarded (a n : Nat) : Bool :=
  (decide (a < 0x02010000) && decide (0x02000000 < a + n)) || (decide (a < 0x0C000000) && decide (0x04000000 < a + n))

/-- R540: the command has a form the controller can run. -/
def XspiOp.formOk (o : XspiOp) : Bool :=
  o.op = 3 || ((o.op = 1 || o.op = 2) && decide (1 ≤ o.len) && decide (o.len ≤ 4096) && decide (o.addr + o.len ≤ flashSize) &&
    o.buf % 8 = 0 && decide (coreMemBase ≤ o.buf) && decide (o.buf + o.len ≤ coreMemBase + coreMemSize))

/-- What the operation leaves, in flash or in the buffer. An erased byte takes the byte programmed; what programming one that is
not erased leaves is not stated (assumption 87). -/
def Dev.xspiRun (d : Dev) (o : XspiOp) : Dev :=
  let (a, n) := o.range
  if o.op = 1 then d.writeMem .core (o.buf - coreMemBase) (d.readMem .flash a n)
  else if o.op = 3 then d.writeMem .flash a (List.replicate n 0xFF)
  else
    let put := fun (x : Dev × List Byte) (i : Nat) =>
      if x.1.byte .flash (a + i) = 0xFF then (x.1, x.2 ++ [d.byte .core (o.buf - coreMemBase + i)])
      else (x.1.used, x.2 ++ [x.1.freeVal.setWidth 8])
    let (d, bs) := (List.range n).foldl put (d, [])
    d.writeMem .flash a bs

/-- R540: the operation fails: `bs` is what the range, or the buffer of a read, then holds. -/
def Dev.xspiFail (d : Dev) (o : XspiOp) (bs : List Byte) : Dev :=
  let (a, n) := o.range
  if o.op = 1 then d.writeMem .core (o.buf - coreMemBase) (bs.take n) else d.writeMem .flash a (bs.take n)

/-- FLASH_DONE, R540: the firmware operation ends. `left`: none unless the flash reports an error. -/
def flashDone (left : Option (List Byte)) (d : Dev) : Dev :=
  match d.mgmt.xspi with
  | none => d
  | some o =>
    let (a, n) := o.range
    let r := if !o.formOk then 3 else if o.op ≠ 1 && flashGuarded a n then 1 else if left.isSome then 2 else 0
    let d := if r = 0 then d.xspiRun o else if r = 2 then d.xspiFail o (left.getD []) else d
    let d := d.setMgmt (fun (m : MgmtSt) => { m with xspi := none })
    let d := (d.s rootId Root.XSPI_STATUS_BUSY 0).s rootId Root.XSPI_STATUS_RESULT r
    if o.evt then d.raise rootId 0x0D07 0 (r * 16) else d

/-- FLASH_DONE. -/
def execFlashDone (left : Option (List Byte)) (s : State) : Host.Outcome State Fault Refusal := s.run (flashDone left)

/-! ### Modules (R541 to R544) -/

/-- R543: pulses clocked for the samples after the first, and whether SDA is high after the STOP. A sample not given is high. -/
def busPulses (sda : List Bool) : Nat × Bool :=
  let after := (sda.drop 1).take 9
  let n := min 9 ((after.takeWhile (fun b => !b)).length + 1)
  (n, sda.getD (n + 1) true)

/-- MOD_RESET_N of cage `c` is low (R544). -/
def Dev.modLow (d : Dev) (c : Nat) : Bool :=
  d.g rootId Root.MOD_CTL_RESET / 2 ^ c % 2 = 1 || d.mgmt.pulses.any (fun p => p.1 = c)

/-- R543 step 4: MOD_RESET_N of cage `c` falls for the width that controller `i` gives. -/
def Dev.modPulse (d : Dev) (i c : Nat) : Dev :=
  let till := d.time + 1000 * d.g (i2cUnit i) I2c.I2C_CFG_RST_PULSE_US
  let d := if d.modLow c then d else d.emit (.pin (.modReset c) false)
  d.setMgmt (fun (m : MgmtSt) => { m with pulses := (c, till) :: m.pulses.filter (fun p => p.1 ≠ c) })

/-- R542: the transaction of controller `i` ends with a result after `moved` data bytes. -/
def Dev.i2cEnd (d : Dev) (i result moved : Nat) (evt : Bool) : Dev :=
  let u := i2cUnit i
  let d := d.setMgmt (fun (m : MgmtSt) => { m with i2c := updAt m.i2c i (fun _ => none) })
  let d := ((d.s u I2c.I2C_STATUS_BUSY 0).s u I2c.I2C_STATUS_RESULT result).s u I2c.I2C_STATUS_DONE_BYTES moved
  if evt then d.raise rootId 0x0D02 0 (i + result * 16) else d

/-- R542 step 1: the cage is selected, unless it was the last one. -/
def Dev.i2cSelect (d : Dev) (i c : Nat) : Dev :=
  let last := (d.mgmt.cages[i]?).join
  if last = some c then d
  else
    let d := match last with
      | some p => d.emit (.pin (.modSel p) true)
      | none => d
    (d.emit (.pin (.modSel c) false)).setMgmt (fun (m : MgmtSt) => { m with cages := updAt m.cages i (fun _ => some c) })

/-- BUS_CHECK, R543: SDA is sampled before the START; a bus held low is recovered or declared stuck. Whether the START follows. -/
def Dev.busCheck (d : Dev) (i c : Nat) (sda : List Bool) : Dev × Bool :=
  let u := i2cUnit i
  if sda.headD true then (d.s u I2c.I2C_STATUS_PULSES 0, true)
  else
    let (n, high) := busPulses sda
    let d := d.s u I2c.I2C_STATUS_PULSES n
    if high then (d.add u I2c.I2C_RECOVERED 1, true)
    else
      let auto : Bool := d.on u I2c.I2C_CFG_AUTO_MODRST
      let d := (d.s u I2c.I2C_STATUS_BUS_STUCK 1).add u I2c.I2C_STUCK 1
      let d := d.raise rootId 0x0D01 0 (c + auto.toNat * 256)
      (if auto then d.modPulse i c else d, false)

/-- The bytes a controller sends for the transaction in its registers (R542). -/
def Dev.i2cBytes (d : Dev) (i : Nat) (read : Bool) : List Byte :=
  let u := i2cUnit i
  let dev := d.g u I2c.I2C_CMD_DEV
  let data := ofWords ((List.range 16).map (fun k => d.cell u (0x80 + 8 * k)))
  let head := [BitVec.ofNat 8 (2 * dev), BitVec.ofNat 8 (d.g u I2c.I2C_CMD_OFFSET)]
  if read then head ++ [BitVec.ofNat 8 (2 * dev + 1)] else head ++ data.take (d.g u I2c.I2C_CMD_LEN)

/-- A write of I2C_CMD of controller `i` with GO, R542: the cage is selected, the bus checked and the transfer started. A LEN out
of range is not stored. -/
def i2cGo (agent i : Nat) (read : Bool) (cmd : Word) (sda : List Bool) (d : Dev) : Dev :=
  let u := i2cUnit i
  let g := fun (f : Fld) => getBits cmd f.lo f.w
  d.coreOnly agent (fun d =>
    if 4 ≤ i then d
    else if d.on u I2c.I2C_STATUS_BUSY then d.s u I2c.I2C_STATUS_OVERRUN 1
    else
      let len := g I2c.I2C_CMD_LEN
      let d := [I2c.I2C_CMD_CAGE, I2c.I2C_CMD_DEV, I2c.I2C_CMD_OFFSET, I2c.I2C_CMD_EVT].foldl (fun (d : Dev) f => d.s u f (g f)) d
      let d := (if 1 ≤ len ∧ len ≤ 128 then d.s u I2c.I2C_CMD_LEN len else d).s u I2c.I2C_CMD_READ read.toNat
      let c := 4 * i + g I2c.I2C_CMD_CAGE
      let evt : Bool := g I2c.I2C_CMD_EVT = 1
      let (d, free) := (d.i2cSelect i c).busCheck i c sda
      if !free then d.i2cEnd i 4 0 evt
      else
        let o : I2cOp := { read := read, len := d.g u I2c.I2C_CMD_LEN, evt := evt }
        let d := ((d.s u I2c.I2C_STATUS_BUSY 1).s u I2c.I2C_STATUS_DONE_BYTES 0).emit (.serial i (d.i2cBytes i read))
        d.setMgmt (fun (m : MgmtSt) => { m with i2c := updAt m.i2c i (fun _ => some o) }))

/-- I2C_READ: `sda` holds the samples of the bus check. -/
def execI2cRead (agent i : Nat) (cmd : Word) (sda : List Bool) (s : State) : Host.Outcome State Fault Refusal :=
  s.run (i2cGo agent i true cmd sda)

/-- I2C_WRITE. -/
def execI2cWrite (agent i : Nat) (cmd : Word) (sda : List Bool) (s : State) : Host.Outcome State Fault Refusal :=
  s.run (i2cGo agent i false cmd sda)

/-- Bytes that a read brought stand in I2C_DATA from byte 0. -/
def Dev.i2cPut (d : Dev) (i n : Nat) (bs : List Byte) : Dev :=
  let u := i2cUnit i
  let old := ofWords ((List.range 16).map (fun k => d.cell u (0x80 + 8 * k)))
  let ws := toWords 16 (spliceBytes old 0 (bs.take n))
  (List.range 16).foldl (fun (d : Dev) k => d.setCell u (0x80 + 8 * k) (ws.getD k 0)) d

/-- I2C_DONE, R542: the transaction ends: 0 all moved, 1 address NACK, 2 data NACK, 3 clock stretched too long, after `moved` data
bytes; a read has brought `data`. -/
def i2cDone (i result moved : Nat) (data : List Byte) (d : Dev) : Dev :=
  match (d.mgmt.i2c[i]?).join with
  | none => d
  | some o =>
    if 4 ≤ result then d
    else
      let n := if result = 0 then o.len else if result = 1 then 0 else min moved o.len
      let d := if o.read then d.i2cPut i n data else d
      d.i2cEnd i result n o.evt

/-- I2C_DONE. -/
def execI2cDone (i result moved : Nat) (data : List Byte) (s : State) : Host.Outcome State Fault Refusal :=
  s.run (i2cDone i result moved data)

/-- R544: the fields of I2C_CFG that a write stores: SPEED 3 and pulses under 10 µs are not stored. -/
def Dev.i2cCfg (d : Dev) (i : Nat) (cfg : Word) : Dev :=
  let u := i2cUnit i
  let g := fun (f : Fld) => getBits cfg f.lo f.w
  let d := if g I2c.I2C_CFG_SPEED = 3 then d else d.s u I2c.I2C_CFG_SPEED (g I2c.I2C_CFG_SPEED)
  let d := if g I2c.I2C_CFG_RST_PULSE_US < 10 then d else d.s u I2c.I2C_CFG_RST_PULSE_US (g I2c.I2C_CFG_RST_PULSE_US)
  [I2c.I2C_CFG_AUTO_MODRST, I2c.I2C_CFG_STRETCH_MAX_US, I2c.I2C_CFG_SEL_SETUP_US].foldl (fun (d : Dev) f => d.s u f (g f)) d

/-- I2C_RESET, R544: a write of I2C_CFG with RESET ends the transaction at once, after `moved` data bytes. -/
def i2cReset (agent i : Nat) (cfg : Word) (moved : Nat) (data : List Byte) (d : Dev) : Dev :=
  d.coreOnly agent (fun d =>
    if 4 ≤ i then d
    else
      let d := d.i2cCfg i cfg
      match (d.mgmt.i2c[i]?).join with
      | none => d
      | some o =>
        let n := min moved o.len
        (if o.read then d.i2cPut i n data else d).i2cEnd i 5 n o.evt)

/-- I2C_RESET. -/
def execI2cReset (agent i : Nat) (cfg : Word) (moved : Nat) (data : List Byte) (s : State) : Host.Outcome State Fault Refusal :=
  s.run (i2cReset agent i cfg moved data)

/-- MODULE_PRESENCE_CHANGE, R544: MOD_PRES_N has held new levels for 1 ms; bit `c` of `present` is 1 while it is low. -/
def modulePresenceChange (present : Nat) (d : Dev) : Dev :=
  let p := present % 65536
  if d.g rootId Root.MOD_STATUS_PRESENT = p then d
  else (d.s rootId Root.MOD_STATUS_PRESENT p).raise rootId 0x0D03 0 p

/-- MODULE_PRESENCE_CHANGE. -/
def execModulePresenceChange (present : Nat) (s : State) : Host.Outcome State Fault Refusal := s.run (modulePresenceChange present)

/-- MODULE_INTERRUPT, R544: MOD_INT_N of a cage moves; a fall raises an event. -/
def moduleInterrupt (cage : Nat) (low : Bool) (d : Dev) : Dev :=
  let c := cage % 16
  let v := d.g rootId Root.MOD_STATUS_INT
  let was : Bool := v / 2 ^ c % 2 = 1
  if was = low then d
  else
    let d := d.s rootId Root.MOD_STATUS_INT (if low then v + 2 ^ c else v - 2 ^ c)
    if low then d.raise rootId 0x0D04 0 c else d

/-- MODULE_INTERRUPT. -/
def execModuleInterrupt (cage : Nat) (low : Bool) (s : State) : Host.Outcome State Fault Refusal :=
  s.run (moduleInterrupt cage low)

/-! ### SMBus (R545, R546) -/

/-- Packet error code of SMBus: CRC-8 with polynomial 0x07. -/
def smbPec (bs : List Byte) : Byte := BitVec.ofNat 8 (crcN 8 0x07 0 bs)

/-- R546: in ROM_RECOVERY the boot ROM serves the packet; what it writes lies in FW_A and FW_B. -/
def Dev.romPacket (d : Dev) (data : List Byte) : Dev :=
  let (ws, answers) := Config.romMctp d.mgmt.romLog data
  let d := ws.foldl (fun (d : Dev) w => if w.1 + w.2.length ≤ 0x02000000 then d.writeMem .flash w.1 w.2 else d) d
  (answers.foldl (fun (d : Dev) a => d.emit (.serial 8 (a ++ [smbPec a]))) d).setMgmt (fun (m : MgmtSt) => { m with
    romLog := m.romLog ++ [data] })

/-- SMBUS_PACKET_RECEIVED, R545: a packet, from the command code to the byte before the PEC, sent to `addr`. It takes the next slot of
the ring, or is dropped. -/
def smbusPacketReceived (addr : Nat) (data : List Byte) (pecOk : Bool) (d : Dev) : Dev :=
  if !d.on rootId Root.SMB_CFG_EN || d.g rootId Root.SMB_CFG_ADDR ≠ addr || !pecOk || decide (79 < data.length) then d
  else if d.g rootId Root.BOOT_STATUS_PHASE = 7 then d.romPacket data
  else if 16 ≤ d.mgmt.smbHeld then d
  else
    let k := d.g rootId Root.SMB_STATUS_WR
    let d := d.windowWrite (d.g rootId Root.SMB_RX_RING + 80 * k) (BitVec.ofNat 8 data.length :: data)
    let d := (d.s rootId Root.SMB_STATUS_WR (k + 1)).setMgmt (fun (m : MgmtSt) => { m with smbHeld := m.smbHeld + 1 })
    d.raise rootId 0x0D06 0 k

/-- SMBUS_PACKET_RECEIVED. -/
def execSmbusPacketReceived (addr : Nat) (data : List Byte) (pecOk : Bool) (s : State) : Host.Outcome State Fault Refusal :=
  s.run (smbusPacketReceived addr data pecOk)

/-- SMB_TX_GO, R545: a write of SMB_TX with GO. `result` is how the send goes, as TX_RESULT codes it: 3 leaves it running until
SMBUS_CLOCK_TIMEOUT. A LEN outside 1 to 72 sends nothing (assumption 89). -/
def smbTxGo (agent addr len result : Nat) (d : Dev) : Dev :=
  d.coreOnly agent (fun d =>
    if d.on rootId Root.SMB_STATUS_TX_BUSY then d
    else
      let d := (d.s rootId Root.SMB_TX_ADDR addr).s rootId Root.SMB_TX_LEN len
      if len = 0 ∨ 72 < len then d
      else
        let bs := d.windowRead (addr % 2 ^ 48) len
        if result = 3 then d.s rootId Root.SMB_STATUS_TX_BUSY 1
        else
          let d := if result = 0 then d.emit (.serial 8 (bs ++ [smbPec bs])) else d
          d.s rootId Root.SMB_STATUS_TX_RESULT (min result 2))

/-- SMB_TX_GO. -/
def execSmbTxGo (agent addr len result : Nat) (s : State) : Host.Outcome State Fault Refusal :=
  s.run (smbTxGo agent addr len result)

/-- SMBUS_CLOCK_TIMEOUT, R546: SMB_SCL has been low for 25 ms: the transfer in progress is dropped. -/
def smbusClockTimeout (d : Dev) : Dev :=
  if d.on rootId Root.SMB_STATUS_TX_BUSY then
    (d.s rootId Root.SMB_STATUS_TX_BUSY 0).s rootId Root.SMB_STATUS_TX_RESULT 3
  else d

/-- SMBUS_CLOCK_TIMEOUT. -/
def execSmbusClockTimeout (s : State) : Host.Outcome State Fault Refusal := s.run smbusClockTimeout

/-! ### JTAG (R547, R548) -/

/-- R547: the instruction register is loaded. -/
def Dev.setIr (d : Dev) (ir : Nat) : Dev := d.setMgmt (fun (m : MgmtSt) => { m with ir := ir })

/-- The boundary register drives its pins. -/
def Dev.drivePins (d : Dev) : Dev := d.mgmt.boundary.foldl (fun (d : Dev) p => d.emit (.pin p.1 p.2)) d

/-- EXTEST. -/
def execExtest (s : State) : Host.Outcome State Fault Refusal := s.runIf (fun _ => true) (fun d => (d.setIr 0x00).drivePins)

/-- SAMPLE_PRELOAD: the levels of the pins are captured and shifted out, one byte a pin, while `load` is shifted in. -/
def samplePreload (levels load : List (Pin × Bool)) (d : Dev) : Dev :=
  ((d.setIr 0x01).emit (.readBytes (levels.map (fun p => if p.2 then 1 else 0)))).setMgmt (fun (m : MgmtSt) => { m with
    boundary := load })

/-- SAMPLE_PRELOAD. -/
def execSamplePreload (levels load : List (Pin × Bool)) (s : State) : Host.Outcome State Fault Refusal :=
  s.runIf (fun _ => true) (samplePreload levels load)

/-- IDCODE: the identification register is shifted out. -/
def execIdcode (s : State) : Host.Outcome State Fault Refusal :=
  s.runIf (fun _ => true) (fun d => (d.setIr 0x02).emit (.readData 0x232009A7))

/-- CLAMP: the boundary register holds the outputs, and the bypass register is selected. -/
def execClamp (s : State) : Host.Outcome State Fault Refusal := s.runIf (fun _ => true) (fun d => (d.setIr 0x04).drivePins)

/-- HIGHZ: the outputs float. -/
def execHighz (s : State) : Host.Outcome State Fault Refusal := s.runIf (fun _ => true) (fun d => d.setIr 0x05)

/-- R547: the one-bit bypass register: what is shifted in comes out one bit later, after a 0. One byte a bit. -/
def Dev.shiftBypass (d : Dev) (tdi : List Bool) : Dev :=
  d.emit (.readBytes ((false :: tdi).dropLast.map (fun b => if b then 1 else 0)))

/-- DEBUG, R548: with DEBUG_EN the debugger halts and resumes cores; otherwise BYPASS. -/
def jtagDebug (halt resume : List Nat) (tdi : List Bool) (d : Dev) : Dev :=
  let d := d.setIr 0x10
  if !d.fuseLoaded.debugEn then d.shiftBypass tdi
  else
    let d := halt.foldl (fun (d : Dev) n => if n < 8 then d.s (mcUnit n) Mc.MC_STATUS_STATE 3 else d) d
    resume.foldl (fun (d : Dev) n =>
      if n < 8 ∧ d.g (mcUnit n) Mc.MC_STATUS_STATE = 3 then d.s (mcUnit n) Mc.MC_STATUS_STATE 1 else d) d

/-- DEBUG. -/
def execDebug (halt resume : List Nat) (tdi : List Bool) (s : State) : Host.Outcome State Fault Refusal :=
  s.runIf (fun _ => true) (jtagDebug halt resume tdi)

/-- BYPASS, and every code that is no other instruction's. -/
def execBypass (tdi : List Bool) (s : State) : Host.Outcome State Fault Refusal :=
  s.runIf (fun _ => true) (fun d => (d.setIr 0xFF).shiftBypass tdi)

/-! ### GPIO (R549) -/

/-- GPIO_EDGE, R549: the walk clock samples new pin levels. Enabled edges set GPIO_IRQ and raise an event, at most one a
millisecond (assumption 108). -/
def gpioEdge (levels : Nat) (d : Dev) : Dev :=
  let v := levels % 65536
  let was := d.g rootId Root.GPIO_IN_LEVEL
  let bits := fun (p : Nat → Bool) => ((List.range 16).filter p).foldl (fun (n : Nat) k => n + 2 ^ k) 0
  let bit := fun (n k : Nat) => n / 2 ^ k % 2
  let seen := bits (fun k => (bit was k = 0 && bit v k = 1 && bit (d.g rootId Root.GPIO_EDGE_RISE) k = 1) ||
    (bit was k = 1 && bit v k = 0 && bit (d.g rootId Root.GPIO_EDGE_FALL) k = 1))
  let d := d.s rootId Root.GPIO_IN_LEVEL v
  if seen = 0 then d
  else
    let irq := Nat.lor (d.g rootId Root.GPIO_IRQ_SEEN) seen
    let d := d.s rootId Root.GPIO_IRQ_SEEN irq
    let told := (d.setMgmt (fun (m : MgmtSt) => { m with gpioAt := some d.time })).raise rootId 0x0D05 0 irq
    match d.mgmt.gpioAt with
    | some t => if d.time < t + 1000000 then d else told
    | none => told

/-- GPIO_EDGE. -/
def execGpioEdge (levels : Nat) (s : State) : Host.Outcome State Fault Refusal := s.run (gpioEdge levels)

end Sys2Proof.Machine
end

