-- ==== Sys2Proof/Machine/Operands.lean ====
section
/-! DEFINITION. The operand forms of a register access: a write to one 8-byte cell with the bits it covers, the fields it
reaches and the values they would take (R7), and the test of a value against a bound (R50). -/

namespace Sys2Proof.Machine

/-! ### A write to a cell -/

/-- A write of `v` to the bits of `m` of a cell that holds `old`. -/
structure Wr where
  old : Word
  m : Word
  v : Word
  deriving DecidableEq, Repr

/-- The write covers field `f`, or part of it. -/
def Wr.hits (w : Wr) (f : Fld) : Bool := w.m &&& fieldMask f.lo f.w != 0

/-- The write writes a 1 to field `f`. -/
def Wr.one (w : Wr) (f : Fld) : Bool := getBits (w.m &&& w.v) f.lo f.w != 0

/-- What the cell would hold if every bit of it took the written value. -/
def Wr.merged (w : Wr) : Word := (w.old &&& ~~~ w.m) ||| (w.v &&& w.m)

/-- Value field `f` would take. -/
def Wr.val (w : Wr) (f : Fld) : Nat := getBits w.merged f.lo f.w

/-- Field `f` would change. -/
def Wr.changes (w : Wr) (f : Fld) : Bool := w.hits f && w.val f != getBits w.old f.lo f.w

/-- The write without field `f`: a value that is not stored leaves the field as it is (assumption 94). -/
def Wr.without (w : Wr) (f : Fld) : Wr := { w with m := w.m &&& ~~~ fieldMask f.lo f.w }

/-- The write without field `f` where `c` holds. -/
def Wr.dropIf (w : Wr) (c : Bool) (f : Fld) : Wr := if c then w.without f else w

/-- The part of the write in the low or the high 32-bit register of the cell. -/
def Wr.half (w : Wr) (hi : Bool) : Wr := { w with m := w.m &&& fieldMask (if hi then 32 else 0) 32 }

/-- R7: the write is stored in the cell at `off` of unit `u`, by the access types of its fields. -/
def Dev.put (d : Dev) (u off : Nat) (w : Wr) : Dev :=
  d.setCell u off (cellWrite (cellFlds u off) (d.cell u off) w.m w.v)

/-- The write is stored where `ok` holds; elsewhere it is ignored whole and unit `e` latches MALFORMED (R50). -/
def Dev.putIf (d : Dev) (ok : Bool) (e u off : Nat) (w : Wr) : Dev :=
  if ok then d.put u off w else d.latchErr e Sc.malformed

/-- R50: a value lies within a bound's minimum and maximum. -/
def inBound (b : Nat × Nat × Nat) (v : Nat) : Bool := decide (b.1 ≤ v) && decide (v ≤ b.2.1)

end Sys2Proof.Machine
end

