-- ==== Sys2Proof/Machine/Scrub.lean ====
section
/-! DEFINITION. The background scrub of the memories (R504 to R506) and the parity scan of the TCAM (R507). -/

namespace Sys2Proof.Machine

/-! ### What an uncorrectable word does (R506) -/

/-- Record `i` of class `c` holds an error until it is written whole. -/
def Dev.spoilRec (d : Dev) (c i : Nat) : Dev :=
  { d with integ := { d.integ with recs := (c, i) :: d.integ.recs.filter (fun x => x ≠ (c, i)) } }

/-- R140: entry `i` of table `id` is damaged. -/
def Dev.spoilEntry (d : Dev) (id i : Nat) : Dev :=
  d.setTbl id (fun (t : Tbl) => { t with damaged := i :: t.damaged.filter (· ≠ i) })

/-- R140: bucket `b` of table `id` is damaged. -/
def Dev.spoilBucket (d : Dev) (id b : Nat) : Dev :=
  d.setTbl id (fun (t : Tbl) => { t with badBuckets := b :: t.badBuckets.filter (· ≠ b) })

/-- R506: a clean line is invalidated; a dirty one is lost and damages what it holds, a flow context or, in an L2 table, a bucket of
four entries (R120). -/
def Dev.spoilLine (d : Dev) (id line : Nat) : Dev :=
  match d.table id with
  | none => d
  | some t =>
    match t.cache.find? (fun c => c.id = line) with
    | none => d
    | some c =>
      let d := d.setTbl id (fun (t : Tbl) => { t with cache := t.cache.filter (fun x => x.id ≠ line) })
      if !c.dirty then d
      else if t.kind = 2 then d.spoilBucket id line
      else d.spoilEntry id line

/-- R506: the outcome of an uncorrectable error by the structure it lies in. Tiles that R415 names raise their own event; for every
other error the root hitch raises it (R512). -/
def Dev.damage (d : Dev) (at_ : Damage) (addr : Nat) : Dev :=
  let root := fun (d : Dev) => d.raise rootId 0x0005 0 (addr % 2 ^ 48)
  match at_ with
  | .other => root d
  | .entry id i => d.spoilEntry id i
  | .bucket id b => d.spoilBucket id b
  | .cacheLine id line => d.spoilLine id line
  | .peCode n w => root (d.setPe n (fun (x : PeSt) => { x with badCode := w :: x.badCode.filter (· ≠ w) }))
  | .peData n w => root (d.setPe n (fun (x : PeSt) => { x with badData := w :: x.badData.filter (· ≠ w) }))
  | .queue q => if d.qExists q then root (d.qErr q 0x0A 0) else root d
  | .slice sl => root (d.spoilRec Cls.slice.code sl)
  | .allow sl => root (d.spoilRec Cls.allow.code sl)
  | .window i => root (d.spoilRec Cls.window.code i)
  | .sa i => (d.saRevoke i).raise (cryptoId (saHome i (d.sa i SA.DIR))) 0x0005 (d.sa i SA.SLICE) i
  | .conn c => if d.cn c Conn.STATE = 2 || d.cn c Conn.STATE = 3 then root (d.connError c 0x34 (fun _ => 0x34)) else root d
  | .session s => root (d.spoilRec Cls.session.code s)
  | .ns n => root (d.spoilRec Cls.ns.code n)
  | .extent i => root (d.spoilRec Cls.extent.code i)
  | .mirror rtype i => root (d.spoilRec (64 + rtype) i)
  | .core w => root { d with integ := { d.integ with core := w :: d.integ.core.filter (· ≠ w) } }

/-- SCRUB, R503 to R505: a word that the scrub or a read finds in error: unit, structure (coded as INTEG_LAST.STRUCT) and address. One
bit is corrected, written back and counted; more is an uncorrectable error, and so is table, context or record data that met bad
parity on the mesh (structure 1). The switch core counts its own corrections (R215). -/
def scrub (unit struct addr : Nat) (at_ : Damage) (uncorrectable : Bool) (d : Dev) : Dev :=
  if uncorrectable then (d.uncorr unit struct addr).damage at_ addr
  else
    let d := d.bump (if struct = 2 then Root.HBM_CORR else Root.SRAM_CORR)
    if struct = 3 then d.swBump Sw.ECC_CORR else d

/-- SCRUB. -/
def execScrub (unit struct addr : Nat) (place : Damage) (uncorrectable : Bool) (s : State) : Host.Outcome State Fault Refusal :=
  s.run (scrub unit struct addr place uncorrectable)

/-! ### The TCAM scan (R507) -/

/-- The LPM table that holds global TCAM entry `g`, and the index of the entry in it. -/
def Dev.tcamOwner (d : Dev) (g : Nat) : Option (Tbl × Nat) :=
  (d.tbl.tables.find? (fun (t : Tbl) => t.kind = 3 && decide (t.firstBlock ≤ g / 4096) &&
    decide (g / 4096 < t.firstBlock + t.tcam))).map (fun t => (t, g - 4096 * t.firstBlock))

/-- TCAM_SCAN_VISIT, R507: the visit of global entry `g`; `good` says whether its parity holds. A valid entry that fails is
removed, counted and reported by its table's home tile. -/
def tcamScanVisit (g : Nat) (good : Bool) (d : Dev) : Dev :=
  match d.tcamOwner g with
  | none => d
  | some (t, i) =>
    if good || !d.evalid t i then d
    else
      let d := ((d.latchInteg (matchId (g / 4096 / 4)) 5 g).bump Root.TCAM_PARITY).tblRemove t i
      (d.tstat t.id 12 1).tblEvent t.id 0x0005 g

/-- TCAM_SCAN_VISIT. -/
def execTcamScanVisit (g : Nat) (good : Bool) (s : State) : Host.Outcome State Fault Refusal := s.run (tcamScanVisit g good)

end Sys2Proof.Machine
end

