-- ==== Sys2Proof/Machine/RegWrite.lean ====
section
/-! DEFINITION. What a write to a register does beyond storing it: the rules of each register, block by block (R7, R17, R50
and the register tables of the chapters). A write is given for one 8-byte cell, with the bits it covers. -/

namespace Sys2Proof.Machine

/-! ### The unit header (R17) -/

/-- GAIT_STATE, R17, R30, R50: FLOOR and CEIL above 5 are not stored; a CEIL outside bound 0x30 voids the write. -/
def gaitStateWrite (u : Nat) (w : Wr) (d : Dev) : Dev :=
  let w := w.half true
  let floor := w.val Hdr.GAIT_STATE_FLOOR
  let ceil := w.val Hdr.GAIT_STATE_CEIL
  let w := (w.dropIf (decide (5 < floor)) Hdr.GAIT_STATE_FLOOR).dropIf (decide (5 < ceil)) Hdr.GAIT_STATE_CEIL
  d.putIf (decide (5 < ceil) || inBound (d.boundAt 0x30 u) ceil) u u 0x28 w

/-- A write in the header of unit `u`. UNIT_CONTROL acts in the order ENABLE, DRAIN, UNIT_RESET. -/
def hdrWrite (u off : Nat) (w : Wr) (e : BusEnv) (d : Dev) : Dev :=
  if off = 0x8 then
    let d := if w.one Hdr.UNIT_STATUS_ERR then errClear u d else d
    let d := if w.hits Hdr.UNIT_CONTROL_ENABLE then enableWrite u (w.val Hdr.UNIT_CONTROL_ENABLE = 1) d else d
    let d := if w.one Hdr.UNIT_CONTROL_DRAIN then drain u d else d
    if w.one Hdr.UNIT_CONTROL_UNIT_RESET then unitReset u e.t3 e.t4 e.t5 d else d
  else if off = 0x20 then
    if w.hits Hdr.EVENT_SOURCE_TARGET_EQ then eventSourceWrite u (BitVec.ofNat 64 (w.merged.toNat / 2 ^ 32)) d else d
  else if off = 0x28 then
    let d := if w.hits Hdr.DOORBELL_RING then doorbell u d else d
    if w.hits Hdr.GAIT_STATE_FLOOR then gaitStateWrite u w d else d
  else d

/-! ### The root hitch -/

/-- R535: registers of chapter 24 that take writes from management cores only. -/
def coreOnlyOff (off : Nat) : Bool := (decide (0x6000 ≤ off) && decide (off < 0x6B00)) || off = 0xAA8

/-- GOV_CTL, R50, R457: delays of 0 are not stored; a GALLOP_EN outside bound 0x31 voids the write. -/
def govCtlWrite (w : Wr) (d : Dev) : Dev :=
  let z := fun (f : Fld) => w.val f = 0
  let ok := inBound (d.bound 0x31) (w.val Root.GOV_CTL_GALLOP_EN)
  let w := ((w.dropIf (z Root.GOV_CTL_STAND_DELAY) Root.GOV_CTL_STAND_DELAY).dropIf (z Root.GOV_CTL_REST_DELAY)
    Root.GOV_CTL_REST_DELAY).dropIf (z Root.GOV_CTL_DOWN_WINDOWS) Root.GOV_CTL_DOWN_WINDOWS
  (d.putIf ok rootId rootId 0x800 w).syncGallop

/-- TWIN_CFG, R486: stored in DETACHED only; TWIN_ALIVE_O is driven while the device takes part in a pair. -/
def twinCfgWrite (w : Wr) (d : Dev) : Dev :=
  if d.twinState ≠ 0 then d
  else
    let was := d.paired
    let d := (d.put rootId 0xC00 w).setLogicalPorts
    if d.paired = was then d else d.emit (.pin .twinAliveOut d.paired)

/-- RELAY_HOP, R500: stored while OUT, each field within its range. -/
def relayHopWrite (w : Wr) (d : Dev) : Dev :=
  let hop := w.val Root.RELAY_HOP_HOP_NS
  let ka := w.val Root.RELAY_HOP_KA_US
  if d.g rootId Root.RELAY_STATUS_STATE ≠ 0 then d
  else d.put rootId 0xD08 ((w.dropIf (decide (hop < 500) || decide (100000 < hop)) Root.RELAY_HOP_HOP_NS).dropIf
    (decide (ka < 10) || decide (10000 < ka)) Root.RELAY_HOP_KA_US)

/-- MOD_CTL, R544: pins MOD_RESET_N and MOD_LPMODE of the cages follow. -/
def modCtlWrite (w : Wr) (d : Dev) : Dev :=
  let d' := d.put rootId 0x6800 w
  let lp := fun (d : Dev) (c : Nat) => d.g rootId Root.MOD_CTL_LPMODE / 2 ^ c % 2 = 1
  (List.range 16).foldl (fun (x : Dev) c =>
    let x := if d.modLow c = d'.modLow c then x else x.emit (.pin (.modReset c) (!d'.modLow c))
    if lp d c = lp d' c then x else x.emit (.pin (.modLp c) (decide (lp d' c)))) d'

/-- R549: the level at which GPIO pin `n` is driven; an open-drain pin is driven low only. -/
def Dev.gpioDrive (d : Dev) (n : Nat) : Option Bool :=
  let bit := fun (f : Fld) => decide (d.g rootId f / 2 ^ n % 2 = 1)
  let level := bit Root.GPIO_OUT_LEVEL
  if !bit Root.GPIO_DIR_OUT_EN || (bit Root.GPIO_OD_OD && level) then none else some level

/-- GPIO_DIR, GPIO_OUT and GPIO_OD, R549: the pins follow. -/
def gpioWrite (off : Nat) (w : Wr) (d : Dev) : Dev :=
  let d' := d.put rootId off w
  (List.range 16).foldl (fun (x : Dev) n =>
    match d'.gpioDrive n with
    | some b => if d.gpioDrive n = some b then x else x.emit (.pin (.gpio n) b)
    | none => x) d'

/-- FUSE_CMD, R537. A GO with an OP of no operation starts nothing (assumption 88). -/
def fuseCmdWrite (agent : Nat) (w : Wr) (d : Dev) : Dev :=
  let op := w.val Root.FUSE_CMD_OP
  if w.one Root.FUSE_CMD_GO && decide (1 ≤ op) && decide (op ≤ 6) then
    fuseGo agent op (w.val Root.FUSE_CMD_ARG) (w.val Root.FUSE_CMD_EVT = 1) d
  else d.put rootId 0x6200 (w.without Root.FUSE_CMD_GO)

/-- XSPI_CMD, R540. -/
def xspiCmdWrite (agent : Nat) (w : Wr) (d : Dev) : Dev :=
  if w.one Root.XSPI_CMD_GO then
    xspiGo agent (w.val Root.XSPI_CMD_OP) (w.val Root.XSPI_CMD_LEN) (w.val Root.XSPI_CMD_EVT = 1) d
  else d.put rootId 0x6300 (w.without Root.XSPI_CMD_GO)

/-- SMB_CFG, SMB_STATUS and SMB_TX, R545, R546. A write of RD frees ring slots; ALERT drives SMB_ALERT_N low. -/
def smbWrite (agent off : Nat) (w : Wr) (e : BusEnv) (d : Dev) : Dev :=
  if off = 0x6900 then
    let d' := d.put rootId off w
    if w.changes Root.SMB_CFG_ALERT then d'.emit (.pin .smbAlertN (w.val Root.SMB_CFG_ALERT = 0)) else d'
  else if off = 0x6910 then
    let d := d.put rootId off w
    if w.hits Root.SMB_STATUS_RD then
      d.setMgmt (fun (m : MgmtSt) => { m with
        smbHeld := (d.g rootId Root.SMB_STATUS_WR + 16 - d.g rootId Root.SMB_STATUS_RD) % 16 })
    else d
  else if w.one Root.SMB_TX_GO then smbTxGo agent (w.val Root.SMB_TX_ADDR) (w.val Root.SMB_TX_LEN) e.result d
  else d.put rootId off (w.without Root.SMB_TX_GO)

/-- A write in the chapter-24 part of the root hitch's block, by a management core. -/
def rootMgmtWrite (agent off : Nat) (w : Wr) (e : BusEnv) (d : Dev) : Dev :=
  if off = 0x6200 then fuseCmdWrite agent w d
  else if off = 0x6300 then xspiCmdWrite agent w d
  else if off = 0x6800 then modCtlWrite w d
  else if off = 0x6900 ∨ off = 0x6910 ∨ off = 0x6918 then smbWrite agent off w e d
  else if off = 0x6A00 ∨ off = 0x6A08 ∨ off = 0x6A10 then gpioWrite off w d
  else d.put rootId off w

/-- A write by `agent` in the root hitch's block, past the header. -/
def rootWrite (agent off : Nat) (w : Wr) (e : BusEnv) (d : Dev) : Dev :=
  if coreOnlyOff off then d.coreOnly agent (rootMgmtWrite agent off w e)
  else if off = 0x108 then
    if w.hits Root.ROOT_LOCATE_ID_ID then rootLocateId (w.val Root.ROOT_LOCATE_ID_ID) d else d
  else if off = 0x300 then (d.put rootId off w).watchWindow
  else if off = 0x400 then (d.put rootId off w).syncService
  else if off = 0x500 then
    let d := d.put rootId off (w.without Root.ENT_CTL_RESTART)
    if w.one Root.ENT_CTL_RESTART then entRestart d else d
  else if off = 0x600 then
    let d := d.put rootId off (w.without Root.EVT_GLOBAL_HOLD)
    if w.hits Root.EVT_GLOBAL_HOLD then evtGlobalHold (w.val Root.EVT_GLOBAL_HOLD = 1) d else d
  else if off = 0x720 then
    d.putIf (!w.hits Root.MBX_TIMEOUT_US || inBound (d.bound 0x70) (w.val Root.MBX_TIMEOUT_US)) rootId rootId off w
  else if off = 0x800 then govCtlWrite w d
  else if off = 0x820 then if w.one Root.PWR_CTL_HOLD then hold e.good d else d
  else if off = 0xB00 then
    let v := w.val Root.INTEG_CFG_TCAM_SCAN_MS
    d.put rootId off (w.dropIf (v = 0 || decide (100 < v)) Root.INTEG_CFG_TCAM_SCAN_MS)
  else if off = 0xB08 then
    if w.one Root.INTEG_LAST_VALID then (d.setCell rootId 0xB08 0).setCell rootId 0xB10 0 else d
  else if off = 0xC00 then twinCfgWrite w d
  else if off = 0xD08 then relayHopWrite w d
  else if off = 0x5000 then
    if w.one Root.RST_CTL_DEVICE_RESET then rstCtl agent (w.val Root.RST_CTL_KEY) e.t3 e.t4 e.t5 d else d
  else d.put rootId off w

/-- A write to the registers of management core `n` (R533, R535). -/
def mcWrite (agent n off : Nat) (w : Wr) (d : Dev) : Dev :=
  d.coreOnly agent (fun d =>
    if off = 0x8 then (if w.one Mc.MC_CTL_START then mcCtlStart agent n d else d) else d.put (mcUnit n) off w)

/-- A write to the registers of I2C controller `i` (R542 to R544). -/
def i2cWrite (agent i off : Nat) (w : Wr) (e : BusEnv) (d : Dev) : Dev :=
  let u := i2cUnit i
  d.coreOnly agent (fun d =>
    if off = 0x0 then
      if w.one I2c.I2C_CFG_RESET then i2cReset agent i w.merged e.moved e.data d else d.i2cCfg i w.merged
    else if off = 0x8 then
      if w.one I2c.I2C_CMD_GO then i2cGo agent i (w.val I2c.I2C_CMD_READ = 1) w.merged e.sda d
      else if d.on u I2c.I2C_STATUS_BUSY then d.s u I2c.I2C_STATUS_OVERRUN 1
      else
        let n := w.val I2c.I2C_CMD_LEN
        d.put u off ((w.without I2c.I2C_CMD_GO).dropIf (n = 0 || decide (128 < n)) I2c.I2C_CMD_LEN)
    else d.put u off w)

/-! ### Network ports -/

/-- PORT_CFG, R69, R72, R75: values not stored; LANE_RATE 1 in a wide port and FEC_MODE 1 outside 100 GbE are ignored and
latch MALFORMED; a port that leaves 100 GbE has FEC_MODE 0 (assumption 126); a change of mode takes the link down and retrains
it. -/
def portCfgWrite (l : Nat) (w : Wr) (d : Dev) : Dev :=
  let u := macId l
  let width := getBits w.old Mac.PORT_CFG_WIDTH.lo Mac.PORT_CFG_WIDTH.w
  let rate := w.hits Mac.PORT_CFG_LANE_RATE && w.val Mac.PORT_CFG_LANE_RATE = 1 && decide (1 < width)
  let w := w.dropIf (rate || (w.val Mac.PORT_CFG_LANE_RATE = 0 && !d.feature 8)) Mac.PORT_CFG_LANE_RATE
  let fec := w.hits Mac.PORT_CFG_FEC_MODE && w.val Mac.PORT_CFG_FEC_MODE = 1 &&
    !(w.val Mac.PORT_CFG_LANE_RATE = 1 && width = 1)
  let w := (w.dropIf (fec || decide (2 ≤ w.val Mac.PORT_CFG_FEC_MODE)) Mac.PORT_CFG_FEC_MODE).dropIf
    (w.val Mac.PORT_CFG_LOOPBACK = 3) Mac.PORT_CFG_LOOPBACK
  let d := if rate || fec then d.latchErr u Sc.malformed else d
  let d := d.put u kb w
  let d := if d.mf l Mac.PORT_CFG_LANE_RATE = 0 then d.setMf l Mac.PORT_CFG_FEC_MODE 0 else d
  if [Mac.PORT_CFG_LANE_RATE, Mac.PORT_CFG_FEC_MODE, Mac.PORT_CFG_AN_EN, Mac.PORT_CFG_LOOPBACK].any (fun f => w.changes f) &&
      d.mf l Mac.PORT_STATUS_LINK_UP = 1 then (d.setLock l 0).evalLink l
  else d.evalLink l

/-- PAUSE_CFG, R82, R83: MODE 3 is not stored, TX_REFRESH stays below TX_QUANTA; a change of MODE ends every pause state. -/
def pauseCfgWrite (l : Nat) (w : Wr) (d : Dev) : Dev :=
  let w := w.dropIf (w.val Mac.PAUSE_CFG_MODE = 3) Mac.PAUSE_CFG_MODE
  if w.val Mac.PAUSE_CFG_TX_QUANTA ≤ w.val Mac.PAUSE_CFG_TX_REFRESH then d.latchErr (macId l) Sc.malformed
  else
    let d := d.put (macId l) (kb + 0x28) w
    if w.changes Mac.PAUSE_CFG_MODE then d.pauseMode l else d.syncXoff l

/-- TX_START_CFG, R88: the whole register is checked, and CUR is clamped into the new range. -/
def txStartWrite (l : Nat) (w : Wr) (d : Dev) : Dev :=
  let lo := w.val Mac.TX_START_CFG_MIN
  let hi := w.val Mac.TX_START_CFG_MAX
  let step := w.val Mac.TX_START_CFG_STEP
  if lo % 64 = 0 ∧ 64 ≤ lo ∧ hi ≤ 16384 ∧ lo ≤ hi ∧ step % 64 = 0 ∧ 64 ≤ step ∧ w.val Mac.TX_START_CFG_DECAY_WINDOWS ≠ 0 then
    (d.put (macId l) (kb + 0x50) w).setMf l Mac.TX_START_STATUS_CUR (max lo (min hi (d.mf l Mac.TX_START_STATUS_CUR)))
  else d.latchErr (macId l) Sc.malformed

/-- LANE_TXEQ, R567: stored whole while its magnitudes are in range, MAIN is at least 32 and the port's AN_EN is 0. -/
def laneTxeqWrite (l : Nat) (w : Wr) (d : Dev) : Dev :=
  let a := w.val Mac.LANE_TXEQ_PRE2
  let b := w.val Mac.LANE_TXEQ_PRE1
  let c := w.val Mac.LANE_TXEQ_POST1
  if a ≤ 8 ∧ b ≤ 24 ∧ c ≤ 16 ∧ a + b + c ≤ 32 ∧ d.mf (d.firstLane l) Mac.PORT_CFG_AN_EN = 0 then
    (d.put (macId l) (kb + 0x2010) w).setMf l Mac.LANE_TXEQ_MAIN (64 - a - b - c)
  else d.latchErr (macId l) Sc.malformed

/-- A write at `off` of the block of lane `l` in the MAC port array. -/
def macWrite (l off : Nat) (w : Wr) (d : Dev) : Dev :=
  let u := macId l
  if off = 0x0 then portCfgWrite l w d
  else if off = 0x10 then
    let n := w.val Mac.MAC_CFG_MAX_FRAME
    let bad := w.hits Mac.MAC_CFG_MAX_FRAME && (decide (n < 64) || decide (16000 < n))
    (if bad then d.latchErr u Sc.malformed else d).put u (kb + off) (w.dropIf bad Mac.MAC_CFG_MAX_FRAME)
  else if off = 0x20 then d.put u (kb + off) (w.dropIf (w.val Mac.TAG_CFG_RX_STRIP = 3) Mac.TAG_CFG_RX_STRIP)
  else if off = 0x28 then pauseCfgWrite l w d
  else if off = 0x40 then
    let n := w.val Mac.PREEMPT_CFG_VERIFY_TIME
    let d := d.put u (kb + off) (w.dropIf (n = 0 || decide (128 < n)) Mac.PREEMPT_CFG_VERIFY_TIME)
    if w.changes Mac.PREEMPT_CFG_EN || (w.hits Mac.PREEMPT_CFG_EN && d.mf l Mac.PREEMPT_STATUS_VERIFY_STATE = 4) ||
      w.changes Mac.PREEMPT_CFG_VERIFY_DIS then d.verifyStart l else d
  else if off = 0x50 then txStartWrite l w d
  else if off = 0x2010 then laneTxeqWrite l w d
  else if off = 0x3008 then tbAdj (w.v &&& w.m) d
  else if off = 0x3018 then (if w.hits Mac.TB_SET_NS_NS then tbSetNs (getBits (w.v &&& w.m) 0 32) d else d)
  else if off = 0x3020 then (if w.hits Mac.TB_CAPTURE_GO then tbCapture d else d)
  else d.put u (kb + off) w

/-! ### The switch core -/

/-- R208: the sum of HEADROOM over the lossless pairs. -/
def Dev.headroomSum (d : Dev) : Nat := (d.pairs.map (fun (p, c) => d.cf p c Swc.IN_PFC_HEADROOM)).foldl (· + ·) 0

/-- The device `d'` that a write leaves, unless it breaks R208. -/
def Dev.headroomOk (d d' : Dev) : Dev := if d'.headroomSum ≤ 131072 then d' else d.latchErr switchId Sc.malformed

/-- R207: pairs of port `p` that are no longer lossless leave XOFF at once. -/
def Dev.dropXoff (d : Dev) (p : Nat) : Dev :=
  let x := d.g (swpUnit p) Swp.LP_XOFF_XOFF
  let n := Nat.land x (d.g (swpUnit p) Swp.LP_IN_CFG_LOSSLESS)
  if n = x then d
  else ((d.s (swpUnit p) Swp.LP_XOFF_XOFF n).setMac p (fun (m : MacSt) => { m with swXoff := n })).syncXoff p

/-- A write to a register of logical port `p` (R207, R219). -/
def swpWrite (p off : Nat) (w : Wr) (d : Dev) : Dev :=
  if off = 0x8 ∧ p < 16 then ((d.headroomOk (d.put (swpUnit p) off w)).dropXoff p).syncShared else d

/-- A write to a register of class `c` of logical port `p` (R50, R208, R217, R219). -/
def swcWrite (p c off : Nat) (w : Wr) (d : Dev) : Dev :=
  let u := swcUnit p c
  if off = 0x0 then
    d.putIf (!w.hits Swc.Q_ADMIT_ALPHA_LOG2 || inBound (d.bound 0x10) (w.val Swc.Q_ADMIT_ALPHA_LOG2)) switchId u off w
  else if off = 0x8 then
    let lo := w.val Swc.Q_LIMITS_FLOOR
    let hi := w.val Swc.Q_LIMITS_CEIL
    d.putIf (inBound (d.bound 0x11) lo && inBound (d.bound 0x11) hi && decide (lo ≤ hi)) switchId u off w
  else if off = 0x20 then
    if 16 ≤ p then d
    else if inBound (d.bound 0x10) (w.val Swc.IN_PFC_IN_ALPHA_LOG2) then (d.headroomOk (d.put u off w)).syncShared
    else d.latchErr switchId Sc.malformed
  else d.put u off w

/-- WS_CLASS of class `c` of port `p`, R223, R226, R236: a weight of 0 and a shaper that is not free are not stored; a class
whose PRIO changes leaves its round. -/
def wsClassWrite (p c off : Nat) (w : Wr) (d : Dev) : Dev :=
  let f := Ws.WS_CLASS_WEIGHT c
  let bad := w.hits f && w.val f = 0
  let free := d.shaperFree (w.val (Ws.WS_CLASS_SHAPER c)) 2 (p * 8 + c)
  let w := (w.dropIf bad f).dropIf (!free) (Ws.WS_CLASS_SHAPER c)
  let d := (if bad then d.latchErr switchId Sc.malformed else d).put (wsUnit p) off w
  if w.changes (Ws.WS_CLASS_PRIO c) then d.setWire p (fun (x : WireSt) => { x with drr := (x.drr.leave c).setDef c 0 }) else d

/-- A write to a register of the wire scheduler of port `p` (R235, R236). Heads are checked when the list comes into force by EN too
(assumption 129). -/
def wsWrite (p off : Nat) (w : Wr) (d : Dev) : Dev :=
  if d.noGates p off then d
  else if off = 0x10 then
    let d := (d.put (wsUnit p) off (w.without Ws.GCL_CTL_CHANGE)).syncGates p
    let d := if w.changes Ws.GCL_CTL_EN then d.dropOversize p else d
    if w.one Ws.GCL_CTL_CHANGE then gclChange p d else d
  else if 0x80 ≤ off ∧ off < 0xC0 then wsClassWrite p ((off - 0x80) / 8) off w d
  else d.put (wsUnit p) off w

/-- R131, R239, R257: the write reaches CMD, INDEX or one of the `n` words of DATA of a command interface. -/
def Wr.cmdBuf (w : Wr) (off n : Nat) : Bool :=
  ((off = 0x0 || off = 0x8) && (w.half false).m != 0) || (decide (0x100 ≤ off) && decide (off < 0x100 + 8 * n))

/-- A write to a register of the meter interface (R131, R239): one of CMD, INDEX or DATA is ignored, with OVERRUN, while
BUSY. -/
def mtrWrite (off : Nat) (w : Wr) (d : Dev) : Dev :=
  if !w.cmdBuf off 4 then d.put mtrUnit off w
  else if d.on mtrUnit Mtr.MTR_STATUS_BUSY then d.s mtrUnit Mtr.MTR_STATUS_OVERRUN 1
  else if off = 0x0 then
    let t := w.val Mtr.MTR_CMD_TABLE_ID
    let e := w.val Mtr.MTR_CMD_EVT
    if !w.hits Mtr.MTR_CMD_OP then d
    else match w.val Mtr.MTR_CMD_OP with
      | 1 => shpReadCmd t e d
      | 2 => shpWriteCmd t e d
      | 3 => polReadCmd t e d
      | 4 => polWriteCmd t e d
      | 5 => nodeReadCmd t e d
      | 6 => nodeWriteCmd t e d
      | 7 => leafReadCmd t e d
      | 8 => leafWriteCmd t e d
      | op => d.mtrBad op t e
  else d.put mtrUnit off w

/-! ### Match tiles, crypto tiles, PEs and engine hitches -/

/-- A write to a register of match tile `m` (R131, R132): one of CMD, INDEX or DATA is ignored, with OVERRUN, while BUSY. -/
def matchWrite (m off : Nat) (w : Wr) (d : Dev) : Dev :=
  let u := matchId m
  if !w.cmdBuf off 32 then d.put u (kb + off) w
  else if d.gk u Match.TBL_STATUS_BUSY = 1 then d.sk u Match.TBL_STATUS_OVERRUN 1
  else if off = 0x0 then
    let t := w.val Match.TBL_CMD_TABLE_ID
    let e := w.val Match.TBL_CMD_EVT
    if !w.hits Match.TBL_CMD_OP then d
    else match w.val Match.TBL_CMD_OP with
      | 1 => readCmd m t e d
      | 2 => writeCmd m t e d
      | 3 => insertCmd m t e d
      | 4 => deleteCmd m t e d
      | 5 => searchCmd m t e d
      | 6 => nextCmd m t e d
      | 7 => ctlReadCmd m t e d
      | 8 => ctlWriteCmd m t e d
      | 9 => statsCmd m t e d
      | op => d.tblCmd m t op e (fun _ => .bad)
  else d.put u (kb + off) w

/-- A write to a register of crypto tile `n` (R131, R257): one of CMD, INDEX or DATA is ignored, with OVERRUN, while BUSY. -/
def cryptoWrite (n off : Nat) (w : Wr) (d : Dev) : Dev :=
  let u := cryptoId n
  if !w.cmdBuf off 32 then d.put u (kb + off) w
  else if d.gk u Cry.SA_STATUS_BUSY = 1 then d.sk u Cry.SA_STATUS_OVERRUN 1
  else if off = 0x0 then
    let e := w.val Cry.SA_CMD_EVT
    if !w.hits Cry.SA_CMD_OP then d
    else d.saCmd n (w.val Cry.SA_CMD_OP) e
  else d.put u (kb + off) w

/-- A write to a register of a PE (R197): writing 1 to PE_TRAP_INFO.VALID clears the register. -/
def peWrite (u off : Nat) (w : Wr) (d : Dev) : Dev :=
  if off = 0x10 then (if w.one Pe.PE_TRAP_INFO_VALID then d.setCell u (kb + off) 0 else d) else d.put u (kb + off) w

/-- A write to a register of engine hitch `u` (R50, R153, R155, R158, R159). -/
def engineWrite (u off : Nat) (w : Wr) (d : Dev) : Dev :=
  if off = 0x0 then
    let no := w.val Eh.EH_CFG_REORDER_MODE = 3 || (w.changes Eh.EH_CFG_REORDER_MODE && d.gk u Eh.REORDER_STATUS_TAGS_OUT != 0)
    d.put u (kb + off) (w.dropIf no Eh.EH_CFG_REORDER_MODE)
  else if off = 0x8 then
    let bad := w.hits Eh.THREAD_LIMIT_CYCLES && decide (w.val Eh.THREAD_LIMIT_CYCLES < 1024)
    d.putIf (!bad) u u (kb + off) w
  else if off = 0x10 then
    d.putIf (inBound (d.boundAt 0x01 u) (w.val Eh.REIN_MARKS_HIGH_MARK) && inBound (d.boundAt 0x02 u) (w.val Eh.REIN_MARKS_LOW_MARK))
      u u (kb + off) w
  else if off = 0x18 then (d.put u (kb + off) w).watchWindow
  else d.put u (kb + off) w

/-! ### Endpoints and host queues -/

/-- EP_LINK_CTL, R303, R318, R319: each field within its values. -/
def linkCtlWrite (u : Nat) (w : Wr) (d : Dev) : Dev :=
  let width := [1, 2, 4, 8, 16].contains (w.val Ep.EP_LINK_CTL_MAX_WIDTH)
  let narrow := [1, 2, 4, 8].contains (w.val Ep.EP_LINK_CTL_L0P_MIN_WIDTH)
  let idle := w.val Ep.EP_LINK_CTL_L1_IDLE_US
  let w := (w.dropIf (w.val Ep.EP_LINK_CTL_MAX_RATE = 0) Ep.EP_LINK_CTL_MAX_RATE).dropIf (!width) Ep.EP_LINK_CTL_MAX_WIDTH
  d.put u 0x110 ((w.dropIf (idle = 0 || decide (1000 < idle)) Ep.EP_LINK_CTL_L1_IDLE_US).dropIf (!narrow)
    Ep.EP_LINK_CTL_L0P_MIN_WIDTH)

/-- A write by `agent` in the block of endpoint `pf`, past the header (R325, R375, R378): the host does not write its
configuration part. -/
def epWrite (agent pf off : Nat) (w : Wr) (d : Dev) : Dev :=
  let u := epId pf
  let ready := d.on u Ep.EP_CFG_CTL_CFG_READY
  if 0x100 ≤ off ∧ off < 0x130 ∧ !isCore agent then d
  else if off = 0x100 then
    let d := d.put u off ((w.without Ep.EP_CFG_CTL_CFG_READY).dropIf ready Ep.EP_CFG_CTL_ROM_PRESENT)
    if w.one Ep.EP_CFG_CTL_CFG_READY then cfgReadyCmd pf d else d
  else if off = 0x108 then (if ready then d else d.put u off w)
  else if off = 0x110 then linkCtlWrite u w d
  else if off = 0x128 then romData pf (w.v &&& w.m) d
  else if off = 0x800 ∨ off = 0x808 then
    if d.on u Ep.AQ_CFG_ENABLE || d.on u Ep.AQ_STATUS_BUSY then d else d.put u off w
  else if off = 0x810 then (if w.hits Ep.AQ_CFG_ENABLE then aqCfg pf w.merged d else d)
  else if off = 0x908 then (if w.hits Ep.QCTL_ENABLE then qctl pf (w.val Ep.QCTL_ENABLE = 1) d else d)
  else d.put u off w

/-- A write by `agent` to the control block of event queue `q` of owner `o` (R410, R413): the context of a host queue is set
by the admin queue, and that of a management-core queue while its ENABLE is 0. -/
def eqWrite (agent o q off : Nat) (w : Wr) (d : Dev) : Dev :=
  let u := eqUnit o q
  if off = 0x0 then (if w.hits Eqb.EQ_CONS_CONS then eqCons o q (w.val Eqb.EQ_CONS_CONS) d else d)
  else if o < 2 ∨ !isCore agent then d
  else if off = 0x18 then (if d.on u Eqb.EQ_CFG_ENABLE then d else d.put u off w)
  else if off = 0x20 then
    let n := w.val Eqb.EQ_CFG_SIZE_LOG2
    let w' := (w.without Eqb.EQ_CFG_ENABLE).dropIf (d.on u Eqb.EQ_CFG_ENABLE || decide (n < 6) || decide (16 < n)) Eqb.EQ_CFG_SIZE_LOG2
    let d := d.put u off w'
    if w.hits Eqb.EQ_CFG_ENABLE then eqCfgEnable q (w.val Eqb.EQ_CFG_ENABLE = 1) d else d
  else d

/-! ### DMA channels (R389, R397 to R399) -/

/-- CH_CTL: the bits written, each by its own rule. -/
def chCtlWrite (t c : Nat) (w : Wr) (d : Dev) : Dev :=
  let d := if w.one DmaCh.CH_CTL_GO then chGo t c d else d
  let d := if w.one DmaCh.CH_CTL_STOP then chStop t c d else d
  let d := if w.one DmaCh.CH_CTL_RETRY then chRetry t c d else d
  if w.one DmaCh.CH_CTL_SKIP then chSkip t c d else d

/-- A write to a register of channel `c` of DMA tile `t`. While RUNNING, DESC_SPACE, PASID_EN and PASID are not stored, and a
write that would change one sets OVERRUN (assumption 95). -/
def chWriteReg (t c off : Nat) (w : Wr) (d : Dev) : Dev :=
  let u := chUnit t c
  if off = 0x0 then
    let fs := [DmaCh.CH_CFG_DESC_SPACE, DmaCh.CH_CFG_PASID_EN, DmaCh.CH_CFG_PASID]
    let w := w.dropIf (w.val DmaCh.CH_CFG_DESC_SPACE = 3) DmaCh.CH_CFG_DESC_SPACE
    if d.chState t c = 1 then
      (if fs.any (fun f => w.changes f) then d.chRefuse t c else d).put u off (fs.foldl (fun (w : Wr) f => w.without f) w)
    else d.put u off w
  else if off = 0x8 then (if d.chState t c = 0 then d.put u off w else d)
  else if off = 0x10 then chCtlWrite t c w d
  else d.put u off w

/-! ### Mailboxes and locks (R418, R432 to R434) -/

/-- A write by `agent` to a register of channel `c` of mailbox `m`. SEND and CANCEL in one write set OVERRUN. -/
def boxWrite (agent m c off : Nat) (w : Wr) (d : Dev) : Dev :=
  let u := mbxUnit m c
  if off = 0x40 then
    let d := if w.hits MbxCh.CH_CTL_SENDER then senderWrite agent m c (w.val MbxCh.CH_CTL_SENDER) d else d
    let s := w.one MbxCh.CH_CTL_SEND
    let k := w.one MbxCh.CH_CTL_CANCEL
    if s && k then (if d.boxForeign agent m c then d.bump Root.MBX_FOREIGN else d.s u MbxCh.CH_STAT_OVERRUN 1)
    else if s then send agent m c d
    else if k then cancel agent m c d
    else d
  else if off < 0x40 then
    if d.boxForeign agent m c then d.bump Root.MBX_FOREIGN
    else if d.on u MbxCh.CH_STAT_FULL then d.s u MbxCh.CH_STAT_OVERRUN 1
    else d.put u off w
  else if w.one MbxCh.CH_STAT_TIMEOUT || w.one MbxCh.CH_STAT_OVERRUN then
    if d.boxForeign agent m c then d.bump Root.MBX_FOREIGN else d.put u off w
  else d

/-- A write by `agent` to the receiver block of mailbox `m`: RX_CFG takes the receiving core's writes. -/
def boxRxWrite (agent m off : Nat) (w : Wr) (d : Dev) : Dev :=
  if off = 0x8 ∧ agent = boxCore m then d.put (mrxUnit m) off w else d

/-- A write by `agent` to a register of lock `n`. -/
def lockWrite (agent n off : Nat) (d : Dev) : Dev :=
  if off = 0x8 then lockRel agent n d else if off = 0x18 then lockBreak agent n d else d

end Sys2Proof.Machine
end

