-- ==== Sys2Proof/Machine/Bus.lean ====
section
/-! DEFINITION. Accesses to harness space by the management cores and by the host: where an address falls (R14 to R16, R25,
R531, R575), what a register reads as, the rules of width and parity (R15, R503), and a function's memory space (R311 to
R317). -/

namespace Sys2Proof.Machine

/-! ### Where an address falls -/

/-- What stands at a harness address. `owner` is the unit that latches a refused access (R15, R413, R575). -/
inductive Tgt where
  /-- A memory window (R16, R531). -/
  | mem
  /-- The flash read window, at a flash offset (R531). -/
  | flash (o : Nat)
  /-- The relay receive ring, at an offset (R531). -/
  | relay (o : Nat)
  /-- The cell at `off` of store unit `u`; `tree`: in a unit block of the tree. -/
  | cell (owner u off : Nat) (tree : Bool)
  /-- A word that software only reads. -/
  | ro (owner : Nat) (v : Word)
  /-- Byte `o` of page `q` of the doorbell array of function `pf` (R314). -/
  | door (pf q o : Nat)
  /-- Reads 0 and ignores writes without an event (R16, R575). -/
  | quiet
  /-- In no block, range or window (R16). -/
  | unmapped
  deriving DecidableEq, Repr

/-- The cell at `off` of a 64 KiB unit block (R14, R25): the header, then the registers of the unit's kind. -/
def Dev.blockTgt (d : Dev) (u off : Nat) : Tgt :=
  let o := off / 8 * 8
  let here := fun (v p : Nat) => Tgt.cell u v p true
  if off < 0x40 then here u o
  else if off < 0x100 then .ro u 0
  else match d.kindOf u with
    | 0x01 | 0x02 | 0x03 | 0x05 | 0x06 | 0x0B | 0x83 => here u (kb + o - 0x100)
    | 0x04 =>
      if o < 0x1100 then here (chUnit (u - dmaId 0) ((o - 0x100) / 0x100)) ((o - 0x100) % 0x100) else here u (kb + o - 0x100)
    | 0x08 | 0x85 => here u o
    | 0x81 =>
      if 0x1000 ≤ o ∧ o < 0x5000 then .ro u (d.ow Cls.reinLog.code ((o - 0x1000) / 16) (o / 8 % 2))
      else if 0x5100 ≤ o ∧ o < 0x5230 then here (regionUnit ((o - 0x5100) / 0x10)) (o % 0x10)
      else if 0x6000 ≤ o ∧ o < 0x6100 then here (mcUnit ((o - 0x6000) / 0x20)) (o % 0x20)
      else if 0x6400 ≤ o ∧ o < 0x6800 then here (i2cUnit ((o - 0x6400) / 0x100)) (o % 0x100)
      else here u o
    | _ => .ro u 0

/-- The function whose host group is hitch `u`, if any. -/
def Dev.groupPf (d : Dev) (u : Nat) : Option Nat :=
  if d.kindOf u ≠ 0x85 then none else [0, 1].find? (fun pf => d.hostGroup pf = u)

/-- R16, R314, R413: beyond its block, a host group hitch carries event queue control blocks and its doorbell array. What is left
between the block of a hitch and its member slots lies within the slots of the hitch above, but for the root's. -/
def Dev.spanTgt (d : Dev) (u off : Nat) : Tgt :=
  match d.groupPf u with
  | none => if u = rootId then .unmapped else .quiet
  | some pf =>
    let o := off / 8 * 8
    if off < 0x20000 then .cell u (eqUnit pf ((o - 0x10000) / 0x40)) (o % 0x40) false
    else if 0x40000000 ≤ off ∧ off < 0x80000000 then .door pf ((off - 0x40000000) / 4096) (off % 4096)
    else .quiet

/-- R218, R219, R236, R239, R575: the switch core's block. What no register occupies reads 0. -/
def switchTgt (o : Nat) : Tgt :=
  let at_ := fun (u p : Nat) => Tgt.cell switchId u p false
  if o < 0x10000 then at_ switchId (kb + o)
  else if o < 0x40000 then
    let p := (o - 0x10000) / 0x1000
    let r := o % 0x1000
    if r < 0x100 then at_ (swpUnit p) r
    else if r < 0x900 then at_ (swcUnit p (r / 0x100 - 1)) (r % 0x100)
    else .ro switchId 0
  else if 0x80000 ≤ o ∧ o < 0xA6000 then
    let p := (o - 0x80000) / 0x2000
    if p = 16 ∨ p = 17 then .ro switchId 0 else at_ (wsUnit p) (o % 0x2000)
  else if 0xC0000 ≤ o ∧ o < 0xC1000 then at_ mtrUnit (o - 0xC0000)
  else .ro switchId 0

/-- R73, R567: the MAC port array. A lane that is no port's first shows PORT_CFG only of the port part. -/
def Dev.macTgt (d : Dev) (o : Nat) : Tgt :=
  let l := o / 0x4000
  let r := o % 0x4000
  let u := macId l
  if r < 0x2000 then
    if d.isPort l then .cell u u (kb + r) false
    else .ro u (if r = 0 then d.cell u kb else 0)
  else if r < 0x3000 then .cell u u (kb + r) false
  else if l = 0 then .cell u u (kb + r) false
  else .ro u 0

/-- R531: the ranges of the management-core window. -/
def coreTgt (o : Nat) : Tgt :=
  let c := o / 8 * 8
  let at_ := fun (u p : Nat) => Tgt.cell rootId u p false
  if o < 0x400000 then .mem
  else if 0x1000000 ≤ o ∧ o < 0x1010000 then at_ (mbxUnit ((o - 0x1000000) / 0x400) (o % 0x400 / 0x40)) (c % 0x40)
  else if 0x1010000 ≤ o ∧ o < 0x1014000 then
    let k := (o - 0x1010000) / 0x10
    at_ (mbxUnit (k / 16) (k % 16)) (0x40 + c % 0x10)
  else if 0x1014000 ≤ o ∧ o < 0x1016000 then at_ (mrxUnit ((o - 0x1014000) / 0x80)) (c % 0x80)
  else if 0x1018000 ≤ o ∧ o < 0x1020000 then at_ (lockUnit ((o - 0x1018000) / 0x20)) (c % 0x20)
  else if 0x1020000 ≤ o ∧ o < 0x1030000 then at_ (eqUnit 2 ((o - 0x1020000) / 0x40)) (c % 0x40)
  else if 0x1030000 ≤ o ∧ o < 0x1034800 then .relay (o - 0x1030000)
  else if 0x10000000 ≤ o ∧ o < 0x20000000 then .flash (o - 0x10000000)
  else .unmapped

/-- What stands at harness address `a`. -/
def Dev.tgt (d : Dev) (a : Nat) : Tgt :=
  if 0xFF0000000000 ≤ a then coreTgt (a - 0xFF0000000000)
  else if 0xFE0001000000 ≤ a then .unmapped
  else if 0xFE0000140000 ≤ a then .quiet
  else if 0xFE0000100000 ≤ a then d.macTgt ((a - 0xFE0000100000) / 8 * 8)
  else if 0xFE0000000000 ≤ a then switchTgt ((a - 0xFE0000000000) / 8 * 8)
  else if (d.window a 1).isSome then .mem
  else match d.locate a with
    | .block u off => d.blockTgt u off
    | .span u off => d.spanTgt u off
    | .slots => .quiet
    | .outside => .unmapped

/-! ### Writing a register -/

/-- A write to a cell of a block that is no unit's own. -/
def pseudoWrite (agent u off : Nat) (w : Wr) (e : BusEnv) (d : Dev) : Dev :=
  if u < 0x1001000 then swpWrite (u - 0x1000000) off w d
  else if u < 0x1002000 then swcWrite ((u - 0x1001000) / 8) ((u - 0x1001000) % 8) off w d
  else if u < 0x1003000 then wsWrite (u - 0x1002000) off w d
  else if u < 0x1004000 then mtrWrite off w d
  else if u < 0x1010000 then chWriteReg ((u - 0x1004000) / 16) ((u - 0x1004000) % 16) off w d
  else if u < 0x1020000 then eqWrite agent ((u - 0x1010000) / 1024) ((u - 0x1010000) % 1024) off w d
  else if u < 0x1021000 then boxWrite agent ((u - 0x1020000) / 16) ((u - 0x1020000) % 16) off w d
  else if u < 0x1022000 then boxRxWrite agent (u - 0x1021000) off w d
  else if u < 0x1023000 then lockWrite agent (u - 0x1022000) off d
  else if u < 0x1024000 then d.put u off w
  else if u < 0x1025000 then mcWrite agent (u - 0x1024000) off w d
  else i2cWrite agent (u - 0x1025000) off w e d

/-- A write to a kind-specific cell of a unit, at `off` from its KIND_BLOCK. -/
def kindWrite (u off : Nat) (w : Wr) (d : Dev) : Dev :=
  match fixedKind u with
  | 0x01 => peWrite u off w d
  | 0x02 => matchWrite (u - matchId 0) off w d
  | 0x03 => cryptoWrite (u - cryptoId 0) off w d
  | 0x07 => macWrite (u - macId 0) off w d
  | 0x00 => engineWrite u off w d
  | _ => d.put u (kb + off) w

/-- A write by `agent` to the cell at `off` of store unit `u`. -/
def regWrite (agent u off : Nat) (w : Wr) (e : BusEnv) (d : Dev) : Dev :=
  if 0x1000000 ≤ u then pseudoWrite agent u off w e d
  else if off < 0x40 then hdrWrite u off w e d
  else if kb ≤ off then kindWrite u (off - kb) w d
  else if u = rootId then rootWrite agent off w e d
  else if fixedKind u = 0x08 then epWrite agent (u - epId 0) off w d
  else d

/-! ### Reading a register -/

/-- A read whose device function emits the value read: the value is taken off the outputs. -/
def Dev.taking (d : Dev) (f : Dev → Dev) : Dev × Word :=
  let d' := f d
  let new := d'.out.drop d.out.length
  let v := new.findSome? (fun o => match o with
    | .readData v => some v
    | _ => none)
  let rest := new.filter (fun o => match o with
    | .readData _ => false
    | _ => true)
  ({ d' with out := d'.out.take d.out.length ++ rest }, v.getD 0)

/-- A read by `agent` of the bits `m` of the cell at `off` of store unit `u`: its value and what the read changes (R7). -/
def regRead (agent u off : Nat) (m : Word) (d : Dev) : Dev × Word :=
  let plain := (d.setCell u off (cellAfterRead (cellFlds u off) (d.cell u off) m), cellRead (cellFlds u off) (d.shown u off))
  if u = rootId ∧ off = 0x510 then d.taking rngDataRead
  else if fixedKind u = 0x07 ∧ off = kb + 0x78 then d.taking (txTsRead (u - macId 0))
  else if 0x1021000 ≤ u ∧ u < 0x1022000 then
    let b := u - 0x1021000
    if off = 0x40 ∧ m.toNat % 2 ^ 32 ≠ 0 then d.taking (mailboxLatch agent b)
    else if off = 0x78 ∧ 2 ^ 32 ≤ m.toNat then d.taking (mailboxRelease agent b)
    else if 0x40 ≤ off ∧ off < 0x80 then (d, d.rxMsg b ((off - 0x40) / 8))
    else plain
  else if 0x1022000 ≤ u ∧ u < 0x1023000 ∧ off = 0 then
    if isAgent agent ∧ m.toNat % 2 ^ 32 ≠ 0 then d.taking (lockTry agent (u - 0x1022000)) else (d, d.lockWord (u - 0x1022000))
  else plain

/-! ### An access -/

/-- Harness offset of the relay receive ring within the core memory space of the byte store (R531). -/
def relayBase : Nat := 0x1030000

/-- A read of byte `o` of the relay ring marks its slot read (R498). -/
def Dev.relayRead (d : Dev) (o : Nat) : Dev :=
  { d with relay := { d.relay with unread := d.relay.unread.filter (· ≠ o / 288) } }

/-- R16: an access to an address that nothing occupies. -/
def Dev.unmappedAt (d : Dev) (a : Nat) (write : Bool) : Dev :=
  d.raise rootId 0x0003 0 (a % 2 ^ 48 + write.toNat * 2 ^ 63)

/-- R15, R503: an access to a register that is refused for its width or alignment, or for bad parity: the unit latches ERR. -/
def Dev.refuseAt (d : Dev) (owner a size : Nat) (parity : Bool) : Option Dev :=
  if (size ≠ 4 ∧ size ≠ 8) ∨ a % size ≠ 0 then some (d.latchErr owner Sc.malformed)
  else if !parity then some ((d.meshErr owner a).latchErr owner Sc.integrity)
  else none

/-- A write of `v` by `agent` to a cell; within a PATCHING hitch's block only UNIT_RESET is heard (R23, R66). -/
def Dev.cellStore (d : Dev) (agent u off : Nat) (tree : Bool) (m v : Word) (e : BusEnv) : Dev :=
  let w : Wr := { old := d.cell u off, m := m, v := v }
  if tree && d.inPatching u then
    if off = 0x8 ∧ w.one Hdr.UNIT_CONTROL_UNIT_RESET then unitReset u e.t3 e.t4 e.t5 d else d
  else regWrite agent u off w e d

/-- Bytes `lo` to `lo + n − 1` of a word. -/
def wordBytes (v : Word) (lo n : Nat) : List Byte := sliceBytes (leBytes 8 v.toNat) lo n

/-- A read of `size` bytes at harness address `a` by `agent`: the device and the bytes. -/
def Dev.readAt (d : Dev) (agent a size : Nat) (e : BusEnv) : Dev × List Byte :=
  let zeros : List Byte := List.replicate size 0
  let ones : List Byte := List.replicate size 0xFF
  match d.tgt a with
  | .mem => (d, (List.range size).map (fun i => ((d.windowRead (a + i) 1).head?).getD 0))
  | .flash o => (d, d.readMem .flash o size)
  | .relay o => (d.relayRead o, d.readMem .core (relayBase + o) size)
  | .door _ _ _ => (d, zeros)
  | .quiet => (d, zeros)
  | .unmapped => (d.unmappedAt a false, zeros)
  | .ro owner v =>
    match d.refuseAt owner a size e.parity with
    | some d => (d, ones)
    | none => (d, wordBytes v (a % 8) size)
  | .cell owner u off _ =>
    match d.refuseAt owner a size e.parity with
    | some d => (d, ones)
    | none =>
      let (d, v) := regRead agent u off (fieldMask (8 * (a % 8)) (8 * size)) d
      (d, wordBytes v (a % 8) size)

/-- A write of bytes at harness address `a` by `agent`; `en` tells which are enabled. -/
def Dev.writeAt (d : Dev) (agent a : Nat) (bs : List Byte) (en : Nat → Bool) (e : BusEnv) : Dev :=
  match d.tgt a with
  | .mem => (List.range bs.length).foldl (fun (d : Dev) i => if en i then d.windowWrite (a + i) [bs.getD i 0] else d) d
  | .flash _ => d
  | .relay _ => d
  | .door pf q o => hostDoorbell pf q o bs.length d
  | .quiet => d
  | .unmapped => d.unmappedAt a true
  | .ro owner _ => (d.refuseAt owner a bs.length e.parity).getD d
  | .cell owner u off tree =>
    match d.refuseAt owner a bs.length e.parity with
    | some d => d
    | none =>
      let sh := 8 * (a % 8)
      d.cellStore agent u off tree (fieldMask sh (8 * bs.length)) (BitVec.ofNat 64 (leNat bs * 2 ^ sh)) e

/-- REGISTER_WRITE, R7, R14 to R17: an access by `agent` of `size` bytes at harness address `addr`. A read answers its
value. -/
def registerWrite (agent addr size : Nat) (op : BusOp) (env : BusEnv) (d : Dev) : Dev :=
  match op with
  | .read =>
    let (d, bs) := d.readAt agent addr size env
    d.emit (.readData (BitVec.ofNat 64 (leNat bs)))
  | .write v => d.writeAt agent addr (leBytes size v.toNat) (fun _ => true) env

/-- REGISTER_WRITE. -/
def execRegisterWrite (agent addr size : Nat) (op : BusOp) (env : BusEnv) (s : State) : Host.Outcome State Fault Refusal :=
  s.run (registerWrite agent addr size op env)

/-- UNMAPPED_ACCESS, R16: an access to an address in no unit block, fixed range or mapped window. At any other address this
happening has no place. -/
def unmappedAccess (addr : Nat) (write : Bool) (d : Dev) : Dev :=
  let d' := if write then d else d.emit (.readData 0)
  match d.tgt addr with
  | .unmapped => d'.unmappedAt addr write
  | .quiet => d'
  | _ => d

/-- UNMAPPED_ACCESS. -/
def execUnmappedAccess (addr : Nat) (write : Bool) (s : State) : Host.Outcome State Fault Refusal :=
  s.run (unmappedAccess addr write)

/-! ### A function's memory space (R311 to R317) -/

/-- A request of the host: its function, byte offset, length, byte enables (bit `i` for byte `i`) and, for a write, the bytes. -/
structure Tlp where
  pf : Nat
  off : Nat
  len : Nat
  be : Nat
  write : Option (List Byte)
  deriving DecidableEq, Repr

/-- R312: 4 or 8 bytes, naturally aligned, every byte enabled. -/
def Tlp.ok (t : Tlp) : Bool := (t.len = 4 || t.len = 8) && t.off % t.len = 0 && t.be = 2 ^ t.len - 1

/-- The bytes of a write, padded or cut to the length of the request. -/
def Tlp.bytes (t : Tlp) : List Byte := sliceBytes (t.write.getD []) 0 t.len

/-- A read completes with bytes; a posted write gives no answer. -/
def Dev.cplAnswer (d : Dev) (t : Tlp) (bs : List Byte) : Dev := if t.write.isSome then d else d.emit (.readBytes bs)

/-- R312: a refused request: a read completes with all ones, and BAD_SIZE counts it. -/
def Dev.badSize (d : Dev) (t : Tlp) : Dev := (d.hgBump t.pf Hg.BAD_SIZE).cplAnswer t (List.replicate t.len 0xFF)

/-- The read or write of request `t` at harness address `a`, by the function. -/
def Dev.hostAt (d : Dev) (t : Tlp) (a : Nat) (e : BusEnv) : Dev :=
  if t.write.isSome then d.writeAt (epId t.pf) a t.bytes (fun i => t.be / 2 ^ i % 2 = 1) e
  else
    let (d, bs) := d.readAt (epId t.pf) a t.len e
    d.cplAnswer t bs

/-- R312: request `t` translated to harness address `a`, `room` bytes before the end of its window. -/
def Dev.hostTranslated (d : Dev) (t : Tlp) (a room : Nat) (e : BusEnv) : Dev :=
  match d.tgt a with
  | .cell owner _ _ _ | .ro owner _ => if t.ok then d.hostAt t a e else (d.badSize t).latchErr owner Sc.malformed
  | .mem => if t.len ≤ room ∧ (d.window a t.len).isSome then d.hostAt t a e else d.badSize t
  | _ => if t.len ≤ room then d.hostAt t a e else d.badSize t

/-- R312: an unmapped access: zeros or nothing, counted, with an event at most once a millisecond. -/
def Dev.hostUnmapped (d : Dev) (t : Tlp) (bar : Nat) : Dev :=
  (d.cplAnswer t (List.replicate t.len 0)).hostUnmappedAt t.pf bar t.off t.write.isSome

/-- R313: the entry of the BAR0 table of function `pf` that covers offset `o`: its harness address there and the bytes left of
its window. -/
def Dev.apt0 (d : Dev) (pf o : Nat) : Option (Nat × Nat) :=
  let h := d.hostGroup pf
  (List.range 64).findSome? (fun i =>
    let n := 2 ^ d.g h (Hg.APT0_SIZE_LOG2 i)
    let b := d.g h (Hg.APT0_OFFSET i) * 4096
    if d.on h (Hg.APT0_VALID i) && decide (b ≤ o) && decide (o < b + n) then some (d.g h (Hg.APT0_HADDR i) + (o - b), b + n - o)
    else none)

/-- R310, R311: the MSI-X table and Pending Bit Array. A vector's control word stores its mask bit; the array is read-only. -/
def Dev.hostMsix (d : Dev) (t : Tlp) : Dev :=
  let u := msixUnit t.pf
  let o := t.off - 0x10000
  let c := o / 8 * 8
  if !t.ok then d.badSize t
  else if t.write.isSome then
    if 0x4000 ≤ o then d
    else
      let m := fieldMask (8 * (o % 8)) (8 * t.len) &&& (if c % 16 = 8 then 0x1FFFFFFFF else BitVec.ofNat 64 (2 ^ 64 - 1))
      let v := BitVec.ofNat 64 (leNat t.bytes * 2 ^ (8 * (o % 8)))
      (d.setCell u c ((d.cell u c &&& ~~~ m) ||| (v &&& m))).msixPump t.pf
  else d.cplAnswer t (wordBytes (d.cell u c) (o % 8) t.len)

/-- R311, R315: a request to BAR0. -/
def Dev.hostBar0 (d : Dev) (t : Tlp) (e : BusEnv) : Dev :=
  let o := t.off
  if o < 0x10000 then
    let a := d.addrOf (epId t.pf) + o
    if t.ok then d.hostAt t a e else (d.badSize t).latchErr (epId t.pf) Sc.malformed
  else if o < 0x14000 ∨ (0x18000 ≤ o ∧ o < 0x18080) then d.hostMsix t
  else if o < 0x100000 then d.cplAnswer t (List.replicate t.len 0)
  else match (if d.aptLive then d.apt0 t.pf o else none) with
    | some (a, room) => d.hostTranslated t a room e
    | none => d.hostUnmapped t 0

/-- First enabled byte of a request, and the number from it to the last. -/
def Tlp.span (t : Tlp) : Nat × Nat :=
  let on := (List.range t.len).filter (fun i => t.be / 2 ^ i % 2 = 1)
  match on.head?, on.getLast? with
  | some a, some b => (a, b + 1 - a)
  | _, _ => (0, 0)

/-- R311, R315, R354: a request to BAR2, a doorbell page. Reads return 0. -/
def Dev.hostBar2 (d : Dev) (t : Tlp) : Dev :=
  if d.pageOpen t.pf (t.off / 4096) then
    if t.write.isSome then
      let (a, n) := t.span
      hostDoorbell t.pf (t.off / 4096) (t.off % 4096 + a) n d
    else d.cplAnswer t (List.replicate t.len 0)
  else d.hostUnmapped t 2

/-- R317: a request to the Expansion ROM window, while the host has enabled it. -/
def Dev.hostRom (d : Dev) (t : Tlp) : Dev :=
  if d.on (epId t.pf) Ep.EP_CFG_CTL_ROM_PRESENT && (d.ep t.pf).cfgStored 0x30 % 2 = 1 then
    d.cplAnswer t (d.readMem .rom (t.pf * 2 ^ 20 + t.off % 2 ^ 20) t.len)
  else d

/-- HOST_MEMORY_REQUEST, R308 to R317, R324: a memory TLP to a BAR of function `pf` (6 is the Expansion ROM window). `ide`: the IDE
stream the request came on, and whether its MAC is right. The function answers in D0 with Memory Space Enable set. -/
def hostMemoryRequest (pf bar off len be : Nat) (write : Option (List Byte)) (ide : Option (Nat × Bool)) (env : BusEnv) (d : Dev) :
    Dev :=
  let x := d.ep pf
  let t : Tlp := { pf := pf, off := off, len := len, be := be, write := write }
  let go := fun (d : Dev) => if bar = 0 then d.hostBar0 t env else if bar = 2 then d.hostBar2 t else if bar = 6 then d.hostRom t else d
  if !d.answers pf then d
  else match ide with
    | none => go d
    | some (s, ok) =>
      if x.ideInsecure.contains s then d
      else if ok then go d
      else (d.setEp pf (fun (e : EpSt) => { e with ideInsecure := s :: e.ideInsecure })).raise (epId pf) 0x0005 0 s

/-- HOST_MEMORY_REQUEST. -/
def execHostMemoryRequest (pf bar off len be : Nat) (write : Option (List Byte)) (ide : Option (Nat × Bool)) (env : BusEnv)
    (s : State) : Host.Outcome State Fault Refusal :=
  s.run (hostMemoryRequest pf bar off len be write ide env)

end Sys2Proof.Machine
end

