-- ==== Sys2Proof/Machine/Dispatch.lean ====
section
/-! DEFINITION. The meaning of each command: one arm per constructor of Instr, each one direct call of its meaning. -/

namespace Sys2Proof.Machine

/-- What a command does to the device, on everything but the queue of waiting commands. -/
def exec (i : Instr) (s : State) : Host.Outcome State Fault Refusal :=
  match i with
  | .registerWrite agent addr size op env => Sys2Proof.Machine.execRegisterWrite agent addr size op env s
  | .unmappedAccess addr write => Sys2Proof.Machine.execUnmappedAccess addr write s
  | .errClear u => Sys2Proof.Machine.execErrClear u s
  | .enableWrite u en => Sys2Proof.Machine.execEnableWrite u en s
  | .drain u => Sys2Proof.Machine.execDrain u s
  | .drainDone u => Sys2Proof.Machine.execDrainDone u s
  | .unitReset u t3 t4 t5 => Sys2Proof.Machine.execUnitReset u t3 t4 t5 s
  | .unitResetDone u => Sys2Proof.Machine.execUnitResetDone u s
  | .eventSourceWrite u v => Sys2Proof.Machine.execEventSourceWrite u v s
  | .doorbell u => Sys2Proof.Machine.execDoorbell u s
  | .rootLocateId id => Sys2Proof.Machine.execRootLocateId id s
  | .locateDone => Sys2Proof.Machine.execLocateDone s
  | .imageStage pf idx data => Sys2Proof.Machine.execImageStage pf idx data s
  | .imageApply pf idx => Sys2Proof.Machine.execImageApply pf idx s
  | .imageWriteSlot pf idx => Sys2Proof.Machine.execImageWriteSlot pf idx s
  | .slotWriteDone readBack => Sys2Proof.Machine.execSlotWriteDone readBack s
  | .patchSwap => Sys2Proof.Machine.execPatchSwap s
  | .patchDrainTimeout => Sys2Proof.Machine.execPatchDrainTimeout s
  | .patchResume => Sys2Proof.Machine.execPatchResume s
  | .frameReceive l smd cnt bs more mcrc code syms => Sys2Proof.Machine.execFrameReceive l smd cnt bs more mcrc code syms s
  | .pauseTimerExpiry l c => Sys2Proof.Machine.execPauseTimerExpiry l c s
  | .linkUp l => Sys2Proof.Machine.execLinkUp l s
  | .linkDown l => Sys2Proof.Machine.execLinkDown l s
  | .trainFail l => Sys2Proof.Machine.execTrainFail l s
  | .trainRetry l => Sys2Proof.Machine.execTrainRetry l s
  | .pfcRefresh l => Sys2Proof.Machine.execPfcRefresh l s
  | .preemptVerifyTimeout l => Sys2Proof.Machine.execPreemptVerifyTimeout l s
  | .wireSelect p sent => Sys2Proof.Machine.execWireSelect p sent s
  | .txUnderrun l sent => Sys2Proof.Machine.execTxUnderrun l sent s
  | .txStartWindow l => Sys2Proof.Machine.execTxStartWindow l s
  | .txTsRead l => Sys2Proof.Machine.execTxTsRead l s
  | .timebaseTick => Sys2Proof.Machine.execTimebaseTick s
  | .tbAdj v => Sys2Proof.Machine.execTbAdj v s
  | .tbSetNs v => Sys2Proof.Machine.execTbSetNs v s
  | .tbCapture => Sys2Proof.Machine.execTbCapture s
  | .prismInput n => Sys2Proof.Machine.execPrismInput n s
  | .prismParse n => Sys2Proof.Machine.execPrismParse n s
  | .classify n => Sys2Proof.Machine.execClassify n s
  | .fastpathDecide => Sys2Proof.Machine.execFastpathDecide s
  | .learnApply m => Sys2Proof.Machine.execLearnApply m s
  | .moveWindow m => Sys2Proof.Machine.execMoveWindow m s
  | .ageVisit id => Sys2Proof.Machine.execAgeVisit id s
  | .tableChangeStep m => Sys2Proof.Machine.execTableChangeStep m s
  | .lookup m => Sys2Proof.Machine.execLookup m s
  | .tblRead m id evt => Sys2Proof.Machine.execRead m id evt s
  | .tblWrite m id evt => Sys2Proof.Machine.execWrite m id evt s
  | .tblInsert m id evt => Sys2Proof.Machine.execInsert m id evt s
  | .tblDelete m id evt => Sys2Proof.Machine.execDelete m id evt s
  | .tblSearch m id evt => Sys2Proof.Machine.execSearch m id evt s
  | .tblNext m id evt => Sys2Proof.Machine.execNext m id evt s
  | .ctlRead m id evt => Sys2Proof.Machine.execCtlRead m id evt s
  | .ctlWrite m id evt => Sys2Proof.Machine.execCtlWrite m id evt s
  | .tblStats m id evt => Sys2Proof.Machine.execStats m id evt s
  | .tblCmdDone m => Sys2Proof.Machine.execTblCmdDone m s
  | .dispatch h => Sys2Proof.Machine.execDispatch h s
  | .lookupResult n => Sys2Proof.Machine.execLookupResult n s
  | .threadCycleLimit n t => Sys2Proof.Machine.execThreadCycleLimit n t s
  | .reorderRelease h => Sys2Proof.Machine.execReorderRelease h s
  | .addd n => Sys2Proof.Machine.execAdd n s
  | .subb n => Sys2Proof.Machine.execSub n s
  | .andd n => Sys2Proof.Machine.execAnd n s
  | .orr n => Sys2Proof.Machine.execOr n s
  | .xorr n => Sys2Proof.Machine.execXor n s
  | .shl n => Sys2Proof.Machine.execShl n s
  | .shr n => Sys2Proof.Machine.execShr n s
  | .sar n => Sys2Proof.Machine.execSar n s
  | .mull n => Sys2Proof.Machine.execMul n s
  | .slt n => Sys2Proof.Machine.execSlt n s
  | .sltu n => Sys2Proof.Machine.execSltu n s
  | .addi n => Sys2Proof.Machine.execAddi n s
  | .andi n => Sys2Proof.Machine.execAndi n s
  | .ori n => Sys2Proof.Machine.execOri n s
  | .xori n => Sys2Proof.Machine.execXori n s
  | .shli n => Sys2Proof.Machine.execShli n s
  | .shri n => Sys2Proof.Machine.execShri n s
  | .movi n => Sys2Proof.Machine.execMovi n s
  | .movk n => Sys2Proof.Machine.execMovk n s
  | .ext n => Sys2Proof.Machine.execExt n s
  | .exts n => Sys2Proof.Machine.execExts n s
  | .ins n => Sys2Proof.Machine.execIns n s
  | .hld n => Sys2Proof.Machine.execHld n s
  | .hst n => Sys2Proof.Machine.execHst n s
  | .hadj n => Sys2Proof.Machine.execHadj n s
  | .ldw n => Sys2Proof.Machine.execLdw n s
  | .ldd n => Sys2Proof.Machine.execLdd n s
  | .stw n => Sys2Proof.Machine.execStw n s
  | .std n => Sys2Proof.Machine.execStd n s
  | .beq n => Sys2Proof.Machine.execBeq n s
  | .bne n => Sys2Proof.Machine.execBne n s
  | .blt n => Sys2Proof.Machine.execBlt n s
  | .bge n => Sys2Proof.Machine.execBge n s
  | .bltu n => Sys2Proof.Machine.execBltu n s
  | .bgeu n => Sys2Proof.Machine.execBgeu n s
  | .bbs n => Sys2Proof.Machine.execBbs n s
  | .bbc n => Sys2Proof.Machine.execBbc n s
  | .jal n => Sys2Proof.Machine.execJal n s
  | .jr n => Sys2Proof.Machine.execJr n s
  | .csadd n => Sys2Proof.Machine.execCsadd n s
  | .cshv n => Sys2Proof.Machine.execCshv n s
  | .csfin n => Sys2Proof.Machine.execCsfin n s
  | .crcr n => Sys2Proof.Machine.execCrcr n s
  | .crchv n => Sys2Proof.Machine.execCrchv n s
  | .lk n => Sys2Proof.Machine.execLk n s
  | .tins n => Sys2Proof.Machine.execTins n s
  | .tdel n => Sys2Proof.Machine.execTdel n s
  | .twr n => Sys2Proof.Machine.execTwr n s
  | .atomAdd n => Sys2Proof.Machine.execAtomAdd n s
  | .atomSwp n => Sys2Proof.Machine.execAtomSwp n s
  | .atomCas n => Sys2Proof.Machine.execAtomCas n s
  | .cnt n => Sys2Proof.Machine.execCnt n s
  | .pol n => Sys2Proof.Machine.execPol n s
  | .polMeter m => Sys2Proof.Machine.execPolMeter m s
  | .emitCopy n => Sys2Proof.Machine.execEmitCopy n s
  | .emitFinal n => Sys2Proof.Machine.execEmitFinal n s
  | .drop n => Sys2Proof.Machine.execDrop n s
  | .rds n => Sys2Proof.Machine.execRds n s
  | .reinWindowEnd ms => Sys2Proof.Machine.execReinWindowEnd ms s
  | .reinAddJoin h => Sys2Proof.Machine.execReinAddJoin h s
  | .reinRemoveDone h => Sys2Proof.Machine.execReinRemoveDone h s
  | .drainTimeout h => Sys2Proof.Machine.execDrainTimeout h s
  | .packetAdmit port => Sys2Proof.Machine.execPacketAdmit port s
  | .heldRetry port o c => Sys2Proof.Machine.execHeldRetry port o c s
  | .packetDequeue o bad => Sys2Proof.Machine.execPacketDequeue o bad s
  | .replicate bad => Sys2Proof.Machine.execReplicate bad s
  | .fetchGrant early => Sys2Proof.Machine.execFetchGrant early s
  | .shaperRefill => Sys2Proof.Machine.execShaperRefill s
  | .gclChange p => Sys2Proof.Machine.execGclChange p s
  | .gclChangeApply p => Sys2Proof.Machine.execGclChangeApply p s
  | .gclEntryAdvance p => Sys2Proof.Machine.execGclEntryAdvance p s
  | .shpRead table evt => Sys2Proof.Machine.execShpRead table evt s
  | .shpWrite table evt => Sys2Proof.Machine.execShpWrite table evt s
  | .polRead table evt => Sys2Proof.Machine.execPolRead table evt s
  | .polWrite table evt => Sys2Proof.Machine.execPolWrite table evt s
  | .nodeRead table evt => Sys2Proof.Machine.execNodeRead table evt s
  | .nodeWrite table evt => Sys2Proof.Machine.execNodeWrite table evt s
  | .leafRead table evt => Sys2Proof.Machine.execLeafRead table evt s
  | .leafWrite table evt => Sys2Proof.Machine.execLeafWrite table evt s
  | .meterCmdDone => Sys2Proof.Machine.execMeterCmdDone s
  | .cryptoProcess n => Sys2Proof.Machine.execCryptoProcess n s
  | .saStep m ecc => Sys2Proof.Machine.execSaStep m ecc s
  | .saSweep m => Sys2Proof.Machine.execSaSweep m s
  | .saRead n evt => Sys2Proof.Machine.execSaRead n evt s
  | .saInstall n evt => Sys2Proof.Machine.execSaInstall n evt s
  | .saUpdate n evt => Sys2Proof.Machine.execSaUpdate n evt s
  | .saRevoke n evt => Sys2Proof.Machine.execSaRevoke n evt s
  | .saCmdDone n => Sys2Proof.Machine.execSaCmdDone n s
  | .entropyTestFail samples => Sys2Proof.Machine.execEntropyTestFail samples s
  | .entropyRestartDone samples => Sys2Proof.Machine.execEntropyRestartDone samples s
  | .drbgSeed => Sys2Proof.Machine.execDrbgSeed s
  | .drbgReseedDue => Sys2Proof.Machine.execDrbgReseedDue s
  | .randomRequestServe reach => Sys2Proof.Machine.execRandomRequestServe reach s
  | .rngDataRead => Sys2Proof.Machine.execRngDataRead s
  | .getRandom pf idx => Sys2Proof.Machine.execGetRandom pf idx s
  | .entRestart => Sys2Proof.Machine.execEntRestart s
  | .transportRx ents ecc => Sys2Proof.Machine.execTransportRx ents ecc s
  | .transportSend cid data => Sys2Proof.Machine.execTransportSend cid data s
  | .ackTimer cid => Sys2Proof.Machine.execAckTimer cid s
  | .retransmitTimeout cid => Sys2Proof.Machine.execRetransmitTimeout cid s
  | .rnrWaitExpiry cid => Sys2Proof.Machine.execRnrWaitExpiry cid s
  | .tetherRelease cid => Sys2Proof.Machine.execTetherRelease cid s
  | .connCreate pf idx data => Sys2Proof.Machine.execConnCreate pf idx data s
  | .connModify pf idx data => Sys2Proof.Machine.execConnModify pf idx data s
  | .connQuery pf idx reach => Sys2Proof.Machine.execConnQuery pf idx reach s
  | .connDestroy pf idx => Sys2Proof.Machine.execConnDestroy pf idx s
  | .storageCapsule t => Sys2Proof.Machine.execStorageCapsule t s
  | .storageDataArrived t => Sys2Proof.Machine.execStorageDataArrived t s
  | .subcmdComplete t => Sys2Proof.Machine.execSubcmdComplete t s
  | .fenceWaitTimeout ix => Sys2Proof.Machine.execFenceWaitTimeout ix s
  | .storageTcpRx => Sys2Proof.Machine.execStorageTcpRx s
  | .storageTcpRto sess => Sys2Proof.Machine.execStorageTcpRto sess s
  | .sessionCreate pf idx data => Sys2Proof.Machine.execSessionCreate pf idx data s
  | .sessionDestroy pf idx => Sys2Proof.Machine.execSessionDestroy pf idx s
  | .sessionQuery pf idx reach => Sys2Proof.Machine.execSessionQuery pf idx reach s
  | .nsCreate pf idx data => Sys2Proof.Machine.execNsCreate pf idx data s
  | .nsDestroy pf idx => Sys2Proof.Machine.execNsDestroy pf idx s
  | .backendWrite pf idx data => Sys2Proof.Machine.execBackendWrite pf idx data s
  | .extentWrite pf idx data => Sys2Proof.Machine.execExtentWrite pf idx data s
  | .extentFence pf idx => Sys2Proof.Machine.execExtentFence pf idx s
  | .perstAssert pf => Sys2Proof.Machine.execPerstAssert pf s
  | .perstDeassert pf => Sys2Proof.Machine.execPerstDeassert pf s
  | .pcieLinkUp pf rate width common recoveries flit => Sys2Proof.Machine.execPcieLinkUp pf rate width common recoveries flit s
  | .hotReset pf => Sys2Proof.Machine.execHotReset pf s
  | .flr pf => Sys2Proof.Machine.execFlr pf s
  | .linkResetDone pf => Sys2Proof.Machine.execLinkResetDone pf s
  | .configRequest pf reg be write => Sys2Proof.Machine.execConfigRequest pf reg be write s
  | .cfgReady pf => Sys2Proof.Machine.execCfgReady pf s
  | .readyTimeout pf => Sys2Proof.Machine.execReadyTimeout pf s
  | .hostMemoryRequest pf bar off len be write ide env => Sys2Proof.Machine.execHostMemoryRequest pf bar off len be write ide env s
  | .romData pf v => Sys2Proof.Machine.execRomData pf v s
  | .aspmL1Entry pf => Sys2Proof.Machine.execAspmL1Entry pf s
  | .l0pWindow pf tx rx backlog => Sys2Proof.Machine.execL0pWindow pf tx rx backlog s
  | .atsInvalidate pf tag pasid page => Sys2Proof.Machine.execAtsInvalidate pf tag pasid page s
  | .pageGroupResponse q page ok => Sys2Proof.Machine.execPageGroupResponse q page ok s
  | .pageRequestTimeout q => Sys2Proof.Machine.execPageRequestTimeout q s
  | .doeObject pf obj => Sys2Proof.Machine.execDoeObject pf obj s
  | .doeAbort pf => Sys2Proof.Machine.execDoeAbort pf s
  | .functionQuietEnd pf => Sys2Proof.Machine.execFunctionQuietEnd pf s
  | .sliceCreate pf idx data => Sys2Proof.Machine.execSliceCreate pf idx data s
  | .sliceModify pf idx data => Sys2Proof.Machine.execSliceModify pf idx data s
  | .sliceQuery pf idx reach => Sys2Proof.Machine.execSliceQuery pf idx reach s
  | .sliceFreeze pf idx => Sys2Proof.Machine.execSliceFreeze pf idx s
  | .freezeDone slice => Sys2Proof.Machine.execFreezeDone slice s
  | .freezeTimeout slice => Sys2Proof.Machine.execFreezeTimeout slice s
  | .sliceSave pf idx reach => Sys2Proof.Machine.execSliceSave pf idx reach s
  | .sliceRestore pf idx data rings => Sys2Proof.Machine.execSliceRestore pf idx data rings s
  | .sliceThaw pf idx => Sys2Proof.Machine.execSliceThaw pf idx s
  | .sliceDestroy pf idx rings => Sys2Proof.Machine.execSliceDestroy pf idx rings s
  | .allowWrite pf idx data => Sys2Proof.Machine.execAllowWrite pf idx data s
  | .mwCreate pf idx data => Sys2Proof.Machine.execMwCreate pf idx data s
  | .mwDestroy pf idx => Sys2Proof.Machine.execMwDestroy pf idx s
  | .hostDoorbell pf q off n => Sys2Proof.Machine.execHostDoorbell pf q off n s
  | .queueScan q ents aux => Sys2Proof.Machine.execQueueScan q ents aux s
  | .txJobFetch q data ok poison => Sys2Proof.Machine.execTxJobFetch q data ok poison s
  | .txJobComplete q wr => Sys2Proof.Machine.execTxJobComplete q wr s
  | .rxPacketWrite t ents dataOk wr => Sys2Proof.Machine.execRxPacketWrite t ents dataOk wr s
  | .backendSubcommand q wr => Sys2Proof.Machine.execBackendSubcommand q wr s
  | .backendTimeout q c ix => Sys2Proof.Machine.execBackendTimeout q c ix s
  | .createQueue pf idx data => Sys2Proof.Machine.execCreateQueue pf idx data s
  | .quiesceQueue pf idx ents => Sys2Proof.Machine.execQuiesceQueue pf idx ents s
  | .resumeQueue pf idx => Sys2Proof.Machine.execResumeQueue pf idx s
  | .destroyQueue pf idx ents => Sys2Proof.Machine.execDestroyQueue pf idx ents s
  | .queryQueue pf idx reach => Sys2Proof.Machine.execQueryQueue pf idx reach s
  | .nop pf idx => Sys2Proof.Machine.execNop pf idx s
  | .qctl pf en => Sys2Proof.Machine.execQctl pf en s
  | .aqCfg pf v => Sys2Proof.Machine.execAqCfg pf v s
  | .adminScan pf ents => Sys2Proof.Machine.execAdminScan pf ents s
  | .adminCompletion pf idx => Sys2Proof.Machine.execAdminCompletion pf idx s
  | .chGo t c => Sys2Proof.Machine.execChGo t c s
  | .chStop t c => Sys2Proof.Machine.execChStop t c s
  | .chRetry t c => Sys2Proof.Machine.execChRetry t c s
  | .chSkip t c => Sys2Proof.Machine.execChSkip t c s
  | .dmaBurst t queueReady => Sys2Proof.Machine.execDmaBurst t queueReady s
  | .descriptorReadReturn t c words => Sys2Proof.Machine.execDescriptorReadReturn t c words s
  | .burstReadReturn t c off data => Sys2Proof.Machine.execBurstReadReturn t c off data s
  | .flushReadReturn t c => Sys2Proof.Machine.execFlushReadReturn t c s
  | .channelHalt t c dir cause off => Sys2Proof.Machine.execChannelHalt t c dir cause off s
  | .eventAccept => Sys2Proof.Machine.execEventAccept s
  | .arbiterStepUp => Sys2Proof.Machine.execArbiterStepUp s
  | .arbiterStepDown => Sys2Proof.Machine.execArbiterStepDown s
  | .eqCons o q v => Sys2Proof.Machine.execEqCons o q v s
  | .evtGlobalHold hold => Sys2Proof.Machine.execEvtGlobalHold hold s
  | .eqCfgEnable q en => Sys2Proof.Machine.execEqCfgEnable q en s
  | .eqCreate pf idx data => Sys2Proof.Machine.execEqCreate pf idx data s
  | .eqDestroy pf idx => Sys2Proof.Machine.execEqDestroy pf idx s
  | .eqQuery pf idx reach => Sys2Proof.Machine.execEqQuery pf idx reach s
  | .send agent m c => Sys2Proof.Machine.execSend agent m c s
  | .cancel agent m c => Sys2Proof.Machine.execCancel agent m c s
  | .senderWrite agent m c v => Sys2Proof.Machine.execSenderWrite agent m c v s
  | .mailboxLatch agent m => Sys2Proof.Machine.execMailboxLatch agent m s
  | .mailboxRelease agent m => Sys2Proof.Machine.execMailboxRelease agent m s
  | .mailboxTimeout m c => Sys2Proof.Machine.execMailboxTimeout m c s
  | .lockTry agent n => Sys2Proof.Machine.execLockTry agent n s
  | .lockRel agent n => Sys2Proof.Machine.execLockRel agent n s
  | .lockBreak agent n => Sys2Proof.Machine.execLockBreak agent n s
  | .governorWindow busy pressure => Sys2Proof.Machine.execGovernorWindow busy pressure s
  | .gaitChangeDone r => Sys2Proof.Machine.execGaitChangeDone r s
  | .regionStand r => Sys2Proof.Machine.execRegionStand r s
  | .regionRest r => Sys2Proof.Machine.execRegionRest r s
  | .regionWake r => Sys2Proof.Machine.execRegionWake r s
  | .tempSample temps hbm => Sys2Proof.Machine.execTempSample temps hbm s
  | .gallopCreditWindow p => Sys2Proof.Machine.execGallopCreditWindow p s
  | .wearSecond => Sys2Proof.Machine.execWearSecond s
  | .ledgerCheckpoint good => Sys2Proof.Machine.execLedgerCheckpoint good s
  | .xkeepFail => Sys2Proof.Machine.execXkeepFail s
  | .xkeepReturn => Sys2Proof.Machine.execXkeepReturn s
  | .nrefclkLoss => Sys2Proof.Machine.execNrefclkLoss s
  | .hold good => Sys2Proof.Machine.execHold good s
  | .holdWake sources ticks => Sys2Proof.Machine.execHoldWake sources ticks s
  | .pwrGoodFall => Sys2Proof.Machine.execPwrGoodFall s
  | .powerOnReset ticks t3 t4 t5 => Sys2Proof.Machine.execPowerOnReset ticks t3 t4 t5 s
  | .keeperReset => Sys2Proof.Machine.execKeeperReset s
  | .brownout => Sys2Proof.Machine.execBrownout s
  | .deviceReset agent key t3 t4 t5 => Sys2Proof.Machine.execDeviceReset agent key t3 t4 t5 s
  | .thermtrip => Sys2Proof.Machine.execThermtrip s
  | .twinAttach pf idx => Sys2Proof.Machine.execTwinAttach pf idx s
  | .twinDetach pf idx => Sys2Proof.Machine.execTwinDetach pf idx s
  | .twinSwitchover pf idx => Sys2Proof.Machine.execTwinSwitchover pf idx s
  | .switchoverSend => Sys2Proof.Machine.execSwitchoverSend s
  | .switchoverTimeout => Sys2Proof.Machine.execSwitchoverTimeout s
  | .helloRepeat => Sys2Proof.Machine.execHelloRepeat s
  | .attachTimeout => Sys2Proof.Machine.execAttachTimeout s
  | .dataFrame bs => Sys2Proof.Machine.execData bs s
  | .mirrorFrame bs => Sys2Proof.Machine.execMirror bs s
  | .heartbeat bs => Sys2Proof.Machine.execHeartbeat bs s
  | .ack bs => Sys2Proof.Machine.execAck bs s
  | .nak bs => Sys2Proof.Machine.execNak bs s
  | .hello bs => Sys2Proof.Machine.execHello bs s
  | .syncDone bs => Sys2Proof.Machine.execSyncDone bs s
  | .takeover bs => Sys2Proof.Machine.execTakeover bs s
  | .switchover bs rings => Sys2Proof.Machine.execSwitchover bs rings s
  | .switchoverDone bs => Sys2Proof.Machine.execSwitchoverDone bs s
  | .detach bs => Sys2Proof.Machine.execDetach bs s
  | .yokeRetransmitTimeout => Sys2Proof.Machine.execYokeRetransmitTimeout s
  | .yokeAckTimer => Sys2Proof.Machine.execYokeAckTimer s
  | .heartbeatSend => Sys2Proof.Machine.execHeartbeatSend s
  | .heartbeatMissed alive => Sys2Proof.Machine.execHeartbeatMissed alive s
  | .twinAliveLoss => Sys2Proof.Machine.execTwinAliveLoss s
  | .aliveWaitEnd => Sys2Proof.Machine.execAliveWaitEnd s
  | .mirrorFixed rings => Sys2Proof.Machine.execMirrorFixed rings s
  | .takeoverComplete => Sys2Proof.Machine.execTakeoverComplete s
  | .yokeLinkChange up alive => Sys2Proof.Machine.execYokeLinkChange up alive s
  | .relayJoin pf idx data => Sys2Proof.Machine.execRelayJoin pf idx data s
  | .relayLeave pf idx => Sys2Proof.Machine.execRelayLeave pf idx s
  | .barrier pf idx => Sys2Proof.Machine.execBarrier pf idx s
  | .broadcast pf idx data => Sys2Proof.Machine.execBroadcast pf idx data s
  | .snapshot pf idx => Sys2Proof.Machine.execSnapshot pf idx s
  | .domainReset pf idx => Sys2Proof.Machine.execDomainReset pf idx s
  | .join => Sys2Proof.Machine.execJoin s
  | .joinAck => Sys2Proof.Machine.execJoinAck s
  | .keepalive => Sys2Proof.Machine.execKeepalive s
  | .linkAck => Sys2Proof.Machine.execLinkAck s
  | .leave => Sys2Proof.Machine.execLeave s
  | .treeUpdate => Sys2Proof.Machine.execTreeUpdate s
  | .barrierEnter => Sys2Proof.Machine.execBarrierEnter s
  | .barrierRelease => Sys2Proof.Machine.execBarrierRelease s
  | .bcastUp => Sys2Proof.Machine.execBcastUp s
  | .bcastDown => Sys2Proof.Machine.execBcastDown s
  | .snapMarker => Sys2Proof.Machine.execSnapMarker s
  | .snapDone => Sys2Proof.Machine.execSnapDone s
  | .resetOrder => Sys2Proof.Machine.execResetOrder s
  | .resetAck => Sys2Proof.Machine.execResetAck s
  | .epochSet => Sys2Proof.Machine.execEpochSet s
  | .snapLatch => Sys2Proof.Machine.execSnapLatch s
  | .domainResetApply t3 t4 t5 => Sys2Proof.Machine.execDomainResetApply t3 t4 t5 s
  | .relayRetransmit m => Sys2Proof.Machine.execRelayRetransmit m s
  | .keepaliveSend => Sys2Proof.Machine.execKeepaliveSend s
  | .neighbourLost m => Sys2Proof.Machine.execNeighbourLost m s
  | .joinRetry => Sys2Proof.Machine.execJoinRetry s
  | .barrierTimeout op_id => Sys2Proof.Machine.execBarrierTimeout op_id s
  | .scrub unit struct addr place uncorrectable => Sys2Proof.Machine.execScrub unit struct addr place uncorrectable s
  | .tcamScanVisit g good => Sys2Proof.Machine.execTcamScanVisit g good s
  | .mcCtlStart agent n => Sys2Proof.Machine.execMcCtlStart agent n s
  | .coreTimer n => Sys2Proof.Machine.execCoreTimer n s
  | .fuseWriteImgKey agent arg evt => Sys2Proof.Machine.execFuseWriteImgKey agent arg evt s
  | .fuseRevokeImgKey agent arg evt => Sys2Proof.Machine.execFuseRevokeImgKey agent arg evt s
  | .fuseWriteFwKey agent arg evt => Sys2Proof.Machine.execFuseWriteFwKey agent arg evt s
  | .fuseRevokeFwKey agent arg evt => Sys2Proof.Machine.execFuseRevokeFwKey agent arg evt s
  | .fuseRaiseImgSvn agent arg evt => Sys2Proof.Machine.execFuseRaiseImgSvn agent arg evt s
  | .fuseRaiseFwSvn agent arg evt => Sys2Proof.Machine.execFuseRaiseFwSvn agent arg evt s
  | .fuseDone burnt => Sys2Proof.Machine.execFuseDone burnt s
  | .xspiRead agent len evt => Sys2Proof.Machine.execXspiRead agent len evt s
  | .xspiProgram agent len evt => Sys2Proof.Machine.execXspiProgram agent len evt s
  | .xspiErase agent len evt => Sys2Proof.Machine.execXspiErase agent len evt s
  | .flashDone left => Sys2Proof.Machine.execFlashDone left s
  | .i2cRead agent inst cmd sda => Sys2Proof.Machine.execI2cRead agent inst cmd sda s
  | .i2cWrite agent inst cmd sda => Sys2Proof.Machine.execI2cWrite agent inst cmd sda s
  | .i2cDone inst result moved data => Sys2Proof.Machine.execI2cDone inst result moved data s
  | .i2cReset agent inst cfg moved data => Sys2Proof.Machine.execI2cReset agent inst cfg moved data s
  | .modulePresenceChange present => Sys2Proof.Machine.execModulePresenceChange present s
  | .moduleInterrupt cage low => Sys2Proof.Machine.execModuleInterrupt cage low s
  | .smbusPacketReceived addr data pecOk => Sys2Proof.Machine.execSmbusPacketReceived addr data pecOk s
  | .smbTxGo agent addr len result => Sys2Proof.Machine.execSmbTxGo agent addr len result s
  | .smbusClockTimeout => Sys2Proof.Machine.execSmbusClockTimeout s
  | .extest => Sys2Proof.Machine.execExtest s
  | .samplePreload levels load => Sys2Proof.Machine.execSamplePreload levels load s
  | .idcode => Sys2Proof.Machine.execIdcode s
  | .clamp => Sys2Proof.Machine.execClamp s
  | .highz => Sys2Proof.Machine.execHighz s
  | .jtagDebug halt resume tdi => Sys2Proof.Machine.execDebug halt resume tdi s
  | .bypass tdi => Sys2Proof.Machine.execBypass tdi s
  | .gpioEdge levels => Sys2Proof.Machine.execGpioEdge levels s
  | .nrefclkRestored => Sys2Proof.Machine.execNrefclkRestored s
  | .signalDetectChange l on => Sys2Proof.Machine.execSignalDetectChange l on s
  | .linkFaultChange l hiSer loc rem => Sys2Proof.Machine.execLinkFaultChange l hiSer loc rem s
  | .mirrorRecordSend qs sas => Sys2Proof.Machine.execMirrorRecordSend qs sas s
  | .yokeDownTimeout => Sys2Proof.Machine.execYokeDownTimeout s
  | .aspmL1Exit pf => Sys2Proof.Machine.execAspmL1Exit pf s
  | .l0pPartnerChange pf width accept => Sys2Proof.Machine.execL0pPartnerChange pf width accept s

end Sys2Proof.Machine
end

