-- ==== Sys2Proof/WellFormed.lean ====
section
/-! DEFINITION. Which commands are well formed: each operand within the range that the spec gives what it names: functions 0
and 1, lanes 0 to 15, regions 0 to 18, mailboxes 0 to 63, unit identifiers of 24 bits, and so on. The machine gives every
command a meaning, well formed or not: one that names nothing the device has changes nothing there. -/

namespace Sys2Proof

/-- Widths of a PCIe link (R302). -/
def widthOk (w : Nat) : Bool := [1, 2, 4, 8, 16].contains w

/-- The value of a write fits the size of its access. -/
def BusOp.fits (op : BusOp) (size : Nat) : Bool :=
  match op with
  | .read => true
  | .write v => decide (v.toNat < 2 ^ (8 * size))

/-- Every operand of the command lies in its range. -/
def Instr.wf (i : Instr) : Bool :=
  match i with
  | .registerWrite agent addr size op _ => decide (agent < 2 ^ 24) && decide (addr < 2 ^ 48) && decide (1 ≤ size) && decide (size ≤ 8) && op.fits size
  | .unmappedAccess addr _ => decide (addr < 2 ^ 48)
  | .errClear u => decide (u < 2 ^ 24)
  | .enableWrite u _ => decide (u < 2 ^ 24)
  | .drain u => decide (u < 2 ^ 24)
  | .drainDone u => decide (u < 2 ^ 24)
  | .unitReset u _ _ _ => decide (u < 2 ^ 24)
  | .unitResetDone u => decide (u < 2 ^ 24)
  | .eventSourceWrite u _ => decide (u < 2 ^ 24)
  | .doorbell u => decide (u < 2 ^ 24)
  | .rootLocateId id => decide (id < 2 ^ 24)
  | .locateDone => true
  | .imageStage pf idx _ => decide (pf < 2) && decide (idx < 4096)
  | .imageApply pf idx => decide (pf < 2) && decide (idx < 4096)
  | .imageWriteSlot pf idx => decide (pf < 2) && decide (idx < 4096)
  | .slotWriteDone _ => true
  | .patchSwap => true
  | .patchDrainTimeout => true
  | .patchResume => true
  | .frameReceive l _ _ _ _ _ _ _ => decide (l < 16)
  | .pauseTimerExpiry l c => decide (l < 16) && decide (c < 8)
  | .linkUp l => decide (l < 16)
  | .linkDown l => decide (l < 16)
  | .trainFail l => decide (l < 16)
  | .trainRetry l => decide (l < 16)
  | .pfcRefresh l => decide (l < 16)
  | .preemptVerifyTimeout l => decide (l < 16)
  | .wireSelect p _ => decide (p < 19)
  | .txUnderrun l _ => decide (l < 16)
  | .txStartWindow l => decide (l < 16)
  | .txTsRead l => decide (l < 16)
  | .timebaseTick => true
  | .tbAdj _ => true
  | .tbSetNs v => decide (v < 2 ^ 32)
  | .tbCapture => true
  | .prismInput n => decide (n < 4)
  | .prismParse n => decide (n < 4)
  | .classify n => decide (n < 4)
  | .fastpathDecide => true
  | .learnApply m => decide (m < 32)
  | .moveWindow m => decide (m < 32)
  | .ageVisit id => decide (id < 65536)
  | .tableChangeStep m => decide (m < 32)
  | .lookup m => decide (m < 32)
  | .tblRead m id evt => decide (m < 32) && decide (id < 65536) && decide (evt < 2)
  | .tblWrite m id evt => decide (m < 32) && decide (id < 65536) && decide (evt < 2)
  | .tblInsert m id evt => decide (m < 32) && decide (id < 65536) && decide (evt < 2)
  | .tblDelete m id evt => decide (m < 32) && decide (id < 65536) && decide (evt < 2)
  | .tblSearch m id evt => decide (m < 32) && decide (id < 65536) && decide (evt < 2)
  | .tblNext m id evt => decide (m < 32) && decide (id < 65536) && decide (evt < 2)
  | .ctlRead m id evt => decide (m < 32) && decide (id < 65536) && decide (evt < 2)
  | .ctlWrite m id evt => decide (m < 32) && decide (id < 65536) && decide (evt < 2)
  | .tblStats m id evt => decide (m < 32) && decide (id < 65536) && decide (evt < 2)
  | .tblCmdDone m => decide (m < 32)
  | .dispatch h => decide (h < 2 ^ 24)
  | .lookupResult _ => true
  | .threadCycleLimit n t => decide (n < 256) && decide (t < 8)
  | .reorderRelease h => decide (h < 2 ^ 24)
  | .addd n => decide (n < 256)
  | .subb n => decide (n < 256)
  | .andd n => decide (n < 256)
  | .orr n => decide (n < 256)
  | .xorr n => decide (n < 256)
  | .shl n => decide (n < 256)
  | .shr n => decide (n < 256)
  | .sar n => decide (n < 256)
  | .mull n => decide (n < 256)
  | .slt n => decide (n < 256)
  | .sltu n => decide (n < 256)
  | .addi n => decide (n < 256)
  | .andi n => decide (n < 256)
  | .ori n => decide (n < 256)
  | .xori n => decide (n < 256)
  | .shli n => decide (n < 256)
  | .shri n => decide (n < 256)
  | .movi n => decide (n < 256)
  | .movk n => decide (n < 256)
  | .ext n => decide (n < 256)
  | .exts n => decide (n < 256)
  | .ins n => decide (n < 256)
  | .hld n => decide (n < 256)
  | .hst n => decide (n < 256)
  | .hadj n => decide (n < 256)
  | .ldw n => decide (n < 256)
  | .ldd n => decide (n < 256)
  | .stw n => decide (n < 256)
  | .std n => decide (n < 256)
  | .beq n => decide (n < 256)
  | .bne n => decide (n < 256)
  | .blt n => decide (n < 256)
  | .bge n => decide (n < 256)
  | .bltu n => decide (n < 256)
  | .bgeu n => decide (n < 256)
  | .bbs n => decide (n < 256)
  | .bbc n => decide (n < 256)
  | .jal n => decide (n < 256)
  | .jr n => decide (n < 256)
  | .csadd n => decide (n < 256)
  | .cshv n => decide (n < 256)
  | .csfin n => decide (n < 256)
  | .crcr n => decide (n < 256)
  | .crchv n => decide (n < 256)
  | .lk n => decide (n < 256)
  | .tins n => decide (n < 256)
  | .tdel n => decide (n < 256)
  | .twr n => decide (n < 256)
  | .atomAdd n => decide (n < 256)
  | .atomSwp n => decide (n < 256)
  | .atomCas n => decide (n < 256)
  | .cnt n => decide (n < 256)
  | .pol n => decide (n < 256)
  | .polMeter m => decide (m < 32)
  | .emitCopy n => decide (n < 256)
  | .emitFinal n => decide (n < 256)
  | .drop n => decide (n < 256)
  | .rds n => decide (n < 256)
  | .reinWindowEnd _ => true
  | .reinAddJoin h => decide (h < 2 ^ 24)
  | .reinRemoveDone h => decide (h < 2 ^ 24)
  | .drainTimeout h => decide (h < 2 ^ 24)
  | .packetAdmit port => decide (port.1 < 48) && (port.2.isNone || port.1 = 23)
  | .heldRetry port o c => decide (port < 48) && decide (o < 48) && decide (c < 8)
  | .packetDequeue o _ => decide (o < 48)
  | .replicate _ => true
  | .fetchGrant _ => true
  | .shaperRefill => true
  | .gclChange p => decide (p < 19)
  | .gclChangeApply p => decide (p < 19)
  | .gclEntryAdvance p => decide (p < 19)
  | .shpRead table evt => decide (table < 65536) && decide (evt < 2)
  | .shpWrite table evt => decide (table < 65536) && decide (evt < 2)
  | .polRead table evt => decide (table < 65536) && decide (evt < 2)
  | .polWrite table evt => decide (table < 65536) && decide (evt < 2)
  | .nodeRead table evt => decide (table < 65536) && decide (evt < 2)
  | .nodeWrite table evt => decide (table < 65536) && decide (evt < 2)
  | .leafRead table evt => decide (table < 65536) && decide (evt < 2)
  | .leafWrite table evt => decide (table < 65536) && decide (evt < 2)
  | .meterCmdDone => true
  | .cryptoProcess n => decide (n < 32)
  | .saStep m _ => decide (m < 32)
  | .saSweep m => decide (m < 32)
  | .saRead n evt => decide (n < 32) && decide (evt < 2)
  | .saInstall n evt => decide (n < 32) && decide (evt < 2)
  | .saUpdate n evt => decide (n < 32) && decide (evt < 2)
  | .saRevoke n evt => decide (n < 32) && decide (evt < 2)
  | .saCmdDone n => decide (n < 32)
  | .entropyTestFail _ => true
  | .entropyRestartDone _ => true
  | .drbgSeed => true
  | .drbgReseedDue => true
  | .randomRequestServe _ => true
  | .rngDataRead => true
  | .getRandom pf idx => decide (pf < 2) && decide (idx < 4096)
  | .entRestart => true
  | .transportRx _ _ => true
  | .transportSend cid _ => decide (cid < 2 ^ 24)
  | .ackTimer cid => decide (cid < 2 ^ 24)
  | .retransmitTimeout cid => decide (cid < 2 ^ 24)
  | .rnrWaitExpiry cid => decide (cid < 2 ^ 24)
  | .tetherRelease cid => decide (cid < 2 ^ 24)
  | .connCreate pf idx _ => decide (pf < 2) && decide (idx < 4096)
  | .connModify pf idx _ => decide (pf < 2) && decide (idx < 4096)
  | .connQuery pf idx _ => decide (pf < 2) && decide (idx < 4096)
  | .connDestroy pf idx => decide (pf < 2) && decide (idx < 4096)
  | .storageCapsule t => decide (t < 8)
  | .storageDataArrived t => decide (t < 8)
  | .subcmdComplete t => decide (t < 8)
  | .fenceWaitTimeout _ => true
  | .storageTcpRx => true
  | .storageTcpRto sess => decide (sess < 131072)
  | .sessionCreate pf idx _ => decide (pf < 2) && decide (idx < 4096)
  | .sessionDestroy pf idx => decide (pf < 2) && decide (idx < 4096)
  | .sessionQuery pf idx _ => decide (pf < 2) && decide (idx < 4096)
  | .nsCreate pf idx _ => decide (pf < 2) && decide (idx < 4096)
  | .nsDestroy pf idx => decide (pf < 2) && decide (idx < 4096)
  | .backendWrite pf idx _ => decide (pf < 2) && decide (idx < 4096)
  | .extentWrite pf idx _ => decide (pf < 2) && decide (idx < 4096)
  | .extentFence pf idx => decide (pf < 2) && decide (idx < 4096)
  | .perstAssert pf => decide (pf < 2)
  | .perstDeassert pf => decide (pf < 2)
  | .pcieLinkUp pf rate width _ _ _ => decide (pf < 2) && decide (1 ≤ rate) && decide (rate ≤ 7) && widthOk width
  | .hotReset pf => decide (pf < 2)
  | .flr pf => decide (pf < 2)
  | .linkResetDone pf => decide (pf < 2)
  | .configRequest pf reg be write => decide (pf < 2) && decide (reg < 4096) && reg % 4 = 0 && decide (be < 16) && (write.map (fun v => decide (v < 2 ^ 32))).getD true
  | .cfgReady pf => decide (pf < 2)
  | .readyTimeout pf => decide (pf < 2)
  | .hostMemoryRequest pf bar _ len be write _ _ => decide (pf < 2) && (bar = 0 || bar = 2 || bar = 6) && decide (1 ≤ len) && decide (len ≤ 4096) && decide (be < 2 ^ len) && decide ((write.map List.length).getD len = len)
  | .romData pf _ => decide (pf < 2)
  | .aspmL1Entry pf => decide (pf < 2)
  | .l0pWindow pf _ _ _ => decide (pf < 2)
  | .atsInvalidate pf tag _ _ => decide (pf < 2) && decide (tag < 32)
  | .pageGroupResponse q _ _ => decide (q < 2 ^ 18)
  | .pageRequestTimeout q => decide (q < 2 ^ 18)
  | .doeObject pf _ => decide (pf < 2)
  | .doeAbort pf => decide (pf < 2)
  | .functionQuietEnd pf => decide (pf < 2)
  | .sliceCreate pf idx _ => decide (pf < 2) && decide (idx < 4096)
  | .sliceModify pf idx _ => decide (pf < 2) && decide (idx < 4096)
  | .sliceQuery pf idx _ => decide (pf < 2) && decide (idx < 4096)
  | .sliceFreeze pf idx => decide (pf < 2) && decide (idx < 4096)
  | .freezeDone slice => decide (slice < 4096)
  | .freezeTimeout slice => decide (slice < 4096)
  | .sliceSave pf idx _ => decide (pf < 2) && decide (idx < 4096)
  | .sliceRestore pf idx _ _ => decide (pf < 2) && decide (idx < 4096)
  | .sliceThaw pf idx => decide (pf < 2) && decide (idx < 4096)
  | .sliceDestroy pf idx _ => decide (pf < 2) && decide (idx < 4096)
  | .allowWrite pf idx _ => decide (pf < 2) && decide (idx < 4096)
  | .mwCreate pf idx _ => decide (pf < 2) && decide (idx < 4096)
  | .mwDestroy pf idx => decide (pf < 2) && decide (idx < 4096)
  | .hostDoorbell pf q off n => decide (pf < 2) && decide (q < 2 ^ 18) && decide (off < 4096) && decide (n < 4097)
  | .queueScan q _ _ => decide (q < 2 ^ 18)
  | .txJobFetch q _ _ _ => decide (q < 2 ^ 18)
  | .txJobComplete q _ => decide (q < 2 ^ 18)
  | .rxPacketWrite t _ _ _ => decide (t < 16)
  | .backendSubcommand q _ => decide (q < 2 ^ 18)
  | .backendTimeout q _ _ => decide (q < 2 ^ 18)
  | .createQueue pf idx _ => decide (pf < 2) && decide (idx < 4096)
  | .quiesceQueue pf idx _ => decide (pf < 2) && decide (idx < 4096)
  | .resumeQueue pf idx => decide (pf < 2) && decide (idx < 4096)
  | .destroyQueue pf idx _ => decide (pf < 2) && decide (idx < 4096)
  | .queryQueue pf idx _ => decide (pf < 2) && decide (idx < 4096)
  | .nop pf idx => decide (pf < 2) && decide (idx < 4096)
  | .qctl pf _ => decide (pf < 2)
  | .aqCfg pf _ => decide (pf < 2)
  | .adminScan pf _ => decide (pf < 2)
  | .adminCompletion pf idx => decide (pf < 2) && decide (idx < 4096)
  | .chGo t c => decide (t < 16) && decide (c < 16)
  | .chStop t c => decide (t < 16) && decide (c < 16)
  | .chRetry t c => decide (t < 16) && decide (c < 16)
  | .chSkip t c => decide (t < 16) && decide (c < 16)
  | .dmaBurst t _ => decide (t < 16)
  | .descriptorReadReturn t c _ => decide (t < 16) && decide (c < 16)
  | .burstReadReturn t c _ _ => decide (t < 16) && decide (c < 16)
  | .flushReadReturn t c => decide (t < 16) && decide (c < 16)
  | .channelHalt t c dir cause _ => decide (t < 16) && decide (c < 16) && decide (dir < 8) && decide (cause < 256)
  | .eventAccept => true
  | .arbiterStepUp => true
  | .arbiterStepDown => true
  | .eqCons o q v => decide (o < 3) && decide (q < 1024) && decide (v < 65536)
  | .evtGlobalHold _ => true
  | .eqCfgEnable q _ => decide (q < 1024)
  | .eqCreate pf idx _ => decide (pf < 2) && decide (idx < 4096)
  | .eqDestroy pf idx => decide (pf < 2) && decide (idx < 4096)
  | .eqQuery pf idx _ => decide (pf < 2) && decide (idx < 4096)
  | .send agent m c => decide (agent < 2 ^ 24) && decide (m < 64) && decide (c < 16)
  | .cancel agent m c => decide (agent < 2 ^ 24) && decide (m < 64) && decide (c < 16)
  | .senderWrite agent m c v => decide (agent < 2 ^ 24) && decide (m < 64) && decide (c < 16) && decide (v < 2 ^ 24)
  | .mailboxLatch agent m => decide (agent < 2 ^ 24) && decide (m < 64)
  | .mailboxRelease agent m => decide (agent < 2 ^ 24) && decide (m < 64)
  | .mailboxTimeout m c => decide (m < 64) && decide (c < 16)
  | .lockTry agent n => decide (agent < 2 ^ 24) && decide (n < 1024)
  | .lockRel agent n => decide (agent < 2 ^ 24) && decide (n < 1024)
  | .lockBreak agent n => decide (agent < 2 ^ 24) && decide (n < 1024)
  | .governorWindow _ _ => true
  | .gaitChangeDone r => decide (r < 19)
  | .regionStand r => decide (r < 19)
  | .regionRest r => decide (r < 19)
  | .regionWake r => decide (r < 19)
  | .tempSample _ _ => true
  | .gallopCreditWindow _ => true
  | .wearSecond => true
  | .ledgerCheckpoint _ => true
  | .xkeepFail => true
  | .xkeepReturn => true
  | .nrefclkLoss => true
  | .hold _ => true
  | .holdWake sources _ => decide (sources < 64)
  | .pwrGoodFall => true
  | .powerOnReset _ _ _ _ => true
  | .keeperReset => true
  | .brownout => true
  | .deviceReset agent key _ _ _ => decide (agent < 2 ^ 24) && decide (key < 65536)
  | .thermtrip => true
  | .twinAttach pf idx => decide (pf < 2) && decide (idx < 4096)
  | .twinDetach pf idx => decide (pf < 2) && decide (idx < 4096)
  | .twinSwitchover pf idx => decide (pf < 2) && decide (idx < 4096)
  | .switchoverSend => true
  | .switchoverTimeout => true
  | .helloRepeat => true
  | .attachTimeout => true
  | .dataFrame _ => true
  | .mirrorFrame _ => true
  | .heartbeat _ => true
  | .ack _ => true
  | .nak _ => true
  | .hello _ => true
  | .syncDone _ => true
  | .takeover _ => true
  | .switchover _ _ => true
  | .switchoverDone _ => true
  | .detach _ => true
  | .yokeRetransmitTimeout => true
  | .yokeAckTimer => true
  | .heartbeatSend => true
  | .heartbeatMissed _ => true
  | .twinAliveLoss => true
  | .aliveWaitEnd => true
  | .mirrorFixed _ => true
  | .takeoverComplete => true
  | .yokeLinkChange _ _ => true
  | .relayJoin pf idx _ => decide (pf < 2) && decide (idx < 4096)
  | .relayLeave pf idx => decide (pf < 2) && decide (idx < 4096)
  | .barrier pf idx => decide (pf < 2) && decide (idx < 4096)
  | .broadcast pf idx _ => decide (pf < 2) && decide (idx < 4096)
  | .snapshot pf idx => decide (pf < 2) && decide (idx < 4096)
  | .domainReset pf idx => decide (pf < 2) && decide (idx < 4096)
  | .join => true
  | .joinAck => true
  | .keepalive => true
  | .linkAck => true
  | .leave => true
  | .treeUpdate => true
  | .barrierEnter => true
  | .barrierRelease => true
  | .bcastUp => true
  | .bcastDown => true
  | .snapMarker => true
  | .snapDone => true
  | .resetOrder => true
  | .resetAck => true
  | .epochSet => true
  | .snapLatch => true
  | .domainResetApply _ _ _ => true
  | .relayRetransmit m => decide (m < 4097)
  | .keepaliveSend => true
  | .neighbourLost m => decide (m < 4097)
  | .joinRetry => true
  | .barrierTimeout _ => true
  | .scrub unit struct addr _ _ => decide (unit < 2 ^ 24) && decide (struct < 16) && decide (addr < 2 ^ 48)
  | .tcamScanVisit g _ => decide (g < 524288)
  | .mcCtlStart agent n => decide (agent < 2 ^ 24) && decide (n < 8)
  | .coreTimer n => decide (n < 8)
  | .fuseWriteImgKey agent arg _ => decide (agent < 2 ^ 24) && decide (arg < 256)
  | .fuseRevokeImgKey agent arg _ => decide (agent < 2 ^ 24) && decide (arg < 256)
  | .fuseWriteFwKey agent arg _ => decide (agent < 2 ^ 24) && decide (arg < 256)
  | .fuseRevokeFwKey agent arg _ => decide (agent < 2 ^ 24) && decide (arg < 256)
  | .fuseRaiseImgSvn agent arg _ => decide (agent < 2 ^ 24) && decide (arg < 256)
  | .fuseRaiseFwSvn agent arg _ => decide (agent < 2 ^ 24) && decide (arg < 256)
  | .fuseDone _ => true
  | .xspiRead agent len _ => decide (agent < 2 ^ 24) && decide (len < 65536)
  | .xspiProgram agent len _ => decide (agent < 2 ^ 24) && decide (len < 65536)
  | .xspiErase agent len _ => decide (agent < 2 ^ 24) && decide (len < 65536)
  | .flashDone _ => true
  | .i2cRead agent inst _ _ => decide (agent < 2 ^ 24) && decide (inst < 4)
  | .i2cWrite agent inst _ _ => decide (agent < 2 ^ 24) && decide (inst < 4)
  | .i2cDone inst result _ _ => decide (inst < 4) && decide (result < 4)
  | .i2cReset agent inst _ _ _ => decide (agent < 2 ^ 24) && decide (inst < 4)
  | .modulePresenceChange present => decide (present < 65536)
  | .moduleInterrupt cage _ => decide (cage < 16)
  | .smbusPacketReceived addr _ _ => decide (addr < 128)
  | .smbTxGo agent addr len result => decide (agent < 2 ^ 24) && decide (addr < 2 ^ 48) && decide (len < 256) && decide (result < 4)
  | .smbusClockTimeout => true
  | .extest => true
  | .samplePreload _ _ => true
  | .idcode => true
  | .clamp => true
  | .highz => true
  | .jtagDebug _ _ _ => true
  | .bypass _ => true
  | .gpioEdge levels => decide (levels < 65536)
  | .nrefclkRestored => true
  | .signalDetectChange l _ => decide (l < 16)
  | .linkFaultChange l _ _ _ => decide (l < 16)
  | .mirrorRecordSend _ _ => true
  | .yokeDownTimeout => true
  | .aspmL1Exit pf => decide (pf < 2)
  | .l0pPartnerChange pf width _ => decide (pf < 2) && (width.map (fun w => widthOk w)).getD true

end Sys2Proof
end

