-- ==== Sys2Proof/Safety.lean ====
section
/-! DEFINITION. What counts as a safe run and the words the statements use: the canonical form of the stores, what changes
from one device to another, the commands that the keeper island takes, and a device that stands still. -/

namespace Sys2Proof.Machine

/-- The three stores of the device are in canonical form: keys strictly rise and no entry equals what its key reads as
when unlisted. -/
def Dev.canon (d : Dev) : Bool := stWf regReset d.regs && stWf ctxReset d.objs && stWf byteReset d.bytes

/-- The answer "next state", with device `d` and the queue as it is. -/
abbrev State.next (s : State) (d : Dev) : Host.Outcome State Fault Refusal := .next { s with dev := d }

/-- From `d` to `d'` nothing changes but registers, and of these at most the cells with keys in `ks`. -/
def OnlyCells (d d' : Dev) (ks : List Nat) : Prop :=
  { d' with regs := d.regs } = d ∧ ∀ k, k ∉ ks → stGet regReset d'.regs k = stGet regReset d.regs k

/-- R379: command `c` of function `pf` is in flight, alone at ring index `idx`, not started, and nothing keeps it from starting. -/
def Dev.admWaits (d : Dev) (pf idx : Nat) (c : AdminCmd) : Bool :=
  decide (d.admin.filter (fun x => x.pf = pf && x.idx = idx) = [c]) && !c.started && c.done.isNone && d.admMayStart c

/-- R379 to R381: besides that, it has opcode `op`, its entry is well formed, and the device state runs the opcode. -/
def Dev.admReady (d : Dev) (pf idx op : Nat) (c : AdminCmd) : Bool :=
  d.admWaits pf idx c && decide (c.op = op) && c.wellFormed && (!d.bareState || bareOps.contains op)

/-- The admin commands (R380, R485, R500): opcode, function and ring index of each. The four operations of RELAY_OP, told apart by
ARG, are not among them. -/
def adminOp : Instr → Option (Nat × Nat × Nat)
  | .nop pf idx => some (0x0001, pf, idx)
  | .getRandom pf idx => some (0x0002, pf, idx)
  | .createQueue pf idx _ => some (0x0101, pf, idx)
  | .quiesceQueue pf idx _ => some (0x0102, pf, idx)
  | .resumeQueue pf idx => some (0x0103, pf, idx)
  | .destroyQueue pf idx _ => some (0x0104, pf, idx)
  | .queryQueue pf idx _ => some (0x0105, pf, idx)
  | .eqCreate pf idx _ => some (0x0201, pf, idx)
  | .eqDestroy pf idx => some (0x0202, pf, idx)
  | .eqQuery pf idx _ => some (0x0203, pf, idx)
  | .sliceCreate pf idx _ => some (0x0301, pf, idx)
  | .sliceModify pf idx _ => some (0x0302, pf, idx)
  | .sliceQuery pf idx _ => some (0x0303, pf, idx)
  | .sliceFreeze pf idx => some (0x0304, pf, idx)
  | .sliceSave pf idx _ => some (0x0305, pf, idx)
  | .sliceRestore pf idx _ _ => some (0x0306, pf, idx)
  | .sliceThaw pf idx => some (0x0307, pf, idx)
  | .sliceDestroy pf idx _ => some (0x0308, pf, idx)
  | .allowWrite pf idx _ => some (0x0309, pf, idx)
  | .mwCreate pf idx _ => some (0x030A, pf, idx)
  | .mwDestroy pf idx => some (0x030B, pf, idx)
  | .connCreate pf idx _ => some (0x0401, pf, idx)
  | .connModify pf idx _ => some (0x0402, pf, idx)
  | .connQuery pf idx _ => some (0x0403, pf, idx)
  | .connDestroy pf idx => some (0x0404, pf, idx)
  | .sessionCreate pf idx _ => some (0x0501, pf, idx)
  | .sessionDestroy pf idx => some (0x0502, pf, idx)
  | .sessionQuery pf idx _ => some (0x0503, pf, idx)
  | .nsCreate pf idx _ => some (0x0504, pf, idx)
  | .nsDestroy pf idx => some (0x0505, pf, idx)
  | .backendWrite pf idx _ => some (0x0506, pf, idx)
  | .extentWrite pf idx _ => some (0x0507, pf, idx)
  | .extentFence pf idx => some (0x0508, pf, idx)
  | .imageStage pf idx _ => some (0x0601, pf, idx)
  | .imageApply pf idx => some (0x0602, pf, idx)
  | .imageWriteSlot pf idx => some (0x0603, pf, idx)
  | .twinAttach pf idx => some (0x0701, pf, idx)
  | .twinDetach pf idx => some (0x0702, pf, idx)
  | .twinSwitchover pf idx => some (0x0703, pf, idx)
  | .relayJoin pf idx _ => some (0x0801, pf, idx)
  | .relayLeave pf idx => some (0x0802, pf, idx)
  | _ => none

/-- The four operations of RELAY_OP (R500): kind in ARG, function and ring index. -/
def relayOpKind : Instr → Option (Nat × Nat × Nat)
  | .barrier pf idx => some (1, pf, idx)
  | .broadcast pf idx _ => some (2, pf, idx)
  | .snapshot pf idx => some (3, pf, idx)
  | .domainReset pf idx => some (4, pf, idx)
  | _ => none

/-- The commands of a match tile's table interface (R132): tile, table, EVT, OP, and the request that TBL_DATA and TBL_INDEX of
device `d` spell. -/
def tblOp (d : Dev) : Instr → Option (Nat × Nat × Nat × Nat × TblReq)
  | .tblRead m id evt => some (m, id, evt, 1, .read (d.tblIndex m))
  | .tblWrite m id evt => some (m, id, evt, 2, .write (d.tblIndex m) (d.tblData m))
  | .tblInsert m id evt => some (m, id, evt, 3, .insert (d.tblData m))
  | .tblDelete m id evt => some (m, id, evt, 4, .delete (d.tblData m))
  | .tblSearch m id evt => some (m, id, evt, 5, .search (d.tblData m))
  | .tblNext m id evt => some (m, id, evt, 6, .next (d.tblIndex m))
  | .ctlRead m id evt => some (m, id, evt, 7, .ctlRead)
  | .ctlWrite m id evt => some (m, id, evt, 8, .ctlWrite ((d.tblData m).getD 0 0) ((d.tblData m).getD 1 0))
  | .tblStats m id evt => some (m, id, evt, 9, .stats)
  | _ => none

/-- R131, R239: a write of MTR_CMD is taken: its fields and BUSY are in place. -/
def Dev.mtrStarted (d : Dev) (op table evt : Nat) : Dev :=
  (((d.s mtrUnit Mtr.MTR_CMD_TABLE_ID table).s mtrUnit Mtr.MTR_CMD_OP op).s mtrUnit Mtr.MTR_CMD_EVT evt).s mtrUnit
    Mtr.MTR_STATUS_BUSY 1

/-- R239: the result of meter operation `op` waits for METER_CMD_DONE. -/
def Dev.mtrResult (d : Dev) (op st : Nat) (ws : List Word) : Dev :=
  { d with sched := { d.sched with meter := some { op := op, status := st, words := ws } } }

/-- R131, R257: a write of SA_CMD at tile `n` is taken: its fields and BUSY are in place, and the command waits for its SA. -/
def Dev.saQueued (d : Dev) (n op evt : Nat) : Dev :=
  let d := ((d.sk (cryptoId n) Cry.SA_CMD_OP op).sk (cryptoId n) Cry.SA_CMD_EVT evt).sk (cryptoId n) Cry.SA_STATUS_BUSY 1
  { d with cry := { d.cry with ops := d.cry.ops ++ [{ tile := n, op := op, index := d.saIndex n, res := none }] } }

/-- R257: the result of the command at the interface of tile `n` waits for SA_CMD_DONE. -/
def Dev.saDone (d : Dev) (n st : Nat) (ws : List Word) : Dev :=
  { d with cry := { d.cry with ops := d.cry.ops.map (fun (x : SaOp) => if x.tile = n then { x with res := some (st, ws) } else x) } }

/-- R462: a received yoke frame that is no HELLO passes the checks of every frame and is of kind `kind`, a CONTROL frame with operation
`op`. -/
def Dev.yokeTakes (d : Dev) (bs : List Byte) (kind : Nat) (op : Option Nat) : Bool :=
  d.paired && d.on rootId Root.TWIN_STATUS_LINK_UP && decide (20 ≤ bs.length) && decide (bs.length = beAt bs 2 2 + 20) &&
    decide (beAt bs 2 2 ≤ 16511) && decide (crc32c (bs.take (bs.length - 4)) = beAt bs (bs.length - 4) 4) &&
    decide (1 ≤ kind) && decide (kind ≤ 6) && decide (beAt bs 0 1 = kind) && !(decide (kind = 3) && decide (beAt bs 16 1 = 1)) &&
    (op.isNone || decide (op = some (beAt bs 16 1))) && decide (d.twinState ≠ 0) && decide (d.twinState ≠ 5) &&
    decide (beAt bs 12 2 = d.g rootId Root.TWIN_STATUS_LINK_EPOCH) && decide (beAt bs 14 1 = d.yokeFmt)

/-- R466: a reliable frame is the next in order, and the mirror is open. -/
def Dev.yokeNext (d : Dev) (bs : List Byte) : Bool :=
  (d.mirroring || decide (d.twinState = 4)) && d.twin.fixed.isNone && decide (beAt bs 4 4 = d.g rootId Root.TWIN_SEQ_RX_EXPECTED)

/-- R466: the frame that was next in order has been noted: EXPECTED moves on and an ACK is due. -/
def Dev.yokeNoted (d : Dev) (bs : List Byte) : Dev :=
  let e := d.s rootId Root.TWIN_SEQ_RX_EXPECTED (d.g rootId Root.TWIN_SEQ_RX_EXPECTED + 1)
  { e with twin := { e.twin with nakSent := false, ackDue := true, sinceAck := e.twin.sinceAck + (bs.length - 20) } }

/-- R466: after the frame has been applied, its ACK leaves at once where it asks for one or 64 KiB have come since the last. -/
def Dev.yokeAcks (d : Dev) (bs : List Byte) : Dev :=
  if d.twin.ackDue && (decide (beAt bs 1 1 % 2 = 1) || decide (65536 ≤ d.twin.sinceAck)) then d.sendAckFrame else d

/-- R143: the device as thread `t` of PE `n` issues: packets are in place, and the round-robin has come to `t`. -/
def Dev.atIssue (d : Dev) (n t : Nat) : Dev := (d.promote n).setPe n (fun (p : PeSt) => { p with last := t })

/-- R143, R145, R146, R169: thread `t` is the next to issue on PE `n`, and it may issue instruction `i`, which stands at its PC. -/
def Dev.issues (d : Dev) (n t : Nat) (i : EngInst) : Bool :=
  let e := d.atIssue n t
  let x := (d.promote n).thr n t
  decide (((d.promote n).pe n).nextThread = some t) && e.peRuns n && decide (x.pc < 0x10000) &&
    !(e.pe n).badCode.contains (x.pc / 8) && decide (decodeInst (e.fetchWord n x.pc) = some i) && !x.mustWait i

/-- Commands that the keeper island, the resets and the boundary scan take while the rest of the die stands still (R436,
R452 to R454, R513, R525 to R528, R547, R550, R551). -/
def keeperTakes : Instr → Bool
  | .xkeepFail | .xkeepReturn | .holdWake _ _ | .pwrGoodFall | .powerOnReset _ _ _ _ | .keeperReset | .brownout
  | .thermtrip | .perstAssert _ | .perstDeassert _ | .extest | .samplePreload _ _ | .idcode | .clamp | .highz
  | .jtagDebug _ _ _ | .bypass _ => true
  | _ => false

/-- R452, R453: the device is outside Run (Hold, Sealed standby or stopped by THERMTRIP_N), and nothing that the keeper
island takes waits in the queue. -/
def State.frozen (s : State) : Bool := !s.dev.acts && s.pending.all (fun c => !keeperTakes c)

/-- R19, R20, R23: the tree stands as an accepted image makes it and no hitch is PATCHING: each hitch is listed once, its member slots
begin beyond its own block, are at least 64 KiB wide and number at most MAX_COUNT, each member has one place, and a member that is
a hitch has its span inside its slot. -/
def Dev.treeOk (d : Dev) : Bool :=
  d.hitches.all (fun (h : Hitch) =>
    decide (d.hitch h.id = some h) && !h.patching && decide (0x10000 ≤ d.g h.id Hdr.FIRST_MEMBER_OFFSET_OFFSET) &&
      decide (16 ≤ d.g h.id Hdr.MEMBER_STRIDE_STRIDE_LOG2) &&
      decide (h.members.length ≤ d.g h.id Hdr.MEMBER_COUNT_MAX_COUNT) && decide h.members.Nodup &&
      h.members.all (fun m => decide (d.parentOf m = some h.id) && decide (m ≠ rootId) &&
        (!d.isHitch m || decide (d.g m Hdr.FIRST_MEMBER_OFFSET_OFFSET + d.g m Hdr.MEMBER_COUNT_MAX_COUNT *
          2 ^ d.g m Hdr.MEMBER_STRIDE_STRIDE_LOG2 ≤ 2 ^ d.g h.id Hdr.MEMBER_STRIDE_STRIDE_LOG2))))

/-- The whole state is in canonical form. -/
def State.canon (s : State) : Bool := s.dev.canon

end Sys2Proof.Machine
end

