-- ==== Sys2Proof/Certificates/Slice0/Obligations.lean ====
section
/-! DEFINITION. What is stated of the model for the provers: one definition per obligation of OBLIGATIONS.json. -/

open Sys2Proof Sys2Proof.Machine

/-- A step takes the command at the front of the queue and is exec of it on the state with the queue's rest. For every
state whose queue is a command c followed by a rest, step answers exactly what exec answers for c on the state with
that rest as its queue. Where a clause follows a choice or inference of the model and not the spec, it is that of log
entries 1, 2, 75. Rests on 95_what_each_step_holds.md. -/
def Obligations.StepRunsFrontCommand : Prop :=
  ∀ (s : State) (c : Instr) (rest : List Instr),
    s.pending = c :: rest → step s = exec c { s with pending := rest }

/-- With no command waiting a step lets 20 ns of device time and the PE cycles in it pass while the device acts, and
changes nothing outside Run. On an empty queue step answers a next state: the device after one tick, which adds 20 ns
to device time while the device acts, ends the reset pulses then due and runs each PE by the cycles of its region's
clock, and leaves a device outside Run unchanged. That an idle step is a tick of 20 ns is the model's choice (log
entry 1), for the table has no row for a tick. Where a clause follows a choice or inference of the model and not the
spec, it is that of log entries 1, 2, 18, 75. Rests on 09_scheduling_shaping_policing.md. -/
def Obligations.IdleStepOnlyAdvancesTime : Prop :=
  ∀ (s : State), s.pending = [] →
    (s.dev.acts = true → step s = s.next
      ((List.range 256).foldl (fun (d : Dev) n => d.runPe n (d.peCycles (regionOf (peId n))))
        ({ s.dev with time := s.dev.time + 20 } : Dev).endPulses)) ∧
    (s.dev.acts = false → step s = .next s)

/-- No command stops the device: exec answers a next state for every command and state, and leaves the queue alone.
For every command and every state there is a device d such that exec answers the next state that has d as its device
and the same queue. No command faults or is refused, and no command puts anything into the queue. Where a clause
follows a choice or inference of the model and not the spec, it is that of log entries 1, 2, 75. Rests on
95_what_each_step_holds.md, opcode_table.json. -/
def Obligations.EveryCommandAnswersANextState : Prop :=
  ∀ (c : Instr) (s : State), ∃ d : Dev, exec c s = s.next d

/-- Outside Run every step leaves the device as it is until the keeper island, a reset or the boundary scan acts. Call
a state frozen when its device is outside Run (Hold, Sealed standby, or stopped by THERMTRIP_N) and no command waits
that the keeper island, a reset input or the boundary scan takes. Every step from a frozen state answers a frozen
state with the same device: no command of software, the host, the network or any engine changes anything. Where a
clause follows a choice or inference of the model and not the spec, it is that of log entries 1, 2, 75. Rests on
19_gaits_clocks_power.md, 23_reset_and_bring_up.md, 25_electrical_and_package.md. -/
def Obligations.FrozenDeviceStaysFrozen : Prop :=
  ∀ (s t : State), s.frozen = true → step s = .next t → t.frozen = true ∧ t.dev = s.dev

/-- Writing ERR, EVENT_SOURCE and DOORBELL of a unit's header outside a PATCHING subtree, with what each leaves alone.
In Run, for a unit u outside every PATCHING subtree: ERR_CLEAR answers a next state in which ERR and ERR_CODE of u
read 0 and no register cell but UNIT_STATUS of u, and nothing besides registers, has changed. EVENT_SOURCE_WRITE of a
value that names no private queue stores TARGET_EQ, TARGET_OWNER and ENABLE, changing no other register cell and
nothing besides registers, when the unit's event source was already enabled or stays disabled; a value that names
queues 1,016 to 1,023 of the management cores stores nothing and latches MALFORMED. DOORBELL of a tile sets its
DB_PENDING and starts the wake of its region; a tile that takes work in a region awake takes the ring at once. Where a
clause follows a choice or inference of the model and not the spec, it is that of log entries 2, 78. Rests on R17,
R28, R29 of 01_tiles_and_hitches.md, R401 of 17_events_and_interrupts.md. -/
def Obligations.UnitErrorAndDoorbellWrites : Prop :=
  ∀ (s : State) (u : Nat), s.dev.acts = true → s.dev.inPatching u = false →
    (∃ d : Dev, exec (.errClear u) s = s.next d ∧
      d.g u Hdr.UNIT_STATUS_ERR = 0 ∧ d.g u Hdr.UNIT_STATUS_ERR_CODE = 0 ∧
      OnlyCells s.dev d [rkey u Hdr.UNIT_STATUS_ERR.off]) ∧
    (∀ v : Word, ¬ (1016 ≤ getBits v 0 10 ∧ (getBits v 10 2 = 2 ∨ (getBits v 10 2 = 3 ∧ u = rootId))) →
      (s.dev.on u Hdr.EVENT_SOURCE_ENABLE = true ∨ getBits v 12 1 = 0) →
      ∃ d : Dev, exec (.eventSourceWrite u v) s = s.next d ∧
        d.g u Hdr.EVENT_SOURCE_TARGET_EQ = getBits v 0 10 ∧ d.g u Hdr.EVENT_SOURCE_TARGET_OWNER = getBits v 10 2 ∧
        d.g u Hdr.EVENT_SOURCE_ENABLE = getBits v 12 1 ∧ OnlyCells s.dev d [rkey u Hdr.EVENT_SOURCE_ENABLE.off]) ∧
    (∀ v : Word, (1016 ≤ getBits v 0 10 ∧ (getBits v 10 2 = 2 ∨ (getBits v 10 2 = 3 ∧ u = rootId))) →
      exec (.eventSourceWrite u v) s = s.next (s.dev.latchErr u Sc.malformed)) ∧
    (s.dev.isHitch u = false → exec (.doorbell u) s =
      s.next (((s.dev.s u Hdr.UNIT_STATUS_DB_PENDING 1).wakeUnit u).takeBell u))

/-- ENABLE_WRITE stores ENABLE and settles the subtree or cancels a drain; DRAIN and DRAIN_DONE move STATE. In Run,
for a unit u outside every PATCHING subtree that is no patch target in Drain. ENABLE_WRITE of a unit that is not
DRAINING stores ENABLE and lets every governed unit below read ACTIVE or READY by its effective enable and take the
ring that waits for it; writing 1 to a governed unit while it is DRAINING clears DRAIN, makes it ACTIVE and cancels a
rein removal of it, with no drain-done event. DRAIN of a governed unit that reads ACTIVE or READY answers a next state
in which its ENABLE reads 0, its DRAIN 1 and its STATE DRAINING; of a unit in any other state, or of an ungoverned
unit, it changes nothing. DRAIN_DONE of a DRAINING unit none of whose units has work in progress clears DRAIN, makes
it READY and raises the drain-done event 0x0002; while one has, it changes nothing. Where a clause follows a choice or
inference of the model and not the spec, it is that of log entries 2, 78, 110. Rests on R17, R26, R27 of
01_tiles_and_hitches.md. -/
def Obligations.EnableWriteAndDrain : Prop :=
  ∀ (s : State) (u : Nat), s.dev.acts = true → s.dev.inPatching u = false → s.dev.patchDraining u = false →
    (∀ en : Bool, s.dev.ust u ≠ stDraining → exec (.enableWrite u en) s =
      s.next (((s.dev.s u Hdr.UNIT_CONTROL_ENABLE (if en then 1 else 0)).settleEnable u).takeBells
        ((s.dev.s u Hdr.UNIT_CONTROL_ENABLE (if en then 1 else 0)).subtree u))) ∧
    (∀ e : Dev, s.dev.ust u = stDraining → ungoverned u = false →
      e = (((s.dev.s u Hdr.UNIT_CONTROL_ENABLE 1).s u Hdr.UNIT_CONTROL_DRAIN 0).s u
        Hdr.UNIT_STATUS_STATE stActive).cancelRemoval u 7 →
      exec (.enableWrite u true) s = s.next ((e.settleEnable u).takeBells (e.subtree u))) ∧
    (ungoverned u = false → s.dev.ust u = stActive ∨ s.dev.ust u = stReady →
      ∃ d : Dev, exec (.drain u) s = s.next d ∧ d.g u Hdr.UNIT_CONTROL_ENABLE = 0 ∧
        d.g u Hdr.UNIT_CONTROL_DRAIN = 1 ∧ d.g u Hdr.UNIT_STATUS_STATE = stDraining) ∧
    (ungoverned u = true ∨ ¬ (s.dev.ust u = stActive ∨ s.dev.ust u = stReady) → exec (.drain u) s = .next s) ∧
    (s.dev.ust u = stDraining → s.dev.on u Hdr.UNIT_CONTROL_DRAIN = true → s.dev.unitBusy u = false → exec (.drainDone u) s =
      s.next (((s.dev.s u Hdr.UNIT_CONTROL_DRAIN 0).s u Hdr.UNIT_STATUS_STATE stReady).raise u 0x0002 0 0)) ∧
    (s.dev.unitBusy u = true → exec (.drainDone u) s = .next s)

/-- UNIT_RESET of the root is a device reset and of a tile clears it into RESET; its end gives ACTIVE or READY;
locating a unit. In Run: UNIT_RESET of the root hitch is the device reset of cause 3. With no patch in progress or
waiting, UNIT_RESET of a tile u (a unit that is no hitch) outside every PATCHING subtree clears what its kind lists,
resets its header, meets the rein steps and windows, and notes the reset in progress; the reset of a header whose
STATE is not OFF leaves STATE RESET and ERR, ERR_CODE, DB_PENDING and DRAIN 0 and keeps ENABLE. UNIT_RESET_DONE of a
tile whose reset is in progress and which reads RESET gives the STATE that follows from the bare tree and the
effective enable, and a port's link then trains. ROOT_LOCATE_ID stores the ID and sets BUSY. LOCATE_DONE, while BUSY,
clears BUSY and shows whether the unit was found and where it stands. Where a clause follows a choice or inference of
the model and not the spec, it is that of log entries 2, 78. Rests on R27, R31 of 01_tiles_and_hitches.md, R521 of
23_reset_and_bring_up.md. -/
def Obligations.UnitResetAndLocate : Prop :=
  (∀ (s : State), s.dev.acts = true →
    (∀ t3 t4 t5 : Nat, exec (.unitReset rootId t3 t4 t5) s = s.next (s.dev.deviceReset 3 t3 t4 t5)) ∧
    (∀ u t3 t4 t5 : Nat, u ≠ rootId → s.dev.isHitch u = false → s.dev.inPatching u = false → s.dev.img.patch = none →
      s.dev.img.waits = none →
      exec (.unitReset u t3 t4 t5) s = s.next (let d := (((s.dev.resetKind u).resetHeader u).resetSteps [u]).watchWindow;
         { d with boot := { d.boot with resetting := d.boot.resetting.filter (fun x => x.1 ≠ u) ++ [(u, [u])] } })) ∧
    (∀ u : Nat, s.dev.boot.resetting = [(u, [u])] → s.dev.ust u = stReset → exec (.unitResetDone u) s =
      s.next (let d : Dev := { s.dev with boot := { s.dev.boot with resetting := [] } };
         (d.s u Hdr.UNIT_STATUS_STATE (d.stateAfter u)).startMac u)) ∧
    (∀ id : Nat, exec (.rootLocateId id) s =
      s.next ((s.dev.s rootId Root.ROOT_LOCATE_ID_ID id).s rootId Root.ROOT_LOCATE_ADDR_BUSY 1)) ∧
    (s.dev.on rootId Root.ROOT_LOCATE_ADDR_BUSY = true → s.dev.hitches.all (fun h => !h.patching) = true →
      ∃ d : Dev, exec .locateDone s = s.next d ∧
        d.g rootId Root.ROOT_LOCATE_ADDR_BUSY = 0 ∧
        (d.on rootId Root.ROOT_LOCATE_ADDR_FOUND = s.dev.present (s.dev.g rootId Root.ROOT_LOCATE_ID_ID)) ∧
        OnlyCells s.dev d [rkey rootId Root.ROOT_LOCATE_ADDR_BUSY.off])) ∧
  (∀ (d : Dev) (u : Nat), d.ust u ≠ stOff →
    (d.resetHeader u).g u Hdr.UNIT_STATUS_STATE = stReset ∧ (d.resetHeader u).g u Hdr.UNIT_STATUS_ERR = 0 ∧
    (d.resetHeader u).g u Hdr.UNIT_STATUS_ERR_CODE = 0 ∧ (d.resetHeader u).g u Hdr.UNIT_STATUS_DB_PENDING = 0 ∧
    (d.resetHeader u).g u Hdr.UNIT_CONTROL_DRAIN = 0 ∧
    (d.resetHeader u).g u Hdr.UNIT_CONTROL_ENABLE = d.g u Hdr.UNIT_CONTROL_ENABLE)

/-- Bit by bit, a write and a read of a cell follow the access types RO, RW, W1C, W1S, RC, WO and reserved. For every
list of fields of a cell, old content, written bits and value, and every bit j: if j lies only in RW fields it takes
the written bit where it is written and keeps its value elsewhere; in W1C only, it clears exactly where a 1 is
written; in W1S only, it sets exactly where a 1 is written; in neither (RO, RC, WO or reserved) it keeps its value. A
read shows every bit but those of WO fields, which read 0, and clears exactly the bits read that lie in RC fields.
Where a clause follows a choice or inference of the model and not the spec, it is that of log entries 97, 98. Rests on
R7 of 00_scope.md. -/
def Obligations.RegisterFieldsFollowTheirAccessType : Prop :=
  ∀ (fs : List Fld) (old m v : Word) (j : Nat), j < 64 →
    ((accMask fs .rw).getLsbD j = true → (accMask fs .w1c).getLsbD j = false → (accMask fs .w1s).getLsbD j = false →
      (cellWrite fs old m v).getLsbD j = if m.getLsbD j then v.getLsbD j else old.getLsbD j) ∧
    ((accMask fs .rw).getLsbD j = false → (accMask fs .w1c).getLsbD j = true → (accMask fs .w1s).getLsbD j = false →
      (cellWrite fs old m v).getLsbD j = (old.getLsbD j && !(m.getLsbD j && v.getLsbD j))) ∧
    ((accMask fs .rw).getLsbD j = false → (accMask fs .w1c).getLsbD j = false → (accMask fs .w1s).getLsbD j = true →
      (cellWrite fs old m v).getLsbD j = (old.getLsbD j || (m.getLsbD j && v.getLsbD j))) ∧
    ((accMask fs .rw).getLsbD j = false → (accMask fs .w1c).getLsbD j = false → (accMask fs .w1s).getLsbD j = false →
      (cellWrite fs old m v).getLsbD j = old.getLsbD j) ∧
    (cellRead fs old).getLsbD j = (old.getLsbD j && !(accMask fs .wo).getLsbD j) ∧
    (cellAfterRead fs old m).getLsbD j = (old.getLsbD j && !((accMask fs .rc).getLsbD j && m.getLsbD j))

/-- A bus access reaches what stands at its address, or is refused with ERR at the unit for its width, alignment or
parity. In Run, by what stands at the address. For an address that falls in a register cell or a read-only word of
owner w: an access of a size other than 4 or 8, or not naturally aligned, latches ERR with MALFORMED at w and
otherwise does nothing, a read returning all ones; an aligned one with bad mesh parity counts a mesh error with its
event, latches INTEGRITY and is refused the same way. Core memory and other memory windows read and store their bytes;
the flash read window and the relay receive ring are read and ignore writes, a read of the ring marking its slot as
read; a doorbell page reads 0 and a write to it is a doorbell write; a read-only word is read and ignores writes. For
an address that nothing occupies, a read returns 0, a write is ignored, and the root raises the unmapped-access event
0x0003 with the address and the direction; in member slots and the other quiet ranges there is neither.
UNMAPPED_ACCESS of an address that something occupies changes nothing. An aligned access with good parity to a cell
outside a PATCHING block performs the register's write, and to a cell anywhere returns the register's read value; in a
PATCHING block only a UNIT_RESET is written. Where a clause follows a choice or inference of the model and not the
spec, it is that of log entries 97, 98. Rests on R14 to R16, R31 of 01_tiles_and_hitches.md, 22_integrity_map.md,
section Checks on memories and the mesh. -/
def Obligations.BusAccessesReachOrAreRefused : Prop :=
  ∀ (s : State) (agent a size : Nat) (e : BusEnv), s.dev.acts = true →
    (∀ w : Nat, ((∃ u off tree, s.dev.tgt a = .cell w u off tree) ∨ (∃ x, s.dev.tgt a = .ro w x)) →
      ((size ≠ 4 ∧ size ≠ 8) ∨ a % size ≠ 0) →
      (∀ v : Word, exec (.registerWrite agent a size (.write v) e) s =
        s.next (s.dev.latchErr w Sc.malformed)) ∧
      exec (.registerWrite agent a size .read e) s =
        s.next ((s.dev.latchErr w Sc.malformed).emit
                          (.readData (BitVec.ofNat 64 (leNat (List.replicate size 0xFF)))))) ∧
    (∀ w : Nat, ((∃ u off tree, s.dev.tgt a = .cell w u off tree) ∨ (∃ x, s.dev.tgt a = .ro w x)) →
      (size = 4 ∨ size = 8) → a % size = 0 → e.parity = false → ∀ v : Word,
      exec (.registerWrite agent a size (.write v) e) s =
        s.next ((s.dev.meshErr w a).latchErr w Sc.integrity) ∧
      exec (.registerWrite agent a size .read e) s =
        s.next (((s.dev.meshErr w a).latchErr w Sc.integrity).emit
                          (.readData (BitVec.ofNat 64 (leNat (List.replicate size 0xFF)))))) ∧
    (s.dev.tgt a = .mem →
      exec (.registerWrite agent a size .read e) s = s.next (s.dev.emit (.readData (BitVec.ofNat 64 (leNat
        ((List.range size).map (fun i => ((s.dev.windowRead (a + i) 1).head?).getD 0)))))) ∧
      ∀ v : Word, exec (.registerWrite agent a size (.write v) e) s = s.next
        ((List.range (leBytes size v.toNat).length).foldl (fun (d : Dev) i =>
          d.windowWrite (a + i) [(leBytes size v.toNat).getD i 0]) s.dev)) ∧
    (∀ o : Nat, s.dev.tgt a = .flash o →
      exec (.registerWrite agent a size .read e) s =
        s.next (s.dev.emit (.readData (BitVec.ofNat 64 (leNat (s.dev.readMem .flash o size))))) ∧
      ∀ v : Word, exec (.registerWrite agent a size (.write v) e) s = .next s) ∧
    (∀ o : Nat, s.dev.tgt a = .relay o →
      exec (.registerWrite agent a size .read e) s =
        s.next ((s.dev.relayRead o).emit (.readData (BitVec.ofNat 64 (leNat (s.dev.readMem .core (relayBase + o) size))))) ∧
      ∀ v : Word, exec (.registerWrite agent a size (.write v) e) s = .next s) ∧
    (∀ pf q o : Nat, s.dev.tgt a = .door pf q o →
      exec (.registerWrite agent a size .read e) s =
        s.next (s.dev.emit (.readData (BitVec.ofNat 64 (leNat (List.replicate size 0))))) ∧
      ∀ v : Word, exec (.registerWrite agent a size (.write v) e) s =
        s.next (hostDoorbell pf q o (leBytes size v.toNat).length s.dev)) ∧
    (∀ (w : Nat) (x : Word), s.dev.tgt a = .ro w x → (size = 4 ∨ size = 8) → a % size = 0 → e.parity = true →
      exec (.registerWrite agent a size .read e) s =
        s.next (s.dev.emit (.readData (BitVec.ofNat 64 (leNat (wordBytes x (a % 8) size))))) ∧
      ∀ v : Word, exec (.registerWrite agent a size (.write v) e) s = .next s) ∧
    (s.dev.tgt a = .unmapped →
      exec (.registerWrite agent a size .read e) s = s.next ((s.dev.raise rootId 0x0003 0 (a % 2 ^ 48)).emit
        (.readData (BitVec.ofNat 64 (leNat (List.replicate size 0))))) ∧
      (∀ v : Word, exec (.registerWrite agent a size (.write v) e) s = s.next (s.dev.raise rootId 0x0003 0 (a % 2 ^ 48 + 2 ^ 63))) ∧
      exec (.unmappedAccess a true) s = s.next (s.dev.raise rootId 0x0003 0 (a % 2 ^ 48 + 2 ^ 63)) ∧
      exec (.unmappedAccess a false) s = s.next ((s.dev.emit (.readData 0)).raise rootId 0x0003 0 (a % 2 ^ 48))) ∧
    (s.dev.tgt a = .quiet →
      (∀ v : Word, exec (.registerWrite agent a size (.write v) e) s = .next s) ∧ exec (.unmappedAccess a true) s = .next s ∧
      exec (.registerWrite agent a size .read e) s =
        s.next (s.dev.emit (.readData (BitVec.ofNat 64 (leNat (List.replicate size 0))))) ∧
      exec (.unmappedAccess a false) s = s.next (s.dev.emit (.readData 0))) ∧
    (∀ w : Bool, s.dev.tgt a ≠ .unmapped → s.dev.tgt a ≠ .quiet → exec (.unmappedAccess a w) s = .next s) ∧
    (∀ w u off tree, s.dev.tgt a = .cell w u off tree → (size = 4 ∨ size = 8) → a % size = 0 → e.parity = true →
      ∀ v : Word,
      let m := fieldMask (8 * (a % 8)) (8 * size)
      let x := BitVec.ofNat 64 (v.toNat % 2 ^ (8 * size) * 2 ^ (8 * (a % 8)))
      let wr : Wr := { old := s.dev.cell u off, m := m, v := x }
      ((s.dev.inPatching u = false ∨ tree = false) →
        exec (.registerWrite agent a size (.write v) e) s = s.next (regWrite agent u off wr e s.dev)) ∧
      (s.dev.inPatching u = true → tree = true → exec (.registerWrite agent a size (.write v) e) s = s.next
        (if off = 0x8 ∧ wr.one Hdr.UNIT_CONTROL_UNIT_RESET then unitReset u e.t3 e.t4 e.t5 s.dev else s.dev)) ∧
      exec (.registerWrite agent a size .read e) s = s.next ((
         let r := regRead agent u off m s.dev
         r.1.emit (.readData (BitVec.ofNat 64 (leNat (wordBytes r.2 (a % 8) size)))))))

/-- A host memory request is answered in D0 with Memory Space Enable set, by the window it falls in. In Run, with the
link of function pf up, the function in D0 and Memory Space Enable set, a request on no IDE stream: in the first 64
KiB of BAR0 an aligned request of 4 or 8 bytes with all byte enables is an access of the function to its endpoint
tile's block, any other is refused with all ones (for a read), counted in BAD_SIZE and latched as MALFORMED; the MSI-X
table and its Pending Bit Array follow; in the rest of BAR0 below 0x100000 a write is ignored and a read answers
zeros; from there on, a request that an entry of the BAR0 table covers while apertures translate goes to its harness
address, and any other is an unmapped access. In BAR2 a write to an open page is a doorbell write and a read answers
zeros; a page that is not open makes an unmapped access. A read of the Expansion ROM window answers the ROM's bytes
while the ROM is present and enabled, and a write is ignored. A translated request for a register needs 4 or 8 bytes,
naturally aligned, with all byte enables, and for anything else its window must hold it all; else it is refused and
counted in BAD_SIZE. A request whose IDE MAC is wrong makes its stream Insecure with an event and does nothing else, a
request on an Insecure stream does nothing, and one whose MAC is right on any other stream is answered as one on none.
With the link down, outside D0, or with Memory Space Enable 0 a request does nothing. Where a clause follows a choice
or inference of the model and not the spec, it is that of log entries 97, 98. Rests on 13_host_endpoint.md, sections
BAR regions, Apertures, Expansion ROM. -/
def Obligations.HostMemoryRequestsByWindow : Prop :=
  ∀ (s : State) (pf off len be : Nat) (w : Option (List Byte)) (e : BusEnv), s.dev.acts = true →
    ((s.dev.ep pf).linkUp = true → (s.dev.ep pf).dstate = 0 → (s.dev.ep pf).mse = true →
      (off < 0x10000 → (len = 4 ∨ len = 8) → off % len = 0 → be = 2 ^ len - 1 →
        exec (.hostMemoryRequest pf 0 off len be w none e) s = s.next (s.dev.hostAt { pf := pf, off := off, len := len, be := be, write := w } (s.dev.addrOf (epId pf) + off) e)) ∧
      (off < 0x10000 → ¬ ((len = 4 ∨ len = 8) ∧ off % len = 0 ∧ be = 2 ^ len - 1) →
        exec (.hostMemoryRequest pf 0 off len be none none e) s = s.next ((((s.dev.hgBump pf Hg.BAD_SIZE).emit (.readBytes (List.replicate len 0xFF))).latchErr (epId pf) Sc.malformed)) ∧
        exec (.hostMemoryRequest pf 0 off len be (some []) none e) s =
          s.next ((s.dev.hgBump pf Hg.BAD_SIZE).latchErr (epId pf) Sc.malformed)) ∧
      ((0x10000 ≤ off ∧ off < 0x14000) ∨ (0x18000 ≤ off ∧ off < 0x18080) →
        exec (.hostMemoryRequest pf 0 off len be w none e) s =
          s.next (s.dev.hostMsix { pf := pf, off := off, len := len, be := be, write := w })) ∧
      (0x14000 ≤ off → off < 0x100000 → ¬ (0x18000 ≤ off ∧ off < 0x18080) →
        exec (.hostMemoryRequest pf 0 off len be none none e) s =
          s.next (s.dev.emit (.readBytes (List.replicate len 0))) ∧
        ∀ bs : List Byte, exec (.hostMemoryRequest pf 0 off len be (some bs) none e) s = .next s) ∧
      (0x100000 ≤ off →
        (∀ h room : Nat, s.dev.aptLive = true → s.dev.apt0 pf off = some (h, room) →
          exec (.hostMemoryRequest pf 0 off len be w none e) s =
            s.next (s.dev.hostTranslated { pf := pf, off := off, len := len, be := be, write := w } h room e)) ∧
        (s.dev.aptLive = false ∨ s.dev.apt0 pf off = none →
          exec (.hostMemoryRequest pf 0 off len be w none e) s =
            s.next (s.dev.hostUnmapped { pf := pf, off := off, len := len, be := be, write := w } 0))) ∧
      (s.dev.pageOpen pf (off / 4096) = true →
        exec (.hostMemoryRequest pf 2 off len be none none e) s =
          s.next (s.dev.emit (.readBytes (List.replicate len 0))) ∧
        ∀ bs : List Byte,
          let t : Tlp := { pf := pf, off := off, len := len, be := be, write := some bs }
          exec (.hostMemoryRequest pf 2 off len be (some bs) none e) s =
            s.next (hostDoorbell pf (off / 4096) (off % 4096 + t.span.1) t.span.2 s.dev)) ∧
      (s.dev.pageOpen pf (off / 4096) = false → exec (.hostMemoryRequest pf 2 off len be w none e) s =
        s.next (s.dev.hostUnmapped { pf := pf, off := off, len := len, be := be, write := w } 2)) ∧
      (s.dev.on (epId pf) Ep.EP_CFG_CTL_ROM_PRESENT = true → (s.dev.ep pf).cfgStored 0x30 % 2 = 1 →
        exec (.hostMemoryRequest pf 6 off len be none none e) s =
          s.next (s.dev.emit (.readBytes (s.dev.readMem .rom (pf * 2 ^ 20 + off % 2 ^ 20) len)))) ∧
      (s.dev.on (epId pf) Ep.EP_CFG_CTL_ROM_PRESENT = false ∨ (s.dev.ep pf).cfgStored 0x30 % 2 ≠ 1 ∨ w.isSome = true →
        exec (.hostMemoryRequest pf 6 off len be w none e) s = .next s) ∧
      (∀ bar n : Nat, (s.dev.ep pf).ideInsecure.contains n = false →
        exec (.hostMemoryRequest pf bar off len be w (some (n, true)) e) s = exec (.hostMemoryRequest pf bar off len be w none e) s) ∧
      (∀ h room : Nat,
        let t : Tlp := { pf := pf, off := off, len := len, be := be, write := w }
        (∀ o : Nat, (∃ u p tree, s.dev.tgt h = .cell o u p tree) ∨ (∃ x, s.dev.tgt h = .ro o x) →
          s.dev.hostTranslated t h room e =
            if t.ok then s.dev.hostAt t h e else (s.dev.badSize t).latchErr o Sc.malformed) ∧
        (s.dev.tgt h = .mem → s.dev.hostTranslated t h room e =
          if len ≤ room ∧ (s.dev.window h len).isSome then s.dev.hostAt t h e else s.dev.badSize t) ∧
        ((∀ o u p tree, s.dev.tgt h ≠ .cell o u p tree) → (∀ o x, s.dev.tgt h ≠ .ro o x) → s.dev.tgt h ≠ .mem →
          s.dev.hostTranslated t h room e = if len ≤ room then s.dev.hostAt t h e else s.dev.badSize t)) ∧
      (∀ (bar n : Nat) (ok : Bool), (s.dev.ep pf).ideInsecure.contains n = true →
        exec (.hostMemoryRequest pf bar off len be w (some (n, ok)) e) s = .next s) ∧
      (∀ bar n : Nat, (s.dev.ep pf).ideInsecure.contains n = false →
        exec (.hostMemoryRequest pf bar off len be w (some (n, false)) e) s = s.next ((s.dev.setEp pf (fun x => { x with ideInsecure := n :: x.ideInsecure })).raise (epId pf) 0x0005 0 n))) ∧
    (∀ (bar : Nat) (ide : Option (Nat × Bool)),
      ((s.dev.ep pf).linkUp = false ∨ (s.dev.ep pf).dstate ≠ 0 ∨ (s.dev.ep pf).mse = false) →
      exec (.hostMemoryRequest pf bar off len be w ide e) s = .next s)

/-- Every admin command does nothing when not in flight, ends MALFORMED on a bad entry, and DEVICE_STATE while no
image runs. In Run, for each of the 41 admin commands and its opcode: if no command stands at that ring index of that
function, the command changes nothing; if one waits there with that opcode and its entry is malformed (R379, R380), it
ends with MALFORMED and nothing else changes; if its entry is well formed but the device is BARE, LOADING or in
RECOVERY and the opcode is not NOP, GET_RANDOM or an image command, it ends with DEVICE_STATE (0x25) and nothing else
changes; the same of the four operations of RELAY_OP. NOP that may run ends with OK whatever the device state. Rests
on R381. -/
def Obligations.AdminCommandsRefusedByFormAndDeviceState : Prop :=
  ∀ (s : State) (i : Instr) (op pf idx : Nat), s.dev.acts = true →
    (adminOp i = some (op, pf, idx) →
      (s.dev.admin.filter (fun c => c.pf = pf && c.idx = idx) = [] → exec i s = .next s) ∧
      (∀ c : AdminCmd, s.dev.admWaits pf idx c = true → c.op = op → c.wellFormed = false →
        exec i s = s.next (s.dev.admEnd pf idx Sc.malformed 0)) ∧
      (∀ c : AdminCmd, s.dev.admWaits pf idx c = true → c.op = op → c.wellFormed = true →
        s.dev.imgState ≠ 2 → s.dev.imgState ≠ 4 → op ∉ [0x0001, 0x0002, 0x0601, 0x0602, 0x0603] →
        exec i s = s.next (s.dev.admEnd pf idx 0x25 0))) ∧
    (relayOpKind i = some (op, pf, idx) → ∀ c : AdminCmd, s.dev.admWaits pf idx c = true → c.op = 0x0803 →
      c.arg % 16 = op → c.wellFormed = true → s.dev.imgState ≠ 2 → s.dev.imgState ≠ 4 →
      exec i s = s.next (s.dev.admEnd pf idx 0x25 0)) ∧
    (∀ c : AdminCmd, s.dev.admReady pf idx 0x0001 c = true →
      exec (.nop pf idx) s = s.next ((s.dev.admStart pf idx).admEnd pf idx Sc.ok 0))

/-- The admin queue starts afresh on ENABLE, takes the command at HEAD, writes its completion at AQ_CQ_POS; QCTL
enables a queue. In Run: AQ_CFG that sets ENABLE from 0 makes STATE 1, HEAD and the completion position 0 and both
phases 1, and clears the error code. ADMIN_SCAN of a rung, enabled, running queue of a function that is not quiet and
has no command in flight, whose ring holds at HEAD one owned single-entry command of a known opcode, puts that command
in flight at its ring index, not started and not done, and moves HEAD one entry on; a queue that is not enabled takes
nothing. ADMIN_COMPLETION of a finished command of a function that is not quiet and holds no writes, with EQ_EN 0,
removes the command, sends one posted 16-byte write to AQ_CQ_BASE plus 16 times the position, and advances the
position by one entry. QCTL of the COMPAT queue that QSEL names stores ENABLE in it; a latency report leaves where
what it would say has changed (R318). Where a clause follows a choice or inference of the model and not the spec, it
is that of log entries 12. Rests on 15_rings_and_admin_queue.md, sections The admin queue, Completions. -/
def Obligations.AdminQueueTakesAndCompletes : Prop :=
  ∀ (s : State) (pf : Nat), s.dev.acts = true →
    (∀ v : Word, s.dev.on (epId pf) Ep.AQ_CFG_ENABLE = false → getBits v 0 1 = 1 →
      ∃ d : Dev, exec (.aqCfg pf v) s = s.next d ∧ d.g (epId pf) Ep.AQ_STATUS_STATE = 1 ∧
        d.g (epId pf) Ep.AQ_STATUS_HEAD = 0 ∧ d.g (epId pf) Ep.AQ_CQ_POS_POS = 0 ∧
        d.g (epId pf) Ep.AQ_STATUS_HEAD_PHASE = 1 ∧ d.g (epId pf) Ep.AQ_CQ_POS_PHASE = 1 ∧
        d.g (epId pf) Ep.AQ_STATUS_QERR_CODE = 0 ∧ d.g (epId pf) Ep.AQ_CFG_ENABLE = 1) ∧
    (∀ e : List Word, (if pf = 0 then s.dev.aqRung.1 else s.dev.aqRung.2) = true →
      s.dev.on (epId pf) Ep.AQ_CFG_ENABLE = true → s.dev.g (epId pf) Ep.AQ_STATUS_STATE = 1 → s.dev.quiet pf = false →
      s.dev.admin.filter (fun c => c.pf = pf) = [] → wget e Went.PHASE = s.dev.g (epId pf) Ep.AQ_STATUS_HEAD_PHASE →
      entryErr 0 true e = none → wget e Went.L = 1 → (adminRow (wget e Adm.OPCODE)).isSome = true →
      ∃ d : Dev, exec (.adminScan pf [some e]) s = s.next d ∧
        d.admin = s.dev.admin ++ [{ pf := pf, idx := s.dev.g (epId pf) Ep.AQ_STATUS_HEAD, ent := e, started := false
                                    count := 0, done := none }] ∧
        d.g (epId pf) Ep.AQ_STATUS_HEAD =
          (s.dev.g (epId pf) Ep.AQ_STATUS_HEAD + 1) % 2 ^ s.dev.g (epId pf) Ep.AQ_CFG_WQ_SIZE_LOG2) ∧
    (∀ ents : List (Option (List Word)), s.dev.on (epId pf) Ep.AQ_CFG_ENABLE = false →
      exec (.adminScan pf ents) s = .next s) ∧
    (∀ (idx st res : Nat) (c : AdminCmd), s.dev.admin.find? (fun c => c.pf = pf && c.idx = idx) = some c →
      c.done = some (st, res) → s.dev.quiet pf = false → (s.dev.ep pf).heldWrites = [] →
      s.dev.on (epId pf) Ep.AQ_CFG_EQ_EN = false →
      ∃ d : Dev, exec (.adminCompletion pf idx) s = s.next d ∧
        d.admin = s.dev.admin.filter (fun c => !(c.pf = pf && c.idx = idx)) ∧
        (∃ bs : List Byte, d.out = s.dev.out ++
          [.hostWrite pf none (s.dev.g (epId pf) Ep.AQ_CQ_BASE_ADDR * 4096 + 16 * s.dev.g (epId pf) Ep.AQ_CQ_POS_POS) false bs] ∧
          bs.length = 16) ∧
        d.g (epId pf) Ep.AQ_CQ_POS_POS =
          (s.dev.g (epId pf) Ep.AQ_CQ_POS_POS + 1) % 2 ^ s.dev.g (epId pf) Ep.AQ_CFG_CQ_SIZE_LOG2) ∧
    (∀ (en : Bool) (q : Nat), s.dev.compatQ pf = some q → exec (.qctl pf en) s =
      s.next ((s.dev.setQ q (fun x => { x with enable := en, rung := x.rung || (en && !x.enable) })).tellLtr s.dev pf))

/-- IMAGE_STAGE while an IMAGE_APPLY or IMAGE_WRITE_SLOT is in progress ends with PATCH_BUSY and changes no byte of
any memory. In Run, an IMAGE_STAGE that may run, with its range inside the staging area, while an apply or a slot
write is in progress ends with status 0x1A PATCH_BUSY; the staging area, as every other byte memory, the length staged
and every register are as before. Rests on R60. -/
def Obligations.StagingWhileAnImageCommandRunsIsPatchBusy : Prop :=
  ∀ (s : State) (pf idx : Nat) (data : Option (List Byte)) (c : AdminCmd), s.dev.acts = true →
    s.dev.admReady pf idx 0x0601 c = true → c.arg % 2 ^ 26 + c.len ≤ 67108864 →
    (s.dev.img.patch.isSome = true ∨ s.dev.img.waits.isSome = true ∨ s.dev.img.slotWrite.isSome = true ∨ s.dev.imgState = 1) →
    ∃ d : Dev, exec (.imageStage pf idx data) s = s.next d ∧ d = (s.dev.admStart pf idx).admEnd pf idx 0x1A 0 ∧
      d.bytes = s.dev.bytes ∧ d.img = s.dev.img ∧ d.regs = s.dev.regs

/-- What IMAGE_STAGE, IMAGE_APPLY, IMAGE_WRITE_SLOT, SLOT_WRITE_DONE and the steps of a patch do when they may go on.
In Run: an IMAGE_STAGE that may run while nothing is in progress writes its buffer's bytes at its staging offset,
raises the staged length and ends OK; with an unreachable buffer it ends BUS_ERROR. An IMAGE_APPLY of a staged full
image on a BARE or RECOVERY device with nothing in progress ends with the first failed check's status, or loads the
image and ends OK. An IMAGE_WRITE_SLOT of a staged full image ends with the first failed check's status, or starts the
slot write of the slot ARG names. SLOT_WRITE_DONE ends the slot write: the slot is erased and holds what was read
back, and the command ends OK or INTEGRITY. PATCH_SWAP of a drained patch whose PEs are still in the pool builds the
new subtree; PATCH_DRAIN_TIMEOUT ends a draining patch with PATCH_DRAIN; PATCH_RESUME of a swapped patch resumes its
subtree. Where a clause follows a choice or inference of the model and not the spec, it is that of log entries 31 to
36, 113, 114. Rests on 02_harness_image.md, sections Loading through the admin queue, Re-harness patches. -/
def Obligations.ImageCommandsAndPatchSteps : Prop :=
  ∀ (s : State), s.dev.acts = true →
    (∀ (pf idx : Nat) (c : AdminCmd) (bs : List Byte), s.dev.admReady pf idx 0x0601 c = true →
      c.arg % 2 ^ 26 + c.len ≤ 67108864 → s.dev.imageBusy = false →
      exec (.imageStage pf idx (some bs)) s = s.next (
        let d := (s.dev.admStart pf idx).writeMem .staging (c.arg % 2 ^ 26) (sliceBytes bs 0 c.len);
        ({ d with img := { d.img with staged := max d.img.staged (c.arg % 2 ^ 26 + c.len) } }).admEnd pf idx Sc.ok 0) ∧
      exec (.imageStage pf idx none) s = s.next ((s.dev.admStart pf idx).admEnd pf idx Sc.busError 0)) ∧
    (∀ (pf idx : Nat) (c : AdminCmd), s.dev.admReady pf idx 0x0602 c = true → s.dev.img.patch = none →
      s.dev.img.waits = none → s.dev.img.slotWrite = none → (s.dev.imgState = 0 ∨ s.dev.imgState = 3) → Image.kind s.dev.stagedImage = 1 →
      exec (.imageApply pf idx) s = s.next (
        let d := s.dev.admStart pf idx;
        match d.imageCheck s.dev.stagedImage d.img.staged with
        | some f => (d.imgRefuse f 2).admEnd pf idx f.status 0
        | none => (d.loadFull s.dev.stagedImage 2).admEnd pf idx Sc.ok 0)) ∧
    (∀ (pf idx : Nat) (c : AdminCmd), s.dev.admReady pf idx 0x0603 c = true → s.dev.imageBusy = false →
      Image.kind s.dev.stagedImage = 1 →
      exec (.imageWriteSlot pf idx) s = s.next (
        let d := s.dev.admStart pf idx;
        match d.imageCheck s.dev.stagedImage d.img.staged with
        | some f => (d.imgRefuse f 2).admEnd pf idx f.status 0
        | none => { d with img := { d.img with slotWrite := some (c.arg % 2, pf, idx) } })) ∧
    (∀ (n pf idx : Nat) (got : List Byte), s.dev.img.slotWrite = some (n, pf, idx) →
      exec (.slotWriteDone (some got)) s = s.next (
        let b := s.dev.stagedImage;
        let o := slotFlash n;
        let d := (s.dev.clearMem .flash (fun a => decide (o ≤ a) && decide (a < o + 67108864))).writeMem .flash o (got.take 67108864);
        ({ d with img := { d.img with slotWrite := none } } : Dev).imgEnd pf idx
          (if Config.sha384 (sliceBytes got 0 b.length) = Config.sha384 b then Sc.ok else Sc.integrity))) ∧
    (∀ p : PatchSt, s.dev.img.patch = some p →
      (p.phase = .drain → s.dev.drained p.target = true →
        (s.dev.patchPes p.target (hrecsOf (sectionsOf p.image))).1.all
          (fun u => (s.dev.members (s.dev.patchPool p.target)).contains u) = true →
        exec .patchSwap s = s.next (s.dev.patchBuild p).finishDoomed) ∧
      (p.phase = .drain → exec .patchDrainTimeout s = s.next (s.dev.patchEnd 0x1B).finishDoomed) ∧
      (p.phase = .swap → exec .patchResume s = s.next (s.dev.patchResume p).finishDoomed))

/-- The link of a port rises on lock, falls on lost lock or a local fault, and training follows signals, failures and
retries. In Run, for a port l. LINK_UP of a port that auto-negotiates moves it to link training and changes no other
register; of one in link training, in a powered unit without local fault and without HI_SER, it sets CDR_LOCK of its
lanes and its three lock flags, ends a remote fault it sends, and brings the link up. LINK_DOWN of a port whose link
is up clears the lock flags, makes the remote fault it sends follow HI_SER, and takes the link down. TRAIN_FAIL of a
port that trains makes TRAIN_STATE 4 and changes no other register; TRAIN_RETRY of one in state 4 starts a new
attempt. A lane of a port that trains that loses its signal reads SIGNAL_DETECT 0 and CDR_LOCK 0, and the port's
attempt starts anew. A local fault on a port whose link is up is stored with HI_SER, makes the remote fault it sends
follow HI_SER, and takes the link down; a remote fault on one that sends none is stored and leaves every other state
as it is. Where a clause follows a choice or inference of the model and not the spec, it is that of log entries 2,
124. Rests on R74, R75, R576 of 03_ports_and_mac.md. -/
def Obligations.LinksFollowLockTrainingAndFaults : Prop :=
  ∀ (s : State) (l : Nat), s.dev.acts = true → s.dev.isPort l = true →
    (s.dev.mf l Mac.PORT_STATUS_TRAIN_STATE = 1 → ∃ d : Dev, exec (.linkUp l) s = s.next d ∧
      d.mf l Mac.PORT_STATUS_TRAIN_STATE = 2 ∧ OnlyCells s.dev d [rkey (macId l) Mac.PORT_STATUS_TRAIN_STATE.kind.off]) ∧
    (s.dev.mf l Mac.PORT_STATUS_TRAIN_STATE = 2 → s.dev.mf l Mac.PORT_STATUS_LOCAL_FAULT = 0 →
      s.dev.mf l Mac.PORT_STATUS_HI_SER = 0 → s.dev.mf l Mac.PORT_STATUS_LINK_UP = 0 → s.dev.ust (macId l) ≠ stOff →
      s.dev.ust (macId l) ≠ stReset → exec (.linkUp l) s = s.next
        (((((s.dev.portLanes l).foldl (fun (d : Dev) m => d.setMf m Mac.LANE_STATUS_CDR_LOCK 1) s.dev).setLock l 1).syncFault
          l).linkRise l)) ∧
    ((s.dev.mf l Mac.PORT_STATUS_TRAIN_STATE = 1 ∨ s.dev.mf l Mac.PORT_STATUS_TRAIN_STATE = 2) →
      (∃ d : Dev, exec (.trainFail l) s = s.next d ∧ d.mf l Mac.PORT_STATUS_TRAIN_STATE = 4 ∧
        OnlyCells s.dev d [rkey (macId l) Mac.PORT_STATUS_TRAIN_STATE.kind.off]) ∧
      (∀ m : Nat, s.dev.firstLane m = l → s.dev.ust (macId l) ≠ stOff → s.dev.ust (macId l) ≠ stReset →
        exec (.signalDetectChange m false) s = s.next (
          let d := (s.dev.setMf m Mac.LANE_STATUS_SIGNAL_DETECT 0).setMf m Mac.LANE_STATUS_CDR_LOCK 0;
          d.setMf l Mac.PORT_STATUS_TRAIN_STATE (d.trainStart l)))) ∧
    (s.dev.mf l Mac.PORT_STATUS_LINK_UP = 1 →
      exec (.linkDown l) s = s.next (((s.dev.setLock l 0).syncFault l).linkFall l) ∧
      (∀ hi rem : Bool, exec (.linkFaultChange l hi true rem) s = s.next
        (((((s.dev.setMf l Mac.PORT_STATUS_HI_SER (if hi then 1 else 0)).setMf l Mac.PORT_STATUS_LOCAL_FAULT 1).setMf l
          Mac.PORT_STATUS_REMOTE_FAULT (if rem then 1 else 0)).syncFault l).linkFall l)) ∧
      (s.dev.linkOk l = true → (s.dev.mac l).rf = false → ∃ d : Dev, exec (.linkFaultChange l false false true) s = s.next d ∧
        d.mf l Mac.PORT_STATUS_REMOTE_FAULT = 1 ∧ d.mf l Mac.PORT_STATUS_LINK_UP = 1 ∧
        OnlyCells s.dev d [rkey (macId l) Mac.PORT_STATUS_REMOTE_FAULT.kind.off])) ∧
    (s.dev.mf l Mac.PORT_STATUS_TRAIN_STATE = 4 → exec (.trainRetry l) s =
      s.next (s.dev.setMf l Mac.PORT_STATUS_TRAIN_STATE (s.dev.trainStart l)))

/-- A good frame goes to its prism, a wire scheduler picks or ends a frame, pauses expire and refresh, verify and
underrun act. In Run. FRAME_RECEIVE of a whole good frame that is no control frame and that the relay engine does not
take, on an enabled port whose link is up, without loopback, wakes the port's unit, counts it and gives its packet to
the lane's prism. WIRE_SELECT of a present port with no frame in progress comes to the frame boundary, where a port
that may send and has no pause frame due makes one selection; with a whole frame in progress it ends it first; one
that may be cut is cut for a pause frame that is due or an express class that may start; any other frame goes on.
PAUSE_TIMER_EXPIRY in MODE 2 clears the class's RX_PAUSED bit and no other register; in MODE 1 it clears all eight.
PFC_REFRESH of a port with classes in XOFF sends their pause frame at once where no frame is in progress, and else
makes it due. PREEMPT_VERIFY_TIMEOUT while verifying sends another verify mPacket up to three, then fails with event
0x0202. TX_UNDERRUN behind the bytes held at the start and before the frame's last ends the frame in progress with
error blocks and a complemented FCS, raises CUR, and raises the window's one event; elsewhere it changes nothing.
TX_START_WINDOW counts a quiet window, or ends a window that had an underrun. TX_TS_READ answers TX_TS_A and takes the
oldest timestamp. Where a clause follows a choice or inference of the model and not the spec, it is that of log
entries 2, 24, 122, 123. Rests on R79, R82 to R88, R91, R107 of 03_ports_and_mac.md and 04_prism_parser.md, R226, R232
of 09_scheduling_shaping_policing.md. -/
def Obligations.FramesReceivedSentAndPaused : Prop :=
  ∀ (s : State) (l : Nat), s.dev.acts = true →
    (∀ (cnt : Nat) (bs : List Byte) (more mcrc code : Bool) (w : Dev), s.dev.isPort l = true →
      s.dev.mf l Mac.PORT_STATUS_LINK_UP = 1 → s.dev.mf l Mac.PORT_CFG_LOOPBACK = 0 → w = s.dev.wakeUnit (macId l) →
      rxFlags bs code (w.mf l Mac.MAC_CFG_MAX_FRAME) = (false, 0) → be16 bs 12 ≠ 0x8808 → w.effEnable (macId l) = true →
      (∀ d : Dev, d = (w.macAdd l Mac.RX_FRAMES_OK 1).macAdd l Mac.RX_BYTES_OK bs.length →
       d.rlTakes bs = false → exec (.frameReceive l 0 cnt bs more mcrc code []) s =
         s.next (d.toPrism (prismOfLane l) (d.rxPacket l bs 0 (w.rxStamp l))))) ∧
    (∀ (sent : Nat) (bad : Option ReadFault), l < 16 → s.dev.lpPresent l = true → s.dev.swOpen = true →
      ((s.dev.mac l).tx = none → exec (.wireSelect l (sent, bad)) s = s.next (s.dev.wireBoundary l bad) ∧
        ((s.dev.mac l).due = none → s.dev.twinState ≠ 5 → s.dev.portSends l = true →
          exec (.wireSelect l (sent, bad)) s = s.next (s.dev.wirePick l bad))) ∧
      ((s.dev.mac l).tx.isSome = true → s.dev.txLen l ≤ sent →
        exec (.wireSelect l (sent, bad)) s = s.next ((s.dev.wireEnd l).wireBoundary l bad)) ∧
      ((s.dev.mac l).tx.isSome = true → sent < s.dev.txLen l → s.dev.mayCut l sent = true →
        ((s.dev.mac l).due.isSome = true ∧ s.dev.mf l Mac.PORT_STATUS_REMOTE_FAULT = 0 ∨ s.dev.expressWaits l = true) →
        exec (.wireSelect l (sent, bad)) s = s.next ((s.dev.txCut l sent).wireBoundary l bad)) ∧
      ((s.dev.mac l).tx.isSome = true → sent < s.dev.txLen l → s.dev.mayCut l sent = false →
        exec (.wireSelect l (sent, bad)) s = .next s)) ∧
    (∀ c : Nat, s.dev.mf l Mac.PAUSE_CFG_MODE = 2 → c < 8 → ∃ d : Dev, exec (.pauseTimerExpiry l c) s = s.next d ∧
      (d.mf l Mac.PAUSE_CFG_RX_PAUSED).testBit c = false ∧
      (∀ e : Nat, e < 8 → e ≠ c → (d.mf l Mac.PAUSE_CFG_RX_PAUSED).testBit e =
        (s.dev.mf l Mac.PAUSE_CFG_RX_PAUSED).testBit e)) ∧
    (∀ c : Nat, s.dev.mf l Mac.PAUSE_CFG_MODE = 1 → ∃ d : Dev, exec (.pauseTimerExpiry l c) s = s.next d ∧
      d.mf l Mac.PAUSE_CFG_RX_PAUSED = 0) ∧
    (s.dev.mf l Mac.PAUSE_CFG_XOFF_ACTIVE ≠ 0 → s.dev.mf l Mac.PORT_STATUS_LINK_UP = 1 →
      s.dev.mf l Mac.PAUSE_CFG_TX_EN = 1 → s.dev.mf l Mac.PAUSE_CFG_MODE ≠ 0 → l < s.dev.macs.length →
      (s.dev.mac l).due = none →
      ((s.dev.mac l).tx = none → s.dev.mf l Mac.PORT_STATUS_REMOTE_FAULT = 0 → exec (.pfcRefresh l) s = s.next
        (s.dev.sendPause l (s.dev.mf l Mac.PAUSE_CFG_XOFF_ACTIVE) 0)) ∧
      ((s.dev.mac l).tx.isSome = true → exec (.pfcRefresh l) s = s.next
        (s.dev.setMac l (fun (m : MacSt) => { m with due := some (true, 0) })))) ∧
    (s.dev.mf l Mac.PREEMPT_STATUS_VERIFY_STATE = 2 →
      ((s.dev.mac l).tries < 3 → exec (.preemptVerifyTimeout l) s = s.next
        ((s.dev.setMac l (fun (m : MacSt) => { m with tries := m.tries + 1 })).lineOut l (.mpacket l false))) ∧
      (3 ≤ (s.dev.mac l).tries → exec (.preemptVerifyTimeout l) s = s.next
        ((s.dev.setMf l Mac.PREEMPT_STATUS_VERIFY_STATE 4).raise (macId l) 0x0202 0 0))) ∧
    (∀ (f : TxFrm) (sent : Nat), (s.dev.mac l).tx = some f →
      (f.ahead ≤ sent → f.from_ ≤ sent → sent < f.bytes.length → exec (.txUnderrun l sent) s = s.next (
        let cur := min (s.dev.mf l Mac.TX_START_STATUS_CUR + s.dev.mf l Mac.TX_START_CFG_STEP)
          (s.dev.mf l Mac.TX_START_CFG_MAX);
        let d := s.dev.setMac l (fun (m : MacSt) => { m with tx := none, under := true });
        let d := d.lineOut l (f.lastPart l ((f.bytes.take sent).drop f.from_) (badFcs f.bytes) (f.bytes.length - sent));
        let d := (d.countCont l f).countLate l f;
        let d := ((d.macAdd l Mac.TX_UNDERRUN 1).setMf l Mac.TX_START_STATUS_CUR cur).setMf l Mac.TX_START_STATUS_QUIET 0;
        (if (s.dev.mac l).under then d else d.raise (macId l) 0x0203 0 cur).pauseFlush l)) ∧
      ((sent < f.ahead ∨ sent < f.from_ ∨ f.bytes.length ≤ sent) → exec (.txUnderrun l sent) s = .next s)) ∧
    ((s.dev.mac l).under = true → exec (.txStartWindow l) s =
      s.next (s.dev.setMac l (fun (m : MacSt) => { m with under := false }))) ∧
    ((s.dev.mac l).under = false →
      s.dev.mf l Mac.TX_START_STATUS_QUIET + 1 < s.dev.mf l Mac.TX_START_CFG_DECAY_WINDOWS →
      exec (.txStartWindow l) s =
        s.next (s.dev.setMf l Mac.TX_START_STATUS_QUIET (min 255 (s.dev.mf l Mac.TX_START_STATUS_QUIET + 1)))) ∧
    (∀ (ns tag sec : Nat) (o : Bool) (rest : List (Nat × Nat × Bool × Nat)),
      (s.dev.mac l).tsFifo = (ns, tag, o, sec) :: rest → exec (.txTsRead l) s = s.next
        ((((s.dev.emit (.readData (s.dev.cell (macId l) Mac.TX_TS_A_NS.kind.off))).setMac l
          (fun (m : MacSt) => { m with tsFifo := rest })).setMf l Mac.TX_TS_B_SEC sec).syncTs l))

/-- The PTP timebase advances by TB_INCR at each tick, or takes a set or adjust, and TB_SNAP holds what TB_CAPTURE
read. In Run: TIMEBASE_TICK of a running timebase with no set and no adjust pending moves the timebase by TB_INCR, in
units of 2^-32 ns, with the seconds rising as the nanoseconds reach 10^9 and the 48-bit seconds wrapping, and leaves
less than one second of nanoseconds; nothing else changes. A timebase that stands until it is set stays as it is. With
a set pending it loads that and runs; with an adjust pending a running one applies that too, and one that stands drops
it; after either the gates of the ports with an operating list take their place by the new time. TB_ADJ makes its
signed value the pending adjust. TB_SET_NS below 10^9 makes TB_SET_SEC and the value the pending set, and of 10^9 or
more changes nothing. TB_CAPTURE puts the timebase's whole nanoseconds and its seconds into TB_SNAP and changes no
other register. Rests on R89 of 03_ports_and_mac.md. -/
def Obligations.TimebaseTicksSetsAdjustsAndSnapshots : Prop :=
  ∀ (s : State), s.dev.acts = true →
    (s.dev.tb.stopped = false → s.dev.tb.set = none → s.dev.tb.adj = none → ∃ t : TbSt,
      exec .timebaseTick s = s.next { s.dev with tb := t } ∧ t.set = none ∧ t.adj = none ∧ t.stopped = false ∧ t.ns < secUnits ∧
      t.sec * secUnits + t.ns =
        (s.dev.tb.sec * secUnits + s.dev.tb.ns + s.dev.mf 0 Mac.TB_INCR_INCR) % (2 ^ 48 * secUnits)) ∧
    (s.dev.tb.stopped = true → s.dev.tb.set = none → s.dev.tb.adj = none → exec .timebaseTick s = .next s) ∧
    (∀ t : TbSt,
      ((∃ sec ns : Nat, s.dev.tb.set = some (sec, ns) ∧ s.dev.tb.adj = none ∧
          t = { s.dev.tb with sec := sec, ns := ns * 2 ^ 32, set := none, stopped := false }) ∨
        (∃ a : Int, s.dev.tb.set = none ∧ s.dev.tb.adj = some a ∧ s.dev.tb.stopped = false ∧
          t = { (s.dev.tb.move (s.dev.mf 0 Mac.TB_INCR_INCR)).move (a * 2 ^ 32) with adj := none }) ∨
        (∃ a : Int, s.dev.tb.set = none ∧ s.dev.tb.adj = some a ∧ s.dev.tb.stopped = true ∧
          t = { s.dev.tb with adj := none })) →
      exec .timebaseTick s = s.next
        ((List.range 16).foldl (fun (d : Dev) p => if d.gated p then d.syncGates p else d) { s.dev with tb := t })) ∧
    (∀ v : Word, exec (.tbAdj v) s = s.next { s.dev with tb := { s.dev.tb with adj := some v.toInt } }) ∧
    (∀ v : Nat, v < 1000000000 → exec (.tbSetNs v) s =
      s.next { s.dev with tb := { s.dev.tb with set := some (s.dev.mf 0 Mac.TB_SET_SEC_SEC, v) } }) ∧
    (∀ v : Nat, 1000000000 ≤ v → exec (.tbSetNs v) s = .next s) ∧
    (s.dev.tb.ns < secUnits → s.dev.tb.sec < 2 ^ 48 → ∃ d : Dev, exec .tbCapture s = s.next d ∧
      d.mf 0 Mac.TB_SNAP_NS_NS = s.dev.tb.ns / 2 ^ 32 ∧ d.mf 0 Mac.TB_SNAP_SEC_SEC = s.dev.tb.sec ∧
      OnlyCells s.dev d [rkey (macId 0) Mac.TB_SNAP_NS_NS.kind.off, rkey (macId 0) Mac.TB_SNAP_SEC_SEC.kind.off])

/-- A packet enters its prism, is parsed, is classified to its engine hitch or the fast path, and goes where the fast
path decides. In Run. PRISM_INPUT puts the next packet of an enabled prism with room into its FIFO; a received frame
that finds the prism disabled, in a millisecond whose event was raised, is dropped and IN_DROP rises by 1. PRISM_PARSE
of an enabled prism that drops nothing takes the FIFO's head and hands the parsed packet on, with PKTS one higher.
CLASSIFY takes the next packet handed on, writes its flow hash, and sends a received one to the engine hitch bound to
its port and class, or to the fast path where none is bound. LOOKUP serves an engine's oldest request and queues its
answer. FASTPATH_DECIDE carries out the action of the first deciding result, one of step 1 without learning, drops a
packet that nothing matched after its source lookup asked for learning, and drops one that its L2 entry would send to
its own source. Where a clause follows a choice or inference of the model and not the spec, it is that of log entries
14, 15. Rests on R94, R97, R109 of 04_prism_parser.md, R123, R127 to R130 of 05_match_and_learning.md, R216 of
08_switch_core.md. -/
def Obligations.PrismsClassifierAndFastPath : Prop :=
  ∀ (s : State) (n : Nat), s.dev.acts = true →
    (∀ p : Pkt, s.dev.prism.wire.find? (fun x => x.1 = n) = some (n, p) →
      (s.dev.takesWork (prismId n) = true → s.dev.prismDepth n < 4096 → exec (.prismInput n) s = s.next
        (({ s.dev with prism := { s.dev.prism with
            wire := s.dev.prism.wire.eraseP (fun x => x.1 = n), fifo := s.dev.prism.fifo ++ [(n, p)] } } : Dev).syncFifo n)) ∧
      (s.dev.takesWork (prismId n) = false → p.mg Meta.SRC_KIND = 0 →
        s.dev.prism.dropAt.contains (n, s.dev.time / 1000000) = true → exec (.prismInput n) s = s.next
        (({ s.dev with prism := { s.dev.prism with
            wire := s.dev.prism.wire.eraseP (fun x => x.1 = n) } } : Dev).bumpk (prismId n) Prism.IN_DROP))) ∧
    (∀ (g : Graph) (p : Pkt) (r : Parse) (e : Nat), s.dev.prism.graph = some g →
      s.dev.prism.fifo.find? (fun x => x.1 = n) = some (n, p) → s.dev.takesWork (prismId n) = true →
      walk g p.data p.parseEnd 33 g.start Parse.init = (r, e) →
      s.dev.gk (prismId n) Prism.PRISM_CFG_DROP_TRUNC = 0 → s.dev.gk (prismId n) Prism.PRISM_CFG_DROP_BADLEN = 0 →
      s.dev.gk (prismId n) Prism.PRISM_CFG_DROP_CSUM = 0 → s.dev.gk (prismId n) Prism.PRISM_CFG_DROP_UNKNOWN = 0 →
      ∃ d : Dev, exec (.prismParse n) s = s.next d ∧
        d.prism.parsed = s.dev.prism.parsed ++ [{ p.parsed r e with prism := some (p.prism.getD n) }] ∧
        d.prism.fifo = s.dev.prism.fifo.eraseP (fun x => x.1 = n) ∧
        d.gk (prismId n) Prism.PKTS = (s.dev.gk (prismId n) Prism.PKTS + 1) % 2 ^ 64) ∧
    (∀ p q : Pkt, s.dev.prism.parsed.find? (fun p => p.prism = some n) = some p →
      q = (p.ms Meta.FLOW_HASH (hashA 0 p.flowKey)).ms Meta.ORDER_KEY (hashA 0 p.flowKey % 256) →
      q.mg Meta.SRC_KIND = 0 → ∀ d : Dev, d = ({ s.dev with prism := { s.dev.prism with
          parsed := s.dev.prism.parsed.eraseP (fun p => p.prism = some n) } } : Dev) →
      (∀ u : Nat, d.portBinding (q.mg Meta.SRC_ID) (q.mg Meta.CLASS) = some u →
        exec (.classify n) s = s.next (d.toSwitch q (d.inputOf q) (.hitch u))) ∧
      (d.portBinding (q.mg Meta.SRC_ID) (q.mg Meta.CLASS) = none → exec (.classify n) s = s.next (d.toFast q))) ∧
    (∀ (r : LookReq) (pe th sl : Nat) (d : Dev) (a : TblAns),
      s.dev.tbl.looks.find? (fun r => homeTile r.table = n) = some r → r.src = .engine pe th sl →
      ({ s.dev with tbl := { s.dev.tbl with
        looks := s.dev.tbl.looks.eraseP (fun r => homeTile r.table = n) } } : Dev).lookEngine r pe th sl = (d, a) →
      exec (.lookup n) s = s.next { d with tbl := { d.tbl with answers := d.tbl.answers ++ [a] } }) ∧
    (∀ (f : FastPkt) (d : Dev), s.dev.tbl.fast.find? (fun f => f.decide ≠ .wait) = some f →
      d = ({ s.dev with tbl := { s.dev.tbl with fast := s.dev.tbl.fast.filter (fun (x : FastPkt) => x.id ≠ f.id) } } : Dev) →
      (∀ w : Nat, f.decide = .act 1 w → exec .fastpathDecide s = s.next ((d.srcLookup f false).fastAction f.pkt w)) ∧
      (f.decide = .drop 4 → exec .fastpathDecide s = s.next ((d.srcLookup f true).swBump Sw.FASTPATH_DROP)) ∧
      (∀ port queue : Nat, f.decide = .l2 port queue → (d.srcLookup f true).ownSource f.pkt port queue = true →
        exec .fastpathDecide s = s.next ((d.srcLookup f true).swBump Sw.FASTPATH_DROP)))

/-- Each of the nine table commands stores its parameters, sets BUSY and queues one request; while BUSY is 1 it sets
OVERRUN. In Run, for a write of TBL_CMD with OP READ, WRITE, INSERT, DELETE, SEARCH, NEXT, CTL_READ, CTL_WRITE or
STATS at match tile m: while BUSY is 0 it answers a next state in which TABLE_ID, OP and EVT hold what was written,
BUSY is 1, the request that TBL_DATA and TBL_INDEX then spell stands last in the queue of table changes, no register
cell but TBL_CMD and TBL_STATUS of that tile has changed, and then the wake of the home tile's region starts; while
BUSY is 1 it sets OVERRUN and does nothing else. Where a clause follows a choice or inference of the model and not the
spec, it is that of log entries 12, 14. Rests on R131, R132 of 05_match_and_learning.md. -/
def Obligations.TableCommandsWaitAtTheirMatchTile : Prop :=
  ∀ (s : State) (i : Instr) (m id evt op : Nat) (r : TblReq), s.dev.acts = true →
    tblOp s.dev i = some (m, id, evt, op, r) →
    (s.dev.gk (matchId m) Match.TBL_STATUS_BUSY = 0 → ∃ d : Dev, exec i s = s.next (d.wakeUnit (matchId (homeTile id))) ∧
      d.gk (matchId m) Match.TBL_CMD_TABLE_ID = id % 2 ^ 16 ∧ d.gk (matchId m) Match.TBL_CMD_OP = op ∧
      d.gk (matchId m) Match.TBL_CMD_EVT = evt % 2 ∧ d.gk (matchId m) Match.TBL_STATUS_BUSY = 1 ∧
      d.tbl = { s.dev.tbl with changes := s.dev.tbl.changes ++ [{ src := .iface m, table := id, req := r }] } ∧
      OnlyCells { s.dev with tbl := d.tbl } d
        [rkey (matchId m) Match.TBL_CMD_OP.kind.off, rkey (matchId m) Match.TBL_STATUS_BUSY.kind.off]) ∧
    (s.dev.gk (matchId m) Match.TBL_STATUS_BUSY = 1 →
      exec i s = s.next (s.dev.sk (matchId m) Match.TBL_STATUS_OVERRUN 1))

/-- A home tile applies the oldest change, answers it, learns when no change waits, ends move windows and ages
entries. In Run, at home tile m. TABLE_CHANGE_STEP takes the oldest change that waits there: a READ of a valid
undamaged entry of an online table answers the entry's words; a DELETE of a stored key with 0 beyond its KEY_BITS
removes the entry, counts it and answers its index; an engine's ATOM add stores the sum and answers the old word.
TBL_CMD_DONE with EVT 0 ends BUSY, sets RESULT and stores the words answered in TBL_DATA. LEARN_APPLY with no change
waiting inserts the entry of the oldest request and counts it, or counts a dropped request; while the table does not
learn it drops the request uncounted, and while a change waits it changes nothing. MOVE_WINDOW clears the move count
and, without an attempted move, DAMPED. AGE_VISIT with no change waiting moves the sweeper on; an entry that was hit
loses HIT and AGE_MARK, one that was not is marked, and a marked one that was not hit is removed and counted in AGED
unless the table is frozen. Where a clause follows a choice or inference of the model and not the spec, it is that of
log entries 12, 14, 133. Rests on R123, R124, R131 to R133, R137 of 05_match_and_learning.md, R185 of
07_engine_instructions.md. -/
def Obligations.TableChangesAreTakenOneByOne : Prop :=
  ∀ (s : State) (m : Nat), s.dev.acts = true →
    (∀ (c : TblChg) (t : Tbl) (d : Dev), s.dev.tbl.changes.find? (fun c => homeTile c.table = m) = some c →
      s.dev.table c.table = some t → t.offline = false →
      d = ({ s.dev with tbl := { s.dev.tbl with
        changes := s.dev.tbl.changes.eraseP (fun x => homeTile x.table = m) } } : Dev) →
      (∀ i n : Nat, c.src = .iface n → c.req = .read i → (keyed t.kind || arrayKind t.kind) = true →
        s.dev.indexSt t i = Sc.ok → exec (.tableChangeStep m) s = s.next
          { d with tbl := { d.tbl with answers := d.tbl.answers ++ [ansOk c.src none (s.dev.entry t i)] } }) ∧
      (∀ (i n : Nat) (ws : List Word), c.src = .iface n → c.req = .delete ws → keyed t.kind = true → t.keyFits ws = true →
        s.dev.findKey t (t.keyOf ws) (t.plenOf ws) = some i → exec (.tableChangeStep m) s = s.next (
          let d := (d.tblRemove t i).tstat t.id 3 1;
          { d with tbl := { d.tbl with answers := d.tbl.answers ++ [ansOk c.src (some i) []] } })) ∧
      (∀ (i first a b pe th sl owner : Nat), c.src = .engine pe th sl owner → c.req = .atom 0 i first a b →
        mayAlter c.src t = true → atomOk t first = true → t.entryBad i = false → s.dev.evalid t i = true →
        (keyed t.kind || arrayKind t.kind) = true → exec (.tableChangeStep m) s = s.next (
          let old := (s.dev.entry t i).getD first 0;
          let d := d.putEntry t i first [BitVec.ofNat 64 (old.toNat + a)];
          { d with tbl := { d.tbl with answers := d.tbl.answers ++ [ansOk c.src (some i) [old]] } }))) ∧
    (∀ a : TblAns, s.dev.tbl.answers.find? (fun a => a.src = TblSrc.iface m) = some a → a.words.length ≤ 32 →
      s.dev.gk (matchId m) Match.TBL_CMD_EVT = 0 → ∃ d : Dev, exec (.tblCmdDone m) s = s.next d ∧
        d.gk (matchId m) Match.TBL_STATUS_BUSY = 0 ∧ d.gk (matchId m) Match.TBL_STATUS_RESULT = a.status % 2 ^ 8 ∧
        ∀ k : Nat, k < a.words.length → d.gk (matchId m) (Match.TBL_DATA_W k) = (a.words.getD k 0).toNat) ∧
    (s.dev.changesWait m = true → exec (.learnApply m) s = .next s) ∧
    (∀ (r : LearnReq) (t : Tbl) (d : Dev), s.dev.changesWait m = false →
      s.dev.tbl.learn.find? (fun r => homeTile r.table = m) = some r → s.dev.table r.table = some t →
      d = ({ s.dev with tbl := { s.dev.tbl with learn := s.dev.tbl.learn.filter (· ≠ r) } } : Dev) →
      (t.learns = false → exec (.learnApply m) s = s.next d) ∧
      (∀ (e : Dev) (i : Nat), t.learns = true → d.tblInsert t (learnEntry r) = (e, .ok i) →
        exec (.learnApply m) s = s.next (e.tstat t.id 5 1)) ∧
      (∀ (e : Dev) (st : Nat), t.learns = true → d.tblInsert t (learnEntry r) = (e, .error st) →
        exec (.learnApply m) s = s.next (e.learnDrop t.id))) ∧
    (∀ (t : Tbl) (i : Nat), s.dev.tbl.tables.filter (fun t => t.kind = 2 && homeTile t.id = m) = [t] →
      s.dev.entries t = [i] → exec (.moveWindow m) s = s.next (
        let d := s.dev.es t i L2.MOVE_COUNT 0;
        (if t.attempts.contains i then d else d.es t i L2.DAMPED 0).setTbl t.id
          (fun (t : Tbl) => { t with attempts := [] }))) ∧
    (∀ (id i : Nat) (t : Tbl) (d : Dev), s.dev.table id = some t → t.kind = 1 ∨ t.kind = 2 → t.sweeping = true →
      s.dev.changesWait (homeTile id) = false →
      t.sweepPos ≠ 0 → i = t.positions.2 + t.sweepPos → s.dev.evalid t i = true →
      s.dev.eg t i (staticFld t.kind) = 0 → t.entryBad i = false →
      d = (s.dev.setTbl id (fun _ => t)).setTbl id
        (fun (t : Tbl) => { t with sweepPos := (t.sweepPos + 1) % t.positions.1 }) →
      (s.dev.eg t i (hitFld t.kind) = 1 →
        exec (.ageVisit id) s = s.next ((d.es t i (hitFld t.kind) 0).es t i (markFld t.kind) 0)) ∧
      (s.dev.eg t i (hitFld t.kind) = 0 → s.dev.eg t i (markFld t.kind) = 0 →
        exec (.ageVisit id) s = s.next (d.es t i (markFld t.kind) 1)) ∧
      (s.dev.eg t i (hitFld t.kind) = 0 → s.dev.eg t i (markFld t.kind) = 1 → t.ctl TblCtl.FROZEN = 0 →
        exec (.ageVisit id) s = s.next (((((d.tblRemove t i).tstat id 4 1).setTbl id
          (fun (t : Tbl) => { t with agedN := t.agedN + 1 }))).agedEvent id)))

/-- The eleven register arithmetic instructions write their result to D, move the PC on by 4 and use one slot, MUL
two. In Run, when the next thread of a PE may issue a register arithmetic instruction i, the command of its mnemonic
answers a next state in which the thread's D holds the result of A and B: ADD their sum and SUB their difference
modulo 2^64; AND, OR and XOR bit by bit; SHL, SHR and SAR by B's low 6 bits, SAR copying the sign; MUL the low 64 bits
of the product; SLT 1 when A is less than B as signed values, else 0, SLTU the same unsigned. The PC rises by 4,
ISSUED by 1 and for MUL by 2, and PE_STATUS follows the threads; nothing else changes. Where a clause follows a choice
or inference of the model and not the spec, it is that of log entries 18. Rests on R143, R170 of
06_engines_and_rein.md and 07_engine_instructions.md. -/
def Obligations.EngineRegisterArithmetic : Prop :=
  ∀ (s : State) (n t : Nat) (i : EngInst) (d : Dev) (x : Thr), s.dev.acts = true → s.dev.issues n t i = true →
    d = s.dev.atIssue n t → x = d.thr n t →
    (i.op = .add → exec (.addd n) s =
      s.next ((d.issued n t (x.setReg i.d (x.reg i.a + x.reg i.b)) (x.pc + 4) 1).syncPe n)) ∧
    (i.op = .sub → exec (.subb n) s =
      s.next ((d.issued n t (x.setReg i.d (x.reg i.a - x.reg i.b)) (x.pc + 4) 1).syncPe n)) ∧
    (i.op = .andr → exec (.andd n) s =
      s.next ((d.issued n t (x.setReg i.d (x.reg i.a &&& x.reg i.b)) (x.pc + 4) 1).syncPe n)) ∧
    (i.op = .orr → exec (.orr n) s =
      s.next ((d.issued n t (x.setReg i.d (x.reg i.a ||| x.reg i.b)) (x.pc + 4) 1).syncPe n)) ∧
    (i.op = .xorr → exec (.xorr n) s =
      s.next ((d.issued n t (x.setReg i.d (x.reg i.a ^^^ x.reg i.b)) (x.pc + 4) 1).syncPe n)) ∧
    (i.op = .shl → exec (.shl n) s =
      s.next ((d.issued n t (x.setReg i.d (x.reg i.a <<< ((x.reg i.b).toNat % 64))) (x.pc + 4) 1).syncPe n)) ∧
    (i.op = .shr → exec (.shr n) s =
      s.next ((d.issued n t (x.setReg i.d (x.reg i.a >>> ((x.reg i.b).toNat % 64))) (x.pc + 4) 1).syncPe n)) ∧
    (i.op = .sar → exec (.sar n) s =
      s.next ((d.issued n t (x.setReg i.d ((x.reg i.a).sshiftRight ((x.reg i.b).toNat % 64))) (x.pc + 4) 1).syncPe n)) ∧
    (i.op = .mul → exec (.mull n) s =
      s.next ((d.issued n t (x.setReg i.d (BitVec.ofNat 64 ((x.reg i.a).toNat * (x.reg i.b).toNat))) (x.pc + 4) 2).syncPe n)) ∧
    (i.op = .slt → exec (.slt n) s =
      s.next ((d.issued n t (x.setReg i.d (if (x.reg i.a).toInt < (x.reg i.b).toInt then 1 else 0)) (x.pc + 4) 1).syncPe n)) ∧
    (i.op = .sltu → exec (.sltu n) s =
      s.next ((d.issued n t (x.setReg i.d (if (x.reg i.a).toNat < (x.reg i.b).toNat then 1 else 0)) (x.pc + 4) 1).syncPe n))

/-- Immediate arithmetic, MOVI and the bit-field instructions EXT, EXTS and INS write their result to D and move on.
In Run, when the next thread of a PE may issue such an instruction: ADDI adds the sign-extended 12-bit immediate,
modulo 2^64; ANDI, ORI and XORI combine A with the zero-extended immediate; SHLI and SHRI shift A by the immediate;
MOVI writes the sign-extended 19-bit immediate. With a field of width W whose lowest bit is POS, EXT writes A's field
zero-extended, EXTS sign-extended from its top bit, and INS replaces D's field with A's low W bits and leaves the
other bits of D. Where a clause follows a choice or inference of the model and not the spec, it is that of log entries
18. Rests on R172, R174 of 07_engine_instructions.md. -/
def Obligations.EngineImmediatesMovesAndFields : Prop :=
  ∀ (s : State) (n t : Nat) (i : EngInst) (d : Dev) (x : Thr), s.dev.acts = true → s.dev.issues n t i = true →
    d = s.dev.atIssue n t → x = d.thr n t →
    (i.op = .addi → exec (.addi n) s =
      s.next ((d.issued n t (x.setReg i.d (x.reg i.a + BitVec.ofInt 64 (sext 12 i.x))) (x.pc + 4) 1).syncPe n)) ∧
    (i.op = .andi → exec (.andi n) s =
      s.next ((d.issued n t (x.setReg i.d (x.reg i.a &&& BitVec.ofNat 64 i.x)) (x.pc + 4) 1).syncPe n)) ∧
    (i.op = .ori → exec (.ori n) s =
      s.next ((d.issued n t (x.setReg i.d (x.reg i.a ||| BitVec.ofNat 64 i.x)) (x.pc + 4) 1).syncPe n)) ∧
    (i.op = .xori → exec (.xori n) s =
      s.next ((d.issued n t (x.setReg i.d (x.reg i.a ^^^ BitVec.ofNat 64 i.x)) (x.pc + 4) 1).syncPe n)) ∧
    (i.op = .shli → exec (.shli n) s =
      s.next ((d.issued n t (x.setReg i.d (x.reg i.a <<< i.x)) (x.pc + 4) 1).syncPe n)) ∧
    (i.op = .shri → exec (.shri n) s =
      s.next ((d.issued n t (x.setReg i.d (x.reg i.a >>> i.x)) (x.pc + 4) 1).syncPe n)) ∧
    (i.op = .movi → exec (.movi n) s =
      s.next ((d.issued n t (x.setReg i.d (BitVec.ofInt 64 (sext 19 i.x))) (x.pc + 4) 1).syncPe n)) ∧
    (∀ pos w : Nat, pos = i.x / 64 → w = i.x % 64 + 1 →
      (i.op = .ext → exec (.ext n) s =
        s.next ((d.issued n t (x.setReg i.d (BitVec.ofNat 64 (getBits (x.reg i.a) pos w))) (x.pc + 4) 1).syncPe n)) ∧
      (i.op = .exts → exec (.exts n) s =
        s.next ((d.issued n t (x.setReg i.d (BitVec.ofInt 64 (sext w (getBits (x.reg i.a) pos w)))) (x.pc + 4) 1).syncPe n)) ∧
      (i.op = .ins → pos + w ≤ 64 ∧ ∃ v : Word, exec (.ins n) s =
        s.next ((d.issued n t (x.setReg i.d v) (x.pc + 4) 1).syncPe n) ∧
        ∀ k : Nat, k < 64 → v.getLsbD k =
          if pos ≤ k ∧ k < pos + w then (x.reg i.a).getLsbD (k - pos) else (x.reg i.d).getLsbD k))

/-- MOVK replaces the 16 bits of D that IMM names with IMM's value and leaves the rest; with IMM bit 18 set it is no
instruction. In Run, a MOVK that the next thread of a PE may issue writes D so that bits 16k to 16k + 15 are IMM's low
16 bits, k being IMM bits 17:16, and every other bit is D's own. A word of opcode 0x09 whose bit 18 is 1 decodes to
nothing. Every 64-bit constant comes of one MOVI of its low 16 bits and three MOVK of the rest. Rests on R173. -/
def Obligations.MovkReplacesSixteenBits : Prop :=
  (∀ (s : State) (n t : Nat) (i : EngInst) (d : Dev) (x : Thr), s.dev.acts = true → s.dev.issues n t i = true →
    d = s.dev.atIssue n t → x = d.thr n t → i.op = .movk →
    ∃ v : Word, exec (.movk n) s = s.next ((d.issued n t (x.setReg i.d v) (x.pc + 4) 1).syncPe n) ∧
      i.x / 65536 < 4 ∧ ∀ k : Nat, k < 64 → v.getLsbD k =
        if 16 * (i.x / 65536) ≤ k ∧ k < 16 * (i.x / 65536) + 16 then (i.x % 65536).testBit (k - 16 * (i.x / 65536))
        else (x.reg i.d).getLsbD k) ∧
  (∀ w : Nat, w / 2 ^ 26 % 64 = 9 → w / 2 ^ 18 % 2 = 1 → decodeInst w = none) ∧
  (∀ c : Word, putBits (putBits (putBits (BitVec.ofInt 64 (sext 19 (getBits c 0 16))) 16 16 (getBits c 16 16)) 32 16
    (getBits c 32 16)) 48 16 (getBits c 48 16) = c)

/-- HLD, HST, LDW, LDD, STW and STD move bytes between registers and the vector or data memory, or trap on range and
alignment. In Run, when the next thread of a PE may issue such an instruction. HLD and HST reach 1, 2, 4 or 8 bytes at
value(A) + IMM[8:0]: within the vector's 512 bytes HLD writes their big-endian value to D and HST stores D's low bytes
there, and beyond it both trap HV_RANGE. LDW, LDD, STW and STD reach 4 or 8 bytes of the PE's data memory at value(A)
+ sext(IMM): an aligned access below 0x3_0000 to a word without an error loads the little-endian value, zero-extended,
or stores D's low bytes; an access past 0x3_0000 traps DMEM_RANGE and a misaligned one DMEM_ALIGN, with no other
effect. Stores change no other byte of any memory. Where a clause follows a choice or inference of the model and not
the spec, it is that of log entries 18. Rests on R175, R177 of 07_engine_instructions.md. -/
def Obligations.EngineVectorAndDataMemory : Prop :=
  ∀ (s : State) (n t : Nat) (i : EngInst) (d : Dev) (x : Thr), s.dev.acts = true → s.dev.issues n t i = true →
    d = s.dev.atIssue n t → x = d.thr n t →
    (∀ o w : Nat, o = (x.reg i.a).toNat + i.x % 512 → w = 2 ^ (i.x / 512) →
      (i.op = .hld → (o + w ≤ 512 → exec (.hld n) s =
          s.next ((d.issued n t (x.setReg i.d (BitVec.ofNat 64 (beNat (x.vbytes o w)))) (x.pc + 4) 1).syncPe n)) ∧
        (512 < o + w → exec (.hld n) s = s.next ((d.trap n t 5 (d.fetchWord n x.pc)).syncPe n))) ∧
      (i.op = .hst → (o + w ≤ 512 → exec (.hst n) s = s.next ((d.issued n t
          { x with v := spliceBytes x.v o (beBytes w (x.reg i.d).toNat) } (x.pc + 4) 1).syncPe n)) ∧
        (512 < o + w → exec (.hst n) s = s.next ((d.trap n t 5 (d.fetchWord n x.pc)).syncPe n)))) ∧
    (∀ a : Nat, a = (x.reg i.a + BitVec.ofInt 64 (sext 12 i.x)).toNat →
      (i.op = .ldw → a + 4 ≤ 0x30000 → a % 4 = 0 → (d.pe n).badData.contains (a / 8) = false → exec (.ldw n) s =
        s.next ((d.issued n t (x.setReg i.d (BitVec.ofNat 64 (leNat (d.readMem .peData (n * 196608 + a) 4))))
          (x.pc + 4) 1).syncPe n)) ∧
      (i.op = .ldd → a + 8 ≤ 0x30000 → a % 8 = 0 → (d.pe n).badData.contains (a / 8) = false → exec (.ldd n) s =
        s.next ((d.issued n t (x.setReg i.d (BitVec.ofNat 64 (leNat (d.readMem .peData (n * 196608 + a) 8))))
          (x.pc + 4) 1).syncPe n)) ∧
      (i.op = .stw → a + 4 ≤ 0x30000 → a % 4 = 0 → exec (.stw n) s =
        s.next (((d.writeMem .peData (n * 196608 + a) (leBytes 4 (x.reg i.d).toNat)).issued n t x (x.pc + 4) 1).syncPe n)) ∧
      (i.op = .std → a + 8 ≤ 0x30000 → a % 8 = 0 → exec (.std n) s = s.next
        ((((d.writeMem .peData (n * 196608 + a) (leBytes 8 (x.reg i.d).toNat)).setPe n
          (fun (p : PeSt) => { p with badData := p.badData.filter (· ≠ a / 8) })).issued n t x (x.pc + 4) 1).syncPe n)) ∧
      (∀ c : Instr, (c, i.op) ∈ [(.ldw n, .ldw), (.stw n, .stw)] → 0x30000 < a + 4 ∨ a % 4 ≠ 0 → exec c s =
        s.next ((d.trap n t (if 0x30000 < a + 4 then 3 else 4) (d.fetchWord n x.pc)).syncPe n)) ∧
      (∀ c : Instr, (c, i.op) ∈ [(.ldd n, .ldd), (.std n, .std)] → 0x30000 < a + 8 ∨ a % 8 ≠ 0 → exec c s =
        s.next ((d.trap n t (if 0x30000 < a + 8 then 3 else 4) (d.fetchWord n x.pc)).syncPe n)))

/-- HADJ grows the packet at its front by bytes of 0 or removes bytes there, sets PKT_LEN, and traps LEN_RANGE outside
its limits. In Run, when the next thread of a PE may issue a HADJ by a signed number N, the value of A plus the sign-
extended immediate. With N outside -256 to 256 and not 0, a resulting length outside 14 to 16,383, a spill that would
exceed 256 bytes, or fewer bytes in V than it removes, it traps LEN_RANGE. Otherwise, for a thread whose vector holds
512 bytes and whose three parts agree with PKT_LEN, a HADJ that succeeds uses two slots and leaves a packet that is
the old one with N bytes of 0 before it, or without its first -N bytes, with PKT_LEN changed by N and the tail as it
was. Where a clause follows a choice or inference of the model and not the spec, it is that of log entries 18. Rests
on R176 of 07_engine_instructions.md. -/
def Obligations.HadjMovesThePacketStart : Prop :=
  ∀ (s : State) (n t : Nat) (i : EngInst) (d : Dev) (x : Thr) (k : Int), s.dev.acts = true → s.dev.issues n t i = true →
    d = s.dev.atIssue n t → x = d.thr n t → i.op = .hadj → k = (x.reg i.a).toInt + sext 12 i.x →
    (k ≠ 0 → (256 < k.natAbs ∨ (x.pkt.mg Meta.PKT_LEN : Int) + k < 14 ∨ 16383 < (x.pkt.mg Meta.PKT_LEN : Int) + k ∨
        (0 < k ∧ 256 < x.spill.length + (x.vl + k.natAbs - 512)) ∨ (k < 0 ∧ x.vl < k.natAbs)) →
      exec (.hadj n) s = s.next ((d.trap n t 6 (d.fetchWord n x.pc)).syncPe n)) ∧
    (x.v.length = 512 → x.pkt.m.length = 16 → x.vl ≤ 512 → x.spill.length + x.tail.length ≤ x.pkt.mg Meta.PKT_LEN →
      (x.spill ≠ [] → x.vl = 512) → ∀ y : Thr, x.hadj k = some y →
      exec (.hadj n) s = s.next ((d.issued n t y (x.pc + 4) 2).syncPe n) ∧
      (y.pkt.mg Meta.PKT_LEN : Int) = (x.pkt.mg Meta.PKT_LEN : Int) + k ∧ y.tail = x.tail ∧ y.g = x.g ∧
      (0 ≤ k → y.bytes = List.replicate k.toNat 0 ++ x.bytes) ∧
      (k < 0 → y.bytes = x.bytes.drop (-k).toNat))

/-- A branch goes to PC + 4 x OFF when its condition holds and to PC + 4 otherwise; JAL and JR link and jump, or trap
PC_RANGE. In Run, when the next thread of a PE may issue a branch: BEQ, BNE, BLT, BGE, BLTU and BGEU compare A with B
as bits, signed or unsigned, and BBS and BBC test bit B of A. A branch whose condition does not hold moves the PC on
by 4; one whose condition holds moves it to PC + 4 x sext(OFF), when that lies in 0 to 0xFFFF. JAL writes PC + 4 to D
and goes to PC + 4 x sext(IMM); JR writes PC + 4 to D and goes to the value A had, when that is a multiple of 4 below
0x1_0000. A taken transfer to any other target traps PC_RANGE. Where a clause follows a choice or inference of the
model and not the spec, it is that of log entries 18. Rests on R178 of 07_engine_instructions.md. -/
def Obligations.EngineBranchesAndJumps : Prop :=
  ∀ (s : State) (n t : Nat) (i : EngInst) (d : Dev) (x : Thr), s.dev.acts = true → s.dev.issues n t i = true →
    d = s.dev.atIssue n t → x = d.thr n t →
    (∀ (c : Instr) (p : Prop), (c, i.op, p) ∈
        [(.beq n, .beq, x.reg i.a = x.reg i.b), (.bne n, .bne, x.reg i.a ≠ x.reg i.b),
         (.blt n, .blt, (x.reg i.a).toInt < (x.reg i.b).toInt), (.bge n, .bge, (x.reg i.b).toInt ≤ (x.reg i.a).toInt),
         (.bltu n, .bltu, (x.reg i.a).toNat < (x.reg i.b).toNat), (.bgeu n, .bgeu, (x.reg i.b).toNat ≤ (x.reg i.a).toNat),
         (.bbs n, .bbs, (x.reg i.a).getLsbD i.b = true), (.bbc n, .bbc, (x.reg i.a).getLsbD i.b = false)] →
      (¬ p → exec c s = s.next ((d.issued n t x (x.pc + 4) 1).syncPe n)) ∧
      (∀ dst : Int, p → dst = (x.pc : Int) + 4 * sext 12 i.x → x.pc % 4 = 0 →
        (0 ≤ dst → dst < 0x10000 → exec c s = s.next ((d.issued n t x dst.toNat 1).syncPe n)) ∧
        (dst < 0 ∨ 0x10000 ≤ dst → exec c s = s.next ((d.trap n t 2 (d.fetchWord n x.pc)).syncPe n)))) ∧
    (∀ dst : Int, i.op = .jal → dst = (x.pc : Int) + 4 * sext 19 i.x → x.pc % 4 = 0 →
      (0 ≤ dst → dst < 0x10000 → exec (.jal n) s =
        s.next ((d.issued n t (x.setReg i.d (BitVec.ofNat 64 (x.pc + 4))) dst.toNat 1).syncPe n)) ∧
      (dst < 0 ∨ 0x10000 ≤ dst → exec (.jal n) s = s.next ((d.trap n t 2 (d.fetchWord n x.pc)).syncPe n))) ∧
    (∀ dst : Nat, i.op = .jr → dst = (x.reg i.a).toNat →
      (dst < 0x10000 → dst % 4 = 0 → exec (.jr n) s =
        s.next ((d.issued n t (x.setReg i.d (BitVec.ofNat 64 (x.pc + 4))) dst 1).syncPe n)) ∧
      (0x10000 ≤ dst ∨ dst % 4 ≠ 0 → exec (.jr n) s = s.next ((d.trap n t 2 (d.fetchWord n x.pc)).syncPe n)))

/-- CSADD, CSHV and CSFIN compute ones-complement sums, CRCR and CRCHV update a CRC, over registers or the vector's
bytes. In Run, when the next thread of a PE may issue such an instruction. CSADD writes the folded sum of D's low 16
bits and the four 16-bit fields of A and of B. CSFIN writes the complement of the folded sum of A's four fields. CSHV
adds the bytes of the vector from value(A) for value(B) bytes to D's low 16 bits, folded, and CRCHV runs them through
the CRC that FN selects; each uses one slot and one more for every 16 bytes begun; a length of 0 changes no register,
and a byte at or beyond 512 traps HV_RANGE. CRCR runs the low min(8, value(B)) bytes of A, most significant first,
through the CRC, and leaves D where that is no byte. Where a clause follows a choice or inference of the model and not
the spec, it is that of log entries 18. Rests on R179, R180 of 07_engine_instructions.md. -/
def Obligations.EngineChecksumsAndCrcs : Prop :=
  ∀ (s : State) (n t : Nat) (i : EngInst) (d : Dev) (x : Thr) (o k : Nat), s.dev.acts = true → s.dev.issues n t i = true →
    d = s.dev.atIssue n t → x = d.thr n t → o = (x.reg i.a).toNat → k = (x.reg i.b).toNat →
    (i.op = .csadd → exec (.csadd n) s = s.next ((d.issued n t (x.setReg i.d (BitVec.ofNat 64
      (fold16 (getBits (x.reg i.d) 0 16 + fields16 (x.reg i.a) + fields16 (x.reg i.b))))) (x.pc + 4) 1).syncPe n)) ∧
    (i.op = .csfin → exec (.csfin n) s = s.next ((d.issued n t (x.setReg i.d (BitVec.ofNat 64
      (65535 - fold16 (fields16 (x.reg i.a))))) (x.pc + 4) 1).syncPe n)) ∧
    (i.op = .cshv → 0 < k → o + k ≤ 512 → exec (.cshv n) s = s.next ((d.issued n t (x.setReg i.d (BitVec.ofNat 64
      (fold16 (getBits (x.reg i.d) 0 16 + sum16 (x.vbytes o k))))) (x.pc + 4) (1 + (k + 15) / 16)).syncPe n)) ∧
    (i.op = .crchv → 0 < k → o + k ≤ 512 → exec (.crchv n) s = s.next ((d.issued n t (x.setReg i.d
      (crcRun i.x (x.reg i.d) (x.vbytes o k))) (x.pc + 4) (1 + (k + 15) / 16)).syncPe n)) ∧
    (∀ c : Instr, (c, i.op) ∈ [(.cshv n, .cshv), (.crchv n, .crchv)] →
      (k = 0 → exec c s = s.next ((d.issued n t x (x.pc + 4) 1).syncPe n)) ∧
      (0 < k → 512 < o + k → exec c s = s.next ((d.trap n t 5 (d.fetchWord n x.pc)).syncPe n))) ∧
    (i.op = .crcr → 0 < k → exec (.crcr n) s = s.next ((d.issued n t (x.setReg i.d
      (crcRun i.x (x.reg i.d) (beBytes (min 8 k) o))) (x.pc + 4) 1).syncPe n)) ∧
    (i.op = .crcr → k = 0 → exec (.crcr n) s = s.next ((d.issued n t x (x.pc + 4) 1).syncPe n))

/-- LK, TINS, TDEL, TWR, the ATOMs, POL and CNT send one request to the home tile and go on; a bad operand completes
MALFORMED. In Run, when the next thread of a PE may issue a table operation whose operand in B has its reserved bits
0: the thread goes on to the next instruction with one more operation outstanding for D and the words after it, and LK
queues a lookup with the key in A to A + 4, POL a meter request, and TINS, TDEL, TWR, ATOM_ADD, ATOM_SWP and ATOM_CAS
a table change, each marked with the thread, its slot and its PE's owner, and starts the wake of the home tile's
region. With a reserved bit set the answer MALFORMED is queued instead. CNT with fewer than 64 in flight queues its
update and counts one more in flight; with 64 in flight the thread stays at it. Where a clause follows a choice or
inference of the model and not the spec, it is that of log entries 12, 18. Rests on R181 to R188 of
07_engine_instructions.md. -/
def Obligations.EngineTableOperationsSendTheirRequest : Prop :=
  ∀ (s : State) (n t : Nat) (i : EngInst) (d e : Dev) (x : Thr) (b : Word) (src : TblSrc), s.dev.acts = true →
    s.dev.issues n t i = true → d = s.dev.atIssue n t → x = d.thr n t → b = x.reg i.b →
    src = .engine n t x.nextSlot (d.peOwner n) → e = d.issued n t (x.addOp i.d i.extra) (x.pc + 4) 1 →
    (getBits b 21 3 = 0 →
      (i.op = .lk → i.x < 8 → exec (.lk n) s = s.next ((({ e with tbl := { e.tbl with looks := e.tbl.looks ++
        [{ src := .engine n t x.nextSlot, table := wget [b] TOpnd.TABLE_ID, key := keyBytes (x.run i.a 5)
           index := wget [b] TOpnd.INDEX, first := wget [b] TOpnd.FIRST_WORD, n := i.x, learn := false
           source := none }] } } : Dev).wakeUnit (matchId (homeTile (wget [b] TOpnd.TABLE_ID)))).syncPe n)) ∧
      (i.op = .pol → exec (.pol n) s = s.next ((({ e with sched := { e.sched with pols := e.sched.pols ++
        [{ src := src, table := wget [b] TOpnd.TABLE_ID, index := wget [b] TOpnd.INDEX
           bytes := getBits (x.reg i.a) 0 32, colour := getBits (x.reg i.a) 32 2
           bad := getBits (x.reg i.a) 32 2 = 3 }] } } : Dev).wakeUnit (matchId (homeTile (wget [b] TOpnd.TABLE_ID)))).syncPe
            n)) ∧
      (∀ (c : Instr) (r : TblReq), (c, i.op, r) ∈
          [(.tins n, .tins, TblReq.tins (x.run i.a 8)),
           (.tdel n, .tdel, TblReq.tdel (keyBytes (x.run i.a 5)) (wget [b] TOpnd.PREFIX_LEN)),
           (.twr n, .twr, TblReq.twr (wget [b] TOpnd.INDEX) (wget [b] TOpnd.FIRST_WORD) (x.run i.a (i.x + 1))),
           (.atomAdd n, .atomAdd, TblReq.atom 0 (wget [b] TOpnd.INDEX) (wget [b] TOpnd.FIRST_WORD) (x.reg i.a).toNat 0),
           (.atomSwp n, .atomSwp, TblReq.atom 1 (wget [b] TOpnd.INDEX) (wget [b] TOpnd.FIRST_WORD) (x.reg i.a).toNat 0),
           (.atomCas n, .atomCas, TblReq.atom 2 (wget [b] TOpnd.INDEX) (wget [b] TOpnd.FIRST_WORD) (x.reg i.a).toNat
              (x.reg (i.a + 1)).toNat)] →
        exec c s = s.next ((e.addChange { src := src, table := wget [b] TOpnd.TABLE_ID, req := r }).syncPe n)) ∧
      (i.op = .cnt → (d.pe n).cnts < 64 → exec (.cnt n) s = s.next
        ((((d.issued n t x (x.pc + 4) 1).setPe n (fun (p : PeSt) => { p with cnts := p.cnts + 1 })).addChange
          { src := src, table := wget [b] TOpnd.TABLE_ID
            req := .cnt (wget [b] TOpnd.INDEX) (x.reg i.a).toNat }).syncPe n))) ∧
    (i.op = .cnt → 64 ≤ (d.pe n).cnts → exec (.cnt n) s = s.next (d.syncPe n)) ∧
    (getBits b 21 3 ≠ 0 → ∀ c : Instr, (c, i.op) ∈ [(.lk n, .lk), (.tins n, .tins), (.tdel n, .tdel), (.twr n, .twr),
        (.atomAdd n, .atomAdd), (.atomSwp n, .atomSwp), (.atomCas n, .atomCas), (.pol n, .pol)] →
      exec c s = s.next (({ e with tbl := { e.tbl with answers := e.tbl.answers ++
        [{ ansSt src Sc.malformed with words := List.replicate i.extra 0 }] } } : Dev).syncPe n))

/-- EMIT_COPY and EMIT_FINAL put the packet under its tag, DROP and the final emit end it, RDS reads state into D. In
Run, when the next thread of a PE may issue such an instruction. An emit that meets no trap and whose destination can
accept the packet puts V, S and T with the metadata under the thread's tag and uses four slots, or two and ends the
packet for the final one; an emit whose destination cannot accept leaves the thread at it; an emit that meets a trap
condition takes that trap. DROP counts in DROP_ENGINE and ends the packet. RDS writes to D the PE cycles since the
packet's dispatch, the PTP time at issue, the thread's identity, or the packets emitted so far, by FN 0, 1, 2 and 3.
Where a clause follows a choice or inference of the model and not the spec, it is that of log entries 12, 18. Rests on
R128, R149, R153, R176, R189 to R192 of 05_match_and_learning.md, 06_engines_and_rein.md and
07_engine_instructions.md. -/
def Obligations.EngineEmitsDropsAndReadsState : Prop :=
  ∀ (s : State) (n t : Nat) (i : EngInst) (d : Dev) (x : Thr), s.dev.acts = true →
    s.dev.issues n t i = true → d = s.dev.atIssue n t → x = d.thr n t →
    (∀ (w : Nat) (p : Pkt), w = (x.reg i.a).toNat → p = ({ x.pkt with data := x.bytes, job := none } : Pkt).withAct w →
      (d.emitTrap x.hitch w x.emits = none → w % 16 ≠ 0 → d.emitBlocked x.hitch w p = false →
        (i.op = .emitCopy → exec (.emitCopy n) s = s.next (
          let d := d.issued n t { x with emits := x.emits + 1 } (x.pc + 4) 4;
          ((d.countAct w p.data.length).pushEmit x.hitch x.tag { pkt := p, act := w, time := d.time }).syncPe n)) ∧
        (i.op = .emitFinal → exec (.emitFinal n) s = s.next (
          let d := d.issued n t { x with emits := x.emits + 1 } (x.pc + 4) 2;
          (((d.countAct w p.data.length).pushEmit x.hitch x.tag { pkt := p, act := w, time := d.time }).endPacket n t).syncPe
            n))) ∧
      (∀ c : Instr, (c, i.op) ∈ [(.emitCopy n, .emitCopy), (.emitFinal n, .emitFinal)] →
        (d.emitTrap x.hitch w x.emits = none → w % 16 ≠ 0 → d.emitBlocked x.hitch w p = true →
          exec c s = s.next (d.syncPe n)) ∧
        (∀ k : Nat, d.emitTrap x.hitch w x.emits = some k →
          exec c s = s.next ((d.trap n t k (d.fetchWord n x.pc)).syncPe n)))) ∧
    (i.op = .drop → exec (.drop n) s = s.next
      ((((d.issued n t x (x.pc + 4) 1).addk x.hitch Eh.DROP_ENGINE 1).endPacket n t).syncPe n)) ∧
    (i.op = .rds →
      (i.x = 0 → exec (.rds n) s =
        s.next ((d.issued n t (x.setReg i.d (BitVec.ofNat 64 x.cycles)) (x.pc + 4) 1).syncPe n)) ∧
      (i.x = 1 → exec (.rds n) s = s.next ((d.issued n t (x.setReg i.d
        (BitVec.ofNat 64 (d.tb.ns / 2 ^ 32 + d.tb.sec % 2 ^ 32 * 2 ^ 32))) (x.pc + 4) 1).syncPe n)) ∧
      (i.x = 2 → exec (.rds n) s = s.next ((d.issued n t (x.setReg i.d
        (BitVec.ofNat 64 (peId n + t * 2 ^ 24 + d.peOwner n * 2 ^ 40))) (x.pc + 4) 1).syncPe n)) ∧
      (i.x = 3 → exec (.rds n) s = s.next ((d.issued n t (x.setReg i.d
        (BitVec.ofNat 64 x.emits)) (x.pc + 4) 1).syncPe n)))

/-- Every engine instruction whose fields the encoding admits decodes from its word to itself, and each word has one
instruction. For every mnemonic and every value of its register fields, immediates, positions, offsets and FN that
R168 to R192 admit, the 32-bit word that R168 and R170 give it decodes to that instruction with those fields; the word
is below 2^32; and whatever a word decodes to is an instruction that the encoding admits, so that two different
instructions never share a word. Where a clause follows a choice or inference of the model and not the spec, it is
that of log entries 12, 18. Rests on R168 to R170 of 07_engine_instructions.md. -/
def Obligations.EngineWordsDecodeToWhatTheyEncode : Prop :=
  (∀ i : EngInst, i.ok = true → encodeInst i < 2 ^ 32 ∧ decodeInst (encodeInst i) = some i) ∧
  (∀ (w : Nat) (i : EngInst), decodeInst w = some i → i.ok = true) ∧
  (∀ i j : EngInst, i.ok = true → j.ok = true → encodeInst i = encodeInst j → i = j)

/-- A hitch hands its first packet to the member with most IDLE threads, answers reach their thread, limits trap,
packets leave in order. In Run. DISPATCH of an engine hitch that takes work, with fewer than 4,096 tags outstanding,
places the head of its dispatch FIFO in the lowest IDLE thread of the PE it has chosen; a hitch with no member that
has an IDLE thread keeps it. LOOKUP_RESULT writes the status word and the words of the oldest answer for a PE into the
registers of the operation that awaits it, frees its slot and lets a WAITING thread run; an answer whose operation is
gone is discarded. THREAD_CYCLE_LIMIT of a thread with a packet whose count has reached THREAD_LIMIT takes trap 0x09;
of an IDLE thread, or below the limit, it changes nothing. REORDER_RELEASE sends the first releasable packet of a
top-level hitch, bound for a port, to the switch with the hitch's port as input, and counts it and the time since no
earlier tag held it, unless the switch core holds one it would wait behind. Where a clause follows a choice or
inference of the model and not the spec, it is that of log entries 18 to 20, 33. Rests on R146, R149, R151 to R153 of
06_engines_and_rein.md, R182, R188, R191, R193 of 07_engine_instructions.md. -/
def Obligations.ThreadsAreDispatchedAnsweredAndReleased : Prop :=
  ∀ (s : State) (h n t : Nat), s.dev.acts = true →
    (∀ (e : EhSt) (tag : Nat) (p : Pkt) (rest : List (Nat × Pkt)), s.dev.eh h = some e → e.fifo = (tag, p) :: rest →
      s.dev.bestMember h = some (peId n) → n < 256 → s.dev.takesWork h = true →
      (e.tags.filter (fun (r : TagRec) => !r.done)).length < 4096 → exec (.dispatch h) s =
        s.next (((s.dev.setEh h (fun (e : EhSt) => { e with fifo := rest })).syncEh h).loadThread n h tag p)) ∧
    (s.dev.bestMember h = none → exec (.dispatch h) s = .next s) ∧
    (∀ (a : TblAns) (o : ThrOp) (slot own : Nat),
      s.dev.tbl.answers.find? (fun a => a.forPe n) = some a → a.src = .engine n t slot own →
      ((s.dev.thr n t).ops.find? (fun (o : ThrOp) => o.slot = slot) = some o → exec (.lookupResult n) s = s.next
        ((({ s.dev with tbl := { s.dev.tbl with answers := s.dev.tbl.answers.eraseP (fun a => a.forPe n) } } : Dev).setThr n t
          (fun (x : Thr) => { x with
            g := (o.writes a).foldl (fun (g : List Word) (w : Nat × Word) => g.set w.1 w.2) x.g
            ops := x.ops.filter (fun (y : ThrOp) => y.slot ≠ slot)
            st := if x.st = .waiting then .running else x.st })).syncPe n)) ∧
      ((s.dev.thr n t).ops.find? (fun (o : ThrOp) => o.slot = slot) = none → exec (.lookupResult n) s =
        s.next { s.dev with tbl := { s.dev.tbl with answers := s.dev.tbl.answers.eraseP (fun a => a.forPe n) } })) ∧
    ((s.dev.thr n t).st ≠ .idle → s.dev.threadLimit n ≤ (s.dev.thr n t).cycles → exec (.threadCycleLimit n t) s =
      s.next (s.dev.trap n t 0x09 (s.dev.fetchWord n (s.dev.thr n t).pc))) ∧
    ((s.dev.thr n t).st = .idle ∨ (s.dev.thr n t).cycles < s.dev.threadLimit n → exec (.threadCycleLimit n t) s = .next s) ∧
    (∀ (e : EhSt) (r : TagRec) (m : Emit) (outs : List Emit) (port queue i : Nat) (d : Dev), s.dev.eh h = some e →
      releasable e.tags [] = some r → r.outs = m :: outs → r.up = none → actDest m.act = some (.port port queue) →
      i = (s.dev.enginePort (s.dev.topEngine h)).getD 47 →
      d = ((s.dev.setEh h (fun (x : EhSt) => { x with
        tags := x.tags.map (fun (y : TagRec) => if y.tag = r.tag then { y with outs := outs } else y) })).addk h
          Eh.PKTS_OUT 1).addk h Eh.REORDER_HOLD_NS (r.first.getD s.dev.time - m.time) →
      (s.dev.stalled m.pkt i (.port port queue) = false →
        exec (.reorderRelease h) s = s.next (Dev.sweepTag h r.tag treeFuel (d.toSwitch m.pkt i (.port port queue)))) ∧
      (s.dev.stalled m.pkt i (.port port queue) = true → exec (.reorderRelease h) s = .next s))

/-- A rein window updates the runs and counts itself, an added PE joins enabled, a removed one drains to the pool, or
the removal is cancelled. In Run. REIN_WINDOW_END on a device in ACTIVE or PATCHING makes REIN_WINDOW one higher, and
before that changes nothing; with one engine hitch, whose step is still in progress, it takes over the window's
measurements for it, opens the next window and does nothing else. REIN_ADD_JOIN of a hitch with an addition in
progress, whose PE's region is awake, loads the PE with the code that applies to the hitch, makes it the hitch's last
member, enables it, ends the step, counts it in ADDS and logs it. REIN_REMOVE_DONE of a removal whose PE's threads are
all IDLE ends the drain, takes the PE from the hitch, clears its data memory, puts it into the pool, ends the step,
counts it in REMOVES and logs it. DRAIN_TIMEOUT of a removal whose PE is not idle cancels the drain and enables the PE
again. Where a clause follows a choice or inference of the model and not the spec, it is that of log entries 18 to 20,
33. Rests on R157 to R163, R166 of 06_engines_and_rein.md. -/
def Obligations.TheReinMovesPesBetweenHitchAndPool : Prop :=
  ∀ (s : State) (h : Nat), s.dev.acts = true →
    (∀ ms : List (Nat × Nat × Nat), s.dev.imgState ≠ 2 → s.dev.imgState ≠ 4 → exec (.reinWindowEnd ms) s = .next s) ∧
    (∀ ms : List (Nat × Nat × Nat), (s.dev.imgState = 2 ∨ s.dev.imgState = 4) → ∃ d : Dev, exec (.reinWindowEnd ms) s = s.next d ∧
      d.g rootId Root.REIN_WINDOW_WINDOW =
        (s.dev.g rootId Root.REIN_WINDOW_WINDOW + 1) % 2 ^ Root.REIN_WINDOW_WINDOW.w) ∧
    (∀ (e : EhSt) (b u : Nat), (s.dev.imgState = 2 ∨ s.dev.imgState = 4) → s.dev.ehs = [e] → e.id = h → e.step.isSome = true →
      exec (.reinWindowEnd [(h, b, u)]) s = s.next (((s.dev.updateRuns h (b, min 100 u)).s rootId Root.REIN_WINDOW_WINDOW
        (s.dev.g rootId Root.REIN_WINDOW_WINDOW + 1)).openWindow)) ∧
    (∀ p : ReinStep, (s.dev.eh h).bind EhSt.step = some p → p.add = true → 2 ≤ s.dev.gait (regionOf p.pe) →
      exec (.reinAddJoin h) s = s.next (
      let d := (s.dev.loadPe (peNum p.pe) (s.dev.codeOwner h)).joinHitch h p.pe;
      let d := ((d.s p.pe Hdr.UNIT_CONTROL_ENABLE 1).settleEnable p.pe).takeBell p.pe;
      ((d.endStep h).addk h Eh.ADDS 1).logRein h 1 p.pe p.window p.time)) ∧
    (∀ (p : ReinStep) (r : Hitch), (s.dev.eh h).bind EhSt.step = some p → s.dev.hitch h = some r → p.add = false →
      s.dev.peIdle (peNum p.pe) = true → exec (.reinRemoveDone h) s = s.next (
        let d := ((s.dev.s p.pe Hdr.UNIT_CONTROL_DRAIN 0).setUst p.pe stReady).raise p.pe 0x0002 0 0;
        let d := (d.dropLast h).clearMem .peData (fun a => a / 196608 = peNum p.pe);
        let d := d.joinHitch r.pool p.pe;
        ((d.endStep h).addk h Eh.REMOVES 1).logRein h 2 p.pe p.window p.time)) ∧
    (∀ p : ReinStep, (s.dev.eh h).bind EhSt.step = some p → p.add = false → s.dev.peIdle (peNum p.pe) = false →
      exec (.drainTimeout h) s = s.next
        ((((s.dev.s p.pe Hdr.UNIT_CONTROL_DRAIN 0).s p.pe Hdr.UNIT_CONTROL_ENABLE 1).setUst p.pe stActive).cancelRemoval
          p.pe 6))

/-- A packet is admitted to its output queue, dropped and counted, or held; readers take queue heads in turn; a group
makes its copies. In Run, with the switch core taking packets. PACKET_ADMIT of the first packet an input presents,
bound for a port and without encapsulation, enqueues it where the checks accept it, counts HEADROOM_DROP or, on an
input that drops, DROP_NOBUF or DROP_THRESH of the output queue where they do not, and holds it on an input that
waits; a packet that a management core has built reaches input 23 first, as R201 says. HELD_RETRY enqueues the oldest
held packet of its input, class and output when the checks accept it, leaves everything unchanged when they do not,
and counts NO_PORT_DROP when its port is gone. PACKET_DEQUEUE of a reader with room takes the head of the next class
that holds one, frees its cells and delivers it, poisoned after an uncorrectable error or bad parity; port 22 delivers
to the storage stage. REPLICATE reads the head of port 20 and makes one copy for each copy word of the packet's group,
in order, or counts REPL_BAD where no table is named; a packet whose read meets an error makes no copy. Where a clause
follows a choice or inference of the model and not the spec, it is that of log entries 13, 16, 17, 127. Rests on R202,
R203, R205 to R207, R210 to R212 of 08_switch_core.md. -/
def Obligations.SwitchAdmitsHoldsReadsAndReplicates : Prop :=
  ∀ (s : State) (i o : Nat), s.dev.acts = true → s.dev.swOpen = true →
    (∀ (data : List Byte) (m : List Word) (w : Nat), (s.dev.coreBuilt data m w).acts = true →
      exec (.packetAdmit (23, some (data, m, w))) s = exec (.packetAdmit (23, none)) { s with dev := s.dev.coreBuilt data m w }) ∧
    (∀ (x : SwPkt) (l : List SwPkt) (port queue : Nat) (d : Dev) (b : Option (List Byte × List Word × Nat)),
      (i ≠ 23 ∨ b = none) → s.dev.sw.wire = x :: l → x.input = i → x.crypto = 0 →
      s.dev.behind s.dev.sw.held x = false → x.dest = .port port queue → (x.pkt.m.getD 12 0).toNat / 2 ^ 24 % 8 = 0 →
      d = ({ s.dev with sw := { s.dev.sw with wire := s.dev.sw.wire.filter (fun (y : SwPkt) => y.id ≠ x.id) } } : Dev) →
      (d.outPort x.dest = none → exec (.packetAdmit (i, b)) s = s.next (d.swBump Sw.NO_PORT_DROP)) ∧
      (d.outPort x.dest = some o →
        (d.verdict i o x.cls (cellsOf x.pkt.data.length) = .accept → exec (.packetAdmit (i, b)) s = s.next (d.enqueue x o)) ∧
        (d.verdict i o x.cls (cellsOf x.pkt.data.length) = .headroom →
          exec (.packetAdmit (i, b)) s = s.next (d.add (swcUnit i x.cls) Swc.HEADROOM_DROP 1)) ∧
        (d.verdict i o x.cls (cellsOf x.pkt.data.length) = .noBuf → dropInput i = true →
          exec (.packetAdmit (i, b)) s = s.next (d.add (swcUnit o x.cls) Swc.DROP_NOBUF 1)) ∧
        (d.verdict i o x.cls (cellsOf x.pkt.data.length) = .thresh → dropInput i = true →
          exec (.packetAdmit (i, b)) s = s.next (d.add (swcUnit o x.cls) Swc.DROP_THRESH 1)) ∧
        (d.verdict i o x.cls (cellsOf x.pkt.data.length) = .noBuf ∨
            d.verdict i o x.cls (cellsOf x.pkt.data.length) = .thresh → dropInput i = false → i ≠ 20 →
          exec (.packetAdmit (i, b)) s = s.next { d with sw := { d.sw with held := d.sw.held ++ [x] } }))) ∧
    (∀ (x : SwPkt) (c : Nat) (d : Dev),
      s.dev.sw.held.find? (fun (x : SwPkt) => x.input = i && x.cls = c &&
        (s.dev.outPort x.dest = some o || (s.dev.outPort x.dest).isNone)) = some x →
      d = ({ s.dev with sw := { s.dev.sw with held := s.dev.sw.held.filter (fun (y : SwPkt) => y.id ≠ x.id) } } : Dev) →
      (s.dev.outPort x.dest = none → exec (.heldRetry i o c) s = s.next (d.swBump Sw.NO_PORT_DROP)) ∧
      (s.dev.outPort x.dest = some o → d.verdict i o c (cellsOf x.pkt.data.length) = .accept →
        exec (.heldRetry i o c) s = s.next (d.enqueue x o)) ∧
      (s.dev.outPort x.dest = some o → d.verdict i o c (cellsOf x.pkt.data.length) ≠ .accept →
        exec (.heldRetry i o c) s = .next s)) ∧
    (∀ (c : Nat) (x : SwPkt) (d : Dev), plainReader o = true → s.dev.lpPresent o = true → s.dev.nextClass o = some c →
      s.dev.headOf o c = some x → s.dev.readerRoom o x = true →
      d = ((({ s.dev with sw := { s.dev.sw with
        rr := (o, c) :: s.dev.sw.rr.filter (fun (y : Nat × Nat) => y.1 ≠ o) } } : Dev).release x).add (swcUnit x.out x.cls)
          Swc.DEQ_PKTS 1) →
      (exec (.packetDequeue o none) s = s.next (d.deliver o x x.pkt)) ∧
      (o = 22 → x.pkt.poison = false → exec (.packetDequeue o none) s =
        s.next { d with sw := { d.sw with storage := d.sw.storage ++ [x.pkt] } }) ∧
      (∀ a : Nat, exec (.packetDequeue o (some (.cell a))) s = s.next (
        let r := (((d.uncorr switchId 3 a).swBump Sw.ECC_UNCORR).raise switchId 0x0005 0 (a % 2 ^ 48)).poisoned x.pkt;
        r.1.deliver o x r.2)) ∧
      (∀ a : Nat, exec (.packetDequeue o (some (.mesh a))) s = s.next (
        let r := (d.meshErr switchId a).poisoned x.pkt; r.1.deliver o x r.2))) ∧
    (∀ (c : Nat) (x : SwPkt) (d : Dev), s.dev.lpPresent 20 = true → s.dev.nextClass 20 = some c →
      s.dev.headOf 20 c = some x →
      d = ((({ s.dev with sw := { s.dev.sw with
        rr := (20, c) :: s.dev.sw.rr.filter (fun (y : Nat × Nat) => y.1 ≠ 20) } } : Dev).release x).add
          (swcUnit x.out x.cls) Swc.DEQ_PKTS 1) →
      (d.table (d.sf Sw.SC_CFG_REPL_TABLE) = none → exec (.replicate none) s = s.next (d.swBump Sw.REPL_BAD)) ∧
      (∀ a : Nat, exec (.replicate (some (.cell a))) s = s.next
          ((((d.uncorr switchId 3 a).swBump Sw.ECC_UNCORR).raise switchId 0x0005 0 (a % 2 ^ 48)).poisoned x.pkt).1 ∧
        exec (.replicate (some (.mesh a))) s = s.next ((d.meshErr switchId a).poisoned x.pkt).1) ∧
      (∀ t : Tbl, d.table (d.sf Sw.SC_CFG_REPL_TABLE) = some t → t.kind = 8 → t.owner = 0 → t.offline = false →
        x.pkt.mg Meta.REPL_GROUP < t.entryCount → exec (.replicate none) s =
          s.next ((copyWords (d.entry t (x.pkt.mg Meta.REPL_GROUP))).foldl (fun (d : Dev) (w : Word) => d.makeCopy x.pkt w) d)))

/-- A grant takes the path its arbiters pick, a refill tick adds RATE under the burst cap, gate lists change at their
time, policers colour. In Run. FETCH_GRANT with the switch core taking work marks the oldest ungranted job of the leaf
its selections end at as granted, with the path and shapers of the grant, charged at once where its length has been
read by then and it is not to be segmented, else at the end of its fetch, and changes no other queue state; with
nothing to select it changes only what the round robins hold. SHAPER_REFILL adds RATE * 65536 / 8000 units to TOKENS
of the one shaper that exists (with no TCP session), capped at its burst, after a change that waits has moved into
force; the rounds of the fetch tree then follow the eligibility of their siblings, and what the storage tiles hold for
a connection that may send again is sent. GCL_CHANGE of a list within bounds sets PENDING and shows the change time,
the base time if it lies 1 us ahead, else the first cycle boundary that does; a list out of bounds latches MALFORMED.
GCL_CHANGE_APPLY before the change time does nothing; at it, PENDING is 0 and the list with its length and cycle
operates. GCL_ENTRY_ADVANCE of an ungated port opens every gate, and while the timebase stands changes nothing.
POL_METER steps the policer of the oldest operation by its rule and answers the colour, or answers MALFORMED where the
table is unknown. Where a clause follows a choice or inference of the model and not the spec, it is that of log
entries 21 to 24, 128. Rests on R224, R225, R229, R230, R235, R238 of 09_scheduling_shaping_policing.md. -/
def Obligations.GrantsShapersGatesAndPolicers : Prop :=
  ∀ (s : State) (n : Nat), s.dev.acts = true →
    (∀ (early : Bool) (d : Dev) (p sl c q : Nat) (j : Job), s.dev.swOpen = true → s.dev.pickPath = (d, some (p, sl, c, q)) →
      d.nextJob q = some j → ∃ e : Dev, exec (.fetchGrant early) s = s.next e ∧ e.queues = d.queues.map (fun (x : QSt) =>
        if x.qid = q then { x with jobs := x.jobs.map (fun (k : Job) =>
          if k.idx = j.idx && !k.granted then { k with granted := true, grant := some {
            path := [(rootPoint, p), (p, sl), (sl, c), (c, q)]
            shapers := [d.node p Node.SHAPER, d.node sl Node.SHAPER, d.node c Node.SHAPER, d.leaf q Node.SHAPER]
            paid := early && !j.tso } } else k) } else x)) ∧
    (∀ (early : Bool) (d : Dev), s.dev.swOpen = true → s.dev.pickPath = (d, none) → exec (.fetchGrant early) s = s.next d) ∧
    (∀ e : Dev, s.dev.recs .shaper = [n] → s.dev.stor.tcp = [] → s.dev.shp n Shp.PEND = 0 →
      e = s.dev.cs .shaper n Shp.TOKENS (low48 (min (s.dev.tokens n + Int.ofNat (s.dev.shp n Shp.RATE * 65536 / 8000))
        (Int.ofNat (s.dev.shp n Shp.BURST * 65536)))) → e.recs .conn = [] →
      exec .shaperRefill s = s.next (flushCopies s.dev.stor.copies e.settleFetch)) ∧
    (∀ d e : Dev, s.dev.recs .shaper = [n] → s.dev.stor.tcp = [] → s.dev.shp n Shp.PEND = 1 →
      d = ((s.dev.cs .shaper n Shp.RATE (s.dev.shp n Shp.PEND_RATE)).cs .shaper n Shp.BURST
        (s.dev.shp n Shp.PEND_BURST)).setOw Cls.shaper.code n 3 0 →
      e = d.cs .shaper n Shp.TOKENS (low48 (refill (d.tokens n) (d.shp n Shp.RATE) (d.shp n Shp.BURST))) →
      e.recs .conn = [] → exec .shaperRefill s = s.next (flushCopies s.dev.stor.copies e.settleFetch)) ∧
    (n < 16 → s.dev.lpPresent n = true → s.dev.gclOk n = false →
      exec (.gclChange n) s = s.next (s.dev.latchErr switchId Sc.malformed)) ∧
    (∀ (c b t : Nat) (l : List Word), n < 16 → s.dev.lpPresent n = true → s.dev.gclOk n = true → c = s.dev.wf n Ws.GCL_CYCLE_NS →
      b = s.dev.wf n Ws.GCL_BASE_SEC_SEC * 1000000000 + s.dev.wf n Ws.GCL_BASE_NS_NS →
      t = (if s.dev.tbNs + 1000 ≤ b then b else b + (s.dev.tbNs + 1000 - b + c - 1) / c * c) →
      l = (List.range (s.dev.wf n Ws.GCL_CTL_ADMIN_LEN)).map (fun e => s.dev.cell (wsUnit n) (0x800 + 8 * e)) →
      exec (.gclChange n) s = s.next ((((s.dev.setWire n (fun (w : WireSt) => { w with waiting := some (l, c, t) })).s
          (wsUnit n) Ws.GCL_STATUS_PENDING 1).s (wsUnit n) Ws.GCL_CHANGE_NS_NS (t % 1000000000)).s (wsUnit n)
          Ws.GCL_CHANGE_SEC_SEC (t / 1000000000))) ∧
    (∀ (l : List Word) (c t : Nat), (s.dev.wire n).waiting = some (l, c, t) →
      (s.dev.tbNs < t → exec (.gclChangeApply n) s = .next s) ∧
      (∀ d e : Dev, t ≤ s.dev.tbNs →
        d = (List.range 256).foldl (fun (d : Dev) (e : Nat) => d.setCell (wsUnit n) (0x1000 + 8 * e) (l.getD e 0))
          (s.dev.setWire n (fun (w : WireSt) => { w with waiting := none, start := t })) →
        e = ((((d.s (wsUnit n) Ws.GCL_STATUS_PENDING 0).s (wsUnit n) Ws.GCL_STATUS_OPER_VALID 1).s (wsUnit n)
          Ws.GCL_STATUS_OPER_LEN l.length).s (wsUnit n) Ws.GCL_OPER_CYCLE_NS c).syncGates n →
        exec (.gclChangeApply n) s = s.next (e.dropOversize n))) ∧
    (s.dev.tb.stopped = true → exec (.gclEntryAdvance n) s = .next s) ∧
    (n < 16 → s.dev.tb.stopped = false → s.dev.gated n = false →
      exec (.gclEntryAdvance n) s = s.next (s.dev.s (wsUnit n) Ws.GCL_STATUS_GATES 0xFF)) ∧
    (∀ (r : PolReq) (d : Dev), s.dev.sched.pols.find? (fun (r : PolReq) => homeTile r.table = n) = some r →
      d = ({ s.dev with sched := { s.dev.sched with
        pols := s.dev.sched.pols.eraseP (fun (r : PolReq) => homeTile r.table = n) } } : Dev) →
      (d.table r.table = none → exec (.polMeter n) s =
        s.next { d with tbl := { d.tbl with answers := d.tbl.answers ++ [ansSt r.src Sc.malformed] } }) ∧
      (∀ (t : Tbl) (ws : List Word) (c : Nat), d.table r.table = some t → t.kind = 4 → r.bad = false →
        r.index < t.entryCount → t.offline = false →
        polStep (d.entry t r.index) d.time r.bytes r.colour = (ws, c) → exec (.polMeter n) s = s.next (
          let d := d.putEntry t r.index 0 ws;
          { d with tbl := { d.tbl with answers := d.tbl.answers ++ [{ ansSt r.src Sc.ok with colour := c }] } })))

/-- The eight meter commands set BUSY, read or write their record or are MALFORMED, and METER_CMD_DONE puts the result
in place. In Run. While BUSY is 0 each of the eight commands stores its parameters and sets BUSY; its result waits.
SHP_READ, NODE_READ and LEAF_READ of an index that exists read the record's words, and are MALFORMED otherwise.
SHP_WRITE of words that pass puts them (RATE and burst waiting until the next refill), POL_WRITE fills the buckets and
sets LAST to the time, NODE_WRITE and LEAF_WRITE write words 0 and 1 of a node or leaf that may take them, leaving its
round where it moves; a write that fails its checks is MALFORMED and changes no record. POL_READ reads the policer
entry. While BUSY is 1 each of the eight sets OVERRUN and does nothing else. METER_CMD_DONE of a result with no words
and EVT 0 clears BUSY and shows the status; with nothing in progress it changes nothing. Where a clause follows a
choice or inference of the model and not the spec, it is that of log entries 21, 23. Rests on R223, R226, R228, R230,
R237, R239 of 09_scheduling_shaping_policing.md, R131 of 05_match_and_learning.md. -/
def Obligations.MeterCommandsReadAndWriteTheirRecords : Prop :=
  ∀ (s : State) (t e : Nat), s.dev.acts = true →
    (s.dev.g mtrUnit Mtr.MTR_STATUS_BUSY = 0 →
      (∀ d : Dev, d = s.dev.mtrStarted 1 t e →
        (d.isShaper d.mtrIndex = true →
          exec (.shpRead t e) s = s.next (d.mtrResult 1 Sc.ok (d.crec .shaper d.mtrIndex 4))) ∧
        (d.isShaper d.mtrIndex = false → exec (.shpRead t e) s = s.next (d.mtrResult 1 Sc.malformed []))) ∧
      (∀ d : Dev, d = s.dev.mtrStarted 2 t e →
        (d.isShaper d.mtrIndex = true → shaperOkWords (d.mtrData 0) (d.mtrData 1) = true →
          exec (.shpWrite t e) s = s.next ((d.putShaper d.mtrIndex (d.mtrData 0) (d.mtrData 1)).mtrResult 2 Sc.ok [])) ∧
        (d.isShaper d.mtrIndex = false ∨ shaperOkWords (d.mtrData 0) (d.mtrData 1) = false →
          exec (.shpWrite t e) s = s.next (d.mtrResult 2 Sc.malformed []))) ∧
      (∀ (d : Dev) (p : Tbl), d = s.dev.mtrStarted 3 t e → d.table t = some p → p.kind = 4 → d.mtrIndex < p.entryCount →
        p.offline = false → exec (.polRead t e) s = s.next (d.mtrResult 3 Sc.ok (d.entry p d.mtrIndex))) ∧
      (∀ (d : Dev) (p : Tbl), d = s.dev.mtrStarted 4 t e → d.table t = some p → p.kind = 4 → d.mtrIndex < p.entryCount →
        p.offline = false →
        (polOkWords (d.mtrData 0) (d.mtrData 1) = true → exec (.polWrite t e) s = s.next
          ((d.putEntry p d.mtrIndex 0 (polFilled (d.mtrData 0) (d.mtrData 1) d.time)).mtrResult 4 Sc.ok [])) ∧
        (polOkWords (d.mtrData 0) (d.mtrData 1) = false →
          exec (.polWrite t e) s = s.next (d.mtrResult 4 Sc.malformed []))) ∧
      (∀ d : Dev, d = s.dev.mtrStarted 5 t e →
        (d.mtrIndex < 65536 → exec (.nodeRead t e) s = s.next (d.mtrResult 5 Sc.ok (d.crec .node d.mtrIndex 4))) ∧
        (65536 ≤ d.mtrIndex → exec (.nodeRead t e) s = s.next (d.mtrResult 5 Sc.malformed []))) ∧
      (∀ (d : Dev) (n : Nat), d = s.dev.mtrStarted 6 t e → n = d.mtrIndex →
        (d.nodeWriteOk n (d.mtrData 0) (d.mtrData 1) = false →
          exec (.nodeWrite t e) s = s.next (d.mtrResult 6 Sc.malformed [])) ∧
        (d.nodeWriteOk n (d.mtrData 0) (d.mtrData 1) = true → d.node n Node.PRIO = wget [d.mtrData 0] Node.PRIO →
          d.node n Node.PARENT = wget [d.mtrData 0, d.mtrData 1] Node.PARENT →
          exec (.nodeWrite t e) s = s.next ((d.setRec .node n [d.mtrData 0, d.mtrData 1]).mtrResult 6 Sc.ok [])) ∧
        (d.nodeWriteOk n (d.mtrData 0) (d.mtrData 1) = true → d.node n Node.PRIO ≠ wget [d.mtrData 0] Node.PRIO →
          d.node n Node.LEVEL ≠ 0 → exec (.nodeWrite t e) s = s.next
            (((d.leaveRound (d.node n Node.PARENT) n).setRec .node n [d.mtrData 0, d.mtrData 1]).mtrResult 6 Sc.ok []))) ∧
      (∀ d : Dev, d = s.dev.mtrStarted 7 t e →
        (d.isLeaf d.mtrIndex = true →
          exec (.leafRead t e) s = s.next (d.mtrResult 7 Sc.ok (d.crec .leaf d.mtrIndex 4))) ∧
        (d.isLeaf d.mtrIndex = false → exec (.leafRead t e) s = s.next (d.mtrResult 7 Sc.malformed []))) ∧
      (∀ (d : Dev) (q : Nat), d = s.dev.mtrStarted 8 t e → q = d.mtrIndex →
        (d.isLeaf q = false ∨ d.leafWriteOk q (d.mtrData 0) (d.mtrData 1) = false →
          exec (.leafWrite t e) s = s.next (d.mtrResult 8 Sc.malformed [])) ∧
        (d.isLeaf q = true → d.leafWriteOk q (d.mtrData 0) (d.mtrData 1) = true →
          d.leaf q Node.PARENT ≠ wget [d.mtrData 0, d.mtrData 1] Node.PARENT → exec (.leafWrite t e) s = s.next
            (((d.leaveRound (d.leaf q Node.PARENT) q).setRec .leaf q [d.mtrData 0, d.mtrData 1]).mtrResult 8 Sc.ok [])) ∧
        (d.isLeaf q = true → d.leafWriteOk q (d.mtrData 0) (d.mtrData 1) = true →
          d.leaf q Node.PARENT = wget [d.mtrData 0, d.mtrData 1] Node.PARENT →
          d.leaf q Node.PRIO = wget [d.mtrData 0] Node.PRIO → exec (.leafWrite t e) s = s.next
            ((d.setRec .leaf q [d.mtrData 0, d.mtrData 1]).mtrResult 8 Sc.ok [])))) ∧
    (s.dev.g mtrUnit Mtr.MTR_STATUS_BUSY = 1 → ∀ i ∈ [Instr.shpRead t e, .shpWrite t e, .polRead t e, .polWrite t e,
      .nodeRead t e, .nodeWrite t e, .leafRead t e, .leafWrite t e],
      exec i s = s.next (s.dev.s mtrUnit Mtr.MTR_STATUS_OVERRUN 1)) ∧
    (∀ m : MeterOp, s.dev.sched.meter = some m → m.words = [] → ∀ d : Dev,
      d = (({ s.dev with sched := { s.dev.sched with meter := none } } : Dev).s mtrUnit Mtr.MTR_STATUS_BUSY 0).s mtrUnit
        Mtr.MTR_STATUS_RESULT m.status → d.g mtrUnit Mtr.MTR_CMD_EVT = 0 → exec .meterCmdDone s = s.next d) ∧
    (s.dev.sched.meter = none → exec .meterCmdDone s = .next s)

/-- Session, namespace, backend and extent commands check their operands, write their records, and the fence and the
destroy wait for commands. In Run, with the storage feature, for an admin command that may run. SESSION_CREATE ends
with the status that its checks give, on the device they leave. SESSION_DESTROY of a session of ACTIVE or no slice
owned by the function removes it, reporting its commands, and ends OK; of one that does not exist it ends MALFORMED.
SESSION_QUERY writes the 64 words of the context and ends OK, or BUS_ERROR when the buffer cannot be reached.
NS_CREATE of a well-formed record at a free number whose extents overlap no other writes it with STATE 1; overlapping,
it ends NO_RESOURCE. NS_DESTROY sets STATE 2 and waits for the commands in flight. BACKEND_WRITE writes the record.
EXTENT_WRITE writes every entry and ends with their number, or writes none and ends MALFORMED. EXTENT_FENCE sets
MAP_STATE 3 and waits for the commands that have read the entry. A buffer that cannot be read ends the four commands
that read one with BUS_ERROR. Where a clause follows a choice or inference of the model and not the spec, it is that
of log entries 12, 52, 55, 85. Rests on R288, R293 to R295, R299 of 12_storage_offload.md, R380 of
15_rings_and_admin_queue.md. -/
def Obligations.StorageAdminCommandsChangeTheirRecords : Prop :=
  ∀ (s : State) (pf idx : Nat) (c : AdminCmd) (d : Dev), s.dev.acts = true → d = s.dev.admStart pf idx → d.feature 3 = true →
    (s.dev.admReady pf idx 0x0501 c = true →
      (∀ (bs : List Byte) (e : Dev) (st : Nat), d.sessCreate pf (c.arg % 2 ^ 17) (sliceBytes bs 0 c.len) = (e, st) →
        exec (.sessionCreate pf idx (some bs)) s = s.next (e.admEnd pf idx st 0)) ∧
      exec (.sessionCreate pf idx none) s = s.next (d.admEnd pf idx Sc.busError 0)) ∧
    (s.dev.admReady pf idx 0x0502 c = true → ∀ n sl : Nat, n = c.arg % 2 ^ 17 → sl = d.sn n Sess.SLICE →
      (d.sn n Sess.STATE = 0 → exec (.sessionDestroy pf idx) s = s.next (d.admEnd pf idx Sc.malformed 0)) ∧
      (d.sn n Sess.STATE ≠ 0 → d.badRec .session n = false →
        sl = 0 ∨ d.cg .slice sl Slc.OWNER = pf ∧ d.sliceState sl = 1 →
        exec (.sessionDestroy pf idx) s = s.next ((d.sessRemove n true).admEnd pf idx Sc.ok 0))) ∧
    (s.dev.admReady pf idx 0x0503 c = true → ∀ n sl : Nat, n = c.arg % 2 ^ 17 → sl = d.sn n Sess.SLICE →
      d.badRec .session n = false → sl = 0 ∨ d.cg .slice sl Slc.OWNER = pf →
      exec (.sessionQuery pf idx true) s =
        s.next ((d.hostData c.pf none c.buf (ofWords (d.crec .session n 64))).admEnd c.pf c.idx Sc.ok 0) ∧
      exec (.sessionQuery pf idx false) s = s.next (d.admEnd c.pf c.idx Sc.busError 0)) ∧
    (s.dev.admReady pf idx 0x0504 c = true →
      (∀ (bs : List Byte) (n lo hi : Nat) (ws : List Word), n = c.arg % 2 ^ 16 →
        ws = toWords 8 (sliceBytes bs 0 c.len) → lo = wget ws Ns.EXT_BASE → hi = lo + wget ws Ns.EXT_COUNT →
        d.cg .ns n Ns.STATE = 0 → nsOk ws = true → wget ws Ns.SLICE = 0 → d.badRec .ns n = false → hi ≤ 2 ^ 30 →
        ((∀ m ∈ d.recs .ns, d.cg .ns m Ns.STATE = 0 ∨ hi ≤ d.cg .ns m Ns.EXT_BASE ∨
            d.cg .ns m Ns.EXT_BASE + d.cg .ns m Ns.EXT_COUNT ≤ lo) → exec (.nsCreate pf idx (some bs)) s =
          s.next ((((d.clearRec .ns n).setRec .ns n ws).cs .ns n Ns.STATE 1).admEnd pf idx Sc.ok 0)) ∧
        (∀ m ∈ d.recs .ns, d.cg .ns m Ns.STATE ≠ 0 → d.cg .ns m Ns.EXT_BASE < hi →
          lo < d.cg .ns m Ns.EXT_BASE + d.cg .ns m Ns.EXT_COUNT →
          exec (.nsCreate pf idx (some bs)) s = s.next (d.admEnd pf idx Sc.noResource 0))) ∧
      exec (.nsCreate pf idx none) s = s.next (d.admEnd pf idx Sc.busError 0)) ∧
    (s.dev.admReady pf idx 0x0505 c = true → ∀ n : Nat, n = c.arg % 2 ^ 16 →
      (d.cg .ns n Ns.STATE ≠ 1 → exec (.nsDestroy pf idx) s = s.next (d.admEnd pf idx Sc.malformed 0)) ∧
      (∀ e : Dev, d.cg .ns n Ns.STATE = 1 → d.cg .ns n Ns.SLICE = 0 → d.badRec .ns n = false →
        e = d.cs .ns n Ns.STATE 2 → exec (.nsDestroy pf idx) s = s.next
          ({ e with stor := { e.stor with nsWaits := e.stor.nsWaits ++ [(pf, idx, n)] } } : Dev).stPump)) ∧
    (s.dev.admReady pf idx 0x0506 c = true →
      (∀ (bs : List Byte) (ws : List Word), ws = toWords 4 (sliceBytes bs 0 c.len) → getBits (ws.getD 0 0) 5 59 = 0 →
        getBits (ws.getD 1 0) 18 46 = 0 → getBits (ws.getD 2 0) 32 32 = 0 → ws.getD 3 0 = 0 → wget ws Bk.KIND ≤ 1 →
        wget ws Bk.MD_SIZE ≠ 3 → exec (.backendWrite pf idx (some bs)) s =
          s.next ((d.setRec .backend (c.arg % 2 ^ 12) ws).admEnd pf idx Sc.ok 0)) ∧
      exec (.backendWrite pf idx none) s = s.next (d.admEnd pf idx Sc.busError 0)) ∧
    (s.dev.admReady pf idx 0x0507 c = true →
      (∀ (bs : List Byte) (n lo : Nat) (es : List (Nat × List Word)), n = c.len / 16 → lo = c.arg % 2 ^ 30 →
        es = (List.range n).map (fun i => (lo + i, toWords 2 ((sliceBytes bs 0 c.len).drop (16 * i)))) →
        (lo + n ≤ 2 ^ 30 → es.all (fun x => d.extOk x.1 x.2) = true → exec (.extentWrite pf idx (some bs)) s = s.next
          ((es.foldl (fun (d : Dev) (x : Nat × List Word) => d.setRec .extent x.1 x.2) d).admEnd pf idx Sc.ok n).stPump) ∧
        (es.all (fun x => d.extOk x.1 x.2) = false →
          exec (.extentWrite pf idx (some bs)) s = s.next (d.admEnd pf idx Sc.malformed 0))) ∧
      exec (.extentWrite pf idx none) s = s.next (d.admEnd pf idx Sc.busError 0)) ∧
    (s.dev.admReady pf idx 0x0508 c = true → ∀ (i : Nat) (ids : List Nat) (e : Dev), i = c.arg % 2 ^ 30 →
      d.badRec .extent i = false →
      ids = (d.stor.cmds.filter (fun (k : StCmd) => d.readExt k i)).map StCmd.id →
      e = d.cs .extent i Ext.MAP_STATE 3 → exec (.extentFence pf idx) s = s.next
        ({ e with stor := { e.stor with fences := e.stor.fences ++ [(pf, idx, ids)] } } : Dev).stPump)

/-- Capsules start commands or answer them, arrived data goes to the backends, answers end commands, and TCP segments
and timeouts are served. In Run. STORAGE_CAPSULE of a tile that takes work hands the oldest capsule of an ACTIVE
session to the initiator's or the target's command steps, hands a Fabrics capsule of a target on to port 23, drops and
counts it for a frozen slice, and drops it for a session that is not ACTIVE. STORAGE_DATA_ARRIVED of a command at step
5 with all its data deallocates, ends the command with the error of a failed PI check, counted in PI_ERR per failing
block, or issues its sub-commands with the bytes counted. SUBCMD_COMPLETE records the oldest answer; when none is open
any more the command finishes. FENCE_WAIT_TIMEOUT ends a command at step 4 with 0x39. STORAGE_TCP_RX serves the oldest
packet of port 22; without the storage feature it is dropped and counted in NO_SESSION_DROP. STORAGE_TCP_RTO of a
session with unacknowledged bytes halves its rate unless the peer's window is closed and resends the oldest segment,
or detaches it at the sixth timeout in a row; with nothing outstanding it probes a closed window with what is queued,
and otherwise changes nothing. Where a clause follows a choice or inference of the model and not the spec, it is that
of log entries 52 to 59, 145. Rests on R286, R290 to R292, R296, R297 of 12_storage_offload.md, R340 of
14_tenant_slices.md, R279 of 11_transport.md. -/
def Obligations.StorageCommandsArriveAdvanceAndEnd : Prop :=
  ∀ (s : State) (t n : Nat), s.dev.acts = true → s.dev.twinState ≠ 5 →
    (∀ (cap : List Byte) (rest : List (Nat × List Byte)) (d : Dev), s.dev.stor.capsules = (n, cap) :: rest → n % 8 = t →
      s.dev.takesWork (stHome n) = true → d = ({ s.dev with stor := { s.dev.stor with capsules := rest } } : Dev) →
      (d.sn n Sess.STATE ≠ 1 → exec (.storageCapsule t) s = s.next d) ∧
      (d.sn n Sess.STATE = 1 → d.sliceFrozen (d.sn n Sess.SLICE) = true →
        exec (.storageCapsule t) s = s.next (d.cadd .slice (d.sn n Sess.SLICE) Slc.FROZEN_RX_DROPS 1)) ∧
      (d.sn n Sess.STATE = 1 → d.sliceFrozen (d.sn n Sess.SLICE) = false →
        ((d.stCache n).sn n Sess.ROLE = 1 → exec (.storageCapsule t) s = s.next ((d.stCache n).respCapsule n cap).stPump) ∧
        ((d.stCache n).sn n Sess.ROLE ≠ 1 → sqe cap 0 1 = 0x7F → exec (.storageCapsule t) s = s.next
          ((d.stCache n).handOn (.port 23 0x3FFFF) ({ Pkt.blank with data := cap }.ms Meta.PKT_LEN cap.length))) ∧
        ((d.stCache n).sn n Sess.ROLE ≠ 1 → sqe cap 0 1 ≠ 0x7F →
          exec (.storageCapsule t) s = s.next ((d.stCache n).targetCapsule n cap).stPump))) ∧
    (∀ (k : StCmd) (l : List StCmd) (d : Dev), s.dev.stor.cmds = k :: l → k.sess % 8 = t → k.step = 5 → k.got = k.due →
      s.dev.stor.posts.find? (fun (p : StPost) => p.cmd = k.id && p.op = 5 && p.done.isSome) = none →
      d = ({ s.dev with stor := { s.dev.stor with
        posts := s.dev.stor.posts.filter (fun (p : StPost) => !(p.cmd = k.id && p.op = 5)) } } : Dev).setCmd k.id
          (fun _ => k) →
      (sqeOp k.sqe = opDsm → exec (.storageDataArrived t) s = s.next (d.stDsm k).stPump) ∧
      (∀ code m : Nat, sqeOp k.sqe ≠ opDsm → k.fmt.toBack k.sqe (sqeBlocks k.sqe) k.data = .error (code, m) →
        exec (.storageDataArrived t) s = s.next ((d.addk (stHome k.sess) St.PI_ERR m).stEnd k code 0 0).stPump) ∧
      (∀ (bs : List Byte) (ins : Nat) (e : Dev), sqeOp k.sqe ≠ opDsm →
        k.fmt.toBack k.sqe (sqeBlocks k.sqe) k.data = .ok (bs, ins) →
        e = (d.addk (stHome k.sess) St.BYTES_WRITTEN (sqeBlocks k.sqe * k.fmt.lba)).addk (stHome k.sess) St.PI_INSERTED ins →
        exec (.storageDataArrived t) s = s.next (e.stToBack { k with data := bs } (stSubs k.fmt
          (e.cg .ns (k.ns.getD 0) Ns.EXT_BASE) (sqeLba k.sqe) (sqeBlocks k.sqe) k.exts)).stPump)) ∧
    (∀ (c i code own : Nat) (bs : List Byte) (rest : List (Nat × Nat × Nat × Nat × List Byte)) (k k' : StCmd) (d : Dev),
      s.dev.stor.answers = (c, i, code, own, bs) :: rest → s.dev.stCmd c = some k → k.sess % 8 = t →
      d = ({ s.dev with stor := { s.dev.stor with answers := rest } } : Dev).setCmd c (fun (k : StCmd) => { k with
        subs := updAt k.subs i (fun (y : StSub) => { y with status := some (code, own), data := bs }) }) →
      d.stCmd c = some k' →
      (k'.subs.any (fun (y : StSub) => y.status.isNone && (y.sent || !k'.gone)) = true →
        exec (.subcmdComplete t) s = s.next d.stPump) ∧
      (k'.subs.any (fun (y : StSub) => y.status.isNone && (y.sent || !k'.gone)) = false →
        exec (.subcmdComplete t) s = s.next (d.stFinish k').stPump)) ∧
    (∀ k : StCmd, s.dev.stCmd n = some k → k.step = 4 →
      exec (.fenceWaitTimeout n) s = s.next (s.dev.stEnd k 0x39 0 0).stPump) ∧
    (∀ (p : Pkt) (rest : List Pkt) (d : Dev), s.dev.sw.storage = p :: rest →
      d = ({ s.dev with sw := { s.dev.sw with storage := rest } } : Dev) →
      exec .storageTcpRx s = s.next (d.rxStorage p) ∧
      (d.feature 3 = false → exec .storageTcpRx s = s.next (d.bumpk (storageId 0) St.NO_SESSION_DROP))) ∧
    (s.dev.sn n Strm.SND_UNA = s.dev.sn n Strm.SND_NXT → s.dev.sn n Strm.WND ≠ 0 ∨ (s.dev.tcp n).buf = [] →
      exec (.storageTcpRto n) s = .next s) ∧
    (s.dev.sessRuns n = true → s.dev.sn n Sess.BINDING = 1 → s.dev.sn n Strm.SND_UNA = s.dev.sn n Strm.SND_NXT →
      s.dev.sn n Strm.WND = 0 → (s.dev.tcp n).buf ≠ [] → exec (.storageTcpRto n) s = s.next
        (((s.dev.stCache n).setTcp n (fun (x : StTcp) => { x with probe := true })).tcpPush n)) ∧
    (∀ d : Dev, s.dev.sessRuns n = true → s.dev.sn n Sess.BINDING = 1 → s.dev.sn n Strm.SND_UNA ≠ s.dev.sn n Strm.SND_NXT →
      d = (s.dev.stCache n).setTcp n (fun (x : StTcp) => { x with tries := x.tries + 1 }) →
      ((d.tcp n).tries < 6 → exec (.storageTcpRto n) s = s.next
        ((if d.sn n Strm.WND = 0 then d else d.stRate n (d.sn n Strm.RATE / 2) true).tcpResend n false)) ∧
      (6 ≤ (d.tcp n).tries → exec (.storageTcpRto n) s = s.next (d.sessStop n 3 none)))

/-- A packet takes its home-tile step and its cipher work, SA commands read, install, update and revoke records, and a
sweep moves states. In Run. SA_STEP of a tile that takes work takes the oldest packet homed at it: a request of bad
format fails MALFORMED; one with no valid candidate SA fails 0x28; one whose valid candidates are all suspended fails
0x2C; an uncorrectable error of its SA revokes that SA and fails it with INTEGRITY; one whose form does not fit fails
MALFORMED; otherwise an encrypt packet takes the sequence step and a decrypt packet the replay step. CRYPTO_PROCESS
ends the cipher work of the oldest packet of its direction: an encrypt packet leaves sealed. SA_SWEEP with one SA of
the tile moves its state where due. While BUSY is 0 each SA command stores its parameters and sets BUSY, and waits
until its tiles take work: an index in no SA array is MALFORMED, one of an offline array 0x23; READ returns the record
with KEY words 0; INSTALL refuses bad fields, the twin's half and a live SA, and else writes the record; UPDATE
refuses an SA that is not live; REVOKE revokes. While BUSY is 1 each sets OVERRUN only. SA_CMD_DONE clears BUSY and
shows the status of a command that has taken effect, but a REVOKE waits while a packet holds the key. Where a clause
follows a choice or inference of the model and not the spec, it is that of log entries 25 to 27, 30, 136 to 141. Rests
on R244 to R246, R250, R252 to R258 of 10_crypto_and_entropy.md, R131 of 05_match_and_learning.md. -/
def Obligations.CryptoTilesProcessPacketsAndServeSaCommands : Prop :=
  ∀ (s : State) (n e : Nat), s.dev.acts = true →
    (s.dev.takesWork (cryptoId n) = false → ∀ ecc, exec (.saStep n ecc) s = .next s) ∧
    (∀ (x : SwPkt) (d : Dev), s.dev.takesWork (cryptoId n) = true → s.dev.sw.wire.find? (fun (x : SwPkt) => x.crypto = 1 &&
        saHome ((s.dev.saCands x.pkt).getD 0 0) x.pkt.cryDir = n) = some x →
      (x.pkt.cryOk = false → ∀ ecc, exec (.saStep n ecc) s =
        s.next (s.dev.cryFail n (x.pkt.mg CryReq.SA_INDEX) Sc.malformed x)) ∧
      (x.pkt.cryOk = true → x.pkt.poison = false →
        d = (s.dev.saCands x.pkt).foldl (fun (d : Dev) (c : Nat) =>
          if (d.saTable c).isSome then (d.saCache c x.pkt.cryDir).saDue c else d) s.dev →
        ((s.dev.saCands x.pkt).filter (fun c => d.candValid x.pkt c) = [] →
          exec (.saStep n none) s = s.next (d.cryFail n (x.pkt.mg CryReq.SA_INDEX) 0x28 x)) ∧
        (∀ a c : Nat, c = (s.dev.saCands x.pkt).getD 0 (x.pkt.mg CryReq.SA_INDEX) → exec (.saStep n (some a)) s = s.next
          ((((d.saRevoke c).uncorr (cryptoId n) 8 a).raise (cryptoId n) 0x0005 (d.sa c SA.SLICE) c).cryFail n c
            Sc.integrity x)) ∧
        (∀ (c : Nat) (cs : List Nat), (s.dev.saCands x.pkt).filter (fun c => d.candValid x.pkt c) = c :: cs →
          ((c :: cs).filter (fun c => !d.resyncing c) = [] → exec (.saStep n none) s = s.next (d.cryFail n c 0x2C x)) ∧
          (∀ (b : Nat) (bs : List Nat), (c :: cs).filter (fun c => !d.resyncing c) = b :: bs →
            (d.formOk x.pkt b = false → exec (.saStep n none) s = s.next (d.cryFail n b Sc.malformed x)) ∧
            (d.formOk x.pkt b = true → x.pkt.cryDir = 1 → exec (.saStep n none) s = s.next (d.sealStep n b x)) ∧
            (d.formOk x.pkt b = true → x.pkt.cryDir = 0 → exec (.saStep n none) s = s.next (d.openStep n (b :: bs) x)))))) ∧
    (∀ (x : SwPkt) (t : CryStep) (c : SaCand) (cs : List SaCand), s.dev.takesWork (cryptoId n) = true →
      s.dev.sw.wire.find? (fun (x : SwPkt) => x.crypto = 2 && x.pkt.cryDir = n / 16) = some x →
      s.dev.cry.steps.find? (fun (t : CryStep) => t.id = x.id) = some t → t.cands = c :: cs →
      (x.pkt.cryDir = 1 → exec (.cryptoProcess n) s = s.next (s.dev.cryDone n x (sealWith x.pkt c) 0)) ∧
      (x.pkt.cryDir = 0 → wget c.sa SA.PROTO = 3 → exec (.cryptoProcess n) s = s.next (s.dev.tlsEnd n t.cands x)) ∧
      (x.pkt.cryDir = 0 → wget c.sa SA.PROTO ≠ 3 → exec (.cryptoProcess n) s = s.next (s.dev.openEnd n c x))) ∧
    (∀ i : Nat, (s.dev.recs .sa).filter (fun i => saHome i (s.dev.sa i SA.DIR) = n) = [i] →
      exec (.saSweep n) s = s.next (s.dev.saDue i)) ∧
    (s.dev.gk (cryptoId n) Cry.SA_STATUS_BUSY = 0 → s.dev.cry.ops.find? (fun (o : SaOp) => o.tile = n) = none →
      (∀ (c : Instr) (op i : Nat) (d : Dev), (c, op) ∈ [(Instr.saRead n e, 1), (.saInstall n e, 2), (.saUpdate n e, 3),
          (.saRevoke n e, 4)] → d = s.dev.saQueued n op e → i = d.saIndex n →
        (d.saCmdRuns n op i = false → exec c s = s.next d) ∧
        (d.saCmdRuns n op i = true → d.saTable i = none → exec c s = s.next (d.saDone n Sc.malformed [])) ∧
        (∀ t : Tbl, d.saCmdRuns n op i = true → d.saTable i = some t → t.offline = true →
          exec c s = s.next (d.saDone n 0x23 []))) ∧
      (∀ (d : Dev) (t : Tbl) (i : Nat), d = s.dev.saQueued n 1 e → i = d.saIndex n → d.saCmdRuns n 1 i = true →
        d.saTable i = some t → t.offline = false → exec (.saRead n e) s = s.next (d.saDone n Sc.ok
          ((List.range 32).map (fun k => if 4 ≤ k ∧ k < 8 then 0 else d.ow Cls.sa.code i k)))) ∧
      (∀ (d : Dev) (t : Tbl) (i : Nat), d = s.dev.saQueued n 2 e → i = d.saIndex n → d.saCmdRuns n 2 i = true →
        d.saTable i = some t → t.offline = false →
        (saFieldsOk ((d.saData n).take 16) d.feature = false →
          exec (.saInstall n e) s = s.next (d.saDone n Sc.malformed [])) ∧
        (saFieldsOk ((d.saData n).take 16) d.feature = true →
          (d.otherSide i = true → exec (.saInstall n e) s = s.next (d.saDone n 0x2E [])) ∧
          (d.otherSide i = false → d.sa i SA.STATE = 1 ∨ d.sa i SA.STATE = 2 →
            exec (.saInstall n e) s = s.next (d.saDone n 0x2D [])) ∧
          (∀ (ws : List Word) (d' d'' : Dev), d.otherSide i = false → ¬(d.sa i SA.STATE = 1 ∨ d.sa i SA.STATE = 2) →
            ws = wset (wset (wset (wset ((d.saData n).take 16) SA.STATE (if d.time < wget ((d.saData n).take 16) SA.START
              then 1 else 2)) SA.RESYNC 0) SA.PKTS 0) SA.BYTES 0 → d' = (d.clearRec .sa i).setRec .sa i ws →
            d'' = ({ d' with twin := { d'.twin with leases := d'.twin.leases.filter (fun (l : Nat × Nat) => l.1 ≠ i) } } : Dev) →
            exec (.saInstall n e) s = s.next ((d''.saTouch i).saDone n Sc.ok [])))) ∧
      (∀ (d : Dev) (t : Tbl) (i : Nat), d = s.dev.saQueued n 3 e → i = d.saIndex n → d.saCmdRuns n 3 i = true →
        d.saTable i = some t → t.offline = false →
        (d.sa i SA.STATE ≠ 1 → d.sa i SA.STATE ≠ 2 → exec (.saUpdate n e) s = s.next (d.saDone n 0x28 [])) ∧
        (∀ ws : List Word, d.sa i SA.STATE = 2 → ws = (d.saData n).take 16 → wget ws SA.WINDOW ≤ 1024 →
          (ws.getD 14 0).toNat < 2 ^ 48 → (ws.getD 15 0).toNat < 2 ^ 48 → wget ws SA.PREV = 0x3FFFFF →
          d.sa i SA.PROTO ≠ 3 → exec (.saUpdate n e) s = s.next (
            let d := [SA.SOFT_PKTS, SA.HARD_PKTS, SA.START, SA.EXPIRE, SA.WINDOW, SA.PREV].foldl
              (fun (d : Dev) (f : CFld) => d.cs .sa i f (wget ws f)) d;
            (d.saTouch i).saDone n Sc.ok []))) ∧
      (∀ (d : Dev) (t : Tbl) (i : Nat), d = s.dev.saQueued n 4 e → i = d.saIndex n → d.saCmdRuns n 4 i = true →
        d.saTable i = some t → t.offline = false → exec (.saRevoke n e) s = s.next ((d.saRevoke i).saDone n Sc.ok []))) ∧
    (s.dev.gk (cryptoId n) Cry.SA_STATUS_BUSY = 1 →
      ∀ i ∈ [Instr.saRead n e, .saInstall n e, .saUpdate n e, .saRevoke n e],
        exec i s = s.next (s.dev.sk (cryptoId n) Cry.SA_STATUS_OVERRUN 1)) ∧
    (∀ (o : SaOp) (d : Dev) (st : Nat), s.dev.cry.ops.find? (fun (o : SaOp) => o.tile = n) = some o →
      (o.res = none → s.dev.saCmdRuns n o.op o.index = false → exec (.saCmdDone n) s = .next s) ∧
      (o.op = 4 → o.res = some (Sc.ok, []) → s.dev.cry.steps.any (fun (t : CryStep) => t.cands.any (fun c => c.idx = o.index)) = true →
        exec (.saCmdDone n) s = .next s) ∧
      (o.op ≠ 4 → o.res = some (st, []) →
        d = (({ s.dev with cry := { s.dev.cry with ops := s.dev.cry.ops.filter (fun (o : SaOp) => o.tile ≠ n) } } : Dev).sk
          (cryptoId n) Cry.SA_STATUS_BUSY 0).sk (cryptoId n) Cry.SA_STATUS_RESULT st →
        d.gk (cryptoId n) Cry.SA_CMD_EVT = 0 → exec (.saCmdDone n) s = s.next d))

/-- Health tests restart the source, seeds instantiate the DRBG, requests wait and are served, and the scrub counts
and repairs. In Run. ENTROPY_TEST_FAIL before the startup test has passed, or of a FAILED source, changes nothing;
else samples that pass the health tests enter the pool of 4,096, and one that fails, outside a restart, is recorded,
flushes the DRBG, begins the restarts and raises 0x0505. ENTROPY_RESTART_DONE feeds the startup test, which passes
with its 4,096th sample and fails at the first that fails a test; outside STARTUP and RESTARTING it changes nothing.
DRBG_SEED changes nothing before the startup test has passed or with fewer than 1,536 samples in the pool; else the
first one seeds, counts and leaves the source SEEDED, after a restart with event 0x0506, and a later one reseeds where
that is due, each refilling the buffer. DRBG_RESEED_DUE of a seeded DRBG makes a reseed due. RANDOM_REQUEST_SERVE
makes the generate calls of the oldest request once the DRBG is ready, then, its bytes being there, writes them to the
command's buffer or answers the SPDM request; while the DRBG is not ready SPDM requests that have waited too long are
answered Busy; with no request it changes nothing. RNG_DATA_READ takes the first value with VALID 1, or answers 0.
GET_RANDOM that may run joins the list, or ends NO_ENTROPY in FAILED and NO_RESOURCE with 64 waiting. ENT_RESTART
restarts a FAILED source only. SCRUB of a correctable word counts it; of another it latches it and damages what it
held. TCAM_SCAN_VISIT of a good entry changes nothing, of a valid bad one it removes, counts and reports it. Where a
clause follows a choice or inference of the model and not the spec, it is that of log entries 28, 29, 68, 85, 86, 138.
Rests on R260 to R263, R265 of 10_crypto_and_entropy.md, R504 to R507 of 22_integrity_map.md, R380 of
15_rings_and_admin_queue.md. -/
def Obligations.EntropyServesSeedsFailsAndTheScrubRepairs : Prop :=
  ∀ (s : State) (n : Nat), s.dev.acts = true →
    (∀ bs : List Bool, s.dev.cry.tested = false ∨ s.dev.entState = 4 → exec (.entropyTestFail bs) s = .next s) ∧
    (∀ (bs : List Bool) (t : EntTest) (k f : Nat) (d e : Dev), s.dev.cry.tested = true → s.dev.entState ≠ 4 →
      s.dev.cry.test.feedAll bs = (t, k, f) →
      d = ({ s.dev with cry := { s.dev.cry with test := t, pool := (s.dev.cry.pool ++ bs.take k).take 4096 } } : Dev) →
      (f = 0 → exec (.entropyTestFail bs) s = s.next d) ∧
      (f ≠ 0 → e = (d.noteTest f).entFlush → e.entState ≠ 3 → exec (.entropyTestFail bs) s = s.next
        ((((e.setCry (fun (c : CrySt) => { c with failAt := e.time })).s rootId Root.ENT_STATUS_RESTARTS 0).entRestartNow).raise
          rootId 0x0505 0 f))) ∧
    (∀ (bs : List Bool) (t : EntTest) (k m f : Nat), s.dev.cry.tested = false → s.dev.entState = 1 ∨ s.dev.entState = 3 →
      s.dev.cry.test.feedAll (bs.take (4096 - s.dev.cry.started)) = (t, k, f) → m = s.dev.cry.started + k →
      (f = 0 → exec (.entropyRestartDone bs) s = s.next { s.dev with cry := { s.dev.cry with
        test := t, started := if m = 4096 then 0 else m, tested := decide (m = 4096) } }) ∧
      (f ≠ 0 → exec (.entropyRestartDone bs) s = s.next (s.dev.entFailure f))) ∧
    (∀ bs : List Bool, s.dev.cry.tested = true ∨ s.dev.entState ≠ 1 ∧ s.dev.entState ≠ 3 →
      exec (.entropyRestartDone bs) s = .next s) ∧
    (s.dev.cry.tested = false ∨ s.dev.cry.pool.length < 1536 → exec .drbgSeed s = .next s) ∧
    (∀ e : Dev, s.dev.cry.tested = true → 1536 ≤ s.dev.cry.pool.length →
      e = (({ s.dev with cry := { s.dev.cry with
        seeded := true, due := false, gens := 0, seedAt := s.dev.time, pool := s.dev.cry.pool.drop 1536 } } : Dev).bump Root.ENT_SEEDS) →
      (s.dev.cry.seeded = false → s.dev.entState ≠ 3 → exec .drbgSeed s = s.next ((e.setEnt 2).fillRng 16)) ∧
      (s.dev.cry.seeded = false → s.dev.entState = 3 → exec .drbgSeed s = s.next
        (((e.setEnt 2).raise rootId 0x0506 0 ((e.setEnt 2).g rootId Root.ENT_STATUS_RESTARTS)).fillRng 16)) ∧
      (s.dev.cry.seeded = true → s.dev.reseedDue = true → exec .drbgSeed s = s.next (e.fillRng 16)) ∧
      (s.dev.cry.seeded = true → s.dev.reseedDue = false → exec .drbgSeed s = .next s)) ∧
    (s.dev.cry.seeded = true → exec .drbgReseedDue s = s.next { s.dev with cry := { s.dev.cry with due := true } }) ∧
    (s.dev.cry.seeded = false → exec .drbgReseedDue s = .next s) ∧
    (∀ reach : Bool, s.dev.cry.reqs = [] → exec (.randomRequestServe reach) s = .next s) ∧
    (∀ (reach : Bool) (r : EntReq) (rest : List EntReq), s.dev.cry.reqs = r :: rest →
      (r.gen.length < r.len → s.dev.drbgReady (s.dev.on rootId Root.ENT_CTL_PRED_RESIST && !r.fresh) = false →
        exec (.randomRequestServe reach) s = s.next s.dev.spdmBusy) ∧
      (r.gen = [] → 0 < r.len → r.len ≤ 64 → s.dev.drbgReady false = true → s.dev.reseedDue = false →
        s.dev.on rootId Root.ENT_CTL_PRED_RESIST = false → ∀ c : CrySt, c = { s.dev.cry with
            drawn := s.dev.cry.drawn + 1
            gens := s.dev.cry.gens + 1
            reqs := { r with
              gen := (List.range r.len).map (fun i => (Config.drbgBytes s.dev.cry.drawn r.len).getD i 0)
              fresh := true } :: rest } →
          exec (.randomRequestServe reach) s = s.next { s.dev with cry := c }) ∧
      (∀ (i : Nat) (c : AdminCmd) (d : Dev), r.len ≤ r.gen.length → r.adm = some i →
        d = ({ s.dev with cry := { s.dev.cry with reqs := rest } } : Dev).syncEnt →
        d.admin.find? (fun (c : AdminCmd) => c.pf = r.pf && c.idx = i) = some c →
        exec (.randomRequestServe reach) s = s.next (d.admOut c reach r.gen r.len)) ∧
      (∀ (b : List Byte) (d : Dev), r.len ≤ r.gen.length → r.adm = none → r.spdm = some b →
        d = ({ s.dev with cry := { s.dev.cry with reqs := rest } } : Dev).syncEnt →
        exec (.randomRequestServe reach) s = s.next (d.spdmReply r.pf 1 b r.gen))) ∧
    (∀ (v : Nat) (rest : List Nat), s.dev.cry.rng = v :: rest → exec .rngDataRead s = s.next
      ((({ s.dev with cry := { s.dev.cry with rng := rest } } : Dev).emit (.readData (BitVec.ofNat 64 (v + 2 ^ 63)))).fillRng 1)) ∧
    (s.dev.cry.rng = [] → exec .rngDataRead s = s.next ((s.dev.emit (.readData 0)).fillRng 16)) ∧
    (∀ (pf idx : Nat) (c : AdminCmd) (d : Dev), s.dev.admReady pf idx 0x0002 c = true → d = s.dev.admStart pf idx →
      (d.entState = 4 → exec (.getRandom pf idx) s =
        s.next ((d.bump Root.ENT_NO_ENTROPY).admEnd pf idx Sc.noEntropy 0)) ∧
      (d.entState ≠ 4 → 64 ≤ d.cry.reqs.length →
        exec (.getRandom pf idx) s = s.next (d.admEnd pf idx Sc.noResource 0)) ∧
      (d.entState ≠ 4 → d.cry.reqs.length < 64 → ∀ c' : CrySt, c' = { d.cry with
          reqs := d.cry.reqs ++ [{ pf := pf, adm := some idx, spdm := none, len := c.len, gen := [], fresh := false, at_ := d.time }] } →
        exec (.getRandom pf idx) s = s.next ({ d with cry := c' } : Dev).syncEnt)) ∧
    (s.dev.entState ≠ 4 → exec .entRestart s = .next s) ∧
    (s.dev.entState = 4 → exec .entRestart s = s.next
      ((({ s.dev with cry := { s.dev.cry with failAt := s.dev.time } } : Dev).s rootId Root.ENT_STATUS_RESTARTS
        0).entRestartNow)) ∧
    (∀ (u st a : Nat) (p : Damage),
      exec (.scrub u st a p true) s = s.next ((s.dev.uncorr u st a).damage p a) ∧
      (st = 2 → exec (.scrub u st a p false) s = s.next (s.dev.bump Root.HBM_CORR)) ∧
      (st = 3 → exec (.scrub u st a p false) s = s.next ((s.dev.bump Root.SRAM_CORR).swBump Sw.ECC_CORR)) ∧
      (st ≠ 2 → st ≠ 3 → exec (.scrub u st a p false) s = s.next (s.dev.bump Root.SRAM_CORR))) ∧
    exec (.tcamScanVisit n true) s = .next s ∧
    (∀ (t : Tbl) (i : Nat) (d : Dev), s.dev.tcamOwner n = some (t, i) →
      (s.dev.evalid t i = false → exec (.tcamScanVisit n false) s = .next s) ∧
      (s.dev.evalid t i = true →
        d = ((s.dev.latchInteg (matchId (n / 4096 / 4)) 5 n).bump Root.TCAM_PARITY).tblRemove t i →
        exec (.tcamScanVisit n false) s = s.next ((d.tstat t.id 12 1).tblEvent t.id 0x0005 n)))

/-- A RoCE packet reaches its connection or is counted out, a connection sends what is next, its timers act, and the
four commands change it. In Run. TRANSPORT_RX of the oldest packet whose home tile takes work: a bad check counts
ICRC_ERR, a connection that does not exist NO_CONN_DROP, one of a frozen slice FROZEN_RX_DROPS; a CNP is counted and
lowers the rate; a request goes to the responder. TRANSPORT_SEND of a runnable connection that the switch core does
not stall sends the oldest answer it owes: an ACK or NAK, the next response of a READ, or a CNP; then nothing while it
waits for an RNR, or starts the next message; one that is not runnable, or stalled, changes nothing. ACK_TIMER with
packets not acknowledged sends an ACK for EPSN - 1, without any it changes nothing. RETRANSMIT_TIMEOUT with packets
outstanding counts and probes, or past RETRY_LIMIT moves to ERROR. RNR_WAIT_EXPIRY resumes at the NAKed PSN.
TETHER_RELEASE lets the outputs take place in order whose record is acknowledged, or all where the tether is not in
effect, then counting each of their records not acknowledged; a packet waits while the switch core stalls its input or
the slice is frozen. CONN_CREATE and CONN_MODIFY end with the status their checks give; MODIFY from INIT to RTR sets
EPSN and STATE. CONN_QUERY writes the context, and ends with MALFORMED without feature 2. CONN_DESTROY removes a
connection the function may remove and ends with the status of any other. Where a clause follows a choice or inference
of the model and not the spec, it is that of log entries 37 to 51, 142, 144 and 148. Rests on R266, R268 to R275,
R277, R279, R281 of 11_transport.md, R340, R346 of 14_tenant_slices.md, R380 of 15_rings_and_admin_queue.md. -/
def Obligations.ConnectionsReceiveSendTimeOutAndObeyTheirCommands : Prop :=
  ∀ (s : State) (n : Nat), s.dev.acts = true →
    (∀ (p : Pkt) (rest : List Pkt) (r : Roce) (d : Dev) (ents : List (Option (List Word))) (ecc : Bool), s.dev.twinState ≠ 5 →
      s.dev.sw.transport = p :: rest → r = parseRoce p → r.qpn = n → s.dev.takesWork (homeOf n) = true →
      d = ({ s.dev with sw := { s.dev.sw with transport := rest } } : Dev) → d.feature 2 = true →
      (r.good = false → exec (.transportRx ents ecc) s = s.next (d.bumpk (homeOf n) Tp.ICRC_ERR)) ∧
      (r.good = true → n < 2 ∨ 4194304 ≤ n ∨ d.cn n Conn.STATE = 0 →
        exec (.transportRx ents ecc) s = s.next (d.bumpk (homeOf n) Tp.NO_CONN_DROP)) ∧
      (r.good = true → 2 ≤ n → n < 4194304 → d.cn n Conn.STATE ≠ 0 →
        (d.connFrozen n = true →
          exec (.transportRx ents ecc) s = s.next (d.cadd .slice (d.cn n Conn.SLICE) Slc.FROZEN_RX_DROPS 1)) ∧
        (∀ e : Dev, d.connFrozen n = false → e = (d.wakeUnit (homeOf n)).tpCache n → e.cn n Conn.STATE = 3 →
          (ecc = true → exec (.transportRx ents ecc) s = s.next (((e.uncorr (homeOf n) 2 (n * 512)).bumpk (homeOf n)
            Tp.NO_CONN_DROP).connError n 0x34 (fun _ => 0x34))) ∧
          (ecc = false → r.opcode = bthCnp → exec (.transportRx ents ecc) s =
            s.next ((((e.bumpk (homeOf n) Tp.RX_PKTS).bumpk (homeOf n) Tp.CNP_RX).ccCnp n).connRecord n)) ∧
          (ecc = false → r.opcode < 0x0D → r.ce = false → p.mg Meta.CE_MARK = 0 →
            exec (.transportRx ents ecc) s =
              s.next ((e.bumpk (homeOf n) Tp.RX_PKTS).request n r ents (rxFlagsOf p)))))) ∧
    (∀ data : Option (List Byte),
      (s.dev.cn n Conn.STATE ≠ 2 → s.dev.cn n Conn.STATE ≠ 3 → exec (.transportSend n data) s = .next s) ∧
      (s.dev.tpStalled n = true → exec (.transportSend n data) s = .next s) ∧
      (∀ d : Dev, s.dev.cn n Conn.STATE = 3 → s.dev.takesWork (homeOf n) = true → s.dev.connFrozen n = false →
        s.dev.connEligible n = true → s.dev.tpStalled n = false → s.dev.twinState ≠ 5 → d = s.dev.tpCache n →
        (∀ (r : TpRead) (as : List TpAns), (d.tc n).answers = .read r :: as →
          exec (.transportSend n data) s = s.next (d.sendResp n r data)) ∧
        (∀ (a : TpAns) (as : List TpAns) (e : Dev), (d.tc n).answers = a :: as →
          e = d.setTc n (fun (x : TpConn) => { x with answers := as }) →
          (∀ syn psn msn : Nat, a = .ack syn psn msn →
            exec (.transportSend n data) s = s.next (e.ackNow n syn psn msn)) ∧
          (a = .cnp → exec (.transportSend n data) s = s.next (e.cnpNow n))) ∧
        ((d.tc n).answers = [] → (d.tc n).rnr.isSome = true → exec (.transportSend n data) s = s.next d) ∧
        (∀ (e : Dev) (m : TpMsg), (d.tc n).answers = [] → (d.tc n).rnr = none → (d.tc n).probe = 0 →
          psnBefore (d.tc n).next (d.cn n Conn.SQ_PSN) = false → (d.tc n).live = [] → d.startMsg n = (e, some m) →
          exec (.transportSend n data) s = s.next (e.sendReq n m (d.cn n Conn.SQ_PSN) data true false)))) ∧
    ((s.dev.tc n).acks = 0 → exec (.ackTimer n) s = .next s) ∧
    (s.dev.connRuns n 2 = true → (s.dev.tc n).acks ≠ 0 → exec (.ackTimer n) s = s.next
      ((s.dev.tpCache n).sendAck n synAck (psnAdd (s.dev.cn n Conn.EPSN) (2 ^ 24 - 1)))) ∧
    (s.dev.cn n Conn.UNA_PSN = s.dev.cn n Conn.SQ_PSN → exec (.retransmitTimeout n) s = .next s) ∧
    (∀ d : Dev, s.dev.connRuns n 3 = true → s.dev.cn n Conn.UNA_PSN ≠ s.dev.cn n Conn.SQ_PSN →
      d = (s.dev.tpCache n).bumpk (homeOf n) Tp.TIMEOUTS →
      (d.cn n Conn.RETRY_LIMIT ≤ d.cn n Conn.RETRY_COUNT →
        exec (.retransmitTimeout n) s = s.next (d.connError n 0x30 (fun _ => 0x30))) ∧
      (d.cn n Conn.RETRY_COUNT < d.cn n Conn.RETRY_LIMIT → exec (.retransmitTimeout n) s = s.next
        ((((d.cadd .conn n Conn.RETRY_COUNT 1).ccTimeout n).setTc n
          (fun (x : TpConn) => { x with probe := 1 })).touchConn n))) ∧
    (∀ p : Nat, (s.dev.tc n).rnr = some p → s.dev.connRuns n 3 = true → exec (.rnrWaitExpiry n) s =
      s.next (s.dev.setTc n (fun (x : TpConn) => { x with rnr := none, next := p, probe := 0 }))) ∧
    (∀ (go : List (Option Nat × TpOut)) (lost : List Nat), go = (s.dev.tc n).held.takeWhile (fun (h : Option Nat × TpOut) =>
        (!s.dev.tetherOn n || h.1.all s.dev.yokeAcked) && !(h.2.isFrame && (s.dev.tpStalled n || s.dev.connFrozen n))) →
      lost = (if s.dev.tetherOn n then [] else
        ((go.filterMap (fun (h : Option Nat × TpOut) => h.1)).filter (fun k => !s.dev.yokeAcked k)).eraseDups) →
      exec (.tetherRelease n) s = s.next ((go.map (fun (h : Option Nat × TpOut) => h.2)).foldl
        (fun (d : Dev) (o : TpOut) => d.tpOut n o)
        ((s.dev.setTc n (fun (x : TpConn) =>
          { x with
              held := x.held.drop go.length
              rec_ := if x.rec_.any (fun k => lost.contains k) then none else x.rec_ })).bypass n lost.length))) ∧
    (∀ (pf idx : Nat) (a : AdminCmd) (d : Dev), d = s.dev.admStart pf idx → a.arg % 2 ^ 22 = n →
      (s.dev.admReady pf idx 0x0401 a = true →
        (∀ (bs : List Byte) (e : Dev) (st : Nat), d.connCreate pf n (sliceBytes bs 0 a.len) = (e, st) →
          exec (.connCreate pf idx (some bs)) s = s.next (e.admEnd pf idx st 0)) ∧
        (∀ bs : List Byte, n < 2 ∨ d.cn n Conn.STATE ≠ 0 →
          exec (.connCreate pf idx (some bs)) s = s.next (d.admEnd pf idx Sc.malformed 0)) ∧
        exec (.connCreate pf idx none) s = s.next (d.admEnd pf idx Sc.busError 0)) ∧
      (s.dev.admReady pf idx 0x0402 a = true →
        (∀ (bs : List Byte) (ws : List Word), ws = toWords 64 (sliceBytes bs 0 a.len) → d.connStatus pf n = Sc.ok →
          a.arg / 2 ^ 32 % 8 = 2 → a.arg / 2 ^ 35 % 2 = 0 → a.arg / 2 ^ 36 % 2 = 0 → d.cn n Conn.STATE = 1 →
          connReservedOk ws = true → exec (.connModify pf idx (some bs)) s = s.next
            (((((d.setCn n Conn.EPSN (wget ws Conn.EPSN)).setCn n Conn.STATE 2).tpCache n).touchConn n).admEnd pf idx Sc.ok 0)) ∧
        exec (.connModify pf idx none) s = s.next (d.admEnd pf idx Sc.busError 0)) ∧
      (s.dev.admReady pf idx 0x0403 a = true → d.feature 2 = false → ∀ reach : Bool,
        exec (.connQuery pf idx reach) s = s.next (d.admEnd pf idx Sc.malformed 0)) ∧
      (s.dev.admReady pf idx 0x0403 a = true → d.feature 2 = true →
        d.cn n Conn.SLICE = 0 ∨ d.cg .slice (d.cn n Conn.SLICE) Slc.OWNER = pf →
        exec (.connQuery pf idx true) s =
          s.next ((d.hostData a.pf none a.buf (ofWords (d.crec .conn n 64))).admEnd a.pf a.idx Sc.ok 0) ∧
        exec (.connQuery pf idx false) s = s.next (d.admEnd a.pf a.idx Sc.busError 0)) ∧
      (s.dev.admReady pf idx 0x0404 a = true →
        (d.connStatus pf n = Sc.ok → exec (.connDestroy pf idx) s = s.next ((d.connRemove n true).admEnd pf idx Sc.ok 0)) ∧
        (d.connStatus pf n ≠ Sc.ok → exec (.connDestroy pf idx) s = s.next (d.admEnd pf idx (d.connStatus pf n) 0))))

/-- PERST, Hot Reset and FLR reset a function and take CFG_READY from it; the link comes up at what is offered;
firmware or the timeout makes it ready. PERST_ASSERT in Run resets the function as a Conventional Reset and shows the
pin low, with CFG_READY 0 after it; a pin that is low already changes nothing, and in Sealed standby only the pin's
level changes. PERST_DEASSERT shows it high and ends the reset kind. In Run: HOT_RESET and FLR of a function whose
link is up reset it by their kind, CFG_READY reading 0, and change nothing while it is down. PCIE_LINK_UP at the
highest common rate and x16, with PERST_x_N high, shows rate, widths, FLIT from code 6 on, PM_STATE 0 and the link up;
above the rate offered it changes nothing. LINK_RESET_DONE of an FLR or Hot Reset sets CFG_READY and ends the reset,
unless the destruction of the function's objects waits for a takeover. CFG_READY sets it with AUTO_READY 0, once.
READY_TIMEOUT sets it with AUTO_READY 1 and raises 0x0706 unless it is ready. Where a clause follows a choice or
inference of the model and not the spec, it is that of log entries 66, 69. Rests on R302 to R304 of
13_host_endpoint.md, R516, R518 to R520, R527, R528 of 23_reset_and_bring_up.md. -/
def Obligations.LinksTrainResetAndBecomeReady : Prop :=
  ∀ (s : State) (pf : Nat),
    ((s.dev.ep pf).perst = true → exec (.perstAssert pf) s = .next s) ∧
    ((s.dev.ep pf).perst = false → s.dev.power.state = .sealed ∨ s.dev.boot.tripped = true →
      exec (.perstAssert pf) s = s.next (s.dev.setEp pf (fun (e : EpSt) => { e with perst := true }))) ∧
    ((s.dev.ep pf).perst = false → s.dev.power.state ≠ .sealed → s.dev.boot.tripped = false →
      exec (.perstAssert pf) s = s.next ((s.dev.linkReset pf 3).setEp pf (fun (e : EpSt) => { e with perst := true })) ∧
      ((s.dev.linkReset pf 3).setEp pf (fun (e : EpSt) => { e with perst := true })).g (epId pf) Ep.EP_CFG_CTL_CFG_READY = 0) ∧
    exec (.perstDeassert pf) s =
      s.next (s.dev.setEp pf (fun (e : EpSt) => { e with perst := false, resetKind := 0 })) ∧
    (s.dev.acts = true →
      ((s.dev.ep pf).linkUp = false → exec (.hotReset pf) s = .next s ∧ exec (.flr pf) s = .next s) ∧
      ((s.dev.ep pf).linkUp = true →
        exec (.hotReset pf) s = s.next (s.dev.linkReset pf 2) ∧ exec (.flr pf) s = s.next (s.dev.linkReset pf 1) ∧
        (s.dev.linkReset pf 2).g (epId pf) Ep.EP_CFG_CTL_CFG_READY = 0 ∧
        (s.dev.linkReset pf 1).g (epId pf) Ep.EP_CFG_CTL_CFG_READY = 0) ∧
      (∀ (rate width common rec : Nat) (flit : Bool), s.dev.rateOffered pf < rate →
        exec (.pcieLinkUp pf rate width common rec flit) s = .next s) ∧
      (∀ (rate rec : Nat) (flit : Bool) (d : Dev), (s.dev.ep pf).perst = false → 1 ≤ rate → rate ≤ s.dev.rateOffered pf →
        16 ≤ s.dev.g (epId pf) Ep.EP_LINK_CTL_MAX_WIDTH →
        d = ((((s.dev.s (epId pf) Ep.EP_LINK_STATUS_RATE rate).s (epId pf) Ep.EP_LINK_STATUS_WIDTH 16).s (epId pf)
          Ep.EP_LINK_STATUS_CUR_WIDTH 16).s (epId pf) Ep.EP_LINK_STATUS_FLIT (if flit || decide (6 ≤ rate) then 1 else 0)).s
            (epId pf) Ep.EP_LINK_STATUS_PM_STATE 0 →
        ∀ e : Dev, e = (d.add (epId pf) Ep.RECOVERY rec).setEp pf
          (fun (e : EpSt) => { e with linkUp := true, l0pRun := 0, l0pReq := none }) →
        min rate (e.rateOffered pf) = rate → exec (.pcieLinkUp pf rate 16 rate rec flit) s = s.next e) ∧
      ((s.dev.ep pf).resetKind = 1 ∨ (s.dev.ep pf).resetKind = 2 → (s.dev.ep pf).linkUp = true →
        s.dev.boot.late.contains pf = false → exec (.linkResetDone pf) s =
          s.next ((s.dev.setReady pf 0).setEp pf (fun (e : EpSt) => { e with resetKind := 0 }))) ∧
      (s.dev.g (epId pf) Ep.EP_CFG_CTL_CFG_READY = 1 →
        exec (.cfgReady pf) s = .next s ∧ exec (.readyTimeout pf) s = .next s) ∧
      (s.dev.g (epId pf) Ep.EP_CFG_CTL_CFG_READY = 0 → s.dev.g rootId Root.BOOT_TIME_READY_MS = 0 →
        (∀ d : Dev, d = (s.dev.s (epId pf) Ep.EP_CFG_CTL_CFG_READY 1).s (epId pf) Ep.EP_CFG_CTL_AUTO_READY 0 →
          d.g rootId Root.BOOT_TIME_READY_MS = 0 → exec (.cfgReady pf) s =
            s.next (d.s rootId Root.BOOT_TIME_READY_MS ((d.time - d.boot.t0) / 1000000))) ∧
        ((s.dev.ep pf).perst = false →
          exec (.readyTimeout pf) s = s.next ((s.dev.setReady pf 1).raise (epId pf) 0x0706 0 0))))

/-- Configuration requests are answered or retried, the ROM is loaded, L1 and L0p move, translations come and go, and
DOE objects are answered. In Run. CONFIG_REQUEST with the link down changes nothing; before CFG_READY it is answered
with RRS and counted; a read of dword 0 answers 0x32001F9C; a write stores the writable bits, takes its effect, lets a
latency report leave where that has changed (R318), and completes. ROM_DATA before CFG_READY stores 8 bytes at
ROM_ADDR, which rises by 1; after it, it changes nothing. ASPM_L1_ENTRY of an idle link with ASPM enters the deepest
state enabled and counts; ASPM_L1_EXIT of a link in L1 returns to L0. L0P_WINDOW with a request outstanding changes
nothing; with high use at reduced width it asks for the full one. L0P_PARTNER_CHANGE takes the answer to the request,
counting a refusal, and changes nothing without one. ATS_INVALIDATE drops the translation and completes.
PAGE_GROUP_RESPONSE with success, of a queue that uses translated addresses, caches the page; a failure, or
PAGE_REQUEST_TIMEOUT, of a queue that does not exist or uses none changes nothing, and of a TX queue that uses them
ends its job. DOE_OBJECT too short or of a wrong length sets DOE Error, another is answered: an SPDM message at once,
or behind a request for the random bytes that its answer needs; DOE_ABORT clears it and drops requests that wait for
such bytes. FUNCTION_QUIET_END of a function still quiet changes nothing, else its held writes leave in order. Where a
clause follows a choice or inference of the model and not the spec, it is that of log entries 66 to 68. Rests on R304,
R305, R309, R317 to R321, R325 of 13_host_endpoint.md. -/
def Obligations.EndpointAnswersConfigurationDoePowerAndTranslation : Prop :=
  ∀ (s : State) (pf : Nat), s.dev.acts = true →
    (∀ (reg be : Nat) (w : Option Nat),
      ((s.dev.ep pf).linkUp = false → exec (.configRequest pf reg be w) s = .next s) ∧
      ((s.dev.ep pf).linkUp = true → s.dev.g (epId pf) Ep.EP_CFG_CTL_CFG_READY = 0 →
        exec (.configRequest pf reg be w) s = s.next ((s.dev.emit (.cfgCpl pf none)).add (epId pf) Ep.RRS_SENT 1)) ∧
      ((s.dev.ep pf).linkUp = true → s.dev.g (epId pf) Ep.EP_CFG_CTL_CFG_READY = 1 →
        exec (.configRequest pf 0 be none) s = s.next (s.dev.emit (.cfgCpl pf (some 0x32001F9C))) ∧
        (∀ v : Nat, exec (.configRequest pf reg 15 (some v)) s = s.next
          ((((s.dev.cfgStore pf (reg % 4096 / 4 * 4) 0xFFFFFFFF v).cfgEffect pf (reg % 4096 / 4 * 4) 0xFFFFFFFF v).tellLtr
            s.dev pf).emit
            (.cfgCpl pf (some 0)))))) ∧
    (∀ v : Word, (s.dev.g (epId pf) Ep.EP_CFG_CTL_CFG_READY = 1 → exec (.romData pf v) s = .next s) ∧
      (s.dev.g (epId pf) Ep.EP_CFG_CTL_CFG_READY = 0 → exec (.romData pf v) s = s.next
        ((s.dev.writeMem .rom (pf * 2 ^ 20 + 8 * s.dev.g (epId pf) Ep.ROM_ADDR_ADDR) (leBytes 8 v.toNat)).s (epId pf)
          Ep.ROM_ADDR_ADDR (s.dev.g (epId pf) Ep.ROM_ADDR_ADDR + 1)))) ∧
    ((s.dev.ep pf).linkUp = true → (s.dev.ep pf).aspmL1 = true → s.dev.g (epId pf) Ep.EP_LINK_STATUS_PM_STATE < 2 →
      exec (.aspmL1Entry pf) s = s.next ((s.dev.s (epId pf) Ep.EP_LINK_STATUS_PM_STATE
        (if (s.dev.ep pf).l12En then 4 else if (s.dev.ep pf).l11En then 3 else 2)).add (epId pf) Ep.L1_ENTRIES 1)) ∧
    (2 ≤ s.dev.g (epId pf) Ep.EP_LINK_STATUS_PM_STATE → s.dev.g (epId pf) Ep.EP_LINK_STATUS_PM_STATE ≤ 4 →
      exec (.aspmL1Exit pf) s = s.next (s.dev.s (epId pf) Ep.EP_LINK_STATUS_PM_STATE
        (if s.dev.g (epId pf) Ep.EP_LINK_STATUS_CUR_WIDTH < s.dev.g (epId pf) Ep.EP_LINK_STATUS_WIDTH then 1 else 0))) ∧
    (∀ tx rx backlog : Nat, ((s.dev.ep pf).l0pReq.isSome = true → exec (.l0pWindow pf tx rx backlog) s = .next s) ∧
      ((s.dev.ep pf).linkUp = true → (s.dev.ep pf).l0pReq = none → (s.dev.ep pf).l0pEn = true →
        s.dev.on (epId pf) Ep.EP_LINK_CTL_L0P_AUTO = true → s.dev.on (epId pf) Ep.EP_LINK_STATUS_FLIT = true →
        s.dev.g (epId pf) Ep.EP_LINK_STATUS_CUR_WIDTH < s.dev.g (epId pf) Ep.EP_LINK_STATUS_WIDTH → 16384 < backlog →
        exec (.l0pWindow pf tx rx backlog) s = s.next (s.dev.setEp pf (fun (e : EpSt) =>
          { e with l0pReq := some (s.dev.g (epId pf) Ep.EP_LINK_STATUS_WIDTH), l0pRun := 0 })))) ∧
    ((s.dev.ep pf).l0pReq = none → ∀ acc, exec (.l0pPartnerChange pf none acc) s = .next s) ∧
    (∀ w : Nat, (s.dev.ep pf).l0pReq = some w →
      exec (.l0pPartnerChange pf none true) s = s.next (s.dev.setWidth pf w) ∧
      exec (.l0pPartnerChange pf none false) s = s.next ((s.dev.add (epId pf) Ep.L0P_REFUSED 1).setEp pf
        (fun (e : EpSt) => { e with l0pRun := 0, l0pReq := none }))) ∧
    (∀ tag pasid page : Nat, s.dev.quiet pf = false → ∀ d : Dev,
      d = s.dev.setEp pf (fun (e : EpSt) => { e with ats := e.ats.filter (fun (x : Nat × Nat) => !(x = (pasid, page))) }) →
      d.quiet pf = false → exec (.atsInvalidate pf tag pasid page) s = s.next (d.emit (.pcieMsg pf 1 tag))) ∧
    (∀ q page : Nat,
      (∀ p : Nat, s.dev.qAts q = true → s.dev.qPasid q = some p → (s.dev.ep (s.dev.qf q Qctx.OWNER)).ats.length < 16384 →
        exec (.pageGroupResponse q page true) s = s.next (s.dev.setEp (s.dev.qf q Qctx.OWNER) (fun (e : EpSt) =>
          if 16384 ≤ e.ats.length || e.ats.contains (p, page) then e else { e with ats := e.ats ++ [(p, page)] }))) ∧
      (s.dev.qExists q = false ∨ s.dev.qAts q = false → exec (.pageGroupResponse q page false) s = .next s ∧
        exec (.pageRequestTimeout q) s = .next s) ∧
      (s.dev.qExists q = true → s.dev.qAts q = true → (∀ d : Dev, d = s.dev.bumpk (dmaOf q) Dma.PAGE_REQ_FAIL → d.qf q Qctx.KIND = 1 →
        exec (.pageGroupResponse q page false) s = s.next (txJobFetch q [] false false d) ∧
        exec (.pageRequestTimeout q) s = s.next (txJobFetch q [] false false d)))) ∧
    (∀ obj : List Byte, s.dev.g (epId pf) Ep.EP_CFG_CTL_CFG_READY = 1 → (s.dev.ep pf).linkUp = true →
      ((obj.length + 3) / 4 < 2 ∨ leNat (sliceBytes obj 4 4) % 2 ^ 18 ≠ (obj.length + 3) / 4 → exec (.doeObject pf obj) s =
        s.next (s.dev.setEp pf (fun (e : EpSt) => { e with doeErr := true }))) ∧
      ((obj.length + 3) / 4 ≤ 16384 → 2 ≤ (obj.length + 3) / 4 →
        leNat (sliceBytes obj 4 4) % 2 ^ 18 = (obj.length + 3) / 4 →
        exec (.doeObject pf obj) s = s.next (s.dev.doeAnswer pf obj) ∧
        (∀ n : Nat, leNat (sliceBytes obj 0 2) = 1 → leNat (sliceBytes obj 2 1) = 1 →
          n = spdmNeeds (leNat (sliceBytes (obj.drop 8) 1 1)) →
          (n = 0 → exec (.doeObject pf obj) s = s.next (s.dev.spdmReply pf 1 (obj.drop 8) [])) ∧
          (n ≠ 0 → exec (.doeObject pf obj) s = s.next (s.dev.askRandom
            { pf := pf, adm := none, spdm := some (obj.drop 8), len := n, gen := [], fresh := false, at_ := s.dev.time }))))) ∧
    exec (.doeAbort pf) s =
      s.next ((s.dev.dropSpdm pf).setEp pf (fun (e : EpSt) => { e with doeIn := [], doeOut := [], doeErr := false })) ∧
    (s.dev.quiet pf = true → exec (.functionQuietEnd pf) s = .next s) ∧
    (∀ d : Dev, s.dev.quiet pf = false →
      d = (s.dev.setEp pf (fun (e : EpSt) => { e with heldWrites := [], pmeSent := false })).emits (s.dev.ep pf).heldWrites →
      exec (.functionQuietEnd pf) s = s.next (d.presentWaiting (fun w => (d.target w.ev).2.1 = pf)))

/-- Slice and window commands check their operands, write or read their records, and give back the statuses the checks
name. In Run, for an admin command that may run. SLICE_CREATE of a FREE slice with a context that passes every check
clears the old record and allow-list, writes the four supplied words, sets STATE ACTIVE, the owner and the number,
takes the queues of its range in, and ends OK; of a slice that is not FREE it ends with the state status 0x3E.
SLICE_MODIFY of an ACTIVE slice of the function writes the seven fields it reads and ends OK. SLICE_QUERY writes the
16 context words and ends OK, or BUS_ERROR when the buffer cannot be reached. ALLOW_WRITE replaces the allow-list and
ends with the number of entries, or MALFORMED with nothing changed when an entry breaks a rule. MW_CREATE at a free
window writes the record, sets VALID, counts the window in its slice and ends with its key. MW_DESTROY drops the
window and ends, or goes on while an operation that passed the check still moves data. Commands that read a buffer end
BUS_ERROR when it cannot be read; on a slice in a wrong state, MODIFY and ALLOW_WRITE end with the status of R339.
Where a clause follows a choice or inference of the model and not the spec, it is that of log entries 12, 61, 62.
Rests on 14_tenant_slices.md, R327 to R331, R334, R337, R338 of 14_tenant_slices.md, R380 of
15_rings_and_admin_queue.md. -/
def Obligations.SliceCommandsCreateChangeAndReadTheirRecords : Prop :=
  ∀ (s : State) (pf idx : Nat) (c : AdminCmd) (d : Dev) (sl : Nat), s.dev.acts = true → d = s.dev.admStart pf idx →
    sl = c.arg % 2 ^ 12 →
    (s.dev.admReady pf idx 0x0301 c = true →
      (∀ (bs : List Byte) (ws : List Word) (e : Dev), ws = toWords 16 (sliceBytes bs 0 c.len) → d.badRec .slice sl = false →
        (sl = 0 ∨ d.sliceState sl ≠ 0 → exec (.sliceCreate pf idx (some bs)) s = s.next (d.admEnd pf idx 0x3E 0)) ∧
        (sl ≠ 0 → d.sliceState sl = 0 → d.adopting sl = false → sliceFormOk ws = true →
          d.rangeOk pf sl (wget ws Slc.QBASE) (wget ws Slc.QCOUNT) = true →
          d.rxqOk (wget ws Slc.QBASE) (wget ws Slc.QCOUNT) (wget ws Slc.DEFAULT_RXQ) = true →
          d.pasidOk pf sl ws (wget ws Slc.PASID) = true → d.otherSide sl = false → d.maxFit pf sl ws = true →
          e = ((((((((d.clearRec .slice sl).clearRec .allow sl).setRec .slice sl (ws.take 4)).cs .slice sl Slc.STATE 1).cs .slice sl
            Slc.OWNER pf).cs .slice sl Slc.RESTORED 0).cs .slice sl Slc.SLICE_ID sl).cs .slice sl Slc.ALLOW_COUNT 0) →
          exec (.sliceCreate pf idx (some bs)) s =
            s.next (((e.queues.foldl (fun (d : Dev) x => if d.inSlice sl x.qid then
              ((d.setQf x.qid Qctx.SLICE sl).cadd .slice sl Slc.USED_QUEUES 1).touch 4 x.qid else d) e).touch 6 sl).admEnd
                pf idx Sc.ok 0))) ∧
      exec (.sliceCreate pf idx none) s = s.next (d.admEnd pf idx Sc.busError 0)) ∧
    (s.dev.admReady pf idx 0x0302 c = true →
      (∀ (bs : List Byte) (ws : List Word), ws = toWords 16 (sliceBytes bs 0 c.len) →
        (∀ st : Nat, st = d.sliceStatus pf sl [1] → st ≠ Sc.ok →
          exec (.sliceModify pf idx (some bs)) s = s.next (d.admEnd pf idx st 0)) ∧
        (sl ≠ 0 → d.adopting sl = false → d.badRec .slice sl = false → d.cg .slice sl Slc.OWNER = pf → d.sliceState sl = 1 →
          maskOk sliceMask 16 ws = true → wget ws Slc.SPOOF_MODE ≠ 3 → wget ws Slc.MAX_EQS ≤ 1024 →
          wget ws Slc.MAX_MWS ≤ 65536 →
          d.rxqOk (d.cg .slice sl Slc.QBASE) (d.cg .slice sl Slc.QCOUNT) (wget ws Slc.DEFAULT_RXQ) = true →
          d.maxFit pf sl ws = true → d.cg .slice sl Slc.USED_CONNS ≤ wget ws Slc.MAX_CONNS →
          d.cg .slice sl Slc.USED_SESSIONS ≤ wget ws Slc.MAX_SESSIONS → d.cg .slice sl Slc.USED_EQS ≤ wget ws Slc.MAX_EQS →
          d.cg .slice sl Slc.USED_MWS ≤ wget ws Slc.MAX_MWS →
          exec (.sliceModify pf idx (some bs)) s =
            s.next ((((((((((d.cs .slice sl Slc.SPOOF_MODE (wget ws Slc.SPOOF_MODE)).cs .slice sl Slc.OTHER_OK
              (wget ws Slc.OTHER_OK)).cs .slice sl Slc.DEFAULT_RXQ (wget ws Slc.DEFAULT_RXQ)).cs .slice sl Slc.MAX_CONNS
              (wget ws Slc.MAX_CONNS)).cs .slice sl Slc.MAX_SESSIONS (wget ws Slc.MAX_SESSIONS)).cs .slice sl Slc.MAX_EQS
              (wget ws Slc.MAX_EQS)).cs .slice sl Slc.MAX_MWS (wget ws Slc.MAX_MWS)).touch 6 sl).admEnd pf idx Sc.ok 0)))) ∧
      exec (.sliceModify pf idx none) s = s.next (d.admEnd pf idx Sc.busError 0)) ∧
    (s.dev.admReady pf idx 0x0303 c = true → sl ≠ 0 → d.adopting sl = false → d.badRec .slice sl = false →
      d.sliceState sl = 0 ∨ d.cg .slice sl Slc.OWNER = pf →
      exec (.sliceQuery pf idx true) s =
        s.next ((d.hostData c.pf none c.buf (ofWords (d.crec .slice sl 16))).admEnd c.pf c.idx Sc.ok 0) ∧
      exec (.sliceQuery pf idx false) s = s.next (d.admEnd c.pf c.idx Sc.busError 0)) ∧
    (s.dev.admReady pf idx 0x0309 c = true →
      (∀ (bs : List Byte) (n : Nat) (es : List (List Word)), n = c.len / 32 →
        es = chunk 4 n (toWords (4 * n) (sliceBytes bs 0 c.len)) →
        (∀ st : Nat, st = d.sliceStatus pf sl [1] → st ≠ Sc.ok →
          exec (.allowWrite pf idx (some bs)) s = s.next (d.admEnd pf idx st 0)) ∧
        (sl ≠ 0 → d.adopting sl = false → d.badRec .slice sl = false → d.cg .slice sl Slc.OWNER = pf → d.sliceState sl = 1 →
          (es.all allowOk = true → exec (.allowWrite pf idx (some bs)) s = s.next ((d.putAllow sl es).admEnd pf idx Sc.ok n)) ∧
          (es.all allowOk = false →
            exec (.allowWrite pf idx (some bs)) s = s.next (d.admEnd pf idx Sc.malformed 0)))) ∧
      exec (.allowWrite pf idx none) s = s.next (d.admEnd pf idx Sc.busError 0)) ∧
    (s.dev.admReady pf idx 0x030A c = true →
      (∀ (bs : List Byte) (i : Nat) (ws : List Word) (e : Dev), i = c.arg % 65536 → ws = toWords 4 (sliceBytes bs 0 c.len) →
        d.badRec .window i = false →
        (d.cg .window i Mw.VALID = 1 ∨ mwOk ws = false →
          exec (.mwCreate pf idx (some bs)) s = s.next (d.admEnd pf idx Sc.malformed 0)) ∧
        (d.cg .window i Mw.VALID = 0 → mwOk ws = true → d.otherSide i = false →
          (∀ st : Nat, st = d.sliceCheck pf (wget ws Mw.SLICE) Slc.USED_MWS Slc.MAX_MWS → st ≠ Sc.ok →
            exec (.mwCreate pf idx (some bs)) s = s.next (d.admEnd pf idx st 0)) ∧
          (d.sliceCheck pf (wget ws Mw.SLICE) Slc.USED_MWS Slc.MAX_MWS = Sc.ok →
            e = (((d.clearRec .window i).setRec .window i ws).cs .window i Mw.VALID 1).sliceInc (wget ws Mw.SLICE)
              Slc.USED_MWS →
            exec (.mwCreate pf idx (some bs)) s = s.next ((e.touch 8 i).admEnd pf idx Sc.ok
              ((((d.clearRec .window i).setRec .window i ws).cs .window i Mw.VALID 1).mwKey i))))) ∧
      exec (.mwCreate pf idx none) s = s.next (d.admEnd pf idx Sc.busError 0)) ∧
    (s.dev.admReady pf idx 0x030B c = true → ∀ i : Nat, i = c.arg % 65536 → d.badRec .window i = false →
      d.badRec .slice (d.cg .window i Mw.SLICE) = false →
      (d.cg .window i Mw.VALID = 0 → exec (.mwDestroy pf idx) s = s.next (d.admEnd pf idx Sc.malformed 0)) ∧
      (d.cg .window i Mw.VALID = 1 → d.cg .window i Mw.SLICE = 0 ∨ d.cg .slice (d.cg .window i Mw.SLICE) Slc.OWNER = pf ∧
          d.sliceState (d.cg .window i Mw.SLICE) = 1 →
        ((d.dropMw i).keyBusy (d.mwKey i) = false → exec (.mwDestroy pf idx) s = s.next ((d.dropMw i).admEnd pf idx Sc.ok 0)) ∧
        ((d.dropMw i).keyBusy (d.mwKey i) = true → exec (.mwDestroy pf idx) s =
          s.next ((d.dropMw i).setAdm pf idx (fun (a : AdminCmd) => { a with count := d.mwKey i }))))) ∧
    (∀ a : AdminCmd, s.dev.admin.find? (fun c => c.pf = pf && c.idx = idx && c.op = 0x030B && c.started && c.done.isNone) = some a →
      (s.dev.keyBusy a.count = true → exec (.mwDestroy pf idx) s = .next s) ∧
      (s.dev.keyBusy a.count = false → exec (.mwDestroy pf idx) s = s.next (s.dev.admEnd pf idx Sc.ok 0)))

/-- A slice freezes, is saved, restored, thawed and destroyed from the states that R339 accepts, and only from those.
In Run, for an admin command that may run on slice sl. SLICE_FREEZE of an ACTIVE slice of the function starts the
freeze and goes on; FREEZE_DONE of a FREEZING slice with nothing outstanding sets STATE FROZEN, raises FREEZE_GEN and
ends the SLICE_FREEZE with OK, and otherwise changes nothing; FREEZE_TIMEOUT of a FREEZING slice makes it ACTIVE
again, serves its pending doorbells and ends the command with 0x3F. SLICE_SAVE of a FROZEN slice writes the saved
state and ends with its length, ends NO_RESOURCE with the length when the buffer is shorter, and BUS_ERROR when the
buffer cannot be reached. SLICE_RESTORE to a FREE slice creates the saved objects when every check passes; a saved
state that is not whole ends INTEGRITY, one whose records are not allowed MALFORMED, and the checks of R343 give the
other statuses. SLICE_THAW makes a FROZEN slice ACTIVE. SLICE_DESTROY of an ACTIVE slice removes it with a report of
what it ends, of a FROZEN one without. In any other state the commands end with the status of R339. Where a clause
follows a choice or inference of the model and not the spec, it is that of log entries 61 to 63. Rests on
14_tenant_slices.md, R340 to R345 of 14_tenant_slices.md, R380 of 15_rings_and_admin_queue.md. -/
def Obligations.SlicesFreezeSaveRestoreThawAndGo : Prop :=
  ∀ (s : State) (pf idx : Nat) (c : AdminCmd) (d : Dev) (sl : Nat), s.dev.acts = true → d = s.dev.admStart pf idx →
    sl = c.arg % 2 ^ 12 →
    (s.dev.admReady pf idx 0x0304 c = true →
      (d.sliceStatus pf sl [1] ≠ Sc.ok →
        exec (.sliceFreeze pf idx) s = s.next (d.admEnd pf idx (d.sliceStatus pf sl [1]) 0)) ∧
      (sl ≠ 0 → d.adopting sl = false → d.badRec .slice sl = false → d.cg .slice sl Slc.OWNER = pf → d.sliceState sl = 1 →
        exec (.sliceFreeze pf idx) s = s.next (d.startFreeze sl))) ∧
    (∀ n : Nat,
      (s.dev.sliceState n = 2 → s.dev.frozenNow n = true → exec (.freezeDone n) s =
        s.next ((((s.dev.cs .slice n Slc.STATE 3).cadd .slice n Slc.FREEZE_GEN 1).touch 6 n).freezeEnd n Sc.ok)) ∧
      (s.dev.sliceState n ≠ 2 ∨ s.dev.frozenNow n = false → exec (.freezeDone n) s = .next s) ∧
      (∀ d : Dev, s.dev.sliceState n = 2 → s.dev.twin.switchover = none → d = (s.dev.cs .slice n Slc.STATE 1).touch 6 n →
        exec (.freezeTimeout n) s = s.next (((d.queuesOf n).foldl (fun (d : Dev) (q : Nat) =>
          if ((d.qst q).map QSt.rung).getD false then d.ringQ q else d) d).freezeEnd n 0x3F)) ∧
      (s.dev.sliceState n ≠ 2 → exec (.freezeTimeout n) s = .next s)) ∧
    (s.dev.admReady pf idx 0x0305 c = true →
      (d.sliceStatus pf sl [3] ≠ Sc.ok →
        ∀ b : Bool, exec (.sliceSave pf idx b) s = s.next (d.admEnd pf idx (d.sliceStatus pf sl [3]) 0)) ∧
      (sl ≠ 0 → d.adopting sl = false → d.badRec .slice sl = false → d.cg .slice sl Slc.OWNER = pf → d.sliceState sl = 3 →
        d.badRec .allow sl = false → (∀ i ∈ d.windowsOf sl, d.badRec .window i = false) →
        (∀ i ∈ d.sessionsOf sl, d.badRec .session i = false) →
        (c.len < (d.savedState pf sl).length → ∀ b : Bool, exec (.sliceSave pf idx b) s =
          s.next (d.admEnd pf idx Sc.noResource (d.savedState pf sl).length)) ∧
        ((d.savedState pf sl).length ≤ c.len → exec (.sliceSave pf idx true) s =
            s.next ((d.hostData c.pf none c.buf (d.savedState pf sl)).admEnd c.pf c.idx Sc.ok (d.savedState pf sl).length) ∧
          exec (.sliceSave pf idx false) s = s.next (d.admEnd c.pf c.idx Sc.busError 0)))) ∧
    (s.dev.admReady pf idx 0x0306 c = true →
      (∀ (bs : List Byte) (rings : List (Nat × List (Nat × List (List Word)))) (b : List Byte), b = sliceBytes bs 0 c.len →
        d.badRec .slice sl = false →
        (sl = 0 ∨ d.sliceState sl ≠ 0 → exec (.sliceRestore pf idx (some bs) rings) s = s.next (d.admEnd pf idx 0x3E 0)) ∧
        (sl ≠ 0 → d.sliceState sl = 0 → d.adopting sl = false →
          (readSaved b = none →
            exec (.sliceRestore pf idx (some bs) rings) s = s.next (d.admEnd pf idx Sc.integrity 0)) ∧
          (∀ (h : List Word) (r : List (List (List Word))), readSaved b = some (h, r) →
            (savedOk h r = false →
              exec (.sliceRestore pf idx (some bs) rings) s = s.next (d.admEnd pf idx Sc.malformed 0)) ∧
            (savedOk h r = true → ∀ (dst pasid : Nat) (cs ss ms : List Nat), dst = c.arg / 2 ^ 20 % 2 ^ 18 →
              pasid = c.arg / 2 ^ 40 % 2 ^ 20 → cs = savedNums b 5 (r.getD 4 []).length (2 ^ 22) →
              ss = savedNums b 6 (r.getD 5 []).length (2 ^ 17) → ms = savedNums b 7 (r.getD 6 []).length 65536 →
              (∀ st : Nat, st = d.restoreStatus pf sl dst pasid h r cs ss ms → st ≠ Sc.ok →
                exec (.sliceRestore pf idx (some bs) rings) s = s.next (d.admEnd pf idx st 0)) ∧
              (d.restoreStatus pf sl dst pasid h r cs ss ms = Sc.ok → exec (.sliceRestore pf idx (some bs) rings) s =
                s.next ((d.restore pf sl dst pasid r cs ss ms rings).admEnd pf idx Sc.ok 0)))))) ∧
      (∀ rings, exec (.sliceRestore pf idx none rings) s = s.next (d.admEnd pf idx Sc.busError 0))) ∧
    (s.dev.admReady pf idx 0x0307 c = true →
      (d.sliceStatus pf sl [3] ≠ Sc.ok →
        exec (.sliceThaw pf idx) s = s.next (d.admEnd pf idx (d.sliceStatus pf sl [3]) 0)) ∧
      (sl ≠ 0 → d.adopting sl = false → d.badRec .slice sl = false → d.cg .slice sl Slc.OWNER = pf → d.sliceState sl = 3 →
        exec (.sliceThaw pf idx) s = s.next ((d.thaw sl).admEnd pf idx Sc.ok 0))) ∧
    (s.dev.admReady pf idx 0x0308 c = true → ∀ rings : List (Nat × List (Option (List Word))),
      (d.sliceStatus pf sl [1, 3] ≠ Sc.ok →
        exec (.sliceDestroy pf idx rings) s = s.next (d.admEnd pf idx (d.sliceStatus pf sl [1, 3]) 0)) ∧
      (sl ≠ 0 → d.adopting sl = false → d.badRec .slice sl = false → d.cg .slice sl Slc.OWNER = pf →
        (d.sliceState sl = 1 → exec (.sliceDestroy pf idx rings) s =
          s.next ((d.dropSlice pf sl true rings).admEnd pf idx Sc.ok 0)) ∧
        (d.sliceState sl = 3 → exec (.sliceDestroy pf idx rings) s =
          s.next ((d.dropSlice pf sl false rings).admEnd pf idx Sc.ok 0))))

/-- Queue commands create, stop, resume, destroy and read a queue from the states R373 accepts, and only from those.
In Run, for an admin command that may run. CREATE_QUEUE of a queue that exists ends with 0x24; of one that does not,
with a context that passes every check, writes the supplied words, sets STATE ACTIVE (STALLED on a CQ in ERROR), the
slice and the owner, clears what the device owns, sets HEAD_PHASE 1, joins CQ, slice and tree, and ends OK with the
queue ID as RESULT. QUIESCE_QUEUE and DESTROY_QUEUE of a queue of the function in a state they accept end its
outstanding jobs with ABORTED and set STATE QUIESCED; when no job waits for a tether they end with the number of jobs,
DESTROY_QUEUE after removing the queue, else they go on and end so when presented again; DESTROY_QUEUE of a CQ that a
queue names ends with 0x24. RESUME_QUEUE makes the queue ACTIVE with HEAD kept or set and no error, and rings it; a
HEAD outside the ring ends MALFORMED. QUERY_QUEUE writes the eight context words. In any other case they end with the
status of R373 and R380, with nothing else changed. Where a clause follows a choice or inference of the model and not
the spec, it is that of log entries 12, 61. Rests on R350, R373, R374 of 15_rings_and_admin_queue.md, R329 of
14_tenant_slices.md, R380 of 15_rings_and_admin_queue.md. -/
def Obligations.QueueCommandsCreateStopResumeAndReadQueues : Prop :=
  ∀ (s : State) (pf idx : Nat) (c : AdminCmd) (d : Dev), s.dev.acts = true → d = s.dev.admStart pf idx →
    (s.dev.admReady pf idx 0x0101 c = true →
      (∀ (bs : List Byte) (ws : List Word) (q : Nat), ws = toWords 8 (sliceBytes bs 0 c.len) → q = wget ws Qctx.QID →
        (d.qExists q = true → exec (.createQueue pf idx (some bs)) s = s.next (d.admEnd pf idx 0x24 0)) ∧
        (∀ (need : Bool) (e : Dev), d.qExists q = false → queueFormOk ws = true →
          need = decide (wget ws Qctx.KIND ≠ 3 ∧ wget ws Qctx.KIND ≠ 6) → need = false ∨ d.cqOk pf (wget ws Qctx.CQ) = true →
          d.sliceOfQ q = 0 ∨ d.cg .slice (d.sliceOfQ q) Slc.OWNER = pf →
          wget ws Qctx.KIND ≠ 1 ∨ wget ws Qctx.SCHED_NODE = 0xFFFF ∨ d.leafParentOk (wget ws Qctx.SCHED_NODE) (d.sliceOfQ q) = true →
          d.sliceState (d.sliceOfQ q) = 1 → d.inAdopt q = false → (d.queueBinding q).isSome = true → q ≠ 0 →
          need = false ∨ d.qf (wget ws Qctx.CQ) Qctx.ATTACHED + 2 ^ wget ws Qctx.SIZE_LOG2 ≤ d.qSize (wget ws Qctx.CQ) →
          e = (d.clearRec .queue q).setRec .queue q ws →
          exec (.createQueue pf idx (some bs)) s =
            s.next ((((([Qctx.ARMED, Qctx.HEAD, Qctx.QERR_CODE, Qctx.QERR_INDEX, Qctx.TAKEN, Qctx.ATTACHED, Qctx.JOBS,
              Qctx.DROPS].foldl (fun (d : Dev) f => d.setQf q f 0)
                (((e.setQf q Qctx.STATE (if need && decide (e.qstate (wget ws Qctx.CQ) = qError) then qStalled else qActive)).setQf q
                  Qctx.SLICE (d.sliceOfQ q)).setQf q Qctx.OWNER pf)).setQf q Qctx.HEAD_PHASE 1).joinQueue q).touch 4 q).admEnd
                    pf idx Sc.ok q))) ∧
      exec (.createQueue pf idx none) s = s.next (d.admEnd pf idx Sc.busError 0)) ∧
    (∀ (ents : List (Option (List Word))) (q n : Nat) (e f : Dev), q = c.arg % 2 ^ 18 →
      d.abortQueue q ents = (e, n) → f = (e.setQf q Qctx.STATE qQuiesced).touch 4 q →
      (s.dev.admReady pf idx 0x0102 c = true →
        (∀ st : Nat, st = d.queueStatus pf q [qActive, qError, qStalled] → st ≠ Sc.ok →
          exec (.quiesceQueue pf idx ents) s = s.next (d.admEnd pf idx st 0)) ∧
        (d.queueStatus pf q [qActive, qError, qStalled] = Sc.ok →
          (((f.qst q).map QSt.jobs).getD [] = [] → exec (.quiesceQueue pf idx ents) s = s.next (f.admEnd pf idx Sc.ok n)) ∧
          (((f.qst q).map QSt.jobs).getD [] ≠ [] → exec (.quiesceQueue pf idx ents) s =
            s.next (f.setAdm pf idx (fun (a : AdminCmd) => { a with count := n }))))) ∧
      (s.dev.admReady pf idx 0x0104 c = true →
        (∀ st : Nat, st = d.queueStatus pf q [qActive, qQuiesced, qError, qStalled] → st ≠ Sc.ok →
          exec (.destroyQueue pf idx ents) s = s.next (d.admEnd pf idx st 0)) ∧
        (d.queueStatus pf q [qActive, qQuiesced, qError, qStalled] = Sc.ok →
          (d.cqNamed q = true → exec (.destroyQueue pf idx ents) s = s.next (d.admEnd pf idx 0x24 0)) ∧
          (d.cqNamed q = false →
            (((f.qst q).map QSt.jobs).getD [] = [] →
              exec (.destroyQueue pf idx ents) s = s.next ((f.removeQueue q).admEnd pf idx Sc.ok n)) ∧
            (((f.qst q).map QSt.jobs).getD [] ≠ [] → exec (.destroyQueue pf idx ents) s =
              s.next (f.setAdm pf idx (fun (a : AdminCmd) => { a with count := n }))))))) ∧
    (∀ (a : AdminCmd) (q : Nat) (ents : List (Option (List Word))), q = a.arg % 2 ^ 18 →
      ((s.dev.qst q).map QSt.jobs).getD [] = [] →
      (s.dev.admin.find? (fun c => c.pf = pf && c.idx = idx && c.op = 0x0102 && c.started && c.done.isNone) = some a →
        exec (.quiesceQueue pf idx ents) s = s.next (s.dev.admEnd pf idx Sc.ok a.count)) ∧
      (s.dev.admin.find? (fun c => c.pf = pf && c.idx = idx && c.op = 0x0104 && c.started && c.done.isNone) = some a →
        exec (.destroyQueue pf idx ents) s = s.next ((s.dev.removeQueue q).admEnd pf idx Sc.ok a.count))) ∧
    (s.dev.admReady pf idx 0x0103 c = true → ∀ (q h : Nat) (e : Dev), q = c.arg % 2 ^ 18 → h = c.arg / 2 ^ 32 % 2 ^ 16 →
      (∀ st : Nat, st = d.queueStatus pf q [qQuiesced, qError] → st ≠ Sc.ok →
        exec (.resumeQueue pf idx) s = s.next (d.admEnd pf idx st 0)) ∧
      (d.queueStatus pf q [qQuiesced, qError] = Sc.ok →
        (c.arg / 2 ^ 49 % 2 = 0 → d.qSize q ≤ h → exec (.resumeQueue pf idx) s = s.next (d.admEnd pf idx Sc.malformed 0)) ∧
        (c.arg / 2 ^ 49 % 2 = 0 ∧ h < d.qSize q ∧
            e = ((d.setQf q Qctx.HEAD h).setQf q Qctx.HEAD_PHASE (c.arg / 2 ^ 48 % 2)).headMoved q ∨
          c.arg / 2 ^ 49 % 2 = 1 ∧ e = d →
          ∀ f : Dev, f = ((e.setQf q Qctx.STATE qActive).setQf q Qctx.QERR_CODE 0).setQf q Qctx.QERR_INDEX 0 →
          (f.qf q Qctx.KIND ≠ 3 →
            exec (.resumeQueue pf idx) s = s.next (((f.ringQ q).touch 4 q).admEnd pf idx Sc.ok 0)) ∧
          (f.qf q Qctx.KIND = 3 →
            exec (.resumeQueue pf idx) s = s.next ((((f.cqResumed q).ringQ q).touch 4 q).admEnd pf idx Sc.ok 0))))) ∧
    (s.dev.admReady pf idx 0x0105 c = true → ∀ q : Nat, q = c.arg % 2 ^ 18 →
      (d.qExists q = false → ∀ b : Bool, exec (.queryQueue pf idx b) s = s.next (d.admEnd pf idx 0x24 0)) ∧
      (d.qExists q = true → d.qf q Qctx.OWNER ≠ pf →
        ∀ b : Bool, exec (.queryQueue pf idx b) s = s.next (d.admEnd pf idx Sc.malformed 0)) ∧
      (d.qExists q = true → d.qf q Qctx.OWNER = pf → exec (.queryQueue pf idx true) s =
          s.next ((d.hostData c.pf none c.buf (ofWords (d.crec .queue q 8))).admEnd c.pf c.idx Sc.ok 0) ∧
        exec (.queryQueue pf idx false) s = s.next (d.admEnd c.pf c.idx Sc.busError 0)))

/-- Doorbells ring queues, a scan takes jobs, TX jobs are fetched and completed, RX packets are written, BACKEND
queues serve sub-commands. In Run. A doorbell write of 1 or more bytes below byte 8 of an open page of a function that
answers rings the admin queue (page 0) or the function's queue; any other on an open page counts DB_DISCARD, one on a
page that is not open is an unmapped access, and a function that does not answer takes none. A scan of a queue that is
not rung, cannot scan or waits in a takeover changes nothing; of a TX, RDMA_SQ or STOR_INIT queue it takes the
complete jobs read from HEAD and clears the ring, unless one cannot be taken yet, and a structural error stops the
queue with its code; of a BACKEND queue it clears the ring and answers the owned completions. A fetch of a granted TX
job, unless it stalls, pays its grant, sends its frames to the prism and records the bytes, or completes the job
BUS_ERROR when the read failed, MALFORMED when it gives no frame, SPOOF_DROP when enforcement dropped one. A fetched
job completes OK once its packets have passed the prism; a failed completion write stops the CQ in ERROR. A packet for
no RX queue counts NO_QUEUE; for a closed one, DROPS; for one that a patch holds, it waits; one that fits the offered
buffers is scattered over the fewest of them and completes as one job with its length. The oldest sub-command waiting
for a BACKEND queue is written to a free slot at HEAD, with a write's data, and occupies it; a failed write stops the
queue with code 0x08. A BACKEND timeout fails the sub-command, in its slot or waiting, and otherwise changes nothing.
Where a clause follows a choice or inference of the model and not the spec, it is that of log entries 60, 61 and 128.
Rests on R315 of 13_host_endpoint.md, R354, R355, R356, R358, R361, R362, R365, R367, R368, R371, R372 of
15_rings_and_admin_queue.md. -/
def Obligations.RingsAreRungScannedFetchedAndCompleted : Prop :=
  ∀ (s : State) (d : Dev), s.dev.acts = true → d = s.dev →
    (∀ pf q off n : Nat,
      (d.answers pf = false → exec (.hostDoorbell pf q off n) s = .next s) ∧
      (d.answers pf = true → d.pageOpen pf q = false →
        exec (.hostDoorbell pf q off n) s = s.next (d.hostUnmappedAt pf 2 (q * 4096 + off) true)) ∧
      (d.answers pf = true → d.pageOpen pf q = true → n = 0 ∨ 8 ≤ off →
        exec (.hostDoorbell pf q off n) s = s.next (d.hgBump pf Hg.DB_DISCARD)) ∧
      (d.answers pf = true → d.pageOpen pf q = true → n ≠ 0 → off < 8 →
        (q = 0 → exec (.hostDoorbell pf q off n) s = s.next (({ d with
          aqRung := if pf = 0 then (true, d.aqRung.2) else (d.aqRung.1, true) } : Dev).wakeUnit (epId pf))) ∧
        (q ≠ 0 → d.qExists q = true → d.qf q Qctx.OWNER = pf → exec (.hostDoorbell pf q off n) s = s.next (d.ringQ q)) ∧
        (q ≠ 0 → d.qExists q = false ∨ d.qf q Qctx.OWNER ≠ pf →
          exec (.hostDoorbell pf q off n) s = s.next (d.hgBump pf Hg.DB_DISCARD)))) ∧
    (∀ (q : Nat) (x : QSt) (ents : List (Option (List Word))) (aux : List (List Byte × List Byte)), d.qst q = some x →
      (x.rung = false ∨ d.canScan q = false ∨ d.twinState = 5 → exec (.queueScan q ents aux) s = .next s) ∧
      (x.rung = true → d.canScan q = true → d.twinState ≠ 5 →
        (d.qf q Qctx.KIND = 6 → exec (.queueScan q ents aux) s = s.next
          ((d.setQ q (fun (x : QSt) => { x with rung := false })).backScan q (ents.take (d.qSize q)) aux)) ∧
        (d.qf q Qctx.KIND = 2 → exec (.queueScan q ents aux) s = s.next
          ((d.setQ q (fun (x : QSt) => { x with rung := false })).rxReady q ents).1) ∧
        (d.qf q Qctx.KIND ≠ 2 → d.qf q Qctx.KIND ≠ 6 → ∀ (js : List Job) (err : Option (Nat × Nat)) (e : Dev),
          d.ringJobs q ents = (js, err) →
          (d.takeAll q js aux = (e, false) → exec (.queueScan q ents aux) s = s.next e.settleFetch) ∧
          (d.takeAll q js aux = (e, true) →
            (err = none → exec (.queueScan q ents aux) s =
              s.next (e.setQ q (fun (x : QSt) => { x with rung := false })).settleFetch) ∧
            (∀ code i : Nat, err = some (code, i) → code ≠ 0x07 → exec (.queueScan q ents aux) s = s.next
              ((e.setQ q (fun (x : QSt) => { x with rung := false })).qErr q code i).settleFetch) ∧
            (∀ i : Nat, err = some (0x07, i) → exec (.queueScan q ents aux) s = s.next
              (((e.setQ q (fun (x : QSt) => { x with rung := false })).qErr q 0x07 i).bumpk (dmaOf q)
                Dma.QUEUE_BUS_ERR).settleFetch))))) ∧
    (∀ (q : Nat) (j : Job) (data b : List Byte) (poison : Bool), d.grantedJob q = some j → d.qf q Qctx.KIND = 1 →
      b = sliceBytes data 0 (j.bytes 1) →
      (∀ ok : Bool, d.canFetch q = false → exec (.txJobFetch q data ok poison) s = .next s) ∧
      (d.canFetch q = true →
        (exec (.txJobFetch q data false poison) s = s.next (((d.payGrant q j 0).bumpk (dmaOf q) Dma.QUEUE_BUS_ERR).finishJob q
          j.idx Sc.busError (min data.length (j.bytes 1)) 0).settleFetch) ∧
        (txFrames (j.ents.getD 0 []) b = none → exec (.txJobFetch q data true poison) s =
          s.next ((d.payGrant q j 0).finishJob q j.idx Sc.malformed b.length 0).settleFetch) ∧
        (∀ (fs : List (List Byte)) (e : Dev), txFrames (j.ents.getD 0 []) b = some fs →
          (((d.payGrant q j fs.length).setJob q j.idx (fun (j : Job) => { j with moved := b.length })).txSend q j poison fs =
              (e, true) → exec (.txJobFetch q data true poison) s = s.next e.settleFetch) ∧
          (((d.payGrant q j fs.length).setJob q j.idx (fun (j : Job) => { j with moved := b.length })).txSend q j poison fs =
              (e, false) → exec (.txJobFetch q data true poison) s =
                s.next (e.finishJob q j.idx Sc.spoofDrop b.length 0).settleFetch)))) ∧
    (∀ (q : Nat) (x : QSt) (j : Job), d.qst q = some x → d.qf q Qctx.KIND = 1 →
      x.jobs.find? (fun (j : Job) => j.result.isNone && j.moved ≠ 0) = some j →
      (d.inPrism q j.idx = true → ∀ wr : Bool, exec (.txJobComplete q wr) s = .next s) ∧
      (d.inPrism q j.idx = false →
      exec (.txJobComplete q true) s = s.next (d.finishJob q j.idx Sc.ok j.moved 0) ∧
      (d.qstate (d.qf q Qctx.CQ) ≠ qError → exec (.txJobComplete q false) s = s.next
        (((d.cqError (d.qf q Qctx.CQ) (d.qf (d.qf q Qctx.CQ) Qctx.HEAD)).bumpk (dmaOf (d.qf q Qctx.CQ)) Dma.QUEUE_BUS_ERR).finishJob
          q j.idx Sc.ok j.moved 0)))) ∧
    (∀ (t q : Nat) (p : Pkt) (ents : List (Option (List Word))) (dataOk wr : Bool), d.sw.hostRx = [(q, p)] →
      d.heldByPatch q = true → exec (.rxPacketWrite t ents dataOk wr) s = .next s) ∧
    (∀ (t q : Nat) (p : Pkt) (r : List (Nat × Pkt)) (ents : List (Option (List Word))) (wr : Bool) (e : Dev),
      d.sw.hostRx = (q, p) :: r → q % 16 = t → d.heldByPatch q = false → d.takesWork (dmaId t) = true →
      d.qExists q = false ∨ d.quiet (d.qf q Qctx.OWNER) = false →
      e = { d with sw := { d.sw with hostRx := r } } →
      (e.qExists q = false ∨ e.qf q Qctx.KIND ≠ 2 →
        exec (.rxPacketWrite t ents true wr) s = s.next (e.bumpk (dmaOf q) Dma.NO_QUEUE)) ∧
      (e.qExists q = true → e.qf q Qctx.KIND = 2 →
        (e.rxUp q = false → exec (.rxPacketWrite t ents true wr) s = s.next (e.cadd .queue q Qctx.DROPS 1)) ∧
        (∀ (f : Dev) (good js : List Job) (j : Job), e.rxUp q = true →
          e.rxReady q ents = (f, good) → f.qf q Qctx.RX_META = 0 → bufsFor p.data.length good = some js → js ≠ [] →
          js.length ≤ 64 → p.poison = false →
          j = { idx := ((js.head?).map Job.idx).getD 0, ents := js.flatMap Job.ents, moved := 0, granted := false, grant := none
                result := none } →
          exec (.rxPacketWrite t ents true wr) s = s.next
            (((((f.scatter (f.qf q Qctx.OWNER) (f.qPasid q) (js.map (fun j => entBuf (j.ents.getD 0 []))) p.data).takeJob q j).cqGate q
              wr).cadd .queue q Qctx.JOBS (js.length - 1)).finishJob q j.idx Sc.ok p.data.length (rxFlagsOf p))))) ∧
    (∀ (q c i : Nat) (x : QSt) (r : List (Nat × Nat × Nat)), d.stor.backQ = (q, c, i) :: r → d.qst q = some x →
      d.qf q Qctx.KIND = 6 → d.canScan q = true → d.twinState ≠ 5 → x.slots.any (fun b => b.idx = d.qf q Qctx.HEAD) = false →
      (exec (.backendSubcommand q false) s = s.next ((d.qErr q 0x08 (d.qf q Qctx.HEAD)).bumpk (dmaOf q) Dma.QUEUE_BUS_ERR)) ∧
      (∀ (k : StCmd) (y : StSub) (e : Dev), e = { d with stor := { d.stor with backQ := r } } → e.stCmd c = some k →
        k.subs[i]? = some y → sqeOp k.sqe ≠ opWrite → exec (.backendSubcommand q true) s =
          s.next ((((e.used.hostPut (e.qf q Qctx.OWNER) (e.used.qPasid q) (e.used.qf q Qctx.RING_BASE + 32 * d.qf q Qctx.HEAD)
            (ofWords (backEntry k y (e.qf q Qctx.DATA_BASE + d.qf q Qctx.HEAD * 0x210000) (e.freeVal.toNat % 2 ^ 32)
              (e.used.qf q Qctx.HEAD_PHASE)))).advHead q 1).setQ q
                (fun (x : QSt) => { x with slots := x.slots ++ [{ idx := d.qf q Qctx.HEAD, tag := e.freeVal.toNat % 2 ^ 32
                                                                  cmd := c, part := i }] })).setQf q Qctx.TAKEN
                  (x.slots.length + 1)))) ∧
    (∀ (q c i : Nat) (x : QSt), d.qst q = some x →
      (x.slots.any (fun b => b.cmd = c && b.part = i) = true → exec (.backendTimeout q c i) s = s.next
        (((d.setQ q (fun (x : QSt) => { x with slots := x.slots.filter (fun b => !(b.cmd = c && b.part = i)) })).setQf q Qctx.TAKEN
          (x.slots.length - 1)).backFail c i)) ∧
      (x.slots.any (fun b => b.cmd = c && b.part = i) = false → d.stor.backQ.contains (q, c, i) = false →
        exec (.backendTimeout q c i) s = .next s))

/-- DMA channels start, read descriptors, move bursts by priority, complete, halt with the failing access latched, and
take CH_RETRY and CH_SKIP. In Run, for channel c of DMA tile t. CH_GO of an IDLE channel of a tile that takes work
clears its counts and error registers, enters RUNNING and reads the descriptor at CH_HEAD; otherwise OVERRUN is set
and nothing else. CH_STOP of a RUNNING channel with a current descriptor without write-back completes it with ABORTED
and goes to IDLE; of an IDLE channel, CH_RETRY and CH_SKIP outside HALTED set OVERRUN. CH_RETRY of a halted channel
resumes the descriptor from byte CH_DONE_BYTES, or reads the descriptor again that could not be read; CH_SKIP
completes the failed descriptor with its latched status, or goes to IDLE where it could not be read. A burst slot goes
to the ready requester of lowest priority number, the first in turn after the last served; a channel so chosen issues
a burst of the length of R390. A returned descriptor is started; a burst's data, read from the window for harness
space, is written out in order; one that returns with bad parity counts it and halts the channel with cause 6; a
returned flush read completes the descriptor. CHANNEL_HALT latches address, direction, space and cause, discards what
is outstanding, enters HALTED, counts CH_HALTS and raises event 0x0802. Where a clause follows a choice or inference
of the model and not the spec, it is that of log entries 64 and 149. Rests on R387 to R396 of 16_dma_engine.md. -/
def Obligations.ChannelsRunStopHaltAndGoOn : Prop :=
  ∀ (s : State) (d : Dev) (t c u : Nat), s.dev.acts = true → d = s.dev → u = chUnit t c →
    ((d.chState t c = 0 → d.takesWork (dmaId t) = true → ∀ e : Dev,
        e = (((((d.s u DmaCh.CH_STATUS_DESC_DONE 0).s u DmaCh.CH_DONE_BYTES_BYTES 0).s u DmaCh.CH_ERR_ADDR_ADDR 0).s u
          DmaCh.CH_ERR_DIR_DIR 0).s u DmaCh.CH_ERR_DIR_SPACE 0).s u DmaCh.CH_ERR_DIR_CAUSE 0 →
        ∀ f : Dev, f = ({ e with
          dma := { e.dma with
            chans := e.dma.chans ++
              [{ tile := t, ch := c, cur := none, fetch := [], issued := 0, bursts := [], flush := false }] } } : Dev).setChState
                t c 1 →
        exec (.chGo t c) s = s.next (((f.wakeUnit (dmaId t)).chFetch t c (f.g u DmaCh.CH_HEAD_ADDR * 32)).chNext t c)) ∧
      (d.chState t c ≠ 0 ∨ d.takesWork (dmaId t) = false →
        exec (.chGo t c) s = s.next (d.s u DmaCh.CH_STATUS_OVERRUN 1))) ∧
    ((d.chan t c = none → exec (.chStop t c) s = s.next (d.s u DmaCh.CH_STATUS_OVERRUN 1)) ∧
      (∀ (x : ChSt) (w : List Word) (e : Dev), d.chan t c = some x → d.chState t c = 1 → x.cur = some w → wget w Desc.WB = 0 →
        wget w Desc.EVT = 0 →
        e = (d.setChan t c (fun (x : ChSt) => { x with bursts := [], flush := false })).setChState t c 2 →
        exec (.chStop t c) s = s.next
          (((e.add u DmaCh.CH_STATUS_DESC_DONE 1).s u DmaCh.CH_STATUS_LAST_STATUS Sc.aborted).setChState t c 0))) ∧
    ((d.chState t c ≠ 3 → exec (.chRetry t c) s = s.next (d.s u DmaCh.CH_STATUS_OVERRUN 1) ∧
        exec (.chSkip t c) s = s.next (d.s u DmaCh.CH_STATUS_OVERRUN 1)) ∧
      (∀ e : Dev, d.chState t c = 3 → e = d.setChState t c 1 →
        (((e.chan t c).bind ChSt.cur = none →
          exec (.chRetry t c) s = s.next ((e.chFetch t c (e.g u DmaCh.CH_ERR_ADDR_ADDR)).chNext t c) ∧
          exec (.chSkip t c) s = s.next (e.setChState t c 0)) ∧
        (∀ w : List Word, (e.chan t c).bind ChSt.cur = some w →
          exec (.chSkip t c) s = s.next ((e.chRefetch t c w).chComplete t c (e.g u DmaCh.CH_STATUS_LAST_STATUS) w) ∧
          (descBad w = false → (e.chRefetch t c w).g u DmaCh.CH_DONE_BYTES_BYTES < wget w Desc.LEN →
            exec (.chRetry t c) s = s.next ((e.chRefetch t c w).setChan t c (fun (x : ChSt) => { x with
              issued := (e.chRefetch t c w).g u DmaCh.CH_DONE_BYTES_BYTES }))))))) ∧
    (∀ (queue : Bool) (R : Nat → Bool) (P : Nat → Nat) (last : Nat),
      R = (fun r => if r = 16 then queue else d.chReady t r) →
      P = (fun r => if r = 16 then d.gk (dmaId t) Dma.DMA_CFG_QUEUE_PRIO else d.g (chUnit t r) DmaCh.CH_CFG_PRIO) →
      last = ((d.dma.rr.find? (fun x => x.1 = t)).map (fun x => x.2)).getD 16 →
      ((∀ r < 17, R r = false) → exec (.dmaBurst t queue) s = .next s) ∧
      (∀ (i r : Nat) (e : Dev), i < 17 → r = (last + 1 + i) % 17 → R r = true → (∀ q < 17, R q = true → P r ≤ P q) →
        (∀ j < i, R ((last + 1 + j) % 17) = true → P r < P ((last + 1 + j) % 17)) →
        e = { d with dma := { d.dma with rr := d.dma.rr.filter (fun (x : Nat × Nat) => x.1 ≠ t) ++ [(t, r)] } } →
        ∀ (x : ChSt) (w : List Word), e.chan t r = some x → x.cur = some w → r ≠ 16 →
          exec (.dmaBurst t queue) s = s.next ((e.setChan t r (fun (y : ChSt) => { y with
            issued := y.issued + burstLen w x.issued
            bursts := y.bursts ++ [{ off := x.issued, len := burstLen w x.issued, data := none
                                     bad := e.accessBad (wget w Desc.SRC_SPACE) (descSrc w x.issued) (burstLen w x.issued) }] })).chGo
              t r))) ∧
    (∀ (x : ChSt) (f : ChFetch) (ws : List Word), d.chan t c = some x → d.chState t c = 1 →
      x.fetch.find? (fun y => y.words.isNone && y.bad.isNone) = some f →
      exec (.descriptorReadReturn t c (ws, false)) s = s.next ((d.meshErr (dmaId t) f.addr).fetchReturn t c none (some 6)) ∧
      exec (.descriptorReadReturn t c (ws, true)) s = s.next ((d.setChan t c (fun (x : ChSt) => { x with
        fetch := x.fetch.map (fun (y : ChFetch) => if y.words.isNone && y.bad.isNone then { y with
          words := some (if d.g u DmaCh.CH_CFG_DESC_SPACE = 0 then toWords 4 (d.windowRead f.addr 32)
            else (List.range 4).map (fun i => ws.getD i 0))
          bad := none } else y) })).chNext t c)) ∧
    (∀ (x : ChSt) (w : List Word) (b : ChBurst) (data : List Byte), d.chan t c = some x → d.chState t c = 1 → x.cur = some w →
      x.bursts.find? (fun y => y.off = b.off) = some b →
      exec (.burstReadReturn t c b.off (data, false)) s =
        s.next ((d.meshErr (dmaId t) (descSrc w b.off)).burstReturn t c b.off none (some 6)) ∧
      exec (.burstReadReturn t c b.off (data, true)) s = s.next ((d.setChan t c (fun (x : ChSt) => { x with
        bursts := x.bursts.map (fun (y : ChBurst) => if y.off = b.off && y.data.isNone && y.bad.isNone then { y with
          data := some (if wget w Desc.SRC_SPACE = 0 then d.windowRead (descSrc w b.off) b.len else data)
          bad := none } else y) })).chGo t c)) ∧
    (∀ (x : ChSt) (w : List Word), d.chan t c = some x → d.chState t c = 1 → x.cur = some w →
      (x.flush = true → exec (.flushReadReturn t c) s =
        s.next ((d.setChan t c (fun (x : ChSt) => { x with flush := false })).chComplete t c Sc.ok w)) ∧
      (x.flush = false → exec (.flushReadReturn t c) s = .next s) ∧
      (∀ cause : Nat, cause ≠ 0 → x.flush = true → ∀ (e : Dev) (a st : Nat), a = lastBurst w (wget w Desc.LEN) 0 →
        st = (if cause = 6 then Sc.integrity else Sc.busError) →
        e = ((((d.s u DmaCh.CH_ERR_ADDR_ADDR a).s u DmaCh.CH_ERR_DIR_DIR 5).s u DmaCh.CH_ERR_DIR_SPACE (wget w Desc.DST_SPACE)).s u
          DmaCh.CH_ERR_DIR_CAUSE cause).setChan t c (fun (x : ChSt) => { x with
            bursts := []
            flush := false
            fetch := x.fetch.filter (fun (f : ChFetch) => f.words.isSome) }) →
        exec (.channelHalt t c 5 cause 0) s = s.next ((((e.s u DmaCh.CH_STATUS_LAST_STATUS st).setChState t c 3).bumpk (dmaId t)
          Dma.CH_HALTS).chEvent t c 0x0802 st))) ∧
    (d.chan t c = none → ∀ dir cause off : Nat, exec (.channelHalt t c dir cause off) s = .next s)

/-- The arbiter records the oldest presented event, EQ_CONS is stored only in range, HOLD and the queue commands act
as their rules say. In Run. The arbiter's clock steps: a step up sets FAST and counts, a step down clears FAST unless
FAST_FORCE bars it. Accepting the oldest presented event: one that must wait goes to the pending store; one whose
target names no ACTIVE queue, or a private queue from a shared source, is discarded and counts EVT_NO_EQ; any other is
recorded in its target, EVT_SEQ and EVT_ACCEPTED rise by one and the queue's write position moves on by one modulo its
size; none presented, nothing happens. A write of EQ_CONS is stored if its value lies from the stored EQ_CONS forward
to WR_POS modulo the size, then a queue left non-empty signals and waiting entries are presented; any other value is
not stored and counts EVT_BAD_CONS. HOLD 1 is stored; HOLD 0 also presents waiting entries. Enabling a disabled
management-core queue sets its positions to the start; disabling makes it not VALID. EQ_CREATE of a free number with a
valid context fills it; EQ_DESTROY of one that a CQ or the admin queue names, or that does not exist, ends 0x24, in a
frozen slice 0x3E, else removes it; EQ_QUERY writes its context. Where a clause follows a choice or inference of the
model and not the spec, it is that of log entries 2, 12. Rests on R401, R402, R405, R407 to R411, R413 of
17_events_and_interrupts.md, R380 of 15_rings_and_admin_queue.md. -/
def Obligations.EventsAreAcceptedHeldConsumedAndQueuesManaged : Prop :=
  ∀ (s : State) (d : Dev), s.dev.acts = true → d = s.dev →
    ((d.on rootId Root.EVT_STATUS_FAST = false →
        exec .arbiterStepUp s = s.next ((d.s rootId Root.EVT_STATUS_FAST 1).bump Root.EVT_FAST_STEPS)) ∧
      (d.on rootId Root.EVT_STATUS_FAST = true → exec .arbiterStepUp s = .next s) ∧
      (d.on rootId Root.EVT_GLOBAL_FAST_FORCE = false → exec .arbiterStepDown s = s.next (d.s rootId Root.EVT_STATUS_FAST 0)) ∧
      (d.on rootId Root.EVT_GLOBAL_FAST_FORCE = true → exec .arbiterStepDown s = .next s)) ∧
    ((d.ev.presented = [] → exec .eventAccept s = .next s) ∧
      (∀ (x : Ev) (r : List Ev) (e : Dev) (o q : Nat), d.ev.presented = x :: r →
        e = { d with ev := { d.ev with presented := r } } → (e.target x).2 = (o, q) →
        (e.mustWait x = true → exec .eventAccept s = s.next (e.wait x)) ∧
        (e.mustWait x = false →
          (e.eqValid o q = false ∨ x.dest = .routed ∧ o = 2 ∧ 1016 ≤ q →
            exec .eventAccept s = s.next (e.bump Root.EVT_NO_EQ)) ∧
          (e.eqValid o q = true → x.dest ≠ .routed ∨ o ≠ 2 ∨ q < 1016 → exec .eventAccept s = s.next (e.record x o q))))) ∧
    (∀ (o q v n c w : Nat), n = d.eqSize o q → c = d.g (eqUnit o q) Eqb.EQ_CONS_CONS →
      w = d.g (eqUnit o q) Eqb.EQ_STATUS_WR_POS →
      (n ≤ v ∨ (w + n - c) % n < (v + n - c) % n → exec (.eqCons o q v) s = s.next (d.bump Root.EVT_BAD_CONS)) ∧
      (v < n → (v + n - c) % n ≤ (w + n - c) % n → ∀ e : Dev, e = (d.s (eqUnit o q) Eqb.EQ_CONS_CONS v).syncFull o q →
        (e.eqEmpty o q = true ∨ e.eqValid o q = false → exec (.eqCons o q v) s = s.next (e.presentFor o q)) ∧
        (e.eqEmpty o q = false → e.eqValid o q = true →
          exec (.eqCons o q v) s = s.next ((e.signalEq o q).presentFor o q)))) ∧
    (exec (.evtGlobalHold true) s = s.next (d.s rootId Root.EVT_GLOBAL_HOLD 1) ∧
      exec (.evtGlobalHold false) s = s.next ((d.s rootId Root.EVT_GLOBAL_HOLD 0).presentWaiting (fun _ => true))) ∧
    (∀ (q : Nat) (u : Nat), u = eqUnit 2 q →
      (d.on u Eqb.EQ_CFG_ENABLE = false → exec (.eqCfgEnable q true) s =
        s.next ((((((d.s u Eqb.EQ_CFG_ENABLE 1).s u Eqb.EQ_STATUS_WR_POS 0).s u Eqb.EQ_CONS_CONS 0).s u Eqb.EQ_STATUS_WR_PHASE 1).s
          u Eqb.EQ_STATUS_VALID 1).syncFull 2 q)) ∧
      (d.on u Eqb.EQ_CFG_ENABLE = true → exec (.eqCfgEnable q false) s =
        s.next (((d.s u Eqb.EQ_CFG_ENABLE 0).s u Eqb.EQ_STATUS_VALID 0).presentFor 2 q)) ∧
      (∀ en : Bool, d.on u Eqb.EQ_CFG_ENABLE = en → exec (.eqCfgEnable q en) s = .next s)) ∧
    (∀ (pf idx : Nat) (c : AdminCmd) (e : Dev) (q : Nat), e = d.admStart pf idx → q = c.arg % 2 ^ 10 →
      (d.admReady pf idx 0x0201 c = true →
        (∀ (bs : List Byte) (ws : List Word), ws = toWords 8 (sliceBytes bs 0 c.len) →
          (e.eqValid pf q = true → exec (.eqCreate pf idx (some bs)) s = s.next (e.admEnd pf idx 0x24 0)) ∧
          (e.eqValid pf q = false → eqFormOk ws = true → q ≠ 0 ∨ wget ws EqC.SLICE = 0 →
            e.sliceCheck pf (wget ws EqC.SLICE) Slc.USED_EQS Slc.MAX_EQS = Sc.ok → exec (.eqCreate pf idx (some bs)) s =
              s.next (((e.putEq pf q ws false).sliceInc (wget ws EqC.SLICE) Slc.USED_EQS).admEnd pf idx Sc.ok 0))) ∧
        exec (.eqCreate pf idx none) s = s.next (e.admEnd pf idx Sc.busError 0)) ∧
      (d.admReady pf idx 0x0202 c = true →
        (e.eqValid pf q = false ∨ e.eqNamed pf q = true → exec (.eqDestroy pf idx) s = s.next (e.admEnd pf idx 0x24 0)) ∧
        (e.eqValid pf q = true → e.eqNamed pf q = false →
          (e.sliceFrozen (e.cg .hostEq (pf * 1024 + q) EqC.SLICE) = true →
            exec (.eqDestroy pf idx) s = s.next (e.admEnd pf idx 0x3E 0)) ∧
          (e.sliceFrozen (e.cg .hostEq (pf * 1024 + q) EqC.SLICE) = false →
            exec (.eqDestroy pf idx) s = s.next ((e.removeEq pf q).admEnd pf idx Sc.ok 0)))) ∧
      (d.admReady pf idx 0x0203 c = true →
        (e.eqValid pf q = true → exec (.eqQuery pf idx true) s =
            s.next ((e.hostData c.pf none c.buf (ofWords (e.eqContext pf q))).admEnd c.pf c.idx Sc.ok 0) ∧
          exec (.eqQuery pf idx false) s = s.next (e.admEnd c.pf c.idx Sc.busError 0)) ∧
        (e.eqValid pf q = false → ∀ b : Bool, exec (.eqQuery pf idx b) s = s.next (e.admEnd pf idx 0x24 0))))

/-- LOCK_REL and LOCK_BREAK free a lock or count LOCK_FOREIGN; mailbox messages are sent, cancelled, latched, released
and time out; LOCK_TRY grants. In Run. LOCK_REL by the holder of a held lock clears HELD and BROKEN and keeps HOLDER;
by another agent or to a free lock it only counts LOCK_FOREIGN. LOCK_BREAK by a management core frees a held lock with
BROKEN 1 and counts LOCK_BROKEN; by another agent or to a free lock it only counts LOCK_FOREIGN. LOCK_TRY by an agent
on a free lock sets HELD and HOLDER, raises GEN and returns the word; on a held one it returns the word with GRANTED 0
and OWN telling whether the reader holds it, and counts LOCK_CONTENDED if not; another reader gets nothing. SEND,
CANCEL: by an agent that is not the sender they only count MBX_FOREIGN; SEND to a full channel, CANCEL to an empty or
latched one set OVERRUN; else SEND sets FULL, clears LAST, counts and appends the message with a timer of MBX_TIMEOUT,
with an event where the mailbox was empty and EVT_EN is 1, and CANCEL takes the message out with LAST 2. SENDER is
stored only for the receiving core, an agent's number or 0, and FULL 0. A read of RX_MSG_0 returns word 0 of the head
message and for the receiving core latches it; a read of RX_MSG_7 returns word 7 and for the receiving core releases
the latched message with LAST 1. The end of the timer of a message whose time has come sets TIMEOUT with the
receiver's state and counts MBX_TIMEOUTS; of one whose time has not come, or whose timer has stopped, it changes
nothing. Rests on R428, R430. -/
def Obligations.MailboxesDeliverAndLocksAreGrantedAndFreed : Prop :=
  ∀ (s : State) (d : Dev), s.dev.acts = true → d = s.dev →
    (∀ agent n u : Nat, u = lockUnit n →
      (d.on u Lock.LOCK_STATE_HELD = true → d.g u Lock.LOCK_STATE_HOLDER = agent → exec (.lockRel agent n) s =
        s.next ((d.s u Lock.LOCK_STATE_HELD 0).s u Lock.LOCK_STATE_BROKEN 0)) ∧
      (d.on u Lock.LOCK_STATE_HELD = false ∨ d.g u Lock.LOCK_STATE_HOLDER ≠ agent →
        exec (.lockRel agent n) s = s.next (d.bump Root.LOCK_FOREIGN)) ∧
      (isCore agent = true → d.on u Lock.LOCK_STATE_HELD = true → exec (.lockBreak agent n) s =
        s.next (((d.s u Lock.LOCK_STATE_HELD 0).s u Lock.LOCK_STATE_BROKEN 1).bump Root.LOCK_BROKEN)) ∧
      (isCore agent = false ∨ d.on u Lock.LOCK_STATE_HELD = false →
        exec (.lockBreak agent n) s = s.next (d.bump Root.LOCK_FOREIGN)) ∧
      (isAgent agent = false → exec (.lockTry agent n) s = .next s) ∧
      (isAgent agent = true → d.on u Lock.LOCK_STATE_HELD = false → ∀ e : Dev,
        e = ((d.s u Lock.LOCK_STATE_HELD 1).s u Lock.LOCK_STATE_HOLDER agent).add u Lock.LOCK_STATE_GEN 1 →
        exec (.lockTry agent n) s = s.next (e.emit (.readData (e.lockWord n)))) ∧
      (isAgent agent = true → d.on u Lock.LOCK_STATE_HELD = true →
        (d.g u Lock.LOCK_STATE_HOLDER = agent → exec (.lockTry agent n) s =
          s.next (d.emit (.readData (putBits (putBits (d.lockWord n) 31 1 0) 29 1 1)))) ∧
        (d.g u Lock.LOCK_STATE_HOLDER ≠ agent → exec (.lockTry agent n) s =
          s.next ((d.bump Root.LOCK_CONTENDED).emit (.readData (putBits (putBits (d.lockWord n) 31 1 0) 29 1 0)))))) ∧
    (∀ agent m c u : Nat, u = mbxUnit m c →
      (isAgent agent = false ∨ d.g u MbxCh.CH_CTL_SENDER ≠ agent →
        exec (.send agent m c) s = s.next (d.bump Root.MBX_FOREIGN) ∧
        exec (.cancel agent m c) s = s.next (d.bump Root.MBX_FOREIGN)) ∧
      (isAgent agent = true → d.g u MbxCh.CH_CTL_SENDER = agent →
        (d.on u MbxCh.CH_STAT_FULL = true → exec (.send agent m c) s = s.next (d.s u MbxCh.CH_STAT_OVERRUN 1)) ∧
        (d.on u MbxCh.CH_STAT_FULL = false → ∀ e f : Dev,
          e = (((d.s u MbxCh.CH_STAT_FULL 1).s u MbxCh.CH_STAT_LAST 0).add u MbxCh.CH_STAT_SENT 1).bump Root.MBX_SENT →
          f = ({ e with mbx := e.mbx ++ [{ box := m, ch := c, us := e.g rootId Root.MBX_TIMEOUT_US
                                           due := some (e.time + 1000 * e.g rootId Root.MBX_TIMEOUT_US) }] } : Dev).syncBox m →
          (d.boxMsgs m = [] → f.on (mrxUnit m) MbxRx.RX_CFG_EVT_EN = true →
            exec (.send agent m c) s = s.next (f.boxEvent (boxCore m) m)) ∧
          (d.boxMsgs m ≠ [] ∨ f.on (mrxUnit m) MbxRx.RX_CFG_EVT_EN = false → exec (.send agent m c) s = s.next f)) ∧
        (d.on u MbxCh.CH_STAT_FULL = false ∨ d.latchedAt m c = true →
          exec (.cancel agent m c) s = s.next (d.s u MbxCh.CH_STAT_OVERRUN 1)) ∧
        (d.on u MbxCh.CH_STAT_FULL = true → d.latchedAt m c = false → ∀ e : Dev,
          e = (d.s u MbxCh.CH_STAT_FULL 0).s u MbxCh.CH_STAT_LAST 2 → exec (.cancel agent m c) s =
          s.next (({ e with mbx := e.mbx.filter (fun (x : MbxMsg) => !(x.box = m && x.ch = c)) } : Dev).syncBox m))) ∧
      (∀ v : Nat,
        (agent = boxCore m → d.on u MbxCh.CH_STAT_FULL = false → v = 0 ∨ isAgent v = true →
          exec (.senderWrite agent m c v) s = s.next (d.s u MbxCh.CH_CTL_SENDER v)) ∧
        (agent ≠ boxCore m ∨ d.on u MbxCh.CH_STAT_FULL = true ∨ v ≠ 0 ∧ isAgent v = false →
          exec (.senderWrite agent m c v) s = .next s)) ∧
      (d.mbx.any (fun x => x.box = m && x.ch = c && d.msgLate x) = false → exec (.mailboxTimeout m c) s = .next s) ∧
      (d.mbx.any (fun x => x.box = m && x.ch = c && d.msgLate x) = true → isCore (d.g u MbxCh.CH_CTL_SENDER) = false →
        ∀ e f : Dev, e = (d.armMsg m c false).s u MbxCh.CH_STAT_TIMEOUT 1 →
          f = e.s u MbxCh.CH_STAT_RCV_STATE (d.ust (boxCore m)) → exec (.mailboxTimeout m c) s =
          s.next ((f.s u MbxCh.CH_STAT_RCV_REST (if f.gait (regionOf (boxCore m)) = 0 then 1 else 0)).bump Root.MBX_TIMEOUTS))) ∧
    (∀ (agent m : Nat) (e f : Dev), e = d.emit (.readData (d.rxMsg m 0)) → f = d.emit (.readData (d.rxMsg m 7)) →
      (agent ≠ boxCore m → exec (.mailboxLatch agent m) s = s.next e ∧ exec (.mailboxRelease agent m) s = s.next f) ∧
      (d.boxMsgs m = [] → exec (.mailboxLatch agent m) s = s.next e ∧ exec (.mailboxRelease agent m) s = s.next f) ∧
      (∀ (x : MbxMsg) (r : List MbxMsg), d.boxMsgs m = x :: r → agent = boxCore m →
        exec (.mailboxLatch agent m) s = s.next ((e.s (mrxUnit m) MbxRx.RX_STATUS_LATCHED 1).armMsg m x.ch false) ∧
        ((e.s (mrxUnit m) MbxRx.RX_STATUS_LATCHED 1).armMsg m x.ch false).mbx = d.mbx.map (fun (y : MbxMsg) =>
          if y.box = m && y.ch = x.ch then { y with due := none } else y) ∧
        (f.boxLatched m = true → exec (.mailboxRelease agent m) s =
          s.next (((f.s (mrxUnit m) MbxRx.RX_STATUS_LATCHED 0).takeMsg m x.ch 1).bump Root.MBX_DELIVERED)) ∧
        (f.boxLatched m = false → exec (.mailboxRelease agent m) s = s.next f)))

/-- Regions change gait, stand, rest and wake by R442 to R445, and the temperature, credit, wear and clock commands
act as their rules say. In Run. A window end runs the governor over the 19 regions in order; for one it lowers at once
to the ceiling where that lies below, or to a sleeping gait where the ceiling is none to run at, steps up below the
floor while busy, keeps still under FREEZE, steps up at 900 per mille or under pressure below the ceiling, and steps
down only when the lower clock carries the load. A gait change that ends makes the region run at the asked gait,
unless that lies above the ceiling by then; with none asked nothing happens. A region at Trot or above without work
and without a wake pending stands; such a one at Stand or Walk rests unless barred; a sleeping region wakes to its
wake gait within floor and ceiling, never below Walk, and sleeps on under a ceiling below Walk. A sample stores the
temperatures, runs the gradient and limit rules and sets the refresh rate. A credit window changes the credit by
34,000 uJ less the energy, within 0 and 1,500 J, locks Gallop at 0 and frees it at 300 J. A second counts powered
time, KEEP_TIME, Gallop time and the bin of the hottest region, then applies the share lockout. A good checkpoint
writes the ledger to the next flash copy and a failed one raises an event. XKEEP_FAIL sets its bit, with an event in
Run, XKEEP_RETURN clears it, whatever the state; the loss of NREFCLK sets NO_REF and its return clears it. Where a
clause follows a choice or inference of the model and not the spec, it is that of log entries 7 to 11, and 109. Rests
on R436, R438, R441 to R445, R447, R448, R450, R451, R454, R457 of 19_gaits_clocks_power.md, R570 of
25_electrical_and_package.md. -/
def Obligations.RegionsStepRestWakeHeatAndWear : Prop :=
  (∀ (s : State) (d : Dev), s.dev.acts = true → d = s.dev →
    (∀ (busy : List Nat) (pr : List Bool), exec (.governorWindow busy pr) s = s.next
      ((List.range 19).foldl (fun (d : Dev) r => d.governRegion r (busy.getD r 0) (pr.getD r false)) d.syncGallop)) ∧
    (∀ (r u : Nat) (p : Bool),
      (d.gait r < 2 → d.governRegion r u p = d) ∧
      (2 ≤ d.gait r → d.regionCeil r < d.gait r → d.governRegion r u p = (d.setRegion r (fun (x : RegionSt) => { x with
        step := none, upWaits := false, lowRun := 0 })).setGait r (forcedGait (d.gait r) (d.regionCeil r))) ∧
      (2 ≤ d.gait r → d.gait r ≤ d.regionCeil r → d.gait r < d.regionFloor r → 0 < u →
        d.governRegion r u p = d.askStep r (d.gait r + 1)) ∧
      (2 ≤ d.gait r → d.gait r ≤ d.regionCeil r → d.regionFloor r ≤ d.gait r → d.on rootId Root.GOV_CTL_FREEZE = true →
        d.governRegion r u p = d) ∧
      (2 ≤ d.gait r → d.gait r < d.regionCeil r → d.regionFloor r ≤ d.gait r → d.on rootId Root.GOV_CTL_FREEZE = false →
        p = true ∨ 900 ≤ u → d.governRegion r u p = d.askStep r (d.gait r + 1))) ∧
    (∀ r : Nat,
      ((d.region r).step = none → exec (.gaitChangeDone r) s = .next s) ∧
      (∀ g : Nat, (d.region r).step = some g → (d.region r).upWaits = false → r < 19 → g ≤ 5 →
        (g ≤ d.gait r ∨ g ≤ d.regionCeil r → ∃ e : Dev, exec (.gaitChangeDone r) s = s.next e ∧ e.gait r = g) ∧
        (d.gait r < g → d.regionCeil r < g → exec (.gaitChangeDone r) s =
          s.next (d.setRegion r (fun (x : RegionSt) => { x with step := none, upWaits := false })))) ∧
      (d.restful r = false ∨ d.gait r < 3 → exec (.regionStand r) s = .next s) ∧
      (d.restful r = true → 3 ≤ d.gait r → exec (.regionStand r) s = s.next ((d.setGait r 1).setRegion r
        (fun (x : RegionSt) => { x with step := none, upWaits := false, lowRun := 0 }))) ∧
      (d.restful r = false ∨ d.restBarred r = true ∨ d.gait r ≠ 1 ∧ d.gait r ≠ 2 → exec (.regionRest r) s = .next s) ∧
      (d.restful r = true → d.restBarred r = false → d.gait r = 1 ∨ d.gait r = 2 → exec (.regionRest r) s = s.next
        ((d.setGait r 0).setRegion r (fun (x : RegionSt) => { x with step := none, upWaits := false, lowRun := 0 }))) ∧
      (d.gait r < 2 → d.regionCeil r < 2 → exec (.regionWake r) s = .next s) ∧
      (∀ e : Dev, e = d.setRegion r (fun (x : RegionSt) => { x with wakeReq := false }) →
        (2 ≤ d.gait r → exec (.regionWake r) s = s.next e) ∧
        (d.gait r < 2 → 2 ≤ d.regionCeil r → exec (.regionWake r) s = s.next ((e.setGait r (min (e.regionCeil r) (max (max 2 (e.regionFloor r))
          (e.region r).wakeGait))).takeBells (regionUnits r))))) ∧
    (∀ (temps hbm : List Nat) (e f : Dev),
      e = (List.range 19).foldl (fun (d : Dev) r => d.gradRule temps r)
        ((List.range 19).foldl (fun (d : Dev) r => d.s (regionUnit r) Region.REG_STATUS_TJ (min 150 (temps.getD r 0))) d) →
      f = (List.range 19).foldl (fun (d : Dev) r => d.limitRule r (if r = 18 then
        hbm.foldl (fun m t => if 105 ≤ t then max m t else m) (temps.getD 18 0) else temps.getD r 0)) e →
      exec (.tempSample temps hbm) s = s.next { f with
        power := { f.power with
          fastRefresh := (List.range 2).map (fun i => refreshFast (f.power.fastRefresh.getD i false) (hbm.getD i 0)) } }) ∧
    (∀ (p c : Nat) (e : Dev), c = min 1500000000 (d.power.creditUj + 34000 - 10 * p) →
      e = (({ d with power := { d.power with creditUj := c } } : Dev).s rootId Root.PWR_STATUS_POWER p).s rootId
        Root.GALLOP_CREDIT_MJ (c / 1000) →
      (c = 0 → e.on rootId Root.GOV_STATUS_CREDIT_LOCK = false → exec (.gallopCreditWindow p) s =
        s.next (((e.s rootId Root.GOV_STATUS_CREDIT_LOCK 1).raise rootId 0x0C01 0 1).syncGallop)) ∧
      (e.on rootId Root.GOV_STATUS_CREDIT_LOCK = true → 300000000 ≤ c → exec (.gallopCreditWindow p) s =
        s.next ((e.s rootId Root.GOV_STATUS_CREDIT_LOCK 0).syncGallop)) ∧
      (e.on rootId Root.GOV_STATUS_CREDIT_LOCK = true → c < 300000000 →
        exec (.gallopCreditWindow p) s = s.next e.syncGallop) ∧
      (e.on rootId Root.GOV_STATUS_CREDIT_LOCK = false → c ≠ 0 → exec (.gallopCreditWindow p) s = s.next e.syncGallop)) ∧
    (∀ (hot : Nat) (e f : Dev),
      hot = (List.range 19).foldl (fun m r => max m (d.g (regionUnit r) Region.REG_STATUS_TJ)) 0 →
      e = (d.add rootId Root.WEAR_POWERED_S_S 1).add rootId Root.KEEP_TIME_TICKS 32768 →
      (∃ r < 19, e.gait r = 5) ∧ f = e.add rootId Root.WEAR_GALLOP_S_S 1 ∨ (∀ r < 19, e.gait r ≠ 5) ∧ f = e →
      ∀ g : Dev, g = (f.add rootId (Root.WEAR_TBIN_S (wearBin hot)) 1).s rootId Root.WEAR_TJ_PEAK_C
        (max hot ((f.add rootId (Root.WEAR_TBIN_S (wearBin hot)) 1).g rootId Root.WEAR_TJ_PEAK_C)) →
      exec .wearSecond s = s.next (g.s rootId Root.WEAR_LIFE_PPM_PPM g.lifePpm).shareRule.syncGallop) ∧
    (∀ e : Dev, e = (d.s rootId Root.WEAR_CHECKPOINT_S (d.g rootId Root.WEAR_POWERED_S_S)) →
      exec (.ledgerCheckpoint true) s = s.next { e.writeMem .flash (ledgerFlash e.power.ledgerNext) (ofWords e.ledger) with
        power := { (e.writeMem .flash (ledgerFlash e.power.ledgerNext) (ofWords e.ledger)).power with
          ledgerNext := 1 - (e.writeMem .flash (ledgerFlash e.power.ledgerNext) (ofWords e.ledger)).power.ledgerNext } }) ∧
    exec (.ledgerCheckpoint false) s = s.next (d.raise rootId 0x0C06 0 0) ∧
    exec .nrefclkLoss s = s.next (d.s rootId Root.GOV_STATUS_NO_REF 1) ∧
    exec .nrefclkRestored s = s.next (d.s rootId Root.GOV_STATUS_NO_REF 0)) ∧
  (∀ (s : State) (e : Dev), e = s.dev.s rootId Root.KEEP_STATUS_XKEEP_FAIL 1 →
    exec .xkeepReturn s = s.next (s.dev.s rootId Root.KEEP_STATUS_XKEEP_FAIL 0) ∧
    (s.dev.on rootId Root.KEEP_STATUS_XKEEP_FAIL = true → exec .xkeepFail s = .next s) ∧
    (s.dev.on rootId Root.KEEP_STATUS_XKEEP_FAIL = false →
      (e.acts = true → exec .xkeepFail s = s.next (e.raise rootId 0x0C05 0 0)) ∧
      (e.acts = false → exec .xkeepFail s = s.next e)))

/-- Power, keeper and device resets keep fuses, flash and the keeper's registers alone, and Hold is entered, refused
and left as R453 says. Whatever the device does: a fall of PWR_GOOD seals it (in Sealed standby it only arms the next
rise), and releases THERMTRIP_N; a brownout in Run or Hold seals it with cause 5; a keeper reset seals it, disarms
THERMTRIP and keeps no register cell but those of pins; THERMTRIP in Run or Hold drives its pin and TWIN_ALIVE_O low,
sets its cause bit, counts and stops the device; a rise of PWR_GOOD that does not count changes nothing, one that
counts boots the fresh device with the recorded cause. A fresh device keeps the fuses, every flash byte where no slot
write is cut off, the keeper's cells where they are kept, the entropy counters where Run power stayed, and reads every
other cell and every byte outside flash at its reset value. In Run: RST_CTL by a host function only counts
LOCK_FOREIGN, with a wrong key it does nothing, with the right key it is a device reset with cause 3; a PWR_CTL.HOLD
that is refused only stores its reason, and one that is not enters Hold with the local clock cleared and stopped, and
KEEP_TIME noted. A wake source that KEEP_WAKE_EN enables and that can wake (an alarm reached, a GPIO enabled for wake)
leaves Hold for Run with full credit, the cause stored and an event, one that it does not enable does nothing. Where a
clause follows a choice or inference of the model and not the spec, it is that of log entries 74 to 77, 130 and 139.
Rests on R452, R453 of 19_gaits_clocks_power.md, R514 to R517, R523, R527, R528 of 23_reset_and_bring_up.md, R550,
R551 of 24_management_interfaces.md. -/
def Obligations.ResetsClearWhatTheyClearAndHoldSleeps : Prop :=
  (∀ (s : State) (d : Dev), d = s.dev →
    (d.power.state = .sealed → exec .pwrGoodFall s = s.next { d with boot := { d.boot with armed := true } } ∧
      exec .brownout s = .next s ∧ exec .thermtrip s = .next s) ∧
    (d.power.state ≠ .sealed →
      (d.boot.tripped = false → exec .pwrGoodFall s = s.next (d.seal true 2 true)) ∧
      (d.boot.tripped = true → exec .pwrGoodFall s = s.next ((d.seal true 2 true).emit (.pin .thermtrip true))) ∧
      exec .brownout s = s.next ((d.seal true 5 false).s rootId Root.RST_CAUSE_LAST 5) ∧
      (d.boot.tripped = true → exec .thermtrip s = .next s) ∧
      (∀ e : Dev, d.boot.tripped = false →
        e = ((((d.emit (.pin .thermtrip false)).emit (.pin .twinAliveOut false)).s rootId Root.RST_CAUSE_THERMTRIP 1).bump
          Root.WEAR_THERMTRIPS) → exec .thermtrip s = s.next { e with boot := { e.boot with tripped := true } })) ∧
    (∀ e : Dev, e = d.seal false 1 true → exec .keeperReset s = s.next { e with boot := { e.boot with tripped := false } }) ∧
    (∀ ticks t3 t4 t5 : Nat, (d.boot.armed = false → exec (.powerOnReset ticks t3 t4 t5) s = .next s) ∧
      (d.boot.armed = true → exec (.powerOnReset ticks t3 t4 t5) s =
        s.next (((d.fresh true false).add rootId Root.KEEP_TIME_TICKS ticks).rootReset d.boot.cause t3 t4 t5))) ∧
    (∀ sources ticks : Nat,
      (d.power.state ≠ .hold ∨ d.boot.tripped = true ∨ d.wakeCause sources ticks = 0 →
        exec (.holdWake sources ticks) s = .next s) ∧
      (d.power.state = .hold → d.boot.tripped = false → d.wakeCause sources ticks ≠ 0 →
        ∃ e : Dev, exec (.holdWake sources ticks) s = s.next (e.raise rootId 0x0C04 0
            (d.wakeCause sources ticks)) ∧ e.power.state = .run ∧ e.power.creditUj = 1500000000))) ∧
  (∀ (s : State) (d : Dev), s.dev.acts = true → d = s.dev →
    (∀ agent key t3 t4 t5 : Nat,
      (agent = epId 0 ∨ agent = epId 1 → exec (.deviceReset agent key t3 t4 t5) s = s.next (d.bump Root.LOCK_FOREIGN)) ∧
      (agent ≠ epId 0 → agent ≠ epId 1 →
        (key ≠ 0xA5C3 → exec (.deviceReset agent key t3 t4 t5) s = .next s) ∧
        (key = 0xA5C3 → exec (.deviceReset agent key t3 t4 t5) s = s.next (d.deviceReset 3 t3 t4 t5)))) ∧
    (∀ good : Bool,
      (d.holdRefusal ≠ 0 → exec (.hold good) s = s.next (d.s rootId Root.PWR_STATUS_HOLD_RESULT d.holdRefusal)) ∧
      (d.holdRefusal = 0 → ∃ e : Dev, exec (.hold good) s = s.next e ∧ e.power.state = .hold ∧
        e.tb = { sec := 0, ns := 0, adj := none, set := none, stopped := true } ∧ e.power.keepAtHold = e.g rootId Root.KEEP_TIME_TICKS))) ∧
  (∀ (d : Dev) (k run : Bool),
    (d.fresh k run).fuse = d.fuse ∧
    (d.img.slotWrite = none → ∀ a < 2 ^ 56, (d.fresh k run).byte .flash a = d.byte .flash a) ∧
    (∀ (sp : Space) (a : Nat), sp ≠ .flash → a < 2 ^ 56 → (d.fresh k run).byte sp a = byteReset (bkey sp a)) ∧
    (∀ u off : Nat, pinCell (rkey u off) = false → (k && keeperCell (rkey u off)) = false →
      (run && entropyCell (rkey u off)) = false → (d.fresh k run).cell u off = regReset (rkey u off)) ∧
    (∀ u off : Nat, pinCell (rkey u off) = true ∨ (k && keeperCell (rkey u off)) = true ∨
      (run && entropyCell (rkey u off)) = true → (d.fresh k run).cell u off = d.cell u off))

/-- Every yoke frame is checked by R462, acknowledged, and applied in order; each kind has the effect of its rules. In
Run, for each of the eleven commands of a received frame: without a pair or with the link down nothing happens; a
frame of wrong length or CRC only counts CRC_ERR, and DATA_DROP for DATA; a HELLO of a wrong format only counts
TWIN_STALE_DROP. A frame that passes first releases what its ACK field covers. DATA then enters the switch core with
input 18, its destination a free value. MIRROR in order applies its records. HEARTBEAT clears MISSED and notes the
offset, and a SEQ ahead of EXPECTED is a gap. ACK does nothing more; NAK resends the frames from its SEQ on. SYNC_DONE
in order notes it and checks for ATTACHED. TAKEOVER in order fences an ATTACHED twin. SWITCHOVER in order at an
ATTACHED twin adopts, thaws, answers and stays ATTACHED as PRIMARY. SWITCHOVER_DONE in order ends the switchover that
was sent, hands over and becomes the secondary. DETACH in order acknowledges and detaches an ATTACHED twin. A frame
before EXPECTED counts TWIN_DUP_DROP and is acknowledged; one after it is a gap. HELLO is checked in state HELLO and
kept in DETACHED and TAKEOVER. Where a clause follows a choice or inference of the model and not the spec, it is that
of log entries 49, 70, 71. Rests on R461, R462, R464 to R466, R468, R472 to R475, R480, R481 of 20_twin_pair.md. -/
def Obligations.YokeFramesAreCheckedAcknowledgedAndApplied : Prop :=
  ∀ (s : State) (d : Dev) (bs : List Byte) (rings : List (Nat × List (Nat × List (List Word)))), s.dev.acts = true → d = s.dev →
    (∀ c ∈ [Instr.mirrorFrame bs, .heartbeat bs, .ack bs, .nak bs, .hello bs, .syncDone bs, .takeover bs, .switchover bs rings,
        .switchoverDone bs, .detach bs],
      (d.paired = false ∨ d.on rootId Root.TWIN_STATUS_LINK_UP = false → exec c s = .next s) ∧
      (d.paired = true → d.on rootId Root.TWIN_STATUS_LINK_UP = true →
        (bs.length < 20 ∨ bs.length ≠ beAt bs 2 2 + 20 ∨ 16511 < beAt bs 2 2 ∨
            crc32c (bs.take (bs.length - 4)) ≠ beAt bs (bs.length - 4) 4 → exec c s = s.next (d.bump Root.CRC_ERR)) ∧
        (20 ≤ bs.length → bs.length = beAt bs 2 2 + 20 → beAt bs 2 2 ≤ 16511 →
          crc32c (bs.take (bs.length - 4)) = beAt bs (bs.length - 4) 4 →
          beAt bs 0 1 = 3 ∧ beAt bs 16 1 = 1 ∧ beAt bs 14 1 ≠ 0 → exec c s = s.next (d.bump Root.TWIN_STALE_DROP)))) ∧
    (d.paired = true → d.on rootId Root.TWIN_STATUS_LINK_UP = true → bs.length < 20 →
      exec (.dataFrame bs) s = s.next ((d.bump Root.CRC_ERR).bump Root.DATA_DROP)) ∧
    (∀ e : Dev, e = d.yokeAckIn (beAt bs 8 4) →
      (d.yokeTakes bs 1 none = true → exec (.dataFrame bs) s = s.next (e.used.toSwitch { Pkt.blank with
        data := (yokePayload bs).drop 128
        m := toWords 16 (yokePayload bs) } 18 ((actDest e.freeVal.toNat).getD (.port 19 0x3FFFF)))) ∧
      (d.yokeTakes bs 4 none = true → ∀ f : Dev,
        f = (e.s rootId Root.TWIN_STATUS_MISSED 0).noteOffset
          (Int.ofNat e.time - 250 - Int.ofNat (beAt (yokePayload bs) 0 8)) →
        (f.mirroring = true → seqBefore (f.g rootId Root.TWIN_SEQ_RX_EXPECTED) (beAt bs 4 4) = true →
          exec (.heartbeat bs) s = s.next f.yokeGap) ∧
        (f.mirroring = false ∨ seqBefore (f.g rootId Root.TWIN_SEQ_RX_EXPECTED) (beAt bs 4 4) = false →
          exec (.heartbeat bs) s = s.next f)) ∧
      (d.yokeTakes bs 5 none = true → exec (.ack bs) s = s.next e) ∧
      (d.yokeTakes bs 6 none = true →
        exec (.nak bs) s = s.next (e.yokeResend (fun f => !seqBefore f.seq (beAt bs 4 4)))) ∧
      (∀ op : Nat, ∀ c ∈ [(2, Instr.syncDone bs), (3, .takeover bs), (4, .switchover bs rings), (5, .switchoverDone bs),
          (6, .detach bs)], c.1 = op → d.yokeTakes bs 3 (some op) = true → e.mirroring = true → e.twin.fixed = none →
        (seqBefore (beAt bs 4 4) (e.g rootId Root.TWIN_SEQ_RX_EXPECTED) = true →
          beAt bs 4 4 ≠ e.g rootId Root.TWIN_SEQ_RX_EXPECTED →
          exec c.2 s = s.next (e.bump Root.TWIN_DUP_DROP).sendAckFrame) ∧
        (seqBefore (beAt bs 4 4) (e.g rootId Root.TWIN_SEQ_RX_EXPECTED) = false →
          beAt bs 4 4 ≠ e.g rootId Root.TWIN_SEQ_RX_EXPECTED → exec c.2 s = s.next e.yokeGap)) ∧
      (∀ g : Dev, e.yokeNext bs = true → g = e.yokeNoted bs →
        (d.yokeTakes bs 2 none = true → ∀ rs : List MirRec, rs = records bs.length (yokePayload bs) →
          exec (.mirrorFrame bs) s = s.next (({ g with
            twin := { g.twin with mirror := rs.foldl applyRec g.twin.mirror }
            integ := { g.integ with recs := g.integ.recs.filter (fun (x : Nat × Nat) =>
              !rs.any (fun r => r.rtype + 64 = x.1 && r.index = x.2)) } } : Dev).yokeAcks bs)) ∧
        (d.yokeTakes bs 3 (some 2) = true → exec (.syncDone bs) s =
          s.next ((({ g with twin := { g.twin with peerDone := true } } : Dev).syncCheck).yokeAcks bs)) ∧
        (d.yokeTakes bs 3 (some 3) = true →
          (g.twinState = 3 → exec (.takeover bs) s = s.next ((g.fence 1).yokeAcks bs)) ∧
          (g.twinState = 2 → exec (.takeover bs) s = s.next (g.yokeAcks bs))) ∧
        (d.yokeTakes bs 3 (some 4) = true →
          (g.twinState ≠ 3 → exec (.switchover bs rings) s = s.next (g.yokeAcks bs)) ∧
          (∀ (a : Dev) (n : Nat × Nat × Nat), g.twinState = 3 →
            ((g.setTwin 6).setRecovery 1).adopt { own := decide (beAt (yokePayload bs) 1 1 = 0)
                                                  back := decide (beAt (yokePayload bs) 1 1 ≠ 0) } rings = (a, n) →
            exec (.switchover bs rings) s = s.next
              (((((((a.slices.filter (fun sl => !g.slices.contains sl)).foldl (fun (d : Dev) sl => d.thaw sl) a).adopted n g.time
                3).setRecovery 0).sendControl 5 []).setTwin 3).yokeAcks bs))) ∧
        (d.yokeTakes bs 3 (some 5) = true →
          (g.twin.switchover = none → exec (.switchoverDone bs) s = s.next (g.yokeAcks bs)) ∧
          (∀ (scope : Nat) (sls : List Nat) (a : Dev) (n : Nat), g.twin.switchover = some (scope, true, sls) →
            ({ g with twin := { g.twin with switchover := none } } : Dev).handOver scope = (a, n) →
            exec (.switchoverDone bs) s =
              s.next ((((a.s rootId Root.TWIN_STATUS_ROLE 1).setTwin 3).twinEnd Sc.ok n).yokeAcks bs))) ∧
        (d.yokeTakes bs 3 (some 6) = true →
          (g.twinState = 3 → exec (.detach bs) s = s.next ((g.sendAckFrame.detach 1).yokeAcks bs)) ∧
          (g.twinState ≠ 3 → exec (.detach bs) s = s.next (g.yokeAcks bs))))) ∧
    (∀ (p : List Byte) (h : PeerHello), d.paired = true → d.on rootId Root.TWIN_STATUS_LINK_UP = true → 20 ≤ bs.length →
      bs.length = beAt bs 2 2 + 20 → beAt bs 2 2 ≤ 16511 → crc32c (bs.take (bs.length - 4)) = beAt bs (bs.length - 4) 4 →
      beAt bs 0 1 = 3 → beAt bs 16 1 = 1 → beAt bs 14 1 = 0 → p = yokePayload bs →
      h = { side := beAt p 1 1, role := beAt p 2 1, fmtMin := beAt p 3 1, fmtMax := beAt p 4 1, adoptBase := beAt p 5 4
            adoptCount := beAt p 9 4, mirrorQbase := beAt p 13 4, epoch := beAt p 17 2 } →
      (d.twinState = 1 → exec (.hello bs) s = s.next (d.checkHello h)) ∧
      (d.twinState = 0 ∨ d.twinState = 4 → exec (.hello bs) s = s.next { d with twin := { d.twin with hello := some h } }) ∧
      (d.twinState = 2 ∨ d.twinState = 3 ∨ d.twinState = 5 ∨ d.twinState = 6 → exec (.hello bs) s = .next s))

/-- Twin admin commands, timers and link changes move the pair through HELLO, ATTACHED, TAKEOVER, SWITCHOVER and
DETACHED as their rules say. In Run. TWIN_ATTACH of a DETACHED pair stores the mirror range, enters HELLO and sends
HELLO; in any other state it ends TWIN_STATE 0x26, for a range that does not fit MALFORMED. HELLO repeats only in
HELLO. An attach times out from HELLO or SYNC, also when the yoke stays down, with 0x26. TWIN_DETACH of an ATTACHED
twin sends DETACH and detaches; TWIN_SWITCHOVER of one enters SWITCHOVER and freezes the handed slices; both end 0x26
otherwise. SWITCHOVER leaves once every handed slice is frozen and the channel is empty; one that was sent times out
with 0x26 back to ATTACHED. Unacknowledged frames are resent on their timer; a due ACK leaves on its own. A heartbeat
leaves in HELLO and while mirroring. A missed one counts, and the fifth declares; a loss of TWIN_ALIVE_I declares, or
ends the wait in TAKEOVER. The mirror is fixed once, when no wait and no patch is left; a takeover with a fixed mirror
completes into DETACHED with the claim PRIMARY, and the link-level resets that waited for it then destroy their
objects. Deferred records, and the head and sequence records due, leave while mirroring. A change of yoke alignment is
stored and raises event 0x0A07. Where a clause follows a choice or inference of the model and not the spec, it is that
of log entries 51, 71 to 73. Rests on R465, R466, R469, R472 to R476, R481, R482, R485, R487 of 20_twin_pair.md. -/
def Obligations.TwinsAttachHeartbeatTakeOverSwitchAndDetach : Prop :=
  ∀ (s : State) (d : Dev), s.dev.acts = true → d = s.dev →
    (∀ (pf idx : Nat) (c : AdminCmd) (e : Dev), e = d.admStart pf idx →
      (d.admReady pf idx 0x0701 c = true → ∀ q base n : Nat, q = c.arg % 2 ^ 18 → base = (e.bound 0x40).2.2 →
        n = (e.bound 0x41).2.2 →
        (e.paired = false ∨ e.twinState ≠ 0 → exec (.twinAttach pf idx) s = s.next (e.admEnd pf idx 0x26 0)) ∧
        (e.paired = true → e.twinState = 0 →
          (2 ^ 18 < q + n ∨ base < q + n ∧ q < base + n →
            exec (.twinAttach pf idx) s = s.next (e.admEnd pf idx Sc.malformed 0)) ∧
          (∀ f : Dev, q + n ≤ 2 ^ 18 → q + n ≤ base ∨ base + n ≤ q →
            f = (e.s rootId Root.TWIN_MIRROR_OWN_QBASE q).setTwin 1 → ∀ g : Dev,
            g = ({ f with twin := { f.twin with cmd := some (pf, idx) } } : Dev).sendHello →
            (g.twin.hello = none → exec (.twinAttach pf idx) s = s.next g) ∧
            (∀ h : PeerHello, g.twin.hello = some h → exec (.twinAttach pf idx) s = s.next (g.checkHello h))))) ∧
      (d.admReady pf idx 0x0702 c = true →
        (e.twinState ≠ 3 → exec (.twinDetach pf idx) s = s.next (e.admEnd pf idx 0x26 0)) ∧
        (e.twinState = 3 → exec (.twinDetach pf idx) s = s.next (((e.sendControl 6 []).detach 0).admEnd pf idx Sc.ok 0))) ∧
      (d.admReady pf idx 0x0703 c = true →
        (e.twinState ≠ 3 → exec (.twinSwitchover pf idx) s = s.next (e.admEnd pf idx 0x26 0)) ∧
        (∀ (sls : List Nat) (f : Dev), e.twinState = 3 →
          sls = (e.handedSlices (c.arg % 2)).filter (fun sl => e.sliceState sl = 1) → f = e.setTwin 6 →
          exec (.twinSwitchover pf idx) s = s.next (sls.foldl (fun (d : Dev) sl => d.startFreeze sl) { f with
            twin := { f.twin with cmd := some (pf, idx), switchover := some (c.arg % 2, false, sls) } })))) ∧
    ((d.twin.switchover = none → exec .switchoverSend s = .next s ∧ exec .switchoverTimeout s = .next s) ∧
      (∀ (scope : Nat) (sls : List Nat),
        (d.twin.switchover = some (scope, false, sls) → d.twinState = 6 →
          (∀ sl ∈ d.handedSlices scope, d.sliceState sl = 3) → d.twin.unacked = [] → d.twin.deferred = [] →
          (∀ q ∈ d.twin.heads, d.handedQ scope q = false) → exec .switchoverSend s = s.next (({ d with
            twin := { d.twin with switchover := some (scope, true, sls) } } : Dev).sendControl 4 (beBytes 1 scope))) ∧
        (d.twin.switchover = some (scope, true, sls) →
          exec .switchoverTimeout s = s.next ((d.switchEnd 0x26).setTwin 3)))) ∧
    ((d.twinState = 1 → exec .helloRepeat s = s.next d.sendHello) ∧ (d.twinState ≠ 1 → exec .helloRepeat s = .next s) ∧
      (d.twinState = 1 ∨ d.twinState = 2 → exec .attachTimeout s = s.next (d.attachEnd 0x26) ∧
        (d.on rootId Root.TWIN_STATUS_LINK_UP = false → exec .yokeDownTimeout s = s.next (d.attachEnd 0x26))) ∧
      (d.twinState ≠ 1 → d.twinState ≠ 2 → exec .attachTimeout s = .next s) ∧
      (d.on rootId Root.TWIN_STATUS_LINK_UP = true → exec .yokeDownTimeout s = .next s)) ∧
    exec .yokeRetransmitTimeout s = s.next (d.yokeResend (fun _ => true)) ∧
    (d.twin.ackDue = true → exec .yokeAckTimer s = s.next d.sendAckFrame) ∧
    (d.twin.ackDue = false → exec .yokeAckTimer s = .next s) ∧
    (d.twinState = 1 ∨ d.mirroring = true → exec .heartbeatSend s =
      s.next (d.yokeOut 4 0 (d.g rootId Root.TWIN_SEQ_TX_NEXT) (beBytes 8 d.time))) ∧
    (d.twinState ≠ 1 → d.mirroring = false → exec .heartbeatSend s = .next s) ∧
    (∀ (alive : Bool) (e : Dev) (m : Nat), e = d.s rootId Root.TWIN_STATUS_ALIVE_IN (if alive then 1 else 0) →
      m = min 15 (e.g rootId Root.TWIN_STATUS_MISSED + 1) →
      (e.twinState ≠ 1 → e.mirroring = false → exec (.heartbeatMissed alive) s = s.next e) ∧
      (e.twinState = 1 ∨ e.mirroring = true →
        (m < 5 → exec (.heartbeatMissed alive) s = s.next ((e.bump Root.HB_MISSED).s rootId Root.TWIN_STATUS_MISSED m)) ∧
        (5 ≤ m → exec (.heartbeatMissed alive) s =
          s.next (((e.bump Root.HB_MISSED).s rootId Root.TWIN_STATUS_MISSED m).declareTakeover 1)))) ∧
    (∀ e : Dev, e = d.s rootId Root.TWIN_STATUS_ALIVE_IN 0 →
      (e.twinState = 4 → exec .twinAliveLoss s = s.next e.aliveWaitOver) ∧
      (e.twinState ≠ 4 → exec .twinAliveLoss s = s.next (e.declareTakeover 2))) ∧
    exec .aliveWaitEnd s = s.next { d with
      twin := { d.twin with declared := d.twin.declared.map (fun x => (x.1, x.2.1, false)) } } ∧
    (∀ (rings : List (Nat × List (Nat × List (List Word)))) (cause t0 : Nat) (w : Bool),
      (d.twin.declared = none ∨ d.twin.declared = some (cause, t0, true) → exec (.mirrorFixed rings) s = .next s) ∧
      (∀ (e : Dev) (n : Nat × Nat × Nat), d.twin.declared = some (cause, t0, false) → d.twin.fixed = none → d.twinState = 4 →
        d.img.patch = none → d.adopt { own := true, back := true } rings = (e, n) →
        exec (.mirrorFixed rings) s = s.next { e with twin := { e.twin with fixed := some n } }) ∧
      (d.twin.fixed = none → exec .takeoverComplete s = .next s) ∧
      (∀ (e : Dev) (n : Nat × Nat × Nat), d.twin.declared = some (cause, t0, w) → d.twin.fixed = some n → d.twinState = 4 →
        e = ((d.setRecovery 0).dropMirror.setTwin 0).adopted n t0 cause →
        exec .takeoverComplete s = s.next ({ e with twin := { e.twin with claim := true } } : Dev).finishLate)) ∧
    (∀ qs sas : List Nat,
      (d.mirroring = false → exec (.mirrorRecordSend qs sas) s = .next s) ∧
      (∀ e : Dev, d.mirroring = true → e = { d with
          twin := { d.twin with
            heads := d.twin.heads.filter (fun q => !qs.contains q)
            saHeads := d.twin.saHeads.filter (fun i => !sas.contains i) } } →
        exec (.mirrorRecordSend qs sas) s = s.next
          ((d.twin.saHeads.filter (fun i => sas.contains i)).foldl
            (fun (d : Dev) i => if d.sa i SA.STATE = 0 then d else d.touch 3 i)
            ((d.twin.heads.filter (fun q => qs.contains q)).foldl
              (fun (d : Dev) q => if d.qExists q then d.touch 5 q else d) e)).flushMirror)) ∧
    (∀ (up alive : Bool) (v : Nat) (e : Dev), v = (if up && d.paired then 1 else 0) →
      e = d.s rootId Root.TWIN_STATUS_ALIVE_IN (if alive then 1 else 0) →
      (e.g rootId Root.TWIN_STATUS_LINK_UP = v → exec (.yokeLinkChange up alive) s = s.next e) ∧
      (e.g rootId Root.TWIN_STATUS_LINK_UP ≠ v →
        exec (.yokeLinkChange up alive) s = s.next ((e.s rootId Root.TWIN_STATUS_LINK_UP v).raise rootId 0x0A07 0 v)))

/-- Relay frames are applied in LINK_SEQ order, the reliable ones acknowledged; each type has the effect of its rules.
In Run, for each of the fifteen commands of a received relay frame: with no frame taken, or the oldest of another
type, nothing happens. Otherwise the frame leaves the list and its LINK_ACK is noted. The reliable types but JOIN:
from a member without a link they count RELAY_DUP_DROP; out of order they count it and are acknowledged; in order the
link's number moves, LINK_ACK leaves, and the frame is applied. JOIN_ACK not awaited does nothing, a refusal asks the
next ancestor, an acceptance attaches. LEAVE drops a child and nothing else. TREE_UPDATE counts only from the parent:
naming this member it makes it root, else it is re-attached. BARRIER_ENTER adds a child's count; BARRIER_RELEASE
releases; BCAST_UP starts at the root or goes up; BCAST_DOWN is delivered; SNAP_MARKER arms or latches; SNAP_DONE and
RESET_ACK carry totals from the parent, requests (OP_SEQ 0) and counts from below; RESET_ORDER is noted; EPOCH_SET
sets the epoch. LINK_ACK does nothing more. KEEPALIVE from a child brings its counts, from the parent the epoch, LIVE
and the exchange of times. JOIN is taken only while JOINED: a repeated one is acknowledged, one of member 0 taken by
the acting root alone, one beyond 64 children refused except at the root, else accepted. Where a clause follows a
choice or inference of the model and not the spec, it is that of log entries 79 to 84. Rests on R491 to R497, R499,
R500 of 21_relay_domain.md. -/
def Obligations.RelayFramesAreTakenInOrderAcknowledgedAndApplied : Prop :=
  ∀ (s : State) (d : Dev), s.dev.acts = true → d = s.dev →
    (∀ c ∈ [(0x01, Instr.join), (0x02, .joinAck), (0x03, .keepalive), (0x04, .linkAck), (0x05, .leave), (0x06, .treeUpdate),
        (0x10, .barrierEnter), (0x11, .barrierRelease), (0x20, .bcastUp), (0x21, .bcastDown), (0x30, .snapMarker),
        (0x31, .snapDone), (0x40, .resetOrder), (0x41, .resetAck), (0x50, .epochSet)],
      (d.relay.rx = [] → exec c.2 s = .next s) ∧
      (∀ (x : RlFrame) (rest : List RlFrame), d.relay.rx = x :: rest → x.typ ≠ c.1 → exec c.2 s = .next s)) ∧
    (∀ (x : RlFrame) (rest : List RlFrame) (e : Dev), d.relay.rx = x :: rest →
      e = ({ d with relay := { d.relay with rx := rest } } : Dev).rlAcked x.src x.ack →
      (∀ c ∈ [(0x02, Instr.joinAck), (0x05, .leave), (0x06, .treeUpdate), (0x10, .barrierEnter), (0x11, .barrierRelease),
          (0x20, .bcastUp), (0x21, .bcastDown), (0x30, .snapMarker), (0x31, .snapDone), (0x40, .resetOrder), (0x41, .resetAck),
          (0x50, .epochSet)], x.typ = c.1 →
        (e.rlLink x.src = none → exec c.2 s = s.next (e.bump Root.RELAY_DUP_DROP)) ∧
        (∀ l : RlLink, e.rlLink x.src = some l → x.seq ≠ (l.rx + 1) % 2 ^ 32 →
          exec c.2 s = s.next ((e.bump Root.RELAY_DUP_DROP).rlAckTo x.src))) ∧
      (∀ (l : RlLink) (g : Dev), e.rlLink x.src = some l → x.seq = (l.rx + 1) % 2 ^ 32 →
        g = (e.setLink x.src (fun (k : RlLink) => { k with rx := x.seq })).rlAckTo x.src →
        (x.typ = 0x02 →
          (g.relay.join.head? ≠ some x.src → exec .joinAck s = s.next g) ∧
          (g.relay.join.head? = some x.src → x.num 1 1 = 1 → exec .joinAck s = s.next g.rlNextAsk) ∧
          (g.relay.join.head? = some x.src → x.num 1 1 ≠ 1 → exec .joinAck s = s.next (g.rlJoined x.src (x.num 0 1)))) ∧
        (x.typ = 0x05 →
          (x.src ∈ g.rlKids → exec .leave s = s.next (g.rlDropKid x.src)) ∧
          (x.src ∉ g.rlKids → exec .leave s = s.next g)) ∧
        (x.typ = 0x06 →
          (g.relay.parent ≠ some x.src → exec .treeUpdate s = s.next g) ∧
          (g.relay.parent = some x.src → x.num 0 2 % 4096 = g.rlId → exec .treeUpdate s = s.next (g.rlUnlink x.src).rlReign) ∧
          (g.relay.parent = some x.src → x.num 0 2 % 4096 ≠ g.rlId → exec .treeUpdate s = s.next (g.rlSeek 2
            (x.num 0 2 % 4096 :: (rlAbove g.rlId).filter (fun m => m < x.num 0 2 % 4096)) false))) ∧
        (x.typ = 0x10 →
          (g.relay.ops.any (rlIs 1 x.opId) = true → exec .barrierEnter s = s.next (g.rlChildPart 1 x (x.num 0 2) 0)) ∧
          (g.relay.ops.any (rlIs 1 x.opId) = false →
            exec .barrierEnter s = s.next ((g.rlNote 1 x.opId none).rlChildPart 1 x (x.num 0 2) 0))) ∧
        (x.typ = 0x11 → exec .barrierRelease s = s.next ((g.rlDownSeq x).rlRelease x.opId x.opSeq (x.num 0 2))) ∧
        (x.typ = 0x20 →
          (g.rlRoot = true → exec .bcastUp s = s.next (g.rlAssign 2 x.opId x.src 0 x.payload)) ∧
          (g.rlRoot = false → exec .bcastUp s = s.next (g.rlToParent 0x20 0 x.opId x.payload))) ∧
        (x.typ = 0x21 → exec .bcastDown s = s.next ((g.rlDownSeq x).rlBcast x.opSeq x.src x.opId x.payload)) ∧
        (x.typ = 0x30 → exec .snapMarker s = s.next ((g.rlDownSeq x).rlMarker x.opSeq x.opId (x.num 0 8))) ∧
        (∀ c ∈ [(0x31, 3, Instr.snapDone), (0x41, 4, .resetAck)], x.typ = c.1 →
          (g.relay.parent = some x.src →
            exec c.2.2 s = s.next (g.rlTotals c.2.1 x.opId x.opSeq (x.num 0 2) (x.num 2 2) (x.num 4 2))) ∧
          (g.relay.parent ≠ some x.src → x.opSeq ≠ 0 →
            exec c.2.2 s = s.next (g.rlChildPart c.2.1 x (x.num 0 2) (x.num 2 2))) ∧
          (g.relay.parent ≠ some x.src → x.opSeq = 0 → g.rlRoot = true →
            exec c.2.2 s = s.next (g.rlAssign c.2.1 x.opId x.src (x.num 8 1) [])) ∧
          (g.relay.parent ≠ some x.src → x.opSeq = 0 → g.rlRoot = false →
            exec c.2.2 s = s.next (g.rlToParent c.1 0 x.opId x.payload))) ∧
        (x.typ = 0x40 →
          exec .resetOrder s = s.next ((g.rlDownSeq x).rlOrder x.opSeq x.opId (x.num 0 8) (x.num 8 1))) ∧
        (x.typ = 0x50 → exec .epochSet s = s.next (g.rlSetEpoch (x.num 0 1)))) ∧
      (x.typ = 0x04 → exec .linkAck s = s.next e) ∧
      (x.typ = 0x03 →
        (e.rlLink x.src = none → exec .keepalive s = s.next e) ∧
        (∀ l : RlLink, e.rlLink x.src = some l →
          (l.kind = 1 → exec .keepalive s = s.next (e.setLink x.src (fun (k : RlLink) => { k with
            epoch := x.num 0 1
            count := x.num 2 2
            heard := some (e.domainAt x.at_) })).rlRefresh) ∧
          (l.kind ≠ 1 → e.relay.parent ≠ some x.src → exec .keepalive s = s.next e) ∧
          (∀ k : Dev, l.kind ≠ 1 → e.relay.parent = some x.src →
            k = (e.s rootId Root.RELAY_STATUS_EPOCH (x.num 0 1)).s rootId Root.RELAY_STATUS_LIVE (x.num 2 2) →
            (l.asked = none ∨ x.num 4 8 = 0 → exec .keepalive s = s.next k) ∧
            (∀ t1 : Nat, l.asked = some t1 → x.num 4 8 ≠ 0 → exec .keepalive s =
              s.next ((k.setLink x.src (fun (m : RlLink) => { m with asked := none })).setOffset
                ((((x.num 4 8 : Int) - t1) + ((x.sent : Int) - x.at_)) / 2)))))) ∧
      (x.typ = 0x01 →
        (e.rlState ≠ 2 → exec .join s = s.next e) ∧
        (∀ l : RlLink, e.rlState = 2 → e.rlLink x.src = some l → l.kind = 1 → l.rx = x.seq →
          exec .join s = s.next ((e.bump Root.RELAY_DUP_DROP).rlAckTo x.src)) ∧
        (∀ a b : Dev, e.rlState = 2 → (∀ l : RlLink, e.rlLink x.src = some l → ¬(l.kind = 1 ∧ l.rx = x.seq)) →
          a = (if e.relay.parent = some x.src then e.rlLost x.src else e) →
          b = (if x.src ∈ a.rlKids then a.rlDropKid x.src else a) →
          (x.src = 0 → b.on rootId Root.RELAY_STATUS_ACTING_ROOT = false → exec .join s = s.next b) ∧
          (x.src ≠ 0 ∨ b.on rootId Root.RELAY_STATUS_ACTING_ROOT = true →
            (b.rlKids.filter (· ≠ x.src)).length < 64 ∨ b.rlRoot = true → exec .join s = s.next (b.rlAccept x)) ∧
          (x.src ≠ 0 ∨ b.on rootId Root.RELAY_STATUS_ACTING_ROOT = true →
            64 ≤ (b.rlKids.filter (· ≠ x.src)).length → b.rlRoot = false →
            exec .join s = s.next (((b.rlAttach x.src 2 x.seq 0).rlAckTo x.src).rlSend x.src 0x02 0 0
              (beBytes 1 (((b.rlAttach x.src 2 x.seq 0).rlAckTo x.src).g rootId Root.RELAY_STATUS_EPOCH) ++ beBytes 1 1))))))

/-- RELAY_JOIN, RELAY_LEAVE and the four relay operations start by R494 to R500; instants and timers have their
effects. In Run, for a relay command in flight whose entry nothing keeps from starting: RELAY_JOIN without its buffer
ends with a bus error; without the feature or with arguments or peer table outside R489 it is MALFORMED; in another
state than OUT it ends with RELAY_STATE; else the member is JOINING, with its peer table, and asks its constructed
ancestors, member 0 the first level. RELAY_LEAVE in state JOINED tells the children and the parent and waits for their
acknowledgements. An operation command acts only for its own kind, an unlisted kind being MALFORMED at BARRIER; it
ends with MALFORMED, RELAY_STATE, a bus error, NO_RESOURCE for a 17th, or RELAY_STATE for an OP_ID already its own;
else a barrier is entered and the others are requested unless the domain epoch is too low, which ends them with
RELAY_EPOCH. SNAP_LATCH latches the oldest armed snapshot; DOMAIN_RESET_APPLY applies the oldest armed reset that
RELAY_CFG allows: kind 1 resets the top-level engines, kind 2 the device. RELAY_RETRANSMIT sends all unacknowledged
frames again or, after three retransmissions, loses the neighbour. KEEPALIVE_SEND, NEIGHBOUR_LOST, JOIN_RETRY and
BARRIER_TIMEOUT do what R494 to R496 say, and nothing where their condition does not hold. Where a clause follows a
choice or inference of the model and not the spec, it is that of log entries 79 to 84. Rests on R489, R493 to R497,
R499, R500 of 21_relay_domain.md, R200 of 08_switch_core.md. -/
def Obligations.RelayMembersJoinLeaveOperateAndKeepTheirTimes : Prop :=
  ∀ (s : State) (d : Dev), s.dev.acts = true → d = s.dev →
    (∀ (pf idx : Nat) (c : AdminCmd) (e : Dev), d.admReady pf idx 0x0801 c = true → e = d.admStart pf idx →
      exec (.relayJoin pf idx none) s = s.next (e.admEnd pf idx Sc.busError 0) ∧
      (∀ (bs : List Byte) (m n : Nat) (ps : List (Nat × Nat)), m = c.arg / 2 ^ 16 % 2 ^ 12 → n = c.arg / 2 ^ 32 % 2 ^ 13 →
        ps = (List.range n).map (fun i =>
          (leNat (sliceBytes (sliceBytes bs 0 c.len) (16 * i) 8), leNat (sliceBytes (sliceBytes bs 0 c.len) (16 * i + 8) 8))) →
        exec (.relayJoin pf idx (some bs)) s = s.next
          (if e.rlOn = false then e.admEnd pf idx Sc.malformed 0
          else if e.rlState ≠ 0 then e.admEnd pf idx 0x1D 0
          else if e.rlEpoch = 0 ∨ n = 0 ∨ 4096 < n ∨ n ≤ m ∨ c.len ≠ 16 * n ∨ e.rlTableOk m n ps = false then
            e.admEnd pf idx Sc.malformed 0
          else
            let f : Dev := ({ e with relay := { RelaySt.init with
              peers := ps
              size := n
              cmd := some (pf, idx)
              slot := e.relay.slot
              unread := e.relay.unread } } : Dev)
            let g := ((f.s rootId Root.RELAY_STATUS_STATE 1).s rootId Root.RELAY_STATUS_MEMBER_ID m).s rootId
              Root.RELAY_STATUS_DOMAIN_ID (c.arg % 2 ^ 16)
            if m = 0 then g.rlSeek 1 g.rlFirst true else g.rlSeek 1 (rlAbove m) false))) ∧
    (∀ (pf idx : Nat) (c : AdminCmd) (e : Dev), d.admReady pf idx 0x0802 c = true → e = d.admStart pf idx →
      (e.rlOn = false → exec (.relayLeave pf idx) s = s.next (e.admEnd pf idx Sc.malformed 0)) ∧
      (e.rlOn = true → e.rlState ≠ 2 → exec (.relayLeave pf idx) s = s.next (e.admEnd pf idx 0x1D 0)) ∧
      (∀ f : Dev, e.rlOn = true → e.rlState = 2 →
        f = (e.rlDown 0x06 0 0 (beBytes 2 (e.relay.parent.getD (e.rlKids.foldl min 4096)))).rlToParent 0x05 0 0 [] →
        exec (.relayLeave pf idx) s = s.next ((({ f with relay := { f.relay with
          cmd := some (pf, idx)
          join := []
          joinKind := 0 } } : Dev).s rootId Root.RELAY_STATUS_STATE 3).rlLeft))) ∧
    (∀ (pf idx : Nat) (data : Option (List Byte)) (c : AdminCmd) (e : Dev), d.admReady pf idx 0x0803 c = true →
      e = d.admStart pf idx →
      ∀ i ∈ [(1, Instr.barrier pf idx), (2, .broadcast pf idx data), (3, .snapshot pf idx), (4, .domainReset pf idx)],
        (c.arg % 16 ≠ i.1 → (1 ≤ c.arg % 16 ∧ c.arg % 16 ≤ 4) ∨ i.1 ≠ 1 → exec i.2 s = .next s) ∧
        (c.arg % 16 = 0 ∨ 4 < c.arg % 16 → i.1 = 1 → exec i.2 s = s.next (e.admEnd pf idx Sc.malformed 0)) ∧
        (∀ (opId : Nat) (o : RlOp), c.arg % 16 = i.1 → opId = c.arg / 2 ^ 16 % 2 ^ 16 →
          o = { kind := i.1, opId := opId, seq := none, own := some (pf, idx)
                arg := if i.1 = 1 then c.arg / 2 ^ 48 else c.arg / 2 ^ 32 % 16
                payload := sliceBytes ((if i.1 = 2 then data else none).getD []) 0 c.len
                entered := false, up := false, waits := e.rlKids, a := 0, b := 0 } →
          exec i.2 s = s.next
            (if e.rlOn = false ∨ (i.1 = 2 ∧ 256 < c.len) ∨ (i.1 ≠ 2 ∧ c.len ≠ 0) ∨
                (i.1 = 4 ∧ c.arg / 2 ^ 32 % 16 ≠ 1 ∧ c.arg / 2 ^ 32 % 16 ≠ 2) then e.admEnd pf idx Sc.malformed 0
            else if e.rlState ≠ 2 then e.admEnd pf idx 0x1D 0
            else if i.1 = 2 ∧ c.len ≠ 0 ∧ data = none then e.admEnd pf idx Sc.busError 0
            else if 16 ≤ (e.relay.ops.filter (fun (x : RlOp) => x.own.isSome)).length then e.admEnd pf idx Sc.noResource 0
            else if e.relay.ops.any (fun (x : RlOp) => rlIs i.1 opId x && x.own.isSome) then e.admEnd pf idx 0x1D 0
            else if i.1 = 1 then
              (if e.relay.ops.any (rlIs 1 opId) then
                  e.setOps (rlIs 1 opId) (fun (x : RlOp) => { x with own := o.own, arg := o.arg })
                else ({ e with relay := { e.relay with ops := e.relay.ops ++ [o] } } : Dev)).rlPart 1 opId 1 0
            else if e.g rootId Root.RELAY_STATUS_EPOCH < rlNeeds i.1 o.payload.length then e.rlComplete o 0 0x1E 0
            else ({ e with relay := { e.relay with ops := e.relay.ops ++ [o] } } : Dev).rlRequest o))) ∧
    (d.relay.snaps = [] → exec .snapLatch s = .next s) ∧
    (∀ (n i : Nat) (rest : List (Nat × Nat)), d.relay.snaps = (n, i) :: rest →
      exec .snapLatch s = s.next (({ d with relay := { d.relay with snaps := rest } } : Dev).rlLatch n i false)) ∧
    (∀ t3 t4 t5 : Nat, (d.relay.resets = [] → exec (.domainResetApply t3 t4 t5) s = .next s) ∧
      (∀ (n i kind : Nat) (rest : List (Nat × Nat × Nat)) (e : Dev), d.relay.resets = (n, i, kind) :: rest →
        e = { d with relay := { d.relay with resets := rest } } →
        (e.rlAllows kind = false → exec (.domainResetApply t3 t4 t5) s = s.next e) ∧
        (e.rlAllows kind = true → kind = 2 → exec (.domainResetApply t3 t4 t5) s = s.next (e.deviceReset 4 t3 t4 t5)) ∧
        (e.rlAllows kind = true → kind ≠ 2 → exec (.domainResetApply t3 t4 t5) s =
          s.next ((topEngines e.hitches).foldl (fun (d : Dev) u => unitReset u 0 0 0 d) e)))) ∧
    (∀ m : Nat, (d.rlLink m = none → exec (.relayRetransmit m) s = .next s) ∧
      (∀ l : RlLink, d.rlLink m = some l →
        ((∃ x ∈ l.sent, 3 ≤ x.tries) → exec (.relayRetransmit m) s = s.next (d.rlLost m)) ∧
        ((∀ x ∈ l.sent, x.tries < 3) → exec (.relayRetransmit m) s =
          s.next (l.sent.foldl (fun (d : Dev) (x : RlSent) =>
            (d.bump Root.RELAY_RETX).rlOut m x.typ x.seq x.opSeq x.opId x.payload)
            (d.setLink m (fun (l : RlLink) => { l with
              sent := l.sent.map (fun (x : RlSent) => { x with tries := x.tries + 1 }) }))))) ∧
      (d.rlState = 2 ∨ d.rlState = 3 → exec (.neighbourLost m) s = s.next (d.rlLost m)) ∧
      (d.rlState ≠ 2 → d.rlState ≠ 3 → exec (.neighbourLost m) s = .next s)) ∧
    (d.rlState ≠ 2 → exec .keepaliveSend s = .next s) ∧
    (∀ e : Dev, d.rlState = 2 →
      (∀ p : Nat, d.relay.parent = some p →
        e = (d.rlOut p 0x03 0 0 0 (beBytes 1 d.rlLowest ++ beBytes 1 0 ++ beBytes 2 d.rlCount)).setLink p
          (fun (l : RlLink) => { l with asked := some d.time })) → (d.relay.parent = none → e = d) →
      exec .keepaliveSend s = s.next (e.rlKids.foldl (fun (d : Dev) m =>
        (d.rlOut m 0x03 0 0 0 (beBytes 1 (d.g rootId Root.RELAY_STATUS_EPOCH) ++ beBytes 1 0 ++
          beBytes 2 (d.g rootId Root.RELAY_STATUS_LIVE) ++ beBytes 8 (((d.rlLink m).bind RlLink.heard).getD 0))).setLink m
          (fun (l : RlLink) => { l with heard := none })) e)) ∧
    (d.relay.join = [] → exec .joinRetry s = .next s) ∧
    (d.relay.join ≠ [] →
      (d.rlId ≠ 0 → 1000000000 ≤ d.time - d.relay.joinAt → exec .joinRetry s = s.next (d.rlCmdEnd 0x1F 0).rlLeaveDomain) ∧
      (d.rlId = 0 ∨ d.time - d.relay.joinAt < 1000000000 → d.relay.after ≠ none → exec .joinRetry s = s.next d.rlAsk) ∧
      (d.rlId = 0 ∨ d.time - d.relay.joinAt < 1000000000 → d.relay.after = none → exec .joinRetry s = s.next d.rlNextAsk)) ∧
    (∀ opId : Nat, (d.relay.ops.find? (rlIs 1 opId) = none → exec (.barrierTimeout opId) s = .next s) ∧
      (∀ o : RlOp, d.relay.ops.find? (rlIs 1 opId) = some o →
        (d.rlRoot = false ∨ o.entered = false ∨ o.arg = 0 → exec (.barrierTimeout opId) s = .next s) ∧
        (∀ (e : Dev) (n : Nat), d.rlRoot = true → o.entered = true → o.arg ≠ 0 → d.rlNext = (e, n) →
          exec (.barrierTimeout opId) s = s.next (e.rlRelease opId n (e.rlCount - o.a)))))

/-- Management cores, fuses, flash and the module buses start, run and end their operations by R533 to R544. In Run.
Of a sender that is no management core the commands that write registers of this chapter only count LOCK_FOREIGN.
MC_CTL_START starts a core that was not started and sets its unit ACTIVE. CORE_TIMER, when device time has reached
MC_TIMECMP, sets it to the highest value, raises the core's timer event with the time set, and wakes its region. A
fuse command stores its fields and starts unless one runs; FUSE_DONE ends it: result 1 with no fuse blown when R537
refuses it, 2 when the read-back differs, else 0, and raises the event if asked. An XSPI command stores its fields and
starts, or sets OVERRUN while one runs; FLASH_DONE ends it: 3 for a bad form, 1 for a guarded range, 2 on a flash
error, else 0 with its effect. I2C_READ and I2C_WRITE on a busy controller set OVERRUN; else they store their fields,
select the cage and check the bus, and start the transfer or end it with result 4. I2C_DONE ends the transaction with
its result and the bytes moved, data of a read first. I2C_RESET stores I2C_CFG and ends a transaction with result 5.
With nothing in progress, or a number that does not exist, nothing happens. What FUSE_DONE leaves of a fuse operation
that did not verify, and a failed flash operation, are the command's own arguments (the model's choice, R537, R540).
Where a clause follows a choice or inference of the model and not the spec, it is that of log entries 87, 88, 90 and
148. Rests on R530, R531, R533, R535 to R538, R540, R542 to R544 of 24_management_interfaces.md. -/
def Obligations.CoresFusesFlashAndModuleBusesTakeTheirCommands : Prop :=
  ∀ (s : State) (d : Dev), s.dev.acts = true → d = s.dev →
    (∀ (agent n arg len i moved addr result : Nat) (evt : Bool) (cmd cfg : Word) (sda : List Bool) (data : List Byte),
      isCore agent = false → ∀ c ∈ [Instr.mcCtlStart agent n, .fuseWriteImgKey agent arg evt, .fuseRevokeImgKey agent arg evt,
        .fuseWriteFwKey agent arg evt, .fuseRevokeFwKey agent arg evt, .fuseRaiseImgSvn agent arg evt,
        .fuseRaiseFwSvn agent arg evt, .xspiRead agent len evt, .xspiProgram agent len evt, .xspiErase agent len evt,
        .i2cRead agent i cmd sda, .i2cWrite agent i cmd sda, .i2cReset agent i cfg moved data, .smbTxGo agent addr len result],
        exec c s = s.next (d.bump Root.LOCK_FOREIGN)) ∧
    (∀ agent n : Nat, isCore agent = true →
      (8 ≤ n ∨ d.on (mcUnit n) Mc.MC_STATUS_STATE = true → exec (.mcCtlStart agent n) s = .next s) ∧
      (n < 8 → d.on (mcUnit n) Mc.MC_STATUS_STATE = false →
        exec (.mcCtlStart agent n) s = s.next ((d.s (mcUnit n) Mc.MC_STATUS_STATE 1).setUst (mcId n) stActive))) ∧
    (∀ n t : Nat, t = d.g (mcUnit n) Mc.MC_TIMECMP_TIME →
      (8 ≤ n ∨ d.time < t ∨ t = 2 ^ 64 - 1 → exec (.coreTimer n) s = .next s) ∧
      (n < 8 → t ≤ d.time → t ≠ 2 ^ 64 - 1 → exec (.coreTimer n) s =
        s.next (((d.s (mcUnit n) Mc.MC_TIMECMP_TIME (2 ^ 64 - 1)).raisePriv n 0x0901 t).wakeUnit (mcId n)))) ∧
    (∀ (agent arg : Nat) (evt : Bool), isCore agent = true →
      ∀ c ∈ [(1, Instr.fuseWriteImgKey agent arg evt), (2, .fuseRevokeImgKey agent arg evt), (3, .fuseWriteFwKey agent arg evt),
        (4, .fuseRevokeFwKey agent arg evt), (5, .fuseRaiseImgSvn agent arg evt), (6, .fuseRaiseFwSvn agent arg evt)],
      ∀ e f : Dev, e = ((d.s rootId Root.FUSE_CMD_OP c.1).s rootId Root.FUSE_CMD_ARG arg).s rootId Root.FUSE_CMD_EVT evt.toNat →
        f = e.s rootId Root.FUSE_STATUS_BUSY 1 →
        (e.mgmt.fuse ≠ none → exec c.2 s = s.next e) ∧
        (e.mgmt.fuse = none → exec c.2 s = s.next { f with
          mgmt := { f.mgmt with fuse := some { op := c.1, arg := arg % 256, data := e.fuseData, evt := evt } } })) ∧
    (∀ burnt : Option (List Byte), (d.mgmt.fuse = none → exec (.fuseDone burnt) s = .next s) ∧
      (∀ (o : FuseOp) (r : Nat) (e : Dev), d.mgmt.fuse = some o →
        r = (if fuseOk d.fuse o = false then 1 else if burnt = none then 0 else 2) →
        e = (({ d with
          fuse := if fuseOk d.fuse o then fuseBlow d.fuse o burnt else d.fuse
          mgmt := { d.mgmt with fuse := none } } : Dev).s rootId Root.FUSE_STATUS_BUSY 0).s rootId Root.FUSE_STATUS_RESULT r →
        (o.evt = true → exec (.fuseDone burnt) s = s.next (e.raise rootId 0x0D08 0 (r * 16))) ∧
        (o.evt = false → exec (.fuseDone burnt) s = s.next e))) ∧
    (∀ (agent len : Nat) (evt : Bool), isCore agent = true →
      ∀ c ∈ [(1, Instr.xspiRead agent len evt), (2, .xspiProgram agent len evt), (3, .xspiErase agent len evt)],
      ∀ e f : Dev, e = ((d.s rootId Root.XSPI_CMD_OP c.1).s rootId Root.XSPI_CMD_LEN len).s rootId Root.XSPI_CMD_EVT evt.toNat →
        f = e.s rootId Root.XSPI_STATUS_BUSY 1 →
        (e.mgmt.xspi ≠ none → exec c.2 s = s.next (e.s rootId Root.XSPI_STATUS_OVERRUN 1)) ∧
        (e.mgmt.xspi = none → exec c.2 s = s.next { f with
          mgmt := { f.mgmt with xspi := some { op := c.1, addr := e.g rootId Root.XSPI_ADDR_ADDR, len := len, buf := e.g rootId Root.XSPI_BUF_ADDR, evt := evt } } })) ∧
    (∀ left : Option (List Byte), (d.mgmt.xspi = none → exec (.flashDone left) s = .next s) ∧
      (∀ (o : XspiOp) (r : Nat) (e f : Dev), d.mgmt.xspi = some o →
        r = (if o.formOk = false then 3 else if o.op ≠ 1 ∧ flashGuarded o.range.1 o.range.2 = true then 1
          else if left = none then 0 else 2) →
        e = (if r = 0 then d.xspiRun o else if r = 2 then d.xspiFail o (left.getD []) else d) →
        f = (({ e with mgmt := { e.mgmt with xspi := none } } : Dev).s rootId Root.XSPI_STATUS_BUSY 0).s rootId
          Root.XSPI_STATUS_RESULT r →
        (o.evt = true → exec (.flashDone left) s = s.next (f.raise rootId 0x0D07 0 (r * 16))) ∧
        (o.evt = false → exec (.flashDone left) s = s.next f))) ∧
    (∀ (agent i : Nat) (cmd : Word) (sda : List Bool), isCore agent = true →
      ∀ c ∈ [(true, Instr.i2cRead agent i cmd sda), (false, .i2cWrite agent i cmd sda)],
        (4 ≤ i → exec c.2 s = .next s) ∧
        (i < 4 → d.on (i2cUnit i) I2c.I2C_STATUS_BUSY = true → exec c.2 s = s.next (d.s (i2cUnit i) I2c.I2C_STATUS_OVERRUN 1)) ∧
        (∀ (len cage u : Nat) (evt : Bool) (e f g h : Dev) (free : Bool), u = i2cUnit i →
          len = getBits cmd I2c.I2C_CMD_LEN.lo I2c.I2C_CMD_LEN.w →
          cage = 4 * i + getBits cmd I2c.I2C_CMD_CAGE.lo I2c.I2C_CMD_CAGE.w →
          evt = decide (getBits cmd I2c.I2C_CMD_EVT.lo I2c.I2C_CMD_EVT.w = 1) → i < 4 → d.on u I2c.I2C_STATUS_BUSY = false →
          e = [I2c.I2C_CMD_CAGE, I2c.I2C_CMD_DEV, I2c.I2C_CMD_OFFSET, I2c.I2C_CMD_EVT].foldl
            (fun (d : Dev) (x : Fld) => d.s u x (getBits cmd x.lo x.w)) d →
          f = (if 1 ≤ len ∧ len ≤ 128 then e.s u I2c.I2C_CMD_LEN len else e).s u I2c.I2C_CMD_READ c.1.toNat →
          (f.i2cSelect i cage).busCheck i cage sda = (g, free) →
          h = ((g.s u I2c.I2C_STATUS_BUSY 1).s u I2c.I2C_STATUS_DONE_BYTES 0).emit
            (.serial i (g.i2cBytes i c.1)) →
          (free = false → exec c.2 s = s.next (g.i2cEnd i 4 0 evt)) ∧
          (free = true → exec c.2 s = s.next { h with
            mgmt := { h.mgmt with i2c := updAt h.mgmt.i2c i
                                    (fun _ => some { read := c.1, len := g.g u I2c.I2C_CMD_LEN, evt := evt }) } }))) ∧
    (∀ (i result moved : Nat) (data : List Byte),
      ((d.mgmt.i2c[i]?).join = none ∨ 4 ≤ result → exec (.i2cDone i result moved data) s = .next s) ∧
      (∀ (o : I2cOp) (n : Nat), (d.mgmt.i2c[i]?).join = some o → result < 4 →
        n = (if result = 0 then o.len else if result = 1 then 0 else min moved o.len) →
        exec (.i2cDone i result moved data) s =
          s.next ((if o.read then d.i2cPut i n data else d).i2cEnd i result n o.evt))) ∧
    (∀ (agent i moved : Nat) (cfg : Word) (data : List Byte), isCore agent = true →
      (4 ≤ i → exec (.i2cReset agent i cfg moved data) s = .next s) ∧
      (∀ e : Dev, i < 4 → e = d.i2cCfg i cfg →
        ((e.mgmt.i2c[i]?).join = none → exec (.i2cReset agent i cfg moved data) s = s.next e) ∧
        (∀ o : I2cOp, (e.mgmt.i2c[i]?).join = some o → exec (.i2cReset agent i cfg moved data) s =
          s.next ((if o.read then e.i2cPut i (min moved o.len) data else e).i2cEnd i 5 (min moved o.len) o.evt))))

/-- Module pins, SMBus packets, JTAG instructions and GPIO edges have the effects of R544 to R549. In Run.
MODULE_PRESENCE_CHANGE shows new levels and raises the event, nothing if they stand already. MODULE_INTERRUPT moves
its bit, a fall raising the event. A packet is dropped unless SMBus is on, its address and PEC match and it has at
most 79 bytes; in recovery the boot ROM takes it; with 16 held it is dropped; else it takes the ring slot at WR and
raises the event. SMB_TX_GO of a core does nothing while a send runs, stores ADDR and LEN, sends nothing for a LEN
outside 1 to 72 (the model's choice, assumption 89), stays busy for result 3, and else notes the result, the bytes and
their PEC leaving for result 0. SMBUS_CLOCK_TIMEOUT ends a send with result 3. GPIO_EDGE shows the sampled levels; the
enabled edges join GPIO_IRQ, and an event is raised unless one was within the last millisecond (the model's reading,
assumption 108). In any state: each JTAG instruction loads its code; EXTEST and CLAMP drive the boundary register's
pins, SAMPLE_PRELOAD shifts the captured levels out and the new ones in, IDCODE shifts out 0x232009A7, BYPASS (and
DEBUG without DEBUG_EN) shifts through one bit, DEBUG halts and resumes cores. Where a clause follows a choice or
inference of the model and not the spec, it is that of log entries 89, 91, 92, 108. Rests on R544 to R549 of
24_management_interfaces.md. -/
def Obligations.ModulePinsSmbusJtagAndGpioHaveTheirEffects : Prop :=
  ∀ (s : State) (d : Dev), d = s.dev →
    (s.dev.acts = true →
      (∀ present : Nat,
        (d.g rootId Root.MOD_STATUS_PRESENT = present % 65536 → exec (.modulePresenceChange present) s = .next s) ∧
        (d.g rootId Root.MOD_STATUS_PRESENT ≠ present % 65536 → exec (.modulePresenceChange present) s =
          s.next ((d.s rootId Root.MOD_STATUS_PRESENT (present % 65536)).raise rootId 0x0D03 0 (present % 65536)))) ∧
      (∀ (cage c v : Nat), c = cage % 16 → v = d.g rootId Root.MOD_STATUS_INT →
        (v / 2 ^ c % 2 = 1 → exec (.moduleInterrupt cage true) s = .next s ∧
          exec (.moduleInterrupt cage false) s = s.next (d.s rootId Root.MOD_STATUS_INT (v - 2 ^ c))) ∧
        (v / 2 ^ c % 2 = 0 → exec (.moduleInterrupt cage false) s = .next s ∧
          exec (.moduleInterrupt cage true) s = s.next ((d.s rootId Root.MOD_STATUS_INT (v + 2 ^ c)).raise rootId 0x0D04 0 c))) ∧
      (∀ (addr : Nat) (data : List Byte) (pecOk : Bool),
        (d.on rootId Root.SMB_CFG_EN = false ∨ d.g rootId Root.SMB_CFG_ADDR ≠ addr ∨ pecOk = false ∨ 79 < data.length →
          exec (.smbusPacketReceived addr data pecOk) s = .next s) ∧
        (d.on rootId Root.SMB_CFG_EN = true → d.g rootId Root.SMB_CFG_ADDR = addr → pecOk = true → data.length ≤ 79 →
          (d.g rootId Root.BOOT_STATUS_PHASE = 7 → exec (.smbusPacketReceived addr data pecOk) s = s.next (d.romPacket data)) ∧
          (d.g rootId Root.BOOT_STATUS_PHASE ≠ 7 → 16 ≤ d.mgmt.smbHeld →
            exec (.smbusPacketReceived addr data pecOk) s = .next s) ∧
          (∀ (k : Nat) (e : Dev), d.g rootId Root.BOOT_STATUS_PHASE ≠ 7 → d.mgmt.smbHeld < 16 →
            k = d.g rootId Root.SMB_STATUS_WR →
            e = (d.windowWrite (d.g rootId Root.SMB_RX_RING + 80 * k) (BitVec.ofNat 8 data.length :: data)).s rootId
              Root.SMB_STATUS_WR (k + 1) →
            exec (.smbusPacketReceived addr data pecOk) s = s.next (({ e with
              mgmt := { e.mgmt with smbHeld := e.mgmt.smbHeld + 1 } } : Dev).raise rootId 0x0D06 0 k)))) ∧
      (∀ (agent addr len result : Nat), isCore agent = true →
        (d.on rootId Root.SMB_STATUS_TX_BUSY = true → exec (.smbTxGo agent addr len result) s = .next s) ∧
        (∀ (e : Dev) (bs : List Byte), d.on rootId Root.SMB_STATUS_TX_BUSY = false →
          e = (d.s rootId Root.SMB_TX_ADDR addr).s rootId Root.SMB_TX_LEN len → bs = e.windowRead (addr % 2 ^ 48) len →
          (len = 0 ∨ 72 < len → exec (.smbTxGo agent addr len result) s = s.next e) ∧
          (1 ≤ len → len ≤ 72 →
            (result = 3 → exec (.smbTxGo agent addr len result) s = s.next (e.s rootId Root.SMB_STATUS_TX_BUSY 1)) ∧
            (result = 0 → exec (.smbTxGo agent addr len result) s =
              s.next ((e.emit (.serial 8 (bs ++ [smbPec bs]))).s rootId Root.SMB_STATUS_TX_RESULT 0)) ∧
            (result ≠ 0 → result ≠ 3 → exec (.smbTxGo agent addr len result) s =
              s.next (e.s rootId Root.SMB_STATUS_TX_RESULT (min result 2)))))) ∧
      (d.on rootId Root.SMB_STATUS_TX_BUSY = true → exec .smbusClockTimeout s =
        s.next ((d.s rootId Root.SMB_STATUS_TX_BUSY 0).s rootId Root.SMB_STATUS_TX_RESULT 3)) ∧
      (d.on rootId Root.SMB_STATUS_TX_BUSY = false → exec .smbusClockTimeout s = .next s) ∧
      (∀ (levels seen irq : Nat) (hit : Nat → Bool) (e : Dev),
        hit = (fun k =>
          (d.g rootId Root.GPIO_IN_LEVEL / 2 ^ k % 2 = 0 && levels % 65536 / 2 ^ k % 2 = 1 &&
            d.g rootId Root.GPIO_EDGE_RISE / 2 ^ k % 2 = 1) ||
          (d.g rootId Root.GPIO_IN_LEVEL / 2 ^ k % 2 = 1 && levels % 65536 / 2 ^ k % 2 = 0 &&
            d.g rootId Root.GPIO_EDGE_FALL / 2 ^ k % 2 = 1)) →
        seen = ((List.range 16).filter hit).foldl (fun (n : Nat) k => n + 2 ^ k) 0 →
        e = d.s rootId Root.GPIO_IN_LEVEL (levels % 65536) → irq = Nat.lor (e.g rootId Root.GPIO_IRQ_SEEN) seen →
        (seen = 0 → exec (.gpioEdge levels) s = s.next e) ∧
        (∀ f : Dev, seen ≠ 0 → f = e.s rootId Root.GPIO_IRQ_SEEN irq →
          (∀ t : Nat, f.mgmt.gpioAt = some t → f.time < t + 1000000 → exec (.gpioEdge levels) s = s.next f) ∧
          ((∀ t : Nat, f.mgmt.gpioAt = some t → t + 1000000 ≤ f.time) → exec (.gpioEdge levels) s = s.next (({ f with
            mgmt := { f.mgmt with gpioAt := some f.time } } : Dev).raise rootId 0x0D05 0 irq))))) ∧
    (∀ ir : Nat → Dev, ir = (fun n => { d with mgmt := { d.mgmt with ir := n } }) →
      exec .extest s = s.next (d.mgmt.boundary.foldl (fun (d : Dev) p => d.emit (.pin p.1 p.2)) (ir 0x00)) ∧
      exec .clamp s = s.next (d.mgmt.boundary.foldl (fun (d : Dev) p => d.emit (.pin p.1 p.2)) (ir 0x04)) ∧
      exec .idcode s = s.next ((ir 0x02).emit (.readData 0x232009A7)) ∧
      exec .highz s = s.next (ir 0x05) ∧
      (∀ (levels load : List (Pin × Bool)) (e : Dev),
        e = (ir 0x01).emit (.readBytes (levels.map (fun p => if p.2 then 1 else 0))) →
        exec (.samplePreload levels load) s = s.next { e with mgmt := { e.mgmt with boundary := load } }) ∧
      (∀ tdi : List Bool, exec (.bypass tdi) s = s.next ((ir 0xFF).shiftBypass tdi) ∧
        (∀ halt resume : List Nat,
          (d.fuseLoaded.debugEn = false → exec (.jtagDebug halt resume tdi) s = s.next ((ir 0x10).shiftBypass tdi)) ∧
          (d.fuseLoaded.debugEn = true → exec (.jtagDebug halt resume tdi) s = s.next
            (resume.foldl (fun (d : Dev) n =>
              if n < 8 ∧ d.g (mcUnit n) Mc.MC_STATUS_STATE = 3 then d.s (mcUnit n) Mc.MC_STATUS_STATE 1 else d)
              (halt.foldl (fun (d : Dev) n => if n < 8 then d.s (mcUnit n) Mc.MC_STATUS_STATE 3 else d) (ir 0x10)))))))

/-- R19: member i of a hitch at base B sits at B + OFFSET + i x 2^STRIDE_LOG2, and an address there reaches that
member's block. In a tree as an accepted image makes it (Safety's treeOk: R19 to R23, no hitch PATCHING), for every
unit u that stands in the tree at most 48 levels deep: each address in the 64 KiB from u's harness address on is found
in the block of u, at its offset there. For every member m of a hitch u less than 48 levels deep, at index i, m's
harness address is u's address + OFFSET + i x 2^STRIDE_LOG2, with OFFSET and STRIDE_LOG2 the fields of u's header, and
the addresses from there on are found in the block of m. Rests on R19. -/
def Obligations.MembersAreFoundAtTheAddressesOfTheirSlots : Prop :=
  ∀ (d : Dev) (u : Nat), d.treeOk = true → d.present u = true → (d.pathUp treeFuel u).length ≤ treeFuel →
    (∀ r : Nat, r < 0x10000 → d.locate (d.addrOf u + r) = .block u r) ∧
    (∀ (h : Hitch) (i m r : Nat), d.hitch u = some h → h.members[i]? = some m → (d.pathUp treeFuel u).length < treeFuel →
      d.addrOf m = d.addrOf u + d.g u Hdr.FIRST_MEMBER_OFFSET_OFFSET + i * 2 ^ d.g u Hdr.MEMBER_STRIDE_STRIDE_LOG2 ∧
      (r < 0x10000 → d.locate (d.addrOf u + d.g u Hdr.FIRST_MEMBER_OFFSET_OFFSET +
        i * 2 ^ d.g u Hdr.MEMBER_STRIDE_STRIDE_LOG2 + r) = .block m r))

/-- A register, record or memory byte reads back as written, every other one as before, and the stores stay canonical.
For every device whose stores are in canonical form (keys rise, no entry equals what its key reads as when unlisted).
Setting a register cell keeps that form; the cell then reads the value and every other cell as before (offsets below
2^22). Writing the words of a context record (at most 256, index below 2^56) keeps it; the written words read back,
every other word of every record as before. Clearing a record makes its words read as unlisted. Writing bytes to a
memory within 2^56 keeps the form; each written byte reads back, and every other byte of every memory reads as before,
except in an 8-byte word of core memory with an uncorrectable error that the write touches (the model's choice,
assumption 85). None of these changes the other kinds of state. Two canonical stores that read alike everywhere are
equal. The canonical form is the model's own representation of memory. Where a clause follows a choice or inference of
the model and not the spec, it is that of log entries 4, 85. Rests on R14, R15 of 01_tiles_and_hitches.md, R506 of
22_integrity_map.md, R534 of 24_management_interfaces.md. -/
def Obligations.RegistersRecordsAndBytesReadBackAndStayCanonical : Prop :=
  (∀ (d : Dev) (u off : Nat) (v : Word), d.canon = true →
    (d.setCell u off v).canon = true ∧ (d.setCell u off v).cell u off = v ∧
    (∀ u' off' : Nat, off < 2 ^ 22 → off' < 2 ^ 22 → (u' ≠ u ∨ off' ≠ off) →
      (d.setCell u off v).cell u' off' = d.cell u' off') ∧
    { d.setCell u off v with regs := d.regs } = d) ∧
  (∀ (d : Dev) (c : Cls) (i : Nat) (ws : List Word), d.canon = true → i < 2 ^ 56 → ws.length ≤ 256 →
    (d.setRec c i ws).canon = true ∧ (d.clearRec c i).canon = true ∧
    (∀ (w : Nat) (v : Word), ws[w]? = some v → (d.setRec c i ws).ow c.code i w = v) ∧
    (∀ c' i' w : Nat, i' < 2 ^ 56 → w < 256 → (c' ≠ c.code ∨ i' ≠ i ∨ ws.length ≤ w) →
      (d.setRec c i ws).ow c' i' w = d.ow c' i' w) ∧
    (∀ w : Nat, w < 256 → (d.clearRec c i).ow c.code i w = ctxReset (okey c.code i w)) ∧
    (∀ c' i' w : Nat, i' < 2 ^ 56 → w < 256 → (c' ≠ c.code ∨ i' ≠ i) → (d.clearRec c i).ow c' i' w = d.ow c' i' w) ∧
    { d.setRec c i ws with objs := d.objs, integ := d.integ } = d ∧
    { d.clearRec c i with objs := d.objs, integ := d.integ } = d) ∧
  (∀ (d : Dev) (sp : Space) (a : Nat) (bs : List Byte), d.canon = true → a + bs.length ≤ 2 ^ 56 →
    (d.writeMem sp a bs).canon = true ∧
    (∀ (k : Nat) (b : Byte), bs[k]? = some b → (d.writeMem sp a bs).byte sp (a + k) = b) ∧
    (∀ (sp' : Space) (x : Nat), x < 2 ^ 56 → (sp' ≠ sp ∨ x < a ∨ a + bs.length ≤ x) →
      (sp' = .core → sp = .core → x / 8 ∈ d.integ.core → 8 * (x / 8) + 7 < a ∨ a + bs.length ≤ 8 * (x / 8)) →
      (d.writeMem sp a bs).byte sp' x = d.byte sp' x) ∧
    { d.writeMem sp a bs with bytes := d.bytes, integ := d.integ } = d) ∧
  (∀ d e : Dev, d.canon = true → e.canon = true →
    ((∀ k : Nat, stGet regReset d.regs k = stGet regReset e.regs k) → d.regs = e.regs) ∧
    ((∀ k : Nat, stGet ctxReset d.objs k = stGet ctxReset e.objs k) → d.objs = e.objs) ∧
    ((∀ k : Nat, stGet byteReset d.bytes k = stGet byteReset e.bytes k) → d.bytes = e.bytes))

/-- Right after reset the queue is empty, nothing is stored, the tree is bare and the registers read their table
values. State.reset has no command waiting, every store in canonical form with no byte of memory and no record listed,
a tree that meets treeOk with the root hitch alone and all 391 fixed units as its members, no interrupt-event raised,
and reads what the register tables give, for the header of the root and of a tile (EVENT_SOURCE, GAIT_STATE CEIL,
UNIT_CONTROL), IMG_STATUS and IMG_FAIL_INFO, ENT_STATUS, the endpoint's subsystem and link registers, the admin
queue's sizes and phases, EQ sizes, the fixed bases of the arbiter and mailboxes, RX_CFG, MC_TIMECMP and I2C_CMD.
Where a clause follows a choice or inference of the model and not the spec, it is that of log entries 3, 4, 74. Rests
on R17 of 01_tiles_and_hitches.md, R55 of 02_harness_image.md, R265 of 10_crypto_and_entropy.md, R325 of
13_host_endpoint.md, R377 of 15_rings_and_admin_queue.md, R413, R414 of 17_events_and_interrupts.md, R431, R433 of
18_mailboxes_and_locks.md, R516 of 23_reset_and_bring_up.md, R535, R544 of 24_management_interfaces.md. -/
def Obligations.ResetLeavesTheValuesTheSpecGives : Prop :=
  State.reset.pending = [] ∧ State.reset.canon = true ∧ State.reset.dev.bytes = [] ∧ State.reset.dev.objs = [] ∧
  State.reset.dev.ev.presented = [] ∧ State.reset.dev.ev.waiting = [] ∧ State.reset.dev.out = [] ∧
  State.reset.dev.treeOk = true ∧ State.reset.dev.hitches.map Hitch.id = [rootId] ∧ (State.reset.dev.members rootId).length = 391 ∧
  State.reset.dev.g rootId Hdr.EVENT_SOURCE_TARGET_OWNER = 2 ∧ State.reset.dev.g (peId 0) Hdr.EVENT_SOURCE_TARGET_OWNER = 3 ∧
  State.reset.dev.g (peId 0) Hdr.EVENT_SOURCE_ENABLE = 1 ∧ State.reset.dev.g (peId 0) Hdr.GAIT_STATE_FLOOR = 0 ∧
  State.reset.dev.g (peId 0) Hdr.GAIT_STATE_CEIL = 5 ∧ State.reset.dev.g (peId 0) Hdr.UNIT_CONTROL_ENABLE = 0 ∧
  State.reset.dev.g rootId Root.IMG_STATUS_STATE = 0 ∧ State.reset.dev.g rootId Root.IMG_STATUS_BOOT_SLOT = 3 ∧
  State.reset.dev.g rootId Root.IMG_FAIL_INFO_SECTION = 0xFFFF ∧ State.reset.dev.g rootId Root.IMG_FAIL_INFO_SOURCE = 3 ∧
  State.reset.dev.g rootId Root.ENT_STATUS_STATE = 1 ∧ State.reset.dev.g rootId Root.EVT_MC_EQ_BASE_ADDR = 0xFF0001020000 ∧
  State.reset.dev.g rootId Root.MBX_SEND_BASE_ADDR = 0xFF0001000000 ∧ State.reset.dev.g rootId Root.LOCK_BASE_ADDR = 0xFF0001018000 ∧
  State.reset.dev.g (epId 1) Ep.EP_SUBSYS_SSVID = 0x1F9C ∧ State.reset.dev.g (epId 1) Ep.EP_LINK_CTL_MAX_RATE = 7 ∧
  State.reset.dev.g (epId 1) Ep.EP_LINK_CTL_MAX_WIDTH = 16 ∧ State.reset.dev.g (epId 1) Ep.EP_LINK_CTL_L1_IDLE_US = 8 ∧
  State.reset.dev.g (epId 1) Ep.AQ_CFG_WQ_SIZE_LOG2 = 6 ∧ State.reset.dev.g (epId 1) Ep.AQ_CFG_CQ_SIZE_LOG2 = 6 ∧
  State.reset.dev.g (epId 1) Ep.AQ_STATUS_HEAD_PHASE = 1 ∧ State.reset.dev.g (eqUnit 1 1023) Eqb.EQ_CFG_SIZE_LOG2 = 6 ∧
  State.reset.dev.g (mcUnit 7) Mc.MC_TIMECMP_TIME = 0xFFFFFFFFFFFFFFFF ∧ State.reset.dev.g (i2cUnit 3) I2c.I2C_CMD_DEV = 0x50 ∧
  State.reset.dev.g (i2cUnit 3) I2c.I2C_CMD_LEN = 1
end

