-- ==== Sys2Proof/Laws/Fields.lean ====
section
/-! SUPPORT. The laws of fields of 64-bit words: a field written reads back modulo its width, and a write leaves every bit
outside the field alone. -/

namespace Sys2Proof.Machine

/-- Bit `i` of a field's value. -/
theorem testBit_getBits (x : Word) (lo w i : Nat) :
    (getBits x lo w).testBit i = (decide (i < w) && x.getLsbD (lo + i)) := by
  simp only [getBits, Nat.testBit_mod_two_pow, Nat.testBit_div_two_pow, BitVec.getLsbD]
  rw [Nat.add_comm]

/-- Bit `j` of a field's mask. -/
theorem getLsbD_fieldMask (lo w j : Nat) (hj : j < 64) :
    (fieldMask lo w).getLsbD j = (decide (lo ≤ j) && decide (j < lo + w)) := by
  simp only [fieldMask, BitVec.getLsbD_ofNat, hj, decide_true, Bool.true_and, Nat.testBit_mul_two_pow]
  by_cases h : lo ≤ j
  · simp only [h, decide_true, Bool.true_and, Nat.testBit_two_pow_sub_one]
    have : (j - lo < w) ↔ (j < lo + w) := by omega
    simp [this]
  · simp [h]

/-- Bit `j` of a word one of whose fields has been written. -/
theorem getLsbD_putBits (x : Word) (lo w v j : Nat) (hj : j < 64) :
    (putBits x lo w v).getLsbD j =
      if lo ≤ j ∧ j < lo + w then v.testBit (j - lo) else x.getLsbD j := by
  simp only [putBits, BitVec.getLsbD_or, BitVec.getLsbD_and, BitVec.getLsbD_not, getLsbD_fieldMask lo w j hj,
    BitVec.getLsbD_ofNat, hj, decide_true, Bool.true_and, Nat.testBit_mul_two_pow, Nat.testBit_mod_two_pow]
  by_cases h1 : lo ≤ j
  · by_cases h2 : j < lo + w
    · have : j - lo < w := by omega
      simp [h1, h2, this]
    · have : ¬ (j - lo < w) := by omega
      simp [h1, h2, this]
  · simp [h1]

/-- A field written reads back modulo its width. -/
theorem getBits_putBits_same (x : Word) (lo w v : Nat) (h : lo + w ≤ 64) :
    getBits (putBits x lo w v) lo w = v % 2 ^ w := by
  apply Nat.eq_of_testBit_eq
  intro i
  rw [testBit_getBits, Nat.testBit_mod_two_pow]
  by_cases hi : i < w
  · rw [getLsbD_putBits x lo w v (lo + i) (by omega)]
    have : lo + i < lo + w := by omega
    simp [hi]
  · simp [hi]

/-- Writing a field leaves every field apart from it alone. -/
theorem getBits_putBits_other (x : Word) (lo w v lo' w' : Nat) (h : lo' + w' ≤ lo ∨ lo + w ≤ lo') :
    getBits (putBits x lo w v) lo' w' = getBits x lo' w' := by
  apply Nat.eq_of_testBit_eq
  intro i
  rw [testBit_getBits, testBit_getBits]
  by_cases hi : i < w'
  · by_cases hj : lo' + i < 64
    · rw [getLsbD_putBits x lo w v (lo' + i) hj]
      have : ¬ (lo ≤ lo' + i ∧ lo' + i < lo + w) := by omega
      simp [this]
    · have h64 : 64 ≤ lo' + i := by omega
      rw [BitVec.getLsbD_of_ge _ _ h64, BitVec.getLsbD_of_ge _ _ h64]
  · simp [hi]

/-- The value of a field is below 2 to its width. -/
theorem getBits_lt (x : Word) (lo w : Nat) : getBits x lo w < 2 ^ w := Nat.mod_lt _ (Nat.two_pow_pos w)

/-- A field that holds its value modulo its width may be written again without a change. -/
theorem putBits_getBits (x : Word) (lo w : Nat) : putBits x lo w (getBits x lo w) = x := by
  apply BitVec.eq_of_getLsbD_eq
  intro j hj
  rw [getLsbD_putBits x lo w _ j hj]
  split
  · rename_i h
    rw [testBit_getBits]
    have h1 : j - lo < w := by omega
    have h2 : lo + (j - lo) = j := by omega
    simp [h1, h2]
  · rfl

end Sys2Proof.Machine
end

