-- ==== Sys2Proof/Laws/State.lean ====
section
/-! SUPPORT. What each primitive update of the device leaves alone: one lemma per field per update. Each rests on a lemma about
an arbitrary new value of the field that changes, so that no check compares the stores themselves. -/

namespace Sys2Proof.Machine

variable (d : Dev)

/-! ### `regs` replaced -/

theorem Dev.with_regs_objs (x : List (Nat × Word)) : (Dev.objs { d with regs := x }) = d.objs := by cases d; rfl
theorem Dev.with_regs_bytes (x : List (Nat × Word)) : (Dev.bytes { d with regs := x }) = d.bytes := by cases d; rfl
theorem Dev.with_regs_hitches (x : List (Nat × Word)) : (Dev.hitches { d with regs := x }) = d.hitches := by cases d; rfl
theorem Dev.with_regs_ev (x : List (Nat × Word)) : (Dev.ev { d with regs := x }) = d.ev := by cases d; rfl
theorem Dev.with_regs_img (x : List (Nat × Word)) : (Dev.img { d with regs := x }) = d.img := by cases d; rfl
theorem Dev.with_regs_epA (x : List (Nat × Word)) : (Dev.epA { d with regs := x }) = d.epA := by cases d; rfl
theorem Dev.with_regs_epB (x : List (Nat × Word)) : (Dev.epB { d with regs := x }) = d.epB := by cases d; rfl
theorem Dev.with_regs_out (x : List (Nat × Word)) : (Dev.out { d with regs := x }) = d.out := by cases d; rfl
theorem Dev.with_regs_time (x : List (Nat × Word)) : (Dev.time { d with regs := x }) = d.time := by cases d; rfl
theorem Dev.with_regs_free (x : List (Nat × Word)) : (Dev.free { d with regs := x }) = d.free := by cases d; rfl
theorem Dev.with_regs_fuse (x : List (Nat × Word)) : (Dev.fuse { d with regs := x }) = d.fuse := by cases d; rfl
theorem Dev.with_regs_fuseLoaded (x : List (Nat × Word)) : (Dev.fuseLoaded { d with regs := x }) = d.fuseLoaded := by cases d; rfl
theorem Dev.with_regs_macs (x : List (Nat × Word)) : (Dev.macs { d with regs := x }) = d.macs := by cases d; rfl
theorem Dev.with_regs_tb (x : List (Nat × Word)) : (Dev.tb { d with regs := x }) = d.tb := by cases d; rfl
theorem Dev.with_regs_prism (x : List (Nat × Word)) : (Dev.prism { d with regs := x }) = d.prism := by cases d; rfl
theorem Dev.with_regs_tbl (x : List (Nat × Word)) : (Dev.tbl { d with regs := x }) = d.tbl := by cases d; rfl
theorem Dev.with_regs_pes (x : List (Nat × Word)) : (Dev.pes { d with regs := x }) = d.pes := by cases d; rfl
theorem Dev.with_regs_ehs (x : List (Nat × Word)) : (Dev.ehs { d with regs := x }) = d.ehs := by cases d; rfl
theorem Dev.with_regs_sw (x : List (Nat × Word)) : (Dev.sw { d with regs := x }) = d.sw := by cases d; rfl
theorem Dev.with_regs_sched (x : List (Nat × Word)) : (Dev.sched { d with regs := x }) = d.sched := by cases d; rfl
theorem Dev.with_regs_cry (x : List (Nat × Word)) : (Dev.cry { d with regs := x }) = d.cry := by cases d; rfl
theorem Dev.with_regs_tp (x : List (Nat × Word)) : (Dev.tp { d with regs := x }) = d.tp := by cases d; rfl
theorem Dev.with_regs_stor (x : List (Nat × Word)) : (Dev.stor { d with regs := x }) = d.stor := by cases d; rfl
theorem Dev.with_regs_queues (x : List (Nat × Word)) : (Dev.queues { d with regs := x }) = d.queues := by cases d; rfl
theorem Dev.with_regs_admin (x : List (Nat × Word)) : (Dev.admin { d with regs := x }) = d.admin := by cases d; rfl
theorem Dev.with_regs_aqRung (x : List (Nat × Word)) : (Dev.aqRung { d with regs := x }) = d.aqRung := by cases d; rfl
theorem Dev.with_regs_dma (x : List (Nat × Word)) : (Dev.dma { d with regs := x }) = d.dma := by cases d; rfl
theorem Dev.with_regs_mbx (x : List (Nat × Word)) : (Dev.mbx { d with regs := x }) = d.mbx := by cases d; rfl
theorem Dev.with_regs_power (x : List (Nat × Word)) : (Dev.power { d with regs := x }) = d.power := by cases d; rfl
theorem Dev.with_regs_twin (x : List (Nat × Word)) : (Dev.twin { d with regs := x }) = d.twin := by cases d; rfl
theorem Dev.with_regs_relay (x : List (Nat × Word)) : (Dev.relay { d with regs := x }) = d.relay := by cases d; rfl
theorem Dev.with_regs_integ (x : List (Nat × Word)) : (Dev.integ { d with regs := x }) = d.integ := by cases d; rfl
theorem Dev.with_regs_boot (x : List (Nat × Word)) : (Dev.boot { d with regs := x }) = d.boot := by cases d; rfl
theorem Dev.with_regs_mgmt (x : List (Nat × Word)) : (Dev.mgmt { d with regs := x }) = d.mgmt := by cases d; rfl

/-! ### `objs` replaced -/

theorem Dev.with_objs_regs (x : List (Nat × Word)) : (Dev.regs { d with objs := x }) = d.regs := by cases d; rfl
theorem Dev.with_objs_bytes (x : List (Nat × Word)) : (Dev.bytes { d with objs := x }) = d.bytes := by cases d; rfl
theorem Dev.with_objs_hitches (x : List (Nat × Word)) : (Dev.hitches { d with objs := x }) = d.hitches := by cases d; rfl
theorem Dev.with_objs_ev (x : List (Nat × Word)) : (Dev.ev { d with objs := x }) = d.ev := by cases d; rfl
theorem Dev.with_objs_img (x : List (Nat × Word)) : (Dev.img { d with objs := x }) = d.img := by cases d; rfl
theorem Dev.with_objs_epA (x : List (Nat × Word)) : (Dev.epA { d with objs := x }) = d.epA := by cases d; rfl
theorem Dev.with_objs_epB (x : List (Nat × Word)) : (Dev.epB { d with objs := x }) = d.epB := by cases d; rfl
theorem Dev.with_objs_out (x : List (Nat × Word)) : (Dev.out { d with objs := x }) = d.out := by cases d; rfl
theorem Dev.with_objs_time (x : List (Nat × Word)) : (Dev.time { d with objs := x }) = d.time := by cases d; rfl
theorem Dev.with_objs_free (x : List (Nat × Word)) : (Dev.free { d with objs := x }) = d.free := by cases d; rfl
theorem Dev.with_objs_fuse (x : List (Nat × Word)) : (Dev.fuse { d with objs := x }) = d.fuse := by cases d; rfl
theorem Dev.with_objs_fuseLoaded (x : List (Nat × Word)) : (Dev.fuseLoaded { d with objs := x }) = d.fuseLoaded := by cases d; rfl
theorem Dev.with_objs_macs (x : List (Nat × Word)) : (Dev.macs { d with objs := x }) = d.macs := by cases d; rfl
theorem Dev.with_objs_tb (x : List (Nat × Word)) : (Dev.tb { d with objs := x }) = d.tb := by cases d; rfl
theorem Dev.with_objs_prism (x : List (Nat × Word)) : (Dev.prism { d with objs := x }) = d.prism := by cases d; rfl
theorem Dev.with_objs_tbl (x : List (Nat × Word)) : (Dev.tbl { d with objs := x }) = d.tbl := by cases d; rfl
theorem Dev.with_objs_pes (x : List (Nat × Word)) : (Dev.pes { d with objs := x }) = d.pes := by cases d; rfl
theorem Dev.with_objs_ehs (x : List (Nat × Word)) : (Dev.ehs { d with objs := x }) = d.ehs := by cases d; rfl
theorem Dev.with_objs_sw (x : List (Nat × Word)) : (Dev.sw { d with objs := x }) = d.sw := by cases d; rfl
theorem Dev.with_objs_sched (x : List (Nat × Word)) : (Dev.sched { d with objs := x }) = d.sched := by cases d; rfl
theorem Dev.with_objs_cry (x : List (Nat × Word)) : (Dev.cry { d with objs := x }) = d.cry := by cases d; rfl
theorem Dev.with_objs_tp (x : List (Nat × Word)) : (Dev.tp { d with objs := x }) = d.tp := by cases d; rfl
theorem Dev.with_objs_stor (x : List (Nat × Word)) : (Dev.stor { d with objs := x }) = d.stor := by cases d; rfl
theorem Dev.with_objs_queues (x : List (Nat × Word)) : (Dev.queues { d with objs := x }) = d.queues := by cases d; rfl
theorem Dev.with_objs_admin (x : List (Nat × Word)) : (Dev.admin { d with objs := x }) = d.admin := by cases d; rfl
theorem Dev.with_objs_aqRung (x : List (Nat × Word)) : (Dev.aqRung { d with objs := x }) = d.aqRung := by cases d; rfl
theorem Dev.with_objs_dma (x : List (Nat × Word)) : (Dev.dma { d with objs := x }) = d.dma := by cases d; rfl
theorem Dev.with_objs_mbx (x : List (Nat × Word)) : (Dev.mbx { d with objs := x }) = d.mbx := by cases d; rfl
theorem Dev.with_objs_power (x : List (Nat × Word)) : (Dev.power { d with objs := x }) = d.power := by cases d; rfl
theorem Dev.with_objs_twin (x : List (Nat × Word)) : (Dev.twin { d with objs := x }) = d.twin := by cases d; rfl
theorem Dev.with_objs_relay (x : List (Nat × Word)) : (Dev.relay { d with objs := x }) = d.relay := by cases d; rfl
theorem Dev.with_objs_integ (x : List (Nat × Word)) : (Dev.integ { d with objs := x }) = d.integ := by cases d; rfl
theorem Dev.with_objs_boot (x : List (Nat × Word)) : (Dev.boot { d with objs := x }) = d.boot := by cases d; rfl
theorem Dev.with_objs_mgmt (x : List (Nat × Word)) : (Dev.mgmt { d with objs := x }) = d.mgmt := by cases d; rfl

/-! ### `out` replaced -/

theorem Dev.with_out_regs (x : List Out) : (Dev.regs { d with out := x }) = d.regs := by cases d; rfl
theorem Dev.with_out_objs (x : List Out) : (Dev.objs { d with out := x }) = d.objs := by cases d; rfl
theorem Dev.with_out_bytes (x : List Out) : (Dev.bytes { d with out := x }) = d.bytes := by cases d; rfl
theorem Dev.with_out_hitches (x : List Out) : (Dev.hitches { d with out := x }) = d.hitches := by cases d; rfl
theorem Dev.with_out_ev (x : List Out) : (Dev.ev { d with out := x }) = d.ev := by cases d; rfl
theorem Dev.with_out_img (x : List Out) : (Dev.img { d with out := x }) = d.img := by cases d; rfl
theorem Dev.with_out_epA (x : List Out) : (Dev.epA { d with out := x }) = d.epA := by cases d; rfl
theorem Dev.with_out_epB (x : List Out) : (Dev.epB { d with out := x }) = d.epB := by cases d; rfl
theorem Dev.with_out_time (x : List Out) : (Dev.time { d with out := x }) = d.time := by cases d; rfl
theorem Dev.with_out_free (x : List Out) : (Dev.free { d with out := x }) = d.free := by cases d; rfl
theorem Dev.with_out_fuse (x : List Out) : (Dev.fuse { d with out := x }) = d.fuse := by cases d; rfl
theorem Dev.with_out_fuseLoaded (x : List Out) : (Dev.fuseLoaded { d with out := x }) = d.fuseLoaded := by cases d; rfl
theorem Dev.with_out_macs (x : List Out) : (Dev.macs { d with out := x }) = d.macs := by cases d; rfl
theorem Dev.with_out_tb (x : List Out) : (Dev.tb { d with out := x }) = d.tb := by cases d; rfl
theorem Dev.with_out_prism (x : List Out) : (Dev.prism { d with out := x }) = d.prism := by cases d; rfl
theorem Dev.with_out_tbl (x : List Out) : (Dev.tbl { d with out := x }) = d.tbl := by cases d; rfl
theorem Dev.with_out_pes (x : List Out) : (Dev.pes { d with out := x }) = d.pes := by cases d; rfl
theorem Dev.with_out_ehs (x : List Out) : (Dev.ehs { d with out := x }) = d.ehs := by cases d; rfl
theorem Dev.with_out_sw (x : List Out) : (Dev.sw { d with out := x }) = d.sw := by cases d; rfl
theorem Dev.with_out_sched (x : List Out) : (Dev.sched { d with out := x }) = d.sched := by cases d; rfl
theorem Dev.with_out_cry (x : List Out) : (Dev.cry { d with out := x }) = d.cry := by cases d; rfl
theorem Dev.with_out_tp (x : List Out) : (Dev.tp { d with out := x }) = d.tp := by cases d; rfl
theorem Dev.with_out_stor (x : List Out) : (Dev.stor { d with out := x }) = d.stor := by cases d; rfl
theorem Dev.with_out_queues (x : List Out) : (Dev.queues { d with out := x }) = d.queues := by cases d; rfl
theorem Dev.with_out_admin (x : List Out) : (Dev.admin { d with out := x }) = d.admin := by cases d; rfl
theorem Dev.with_out_aqRung (x : List Out) : (Dev.aqRung { d with out := x }) = d.aqRung := by cases d; rfl
theorem Dev.with_out_dma (x : List Out) : (Dev.dma { d with out := x }) = d.dma := by cases d; rfl
theorem Dev.with_out_mbx (x : List Out) : (Dev.mbx { d with out := x }) = d.mbx := by cases d; rfl
theorem Dev.with_out_power (x : List Out) : (Dev.power { d with out := x }) = d.power := by cases d; rfl
theorem Dev.with_out_twin (x : List Out) : (Dev.twin { d with out := x }) = d.twin := by cases d; rfl
theorem Dev.with_out_relay (x : List Out) : (Dev.relay { d with out := x }) = d.relay := by cases d; rfl
theorem Dev.with_out_integ (x : List Out) : (Dev.integ { d with out := x }) = d.integ := by cases d; rfl
theorem Dev.with_out_boot (x : List Out) : (Dev.boot { d with out := x }) = d.boot := by cases d; rfl
theorem Dev.with_out_mgmt (x : List Out) : (Dev.mgmt { d with out := x }) = d.mgmt := by cases d; rfl

/-! ### `free` replaced -/

theorem Dev.with_free_regs (x : Nat) : (Dev.regs { d with free := x }) = d.regs := by cases d; rfl
theorem Dev.with_free_objs (x : Nat) : (Dev.objs { d with free := x }) = d.objs := by cases d; rfl
theorem Dev.with_free_bytes (x : Nat) : (Dev.bytes { d with free := x }) = d.bytes := by cases d; rfl
theorem Dev.with_free_hitches (x : Nat) : (Dev.hitches { d with free := x }) = d.hitches := by cases d; rfl
theorem Dev.with_free_ev (x : Nat) : (Dev.ev { d with free := x }) = d.ev := by cases d; rfl
theorem Dev.with_free_img (x : Nat) : (Dev.img { d with free := x }) = d.img := by cases d; rfl
theorem Dev.with_free_epA (x : Nat) : (Dev.epA { d with free := x }) = d.epA := by cases d; rfl
theorem Dev.with_free_epB (x : Nat) : (Dev.epB { d with free := x }) = d.epB := by cases d; rfl
theorem Dev.with_free_out (x : Nat) : (Dev.out { d with free := x }) = d.out := by cases d; rfl
theorem Dev.with_free_time (x : Nat) : (Dev.time { d with free := x }) = d.time := by cases d; rfl
theorem Dev.with_free_fuse (x : Nat) : (Dev.fuse { d with free := x }) = d.fuse := by cases d; rfl
theorem Dev.with_free_fuseLoaded (x : Nat) : (Dev.fuseLoaded { d with free := x }) = d.fuseLoaded := by cases d; rfl
theorem Dev.with_free_macs (x : Nat) : (Dev.macs { d with free := x }) = d.macs := by cases d; rfl
theorem Dev.with_free_tb (x : Nat) : (Dev.tb { d with free := x }) = d.tb := by cases d; rfl
theorem Dev.with_free_prism (x : Nat) : (Dev.prism { d with free := x }) = d.prism := by cases d; rfl
theorem Dev.with_free_tbl (x : Nat) : (Dev.tbl { d with free := x }) = d.tbl := by cases d; rfl
theorem Dev.with_free_pes (x : Nat) : (Dev.pes { d with free := x }) = d.pes := by cases d; rfl
theorem Dev.with_free_ehs (x : Nat) : (Dev.ehs { d with free := x }) = d.ehs := by cases d; rfl
theorem Dev.with_free_sw (x : Nat) : (Dev.sw { d with free := x }) = d.sw := by cases d; rfl
theorem Dev.with_free_sched (x : Nat) : (Dev.sched { d with free := x }) = d.sched := by cases d; rfl
theorem Dev.with_free_cry (x : Nat) : (Dev.cry { d with free := x }) = d.cry := by cases d; rfl
theorem Dev.with_free_tp (x : Nat) : (Dev.tp { d with free := x }) = d.tp := by cases d; rfl
theorem Dev.with_free_stor (x : Nat) : (Dev.stor { d with free := x }) = d.stor := by cases d; rfl
theorem Dev.with_free_queues (x : Nat) : (Dev.queues { d with free := x }) = d.queues := by cases d; rfl
theorem Dev.with_free_admin (x : Nat) : (Dev.admin { d with free := x }) = d.admin := by cases d; rfl
theorem Dev.with_free_aqRung (x : Nat) : (Dev.aqRung { d with free := x }) = d.aqRung := by cases d; rfl
theorem Dev.with_free_dma (x : Nat) : (Dev.dma { d with free := x }) = d.dma := by cases d; rfl
theorem Dev.with_free_mbx (x : Nat) : (Dev.mbx { d with free := x }) = d.mbx := by cases d; rfl
theorem Dev.with_free_power (x : Nat) : (Dev.power { d with free := x }) = d.power := by cases d; rfl
theorem Dev.with_free_twin (x : Nat) : (Dev.twin { d with free := x }) = d.twin := by cases d; rfl
theorem Dev.with_free_relay (x : Nat) : (Dev.relay { d with free := x }) = d.relay := by cases d; rfl
theorem Dev.with_free_integ (x : Nat) : (Dev.integ { d with free := x }) = d.integ := by cases d; rfl
theorem Dev.with_free_boot (x : Nat) : (Dev.boot { d with free := x }) = d.boot := by cases d; rfl
theorem Dev.with_free_mgmt (x : Nat) : (Dev.mgmt { d with free := x }) = d.mgmt := by cases d; rfl

/-! ### `hitches` replaced -/

theorem Dev.with_hitches_regs (x : List Hitch) : (Dev.regs { d with hitches := x }) = d.regs := by cases d; rfl
theorem Dev.with_hitches_objs (x : List Hitch) : (Dev.objs { d with hitches := x }) = d.objs := by cases d; rfl
theorem Dev.with_hitches_bytes (x : List Hitch) : (Dev.bytes { d with hitches := x }) = d.bytes := by cases d; rfl
theorem Dev.with_hitches_ev (x : List Hitch) : (Dev.ev { d with hitches := x }) = d.ev := by cases d; rfl
theorem Dev.with_hitches_img (x : List Hitch) : (Dev.img { d with hitches := x }) = d.img := by cases d; rfl
theorem Dev.with_hitches_epA (x : List Hitch) : (Dev.epA { d with hitches := x }) = d.epA := by cases d; rfl
theorem Dev.with_hitches_epB (x : List Hitch) : (Dev.epB { d with hitches := x }) = d.epB := by cases d; rfl
theorem Dev.with_hitches_out (x : List Hitch) : (Dev.out { d with hitches := x }) = d.out := by cases d; rfl
theorem Dev.with_hitches_time (x : List Hitch) : (Dev.time { d with hitches := x }) = d.time := by cases d; rfl
theorem Dev.with_hitches_free (x : List Hitch) : (Dev.free { d with hitches := x }) = d.free := by cases d; rfl
theorem Dev.with_hitches_fuse (x : List Hitch) : (Dev.fuse { d with hitches := x }) = d.fuse := by cases d; rfl
theorem Dev.with_hitches_fuseLoaded (x : List Hitch) : (Dev.fuseLoaded { d with hitches := x }) = d.fuseLoaded := by cases d; rfl
theorem Dev.with_hitches_macs (x : List Hitch) : (Dev.macs { d with hitches := x }) = d.macs := by cases d; rfl
theorem Dev.with_hitches_tb (x : List Hitch) : (Dev.tb { d with hitches := x }) = d.tb := by cases d; rfl
theorem Dev.with_hitches_prism (x : List Hitch) : (Dev.prism { d with hitches := x }) = d.prism := by cases d; rfl
theorem Dev.with_hitches_tbl (x : List Hitch) : (Dev.tbl { d with hitches := x }) = d.tbl := by cases d; rfl
theorem Dev.with_hitches_pes (x : List Hitch) : (Dev.pes { d with hitches := x }) = d.pes := by cases d; rfl
theorem Dev.with_hitches_ehs (x : List Hitch) : (Dev.ehs { d with hitches := x }) = d.ehs := by cases d; rfl
theorem Dev.with_hitches_sw (x : List Hitch) : (Dev.sw { d with hitches := x }) = d.sw := by cases d; rfl
theorem Dev.with_hitches_sched (x : List Hitch) : (Dev.sched { d with hitches := x }) = d.sched := by cases d; rfl
theorem Dev.with_hitches_cry (x : List Hitch) : (Dev.cry { d with hitches := x }) = d.cry := by cases d; rfl
theorem Dev.with_hitches_tp (x : List Hitch) : (Dev.tp { d with hitches := x }) = d.tp := by cases d; rfl
theorem Dev.with_hitches_stor (x : List Hitch) : (Dev.stor { d with hitches := x }) = d.stor := by cases d; rfl
theorem Dev.with_hitches_queues (x : List Hitch) : (Dev.queues { d with hitches := x }) = d.queues := by cases d; rfl
theorem Dev.with_hitches_admin (x : List Hitch) : (Dev.admin { d with hitches := x }) = d.admin := by cases d; rfl
theorem Dev.with_hitches_aqRung (x : List Hitch) : (Dev.aqRung { d with hitches := x }) = d.aqRung := by cases d; rfl
theorem Dev.with_hitches_dma (x : List Hitch) : (Dev.dma { d with hitches := x }) = d.dma := by cases d; rfl
theorem Dev.with_hitches_mbx (x : List Hitch) : (Dev.mbx { d with hitches := x }) = d.mbx := by cases d; rfl
theorem Dev.with_hitches_power (x : List Hitch) : (Dev.power { d with hitches := x }) = d.power := by cases d; rfl
theorem Dev.with_hitches_twin (x : List Hitch) : (Dev.twin { d with hitches := x }) = d.twin := by cases d; rfl
theorem Dev.with_hitches_relay (x : List Hitch) : (Dev.relay { d with hitches := x }) = d.relay := by cases d; rfl
theorem Dev.with_hitches_integ (x : List Hitch) : (Dev.integ { d with hitches := x }) = d.integ := by cases d; rfl
theorem Dev.with_hitches_boot (x : List Hitch) : (Dev.boot { d with hitches := x }) = d.boot := by cases d; rfl
theorem Dev.with_hitches_mgmt (x : List Hitch) : (Dev.mgmt { d with hitches := x }) = d.mgmt := by cases d; rfl

/-! ### A register cell -/

@[simp] theorem Dev.setCell_objs (u off : Nat) (v : Word) : (d.setCell u off v).objs = d.objs := Dev.with_regs_objs d _
@[simp] theorem Dev.setCell_bytes (u off : Nat) (v : Word) : (d.setCell u off v).bytes = d.bytes := Dev.with_regs_bytes d _
@[simp] theorem Dev.setCell_hitches (u off : Nat) (v : Word) : (d.setCell u off v).hitches = d.hitches := Dev.with_regs_hitches d _
@[simp] theorem Dev.setCell_ev (u off : Nat) (v : Word) : (d.setCell u off v).ev = d.ev := Dev.with_regs_ev d _
@[simp] theorem Dev.setCell_img (u off : Nat) (v : Word) : (d.setCell u off v).img = d.img := Dev.with_regs_img d _
@[simp] theorem Dev.setCell_epA (u off : Nat) (v : Word) : (d.setCell u off v).epA = d.epA := Dev.with_regs_epA d _
@[simp] theorem Dev.setCell_epB (u off : Nat) (v : Word) : (d.setCell u off v).epB = d.epB := Dev.with_regs_epB d _
@[simp] theorem Dev.setCell_out (u off : Nat) (v : Word) : (d.setCell u off v).out = d.out := Dev.with_regs_out d _
@[simp] theorem Dev.setCell_time (u off : Nat) (v : Word) : (d.setCell u off v).time = d.time := Dev.with_regs_time d _
@[simp] theorem Dev.setCell_free (u off : Nat) (v : Word) : (d.setCell u off v).free = d.free := Dev.with_regs_free d _
@[simp] theorem Dev.setCell_fuse (u off : Nat) (v : Word) : (d.setCell u off v).fuse = d.fuse := Dev.with_regs_fuse d _
@[simp] theorem Dev.setCell_fuseLoaded (u off : Nat) (v : Word) : (d.setCell u off v).fuseLoaded = d.fuseLoaded := Dev.with_regs_fuseLoaded d _
@[simp] theorem Dev.setCell_macs (u off : Nat) (v : Word) : (d.setCell u off v).macs = d.macs := Dev.with_regs_macs d _
@[simp] theorem Dev.setCell_tb (u off : Nat) (v : Word) : (d.setCell u off v).tb = d.tb := Dev.with_regs_tb d _
@[simp] theorem Dev.setCell_prism (u off : Nat) (v : Word) : (d.setCell u off v).prism = d.prism := Dev.with_regs_prism d _
@[simp] theorem Dev.setCell_tbl (u off : Nat) (v : Word) : (d.setCell u off v).tbl = d.tbl := Dev.with_regs_tbl d _
@[simp] theorem Dev.setCell_pes (u off : Nat) (v : Word) : (d.setCell u off v).pes = d.pes := Dev.with_regs_pes d _
@[simp] theorem Dev.setCell_ehs (u off : Nat) (v : Word) : (d.setCell u off v).ehs = d.ehs := Dev.with_regs_ehs d _
@[simp] theorem Dev.setCell_sw (u off : Nat) (v : Word) : (d.setCell u off v).sw = d.sw := Dev.with_regs_sw d _
@[simp] theorem Dev.setCell_sched (u off : Nat) (v : Word) : (d.setCell u off v).sched = d.sched := Dev.with_regs_sched d _
@[simp] theorem Dev.setCell_cry (u off : Nat) (v : Word) : (d.setCell u off v).cry = d.cry := Dev.with_regs_cry d _
@[simp] theorem Dev.setCell_tp (u off : Nat) (v : Word) : (d.setCell u off v).tp = d.tp := Dev.with_regs_tp d _
@[simp] theorem Dev.setCell_stor (u off : Nat) (v : Word) : (d.setCell u off v).stor = d.stor := Dev.with_regs_stor d _
@[simp] theorem Dev.setCell_queues (u off : Nat) (v : Word) : (d.setCell u off v).queues = d.queues := Dev.with_regs_queues d _
@[simp] theorem Dev.setCell_admin (u off : Nat) (v : Word) : (d.setCell u off v).admin = d.admin := Dev.with_regs_admin d _
@[simp] theorem Dev.setCell_aqRung (u off : Nat) (v : Word) : (d.setCell u off v).aqRung = d.aqRung := Dev.with_regs_aqRung d _
@[simp] theorem Dev.setCell_dma (u off : Nat) (v : Word) : (d.setCell u off v).dma = d.dma := Dev.with_regs_dma d _
@[simp] theorem Dev.setCell_mbx (u off : Nat) (v : Word) : (d.setCell u off v).mbx = d.mbx := Dev.with_regs_mbx d _
@[simp] theorem Dev.setCell_power (u off : Nat) (v : Word) : (d.setCell u off v).power = d.power := Dev.with_regs_power d _
@[simp] theorem Dev.setCell_twin (u off : Nat) (v : Word) : (d.setCell u off v).twin = d.twin := Dev.with_regs_twin d _
@[simp] theorem Dev.setCell_relay (u off : Nat) (v : Word) : (d.setCell u off v).relay = d.relay := Dev.with_regs_relay d _
@[simp] theorem Dev.setCell_integ (u off : Nat) (v : Word) : (d.setCell u off v).integ = d.integ := Dev.with_regs_integ d _
@[simp] theorem Dev.setCell_boot (u off : Nat) (v : Word) : (d.setCell u off v).boot = d.boot := Dev.with_regs_boot d _
@[simp] theorem Dev.setCell_mgmt (u off : Nat) (v : Word) : (d.setCell u off v).mgmt = d.mgmt := Dev.with_regs_mgmt d _

/-! ### A register field -/

@[simp] theorem Dev.s_objs (u : Nat) (f : Fld) (v : Nat) : (d.s u f v).objs = d.objs := Dev.with_regs_objs d _
@[simp] theorem Dev.s_bytes (u : Nat) (f : Fld) (v : Nat) : (d.s u f v).bytes = d.bytes := Dev.with_regs_bytes d _
@[simp] theorem Dev.s_hitches (u : Nat) (f : Fld) (v : Nat) : (d.s u f v).hitches = d.hitches := Dev.with_regs_hitches d _
@[simp] theorem Dev.s_ev (u : Nat) (f : Fld) (v : Nat) : (d.s u f v).ev = d.ev := Dev.with_regs_ev d _
@[simp] theorem Dev.s_img (u : Nat) (f : Fld) (v : Nat) : (d.s u f v).img = d.img := Dev.with_regs_img d _
@[simp] theorem Dev.s_epA (u : Nat) (f : Fld) (v : Nat) : (d.s u f v).epA = d.epA := Dev.with_regs_epA d _
@[simp] theorem Dev.s_epB (u : Nat) (f : Fld) (v : Nat) : (d.s u f v).epB = d.epB := Dev.with_regs_epB d _
@[simp] theorem Dev.s_out (u : Nat) (f : Fld) (v : Nat) : (d.s u f v).out = d.out := Dev.with_regs_out d _
@[simp] theorem Dev.s_time (u : Nat) (f : Fld) (v : Nat) : (d.s u f v).time = d.time := Dev.with_regs_time d _
@[simp] theorem Dev.s_free (u : Nat) (f : Fld) (v : Nat) : (d.s u f v).free = d.free := Dev.with_regs_free d _
@[simp] theorem Dev.s_fuse (u : Nat) (f : Fld) (v : Nat) : (d.s u f v).fuse = d.fuse := Dev.with_regs_fuse d _
@[simp] theorem Dev.s_fuseLoaded (u : Nat) (f : Fld) (v : Nat) : (d.s u f v).fuseLoaded = d.fuseLoaded := Dev.with_regs_fuseLoaded d _
@[simp] theorem Dev.s_macs (u : Nat) (f : Fld) (v : Nat) : (d.s u f v).macs = d.macs := Dev.with_regs_macs d _
@[simp] theorem Dev.s_tb (u : Nat) (f : Fld) (v : Nat) : (d.s u f v).tb = d.tb := Dev.with_regs_tb d _
@[simp] theorem Dev.s_prism (u : Nat) (f : Fld) (v : Nat) : (d.s u f v).prism = d.prism := Dev.with_regs_prism d _
@[simp] theorem Dev.s_tbl (u : Nat) (f : Fld) (v : Nat) : (d.s u f v).tbl = d.tbl := Dev.with_regs_tbl d _
@[simp] theorem Dev.s_pes (u : Nat) (f : Fld) (v : Nat) : (d.s u f v).pes = d.pes := Dev.with_regs_pes d _
@[simp] theorem Dev.s_ehs (u : Nat) (f : Fld) (v : Nat) : (d.s u f v).ehs = d.ehs := Dev.with_regs_ehs d _
@[simp] theorem Dev.s_sw (u : Nat) (f : Fld) (v : Nat) : (d.s u f v).sw = d.sw := Dev.with_regs_sw d _
@[simp] theorem Dev.s_sched (u : Nat) (f : Fld) (v : Nat) : (d.s u f v).sched = d.sched := Dev.with_regs_sched d _
@[simp] theorem Dev.s_cry (u : Nat) (f : Fld) (v : Nat) : (d.s u f v).cry = d.cry := Dev.with_regs_cry d _
@[simp] theorem Dev.s_tp (u : Nat) (f : Fld) (v : Nat) : (d.s u f v).tp = d.tp := Dev.with_regs_tp d _
@[simp] theorem Dev.s_stor (u : Nat) (f : Fld) (v : Nat) : (d.s u f v).stor = d.stor := Dev.with_regs_stor d _
@[simp] theorem Dev.s_queues (u : Nat) (f : Fld) (v : Nat) : (d.s u f v).queues = d.queues := Dev.with_regs_queues d _
@[simp] theorem Dev.s_admin (u : Nat) (f : Fld) (v : Nat) : (d.s u f v).admin = d.admin := Dev.with_regs_admin d _
@[simp] theorem Dev.s_aqRung (u : Nat) (f : Fld) (v : Nat) : (d.s u f v).aqRung = d.aqRung := Dev.with_regs_aqRung d _
@[simp] theorem Dev.s_dma (u : Nat) (f : Fld) (v : Nat) : (d.s u f v).dma = d.dma := Dev.with_regs_dma d _
@[simp] theorem Dev.s_mbx (u : Nat) (f : Fld) (v : Nat) : (d.s u f v).mbx = d.mbx := Dev.with_regs_mbx d _
@[simp] theorem Dev.s_power (u : Nat) (f : Fld) (v : Nat) : (d.s u f v).power = d.power := Dev.with_regs_power d _
@[simp] theorem Dev.s_twin (u : Nat) (f : Fld) (v : Nat) : (d.s u f v).twin = d.twin := Dev.with_regs_twin d _
@[simp] theorem Dev.s_relay (u : Nat) (f : Fld) (v : Nat) : (d.s u f v).relay = d.relay := Dev.with_regs_relay d _
@[simp] theorem Dev.s_integ (u : Nat) (f : Fld) (v : Nat) : (d.s u f v).integ = d.integ := Dev.with_regs_integ d _
@[simp] theorem Dev.s_boot (u : Nat) (f : Fld) (v : Nat) : (d.s u f v).boot = d.boot := Dev.with_regs_boot d _
@[simp] theorem Dev.s_mgmt (u : Nat) (f : Fld) (v : Nat) : (d.s u f v).mgmt = d.mgmt := Dev.with_regs_mgmt d _

/-! ### A counter -/

@[simp] theorem Dev.add_objs (u : Nat) (f : Fld) (n : Nat) : (d.add u f n).objs = d.objs := Dev.with_regs_objs d _
@[simp] theorem Dev.add_bytes (u : Nat) (f : Fld) (n : Nat) : (d.add u f n).bytes = d.bytes := Dev.with_regs_bytes d _
@[simp] theorem Dev.add_hitches (u : Nat) (f : Fld) (n : Nat) : (d.add u f n).hitches = d.hitches := Dev.with_regs_hitches d _
@[simp] theorem Dev.add_ev (u : Nat) (f : Fld) (n : Nat) : (d.add u f n).ev = d.ev := Dev.with_regs_ev d _
@[simp] theorem Dev.add_img (u : Nat) (f : Fld) (n : Nat) : (d.add u f n).img = d.img := Dev.with_regs_img d _
@[simp] theorem Dev.add_epA (u : Nat) (f : Fld) (n : Nat) : (d.add u f n).epA = d.epA := Dev.with_regs_epA d _
@[simp] theorem Dev.add_epB (u : Nat) (f : Fld) (n : Nat) : (d.add u f n).epB = d.epB := Dev.with_regs_epB d _
@[simp] theorem Dev.add_out (u : Nat) (f : Fld) (n : Nat) : (d.add u f n).out = d.out := Dev.with_regs_out d _
@[simp] theorem Dev.add_time (u : Nat) (f : Fld) (n : Nat) : (d.add u f n).time = d.time := Dev.with_regs_time d _
@[simp] theorem Dev.add_free (u : Nat) (f : Fld) (n : Nat) : (d.add u f n).free = d.free := Dev.with_regs_free d _
@[simp] theorem Dev.add_fuse (u : Nat) (f : Fld) (n : Nat) : (d.add u f n).fuse = d.fuse := Dev.with_regs_fuse d _
@[simp] theorem Dev.add_fuseLoaded (u : Nat) (f : Fld) (n : Nat) : (d.add u f n).fuseLoaded = d.fuseLoaded := Dev.with_regs_fuseLoaded d _
@[simp] theorem Dev.add_macs (u : Nat) (f : Fld) (n : Nat) : (d.add u f n).macs = d.macs := Dev.with_regs_macs d _
@[simp] theorem Dev.add_tb (u : Nat) (f : Fld) (n : Nat) : (d.add u f n).tb = d.tb := Dev.with_regs_tb d _
@[simp] theorem Dev.add_prism (u : Nat) (f : Fld) (n : Nat) : (d.add u f n).prism = d.prism := Dev.with_regs_prism d _
@[simp] theorem Dev.add_tbl (u : Nat) (f : Fld) (n : Nat) : (d.add u f n).tbl = d.tbl := Dev.with_regs_tbl d _
@[simp] theorem Dev.add_pes (u : Nat) (f : Fld) (n : Nat) : (d.add u f n).pes = d.pes := Dev.with_regs_pes d _
@[simp] theorem Dev.add_ehs (u : Nat) (f : Fld) (n : Nat) : (d.add u f n).ehs = d.ehs := Dev.with_regs_ehs d _
@[simp] theorem Dev.add_sw (u : Nat) (f : Fld) (n : Nat) : (d.add u f n).sw = d.sw := Dev.with_regs_sw d _
@[simp] theorem Dev.add_sched (u : Nat) (f : Fld) (n : Nat) : (d.add u f n).sched = d.sched := Dev.with_regs_sched d _
@[simp] theorem Dev.add_cry (u : Nat) (f : Fld) (n : Nat) : (d.add u f n).cry = d.cry := Dev.with_regs_cry d _
@[simp] theorem Dev.add_tp (u : Nat) (f : Fld) (n : Nat) : (d.add u f n).tp = d.tp := Dev.with_regs_tp d _
@[simp] theorem Dev.add_stor (u : Nat) (f : Fld) (n : Nat) : (d.add u f n).stor = d.stor := Dev.with_regs_stor d _
@[simp] theorem Dev.add_queues (u : Nat) (f : Fld) (n : Nat) : (d.add u f n).queues = d.queues := Dev.with_regs_queues d _
@[simp] theorem Dev.add_admin (u : Nat) (f : Fld) (n : Nat) : (d.add u f n).admin = d.admin := Dev.with_regs_admin d _
@[simp] theorem Dev.add_aqRung (u : Nat) (f : Fld) (n : Nat) : (d.add u f n).aqRung = d.aqRung := Dev.with_regs_aqRung d _
@[simp] theorem Dev.add_dma (u : Nat) (f : Fld) (n : Nat) : (d.add u f n).dma = d.dma := Dev.with_regs_dma d _
@[simp] theorem Dev.add_mbx (u : Nat) (f : Fld) (n : Nat) : (d.add u f n).mbx = d.mbx := Dev.with_regs_mbx d _
@[simp] theorem Dev.add_power (u : Nat) (f : Fld) (n : Nat) : (d.add u f n).power = d.power := Dev.with_regs_power d _
@[simp] theorem Dev.add_twin (u : Nat) (f : Fld) (n : Nat) : (d.add u f n).twin = d.twin := Dev.with_regs_twin d _
@[simp] theorem Dev.add_relay (u : Nat) (f : Fld) (n : Nat) : (d.add u f n).relay = d.relay := Dev.with_regs_relay d _
@[simp] theorem Dev.add_integ (u : Nat) (f : Fld) (n : Nat) : (d.add u f n).integ = d.integ := Dev.with_regs_integ d _
@[simp] theorem Dev.add_boot (u : Nat) (f : Fld) (n : Nat) : (d.add u f n).boot = d.boot := Dev.with_regs_boot d _
@[simp] theorem Dev.add_mgmt (u : Nat) (f : Fld) (n : Nat) : (d.add u f n).mgmt = d.mgmt := Dev.with_regs_mgmt d _

/-! ### A context word -/

@[simp] theorem Dev.setOw_regs (c i w : Nat) (v : Word) : (d.setOw c i w v).regs = d.regs := Dev.with_objs_regs d _
@[simp] theorem Dev.setOw_bytes (c i w : Nat) (v : Word) : (d.setOw c i w v).bytes = d.bytes := Dev.with_objs_bytes d _
@[simp] theorem Dev.setOw_hitches (c i w : Nat) (v : Word) : (d.setOw c i w v).hitches = d.hitches := Dev.with_objs_hitches d _
@[simp] theorem Dev.setOw_ev (c i w : Nat) (v : Word) : (d.setOw c i w v).ev = d.ev := Dev.with_objs_ev d _
@[simp] theorem Dev.setOw_img (c i w : Nat) (v : Word) : (d.setOw c i w v).img = d.img := Dev.with_objs_img d _
@[simp] theorem Dev.setOw_epA (c i w : Nat) (v : Word) : (d.setOw c i w v).epA = d.epA := Dev.with_objs_epA d _
@[simp] theorem Dev.setOw_epB (c i w : Nat) (v : Word) : (d.setOw c i w v).epB = d.epB := Dev.with_objs_epB d _
@[simp] theorem Dev.setOw_out (c i w : Nat) (v : Word) : (d.setOw c i w v).out = d.out := Dev.with_objs_out d _
@[simp] theorem Dev.setOw_time (c i w : Nat) (v : Word) : (d.setOw c i w v).time = d.time := Dev.with_objs_time d _
@[simp] theorem Dev.setOw_free (c i w : Nat) (v : Word) : (d.setOw c i w v).free = d.free := Dev.with_objs_free d _
@[simp] theorem Dev.setOw_fuse (c i w : Nat) (v : Word) : (d.setOw c i w v).fuse = d.fuse := Dev.with_objs_fuse d _
@[simp] theorem Dev.setOw_fuseLoaded (c i w : Nat) (v : Word) : (d.setOw c i w v).fuseLoaded = d.fuseLoaded := Dev.with_objs_fuseLoaded d _
@[simp] theorem Dev.setOw_macs (c i w : Nat) (v : Word) : (d.setOw c i w v).macs = d.macs := Dev.with_objs_macs d _
@[simp] theorem Dev.setOw_tb (c i w : Nat) (v : Word) : (d.setOw c i w v).tb = d.tb := Dev.with_objs_tb d _
@[simp] theorem Dev.setOw_prism (c i w : Nat) (v : Word) : (d.setOw c i w v).prism = d.prism := Dev.with_objs_prism d _
@[simp] theorem Dev.setOw_tbl (c i w : Nat) (v : Word) : (d.setOw c i w v).tbl = d.tbl := Dev.with_objs_tbl d _
@[simp] theorem Dev.setOw_pes (c i w : Nat) (v : Word) : (d.setOw c i w v).pes = d.pes := Dev.with_objs_pes d _
@[simp] theorem Dev.setOw_ehs (c i w : Nat) (v : Word) : (d.setOw c i w v).ehs = d.ehs := Dev.with_objs_ehs d _
@[simp] theorem Dev.setOw_sw (c i w : Nat) (v : Word) : (d.setOw c i w v).sw = d.sw := Dev.with_objs_sw d _
@[simp] theorem Dev.setOw_sched (c i w : Nat) (v : Word) : (d.setOw c i w v).sched = d.sched := Dev.with_objs_sched d _
@[simp] theorem Dev.setOw_cry (c i w : Nat) (v : Word) : (d.setOw c i w v).cry = d.cry := Dev.with_objs_cry d _
@[simp] theorem Dev.setOw_tp (c i w : Nat) (v : Word) : (d.setOw c i w v).tp = d.tp := Dev.with_objs_tp d _
@[simp] theorem Dev.setOw_stor (c i w : Nat) (v : Word) : (d.setOw c i w v).stor = d.stor := Dev.with_objs_stor d _
@[simp] theorem Dev.setOw_queues (c i w : Nat) (v : Word) : (d.setOw c i w v).queues = d.queues := Dev.with_objs_queues d _
@[simp] theorem Dev.setOw_admin (c i w : Nat) (v : Word) : (d.setOw c i w v).admin = d.admin := Dev.with_objs_admin d _
@[simp] theorem Dev.setOw_aqRung (c i w : Nat) (v : Word) : (d.setOw c i w v).aqRung = d.aqRung := Dev.with_objs_aqRung d _
@[simp] theorem Dev.setOw_dma (c i w : Nat) (v : Word) : (d.setOw c i w v).dma = d.dma := Dev.with_objs_dma d _
@[simp] theorem Dev.setOw_mbx (c i w : Nat) (v : Word) : (d.setOw c i w v).mbx = d.mbx := Dev.with_objs_mbx d _
@[simp] theorem Dev.setOw_power (c i w : Nat) (v : Word) : (d.setOw c i w v).power = d.power := Dev.with_objs_power d _
@[simp] theorem Dev.setOw_twin (c i w : Nat) (v : Word) : (d.setOw c i w v).twin = d.twin := Dev.with_objs_twin d _
@[simp] theorem Dev.setOw_relay (c i w : Nat) (v : Word) : (d.setOw c i w v).relay = d.relay := Dev.with_objs_relay d _
@[simp] theorem Dev.setOw_integ (c i w : Nat) (v : Word) : (d.setOw c i w v).integ = d.integ := Dev.with_objs_integ d _
@[simp] theorem Dev.setOw_boot (c i w : Nat) (v : Word) : (d.setOw c i w v).boot = d.boot := Dev.with_objs_boot d _
@[simp] theorem Dev.setOw_mgmt (c i w : Nat) (v : Word) : (d.setOw c i w v).mgmt = d.mgmt := Dev.with_objs_mgmt d _

/-! ### A context field -/

@[simp] theorem Dev.cs_regs (c : Cls) (i : Nat) (f : CFld) (v : Nat) : (d.cs c i f v).regs = d.regs := Dev.with_objs_regs d _
@[simp] theorem Dev.cs_bytes (c : Cls) (i : Nat) (f : CFld) (v : Nat) : (d.cs c i f v).bytes = d.bytes := Dev.with_objs_bytes d _
@[simp] theorem Dev.cs_hitches (c : Cls) (i : Nat) (f : CFld) (v : Nat) : (d.cs c i f v).hitches = d.hitches := Dev.with_objs_hitches d _
@[simp] theorem Dev.cs_ev (c : Cls) (i : Nat) (f : CFld) (v : Nat) : (d.cs c i f v).ev = d.ev := Dev.with_objs_ev d _
@[simp] theorem Dev.cs_img (c : Cls) (i : Nat) (f : CFld) (v : Nat) : (d.cs c i f v).img = d.img := Dev.with_objs_img d _
@[simp] theorem Dev.cs_epA (c : Cls) (i : Nat) (f : CFld) (v : Nat) : (d.cs c i f v).epA = d.epA := Dev.with_objs_epA d _
@[simp] theorem Dev.cs_epB (c : Cls) (i : Nat) (f : CFld) (v : Nat) : (d.cs c i f v).epB = d.epB := Dev.with_objs_epB d _
@[simp] theorem Dev.cs_out (c : Cls) (i : Nat) (f : CFld) (v : Nat) : (d.cs c i f v).out = d.out := Dev.with_objs_out d _
@[simp] theorem Dev.cs_time (c : Cls) (i : Nat) (f : CFld) (v : Nat) : (d.cs c i f v).time = d.time := Dev.with_objs_time d _
@[simp] theorem Dev.cs_free (c : Cls) (i : Nat) (f : CFld) (v : Nat) : (d.cs c i f v).free = d.free := Dev.with_objs_free d _
@[simp] theorem Dev.cs_fuse (c : Cls) (i : Nat) (f : CFld) (v : Nat) : (d.cs c i f v).fuse = d.fuse := Dev.with_objs_fuse d _
@[simp] theorem Dev.cs_fuseLoaded (c : Cls) (i : Nat) (f : CFld) (v : Nat) : (d.cs c i f v).fuseLoaded = d.fuseLoaded := Dev.with_objs_fuseLoaded d _
@[simp] theorem Dev.cs_macs (c : Cls) (i : Nat) (f : CFld) (v : Nat) : (d.cs c i f v).macs = d.macs := Dev.with_objs_macs d _
@[simp] theorem Dev.cs_tb (c : Cls) (i : Nat) (f : CFld) (v : Nat) : (d.cs c i f v).tb = d.tb := Dev.with_objs_tb d _
@[simp] theorem Dev.cs_prism (c : Cls) (i : Nat) (f : CFld) (v : Nat) : (d.cs c i f v).prism = d.prism := Dev.with_objs_prism d _
@[simp] theorem Dev.cs_tbl (c : Cls) (i : Nat) (f : CFld) (v : Nat) : (d.cs c i f v).tbl = d.tbl := Dev.with_objs_tbl d _
@[simp] theorem Dev.cs_pes (c : Cls) (i : Nat) (f : CFld) (v : Nat) : (d.cs c i f v).pes = d.pes := Dev.with_objs_pes d _
@[simp] theorem Dev.cs_ehs (c : Cls) (i : Nat) (f : CFld) (v : Nat) : (d.cs c i f v).ehs = d.ehs := Dev.with_objs_ehs d _
@[simp] theorem Dev.cs_sw (c : Cls) (i : Nat) (f : CFld) (v : Nat) : (d.cs c i f v).sw = d.sw := Dev.with_objs_sw d _
@[simp] theorem Dev.cs_sched (c : Cls) (i : Nat) (f : CFld) (v : Nat) : (d.cs c i f v).sched = d.sched := Dev.with_objs_sched d _
@[simp] theorem Dev.cs_cry (c : Cls) (i : Nat) (f : CFld) (v : Nat) : (d.cs c i f v).cry = d.cry := Dev.with_objs_cry d _
@[simp] theorem Dev.cs_tp (c : Cls) (i : Nat) (f : CFld) (v : Nat) : (d.cs c i f v).tp = d.tp := Dev.with_objs_tp d _
@[simp] theorem Dev.cs_stor (c : Cls) (i : Nat) (f : CFld) (v : Nat) : (d.cs c i f v).stor = d.stor := Dev.with_objs_stor d _
@[simp] theorem Dev.cs_queues (c : Cls) (i : Nat) (f : CFld) (v : Nat) : (d.cs c i f v).queues = d.queues := Dev.with_objs_queues d _
@[simp] theorem Dev.cs_admin (c : Cls) (i : Nat) (f : CFld) (v : Nat) : (d.cs c i f v).admin = d.admin := Dev.with_objs_admin d _
@[simp] theorem Dev.cs_aqRung (c : Cls) (i : Nat) (f : CFld) (v : Nat) : (d.cs c i f v).aqRung = d.aqRung := Dev.with_objs_aqRung d _
@[simp] theorem Dev.cs_dma (c : Cls) (i : Nat) (f : CFld) (v : Nat) : (d.cs c i f v).dma = d.dma := Dev.with_objs_dma d _
@[simp] theorem Dev.cs_mbx (c : Cls) (i : Nat) (f : CFld) (v : Nat) : (d.cs c i f v).mbx = d.mbx := Dev.with_objs_mbx d _
@[simp] theorem Dev.cs_power (c : Cls) (i : Nat) (f : CFld) (v : Nat) : (d.cs c i f v).power = d.power := Dev.with_objs_power d _
@[simp] theorem Dev.cs_twin (c : Cls) (i : Nat) (f : CFld) (v : Nat) : (d.cs c i f v).twin = d.twin := Dev.with_objs_twin d _
@[simp] theorem Dev.cs_relay (c : Cls) (i : Nat) (f : CFld) (v : Nat) : (d.cs c i f v).relay = d.relay := Dev.with_objs_relay d _
@[simp] theorem Dev.cs_integ (c : Cls) (i : Nat) (f : CFld) (v : Nat) : (d.cs c i f v).integ = d.integ := Dev.with_objs_integ d _
@[simp] theorem Dev.cs_boot (c : Cls) (i : Nat) (f : CFld) (v : Nat) : (d.cs c i f v).boot = d.boot := Dev.with_objs_boot d _
@[simp] theorem Dev.cs_mgmt (c : Cls) (i : Nat) (f : CFld) (v : Nat) : (d.cs c i f v).mgmt = d.mgmt := Dev.with_objs_mgmt d _

/-! ### An output -/

@[simp] theorem Dev.emit_regs (o : Out) : (d.emit o).regs = d.regs := Dev.with_out_regs d _
@[simp] theorem Dev.emit_objs (o : Out) : (d.emit o).objs = d.objs := Dev.with_out_objs d _
@[simp] theorem Dev.emit_bytes (o : Out) : (d.emit o).bytes = d.bytes := Dev.with_out_bytes d _
@[simp] theorem Dev.emit_hitches (o : Out) : (d.emit o).hitches = d.hitches := Dev.with_out_hitches d _
@[simp] theorem Dev.emit_ev (o : Out) : (d.emit o).ev = d.ev := Dev.with_out_ev d _
@[simp] theorem Dev.emit_img (o : Out) : (d.emit o).img = d.img := Dev.with_out_img d _
@[simp] theorem Dev.emit_epA (o : Out) : (d.emit o).epA = d.epA := Dev.with_out_epA d _
@[simp] theorem Dev.emit_epB (o : Out) : (d.emit o).epB = d.epB := Dev.with_out_epB d _
@[simp] theorem Dev.emit_time (o : Out) : (d.emit o).time = d.time := Dev.with_out_time d _
@[simp] theorem Dev.emit_free (o : Out) : (d.emit o).free = d.free := Dev.with_out_free d _
@[simp] theorem Dev.emit_fuse (o : Out) : (d.emit o).fuse = d.fuse := Dev.with_out_fuse d _
@[simp] theorem Dev.emit_fuseLoaded (o : Out) : (d.emit o).fuseLoaded = d.fuseLoaded := Dev.with_out_fuseLoaded d _
@[simp] theorem Dev.emit_macs (o : Out) : (d.emit o).macs = d.macs := Dev.with_out_macs d _
@[simp] theorem Dev.emit_tb (o : Out) : (d.emit o).tb = d.tb := Dev.with_out_tb d _
@[simp] theorem Dev.emit_prism (o : Out) : (d.emit o).prism = d.prism := Dev.with_out_prism d _
@[simp] theorem Dev.emit_tbl (o : Out) : (d.emit o).tbl = d.tbl := Dev.with_out_tbl d _
@[simp] theorem Dev.emit_pes (o : Out) : (d.emit o).pes = d.pes := Dev.with_out_pes d _
@[simp] theorem Dev.emit_ehs (o : Out) : (d.emit o).ehs = d.ehs := Dev.with_out_ehs d _
@[simp] theorem Dev.emit_sw (o : Out) : (d.emit o).sw = d.sw := Dev.with_out_sw d _
@[simp] theorem Dev.emit_sched (o : Out) : (d.emit o).sched = d.sched := Dev.with_out_sched d _
@[simp] theorem Dev.emit_cry (o : Out) : (d.emit o).cry = d.cry := Dev.with_out_cry d _
@[simp] theorem Dev.emit_tp (o : Out) : (d.emit o).tp = d.tp := Dev.with_out_tp d _
@[simp] theorem Dev.emit_stor (o : Out) : (d.emit o).stor = d.stor := Dev.with_out_stor d _
@[simp] theorem Dev.emit_queues (o : Out) : (d.emit o).queues = d.queues := Dev.with_out_queues d _
@[simp] theorem Dev.emit_admin (o : Out) : (d.emit o).admin = d.admin := Dev.with_out_admin d _
@[simp] theorem Dev.emit_aqRung (o : Out) : (d.emit o).aqRung = d.aqRung := Dev.with_out_aqRung d _
@[simp] theorem Dev.emit_dma (o : Out) : (d.emit o).dma = d.dma := Dev.with_out_dma d _
@[simp] theorem Dev.emit_mbx (o : Out) : (d.emit o).mbx = d.mbx := Dev.with_out_mbx d _
@[simp] theorem Dev.emit_power (o : Out) : (d.emit o).power = d.power := Dev.with_out_power d _
@[simp] theorem Dev.emit_twin (o : Out) : (d.emit o).twin = d.twin := Dev.with_out_twin d _
@[simp] theorem Dev.emit_relay (o : Out) : (d.emit o).relay = d.relay := Dev.with_out_relay d _
@[simp] theorem Dev.emit_integ (o : Out) : (d.emit o).integ = d.integ := Dev.with_out_integ d _
@[simp] theorem Dev.emit_boot (o : Out) : (d.emit o).boot = d.boot := Dev.with_out_boot d _
@[simp] theorem Dev.emit_mgmt (o : Out) : (d.emit o).mgmt = d.mgmt := Dev.with_out_mgmt d _

/-! ### A free value used -/

@[simp] theorem Dev.used_regs : (d.used).regs = d.regs := Dev.with_free_regs d _
@[simp] theorem Dev.used_objs : (d.used).objs = d.objs := Dev.with_free_objs d _
@[simp] theorem Dev.used_bytes : (d.used).bytes = d.bytes := Dev.with_free_bytes d _
@[simp] theorem Dev.used_hitches : (d.used).hitches = d.hitches := Dev.with_free_hitches d _
@[simp] theorem Dev.used_ev : (d.used).ev = d.ev := Dev.with_free_ev d _
@[simp] theorem Dev.used_img : (d.used).img = d.img := Dev.with_free_img d _
@[simp] theorem Dev.used_epA : (d.used).epA = d.epA := Dev.with_free_epA d _
@[simp] theorem Dev.used_epB : (d.used).epB = d.epB := Dev.with_free_epB d _
@[simp] theorem Dev.used_out : (d.used).out = d.out := Dev.with_free_out d _
@[simp] theorem Dev.used_time : (d.used).time = d.time := Dev.with_free_time d _
@[simp] theorem Dev.used_fuse : (d.used).fuse = d.fuse := Dev.with_free_fuse d _
@[simp] theorem Dev.used_fuseLoaded : (d.used).fuseLoaded = d.fuseLoaded := Dev.with_free_fuseLoaded d _
@[simp] theorem Dev.used_macs : (d.used).macs = d.macs := Dev.with_free_macs d _
@[simp] theorem Dev.used_tb : (d.used).tb = d.tb := Dev.with_free_tb d _
@[simp] theorem Dev.used_prism : (d.used).prism = d.prism := Dev.with_free_prism d _
@[simp] theorem Dev.used_tbl : (d.used).tbl = d.tbl := Dev.with_free_tbl d _
@[simp] theorem Dev.used_pes : (d.used).pes = d.pes := Dev.with_free_pes d _
@[simp] theorem Dev.used_ehs : (d.used).ehs = d.ehs := Dev.with_free_ehs d _
@[simp] theorem Dev.used_sw : (d.used).sw = d.sw := Dev.with_free_sw d _
@[simp] theorem Dev.used_sched : (d.used).sched = d.sched := Dev.with_free_sched d _
@[simp] theorem Dev.used_cry : (d.used).cry = d.cry := Dev.with_free_cry d _
@[simp] theorem Dev.used_tp : (d.used).tp = d.tp := Dev.with_free_tp d _
@[simp] theorem Dev.used_stor : (d.used).stor = d.stor := Dev.with_free_stor d _
@[simp] theorem Dev.used_queues : (d.used).queues = d.queues := Dev.with_free_queues d _
@[simp] theorem Dev.used_admin : (d.used).admin = d.admin := Dev.with_free_admin d _
@[simp] theorem Dev.used_aqRung : (d.used).aqRung = d.aqRung := Dev.with_free_aqRung d _
@[simp] theorem Dev.used_dma : (d.used).dma = d.dma := Dev.with_free_dma d _
@[simp] theorem Dev.used_mbx : (d.used).mbx = d.mbx := Dev.with_free_mbx d _
@[simp] theorem Dev.used_power : (d.used).power = d.power := Dev.with_free_power d _
@[simp] theorem Dev.used_twin : (d.used).twin = d.twin := Dev.with_free_twin d _
@[simp] theorem Dev.used_relay : (d.used).relay = d.relay := Dev.with_free_relay d _
@[simp] theorem Dev.used_integ : (d.used).integ = d.integ := Dev.with_free_integ d _
@[simp] theorem Dev.used_boot : (d.used).boot = d.boot := Dev.with_free_boot d _
@[simp] theorem Dev.used_mgmt : (d.used).mgmt = d.mgmt := Dev.with_free_mgmt d _

/-! ### A hitch record -/

@[simp] theorem Dev.setHitch_regs (u : Nat) (f : Hitch → Hitch) : (d.setHitch u f).regs = d.regs := Dev.with_hitches_regs d _
@[simp] theorem Dev.setHitch_objs (u : Nat) (f : Hitch → Hitch) : (d.setHitch u f).objs = d.objs := Dev.with_hitches_objs d _
@[simp] theorem Dev.setHitch_bytes (u : Nat) (f : Hitch → Hitch) : (d.setHitch u f).bytes = d.bytes := Dev.with_hitches_bytes d _
@[simp] theorem Dev.setHitch_ev (u : Nat) (f : Hitch → Hitch) : (d.setHitch u f).ev = d.ev := Dev.with_hitches_ev d _
@[simp] theorem Dev.setHitch_img (u : Nat) (f : Hitch → Hitch) : (d.setHitch u f).img = d.img := Dev.with_hitches_img d _
@[simp] theorem Dev.setHitch_epA (u : Nat) (f : Hitch → Hitch) : (d.setHitch u f).epA = d.epA := Dev.with_hitches_epA d _
@[simp] theorem Dev.setHitch_epB (u : Nat) (f : Hitch → Hitch) : (d.setHitch u f).epB = d.epB := Dev.with_hitches_epB d _
@[simp] theorem Dev.setHitch_out (u : Nat) (f : Hitch → Hitch) : (d.setHitch u f).out = d.out := Dev.with_hitches_out d _
@[simp] theorem Dev.setHitch_time (u : Nat) (f : Hitch → Hitch) : (d.setHitch u f).time = d.time := Dev.with_hitches_time d _
@[simp] theorem Dev.setHitch_free (u : Nat) (f : Hitch → Hitch) : (d.setHitch u f).free = d.free := Dev.with_hitches_free d _
@[simp] theorem Dev.setHitch_fuse (u : Nat) (f : Hitch → Hitch) : (d.setHitch u f).fuse = d.fuse := Dev.with_hitches_fuse d _
@[simp] theorem Dev.setHitch_fuseLoaded (u : Nat) (f : Hitch → Hitch) : (d.setHitch u f).fuseLoaded = d.fuseLoaded := Dev.with_hitches_fuseLoaded d _
@[simp] theorem Dev.setHitch_macs (u : Nat) (f : Hitch → Hitch) : (d.setHitch u f).macs = d.macs := Dev.with_hitches_macs d _
@[simp] theorem Dev.setHitch_tb (u : Nat) (f : Hitch → Hitch) : (d.setHitch u f).tb = d.tb := Dev.with_hitches_tb d _
@[simp] theorem Dev.setHitch_prism (u : Nat) (f : Hitch → Hitch) : (d.setHitch u f).prism = d.prism := Dev.with_hitches_prism d _
@[simp] theorem Dev.setHitch_tbl (u : Nat) (f : Hitch → Hitch) : (d.setHitch u f).tbl = d.tbl := Dev.with_hitches_tbl d _
@[simp] theorem Dev.setHitch_pes (u : Nat) (f : Hitch → Hitch) : (d.setHitch u f).pes = d.pes := Dev.with_hitches_pes d _
@[simp] theorem Dev.setHitch_ehs (u : Nat) (f : Hitch → Hitch) : (d.setHitch u f).ehs = d.ehs := Dev.with_hitches_ehs d _
@[simp] theorem Dev.setHitch_sw (u : Nat) (f : Hitch → Hitch) : (d.setHitch u f).sw = d.sw := Dev.with_hitches_sw d _
@[simp] theorem Dev.setHitch_sched (u : Nat) (f : Hitch → Hitch) : (d.setHitch u f).sched = d.sched := Dev.with_hitches_sched d _
@[simp] theorem Dev.setHitch_cry (u : Nat) (f : Hitch → Hitch) : (d.setHitch u f).cry = d.cry := Dev.with_hitches_cry d _
@[simp] theorem Dev.setHitch_tp (u : Nat) (f : Hitch → Hitch) : (d.setHitch u f).tp = d.tp := Dev.with_hitches_tp d _
@[simp] theorem Dev.setHitch_stor (u : Nat) (f : Hitch → Hitch) : (d.setHitch u f).stor = d.stor := Dev.with_hitches_stor d _
@[simp] theorem Dev.setHitch_queues (u : Nat) (f : Hitch → Hitch) : (d.setHitch u f).queues = d.queues := Dev.with_hitches_queues d _
@[simp] theorem Dev.setHitch_admin (u : Nat) (f : Hitch → Hitch) : (d.setHitch u f).admin = d.admin := Dev.with_hitches_admin d _
@[simp] theorem Dev.setHitch_aqRung (u : Nat) (f : Hitch → Hitch) : (d.setHitch u f).aqRung = d.aqRung := Dev.with_hitches_aqRung d _
@[simp] theorem Dev.setHitch_dma (u : Nat) (f : Hitch → Hitch) : (d.setHitch u f).dma = d.dma := Dev.with_hitches_dma d _
@[simp] theorem Dev.setHitch_mbx (u : Nat) (f : Hitch → Hitch) : (d.setHitch u f).mbx = d.mbx := Dev.with_hitches_mbx d _
@[simp] theorem Dev.setHitch_power (u : Nat) (f : Hitch → Hitch) : (d.setHitch u f).power = d.power := Dev.with_hitches_power d _
@[simp] theorem Dev.setHitch_twin (u : Nat) (f : Hitch → Hitch) : (d.setHitch u f).twin = d.twin := Dev.with_hitches_twin d _
@[simp] theorem Dev.setHitch_relay (u : Nat) (f : Hitch → Hitch) : (d.setHitch u f).relay = d.relay := Dev.with_hitches_relay d _
@[simp] theorem Dev.setHitch_integ (u : Nat) (f : Hitch → Hitch) : (d.setHitch u f).integ = d.integ := Dev.with_hitches_integ d _
@[simp] theorem Dev.setHitch_boot (u : Nat) (f : Hitch → Hitch) : (d.setHitch u f).boot = d.boot := Dev.with_hitches_boot d _
@[simp] theorem Dev.setHitch_mgmt (u : Nat) (f : Hitch → Hitch) : (d.setHitch u f).mgmt = d.mgmt := Dev.with_hitches_mgmt d _

end Sys2Proof.Machine
end

