-- ==== Sys2Proof/Laws/Store.lean ====
section
/-! SUPPORT. The laws of the canonical sparse stores: a read after a write to the same key gives the value written, a write
leaves every other key alone, and every operation keeps the canonical form. The two reading laws need no canonical form. -/

namespace Sys2Proof.Machine

variable {α : Type}

/-- A dropped key reads its unlisted value. -/
theorem stGet_stDrop_in (dflt : Nat → α) (p : Nat → Bool) (m : List (Nat × α)) (k : Nat) (hk : p k = true) :
    stGet dflt (stDrop p m) k = dflt k := by
  induction m with
  | nil => rfl
  | cons e m ih =>
    obtain ⟨k', v'⟩ := e
    simp only [stDrop, List.filter_cons] at *
    by_cases hp : p k' = true
    · simp [hp, ih]
    · have : k ≠ k' := by intro h; subst h; exact hp hk
      simp [hp, stGet, this, ih]

/-- A key that is not dropped keeps its value. -/
theorem stGet_stDrop_out (dflt : Nat → α) (p : Nat → Bool) (m : List (Nat × α)) (k : Nat) (hk : p k = false) :
    stGet dflt (stDrop p m) k = stGet dflt m k := by
  induction m with
  | nil => rfl
  | cons e m ih =>
    obtain ⟨k', v'⟩ := e
    simp only [stDrop, List.filter_cons] at *
    by_cases hp : p k' = true
    · have : k ≠ k' := by intro h; subst h; simp [hk] at hp
      simp [hp, stGet, this, ih]
    · by_cases hkk : k = k' <;> simp [hp, stGet, hkk, ih]

/-- No entry of a store from which key `k` was dropped has key `k`. -/
theorem stDrop_no_key (m : List (Nat × α)) (k : Nat) : ∀ e ∈ stDrop (fun j => decide (j = k)) m, e.1 ≠ k := by
  intro e he
  simp only [stDrop, List.mem_filter] at he
  simpa using he.2

/-- A bound below the keys of a store may be lowered. -/
theorem stAbove_mono (m : List (Nat × α)) (a b : Nat) (hab : a ≤ b) (h : stAbove b m = true) : stAbove a m = true := by
  simp only [stAbove, List.all_eq_true, decide_eq_true_eq] at *
  intro e he
  have := h e he
  omega

/-- Dropping keys keeps a bound below them. -/
theorem stAbove_stDrop (m : List (Nat × α)) (b : Nat) (p : Nat → Bool) (h : stAbove b m = true) :
    stAbove b (stDrop p m) = true := by
  simp only [stAbove, stDrop, List.all_eq_true] at *
  intro e he
  exact h e (List.mem_filter.mp he).1

variable [DecidableEq α]

/-- Dropping keys keeps the canonical form. -/
theorem stDrop_wf (dflt : Nat → α) (p : Nat → Bool) (m : List (Nat × α)) (h : stWf dflt m = true) :
    stWf dflt (stDrop p m) = true := by
  induction m with
  | nil => rfl
  | cons e m ih =>
    obtain ⟨k', v'⟩ := e
    simp only [stWf, Bool.and_eq_true, decide_eq_true_eq] at h
    obtain ⟨⟨ha, hv⟩, hm⟩ := h
    have ih' := ih hm
    have ha' := stAbove_stDrop m k' p ha
    simp only [stDrop, List.filter_cons] at *
    split
    · simp only [stWf, Bool.and_eq_true, decide_eq_true_eq]
      exact ⟨⟨ha', hv⟩, ih'⟩
    · exact ih'

omit [DecidableEq α] in
/-- A key that no entry has reads its unlisted value. -/
theorem stGet_no_key (dflt : Nat → α) (m : List (Nat × α)) (k : Nat) (h : ∀ e ∈ m, e.1 ≠ k) :
    stGet dflt m k = dflt k := by
  induction m with
  | nil => rfl
  | cons e m ih =>
    obtain ⟨k', v'⟩ := e
    have hk : k ≠ k' := fun e => h (k', v') (by simp) e.symm
    simp only [stGet, hk, ite_false]
    exact ih (fun e he => h e (by simp [he]))

/-- An inserted key that stood nowhere before reads its value; any other key reads as before. -/
theorem stGet_stIns (dflt : Nat → α) (m : List (Nat × α)) (k j : Nat) (v : α) (h : ∀ e ∈ m, e.1 ≠ k) :
    stGet dflt (stIns dflt k v m) j = if j = k then v else stGet dflt m j := by
  induction m with
  | nil =>
    simp only [stIns]
    by_cases hv : v = dflt k <;> by_cases hj : j = k <;> simp [hv, hj, stGet]
  | cons e m ih =>
    obtain ⟨k', v'⟩ := e
    have hk : k' ≠ k := h (k', v') (by simp)
    have h0 := stGet_no_key dflt ((k', v') :: m) k h
    have ih' := ih (fun e he => h e (by simp [he]))
    simp only [stIns]
    split
    · split
      · rename_i hv
        by_cases hj : j = k
        · simp only [hj, h0, ite_true, hv]
        · simp [hj]
      · by_cases hj : j = k <;> simp [stGet, hj]
    · simp only [stGet, ih']
      by_cases hj : j = k
      · subst hj; simp [hk.symm]
      · simp [hj]

/-- An insertion keeps a bound that lies below its key. -/
theorem stAbove_stIns (dflt : Nat → α) (m : List (Nat × α)) (k b : Nat) (v : α) (h : stAbove b m = true) (hb : b < k) :
    stAbove b (stIns dflt k v m) = true := by
  induction m with
  | nil => simp only [stIns]; split <;> simp [stAbove, hb]
  | cons e m ih =>
    obtain ⟨k', v'⟩ := e
    have h0 := h
    simp only [stAbove, List.all_cons, Bool.and_eq_true, decide_eq_true_eq] at h
    simp only [stIns]
    split
    · split
      · exact h0
      · simp only [stAbove, List.all_cons, Bool.and_eq_true, decide_eq_true_eq]; exact ⟨hb, h⟩
    · simp only [stAbove, List.all_cons, Bool.and_eq_true, decide_eq_true_eq]; exact ⟨h.1, ih h.2⟩

/-- Inserting a new key keeps the canonical form. -/
theorem stIns_wf (dflt : Nat → α) (m : List (Nat × α)) (k : Nat) (v : α) (h : stWf dflt m = true)
    (hk : ∀ e ∈ m, e.1 ≠ k) : stWf dflt (stIns dflt k v m) = true := by
  induction m with
  | nil => simp only [stIns]; split <;> simp_all [stWf, stAbove]
  | cons e m ih =>
    obtain ⟨k', v'⟩ := e
    have hne : k' ≠ k := hk (k', v') (by simp)
    have h0 := h
    simp only [stWf, Bool.and_eq_true, decide_eq_true_eq] at h
    obtain ⟨⟨ha, hv'⟩, hm⟩ := h
    have ih' := ih hm (fun e he => hk e (by simp [he]))
    simp only [stIns]
    split
    · rename_i hlt
      split
      · exact h0
      · rename_i hv
        simp only [stWf, Bool.and_eq_true, decide_eq_true_eq]
        refine ⟨⟨?_, hv⟩, ⟨ha, hv'⟩, hm⟩
        simp only [stAbove, List.all_cons, Bool.and_eq_true, decide_eq_true_eq]
        exact ⟨hlt, stAbove_mono m k k' (by omega) ha⟩
    · rename_i hge
      simp only [stWf, Bool.and_eq_true, decide_eq_true_eq]
      exact ⟨⟨stAbove_stIns dflt m k k' v ha (by omega), hv'⟩, ih'⟩

/-- A write keeps the canonical form. -/
theorem stPut_wf (dflt : Nat → α) (m : List (Nat × α)) (k : Nat) (v : α) (h : stWf dflt m = true) :
    stWf dflt (stPut dflt m k v) = true :=
  stIns_wf dflt _ k v (stDrop_wf dflt _ m h) (stDrop_no_key m k)

/-- Writing a list of values keeps the canonical form. -/
theorem stPutList_wf (dflt : Nat → α) (vs : List α) (m : List (Nat × α)) (k : Nat) (h : stWf dflt m = true) :
    stWf dflt (stPutList dflt m k vs) = true := by
  induction vs generalizing m k with
  | nil => exact h
  | cons v vs ih => exact ih _ _ (stPut_wf dflt m k v h)

/-- What any key reads as after a write. -/
theorem stGet_stPut (dflt : Nat → α) (m : List (Nat × α)) (k j : Nat) (v : α) :
    stGet dflt (stPut dflt m k v) j = if j = k then v else stGet dflt m j := by
  unfold stPut
  rw [stGet_stIns dflt _ k j v (stDrop_no_key m k)]
  by_cases hj : j = k
  · simp [hj]
  · simp only [hj, ite_false]
    exact stGet_stDrop_out dflt _ m j (by simp [hj])

/-- A read after a write to the same key gives the value written. -/
theorem stGet_stPut_same (dflt : Nat → α) (m : List (Nat × α)) (k : Nat) (v : α) :
    stGet dflt (stPut dflt m k v) k = v := by
  simp [stGet_stPut]

/-- A write leaves every other key alone. -/
theorem stGet_stPut_ne (dflt : Nat → α) (m : List (Nat × α)) (k j : Nat) (v : α) (hj : j ≠ k) :
    stGet dflt (stPut dflt m k v) j = stGet dflt m j := by
  simp [stGet_stPut, hj]

/-- A read of one of the keys of a list write gives its value; a read outside them is as before. -/
theorem stGet_stPutList (dflt : Nat → α) (vs : List α) (m : List (Nat × α)) (k j : Nat) :
    stGet dflt (stPutList dflt m k vs) j = if k ≤ j then (vs[j - k]?).getD (stGet dflt m j) else stGet dflt m j := by
  induction vs generalizing m k with
  | nil => simp [stPutList]
  | cons v vs ih =>
    simp only [stPutList]
    rw [ih]
    by_cases h1 : j = k
    · subst h1
      have : ¬ (j + 1 ≤ j) := by omega
      simp [this, stGet_stPut_same]
    · rw [stGet_stPut_ne dflt m k j v h1]
      by_cases h2 : k + 1 ≤ j
      · have h3 : k ≤ j := by omega
        have h4 : j - k = (j - (k + 1)) + 1 := by omega
        simp [h2, h3, h4]
      · have h3 : ¬ k ≤ j := by omega
        simp [h2, h3]

end Sys2Proof.Machine
end

