-- ==== Sys2Proof/Laws/Regs.lean ====
section
/-! SUPPORT. What registers, contexts and bytes read as after each primitive update, and that every primitive update
keeps the canonical form. -/

namespace Sys2Proof.Machine

/-- Two cells with offsets within a unit's share have the same key only if they are the same cell. -/
theorem rkey_inj {u off u' off' : Nat} (h : off < 2 ^ 22) (h' : off' < 2 ^ 22) :
    rkey u off = rkey u' off' ↔ u = u' ∧ off = off' := by
  unfold rkey
  constructor
  · intro e; omega
  · rintro ⟨rfl, rfl⟩; rfl

/-! ### Registers -/

/-- What a cell reads as after a cell is set. -/
theorem Dev.cell_setCell (d : Dev) (u off u' off' : Nat) (v : Word) :
    (d.setCell u off v).cell u' off' = if rkey u' off' = rkey u off then v else d.cell u' off' := by
  simp only [Dev.cell, Dev.setCell, stGet_stPut]

/-- The same cell. -/
@[simp] theorem Dev.cell_setCell_same (d : Dev) (u off : Nat) (v : Word) : (d.setCell u off v).cell u off = v := by
  simp [Dev.cell_setCell]

/-- What a cell reads as after a field is set. -/
theorem Dev.cell_s (d : Dev) (u u' off : Nat) (f : Fld) (v : Nat) :
    (d.s u f v).cell u' off =
      if rkey u' off = rkey u f.off then putBits (d.cell u f.off) f.lo f.w v else d.cell u' off := by
  simp only [Dev.s, Dev.cell_setCell]

/-- A field set reads back modulo its width. -/
theorem Dev.g_s_same (d : Dev) (u : Nat) (f : Fld) (v : Nat) (h : f.lo + f.w ≤ 64) :
    (d.s u f v).g u f = v % 2 ^ f.w := by
  simp only [Dev.g, Dev.cell_s, ite_true]
  exact getBits_putBits_same _ _ _ _ h

/-- A field of another cell is as before. -/
theorem Dev.g_s_cell (d : Dev) (u u' : Nat) (f f' : Fld) (v : Nat) (h : rkey u' f'.off ≠ rkey u f.off) :
    (d.s u f v).g u' f' = d.g u' f' := by
  simp only [Dev.g, Dev.cell_s, h, ite_false]

/-- A field of the same unit apart from the one set is as before. -/
theorem Dev.g_s_field (d : Dev) (u : Nat) (f f' : Fld) (v : Nat)
    (h : f'.off ≠ f.off ∨ f'.lo + f'.w ≤ f.lo ∨ f.lo + f.w ≤ f'.lo) :
    (d.s u f v).g u f' = d.g u f' := by
  simp only [Dev.g, Dev.cell_s]
  split
  · rename_i e
    have e' : f'.off = f.off := by unfold rkey at e; omega
    rw [e', getBits_putBits_other]
    rcases h with h | h
    · exact absurd e' h
    · exact h
  · rfl

/-- A field of another unit is as before. -/
theorem Dev.g_s_unit (d : Dev) (u u' : Nat) (f f' : Fld) (v : Nat) (hu : u' ≠ u) (h : f.off < 2 ^ 22)
    (h' : f'.off < 2 ^ 22) : (d.s u f v).g u' f' = d.g u' f' := by
  apply Dev.g_s_cell
  intro e
  exact hu ((rkey_inj h' h).mp e).1

/-- A field's value is below 2 to its width. -/
theorem Dev.g_lt (d : Dev) (u : Nat) (f : Fld) : d.g u f < 2 ^ f.w := getBits_lt _ _ _

/-- A counter's rise as a field set. -/
theorem Dev.add_eq (d : Dev) (u : Nat) (f : Fld) (n : Nat) : d.add u f n = d.s u f (d.g u f + n) := rfl

/-- A kind-specific field set, as a field set. -/
theorem Dev.sk_eq (d : Dev) (u : Nat) (f : Fld) (v : Nat) : d.sk u f v = d.s u f.kind v := rfl

/-- A kind-specific field read, as a field read. -/
theorem Dev.gk_eq (d : Dev) (u : Nat) (f : Fld) : d.gk u f = d.g u f.kind := rfl

/-- A counter of the root rises. -/
theorem Dev.bump_eq (d : Dev) (f : Fld) : d.bump f = d.s rootId f (d.g rootId f + 1) := rfl

/-- A kind-specific counter rises. -/
theorem Dev.addk_eq (d : Dev) (u : Nat) (f : Fld) (n : Nat) : d.addk u f n = d.s u f.kind (d.g u f.kind + n) := rfl

/-- A register field depends on the register store only. -/
theorem Dev.g_congr {d d' : Dev} (h : d.regs = d'.regs) (u : Nat) (f : Fld) : d.g u f = d'.g u f := by
  simp only [Dev.g, Dev.cell, h]

/-- A context field depends on the context store only. -/
theorem Dev.cg_congr {d d' : Dev} (h : d.objs = d'.objs) (c : Cls) (i : Nat) (f : CFld) : d.cg c i f = d'.cg c i f := by
  simp only [Dev.cg, Dev.ow, h]

/-! ### Contexts -/

/-- What a context word reads as after a context word is set. -/
theorem Dev.ow_setOw (d : Dev) (c i w c' i' w' : Nat) (v : Word) :
    (d.setOw c i w v).ow c' i' w' = if okey c' i' w' = okey c i w then v else d.ow c' i' w' := by
  simp only [Dev.ow, Dev.setOw, stGet_stPut]

/-- A context field set reads back modulo its width. -/
theorem Dev.cg_cs_same (d : Dev) (c : Cls) (i : Nat) (f : CFld) (v : Nat) (h : f.lo + f.w ≤ 64) :
    (d.cs c i f v).cg c i f = v % 2 ^ f.w := by
  simp only [Dev.cg, Dev.cs, Dev.ow_setOw, ite_true]
  exact getBits_putBits_same _ _ _ _ h

/-- A context field of the same record apart from the one set is as before. -/
theorem Dev.cg_cs_field (d : Dev) (c : Cls) (i : Nat) (f f' : CFld) (v : Nat)
    (h : f'.word ≠ f.word ∨ f'.lo + f'.w ≤ f.lo ∨ f.lo + f.w ≤ f'.lo) :
    (d.cs c i f v).cg c i f' = d.cg c i f' := by
  simp only [Dev.cg, Dev.cs, Dev.ow_setOw]
  split
  · rename_i e
    have e' : f'.word = f.word := by unfold okey at e; omega
    rw [e', getBits_putBits_other]
    rcases h with h | h
    · exact absurd e' h
    · exact h
  · rfl

/-- A context word with another key is as before. -/
theorem Dev.cg_cs_key (d : Dev) (c c' : Cls) (i i' : Nat) (f f' : CFld) (v : Nat)
    (h : okey c'.code i' f'.word ≠ okey c.code i f.word) : (d.cs c i f v).cg c' i' f' = d.cg c' i' f' := by
  simp only [Dev.cg, Dev.cs, Dev.ow_setOw, h, ite_false]

/-! ### Registers and contexts do not meet -/

@[simp] theorem Dev.g_setOw (d : Dev) (c i w u : Nat) (v : Word) (f : Fld) : (d.setOw c i w v).g u f = d.g u f := by
  simp only [Dev.g, Dev.cell, Dev.setOw_regs]
@[simp] theorem Dev.g_cs (d : Dev) (c : Cls) (i : Nat) (f : CFld) (v u : Nat) (x : Fld) :
    (d.cs c i f v).g u x = d.g u x := by
  simp only [Dev.g, Dev.cell, Dev.cs_regs]
@[simp] theorem Dev.cg_s (d : Dev) (u : Nat) (x : Fld) (v : Nat) (c : Cls) (i : Nat) (f : CFld) :
    (d.s u x v).cg c i f = d.cg c i f := by
  simp only [Dev.cg, Dev.ow, Dev.s_objs]
@[simp] theorem Dev.cg_setCell (d : Dev) (u off : Nat) (v : Word) (c : Cls) (i : Nat) (f : CFld) :
    (d.setCell u off v).cg c i f = d.cg c i f := by
  simp only [Dev.cg, Dev.ow, Dev.setCell_objs]
@[simp] theorem Dev.g_emit (d : Dev) (o : Out) (u : Nat) (f : Fld) : (d.emit o).g u f = d.g u f := by
  simp only [Dev.g, Dev.cell, Dev.emit_regs]

/-- R318: a latency report changes no register. -/
@[simp] theorem Dev.tellLtr_g (d old : Dev) (pf u : Nat) (f : Fld) : (d.tellLtr old pf).g u f = d.g u f := by
  unfold Dev.tellLtr; split <;> simp
@[simp] theorem Dev.g_used (d : Dev) (u : Nat) (f : Fld) : d.used.g u f = d.g u f := by
  simp only [Dev.g, Dev.cell, Dev.used_regs]

/-! ### The canonical form -/

/-- Setting a cell keeps the canonical form. -/
theorem Dev.canon_setCell (d : Dev) (u off : Nat) (v : Word) (h : d.canon = true) : (d.setCell u off v).canon = true := by
  simp only [Dev.canon, Dev.setCell, Bool.and_eq_true] at *
  exact ⟨⟨stPut_wf _ _ _ _ h.1.1, h.1.2⟩, h.2⟩

/-- Setting a field keeps the canonical form. -/
theorem Dev.canon_s (d : Dev) (u : Nat) (f : Fld) (v : Nat) (h : d.canon = true) : (d.s u f v).canon = true :=
  d.canon_setCell u f.off _ h

/-- Returning registers to reset keeps the canonical form. -/
theorem Dev.canon_resetRegs (d : Dev) (u : Nat) (keep : Nat → Bool) (h : d.canon = true) :
    (d.resetRegs u keep).canon = true := by
  simp only [Dev.canon, Dev.resetRegs, Bool.and_eq_true] at *
  exact ⟨⟨stDrop_wf _ _ _ h.1.1, h.1.2⟩, h.2⟩

/-- Setting a context word keeps the canonical form. -/
theorem Dev.canon_setOw (d : Dev) (c i w : Nat) (v : Word) (h : d.canon = true) : (d.setOw c i w v).canon = true := by
  simp only [Dev.canon, Dev.setOw, Bool.and_eq_true] at *
  exact ⟨⟨h.1.1, stPut_wf _ _ _ _ h.1.2⟩, h.2⟩

/-- Setting a context field keeps the canonical form. -/
theorem Dev.canon_cs (d : Dev) (c : Cls) (i : Nat) (f : CFld) (v : Nat) (h : d.canon = true) :
    (d.cs c i f v).canon = true := d.canon_setOw c.code i f.word _ h

/-- Writing a record keeps the canonical form. -/
theorem Dev.canon_setRec (d : Dev) (c : Cls) (i : Nat) (ws : List Word) (h : d.canon = true) :
    (d.setRec c i ws).canon = true := by
  simp only [Dev.canon, Dev.setRec, Bool.and_eq_true] at *
  exact ⟨⟨h.1.1, stPutList_wf _ _ _ _ h.1.2⟩, h.2⟩

/-- Clearing a record keeps the canonical form. -/
theorem Dev.canon_clearRec (d : Dev) (c : Cls) (i : Nat) (h : d.canon = true) : (d.clearRec c i).canon = true := by
  simp only [Dev.canon, Dev.clearRec, Bool.and_eq_true] at *
  exact ⟨⟨h.1.1, stDrop_wf _ _ _ h.1.2⟩, h.2⟩

/-- Writing bytes keeps the canonical form. -/
theorem Dev.canon_writeMem (d : Dev) (sp : Space) (a : Nat) (bs : List Byte) (h : d.canon = true) :
    (d.writeMem sp a bs).canon = true := by
  simp only [Dev.canon, Dev.writeMem, Bool.and_eq_true] at *
  split <;> exact ⟨h.1, stPutList_wf _ _ _ _ h.2⟩

/-- Clearing bytes keeps the canonical form. -/
theorem Dev.canon_clearMem (d : Dev) (sp : Space) (p : Nat → Bool) (h : d.canon = true) :
    (d.clearMem sp p).canon = true := by
  simp only [Dev.canon, Dev.clearMem, Bool.and_eq_true] at *
  exact ⟨h.1, stDrop_wf _ _ _ h.2⟩

/-! ### What changes -/

/-- Putting the old registers back undoes a change of registers. -/
theorem Dev.regs_back (d : Dev) (x : List (Nat × Word)) : { ({ d with regs := x } : Dev) with regs := d.regs } = d := rfl

/-- Registers put back twice. -/
theorem Dev.regs_twice (d : Dev) (x y : List (Nat × Word)) :
    { ({ d with regs := x } : Dev) with regs := y } = { d with regs := y } := rfl

/-- Nothing changes from a device to itself. -/
theorem OnlyCells.refl (d : Dev) (ks : List Nat) : OnlyCells d d ks := ⟨rfl, fun _ _ => rfl⟩

/-- Setting a cell changes that cell only. -/
theorem OnlyCells.setCell (d : Dev) (u off : Nat) (v : Word) : OnlyCells d (d.setCell u off v) [rkey u off] := by
  refine ⟨Dev.regs_back d _, fun k hk => ?_⟩
  simp only [List.mem_singleton] at hk
  exact stGet_stPut_ne _ _ _ _ _ hk

/-- Setting a field changes its cell only. -/
theorem OnlyCells.s (d : Dev) (u : Nat) (f : Fld) (v : Nat) : OnlyCells d (d.s u f v) [rkey u f.off] :=
  OnlyCells.setCell d u f.off _

/-- Two changes after each other. -/
theorem OnlyCells.trans {a b c : Dev} {ks js : List Nat} (h : OnlyCells a b ks) (h' : OnlyCells b c js) :
    OnlyCells a c (ks ++ js) := by
  refine ⟨?_, fun k hk => ?_⟩
  · have e1 := congrArg (fun (x : Dev) => ({ x with regs := a.regs } : Dev)) h'.1
    simp only at e1
    exact e1.trans h.1
  · simp only [List.mem_append, not_or] at hk
    rw [h'.2 k hk.2, h.2 k hk.1]

/-- A longer list of cells says less. -/
theorem OnlyCells.mono {a b : Dev} {ks js : List Nat} (h : OnlyCells a b ks) (hs : ∀ k ∈ ks, k ∈ js) :
    OnlyCells a b js := ⟨h.1, fun k hk => h.2 k (fun hm => hk (hs k hm))⟩

/-- One more field set. -/
theorem OnlyCells.then_s {d e : Dev} {ks : List Nat} (u : Nat) (f : Fld) (v : Nat) (h : OnlyCells d e ks)
    (hk : rkey u f.off ∈ ks) : OnlyCells d (e.s u f v) ks :=
  (h.trans (OnlyCells.s e u f v)).mono (by
    intro k hm
    simp only [List.mem_append, List.mem_singleton] at hm
    rcases hm with hm | rfl
    · exact hm
    · exact hk)

/-- One more cell set. -/
theorem OnlyCells.then_setCell {d e : Dev} {ks : List Nat} (u off : Nat) (v : Word) (h : OnlyCells d e ks)
    (hk : rkey u off ∈ ks) : OnlyCells d (e.setCell u off v) ks :=
  (h.trans (OnlyCells.setCell e u off v)).mono (by
    intro k hm
    simp only [List.mem_append, List.mem_singleton] at hm
    rcases hm with hm | rfl
    · exact hm
    · exact hk)

/-! ### Running a device function -/

/-- A command taken in Run answers the device function's result. -/
theorem State.run_acts (s : State) (f : Dev → Dev) (h : s.dev.acts = true) :
    s.run f = s.next (f s.dev) := by
  simp [State.run, State.runIf, h]

/-- Outside Run a command taken in Run only changes nothing. -/
theorem State.run_still (s : State) (f : Dev → Dev) (h : s.dev.acts = false) : s.run f = .next s := by
  simp [State.run, State.runIf, h]

/-! ### Kind-specific fields -/

/-- A kind-specific field that was set reads as its value, modulo its width. -/
theorem Dev.gk_sk_same (d : Dev) (u : Nat) (f : Fld) (v : Nat) (h : f.lo + f.w ≤ 64) : (d.sk u f v).gk u f = v % 2 ^ f.w :=
  Dev.g_s_same _ _ f.kind v h

/-- Setting a kind-specific field leaves the unit's other ones. -/
theorem Dev.gk_sk_ne (d : Dev) (u : Nat) (f f' : Fld) (v : Nat)
    (h : f'.off ≠ f.off ∨ f'.lo + f'.w ≤ f.lo ∨ f.lo + f.w ≤ f'.lo) : (d.sk u f v).gk u f' = d.gk u f' := by
  refine Dev.g_s_field _ _ f.kind f'.kind v ?_
  rcases h with h | h
  · left
    simp only [Fld.kind]
    omega
  · exact Or.inr h

/-- A kind-specific counter rises by 1 modulo its width. -/
theorem Dev.gk_bumpk_same (d : Dev) (u : Nat) (f : Fld) (h : f.lo + f.w ≤ 64) :
    (d.bumpk u f).gk u f = (d.gk u f + 1) % 2 ^ f.w := Dev.g_s_same _ _ f.kind _ h

/-- A kind-specific counter leaves the unit's other kind-specific fields. -/
theorem Dev.gk_bumpk_ne (d : Dev) (u : Nat) (f f' : Fld)
    (h : f'.off ≠ f.off ∨ f'.lo + f'.w ≤ f.lo ∨ f.lo + f.w ≤ f'.lo) : (d.bumpk u f).gk u f' = d.gk u f' :=
  Dev.gk_sk_ne d u f f' _ h

end Sys2Proof.Machine
end

