-- ==== Sys2Proof/Laws/Parts.lean ====
section
/-! SUPPORT. What the updates of one part of the device leave alone: each changes that part only (`_only` says it of every
other field at once), so registers, contexts, memory and the tree read as before. -/

namespace Sys2Proof.Machine

variable (d : Dev)

/-! ### `setPe`: a PE -/

/-- `setPe` changes `pes` only. -/
theorem Dev.setPe_only (n : Nat) (f : PeSt → PeSt) : { d.setPe n f with pes := d.pes } = d := rfl
@[simp] theorem Dev.setPe_regs (n : Nat) (f : PeSt → PeSt) : (d.setPe n f).regs = d.regs := rfl
@[simp] theorem Dev.setPe_objs (n : Nat) (f : PeSt → PeSt) : (d.setPe n f).objs = d.objs := rfl
@[simp] theorem Dev.setPe_bytes (n : Nat) (f : PeSt → PeSt) : (d.setPe n f).bytes = d.bytes := rfl
@[simp] theorem Dev.setPe_hitches (n : Nat) (f : PeSt → PeSt) : (d.setPe n f).hitches = d.hitches := rfl
@[simp] theorem Dev.setPe_time (n : Nat) (f : PeSt → PeSt) : (d.setPe n f).time = d.time := rfl
@[simp] theorem Dev.setPe_out (n : Nat) (f : PeSt → PeSt) : (d.setPe n f).out = d.out := rfl
@[simp] theorem Dev.setPe_g (n : Nat) (f : PeSt → PeSt) (u : Nat) (x : Fld) : (d.setPe n f).g u x = d.g u x := Dev.g_congr (Dev.setPe_regs d n f) u x
@[simp] theorem Dev.setPe_cg (n : Nat) (f : PeSt → PeSt) (cl : Cls) (j : Nat) (x : CFld) : (d.setPe n f).cg cl j x = d.cg cl j x :=
  Dev.cg_congr (Dev.setPe_objs d n f) cl j x

/-! ### `setThr`: a thread of a PE -/

/-- `setThr` changes `pes` only. -/
theorem Dev.setThr_only (n t : Nat) (f : Thr → Thr) : { d.setThr n t f with pes := d.pes } = d := rfl
@[simp] theorem Dev.setThr_regs (n t : Nat) (f : Thr → Thr) : (d.setThr n t f).regs = d.regs := rfl
@[simp] theorem Dev.setThr_objs (n t : Nat) (f : Thr → Thr) : (d.setThr n t f).objs = d.objs := rfl
@[simp] theorem Dev.setThr_bytes (n t : Nat) (f : Thr → Thr) : (d.setThr n t f).bytes = d.bytes := rfl
@[simp] theorem Dev.setThr_hitches (n t : Nat) (f : Thr → Thr) : (d.setThr n t f).hitches = d.hitches := rfl
@[simp] theorem Dev.setThr_time (n t : Nat) (f : Thr → Thr) : (d.setThr n t f).time = d.time := rfl
@[simp] theorem Dev.setThr_out (n t : Nat) (f : Thr → Thr) : (d.setThr n t f).out = d.out := rfl
@[simp] theorem Dev.setThr_g (n t : Nat) (f : Thr → Thr) (u : Nat) (x : Fld) : (d.setThr n t f).g u x = d.g u x := Dev.g_congr (Dev.setThr_regs d n t f) u x
@[simp] theorem Dev.setThr_cg (n t : Nat) (f : Thr → Thr) (cl : Cls) (j : Nat) (x : CFld) : (d.setThr n t f).cg cl j x = d.cg cl j x :=
  Dev.cg_congr (Dev.setThr_objs d n t f) cl j x

/-! ### `setEh`: the record of an engine hitch -/

/-- `setEh` changes `ehs` only. -/
theorem Dev.setEh_only (h : Nat) (f : EhSt → EhSt) : { d.setEh h f with ehs := d.ehs } = d := rfl
@[simp] theorem Dev.setEh_regs (h : Nat) (f : EhSt → EhSt) : (d.setEh h f).regs = d.regs := rfl
@[simp] theorem Dev.setEh_objs (h : Nat) (f : EhSt → EhSt) : (d.setEh h f).objs = d.objs := rfl
@[simp] theorem Dev.setEh_bytes (h : Nat) (f : EhSt → EhSt) : (d.setEh h f).bytes = d.bytes := rfl
@[simp] theorem Dev.setEh_hitches (h : Nat) (f : EhSt → EhSt) : (d.setEh h f).hitches = d.hitches := rfl
@[simp] theorem Dev.setEh_time (h : Nat) (f : EhSt → EhSt) : (d.setEh h f).time = d.time := rfl
@[simp] theorem Dev.setEh_out (h : Nat) (f : EhSt → EhSt) : (d.setEh h f).out = d.out := rfl
@[simp] theorem Dev.setEh_g (h : Nat) (f : EhSt → EhSt) (u : Nat) (x : Fld) : (d.setEh h f).g u x = d.g u x := Dev.g_congr (Dev.setEh_regs d h f) u x
@[simp] theorem Dev.setEh_cg (h : Nat) (f : EhSt → EhSt) (cl : Cls) (j : Nat) (x : CFld) : (d.setEh h f).cg cl j x = d.cg cl j x :=
  Dev.cg_congr (Dev.setEh_objs d h f) cl j x

/-! ### `setCry`: crypto and entropy -/

/-- `setCry` changes `cry` only. -/
theorem Dev.setCry_only (f : CrySt → CrySt) : { d.setCry f with cry := d.cry } = d := rfl
@[simp] theorem Dev.setCry_regs (f : CrySt → CrySt) : (d.setCry f).regs = d.regs := rfl
@[simp] theorem Dev.setCry_objs (f : CrySt → CrySt) : (d.setCry f).objs = d.objs := rfl
@[simp] theorem Dev.setCry_bytes (f : CrySt → CrySt) : (d.setCry f).bytes = d.bytes := rfl
@[simp] theorem Dev.setCry_hitches (f : CrySt → CrySt) : (d.setCry f).hitches = d.hitches := rfl
@[simp] theorem Dev.setCry_time (f : CrySt → CrySt) : (d.setCry f).time = d.time := rfl
@[simp] theorem Dev.setCry_out (f : CrySt → CrySt) : (d.setCry f).out = d.out := rfl
@[simp] theorem Dev.setCry_g (f : CrySt → CrySt) (u : Nat) (x : Fld) : (d.setCry f).g u x = d.g u x := Dev.g_congr (Dev.setCry_regs d f) u x
@[simp] theorem Dev.setCry_cg (f : CrySt → CrySt) (cl : Cls) (j : Nat) (x : CFld) : (d.setCry f).cg cl j x = d.cg cl j x :=
  Dev.cg_congr (Dev.setCry_objs d f) cl j x

/-! ### `setMgmt`: management -/

/-- `setMgmt` changes `mgmt` only. -/
theorem Dev.setMgmt_only (f : MgmtSt → MgmtSt) : { d.setMgmt f with mgmt := d.mgmt } = d := rfl
@[simp] theorem Dev.setMgmt_regs (f : MgmtSt → MgmtSt) : (d.setMgmt f).regs = d.regs := rfl
@[simp] theorem Dev.setMgmt_objs (f : MgmtSt → MgmtSt) : (d.setMgmt f).objs = d.objs := rfl
@[simp] theorem Dev.setMgmt_bytes (f : MgmtSt → MgmtSt) : (d.setMgmt f).bytes = d.bytes := rfl
@[simp] theorem Dev.setMgmt_hitches (f : MgmtSt → MgmtSt) : (d.setMgmt f).hitches = d.hitches := rfl
@[simp] theorem Dev.setMgmt_time (f : MgmtSt → MgmtSt) : (d.setMgmt f).time = d.time := rfl
@[simp] theorem Dev.setMgmt_out (f : MgmtSt → MgmtSt) : (d.setMgmt f).out = d.out := rfl
@[simp] theorem Dev.setMgmt_g (f : MgmtSt → MgmtSt) (u : Nat) (x : Fld) : (d.setMgmt f).g u x = d.g u x := Dev.g_congr (Dev.setMgmt_regs d f) u x
@[simp] theorem Dev.setMgmt_cg (f : MgmtSt → MgmtSt) (cl : Cls) (j : Nat) (x : CFld) : (d.setMgmt f).cg cl j x = d.cg cl j x :=
  Dev.cg_congr (Dev.setMgmt_objs d f) cl j x

/-! ### `setMac`: a MAC -/

/-- `setMac` changes `macs` only. -/
theorem Dev.setMac_only (l : Nat) (f : MacSt → MacSt) : { d.setMac l f with macs := d.macs } = d := rfl
@[simp] theorem Dev.setMac_regs (l : Nat) (f : MacSt → MacSt) : (d.setMac l f).regs = d.regs := rfl
@[simp] theorem Dev.setMac_objs (l : Nat) (f : MacSt → MacSt) : (d.setMac l f).objs = d.objs := rfl
@[simp] theorem Dev.setMac_bytes (l : Nat) (f : MacSt → MacSt) : (d.setMac l f).bytes = d.bytes := rfl
@[simp] theorem Dev.setMac_hitches (l : Nat) (f : MacSt → MacSt) : (d.setMac l f).hitches = d.hitches := rfl
@[simp] theorem Dev.setMac_time (l : Nat) (f : MacSt → MacSt) : (d.setMac l f).time = d.time := rfl
@[simp] theorem Dev.setMac_out (l : Nat) (f : MacSt → MacSt) : (d.setMac l f).out = d.out := rfl
@[simp] theorem Dev.setMac_g (l : Nat) (f : MacSt → MacSt) (u : Nat) (x : Fld) : (d.setMac l f).g u x = d.g u x := Dev.g_congr (Dev.setMac_regs d l f) u x
@[simp] theorem Dev.setMac_cg (l : Nat) (f : MacSt → MacSt) (cl : Cls) (j : Nat) (x : CFld) : (d.setMac l f).cg cl j x = d.cg cl j x :=
  Dev.cg_congr (Dev.setMac_objs d l f) cl j x

/-! ### `setRl`: the relay -/

/-- `setRl` changes `relay` only. -/
theorem Dev.setRl_only (f : RelaySt → RelaySt) : { d.setRl f with relay := d.relay } = d := rfl
@[simp] theorem Dev.setRl_regs (f : RelaySt → RelaySt) : (d.setRl f).regs = d.regs := rfl
@[simp] theorem Dev.setRl_objs (f : RelaySt → RelaySt) : (d.setRl f).objs = d.objs := rfl
@[simp] theorem Dev.setRl_bytes (f : RelaySt → RelaySt) : (d.setRl f).bytes = d.bytes := rfl
@[simp] theorem Dev.setRl_hitches (f : RelaySt → RelaySt) : (d.setRl f).hitches = d.hitches := rfl
@[simp] theorem Dev.setRl_time (f : RelaySt → RelaySt) : (d.setRl f).time = d.time := rfl
@[simp] theorem Dev.setRl_out (f : RelaySt → RelaySt) : (d.setRl f).out = d.out := rfl
@[simp] theorem Dev.setRl_g (f : RelaySt → RelaySt) (u : Nat) (x : Fld) : (d.setRl f).g u x = d.g u x := Dev.g_congr (Dev.setRl_regs d f) u x
@[simp] theorem Dev.setRl_cg (f : RelaySt → RelaySt) (cl : Cls) (j : Nat) (x : CFld) : (d.setRl f).cg cl j x = d.cg cl j x :=
  Dev.cg_congr (Dev.setRl_objs d f) cl j x

/-! ### `setLink`: a neighbour of the relay -/

/-- `setLink` changes `relay` only. -/
theorem Dev.setLink_only (m : Nat) (f : RlLink → RlLink) : { d.setLink m f with relay := d.relay } = d := rfl
@[simp] theorem Dev.setLink_regs (m : Nat) (f : RlLink → RlLink) : (d.setLink m f).regs = d.regs := rfl
@[simp] theorem Dev.setLink_objs (m : Nat) (f : RlLink → RlLink) : (d.setLink m f).objs = d.objs := rfl
@[simp] theorem Dev.setLink_bytes (m : Nat) (f : RlLink → RlLink) : (d.setLink m f).bytes = d.bytes := rfl
@[simp] theorem Dev.setLink_hitches (m : Nat) (f : RlLink → RlLink) : (d.setLink m f).hitches = d.hitches := rfl
@[simp] theorem Dev.setLink_time (m : Nat) (f : RlLink → RlLink) : (d.setLink m f).time = d.time := rfl
@[simp] theorem Dev.setLink_out (m : Nat) (f : RlLink → RlLink) : (d.setLink m f).out = d.out := rfl
@[simp] theorem Dev.setLink_g (m : Nat) (f : RlLink → RlLink) (u : Nat) (x : Fld) : (d.setLink m f).g u x = d.g u x := Dev.g_congr (Dev.setLink_regs d m f) u x
@[simp] theorem Dev.setLink_cg (m : Nat) (f : RlLink → RlLink) (cl : Cls) (j : Nat) (x : CFld) : (d.setLink m f).cg cl j x = d.cg cl j x :=
  Dev.cg_congr (Dev.setLink_objs d m f) cl j x

/-! ### `setOps`: operations of the relay -/

/-- `setOps` changes `relay` only. -/
theorem Dev.setOps_only (p : RlOp → Bool) (f : RlOp → RlOp) : { d.setOps p f with relay := d.relay } = d := rfl
@[simp] theorem Dev.setOps_regs (p : RlOp → Bool) (f : RlOp → RlOp) : (d.setOps p f).regs = d.regs := rfl
@[simp] theorem Dev.setOps_objs (p : RlOp → Bool) (f : RlOp → RlOp) : (d.setOps p f).objs = d.objs := rfl
@[simp] theorem Dev.setOps_bytes (p : RlOp → Bool) (f : RlOp → RlOp) : (d.setOps p f).bytes = d.bytes := rfl
@[simp] theorem Dev.setOps_hitches (p : RlOp → Bool) (f : RlOp → RlOp) : (d.setOps p f).hitches = d.hitches := rfl
@[simp] theorem Dev.setOps_time (p : RlOp → Bool) (f : RlOp → RlOp) : (d.setOps p f).time = d.time := rfl
@[simp] theorem Dev.setOps_out (p : RlOp → Bool) (f : RlOp → RlOp) : (d.setOps p f).out = d.out := rfl
@[simp] theorem Dev.setOps_g (p : RlOp → Bool) (f : RlOp → RlOp) (u : Nat) (x : Fld) : (d.setOps p f).g u x = d.g u x := Dev.g_congr (Dev.setOps_regs d p f) u x
@[simp] theorem Dev.setOps_cg (p : RlOp → Bool) (f : RlOp → RlOp) (cl : Cls) (j : Nat) (x : CFld) : (d.setOps p f).cg cl j x = d.cg cl j x :=
  Dev.cg_congr (Dev.setOps_objs d p f) cl j x

/-! ### `setWire`: the wire side of a port -/

/-- `setWire` changes `sched` only. -/
theorem Dev.setWire_only (p : Nat) (f : WireSt → WireSt) : { d.setWire p f with sched := d.sched } = d := rfl
@[simp] theorem Dev.setWire_regs (p : Nat) (f : WireSt → WireSt) : (d.setWire p f).regs = d.regs := rfl
@[simp] theorem Dev.setWire_objs (p : Nat) (f : WireSt → WireSt) : (d.setWire p f).objs = d.objs := rfl
@[simp] theorem Dev.setWire_bytes (p : Nat) (f : WireSt → WireSt) : (d.setWire p f).bytes = d.bytes := rfl
@[simp] theorem Dev.setWire_hitches (p : Nat) (f : WireSt → WireSt) : (d.setWire p f).hitches = d.hitches := rfl
@[simp] theorem Dev.setWire_time (p : Nat) (f : WireSt → WireSt) : (d.setWire p f).time = d.time := rfl
@[simp] theorem Dev.setWire_out (p : Nat) (f : WireSt → WireSt) : (d.setWire p f).out = d.out := rfl
@[simp] theorem Dev.setWire_g (p : Nat) (f : WireSt → WireSt) (u : Nat) (x : Fld) : (d.setWire p f).g u x = d.g u x := Dev.g_congr (Dev.setWire_regs d p f) u x
@[simp] theorem Dev.setWire_cg (p : Nat) (f : WireSt → WireSt) (cl : Cls) (j : Nat) (x : CFld) : (d.setWire p f).cg cl j x = d.cg cl j x :=
  Dev.cg_congr (Dev.setWire_objs d p f) cl j x

/-! ### `setDrr`: the round of a node -/

/-- `setDrr` changes `sched` only. -/
theorem Dev.setDrr_only (p : Nat) (r : Drr) : { d.setDrr p r with sched := d.sched } = d := rfl
@[simp] theorem Dev.setDrr_regs (p : Nat) (r : Drr) : (d.setDrr p r).regs = d.regs := rfl
@[simp] theorem Dev.setDrr_objs (p : Nat) (r : Drr) : (d.setDrr p r).objs = d.objs := rfl
@[simp] theorem Dev.setDrr_bytes (p : Nat) (r : Drr) : (d.setDrr p r).bytes = d.bytes := rfl
@[simp] theorem Dev.setDrr_hitches (p : Nat) (r : Drr) : (d.setDrr p r).hitches = d.hitches := rfl
@[simp] theorem Dev.setDrr_time (p : Nat) (r : Drr) : (d.setDrr p r).time = d.time := rfl
@[simp] theorem Dev.setDrr_out (p : Nat) (r : Drr) : (d.setDrr p r).out = d.out := rfl
@[simp] theorem Dev.setDrr_g (p : Nat) (r : Drr) (u : Nat) (x : Fld) : (d.setDrr p r).g u x = d.g u x := Dev.g_congr (Dev.setDrr_regs d p r) u x
@[simp] theorem Dev.setDrr_cg (p : Nat) (r : Drr) (cl : Cls) (j : Nat) (x : CFld) : (d.setDrr p r).cg cl j x = d.cg cl j x :=
  Dev.cg_congr (Dev.setDrr_objs d p r) cl j x

/-! ### `setTbl`: a match table -/

/-- `setTbl` changes `tbl` only. -/
theorem Dev.setTbl_only (i : Nat) (f : Tbl → Tbl) : { d.setTbl i f with tbl := d.tbl } = d := rfl
@[simp] theorem Dev.setTbl_regs (i : Nat) (f : Tbl → Tbl) : (d.setTbl i f).regs = d.regs := rfl
@[simp] theorem Dev.setTbl_objs (i : Nat) (f : Tbl → Tbl) : (d.setTbl i f).objs = d.objs := rfl
@[simp] theorem Dev.setTbl_bytes (i : Nat) (f : Tbl → Tbl) : (d.setTbl i f).bytes = d.bytes := rfl
@[simp] theorem Dev.setTbl_hitches (i : Nat) (f : Tbl → Tbl) : (d.setTbl i f).hitches = d.hitches := rfl
@[simp] theorem Dev.setTbl_time (i : Nat) (f : Tbl → Tbl) : (d.setTbl i f).time = d.time := rfl
@[simp] theorem Dev.setTbl_out (i : Nat) (f : Tbl → Tbl) : (d.setTbl i f).out = d.out := rfl
@[simp] theorem Dev.setTbl_g (i : Nat) (f : Tbl → Tbl) (u : Nat) (x : Fld) : (d.setTbl i f).g u x = d.g u x := Dev.g_congr (Dev.setTbl_regs d i f) u x
@[simp] theorem Dev.setTbl_cg (i : Nat) (f : Tbl → Tbl) (cl : Cls) (j : Nat) (x : CFld) : (d.setTbl i f).cg cl j x = d.cg cl j x :=
  Dev.cg_congr (Dev.setTbl_objs d i f) cl j x

/-! ### `setQ`: a queue -/

/-- `setQ` changes `queues` only. -/
theorem Dev.setQ_only (q : Nat) (f : QSt → QSt) : { d.setQ q f with queues := d.queues } = d := rfl
@[simp] theorem Dev.setQ_regs (q : Nat) (f : QSt → QSt) : (d.setQ q f).regs = d.regs := rfl
@[simp] theorem Dev.setQ_objs (q : Nat) (f : QSt → QSt) : (d.setQ q f).objs = d.objs := rfl
@[simp] theorem Dev.setQ_bytes (q : Nat) (f : QSt → QSt) : (d.setQ q f).bytes = d.bytes := rfl
@[simp] theorem Dev.setQ_hitches (q : Nat) (f : QSt → QSt) : (d.setQ q f).hitches = d.hitches := rfl
@[simp] theorem Dev.setQ_time (q : Nat) (f : QSt → QSt) : (d.setQ q f).time = d.time := rfl
@[simp] theorem Dev.setQ_out (q : Nat) (f : QSt → QSt) : (d.setQ q f).out = d.out := rfl
@[simp] theorem Dev.setQ_g (q : Nat) (f : QSt → QSt) (u : Nat) (x : Fld) : (d.setQ q f).g u x = d.g u x := Dev.g_congr (Dev.setQ_regs d q f) u x
@[simp] theorem Dev.setQ_cg (q : Nat) (f : QSt → QSt) (cl : Cls) (j : Nat) (x : CFld) : (d.setQ q f).cg cl j x = d.cg cl j x :=
  Dev.cg_congr (Dev.setQ_objs d q f) cl j x

/-! ### `setJob`: a job of a queue -/

/-- `setJob` changes `queues` only. -/
theorem Dev.setJob_only (q i : Nat) (f : Job → Job) : { d.setJob q i f with queues := d.queues } = d := rfl
@[simp] theorem Dev.setJob_regs (q i : Nat) (f : Job → Job) : (d.setJob q i f).regs = d.regs := rfl
@[simp] theorem Dev.setJob_objs (q i : Nat) (f : Job → Job) : (d.setJob q i f).objs = d.objs := rfl
@[simp] theorem Dev.setJob_bytes (q i : Nat) (f : Job → Job) : (d.setJob q i f).bytes = d.bytes := rfl
@[simp] theorem Dev.setJob_hitches (q i : Nat) (f : Job → Job) : (d.setJob q i f).hitches = d.hitches := rfl
@[simp] theorem Dev.setJob_time (q i : Nat) (f : Job → Job) : (d.setJob q i f).time = d.time := rfl
@[simp] theorem Dev.setJob_out (q i : Nat) (f : Job → Job) : (d.setJob q i f).out = d.out := rfl
@[simp] theorem Dev.setJob_g (q i : Nat) (f : Job → Job) (u : Nat) (x : Fld) : (d.setJob q i f).g u x = d.g u x := Dev.g_congr (Dev.setJob_regs d q i f) u x
@[simp] theorem Dev.setJob_cg (q i : Nat) (f : Job → Job) (cl : Cls) (j : Nat) (x : CFld) : (d.setJob q i f).cg cl j x = d.cg cl j x :=
  Dev.cg_congr (Dev.setJob_objs d q i f) cl j x

/-! ### `setTcp`: a TCP stream -/

/-- `setTcp` changes `stor` only. -/
theorem Dev.setTcp_only (k : Nat) (f : StTcp → StTcp) : { d.setTcp k f with stor := d.stor } = d := rfl
@[simp] theorem Dev.setTcp_regs (k : Nat) (f : StTcp → StTcp) : (d.setTcp k f).regs = d.regs := rfl
@[simp] theorem Dev.setTcp_objs (k : Nat) (f : StTcp → StTcp) : (d.setTcp k f).objs = d.objs := rfl
@[simp] theorem Dev.setTcp_bytes (k : Nat) (f : StTcp → StTcp) : (d.setTcp k f).bytes = d.bytes := rfl
@[simp] theorem Dev.setTcp_hitches (k : Nat) (f : StTcp → StTcp) : (d.setTcp k f).hitches = d.hitches := rfl
@[simp] theorem Dev.setTcp_time (k : Nat) (f : StTcp → StTcp) : (d.setTcp k f).time = d.time := rfl
@[simp] theorem Dev.setTcp_out (k : Nat) (f : StTcp → StTcp) : (d.setTcp k f).out = d.out := rfl
@[simp] theorem Dev.setTcp_g (k : Nat) (f : StTcp → StTcp) (u : Nat) (x : Fld) : (d.setTcp k f).g u x = d.g u x := Dev.g_congr (Dev.setTcp_regs d k f) u x
@[simp] theorem Dev.setTcp_cg (k : Nat) (f : StTcp → StTcp) (cl : Cls) (j : Nat) (x : CFld) : (d.setTcp k f).cg cl j x = d.cg cl j x :=
  Dev.cg_congr (Dev.setTcp_objs d k f) cl j x

/-! ### `setPost`: a post of the storage unit -/

/-- `setPost` changes `stor` only. -/
theorem Dev.setPost_only (i : Nat) (f : StPost → StPost) : { d.setPost i f with stor := d.stor } = d := rfl
@[simp] theorem Dev.setPost_regs (i : Nat) (f : StPost → StPost) : (d.setPost i f).regs = d.regs := rfl
@[simp] theorem Dev.setPost_objs (i : Nat) (f : StPost → StPost) : (d.setPost i f).objs = d.objs := rfl
@[simp] theorem Dev.setPost_bytes (i : Nat) (f : StPost → StPost) : (d.setPost i f).bytes = d.bytes := rfl
@[simp] theorem Dev.setPost_hitches (i : Nat) (f : StPost → StPost) : (d.setPost i f).hitches = d.hitches := rfl
@[simp] theorem Dev.setPost_time (i : Nat) (f : StPost → StPost) : (d.setPost i f).time = d.time := rfl
@[simp] theorem Dev.setPost_out (i : Nat) (f : StPost → StPost) : (d.setPost i f).out = d.out := rfl
@[simp] theorem Dev.setPost_g (i : Nat) (f : StPost → StPost) (u : Nat) (x : Fld) : (d.setPost i f).g u x = d.g u x := Dev.g_congr (Dev.setPost_regs d i f) u x
@[simp] theorem Dev.setPost_cg (i : Nat) (f : StPost → StPost) (cl : Cls) (j : Nat) (x : CFld) : (d.setPost i f).cg cl j x = d.cg cl j x :=
  Dev.cg_congr (Dev.setPost_objs d i f) cl j x

/-! ### `setCmd`: a storage command -/

/-- `setCmd` changes `stor` only. -/
theorem Dev.setCmd_only (i : Nat) (f : StCmd → StCmd) : { d.setCmd i f with stor := d.stor } = d := rfl
@[simp] theorem Dev.setCmd_regs (i : Nat) (f : StCmd → StCmd) : (d.setCmd i f).regs = d.regs := rfl
@[simp] theorem Dev.setCmd_objs (i : Nat) (f : StCmd → StCmd) : (d.setCmd i f).objs = d.objs := rfl
@[simp] theorem Dev.setCmd_bytes (i : Nat) (f : StCmd → StCmd) : (d.setCmd i f).bytes = d.bytes := rfl
@[simp] theorem Dev.setCmd_hitches (i : Nat) (f : StCmd → StCmd) : (d.setCmd i f).hitches = d.hitches := rfl
@[simp] theorem Dev.setCmd_time (i : Nat) (f : StCmd → StCmd) : (d.setCmd i f).time = d.time := rfl
@[simp] theorem Dev.setCmd_out (i : Nat) (f : StCmd → StCmd) : (d.setCmd i f).out = d.out := rfl
@[simp] theorem Dev.setCmd_g (i : Nat) (f : StCmd → StCmd) (u : Nat) (x : Fld) : (d.setCmd i f).g u x = d.g u x := Dev.g_congr (Dev.setCmd_regs d i f) u x
@[simp] theorem Dev.setCmd_cg (i : Nat) (f : StCmd → StCmd) (cl : Cls) (j : Nat) (x : CFld) : (d.setCmd i f).cg cl j x = d.cg cl j x :=
  Dev.cg_congr (Dev.setCmd_objs d i f) cl j x

/-! ### `setTc`: a connection -/

/-- `setTc` changes `tp` only. -/
theorem Dev.setTc_only (c : Nat) (f : TpConn → TpConn) : { d.setTc c f with tp := d.tp } = d := rfl
@[simp] theorem Dev.setTc_regs (c : Nat) (f : TpConn → TpConn) : (d.setTc c f).regs = d.regs := rfl
@[simp] theorem Dev.setTc_objs (c : Nat) (f : TpConn → TpConn) : (d.setTc c f).objs = d.objs := rfl
@[simp] theorem Dev.setTc_bytes (c : Nat) (f : TpConn → TpConn) : (d.setTc c f).bytes = d.bytes := rfl
@[simp] theorem Dev.setTc_hitches (c : Nat) (f : TpConn → TpConn) : (d.setTc c f).hitches = d.hitches := rfl
@[simp] theorem Dev.setTc_time (c : Nat) (f : TpConn → TpConn) : (d.setTc c f).time = d.time := rfl
@[simp] theorem Dev.setTc_out (c : Nat) (f : TpConn → TpConn) : (d.setTc c f).out = d.out := rfl
@[simp] theorem Dev.setTc_g (c : Nat) (f : TpConn → TpConn) (u : Nat) (x : Fld) : (d.setTc c f).g u x = d.g u x := Dev.g_congr (Dev.setTc_regs d c f) u x
@[simp] theorem Dev.setTc_cg (c : Nat) (f : TpConn → TpConn) (cl : Cls) (j : Nat) (x : CFld) : (d.setTc c f).cg cl j x = d.cg cl j x :=
  Dev.cg_congr (Dev.setTc_objs d c f) cl j x

/-! ### `setRegion`: a region -/

/-- `setRegion` changes `power` only. -/
theorem Dev.setRegion_only (r : Nat) (f : RegionSt → RegionSt) : { d.setRegion r f with power := d.power } = d := rfl
@[simp] theorem Dev.setRegion_regs (r : Nat) (f : RegionSt → RegionSt) : (d.setRegion r f).regs = d.regs := rfl
@[simp] theorem Dev.setRegion_objs (r : Nat) (f : RegionSt → RegionSt) : (d.setRegion r f).objs = d.objs := rfl
@[simp] theorem Dev.setRegion_bytes (r : Nat) (f : RegionSt → RegionSt) : (d.setRegion r f).bytes = d.bytes := rfl
@[simp] theorem Dev.setRegion_hitches (r : Nat) (f : RegionSt → RegionSt) : (d.setRegion r f).hitches = d.hitches := rfl
@[simp] theorem Dev.setRegion_time (r : Nat) (f : RegionSt → RegionSt) : (d.setRegion r f).time = d.time := rfl
@[simp] theorem Dev.setRegion_out (r : Nat) (f : RegionSt → RegionSt) : (d.setRegion r f).out = d.out := rfl
@[simp] theorem Dev.setRegion_g (r : Nat) (f : RegionSt → RegionSt) (u : Nat) (x : Fld) : (d.setRegion r f).g u x = d.g u x := Dev.g_congr (Dev.setRegion_regs d r f) u x
@[simp] theorem Dev.setRegion_cg (r : Nat) (f : RegionSt → RegionSt) (cl : Cls) (j : Nat) (x : CFld) : (d.setRegion r f).cg cl j x = d.cg cl j x :=
  Dev.cg_congr (Dev.setRegion_objs d r f) cl j x

/-! ### `setChan`: a DMA channel -/

/-- `setChan` changes `dma` only. -/
theorem Dev.setChan_only (t c : Nat) (f : ChSt → ChSt) : { d.setChan t c f with dma := d.dma } = d := rfl
@[simp] theorem Dev.setChan_regs (t c : Nat) (f : ChSt → ChSt) : (d.setChan t c f).regs = d.regs := rfl
@[simp] theorem Dev.setChan_objs (t c : Nat) (f : ChSt → ChSt) : (d.setChan t c f).objs = d.objs := rfl
@[simp] theorem Dev.setChan_bytes (t c : Nat) (f : ChSt → ChSt) : (d.setChan t c f).bytes = d.bytes := rfl
@[simp] theorem Dev.setChan_hitches (t c : Nat) (f : ChSt → ChSt) : (d.setChan t c f).hitches = d.hitches := rfl
@[simp] theorem Dev.setChan_time (t c : Nat) (f : ChSt → ChSt) : (d.setChan t c f).time = d.time := rfl
@[simp] theorem Dev.setChan_out (t c : Nat) (f : ChSt → ChSt) : (d.setChan t c f).out = d.out := rfl
@[simp] theorem Dev.setChan_g (t c : Nat) (f : ChSt → ChSt) (u : Nat) (x : Fld) : (d.setChan t c f).g u x = d.g u x := Dev.g_congr (Dev.setChan_regs d t c f) u x
@[simp] theorem Dev.setChan_cg (t c : Nat) (f : ChSt → ChSt) (cl : Cls) (j : Nat) (x : CFld) : (d.setChan t c f).cg cl j x = d.cg cl j x :=
  Dev.cg_congr (Dev.setChan_objs d t c f) cl j x

/-! ### `setAdm`: an admin command -/

/-- `setAdm` changes `admin` only. -/
theorem Dev.setAdm_only (pf i : Nat) (f : AdminCmd → AdminCmd) : { d.setAdm pf i f with admin := d.admin } = d := rfl
@[simp] theorem Dev.setAdm_regs (pf i : Nat) (f : AdminCmd → AdminCmd) : (d.setAdm pf i f).regs = d.regs := rfl
@[simp] theorem Dev.setAdm_objs (pf i : Nat) (f : AdminCmd → AdminCmd) : (d.setAdm pf i f).objs = d.objs := rfl
@[simp] theorem Dev.setAdm_bytes (pf i : Nat) (f : AdminCmd → AdminCmd) : (d.setAdm pf i f).bytes = d.bytes := rfl
@[simp] theorem Dev.setAdm_hitches (pf i : Nat) (f : AdminCmd → AdminCmd) : (d.setAdm pf i f).hitches = d.hitches := rfl
@[simp] theorem Dev.setAdm_time (pf i : Nat) (f : AdminCmd → AdminCmd) : (d.setAdm pf i f).time = d.time := rfl
@[simp] theorem Dev.setAdm_out (pf i : Nat) (f : AdminCmd → AdminCmd) : (d.setAdm pf i f).out = d.out := rfl
@[simp] theorem Dev.setAdm_g (pf i : Nat) (f : AdminCmd → AdminCmd) (u : Nat) (x : Fld) : (d.setAdm pf i f).g u x = d.g u x := Dev.g_congr (Dev.setAdm_regs d pf i f) u x
@[simp] theorem Dev.setAdm_cg (pf i : Nat) (f : AdminCmd → AdminCmd) (cl : Cls) (j : Nat) (x : CFld) : (d.setAdm pf i f).cg cl j x = d.cg cl j x :=
  Dev.cg_congr (Dev.setAdm_objs d pf i f) cl j x

/-! ### What such an update leaves in its own part -/

@[simp] theorem Dev.setCry_cry (f : CrySt → CrySt) : (d.setCry f).cry = f d.cry := rfl
@[simp] theorem Dev.setMgmt_mgmt (f : MgmtSt → MgmtSt) : (d.setMgmt f).mgmt = f d.mgmt := rfl
@[simp] theorem Dev.setRl_relay (f : RelaySt → RelaySt) : (d.setRl f).relay = f d.relay := rfl
@[simp] theorem Dev.setPe_pes (n : Nat) (f : PeSt → PeSt) : (d.setPe n f).pes = updAt d.pes n f := rfl
@[simp] theorem Dev.setMac_macs (l : Nat) (f : MacSt → MacSt) : (d.setMac l f).macs = updAt d.macs l f := rfl

/-- The canonical form rests on registers, records and bytes: an update that leaves them alone keeps it. -/
theorem Dev.canon_congr {d e : Dev} (hr : e.regs = d.regs) (ho : e.objs = d.objs) (hb : e.bytes = d.bytes) : e.canon = d.canon := by
  simp only [Dev.canon, hr, ho, hb]

end Sys2Proof.Machine
end

