-- ==== Sys2Proof/Tests/Slice0.lean ====
section
/-! SUPPORT. Tests: an ill-formed command for each check of WellFormed, the spec's worked examples, and for every statement states
and operands that meet its hypotheses. -/

open Sys2Proof Sys2Proof.Machine

set_option Elab.async false

namespace Sys2Proof.Tests

/-! ### Helpers -/

/-- A device that THERMTRIP_N has stopped. -/
def tripped : State :=
  { State.reset with dev := { Dev.reset with boot := { Dev.reset.boot with tripped := true } } }

/-- An admin command with opcode `op` and a well-formed entry without ARG and buffer, for the witnesses. -/
def admCmd (op : Nat) : AdminCmd :=
  { pf := 0, idx := 5, ent := wset [0, 0, 0, 0] Adm.OPCODE op, started := false, count := 0, done := none }
/-- A device with only that command in flight. -/
def admDev (op img : Nat) : Dev := ({ Dev.reset with admin := [admCmd op] } : Dev).s rootId Root.IMG_STATUS_STATE img
/-- The reset state with its device changed. -/
def withDev (f : Dev → Dev) : State := { State.reset with dev := f Dev.reset }

/-- A device whose PE 0 is ACTIVE and whose thread 3 alone runs, standing at instruction `i` at address 0. -/
def engDev (i : EngInst) : Dev :=
  ((({ Dev.reset with pes := Dev.reset.pes.set 0 { PeSt.init with thr := PeSt.init.thr.set 3 { Thr.init with st := .running } } } : Dev).setUst
    (peId 0) stActive).writeMem .peCode 0 (leBytes 4 (encodeInst i)))
/-- That device is in Run and its thread 3 issues `i`. -/
def engOk (i : EngInst) : Bool := (engDev i).acts && (engDev i).issues 0 3 i

/-- A table of four entries with nothing kept about it, for the witnesses. -/
def tbl0 : Tbl :=
  { id := 1, kind := 4, keyBits := 0, entryBytes := 32, entryCount := 4, tcam := 0, onchip := 0, owner := 0, flowBase := 0, firstBlock := 0
    part := 0, ctl0 := 0, ctl1 := 0, stats := List.replicate 13 0, sweepPos := 0, sweepP := 0, offline := false, agedN := 0
    agedAt := none, learnAt := none, attempts := [], damaged := [], badBuckets := [], cache := [], rr := [] }
/-- A device whose units `us` are ACTIVE and enabled with the root. -/
def onDev (d : Dev) (us : List Nat) : Dev :=
  us.foldl (fun (d : Dev) u => (d.setUst u stActive).s u Hdr.UNIT_CONTROL_ENABLE 1) (d.s rootId Hdr.UNIT_CONTROL_ENABLE 1)

/-- Apply a function to a number that the kernel evaluates first. -/
def force (n : Nat) (f : Nat → Nat) : Nat := Nat.rec (f 0) (fun k _ => f (k + 1)) n
theorem force_eq (n : Nat) (f : Nat → Nat) : force n f = f n := by cases n <;> rfl
/-- A CRC whose running value the kernel evaluates byte by byte. -/
def crcForce : List Byte → Nat → Nat
  | [] => fun c => c
  | b :: bs => fun c => force (crcByteR polyC c b) (crcForce bs)
theorem crcForce_eq (bs : List Byte) : ∀ c, crcR polyC c bs = crcForce bs c := by
  induction bs with
  | nil => intro c; simp only [crcR, crcForce, List.foldl_nil]
  | cons b bs ih =>
    intro c
    simp only [crcForce, force_eq, ← ih, crcR, List.foldl_cons]
theorem crc32c_force (bs : List Byte) : crc32c bs = Nat.xor (crcForce bs 0xFFFFFFFF) 0xFFFFFFFF := by
  simp only [crc32c, crc32cFrom, crcForce_eq]
/-- A saved state of slice 5, empty, with the range of queue 64 alone (R342): header, slice record, six empty records. -/
def savedWords38 : List Word :=
  [0x0000070154434C53, 0x0000000500000130, 0x100040, 0, 0, 0, 0, 0xcb1aec6d, 0x100000001, 0x80, 3, 0x03FFFF0000100040] ++
    List.replicate 14 0 ++ [2, 0x20, 3, 0x40, 4, 0x40, 5, 0x200, 6, 0x200, 7, 0x20]
/-- Its records. -/
def savedRecs : List (List (List Word)) := [[(savedWords38.drop 10).take 16], [], [], [], [], [], []]
theorem saved_crc : crc32c (spliceBytes ((ofWords savedWords38).take 304) 56 (leBytes 4 0)) = 0xcb1aec6d := by
  rw [crc32c_force]; decide +kernel

/-- A device with queue 17 of PF-A, of kind `k`, ACTIVE and rung, whose CQ is queue 18. -/
def ringDev (k : Nat) (x : QSt) : Dev :=
  let c : List Word := wset (wset (wset (wset (List.replicate 8 0) Qctx.QID 17) Qctx.KIND k) Qctx.SIZE_LOG2 6) Qctx.CQ 18
  let d : Dev := (({ Dev.reset with queues := [{ x with qid := 17 }, QSt.init 18] } : Dev).setRec .queue 17 c).setRec .queue 18 (wset (wset c Qctx.QID 18) Qctx.KIND 3)
  (((d.setQf 17 Qctx.STATE qActive).setQf 18 Qctx.STATE qActive).setQf 17 Qctx.HEAD_PHASE 1).s rootId Root.IMG_STATUS_STATE 2

/-- A relay frame of type `typ` from member `src`, LINK_SEQ `n`, OP_SEQ `o`, for the witnesses. -/
def rlFr (typ src n o : Nat) (p : List Byte) : RlFrame :=
  { epoch := 2, typ := typ, src := src, seq := n, ack := 0, opSeq := o, opId := 4, payload := p, sent := 0, at_ := 0 }
/-- A member of MEMBER_ID 3, JOINED, with a parent (member 0), a child (member 52) and the frames `rx` taken. -/
def rlMem (rx : List RlFrame) (ops : List RlOp) (parent : Option Nat) (asked : Option Nat) : Dev :=
  let l : RlLink := { id := 0, kind := 0, tx := 1, rx := 4, sent := [], epoch := 2, count := 1, heard := none, asked := asked }
  let r : RelaySt := { RelaySt.init with size := 64, rx := rx, links := [l, { l with id := 52, kind := 1 }], ops := ops, parent := parent }
  (({ Dev.reset with relay := r } : Dev).s rootId Root.RELAY_STATUS_STATE 2).s rootId Root.RELAY_STATUS_MEMBER_ID 3
/-- The oldest frame has left and its LINK_ACK is noted. -/
def rlTook (x : RlFrame) (d : Dev) : Dev := ({ d with relay := { d.relay with rx := d.relay.rx.drop 1 } } : Dev).rlAcked x.src x.ack

/-! ### WellFormed: each check refuses a term that breaks it, one value past its bound -/

/-- Lines and values of a bus access with nothing about it, for the terms below. -/
def wfEnv : BusEnv :=
  { t3 := 0, t4 := 0, t5 := 0, moved := 0, result := 0, good := true, parity := true, sda := [], data := [] }

/-- Ill-formed commands, part 1. -/
theorem test_wellformed_refuses_1 :
    (Instr.registerWrite (2 ^ 24) 0 1 .read wfEnv).wf = false ∧
    (Instr.registerWrite 0 (2 ^ 48) 1 .read wfEnv).wf = false ∧
    (Instr.registerWrite 0 0 0 .read wfEnv).wf = false ∧
    (Instr.registerWrite 0 0 9 .read wfEnv).wf = false ∧
    (Instr.registerWrite 0 0 1 (.write 256) wfEnv).wf = false ∧
    (Instr.errClear (2 ^ 24)).wf = false ∧
    (Instr.rootLocateId (2 ^ 24)).wf = false ∧
    (Instr.imageStage 2 0 none).wf = false ∧
    (Instr.imageStage 0 4096 none).wf = false ∧
    (Instr.frameReceive 16 0 0 [] false false false []).wf = false ∧
    (Instr.pauseTimerExpiry 0 8).wf = false ∧
    (Instr.wireSelect 19 (0, none)).wf = false := by decide

/-- Ill-formed commands, part 2. -/
theorem test_wellformed_refuses_2 :
    (Instr.tbSetNs (2 ^ 32)).wf = false ∧
    (Instr.prismInput 4).wf = false ∧
    (Instr.learnApply 32).wf = false ∧
    (Instr.ageVisit 65536).wf = false ∧
    (Instr.tblRead 0 0 2).wf = false ∧
    (Instr.dispatch (2 ^ 24)).wf = false ∧
    (Instr.threadCycleLimit 256 0).wf = false ∧
    (Instr.threadCycleLimit 0 8).wf = false ∧
    (Instr.packetAdmit (48, none)).wf = false ∧
    (Instr.packetAdmit (22, some ([], [], 0))).wf = false ∧
    (Instr.heldRetry 0 48 0).wf = false ∧
    (Instr.shpRead 65536 0).wf = false ∧
    (Instr.cryptoProcess 32).wf = false := by decide

/-- Ill-formed commands, part 3. -/
theorem test_wellformed_refuses_3 :
    (Instr.transportSend (2 ^ 24) none).wf = false ∧
    (Instr.storageTcpRto 131072).wf = false ∧
    (Instr.pcieLinkUp 0 0 1 0 0 false).wf = false ∧
    (Instr.pcieLinkUp 0 8 1 0 0 false).wf = false ∧
    (Instr.pcieLinkUp 0 1 3 0 0 false).wf = false ∧
    (Instr.configRequest 0 4096 0 none).wf = false ∧
    (Instr.configRequest 0 2 0 none).wf = false ∧
    (Instr.configRequest 0 0 16 none).wf = false ∧
    (Instr.configRequest 0 0 0 (some (2 ^ 32))).wf = false ∧
    (Instr.hostMemoryRequest 0 1 0 1 0 none none wfEnv).wf = false := by decide

/-- Ill-formed commands, part 4. -/
theorem test_wellformed_refuses_4 :
    (Instr.hostMemoryRequest 0 0 0 0 0 none none wfEnv).wf = false ∧
    (Instr.hostMemoryRequest 0 0 0 4097 0 none none wfEnv).wf = false ∧
    (Instr.hostMemoryRequest 0 0 0 1 2 none none wfEnv).wf = false ∧
    (Instr.hostMemoryRequest 0 0 0 1 0 (some []) none wfEnv).wf = false ∧
    (Instr.atsInvalidate 0 32 0 0).wf = false ∧
    (Instr.pageGroupResponse (2 ^ 18) 0 false).wf = false ∧
    (Instr.freezeDone 4096).wf = false ∧
    (Instr.hostDoorbell 0 0 4096 0).wf = false ∧
    (Instr.hostDoorbell 0 0 0 4097).wf = false ∧
    (Instr.rxPacketWrite 16 [] false false).wf = false ∧
    (Instr.chGo 0 16).wf = false ∧
    (Instr.channelHalt 0 0 8 0 0).wf = false := by decide

/-- Ill-formed commands, part 5. -/
theorem test_wellformed_refuses_5 :
    (Instr.channelHalt 0 0 0 256 0).wf = false ∧
    (Instr.eqCons 3 0 0).wf = false ∧
    (Instr.eqCons 0 1024 0).wf = false ∧
    (Instr.eqCons 0 0 65536).wf = false ∧
    (Instr.send 0 64 0).wf = false ∧
    (Instr.senderWrite 0 0 0 (2 ^ 24)).wf = false ∧
    (Instr.lockTry 0 1024).wf = false ∧
    (Instr.gaitChangeDone 19).wf = false ∧
    (Instr.holdWake 64 0).wf = false ∧
    (Instr.deviceReset 0 65536 0 0 0).wf = false ∧
    (Instr.relayRetransmit 4097).wf = false ∧
    (Instr.scrub (2 ^ 24) 0 0 .other false).wf = false := by decide

/-- Ill-formed commands, part 6. -/
theorem test_wellformed_refuses_6 :
    (Instr.scrub 0 16 0 .other false).wf = false ∧
    (Instr.tcamScanVisit 524288 false).wf = false ∧
    (Instr.mcCtlStart 0 8).wf = false ∧
    (Instr.fuseWriteImgKey 0 256 false).wf = false ∧
    (Instr.xspiRead 0 65536 false).wf = false ∧
    (Instr.i2cRead 0 4 0 []).wf = false ∧
    (Instr.i2cDone 0 4 0 []).wf = false ∧
    (Instr.modulePresenceChange 65536).wf = false ∧
    (Instr.moduleInterrupt 16 false).wf = false ∧
    (Instr.smbusPacketReceived 128 [] false).wf = false ∧
    (Instr.smbTxGo 0 0 256 0).wf = false ∧
    (Instr.gpioEdge 65536).wf = false := by decide

/-- Ill-formed commands, part 7. -/
theorem test_wellformed_refuses_7 :
    (Instr.l0pPartnerChange 0 (some 3) false).wf = false := by decide

/-- Commands with every operand at its lowest value are well formed. -/
theorem test_wellformed_accepts :
    (Instr.registerWrite 0 0 1 .read wfEnv).wf = true ∧
    (Instr.frameReceive 0 0 0 [] false false false []).wf = true ∧
    (Instr.tblRead 0 0 0).wf = true ∧
    (Instr.createQueue 0 0 none).wf = true ∧
    (Instr.powerOnReset 0 0 0 0).wf = true ∧
    (Instr.twinAttach 0 0).wf = true ∧
    (Instr.relayJoin 0 0 none).wf = true ∧
    (Instr.i2cRead 0 0 0 []).wf = true := by decide

/-! ### Worked examples and tables of the spec -/

/-- Encoding examples of the Engine Instruction Reference: ADD g1, g2, h5; EXT g6, h2, 8, 8; MOVK g9, 0xBEEF, 3; BNE g7, g0, −3. -/
theorem test_engine_words :
    decodeInst 0x040828A0 = some { op := .add, d := 1, a := 2, b := 0x45, x := 0 } ∧
    (decodeInst 0x28342207).map (fun i => (i.op, i.d, i.a)) = some (.ext, 6, 0x42) ∧
    (decodeInst 0x244BBEEF).map (fun i => (i.op, i.d)) = some (.movk, 9) ∧
    (decodeInst 0x54380FFD).map (fun i => (i.op, i.a, i.b)) = some (.bne, 7, 0) := by decide

/-- Worked example of Tiles, Hitches and Harness Space: PE 247 has UNIT_ID 0x0001F7, kind 0x01 revision 1, and lies in E15; member 2
of a root of OFFSET 0x0001_0000_0000 and stride 2^36 sits at 0x0021_0000_0000. -/
theorem test_headers_and_slots :
    Dev.reset.cell (peId 247) 0 = 0x00000101000001F7 ∧ Dev.reset.g (peId 247) Hdr.GAIT_STATE_REGION = 0x0F ∧
    ((Dev.reset.s rootId Hdr.FIRST_MEMBER_OFFSET_OFFSET 0x100000000).s rootId Hdr.MEMBER_STRIDE_STRIDE_LOG2 36).memberOff rootId 2 =
      0x2100000000 := by decide +kernel

/-- Worked example of Event Arbiter and Interrupts: words 0 to 3 of the two records. -/
theorem test_event_records :
    toWords 4 (evRecord { unit := 0x241, kind := 0x0802, slice := 0, payload := 0x203, dest := .routed, merged := 0, held := true } 0x12D680
      false 1) = [0x12D680, 0x0000000802000241, 0x203, 0x8000000000020000] ∧
    toWords 4 (evRecord { unit := 0x274, kind := 0x0201, slice := 0, payload := 0x301, dest := .routed, merged := 3, held := true } 0x12D681
      false 1) = [0x12D681, 0x0000000201000274, 0x301, 0x8000000000020003] := by decide +kernel

/-- Worked example of Integrity Map: INTEG_LAST and INTEG_ADDR after the scan's find. -/
theorem test_integ_last :
    (Dev.reset.latchInteg 0x200 5 0xA00).cell rootId Root.INTEG_LAST_UNIT.off = 0x8000000005000200 ∧
    (Dev.reset.latchInteg 0x200 5 0xA00).cell rootId Root.INTEG_ADDR_ADDR.off = 0xA00 := by decide +kernel

/-- Worked example of the shapers: 10,000,000 kb/s add 1,250 B at a tick, up to the burst of 65,536 B. -/
theorem test_refill :
    refill (-1344 * 65536) 10000000 65536 = -94 * 65536 ∧ refill (-94 * 65536) 10000000 65536 = 1156 * 65536 ∧
    refill (65000 * 65536) 10000000 65536 = 65536 * 65536 := by decide +kernel

/-- Worked example of Management Interfaces, steps 2 to 4: I2C_STATUS after a bus that nine pulses do not free, and the bus-stuck event
with payload 0x105. -/
theorem test_i2c_stuck :
    let low : List Bool := List.replicate 11 false
    let d := ({ Dev.reset with mgmt := { Dev.reset.mgmt with cages := [none, some 5, none, none] } } : Dev).s (i2cUnit 1)
      I2c.I2C_CFG_AUTO_MODRST 1
    let e := i2cGo 0x27E 1 true 0x0000000701035001 low d
    e.cell (i2cUnit 1) I2c.I2C_STATUS_BUSY.off = 0x00090042 ∧ e.g (i2cUnit 1) I2c.I2C_STUCK = 1 ∧
    ((e.ev.presented ++ e.ev.waiting.map Waiting.ev).map (fun x => (x.kind, x.payload))).head? = some (0x0D01, 0x105) := by decide +kernel

/-- Worked example of Mailboxes and Locks, step 3: LOCK_TRY of lock 40 by core 2 (GEN 1,000, free and broken) reads
0x0000_03E9_C000_0280. -/
theorem test_lock_try :
    let d := (Dev.reset.s (lockUnit 40) Lock.LOCK_STATE_GEN 1000).s (lockUnit 40) Lock.LOCK_STATE_BROKEN 1
    (lockTry 0x280 40 d).out.getLast? = some (.readData 0x000003E9C0000280) := by decide +kernel

/-! ### The statements: each has states and operands that meet its hypotheses -/

/-- StepRunsFrontCommand: a state with a command waiting. -/
theorem witness_StepRunsFrontCommand : ∃ (s : State) (c : Instr) (rest : List Instr), s.pending = c :: rest :=
  ⟨{ State.reset with pending := [.locateDone] }, .locateDone, [], rfl⟩

/-- IdleStepOnlyAdvancesTime: the reset state acts with nothing waiting; a tripped one does not act. -/
theorem witness_IdleStepOnlyAdvancesTime :
    (State.reset.pending = [] ∧ State.reset.dev.acts = true) ∧
    (tripped.pending = [] ∧ tripped.dev.acts = false) := by decide

/-- EveryCommandAnswersANextState has no hypothesis; one command on the reset state. -/
theorem witness_EveryCommandAnswersANextState : exec .locateDone State.reset = .next State.reset := by
  show State.run _ _ = _
  rw [State.run_acts _ _ (by decide)]
  rfl

/-- FrozenDeviceStaysFrozen: a tripped device with a software command waiting. -/
theorem witness_FrozenDeviceStaysFrozen :
    ({ tripped with pending := [.errClear 0x100, .linkUp 3] } : State).frozen = true := by decide

/-- UnitErrorAndDoorbellWrites: PE tile 0 at reset, and both kinds of value. -/
theorem witness_UnitErrorAndDoorbellWrites :
    State.reset.dev.acts = true ∧ State.reset.dev.inPatching 0x100 = false ∧ State.reset.dev.isHitch 0x100 = false ∧
    State.reset.dev.on 0x100 Hdr.EVENT_SOURCE_ENABLE = true ∧
    ¬ (1016 ≤ getBits (0x1BF7 : Word) 0 10 ∧ (getBits (0x1BF7 : Word) 10 2 = 2 ∨
      (getBits (0x1BF7 : Word) 10 2 = 3 ∧ 0x100 = rootId))) ∧
    (1016 ≤ getBits (0x1BF8 : Word) 0 10 ∧ (getBits (0x1BF8 : Word) 10 2 = 2 ∨
      (getBits (0x1BF8 : Word) 10 2 = 3 ∧ 0x100 = rootId))) := by decide

/-- EnableWriteAndDrain: PE tile 0 in RESET, READY, and DRAINING; a match tile is ungoverned. -/
theorem witness_EnableWriteAndDrain :
    (State.reset.dev.acts = true ∧ State.reset.dev.inPatching 0x100 = false ∧ State.reset.dev.patchDraining 0x100 = false ∧
      State.reset.dev.ust 0x100 ≠ stDraining ∧ ¬ (State.reset.dev.ust 0x100 = stActive ∨ State.reset.dev.ust 0x100 = stReady)) ∧
    (let d := (withDev (fun d => d.setUst 0x100 stReady)).dev
     d.acts = true ∧ d.inPatching 0x100 = false ∧ d.patchDraining 0x100 = false ∧ ungoverned 0x100 = false ∧ d.ust 0x100 = stReady) ∧
    (let d := (withDev (fun d => (d.setUst 0x100 stDraining).s 0x100 Hdr.UNIT_CONTROL_DRAIN 1)).dev
     d.acts = true ∧ d.inPatching 0x100 = false ∧ d.patchDraining 0x100 = false ∧ ungoverned 0x100 = false ∧
      d.ust 0x100 = stDraining ∧ d.on 0x100 Hdr.UNIT_CONTROL_DRAIN = true) ∧
    (State.reset.dev.inPatching 0x21F = false ∧ State.reset.dev.patchDraining 0x21F = false ∧ ungoverned 0x21F = true) ∧
    (let d := (withDev (fun d => ((d.setUst 0x100 stDraining).s 0x100 Hdr.UNIT_CONTROL_DRAIN 1).setThr 0 3 (fun x => { x with st := .running }))).dev
     (withDev (fun d => (d.setUst 0x100 stDraining).s 0x100 Hdr.UNIT_CONTROL_DRAIN 1)).dev.unitBusy 0x100 = false ∧ d.unitBusy 0x100 = true ∧
      d.acts = true ∧ d.inPatching 0x100 = false ∧ d.patchDraining 0x100 = false) := by
  decide

/-- UnitResetAndLocate: storage tile 7, its reset in progress, and a lookup in progress. -/
theorem witness_UnitResetAndLocate :
    (State.reset.dev.acts = true ∧ 0x267 ≠ rootId ∧ State.reset.dev.isHitch 0x267 = false ∧
      State.reset.dev.inPatching 0x267 = false ∧ State.reset.dev.img.patch = none ∧ State.reset.dev.img.waits = none) ∧
    (let d := (withDev (fun d => { d with boot := { d.boot with resetting := [(0x267, [0x267])] } })).dev
     d.acts = true ∧ d.boot.resetting = [(0x267, [0x267])] ∧ d.ust 0x267 = stReset) ∧
    (let d := (withDev (rootLocateId 0x100)).dev
     d.acts = true ∧ d.on rootId Root.ROOT_LOCATE_ADDR_BUSY = true ∧ d.hitches.all (fun h => !h.patching) = true) ∧
    Dev.reset.ust 0x100 ≠ stOff := by decide

/-- RegisterFieldsFollowTheirAccessType: bits of a cell with an RW, a W1C and a W1S field, and a bit of none. -/
theorem witness_RegisterFieldsFollowTheirAccessType :
    let fs : List Fld := [⟨0, 0, 4, .rw, 0⟩, ⟨0, 4, 4, .w1c, 0⟩, ⟨0, 8, 4, .w1s, 0⟩, ⟨0, 60, 4, .ro, 0⟩]
    ((accMask fs .rw).getLsbD 3 = true ∧ (accMask fs .w1c).getLsbD 3 = false ∧ (accMask fs .w1s).getLsbD 3 = false) ∧
    ((accMask fs .rw).getLsbD 7 = false ∧ (accMask fs .w1c).getLsbD 7 = true ∧ (accMask fs .w1s).getLsbD 7 = false) ∧
    ((accMask fs .rw).getLsbD 8 = false ∧ (accMask fs .w1c).getLsbD 8 = false ∧ (accMask fs .w1s).getLsbD 8 = true) ∧
    ((accMask fs .rw).getLsbD 63 = false ∧ (accMask fs .w1c).getLsbD 63 = false ∧ (accMask fs .w1s).getLsbD 63 = false) := by
  decide

/-- BusAccessesReachOrAreRefused: at reset the root's UNIT_ID cell, a reserved word of its block, a gap of the MAC window,
an address above the tree, core memory, the last byte of the flash window, the receive ring; doorbell page 1 of a host group; the
root's block while it is PATCHING; sizes 8 at 0x8, 2, and 8 at 0xC. -/
theorem witness_BusAccessesReachOrAreRefused :
    State.reset.dev.acts = true ∧ State.reset.dev.tgt 0x8 = .cell 0 0 0x8 true ∧ State.reset.dev.tgt 0x40 = .ro 0 0 ∧
    State.reset.dev.tgt 0xFE0000FFFFFF = .quiet ∧ State.reset.dev.tgt 0xFE0001000000 = .unmapped ∧
    State.reset.dev.inPatching 0 = false ∧ State.reset.dev.tgt 0xFF0000000000 = .mem ∧
    State.reset.dev.tgt 0xFF001FFFFFFF = .flash 0xFFFFFFF ∧ State.reset.dev.tgt 0xFF0001030000 = .relay 0 ∧
    (let h : Hitch := { id := 0x500, kind := 0x85, parent := 0, slot := 0, minM := 0, maxM := 0, pool := 0, pin := false, members := [epId 0], patching := false }
     let d : Dev := { Dev.reset with hitches := [{ bareRoot with members := [0x500] }, h] }
     let e : Dev := ((d.s rootId Hdr.FIRST_MEMBER_OFFSET_OFFSET 0x80000000).s rootId Hdr.MEMBER_STRIDE_STRIDE_LOG2 31).s rootId Hdr.MEMBER_COUNT_MAX_COUNT 1
     (e.s 0x500 Hdr.FIRST_MEMBER_OFFSET_OFFSET 0x80000000).tgt 0xC0001FFC = .door 0 1 0xFFC) ∧
    (let d := (withDev (fun d => { d with hitches := [{ bareRoot with patching := true }] })).dev
     d.acts = true ∧ d.tgt 0x8 = .cell 0 0 0x8 true ∧ d.inPatching 0 = true) ∧
    ((8 = 4 ∨ 8 = 8) ∧ 0x8 % 8 = 0) ∧ (2 ≠ 4 ∧ 2 ≠ 8) ∧ 0xC % 8 ≠ 0 := by decide +kernel

/-- HostMemoryRequestsByWindow: PF-B with its link up, in D0, memory space enabled and stream 3 Insecure; and as reset leaves it. -/
theorem witness_HostMemoryRequestsByWindow :
    (let d := (withDev (fun d => d.setEp 1 (fun x => { x with linkUp := true, mse := true, ideInsecure := [3] }))).dev
     d.acts = true ∧ (d.ep 1).linkUp = true ∧ (d.ep 1).dstate = 0 ∧ (d.ep 1).mse = true ∧
     (d.ep 1).ideInsecure.contains 3 = true ∧ (d.ep 1).ideInsecure.contains 4 = false ∧ d.pageOpen 1 0 = true ∧ d.pageOpen 1 1 = false ∧
     d.aptLive = false ∧ d.on (epId 1) Ep.EP_CFG_CTL_ROM_PRESENT = false) ∧
    (let d := (withDev (fun d => (((d.setEp 1 (fun x => { x with linkUp := true, mse := true, cfg := [(0x30, 1)] })).s rootId
       Root.IMG_STATUS_STATE 2).s rootId (Hg.APT0_VALID 63) 1).s rootId (Hg.APT0_SIZE_LOG2 63) 21)).dev
     d.aptLive = true ∧ d.apt0 1 0x100000 = some (0x100000, 0x100000) ∧ d.apt0 1 0x200000 = none ∧ (d.ep 1).cfgStored 0x30 % 2 = 1 ∧
     (d.s (epId 1) Ep.EP_CFG_CTL_ROM_PRESENT 1).on (epId 1) Ep.EP_CFG_CTL_ROM_PRESENT = true ∧ (Dev.reset.ep 1).cfgStored 0x30 % 2 ≠ 1) ∧
    (State.reset.dev.tgt 0x8 = .cell 0 0 0x8 true ∧ State.reset.dev.tgt 0x40 = .ro 0 0 ∧ State.reset.dev.tgt 0xFF0000000000 = .mem ∧
     State.reset.dev.tgt 0xFE0000FFFFFF = .quiet) ∧ ((State.reset.dev.ep 1).dstate = 0 ∧ (State.reset.dev.ep 1).mse = false) ∧
    ((0xFFF8 < 0x10000) ∧ 0xFFF8 % 8 = 0 ∧ 255 = 2 ^ 8 - 1) ∧ ¬ ((2 = 4 ∨ 2 = 8) ∧ 2 % 2 = 0 ∧ 3 = 2 ^ 2 - 1) ∧
    (State.reset.dev.ep 0).linkUp = false := by decide

/-- AdminCommandsRefusedByFormAndDeviceState: nothing at a ring index; a malformed NOP (an unused ARG bit); RELAY_LEAVE on a bare device; a BARRIER on a
bare device; a NOP that runs. -/
theorem witness_AdminCommandsRefusedByFormAndDeviceState :
    (State.reset.dev.acts = true ∧ State.reset.dev.admin.filter (fun c => c.pf = 1 && c.idx = 7) = []) ∧
    (let c : AdminCmd := { admCmd 1 with ent := wset [0, 0, 0, 0] Adm.ARG 1 |> (wset · Adm.OPCODE 1) }
     let d : Dev := { Dev.reset with admin := [c] }
     d.acts = true ∧ d.admWaits 0 5 c = true ∧ c.op = 1 ∧ c.wellFormed = false) ∧
    ((admDev 0x0802 3).acts = true ∧ (admDev 0x0802 3).admWaits 0 5 (admCmd 0x0802) = true ∧ (admCmd 0x0802).op = 0x0802 ∧
      (admCmd 0x0802).wellFormed = true ∧ (admDev 0x0802 3).imgState ≠ 2 ∧ (admDev 0x0802 3).imgState ≠ 4) ∧
    (let c : AdminCmd := { admCmd 1 with ent := wset (wset [0, 0, 0, 0] Adm.ARG 1) Adm.OPCODE 0x0803 }
     let d : Dev := { Dev.reset with admin := [c] }
     d.admWaits 0 5 c = true ∧ c.op = 0x0803 ∧ c.arg % 16 = 1 ∧ c.wellFormed = true ∧ d.imgState ≠ 2 ∧ d.imgState ≠ 4) ∧
    (admDev 1 0).admReady 0 5 1 (admCmd 1) = true := by decide

/-- AdminQueueTakesAndCompletes: PF-A's queue disabled, then enabled and rung with a NOP in its ring, then with a finished
command, then a COMPAT queue selected. -/
theorem witness_AdminQueueTakesAndCompletes :
    (State.reset.dev.acts = true ∧ State.reset.dev.on (epId 0) Ep.AQ_CFG_ENABLE = false ∧ getBits (0x641 : Word) 0 1 = 1) ∧
    (let d : Dev := { (aqCfg 0 0x641 (Dev.reset.setEp 0 (fun x => { x with linkUp := true, bme := true }))) with aqRung := (true, false) }
     let e : List Word := [0, 0x6000000, 0, 0x8000000000000001]
     d.acts = true ∧ d.aqRung.1 = true ∧ d.on (epId 0) Ep.AQ_CFG_ENABLE = true ∧ d.g (epId 0) Ep.AQ_STATUS_STATE = 1 ∧
     d.quiet 0 = false ∧ d.admin.filter (fun c => c.pf = 0) = [] ∧ wget e Went.PHASE = d.g (epId 0) Ep.AQ_STATUS_HEAD_PHASE ∧
     entryErr 0 true e = none ∧ wget e Went.L = 1 ∧ (adminRow (wget e Adm.OPCODE)).isSome = true) ∧
    (let c : AdminCmd := { admCmd 1 with done := some (0, 0) }
     let d : Dev := { Dev.reset.setEp 0 (fun x => { x with linkUp := true, bme := true }) with admin := [c] }
     d.acts = true ∧ d.admin.find? (fun c => c.pf = 0 && c.idx = 5) = some c ∧ d.quiet 0 = false ∧ (d.ep 0).heldWrites = [] ∧
     d.on (epId 0) Ep.AQ_CFG_EQ_EN = false) ∧
    (let q : QSt := { qid := 9, rung := false, enable := false, jobs := [], held := [], slots := [], auxPos := 0, auxPhase := 1 }
     let d : Dev := (({ Dev.reset with queues := [q] } : Dev).setQf 9 Qctx.COMPAT 1).s (epId 0) Ep.QSEL_QID 9
     d.acts = true ∧ d.compatQ 0 = some 9) := by decide

/-- StagingWhileAnImageCommandRunsIsPatchBusy: one byte to be staged at the last offset while a slot write runs; a patch in progress and
one that waits. -/
theorem witness_StagingWhileAnImageCommandRunsIsPatchBusy :
    let c : AdminCmd := { admCmd 0x0601 with ent := wset (wset (wset [0, 0, 0, 0] Adm.ARG 67108863) Adm.LEN 1) Adm.OPCODE 0x0601 }
    let d : Dev := { Dev.reset with admin := [c], img := { ImgSt.init with slotWrite := some (0, 0, 4) } }
    d.acts = true ∧ d.admReady 0 5 0x0601 c = true ∧ c.arg % 2 ^ 26 + c.len ≤ 67108864 ∧ d.img.slotWrite.isSome = true ∧
    ({ d with img := { ImgSt.init with waits := some ([], 0, 4) } } : Dev).img.waits.isSome = true ∧
    (d.s rootId Root.IMG_STATUS_STATE 1).imgState = 1 := by
  decide

/-- ImageCommandsAndPatchSteps: each command ready, with a byte of kind 1 staged where an image is due; a slot write in
progress; a patch of an empty hitch in each phase. -/
theorem witness_ImageCommandsAndPatchSteps :
    (let c : AdminCmd := { admCmd 0x0601 with ent := wset (wset [0, 0, 0, 0] Adm.LEN 1) Adm.OPCODE 0x0601 }
     let d : Dev := { Dev.reset with admin := [c] }
     d.acts = true ∧ d.admReady 0 5 0x0601 c = true ∧ c.arg % 2 ^ 26 + c.len ≤ 67108864 ∧ d.imageBusy = false) ∧
    (let d : Dev := { Dev.reset with bytes := [(6, 1)], img := { ImgSt.init with staged := 7 } }
     let a : Dev := { d with admin := [admCmd 0x0602] }
     let b : Dev := { d with admin := [admCmd 0x0603] }
     a.admReady 0 5 0x0602 (admCmd 0x0602) = true ∧ a.img.patch = none ∧ a.img.waits = none ∧ a.img.slotWrite = none ∧ (a.s rootId Root.IMG_STATUS_STATE 3).imgState = 3 ∧ a.imgState = 0 ∧
     Image.kind a.stagedImage = 1 ∧ b.admReady 0 5 0x0603 (admCmd 0x0603) = true ∧ b.imageBusy = false ∧
     Image.kind b.stagedImage = 1) ∧
    (let p : PatchSt := { target := 0x1000, image := [], phase := .drain, oldEnable := 1, oldState := 3, pool := 0, pf := 0, idx := 0 }
     let d : Dev := { Dev.reset with img := { ImgSt.init with patch := some p } }
     p.phase = .drain ∧ { p with phase := .swap }.phase = .swap ∧ d.img.patch = some p ∧ d.drained 0x1000 = true ∧
     (d.patchPes 0x1000 (hrecsOf (sectionsOf p.image))).1.all (fun u => (d.members (d.patchPool 0x1000)).contains u) = true) := by
  decide

/-- LinksFollowLockTrainingAndFaults: the port of lane 3, one lane wide, negotiating, training, with its link up, and failed. -/
theorem witness_LinksFollowLockTrainingAndFaults :
    let p : Dev := ((Dev.reset.setMf 3 Mac.PORT_CFG_WIDTH 1).setMf 3 Mac.PORT_CFG_FIRST_LANE 3).setUst (macId 3) stActive
    let a := p.setMf 3 Mac.PORT_STATUS_TRAIN_STATE 1
    let t := p.setMf 3 Mac.PORT_STATUS_TRAIN_STATE 2
    let u := (p.setLock 3 1).setMf 3 Mac.PORT_STATUS_LINK_UP 1
    let f := p.setMf 3 Mac.PORT_STATUS_TRAIN_STATE 4
    t.acts = true ∧ t.isPort 3 = true ∧ t.mf 3 Mac.PORT_STATUS_TRAIN_STATE = 2 ∧ t.mf 3 Mac.PORT_STATUS_LOCAL_FAULT = 0 ∧
    t.mf 3 Mac.PORT_STATUS_HI_SER = 0 ∧ t.mf 3 Mac.PORT_STATUS_LINK_UP = 0 ∧ t.ust (macId 3) ≠ stOff ∧
    t.ust (macId 3) ≠ stReset ∧ t.firstLane 3 = 3 ∧ u.isPort 3 = true ∧ u.mf 3 Mac.PORT_STATUS_LINK_UP = 1 ∧
    u.linkOk 3 = true ∧ (u.mac 3).rf = false ∧ a.isPort 3 = true ∧ a.mf 3 Mac.PORT_STATUS_TRAIN_STATE = 1 ∧ f.isPort 3 = true ∧ f.mf 3 Mac.PORT_STATUS_TRAIN_STATE = 4 := by decide +kernel

/-- FramesReceivedSentAndPaused: a good 64-byte frame of zeros on the port of lane 3; the port, present and open, and then with a
frame of 200 bytes in progress, ended, cut after 60 and 140 of them for a pause frame and for class 0 (which may start once its head stands in
the switch core), and going on after 59 and 141; a class paused in MODE 2 and in MODE 1; a refresh with and without a frame in progress; verification, an underrun at
its bounds, a quiet window and a timestamp. -/
theorem witness_FramesReceivedSentAndPaused :
    let p : Dev := ((({ Dev.reset with bytes := [] } : Dev).setMf 3 Mac.PORT_CFG_WIDTH 1).setMf 3 Mac.PORT_STATUS_LINK_UP 1)
    let e := (p.s (macId 3) Hdr.UNIT_CONTROL_ENABLE 1).s rootId Hdr.UNIT_CONTROL_ENABLE 1
    let w := (((e.setUst (macId 3) stActive).s (swpUnit 3) Swp.LP_INFO_PRESENT 1).setUst switchId stActive).s switchId Hdr.UNIT_CONTROL_ENABLE 1
    let fr : List Byte := List.replicate 60 0
    let tx : TxFrm := { pkt := Pkt.blank, cls := 0, bytes := List.replicate 200 0, from_ := 0, frags := 0, pre := true, ahead := 64, late := false }
    let k : Dev := (w.setMf 3 Mac.PREEMPT_STATUS_ACTIVE 1).setMac 3 (fun m => { m with tx := some tx })
    let pf : Dev := (((p.setMf 3 Mac.PAUSE_CFG_XOFF_ACTIVE 4).setMf 3 Mac.PAUSE_CFG_TX_EN 1).setMf 3 Mac.PAUSE_CFG_MODE 2)
    let we : Dev := e.wakeUnit (macId 3)
    let v := p.setMf 3 Mac.PREEMPT_STATUS_VERIFY_STATE 2
    p.acts = true ∧ e.isPort 3 = true ∧ e.mf 3 Mac.PORT_STATUS_LINK_UP = 1 ∧
    rxFlags (fr ++ fcsOf fr) false (e.mf 3 Mac.MAC_CFG_MAX_FRAME) = (false, 0) ∧ be16 (fr ++ fcsOf fr) 12 ≠ 0x8808 ∧
    e.mf 3 Mac.PORT_CFG_LOOPBACK = 0 ∧ rxFlags (fr ++ fcsOf fr) false (we.mf 3 Mac.MAC_CFG_MAX_FRAME) = (false, 0) ∧
    we.effEnable (macId 3) = true ∧ ((we.macAdd 3 Mac.RX_FRAMES_OK 1).macAdd 3 Mac.RX_BYTES_OK 64).rlTakes (fr ++ fcsOf fr) = false ∧
    w.lpPresent 3 = true ∧ w.swOpen = true ∧ w.twinState ≠ 5 ∧ w.portSends 3 = true ∧ (w.mac 3).due = none ∧
    (w.mac 3).tx = none ∧ (k.mac 3).tx = some tx ∧ k.txLen 3 = 204 ∧ k.lpPresent 3 = true ∧ k.swOpen = true ∧
    k.mayCut 3 60 = true ∧ k.mayCut 3 140 = true ∧ k.mayCut 3 59 = false ∧ k.mayCut 3 141 = false ∧
    ((k.setMac 3 (fun m => { m with due := some (true, 0) })).mac 3).due.isSome = true ∧ k.mf 3 Mac.PORT_STATUS_REMOTE_FAULT = 0 ∧
    pf.mf 3 Mac.PAUSE_CFG_XOFF_ACTIVE ≠ 0 ∧ pf.mf 3 Mac.PORT_STATUS_LINK_UP = 1 ∧ pf.mf 3 Mac.PAUSE_CFG_TX_EN = 1 ∧
    pf.mf 3 Mac.PAUSE_CFG_MODE ≠ 0 ∧ 3 < pf.macs.length ∧ (pf.mac 3).due = none ∧ (pf.mac 3).tx = none ∧
    pf.mf 3 Mac.PORT_STATUS_REMOTE_FAULT = 0 ∧ ((pf.setMac 3 (fun m => { m with tx := some tx })).mac 3).tx.isSome = true ∧
    (tx.ahead ≤ 64 ∧ tx.from_ ≤ 64 ∧ 199 < tx.bytes.length) ∧ (63 < tx.ahead ∧ 63 < { tx with from_ := 64 }.from_ ∧ tx.bytes.length ≤ 200) ∧
    (p.setMf 3 Mac.PAUSE_CFG_MODE 2).mf 3 Mac.PAUSE_CFG_MODE = 2 ∧ (p.setMf 3 Mac.PAUSE_CFG_MODE 1).mf 3 Mac.PAUSE_CFG_MODE = 1 ∧
    v.mf 3 Mac.PREEMPT_STATUS_VERIFY_STATE = 2 ∧ (v.mac 3).tries < 3 ∧
    ((v.setMac 3 (fun m => { m with tries := 3 })).mac 3).tries = 3 ∧
    ((p.setMac 3 (fun m => { m with tx := some tx, under := true })).mac 3).under = true ∧ (p.mac 3).under = false ∧
    p.mf 3 Mac.TX_START_STATUS_QUIET + 1 < (p.setMf 3 Mac.TX_START_CFG_DECAY_WINDOWS 9).mf 3 Mac.TX_START_CFG_DECAY_WINDOWS ∧
    ((p.setMac 3 (fun m => { m with tsFifo := [(1, 2, false, 3)] })).mac 3).tsFifo = (1, 2, false, 3) :: [] := by decide +kernel

/-- TimebaseTicksSetsAdjustsAndSnapshots: the timebase at reset and running, with a pending set of its last nanosecond, and with a
pending adjust in either. -/
theorem witness_TimebaseTicksSetsAdjustsAndSnapshots :
    (State.reset.dev.acts = true ∧ State.reset.dev.tb.stopped = true ∧ ({ Dev.reset with tb := { Dev.reset.tb with stopped := false } } : Dev).tb.stopped = false ∧ State.reset.dev.tb.set = none ∧ State.reset.dev.tb.adj = none ∧
      State.reset.dev.tb.ns < secUnits ∧ State.reset.dev.tb.sec < 2 ^ 48) ∧
    (tbSetNs 999999999 Dev.reset).tb.set = some (0, 999999999) ∧ (tbAdj (-5) Dev.reset).tb.adj = some (-5) ∧ (tbAdj (-5) Dev.reset).tb.set = none ∧
    (tbAdj (-5) Dev.reset).tb.stopped = true ∧ (tbSetNs 999999999 Dev.reset).tb.adj = none ∧ (999999999 < 1000000000 ∧ 1000000000 ≤ 1000000000) := by
  decide +kernel

/-- PrismsClassifierAndFastPath: an empty received packet on its way to prism 0, in its FIFO, handed on and in the fast path;
an engine's lookup. -/
theorem witness_PrismsClassifierAndFastPath :
    let p : Pkt := { data := [], m := List.replicate 16 0, poison := false, fcs := false, prism := some 0, job := none }
    let e : Dev := ((Dev.reset.s (prismId 0) Hdr.UNIT_CONTROL_ENABLE 1).s rootId Hdr.UNIT_CONTROL_ENABLE 1).setUst (prismId 0) stActive
    let w : Dev := { e with prism := { e.prism with wire := [(0, p)] } }
    let o : Dev := { Dev.reset with prism := { Dev.reset.prism with wire := [(0, p)], dropAt := [(0, 0)] } }
    let f : FastPkt := { id := 0, pkt := p, roles := [], results := [] }
    let a : FastPkt := { id := 0, pkt := p, roles := [0], results := [(0, some (wset [0, 0, 0, 0, 0, 0, 0, 0] Flow.ACTION 4))] }
    let l : FastPkt := { id := 0, pkt := p, roles := [1], results := [(1, some [0, 0])] }
    w.acts = true ∧ w.prism.wire.find? (fun x => x.1 = 0) = some (0, p) ∧ w.takesWork (prismId 0) = true ∧
    w.prismDepth 0 < 4096 ∧ o.takesWork (prismId 0) = false ∧ p.mg Meta.SRC_KIND = 0 ∧
    o.prism.dropAt.contains (0, o.time / 1000000) = true ∧ e.gk (prismId 0) Prism.PRISM_CFG_DROP_TRUNC = 0 ∧
    e.gk (prismId 0) Prism.PRISM_CFG_DROP_BADLEN = 0 ∧ e.gk (prismId 0) Prism.PRISM_CFG_DROP_UNKNOWN = 0 ∧
    Dev.reset.portBinding 0 0 = none ∧ f.decide = .drop 4 ∧ a.decide = .act 1 (wget (wset [0, 0, 0, 0, 0, 0, 0, 0] Flow.ACTION 4) Flow.ACTION) ∧
    l.decide = .l2 0 0 ∧ Dev.reset.ownSource p 0 0 = true ∧
    (let g : Dev := { (e.sk (prismId 0) Prism.PRISM_CFG_DROP_CSUM 0) with prism :=
       { e.prism with graph := some { nodes := [], trans := [], start := 0 }, fifo := [(0, p)], parsed := [p] } }
     let r : LookReq := { src := .engine 0 0 0, table := 32, key := [], index := 0, first := 0, n := 0, learn := false, source := none }
     g.acts = true ∧ g.prism.graph = some { nodes := [], trans := [], start := 0 } ∧
     g.prism.fifo.find? (fun x => x.1 = 0) = some (0, p) ∧ g.takesWork (prismId 0) = true ∧
     g.gk (prismId 0) Prism.PRISM_CFG_DROP_CSUM = 0 ∧ g.gk (prismId 0) Prism.PRISM_CFG_DROP_TRUNC = 0 ∧
     g.gk (prismId 0) Prism.PRISM_CFG_DROP_BADLEN = 0 ∧ g.gk (prismId 0) Prism.PRISM_CFG_DROP_UNKNOWN = 0 ∧
     g.prism.parsed.find? (fun p => p.prism = some 0) = some p ∧
     ({ g with tbl := { g.tbl with looks := [r] } } : Dev).tbl.looks.find? (fun r => homeTile r.table = 0) = some r) := by
  decide +kernel

/-- TableCommandsWaitAtTheirMatchTile: NEXT on table 7 at match tile 7, idle and busy. -/
theorem witness_TableCommandsWaitAtTheirMatchTile :
    tblOp Dev.reset (.tblNext 7 7 1) = some (7, 7, 1, 6, .next (Dev.reset.tblIndex 7)) ∧
    Dev.reset.gk (matchId 7) Match.TBL_STATUS_BUSY = 0 ∧
    (Dev.reset.sk (matchId 7) Match.TBL_STATUS_BUSY 1).gk (matchId 7) Match.TBL_STATUS_BUSY = 1 :=
  ⟨rfl, by decide +kernel⟩

/-- TableChangesAreTakenOneByOne: direct-index array 64 with a READ and an ATOM add at its home tile 0, an answer, a learn
request for a table, an L2 table without entries, and one whose sweeper is at position 1. -/
theorem witness_TableChangesAreTakenOneByOne :
    let t : Tbl := { tbl0 with id := 64, kind := 8, keyBits := 0, entryBytes := 64, tcam := 0 }
    let r : TblChg := { src := .iface 0, table := 64, req := .read 3 }
    let a : TblChg := { src := .engine 0 0 0 0, table := 64, req := .atom 0 3 7 5 0 }
    let d : Dev := { Dev.reset with tbl := { Dev.reset.tbl with tables := [t], changes := [r] } }
    let l : Tbl := { t with kind := 2, keyBits := 72, ctl0 := 2, sweepPos := 1, sweepP := 20000 }
    let k : Dev := ({ Dev.reset with tbl := { Dev.reset.tbl with tables := [l] } } : Dev).es l 1 L2.VALID 1
    let q : LearnReq := { table := 64, key := List.replicate 9 0, port := 1, queue := 0 }
    let n : Dev := { Dev.reset with tbl := { Dev.reset.tbl with tables := [l], learn := [q] } }
    let le : Tbl := { l with ctl0 := 3 }
    let y : Tbl := { t with kind := 1, keyBits := 8 }
    let dy : Dev := ({ Dev.reset with tbl := { Dev.reset.tbl with tables := [y] } } : Dev).es y 2 (validFld 1) 1
    d.acts = true ∧ d.tbl.changes.find? (fun c => homeTile c.table = 0) = some r ∧ d.table 64 = some t ∧
    (keyed t.kind || arrayKind t.kind) = true ∧ d.indexSt t 3 = Sc.ok ∧ mayAlter a.src t = true ∧ atomOk t 7 = true ∧
    t.inRange 3 = true ∧ d.evalid t 3 = true ∧ n.tbl.learn.find? (fun r => homeTile r.table = 0) = some q ∧
    n.table 64 = some l ∧ n.changesWait 0 = false ∧ d.changesWait 0 = true ∧ l.learns = false ∧ le.learns = true ∧
    (match (n.tblInsert le (learnEntry q)).2 with | .ok _ => true | .error _ => false) = true ∧
    (match (n.tblInsert { le with entryCount := 0 } (learnEntry q)).2 with | .ok _ => false | .error _ => true) = true ∧
    t.offline = false ∧ t.entryBad 3 = false ∧ l.entryBad 1 = false ∧ (ansSt (.iface 0) 0x21).words.length ≤ 32 ∧
    keyed y.kind = true ∧ y.offline = false ∧ y.keyFits (List.replicate 8 0) = true ∧ y.keyFits [0, 2 ^ 63, 0, 0, 0, 0, 0, 0] = false ∧
    dy.findKey y (y.keyOf (List.replicate 8 0)) (y.plenOf (List.replicate 8 0)) = some 2 ∧
    k.tbl.tables.filter (fun t => t.kind = 2 && homeTile t.id = 0) = [l] ∧ k.entries l = [1] ∧
    k.findKey l (l.trimKey (List.replicate 9 0)) 0 = some 1 ∧ l.sweeping = true ∧ l.positions.2 + l.sweepPos = 1 ∧
    k.evalid l 1 = true ∧ k.eg l 1 (staticFld 2) = 0 ∧ k.eg l 1 (hitFld 2) = 0 ∧ k.eg l 1 (markFld 2) = 0 ∧
    (k.es l 1 (hitFld 2) 1).eg l 1 (hitFld 2) = 1 ∧ (k.es l 1 (markFld 2) 1).eg l 1 (markFld 2) = 1 ∧
    l.ctl TblCtl.FROZEN = 0 ∧ ({ d with tbl := { d.tbl with answers := [ansSt (.iface 0) 0x21] } } : Dev).tbl.answers.find?
      (fun a => a.src = TblSrc.iface 0) = some (ansSt (.iface 0) 0x21) ∧ d.gk (matchId 0) Match.TBL_CMD_EVT = 0 := by
  decide +kernel

/-- EngineRegisterArithmetic: thread 3 of PE 0 stands at an ADD g5, g1, g2 at address 0; SUB, AND, OR, XOR, SHL, SHR, SAR, MUL, SLT and SLTU
there. -/
theorem witness_EngineRegisterArithmetic :
    [EMn.add, .sub, .andr, .orr, .xorr, .shl, .shr, .sar, .mul, .slt, .sltu].all (fun m =>
      engOk { op := m, d := 5, a := 1, b := 2, x := 0 }) = true := by
  decide +kernel

/-- EngineImmediatesMovesAndFields: each mnemonic with an immediate of 5 (a field of width 6 at bit 0), and INS at bit 63. -/
theorem witness_EngineImmediatesMovesAndFields :
    ([EMn.addi, .andi, .ori, .xori, .shli, .shri, .ext, .exts, .ins].all (fun m =>
      engOk { op := m, d := 5, a := 1, b := 0, x := 5 }) = true ∧ engOk { op := .movi, d := 5, a := 0, b := 0, x := 5 } = true) ∧
    engOk { op := .ins, d := 5, a := 1, b := 0, x := 4032 } = true := by
  decide +kernel

/-- MovkReplacesSixteenBits: MOVK with position 3 and value 0xFFFF, and a word whose bit 18 is 1. -/
theorem witness_MovkReplacesSixteenBits :
    engOk { op := .movk, d := 5, a := 0, b := 0, x := 262143 } = true ∧
    ((9 * 2 ^ 26 + 2 ^ 18) / 2 ^ 26 % 64 = 9 ∧ (9 * 2 ^ 26 + 2 ^ 18) / 2 ^ 18 % 2 = 1) := by decide +kernel

/-- EngineVectorAndDataMemory: HLD and HST of 8 bytes at 504 and at 505, LDW and STW at 0 and at 2, and LDD and STD at -8, which lies above the
memory. -/
theorem witness_EngineVectorAndDataMemory :
    ([EMn.hld, .hst].all (fun m => engOk { op := m, d := 5, a := 0, b := 0, x := 1536 + 504 } &&
      engOk { op := m, d := 5, a := 0, b := 0, x := 1536 + 505 })) = true ∧
    ([EMn.ldw, .ldd, .stw, .std].all (fun m => engOk { op := m, d := 5, a := 0, b := 0, x := 0 } &&
      engOk { op := m, d := 5, a := 0, b := 0, x := 2 } && engOk { op := m, d := 5, a := 0, b := 0, x := 4088 })) = true ∧
    (engDev { op := .ldd, d := 5, a := 0, b := 0, x := 0 }).pes.all (fun p => !p.badData.contains 0) = true := by decide +kernel

/-- HadjMovesThePacketStart: HADJ by 2 on an empty packet of PKT_LEN 0, which traps; a thread with a packet of 100 bytes, which HADJ by 256 and by -86
adjust. -/
theorem witness_HadjMovesThePacketStart :
    engOk { op := .hadj, d := 0, a := 0, b := 0, x := 2 } = true ∧
    (let i : EngInst := { op := .hadj, d := 0, a := 0, b := 0, x := 256 }
     let j : EngInst := { op := .hadj, d := 0, a := 0, b := 0, x := 4010 }
     let x : Thr := { Thr.init with st := .running, v := List.replicate 512 0
                                    pkt := ({ data := [], m := List.replicate 16 0, poison := false, fcs := false, prism := none, job := none } : Pkt).ms Meta.PKT_LEN 100 }
     let f := fun (i : EngInst) => (engDev i).setThr 0 3 (fun _ => x)
     (f i).issues 0 3 i = true ∧ (f j).issues 0 3 j = true ∧ ((f i).atIssue 0 3).thr 0 3 = x ∧ x.v.length = 512 ∧
     x.pkt.m.length = 16 ∧ x.vl ≤ 512 ∧ x.spill.length + x.tail.length ≤ x.pkt.mg Meta.PKT_LEN ∧ x.spill = [] ∧
     (x.hadj 256).isSome = true ∧ (x.hadj (-86)).isSome = true ∧ (x.reg 0).toInt + sext 12 4010 = -86) := by decide +kernel

/-- EngineBranchesAndJumps: each branch of g0 with g0 by 2 and by -1 instructions, JAL by 2 and by -1, and JR to 0. -/
theorem witness_EngineBranchesAndJumps :
    ([EMn.beq, .bne, .blt, .bge, .bltu, .bgeu, .bbs, .bbc].all (fun m =>
      engOk { op := m, d := 0, a := 0, b := 0, x := 2 } && engOk { op := m, d := 0, a := 0, b := 0, x := 4095 })) = true ∧
    engOk { op := .jal, d := 5, a := 0, b := 0, x := 2 } = true ∧ engOk { op := .jal, d := 5, a := 0, b := 0, x := 524287 } = true ∧
    engOk { op := .jr, d := 5, a := 0, b := 0, x := 0 } = true ∧
    ((engDev { op := .beq, d := 0, a := 0, b := 0, x := 2 }).atIssue 0 3 |>.thr 0 3).pc = 0 := by decide +kernel

/-- EngineChecksumsAndCrcs: each instruction on g1 and g2; g1 = 500 with lengths 12 and 13 in g2, and with g2 = 0. -/
theorem witness_EngineChecksumsAndCrcs :
    ([EMn.csadd, .cshv, .crcr, .crchv].all (fun m => engOk { op := m, d := 5, a := 1, b := 2, x := 0 })) = true ∧
    engOk { op := .csfin, d := 5, a := 1, b := 0, x := 0 } = true ∧
    ([12, 13].all (fun k =>
      let i : EngInst := { op := .cshv, d := 5, a := 1, b := 2, x := 0 }
      let d := (engDev i).setThr 0 3 (fun x => { x with g := (x.g.set 1 500).set 2 (BitVec.ofNat 64 k) })
      d.issues 0 3 i && (((d.atIssue 0 3).thr 0 3).reg 1 = 500) && (((d.atIssue 0 3).thr 0 3).reg 2 = BitVec.ofNat 64 k))) = true := by
  decide +kernel

/-- EngineTableOperationsSendTheirRequest: each operation with operand 0 in g0, one with a reserved bit in g2, and CNT with 0 and with 64
updates in flight. -/
theorem witness_EngineTableOperationsSendTheirRequest :
    ([EMn.lk, .tins, .tdel, .twr, .atomAdd, .atomSwp, .atomCas, .pol].all (fun m =>
      let i : EngInst := { op := m, d := 5, a := 1, b := 2, x := 0 }
      let d := (engDev i).setThr 0 3 (fun x => { x with g := x.g.set 2 (BitVec.ofNat 64 (2 ^ 21)) })
      engOk { i with b := 0 } && d.issues 0 3 i && (((d.atIssue 0 3).thr 0 3).reg 2 = BitVec.ofNat 64 (2 ^ 21)))) = true ∧
    getBits (BitVec.ofNat 64 (2 ^ 21)) 21 3 ≠ 0 ∧
    (let i : EngInst := { op := .cnt, d := 0, a := 1, b := 0, x := 0 }
     let d := (engDev i).setPe 0 (fun p => { p with cnts := 64 })
     engOk i = true ∧ ((engDev i).atIssue 0 3 |>.pe 0).cnts < 64 ∧ d.issues 0 3 i = true ∧ 64 ≤ ((d.atIssue 0 3).pe 0).cnts) := by
  decide +kernel

/-- EngineEmitsDropsAndReadsState: both emits of g1 = 0x11 (to port 1) with free room and with a held packet in the way, and of g1 = 5, which
traps; DROP, and RDS with each FN. -/
theorem witness_EngineEmitsDropsAndReadsState :
    ([EMn.emitCopy, .emitFinal].all (fun m =>
      let i : EngInst := { op := m, d := 0, a := 1, b := 0, x := 0 }
      let f := fun (w : Word) => onDev ((engDev i).setThr 0 3 (fun x => { x with g := x.g.set 1 w, pkt := { x.pkt with m := List.replicate 16 0 } })) [switchId]
      let d := (f 0x11).atIssue 0 3
      let p := ({ (d.thr 0 3).pkt with data := (d.thr 0 3).bytes, job := none } : Pkt).withAct 0x11
      let h : SwPkt := { id := 0, pkt := p, input := 47, dest := .port 1 0x3FFFF, crypto := 0, out := 0, cells := 0 }
      (f 0x11).issues 0 3 i && decide ((d.thr 0 3).reg 1 = 0x11) && decide (d.emitTrap (d.thr 0 3).hitch 0x11 (d.thr 0 3).emits = none) &&
      !d.emitBlocked (d.thr 0 3).hitch 0x11 p && ({ d with sw := { d.sw with held := [h] } } : Dev).emitBlocked (d.thr 0 3).hitch 0x11 p &&
      (f 5).issues 0 3 i && decide (((f 5).atIssue 0 3).emitTrap 0 5 0 = some 8))) = true ∧
    engOk { op := .drop, d := 0, a := 0, b := 0, x := 0 } = true ∧
    ([0, 1, 2, 3].all (fun k => engOk { op := .rds, d := 5, a := 0, b := 0, x := k })) = true := by decide +kernel

/-- EngineWordsDecodeToWhatTheyEncode: an instruction of each format with its fields at the ends of their ranges. -/
theorem witness_EngineWordsDecodeToWhatTheyEncode :
    ([({ op := .add, d := 0x7F, a := 0x2F, b := 0x40, x := 0 } : EngInst), { op := .lk, d := 24, a := 31, b := 0, x := 15 },
      { op := .beq, d := 0, a := 0, b := 0x7F, x := 4095 }, { op := .movi, d := 1, a := 0, b := 0, x := 524287 },
      { op := .ins, d := 1, a := 1, b := 0, x := 4032 }].all EngInst.ok) = true ∧
    decodeInst 0x07FAF800 = some { op := .add, d := 0x7F, a := 0x2F, b := 0x40, x := 0 } := by decide +kernel

/-- ThreadsAreDispatchedAnsweredAndReleased: hitch 0x1000 with a packet for PE 0; an answer for thread 3 of PE 0; a tag with a packet for port 1. -/
theorem witness_ThreadsAreDispatchedAnsweredAndReleased :
    let p : Pkt := { data := [], m := List.replicate 16 0, poison := false, fcs := false, prism := none, job := none }
    let r : TagRec := { tag := 0, cls := 0, done := true, outs := [{ pkt := p, act := 0x11, time := 0 }], up := none, first := some 0 }
    let e : EhSt := { EhSt.init 0x1000 with fifo := [(1, p)], tags := [r] }
    let x : Hitch := { id := 0x1000, kind := 0x83, parent := 0, slot := 0, minM := 1, maxM := 4, pool := 0, pin := false, members := [peId 0], patching := false }
    let d : Dev := ((((({ Dev.reset with ehs := [e], hitches := [x] } : Dev).setUst 0x1000 stActive).setUst (peId 0) stActive).s 0x1000 Hdr.UNIT_CONTROL_ENABLE 1).s (peId 0) Hdr.UNIT_CONTROL_ENABLE 1).s rootId Hdr.UNIT_CONTROL_ENABLE 1
    let op : ThrOp := { slot := 0, dst := 5, n := 0, dead := [] }
    let a : TblAns := ansSt (.engine 0 3 0 0) 0x21
    let l : Dev := { d.setThr 0 3 (fun x => { x with st := .waiting, ops := [op] }) with tbl := { d.tbl with answers := [a] } }
    let c : Nat → Dev := fun k => (d.sk 0x1000 Eh.THREAD_LIMIT_CYCLES 100).setThr 0 3 (fun x => { x with st := .running, cycles := k })
    let i : Nat := (d.enginePort (d.topEngine 0x1000)).getD 47
    d.acts = true ∧ d.eh 0x1000 = some e ∧ d.bestMember 0x1000 = some (peId 0) ∧ d.takesWork 0x1000 = true ∧
    (e.tags.filter (fun (r : TagRec) => !r.done)).length < 4096 ∧ d.bestMember 0x1001 = none ∧
    l.tbl.answers.find? (fun a => a.forPe 0) = some a ∧ (l.thr 0 3).ops.find? (fun (o : ThrOp) => o.slot = 0) = some op ∧
    (d.thr 0 3).ops.find? (fun (o : ThrOp) => o.slot = 0) = none ∧ (l.thr 0 3).st ≠ .idle ∧ (d.thr 0 3).st = .idle ∧
    releasable e.tags [] = some r ∧ actDest 0x11 = some (.port 1 0x3FFFF) ∧ d.stalled p i (.port 1 0x3FFFF) = true ∧
    (onDev d [switchId]).stalled p i (.port 1 0x3FFFF) = false ∧ (c 100).threadLimit 0 ≤ ((c 100).thr 0 3).cycles ∧ ((c 100).thr 0 3).st ≠ .idle ∧
    ((c 99).thr 0 3).cycles < (c 99).threadLimit 0 := by decide +kernel

/-- TheReinMovesPesBetweenHitchAndPool: hitch 0x1000 with an addition of PE 0 in progress, and with a removal of it, idle and not. -/
theorem witness_TheReinMovesPesBetweenHitchAndPool :
    let e : EhSt := { EhSt.init 0x1000 with step := some { add := true, pe := peId 0, window := 0, time := 0 } }
    let f : EhSt := { EhSt.init 0x1000 with step := some { add := false, pe := peId 0, window := 0, time := 0 } }
    let x : Hitch := { id := 0x1000, kind := 0x83, parent := 0, slot := 0, minM := 1, maxM := 4, pool := 0x1001, pin := false, members := [peId 0], patching := false }
    let d : Dev := { Dev.reset with ehs := [e] }
    let r : Dev := { Dev.reset with ehs := [f], hitches := [x] }
    let w : Dev := r.setThr 0 3 (fun x => { x with st := .running })
    d.acts = true ∧ d.imgState ≠ 2 ∧ d.imgState ≠ 4 ∧ (d.s rootId Root.IMG_STATUS_STATE 2).imgState = 2 ∧ (d.s rootId Root.IMG_STATUS_STATE 4).imgState = 4 ∧
    2 ≤ (d.s (regionUnit (regionOf (peId 0))) Region.REG_STATUS_GAIT 2).gait (regionOf (peId 0)) ∧ d.ehs = [e] ∧ e.id = 0x1000 ∧ e.step.isSome = true ∧ (d.eh 0x1000).bind EhSt.step = e.step ∧
    (r.eh 0x1000).bind EhSt.step = f.step ∧ r.hitch 0x1000 = some x ∧ r.peIdle (peNum (peId 0)) = true ∧
    w.peIdle (peNum (peId 0)) = false := by decide +kernel

/-- SwitchAdmitsHoldsReadsAndReplicates: a packet from port 0 for port 22, on the wire, held and queued; a packet queued at port 20. -/
theorem witness_SwitchAdmitsHoldsReadsAndReplicates :
    let p : Pkt := { data := List.replicate 64 0, m := List.replicate 16 0, poison := false, fcs := false, prism := none, job := none }
    let x : SwPkt := { id := 1, pkt := p, input := 0, dest := .port 22 0, crypto := 0, out := 22, cells := 1 }
    let c : Dev := ((Dev.reset.setUst switchId stActive).s switchId Hdr.UNIT_CONTROL_ENABLE 1).s rootId Hdr.UNIT_CONTROL_ENABLE 1
    let b : Dev := ((((c.s (swpUnit 20) Swp.LP_INFO_PRESENT 1).s (swpUnit 22) Swp.LP_INFO_PRESENT 1).setSf Sw.SC_STATUS_FREE_CELLS 100).setSf
      Sw.SC_STATUS_SHARED_FREE 100).setSf Sw.SC_DESC_FREE_DESC 4
    let low : Dev := b.setCf 22 0 Swc.Q_LIMITS_CEIL 0
    let loss : Dev := (b.s (swpUnit 0) Swp.LP_IN_CFG_LOSSLESS 1).setCf 0 0 Swc.IN_PFC_XOFF_CELLS 0 |>.setCf 0 0 Swc.IN_PFC_HEADROOM 0
    let h : Dev := { b with sw := { b.sw with held := [x] } }
    let full : Dev := b.setSf Sw.SC_DESC_FREE_DESC 0
    let q : Dev := { b with sw := { b.sw with queued := [x] } }
    let r : Dev := { b with sw := { b.sw with queued := [{ x with out := 20 }] } }
    let t : Tbl := { tbl0 with kind := 8, entryBytes := 64 }
    let g : Dev := { (r.setSf Sw.SC_CFG_REPL_TABLE 1) with tbl := { r.tbl with tables := [t] } }
    b.acts = true ∧ b.swOpen = true ∧ b.outPort x.dest = some 22 ∧ dropInput 0 = true ∧ dropInput 16 = false ∧
    b.behind [] x = false ∧ c.outPort x.dest = none ∧
    full.verdict 0 22 0 1 = .noBuf ∧ full.verdict 16 22 0 1 = .noBuf ∧ b.verdict 0 22 0 1 = .accept ∧ low.verdict 0 22 0 1 = .thresh ∧
    loss.verdict 0 22 0 1 = .headroom ∧
    h.sw.held.find? (fun (x : SwPkt) => x.input = 0 && x.cls = 0 && (h.outPort x.dest = some 22 || (h.outPort x.dest).isNone)) = some x ∧
    plainReader 22 = true ∧ q.lpPresent 22 = true ∧ q.nextClass 22 = some 0 ∧ q.headOf 22 0 = some x ∧ q.readerRoom 22 x = true ∧
    r.lpPresent 20 = true ∧ r.nextClass 20 = some 0 ∧ r.headOf 20 0 = some { x with out := 20 } ∧
    r.table (r.sf Sw.SC_CFG_REPL_TABLE) = none ∧ g.table (g.sf Sw.SC_CFG_REPL_TABLE) = some t ∧ t.kind = 8 ∧ t.owner = 0 ∧
    t.offline = false ∧ p.mg Meta.REPL_GROUP < t.entryCount ∧ ({ b with sw := { b.sw with wire := [x] } } : Dev).sw.wire = x :: [] ∧
    (x.pkt.m.getD 12 0).toNat / 2 ^ 24 % 8 = 0 ∧ p.poison = false ∧ (b.coreBuilt [1] [] 0x11).acts = true ∧
    (b.coreBuilt [1] [] 0x11).sw.wire.map SwPkt.input = [23] := by decide +kernel

/-- GrantsShapersGatesAndPolicers: a switch core that takes work and selects nothing; shaper 5 without and with a change that waits;
an admin list in and out of bounds; a waiting list before and at its time; a policer operation on an unknown and a known table. -/
theorem witness_GrantsShapersGatesAndPolicers :
    let b : Dev := ((Dev.reset.setUst switchId stActive).s switchId Hdr.UNIT_CONTROL_ENABLE 1).s rootId Hdr.UNIT_CONTROL_ENABLE 1
    let w : Dev := Dev.reset.cs .shaper 5 Shp.RATE 1000000
    let v : Dev := w.cs .shaper 5 Shp.PEND 1
    let g : Dev := ((Dev.reset.s (swpUnit 2) Swp.LP_INFO_PRESENT 1).s (wsUnit 2) Ws.GCL_CTL_ADMIN_LEN 1).s (wsUnit 2) Ws.GCL_CYCLE_NS 999
    let h : Dev := g.s (wsUnit 2) Ws.GCL_CYCLE_NS 1000
    let k : Dev := Dev.reset.setWire 2 (fun (w : WireSt) => { w with waiting := some ([], 1000, 500) })
    let r : PolReq := { src := .iface 1, table := 1, index := 0, bytes := 64, colour := 0, bad := false }
    let t : Tbl := { tbl0 with id := 1, kind := 4, keyBits := 0, entryBytes := 32, tcam := 0 }
    let m : Dev := { Dev.reset with sched := { Dev.reset.sched with pols := [r] } }
    let n : Dev := { m with tbl := { m.tbl with tables := [t] } }
    let j : Job := { idx := 0, ents := [[0, 0, 0, 0]], moved := 0, granted := false, grant := none, result := none }
    let u : Dev := { onDev (b.setEp 0 (fun (e : EpSt) => { e with linkUp := true, bme := true })) [prismId (prismOfQueue 17)] with queues := [{ QSt.init 17 with jobs := [j] }] }
    let f : Dev := (u.cs .queue 17 Qctx.KIND 1).newLeaf 17 19
    let run : Dev := { g with tb := { g.tb with stopped := false } }
    b.acts = true ∧ b.swOpen = true ∧ b.pickPath.2 = none ∧ w.recs .shaper = [5] ∧ w.shp 5 Shp.PEND = 0 ∧ v.recs .shaper = [5] ∧
    v.shp 5 Shp.PEND = 1 ∧ g.lpPresent 2 = true ∧ g.gclOk 2 = false ∧ h.gclOk 2 = true ∧ k.tbNs < 500 ∧ g.gated 2 = false ∧
    m.sched.pols.find? (fun (r : PolReq) => homeTile r.table = homeTile 1) = some r ∧ m.table 1 = none ∧
    n.table 1 = some t ∧ t.kind = 4 ∧ r.bad = false ∧ r.index < t.entryCount ∧ t.offline = false ∧ n.sched.pols = [r] ∧
    f.swOpen = true ∧ f.pickPath.2 = some (17, 18, 19, 17) ∧ f.pickPath.1.nextJob 17 = some j ∧ w.stor.tcp = [] ∧
    (w.cs .shaper 5 Shp.TOKENS 0).recs .conn = [] ∧ k.tbNs < 500 ∧ ({ k with tb := { k.tb with ns := 500 * 2 ^ 32 } } : Dev).tbNs = 500 ∧
    g.tb.stopped = true ∧ run.tb.stopped = false ∧ run.gated 2 = false := by decide +kernel

/-- MeterCommandsReadAndWriteTheirRecords: shaper array and policer array; a node that keeps its PRIO and PARENT, one that changes PRIO;
a leaf of TX queue 5; BUSY 1; a result in place. -/
theorem witness_MeterCommandsReadAndWriteTheirRecords :
    let t : Tbl := { tbl0 with id := 1, kind := 4, keyBits := 0, entryBytes := 32, tcam := 0 }
    let w : Tbl := { t with id := 2, kind := 5 }
    let b : Dev := { Dev.reset with tbl := { Dev.reset.tbl with tables := [t, w] } }
    let put : Dev → Nat → Nat → Nat → Dev := fun d i x y => ((d.s mtrUnit Mtr.MTR_INDEX_INDEX i).s mtrUnit (Mtr.MTR_DATA_W 0) x).s mtrUnit (Mtr.MTR_DATA_W 1) y
    let go : Dev → Nat → Dev := fun d op => d.mtrStarted op 1 0
    let shOk := go (put b 0 (100 + 4096 * 2 ^ 32) 0) 2
    let polOk := go (put b 0 1000 (2 ^ 48)) 4
    let nodeOk := go (put (Dev.reset.setRec .node 100 [BitVec.ofNat 64 (3 + 2 ^ 16 + noShaper * 2 ^ 32), 0]) 100 (3 + 2 ^ 16 + noShaper * 2 ^ 32) 0) 6
    let q : QSt := { qid := 5, rung := false, enable := true, jobs := [], held := [], slots := [], auxPos := 0, auxPhase := 0 }
    let lf := 7 + 2 ^ 16 + noShaper * 2 ^ 32
    let l : Dev := (({ Dev.reset with queues := [q] } : Dev).cs .queue 5 Qctx.KIND 1).newLeaf 5 19
    let prio := go (put (Dev.reset.setRec .node 100 [BitVec.ofNat 64 (3 + 2 ^ 16 + noShaper * 2 ^ 32), 0]) 100 (3 + 256 + 2 ^ 16 + noShaper * 2 ^ 32) 0) 6
    let move := go (put l 5 lf 20) 8
    let stay := go (put l 5 lf 19) 8
    b.acts = true ∧ b.g mtrUnit Mtr.MTR_STATUS_BUSY = 0 ∧ (go b 1).isShaper (go b 1).mtrIndex = true ∧
    (go Dev.reset 1).isShaper (go Dev.reset 1).mtrIndex = false ∧
    (go b 3).table 1 = some t ∧ (go b 3).mtrIndex < t.entryCount ∧ (go b 5).mtrIndex < 65536 ∧
    65536 ≤ (go (put b 65536 0 0) 5).mtrIndex ∧ shaperOkWords (shOk.mtrData 0) (shOk.mtrData 1) = true ∧
    polOkWords (polOk.mtrData 0) (polOk.mtrData 1) = true ∧
    (go b 6).nodeWriteOk 0 ((go b 6).mtrData 0) ((go b 6).mtrData 1) = false ∧
    (go b 7).isLeaf 0 = false ∧ (b.s mtrUnit Mtr.MTR_STATUS_BUSY 1).g mtrUnit Mtr.MTR_STATUS_BUSY = 1 ∧
    nodeOk.nodeWriteOk 100 (nodeOk.mtrData 0) (nodeOk.mtrData 1) = true ∧
    nodeOk.node 100 Node.PRIO = wget [nodeOk.mtrData 0] Node.PRIO ∧ nodeOk.node 100 Node.PARENT = wget [nodeOk.mtrData 0, nodeOk.mtrData 1] Node.PARENT ∧
    prio.nodeWriteOk 100 (prio.mtrData 0) (prio.mtrData 1) = true ∧ prio.node 100 Node.PRIO ≠ wget [prio.mtrData 0] Node.PRIO ∧
    prio.node 100 Node.LEVEL ≠ 0 ∧ (go (put l 5 0 0) 7).isLeaf 5 = true ∧
    move.leafWriteOk 5 (move.mtrData 0) (move.mtrData 1) = true ∧ move.leaf 5 Node.PARENT ≠ wget [move.mtrData 0, move.mtrData 1] Node.PARENT ∧
    stay.leafWriteOk 5 (stay.mtrData 0) (stay.mtrData 1) = true ∧ stay.leaf 5 Node.PARENT = wget [stay.mtrData 0, stay.mtrData 1] Node.PARENT ∧
    stay.leaf 5 Node.PRIO = wget [stay.mtrData 0] Node.PRIO := by decide +kernel

/-- StorageAdminCommandsChangeTheirRecords: a device with the feature and one command of each opcode in flight. -/
theorem witness_StorageAdminCommandsChangeTheirRecords :
    let cmd : Nat → AdminCmd := fun op => { admCmd op with ent := wset (admCmd op).ent Adm.LEN (if op = 0x0501 ∨ op = 0x0503 then 512 else if op = 0x0504 then 64 else if op = 0x0506 then 32 else if op = 0x0507 then 16 else 0) }
    let dev : Nat → Dev := fun op => ({ Dev.reset with admin := [cmd op] } : Dev).s rootId Root.IMG_STATUS_STATE 2
    let d : Dev := (dev 0x0505).admStart 0 5
    let bs : List Byte := ofWords [1, 16 * 2 ^ 32, 0, 0, 0, 0, 0, 0]
    let ws := toWords 8 bs
    let e : Dev := d.cs .ns 0 Ns.STATE 1
    let v : Dev := (d.cs .ns 3 Ns.STATE 1).cs .ns 3 Ns.EXT_COUNT 8
    let n : Dev := d.setSn 0 Sess.STATE 1
    ((dev 0x0501).acts = true ∧ (List.range 8).all (fun i => (dev (0x0501 + i)).admReady 0 5 (0x0501 + i) (cmd (0x0501 + i)))) ∧
    d.feature 3 = true ∧ d.badRec .session 0 = false ∧ d.sn 0 Sess.STATE = 0 ∧ n.sn 0 Sess.STATE ≠ 0 ∧ n.sn 0 Sess.SLICE = 0 ∧
    d.cg .ns 0 Ns.STATE = 0 ∧ nsOk ws = true ∧ wget ws Ns.SLICE = 0 ∧ wget ws Ns.EXT_BASE + wget ws Ns.EXT_COUNT ≤ 2 ^ 30 ∧
    d.recs .ns = [] ∧ v.recs .ns = [3] ∧ v.cg .ns 3 Ns.STATE ≠ 0 ∧ v.cg .ns 3 Ns.EXT_BASE = 0 ∧ v.cg .ns 3 Ns.EXT_COUNT = 8 ∧
    e.cg .ns 0 Ns.STATE = 1 ∧ e.cg .ns 0 Ns.SLICE = 0 ∧ wget [0, 0, 0, 0] Bk.KIND ≤ 1 ∧ wget [0, 0, 0, 0] Bk.MD_SIZE ≠ 3 ∧
    d.extOk 0 [0, 0] = true ∧ d.extOk 0 [4, 0] = false := by decide +kernel

/-- StorageCommandsArriveAdvanceAndEnd: session 8 of tile 0 in each state; a write at step 5; an answer to the sub-command of a command; a
command at step 4; a packet; a TCP session with bytes outstanding. -/
theorem witness_StorageCommandsArriveAdvanceAndEnd :
    let on : Dev := ((Dev.reset.setUst (stHome 8) stActive).s (stHome 8) Hdr.UNIT_CONTROL_ENABLE 1).s rootId Hdr.UNIT_CONTROL_ENABLE 1
    let c : Dev := { on with stor := { on.stor with capsules := [(8, List.replicate 64 0)] } }
    let a : Dev := c.setSn 8 Sess.STATE 1
    let f : Dev := (a.setSn 8 Sess.SLICE 1).cs .slice 1 Slc.STATE 3
    let y : StSub := { ext := 0, backend := 0, lba := 0, nlb := 1, off := 0, sent := true, status := none, data := [] }
    let fmt : NsFmt := { lba4k := false, md := 0, pi := 0, g64 := false, fab := false }
    let k : StCmd := { id := 0, sess := 8, sqe := List.replicate 64 0, tag := 0, step := 5, ns := none, fmt := fmt, exts := [], data := List.replicate 512 0, got := 0, due := 0, subs := [y, y], tally := 1, job := none, parent := none, gone := false }
    let w : Dev := { on with stor := { on.stor with cmds := [k], answers := [(0, 0, 0, 0, [])] } }
    let one : Dev := { on with stor := { on.stor with cmds := [{ k with subs := [y] }], answers := [(0, 0, 0, 0, [])] } }
    let upd : Dev → Option StCmd := fun d => (d.setCmd 0 (fun (k : StCmd) => { k with subs := updAt k.subs 0 (fun (y : StSub) => { y with status := some (0, 0), data := [] }) })).stCmd 0
    let tcp : Dev := (((on.setSn 8 Sess.STATE 1).setSn 8 Sess.BINDING 1).setSn 8 Strm.SND_NXT 5)
    let tcp : Dev := { tcp with stor := { tcp.stor with tcp := [StTcp.init 8 []] } }
    let last : Dev := tcp.setTcp 8 (fun (x : StTcp) => { x with tries := 5 })
    let idle : Dev := tcp.setSn 8 Strm.SND_NXT 0
    let prb : Dev := idle.setTcp 8 (fun (x : StTcp) => { x with buf := [1] })
    let pi : NsFmt := { fmt with md := 8, pi := 1, fab := true }
    on.acts = true ∧ on.twinState ≠ 5 ∧ c.takesWork (stHome 8) = true ∧ c.sn 8 Sess.STATE ≠ 1 ∧ a.sn 8 Sess.STATE = 1 ∧
    a.sliceFrozen (a.sn 8 Sess.SLICE) = false ∧ f.sliceFrozen (f.sn 8 Sess.SLICE) = true ∧ (a.stCache 8).sn 8 Sess.ROLE ≠ 1 ∧
    ((a.setSn 8 Sess.ROLE 1).stCache 8).sn 8 Sess.ROLE = 1 ∧ sqe (0x7F :: List.replicate 63 0) 0 1 = 0x7F ∧ sqe (List.replicate 64 0) 0 1 ≠ 0x7F ∧
    w.stor.cmds = [k] ∧ k.got = k.due ∧ sqeOp k.sqe ≠ opDsm ∧ (k.fmt.toBack k.sqe (sqeBlocks k.sqe) k.data).toOption.isSome = true ∧ sqeOp (opDsm :: List.replicate 63 0) = opDsm ∧
    (pi.toBack (List.replicate 51 0 ++ [0x04] ++ List.replicate 12 0) 1 (List.replicate 512 0 ++ [0, 0, 0, 0, 0, 0, 0, 1])).toOption.isNone = true ∧ w.stor.posts = [] ∧ { k with step := 4 }.step = 4 ∧
    ({ on with sw := { on.sw with storage := [Pkt.blank] } } : Dev).sw.storage = Pkt.blank :: [] ∧ (on.s rootId Root.IMG_FEATURE_WORD_FEATURES 0).feature 3 = false ∧
    idle.sn 8 Strm.SND_UNA = idle.sn 8 Strm.SND_NXT ∧ (idle.tcp 8).buf = [] ∧ prb.sessRuns 8 = true ∧ prb.sn 8 Sess.BINDING = 1 ∧
    prb.sn 8 Strm.SND_UNA = prb.sn 8 Strm.SND_NXT ∧ prb.sn 8 Strm.WND = 0 ∧ (prb.tcp 8).buf ≠ [] ∧ (prb.setSn 8 Strm.WND 1).sn 8 Strm.WND ≠ 0 ∧
    w.stCmd 0 = some k ∧ ((upd w).map (fun k' => k'.subs.any (fun (y : StSub) => y.status.isNone && (y.sent || !k'.gone)))) = some true ∧
    ((upd one).map (fun k' => k'.subs.any (fun (y : StSub) => y.status.isNone && (y.sent || !k'.gone)))) = some false ∧
    Dev.reset.feature 3 = true ∧ tcp.sessRuns 8 = true ∧ tcp.sn 8 Sess.BINDING = 1 ∧ tcp.sn 8 Strm.SND_UNA ≠ tcp.sn 8 Strm.SND_NXT ∧
    ((tcp.stCache 8).tcp 8).tries + 1 < 6 ∧ 6 ≤ ((last.stCache 8).tcp 8).tries + 1 := by decide +kernel

/-- CryptoTilesProcessPacketsAndServeSaCommands: a decrypt and an encrypt request with and without a valid SA at tile 0 and 16, one past its
home-tile step, and the SA interface of tile 0 with an SA array and each state of SA 0. -/
theorem witness_CryptoTilesProcessPacketsAndServeSaCommands :
    let t : Tbl := { tbl0 with id := 1, kind := 6, keyBits := 0, entryBytes := 256, tcam := 0 }
    let b : Dev := { Dev.reset with tbl := { Dev.reset.tbl with tables := [t] } }
    let p : Pkt := { data := List.replicate 64 0, m := List.replicate 16 0, poison := false, fcs := false, prism := none, job := none }
    let x : SwPkt := { id := 1, pkt := p, input := 0, dest := .port 22 0, crypto := 1, out := 0, cells := 0 }
    let bad : SwPkt := { x with pkt := p.ms CryReq.OP 3 }
    let go : SwPkt := { x with crypto := 2 }
    let sa : SaCand := { idx := 0, sa := List.replicate 16 0, seq := 0 }
    let w : SwPkt → Dev := fun y => onDev { b with sw := { b.sw with wire := [y] } } [cryptoId 0]
    let c : Dev := let d := { w go with cry := { (w go).cry with steps := [{ id := 1, cands := [sa] }] } };
      ((d.setUst (cryptoId 0) stActive).s (cryptoId 0) Hdr.UNIT_CONTROL_ENABLE 1).s rootId Hdr.UNIT_CONTROL_ENABLE 1
    let live : Dev := b.cs .sa 0 SA.STATE 2
    let esp : Nat → Dev := fun dir => (((live.cs .sa 0 SA.PROTO 1).cs .sa 0 SA.EXPIRE 1000).cs .sa 0 SA.DIR dir)
    let o : SaOp := { tile := 0, op := 1, index := 0, res := none }
    let run : Dev := onDev b ((List.range 32).map cryptoId)
    let rl : Dev := onDev live ((List.range 32).map cryptoId)
    let q : Dev := (run.saQueued 0 2 0)
    let off : Tbl := { t with offline := true }
    let qf : Dev := { q with tbl := { q.tbl with tables := [off] } }
    let r : Dev := { c with cry := { c.cry with ops := [{ o with op := 4, res := some (Sc.ok, []) }] } }
    b.acts = true ∧ b.takesWork (cryptoId 0) = false ∧ (w x).takesWork (cryptoId 0) = true ∧ bad.pkt.cryOk = false ∧ x.pkt.cryOk = true ∧ x.pkt.poison = false ∧
    (w x).sw.wire.find? (fun (y : SwPkt) => y.crypto = 1 && saHome (((w x).saCands y.pkt).getD 0 0) y.pkt.cryDir = 0) = some x ∧
    (w x).saCands p = [0] ∧ (w x).candValid p 0 = false ∧ (esp 0).candValid p 0 = true ∧ (esp 1).candValid (p.ms CryReq.OP 2) 0 = true ∧
    (esp 0).formOk p 0 = true ∧ (esp 0).formOk { p with data := [] } 0 = false ∧ (esp 1).formOk (p.ms CryReq.OP 2) 0 = true ∧
    (p.ms CryReq.OP 2).cryDir = 1 ∧ p.cryDir = 0 ∧ c.takesWork (cryptoId 0) = true ∧
    c.sw.wire.find? (fun (x : SwPkt) => x.crypto = 2 && x.pkt.cryDir = 0 / 16) = some go ∧
    (live.recs .sa).filter (fun i => saHome i (live.sa i SA.DIR) = 0) = [0] ∧ b.gk (cryptoId 0) Cry.SA_STATUS_BUSY = 0 ∧
    run.gk (cryptoId 0) Cry.SA_STATUS_BUSY = 0 ∧ run.cry.ops = [] ∧ (b.saQueued 0 2 0).saCmdRuns 0 2 0 = false ∧
    [1, 2, 3, 4].all (fun op => (run.saQueued 0 op 0).saCmdRuns 0 op 0 && (rl.saQueued 0 op 0).saCmdRuns 0 op 0) = true ∧
    q.saTable 0 = some t ∧ t.offline = false ∧ qf.saTable 0 = some off ∧ qf.saCmdRuns 0 2 0 = true ∧ (Dev.reset.saQueued 0 2 0).saTable 0 = none ∧
    q.saIndex 0 = 0 ∧ saFieldsOk ((q.saData 0).take 16) q.feature = false ∧ (rl.saQueued 0 3 0).sa 0 SA.STATE = 2 ∧
    saFieldsOk (wset (wset (List.replicate 16 0) SA.PROTO 1) SA.PREV 0x3FFFFF) b.feature = true ∧
    b.otherSide 0 = false ∧ live.sa 0 SA.STATE = 2 ∧ b.sa 0 SA.STATE ≠ 1 ∧ b.sa 0 SA.STATE ≠ 2 ∧
    (b.sk (cryptoId 0) Cry.SA_STATUS_BUSY 1).gk (cryptoId 0) Cry.SA_STATUS_BUSY = 1 ∧
    (((live.cs .sa 0 SA.PROTO 3).cs .sa 0 SA.RESYNC 1).resyncing 0 = true ∧ live.resyncing 0 = false) ∧
    o.res = none ∧ { o with res := some (Sc.ok, []) }.res = some (Sc.ok, []) ∧ r.cry.ops.map SaOp.res = [some (Sc.ok, [])] ∧
    { sa with sa := wset (List.replicate 16 0) SA.PROTO 3 }.sa.getD 0 0 ≠ 0 ∧ wget sa.sa SA.PROTO ≠ 3 ∧
    r.cry.steps.any (fun (t : CryStep) => t.cands.any (fun c => c.idx = 0)) = true := by decide +kernel

/-- EntropyServesSeedsFailsAndTheScrubRepairs: the source at reset, seeded and failed; a request without and with bytes; an LPM table with a valid entry. -/
theorem witness_EntropyServesSeedsFailsAndTheScrubRepairs :
    let b : Dev := Dev.reset
    let ok : Dev := (b.setCry (fun (c : CrySt) => { c with seeded := true, tested := true })).setEnt 2
    let fail : Dev := b.setEnt 4
    let r : EntReq := { pf := 0, adm := some 5, spdm := none, len := 16, gen := [], fresh := false, at_ := 0 }
    let g : EntReq := { r with gen := List.replicate 16 0 }
    let sp : EntReq := { g with adm := none, spdm := some [1] }
    let run : Dev := (b.setEnt 1).setCry (fun (c : CrySt) => { c with started := 4095 })
    let pool : Nat → Dev := fun n => ok.setCry (fun (c : CrySt) => { c with seeded := false, pool := List.replicate n true })
    let a : Dev := { ok with admin := [admCmd 2], cry := { ok.cry with reqs := [r], rng := [7] } }
    let t : Tbl := { tbl0 with id := 1, kind := 3, keyBits := 32, entryBytes := 16, tcam := 1 }
    let l : Dev := { b with tbl := { b.tbl with tables := [t] } }
    b.acts = true ∧ fail.entState = 4 ∧ ok.entState ≠ 4 ∧ ((ok.noteTest 1).entFlush).entState ≠ 3 ∧ b.cry.tested = false ∧ ok.cry.tested = true ∧
    (ok.cry.test.feedAll []).2 = (0, 0) ∧ (ok.cry.test.feedAll (List.replicate 41 true)).2 = (40, 1) ∧
    (run.cry.test.feedAll ([true].take (4096 - run.cry.started))).2 = (1, 0) ∧ run.cry.started + 1 = 4096 ∧ run.entState = 1 ∧ run.cry.tested = false ∧
    (b.cry.test.feedAll ((List.replicate 41 true).take (4096 - b.cry.started))).2 = (40, 1) ∧ (b.setEnt 3).entState = 3 ∧
    (entropyTestFail [] ok).cry.pool.length < 1536 ∧ (entropyTestFail [] (pool 1536)).cry.tested = true ∧
    1536 ≤ (entropyTestFail [] (pool 1536)).cry.pool.length ∧ (entropyTestFail [] (pool 1536)).cry.seeded = false ∧
    (entropyTestFail [] (pool 1536)).entState ≠ 3 ∧ (entropyTestFail [] ((pool 1536).setEnt 3)).entState = 3 ∧
    (let s : Dev := (pool 1536).setCry (fun (c : CrySt) => { c with seeded := true })
     (entropyTestFail [] s).cry.seeded = true ∧ (entropyTestFail [] s).reseedDue = false ∧
     (entropyTestFail [] (s.setCry (fun (c : CrySt) => { c with gens := 65536 }))).reseedDue = true) ∧
    b.entState = 1 ∧ ok.entState ≠ 1 ∧ ok.entState ≠ 3 ∧ b.cry.seeded = false ∧ a.drbgReady false = true ∧ b.drbgReady false = false ∧
    a.on rootId Root.ENT_CTL_PRED_RESIST = false ∧ a.reseedDue = false ∧ r.gen.length < r.len ∧ g.len ≤ g.gen.length ∧ sp.adm = none ∧
    (b.drbgReady (b.on rootId Root.ENT_CTL_PRED_RESIST && !r.fresh)) = false ∧ a.cry.reqs = [r] ∧ b.cry.reqs = [] ∧
    (let c : AdminCmd := { admCmd 2 with ent := wset (admCmd 2).ent Adm.LEN 16 }; ({ Dev.reset with admin := [c] } : Dev).admReady 0 5 0x0002 c = true) ∧ (fail.admStart 0 5).entState = 4 ∧ (ok.admStart 0 5).cry.reqs.length < 64 ∧
    64 ≤ (ok.setCry (fun (c : CrySt) => { c with reqs := List.replicate 64 r })).cry.reqs.length ∧ (a.syncEnt).admin.find? (fun c => c.pf = 0 && c.idx = 5) = some (admCmd 2) ∧
    a.cry.rng = [7] ∧ ({ a with cry := { a.cry with reqs := [g, sp] } } : Dev).cry.reqs = g :: [sp] ∧ b.cry.rng = [] ∧ l.tcamOwner 0 = some (t, 0) ∧ l.evalid t 0 = false ∧ (l.es t 0 (validFld 3) 1).evalid t 0 = true := by decide +kernel

/-- ConnectionsReceiveSendTimeOutAndObeyTheirCommands: a packet of a bad form and two that are framed and checked as R266 says; connection 5 in
RTS with and without work, and the four commands in flight. -/
theorem witness_ConnectionsReceiveSendTimeOutAndObeyTheirCommands :
    let b : Dev := ((Dev.reset.setUst (homeOf 5) stActive).s (homeOf 5) Hdr.UNIT_CONTROL_ENABLE 1).s rootId Hdr.UNIT_CONTROL_ENABLE 1
    let d : Dev := (onDev b [switchId]).setCn 5 Conn.STATE 3 |>.setCn 5 Conn.RETRY_LIMIT 3
    let st : Dev := b.setCn 5 Conn.STATE 3
    let bad : Pkt := Pkt.blank
    let frame : List Byte → Pkt := fun t =>
      let ip : List Byte := [0x45, 0] ++ beBytes 2 (32 + t.length) ++ [0, 0, 0, 0, 64, 17] ++ List.replicate 10 0 ++ beBytes 2 49152 ++ beBytes 2 4791 ++ beBytes 2 (12 + t.length) ++ [0, 0] ++ t
      framePkt 0 (List.replicate 12 0 ++ [8, 0]) ip (icrc false ip)
    let good : Pkt := frame (bth 4 0 5 true 0 ++ [1, 2, 3, 4])
    let cnp : Pkt := frame (bth bthCnp 0 5 false 0 ++ List.replicate 16 0)
    let fz : Dev := (d.setCn 5 Conn.SLICE 1).cs .slice 1 Slc.STATE 3
    let rd : TpRead := { slot := 0, va := 0, rkey := 0, len := 0, first := 0, n := 1, next := 0 }
    let r : Dev := { d with tp := { d.tp with conns := [{ TpConn.init 5 0 with answers := [.read rd] }] } }
    let an : TpAns → Dev := fun a => { d with tp := { d.tp with conns := [{ TpConn.init 5 0 with answers := [a] }] } }
    let hd : Dev := { st with tp := { st.tp with conns := [{ TpConn.init 5 0 with held := [(some 3, .frame Pkt.blank), (none, .tally 4)] }] } }
    let w : Dev := { d with tp := { d.tp with conns := [{ TpConn.init 5 0 with rnr := some 7, acks := 1 }] } }
    let post : StPost := { id := 0, cid := 5, cmd := 0, op := 1, va := 0, rkey := 0, data := [1], len := 1, started := false, got := [], done := none }
    let m : Dev := { d with tp := { d.tp with conns := [TpConn.init 5 0] }, stor := { d.stor with posts := [post] } }
    b.acts = true ∧ b.twinState ≠ 5 ∧ b.takesWork (homeOf 5) = true ∧ b.feature 2 = true ∧ (parseRoce bad).good = false ∧
    (parseRoce good).good = true ∧ (parseRoce good).qpn = 5 ∧ (parseRoce good).opcode < 0x0D ∧ (parseRoce good).ce = false ∧
    good.mg Meta.CE_MARK = 0 ∧ (parseRoce cnp).good = true ∧ (parseRoce cnp).opcode = bthCnp ∧ b.cn 5 Conn.STATE = 0 ∧ fz.connFrozen 5 = true ∧
    d.connFrozen 5 = false ∧ (d.tpCache 5).cn 5 Conn.STATE = 3 ∧ d.connEligible 5 = true ∧ ((r.tpCache 5).tc 5).answers = .read rd :: [] ∧
    ((w.tpCache 5).tc 5).answers = [] ∧ (((an (.ack 0 3 0)).tpCache 5).tc 5).answers = .ack 0 3 0 :: [] ∧
    (((an .cnp).tpCache 5).tc 5).answers = .cnp :: [] ∧ d.tpStalled 5 = false ∧ st.tpStalled 5 = true ∧ d.takesWork (homeOf 5) = true ∧
    d.twinState ≠ 5 ∧ ((m.tpCache 5).tc 5).answers = [] ∧ ((m.tpCache 5).tc 5).rnr = none ∧ ((m.tpCache 5).tc 5).probe = 0 ∧ b.cn 5 Conn.STATE ≠ 2 ∧
    b.cn 5 Conn.STATE ≠ 3 ∧ d.cn 5 Conn.UNA_PSN = d.cn 5 Conn.SQ_PSN ∧ (hd.tc 5).held.length = 2 ∧ hd.tetherOn 5 = false ∧ hd.yokeAcked 3 = false ∧
    ((hd.tc 5).held.takeWhile (fun h => (!hd.tetherOn 5 || h.1.all hd.yokeAcked) && !(h.2.isFrame && (hd.tpStalled 5 || hd.connFrozen 5)))).length = 0 ∧
    (((b.s rootId Root.IMG_FEATURE_WORD_FEATURES 0).admStart 0 5).feature 2 = false) := by decide +kernel
/-- ConnectionsReceiveSendTimeOutAndObeyTheirCommands: its timers, its retries and its commands. -/
theorem witness_ConnectionsReceiveSendTimeOutAndObeyTheirCommands_more :
    let b : Dev := ((Dev.reset.setUst (homeOf 5) stActive).s (homeOf 5) Hdr.UNIT_CONTROL_ENABLE 1).s rootId Hdr.UNIT_CONTROL_ENABLE 1
    let d : Dev := (onDev b [switchId]).setCn 5 Conn.STATE 3 |>.setCn 5 Conn.RETRY_LIMIT 3
    let rtr : Dev := d.setCn 5 Conn.STATE 2
    let w : Dev := { d with tp := { d.tp with conns := [{ TpConn.init 5 0 with rnr := some 7, acks := 1 }] } }
    let q : Dev := (d.setCn 5 Conn.SQ 9).setCn 5 Conn.SQ_PSN 3
    let post : StPost := { id := 0, cid := 5, cmd := 0, op := 1, va := 0, rkey := 0, data := [1], len := 1, started := false, got := [], done := none }
    let m : Dev := { d with tp := { d.tp with conns := [TpConn.init 5 0] }, stor := { d.stor with posts := [post] } }
    let cmd : Nat → AdminCmd := fun op => { admCmd op with ent := wset (wset (admCmd op).ent Adm.LEN (if op = 0x0404 then 0 else 512)) Adm.ARG (5 + (if op = 0x0402 then 2 * 2 ^ 32 else 0)) }
    let dev : Nat → Dev := fun op => (({ Dev.reset with admin := [cmd op] } : Dev).s rootId Root.IMG_STATUS_STATE 2).setCn 5 Conn.STATE 1
    ((w.tpCache 5).tc 5).rnr.isSome = true ∧ ((m.tpCache 5).tc 5).live = [] ∧
    psnBefore ((m.tpCache 5).tc 5).next ((m.tpCache 5).cn 5 Conn.SQ_PSN) = false ∧ ((m.tpCache 5).startMsg 5).2.isSome = true ∧ (d.tc 5).acks = 0 ∧
    rtr.cn 5 Conn.STATE = 2 ∧ w.connRuns 5 2 = true ∧ w.connRuns 5 3 = true ∧ (w.tc 5).rnr = some 7 ∧ (w.tc 5).acks ≠ 0 ∧ q.connRuns 5 3 = true ∧
    q.cn 5 Conn.UNA_PSN ≠ q.cn 5 Conn.SQ_PSN ∧
    ((q.tpCache 5).bumpk (homeOf 5) Tp.TIMEOUTS).cn 5 Conn.RETRY_COUNT < ((q.tpCache 5).bumpk (homeOf 5) Tp.TIMEOUTS).cn 5 Conn.RETRY_LIMIT ∧
    (((q.setCn 5 Conn.RETRY_LIMIT 0).tpCache 5).bumpk (homeOf 5) Tp.TIMEOUTS).cn 5 Conn.RETRY_LIMIT = 0 ∧
    (List.range 4).all (fun i => (dev (0x0401 + i)).admReady 0 5 (0x0401 + i) (cmd (0x0401 + i))) = true ∧ (cmd 0x0402).arg / 2 ^ 32 % 8 = 2 ∧
    (cmd 0x0402).arg % 2 ^ 22 = 5 ∧ ((dev 0x0402).admStart 0 5).connStatus 0 5 = Sc.ok ∧ ((dev 0x0402).admStart 0 5).cn 5 Conn.STATE = 1 ∧
    ((dev 0x0403).admStart 0 5).feature 2 = true ∧ ((dev 0x0403).admStart 0 5).cn 5 Conn.SLICE = 0 ∧
    (((dev 0x0401).admStart 0 5).setCn 5 Conn.STATE 1).cn 5 Conn.STATE ≠ 0 ∧ (cmd 0x0402).arg / 2 ^ 35 % 2 = 0 ∧ (cmd 0x0402).arg / 2 ^ 36 % 2 = 0 ∧
    connReservedOk (List.replicate 64 0) = true ∧ (((dev 0x0404).admStart 0 5).setCn 5 Conn.STATE 0).connStatus 0 5 ≠ Sc.ok := by decide +kernel

/-- LinksTrainResetAndBecomeReady: function 0 with its pin low and high, in Sealed standby, with its link down and up, in an FLR, and ready. -/
theorem witness_LinksTrainResetAndBecomeReady :
    let b : Dev := Dev.reset.setEp 0 (fun (e : EpSt) => { e with perst := false })
    let low : Dev := b.setEp 0 (fun (e : EpSt) => { e with perst := true })
    let sb : Dev := { b with power := { b.power with state := .sealed } }
    let up : Dev := b.setEp 0 (fun (e : EpSt) => { e with linkUp := true, resetKind := 1 })
    let off : Dev := (b.s (epId 0) Ep.EP_LINK_CTL_MAX_RATE 6).s (epId 0) Ep.EP_LINK_CTL_MAX_WIDTH 16
    let rdy : Dev := b.s (epId 0) Ep.EP_CFG_CTL_CFG_READY 1
    (low.ep 0).perst = true ∧ (b.ep 0).perst = false ∧ sb.power.state = .sealed ∧ b.power.state ≠ .sealed ∧ b.boot.tripped = false ∧
    b.acts = true ∧ (b.ep 0).linkUp = false ∧ (up.ep 0).linkUp = true ∧ off.rateOffered 0 < 7 ∧ 6 ≤ off.rateOffered 0 ∧
    16 ≤ off.g (epId 0) Ep.EP_LINK_CTL_MAX_WIDTH ∧ min 6 (off.rateOffered 0) = 6 ∧ (up.ep 0).resetKind = 1 ∧
    rdy.g (epId 0) Ep.EP_CFG_CTL_CFG_READY = 1 ∧ b.g (epId 0) Ep.EP_CFG_CTL_CFG_READY = 0 ∧
    b.boot.late.contains 0 = false ∧ b.g rootId Root.BOOT_TIME_READY_MS = 0 := by decide +kernel

/-- EndpointAnswersConfigurationDoePowerAndTranslation: function 0 with its link down and up, before and after CFG_READY; L1, L0p, a PASID queue,
a TX queue; a DOE object too short, and a discovery object. -/
theorem witness_EndpointAnswersConfigurationDoePowerAndTranslation :
    let b : Dev := Dev.reset
    let up : Dev := b.setEp 0 (fun (e : EpSt) => { e with linkUp := true, aspmL1 := true, l0pEn := true, bme := true })
    let rdy : Dev := up.s (epId 0) Ep.EP_CFG_CTL_CFG_READY 1
    let l1 : Dev := up.s (epId 0) Ep.EP_LINK_STATUS_PM_STATE 2
    let ask : Dev := up.setEp 0 (fun (e : EpSt) => { e with l0pReq := some 8 })
    let thin : Dev := ((((up.s (epId 0) Ep.EP_LINK_CTL_L0P_AUTO 1).s (epId 0) Ep.EP_LINK_STATUS_FLIT 1).s (epId 0) Ep.EP_LINK_STATUS_WIDTH 16).s (epId 0) Ep.EP_LINK_STATUS_CUR_WIDTH 8)
    let q : QSt := { qid := 5, rung := false, enable := true, jobs := [], held := [], slots := [], auxPos := 0, auxPhase := 0 }
    let tx : Dev := ({ up with queues := [q] } : Dev).cs .queue 5 Qctx.KIND 1
    let pas : Dev := (((tx.cs .queue 5 Qctx.SLICE 1).cs .slice 1 Slc.STATE 1).cs .slice 1 Slc.PASID_EN 1).setEp 0 (fun (e : EpSt) => { e with pasidEn := true })
    let tr : Dev := (pas.cs .queue 5 Qctx.ATS 1).cs .slice 1 Slc.ATS_EN 1
    let disc : List Byte := [1, 0, 0, 0, 3, 0, 0, 0, 0, 0, 0, 0]
    b.acts = true ∧ (b.ep 0).linkUp = false ∧ (up.ep 0).linkUp = true ∧ up.g (epId 0) Ep.EP_CFG_CTL_CFG_READY = 0 ∧
    rdy.g (epId 0) Ep.EP_CFG_CTL_CFG_READY = 1 ∧ (up.ep 0).aspmL1 = true ∧ (up.s (epId 0) Ep.EP_LINK_STATUS_PM_STATE 0).g (epId 0) Ep.EP_LINK_STATUS_PM_STATE < 2 ∧
    2 ≤ l1.g (epId 0) Ep.EP_LINK_STATUS_PM_STATE ∧ l1.g (epId 0) Ep.EP_LINK_STATUS_PM_STATE ≤ 4 ∧ (ask.ep 0).l0pReq = some 8 ∧
    (thin.ep 0).l0pReq = none ∧ (thin.ep 0).l0pEn = true ∧ thin.on (epId 0) Ep.EP_LINK_CTL_L0P_AUTO = true ∧
    thin.on (epId 0) Ep.EP_LINK_STATUS_FLIT = true ∧
    thin.g (epId 0) Ep.EP_LINK_STATUS_CUR_WIDTH < thin.g (epId 0) Ep.EP_LINK_STATUS_WIDTH ∧ up.quiet 0 = false ∧ b.quiet 0 = true ∧
    (tr.qPasid 5).isSome = true ∧ tr.qAts 5 = true ∧ (tr.ep (tr.qf 5 Qctx.OWNER)).ats.length < 16384 ∧ pas.qAts 5 = false ∧ b.qExists 5 = false ∧
    tr.qExists 5 = true ∧ (tr.bumpk (dmaOf 5) Dma.PAGE_REQ_FAIL).qf 5 Qctx.KIND = 1 ∧ tx.qExists 5 = true ∧
    (tx.bumpk (dmaOf 5) Dma.PAGE_REQ_FAIL).qf 5 Qctx.KIND = 1 ∧ (([] : List Byte).length + 3) / 4 < 2 ∧
    leNat (sliceBytes disc 4 4) % 2 ^ 18 = (disc.length + 3) / 4 ∧
    (let ask : Nat → List Byte := fun k => [1, 0, 1, 0, 3, 0, 0, 0, 0x13, BitVec.ofNat 8 k, 0, 0]
     leNat (sliceBytes (ask 0x83) 0 2) = 1 ∧ leNat (sliceBytes (ask 0x83) 2 1) = 1 ∧ leNat (sliceBytes (ask 0x83) 4 4) % 2 ^ 18 = 3 ∧
     spdmNeeds (leNat (sliceBytes ((ask 0x84).drop 8) 1 1)) = 0 ∧ spdmNeeds (leNat (sliceBytes ((ask 0x83).drop 8) 1 1)) = 32 ∧
     leNat (sliceBytes disc 2 1) = 0) ∧ ((rdy.doeAnswer 0 disc).ep 0).doeOut ≠ [] := by decide +kernel

/-- SliceCommandsCreateChangeAndReadTheirRecords: one command of each opcode in flight for slice 5 or window 5, over a free and an
ACTIVE slice, a free and a valid window. -/
theorem witness_SliceCommandsCreateChangeAndReadTheirRecords :
    let cmd : Nat → AdminCmd := fun op => { admCmd op with ent := wset (wset (admCmd op).ent Adm.ARG 5) Adm.LEN (if op ≤ 0x0303 then 128 else if op = 0x0309 ∨ op = 0x030A then 32 else 0) }
    let dev : Nat → Dev := fun op => ({ Dev.reset with admin := [cmd op] } : Dev).s rootId Root.IMG_STATUS_STATE 2
    let d : Dev := (dev 0x0301).admStart 0 5
    let a : Dev := d.cs .slice 5 Slc.STATE 1
    let ws : List Word := (List.replicate 16 0).set 0 (BitVec.ofNat 64 0) |> (wset · Slc.QBASE 64) |> (wset · Slc.QCOUNT 1) |> (wset · Slc.DEFAULT_RXQ 0x3FFFF)
    let mw : List Word := wset [0, 0, 0, 0] Mw.LENGTH 4096
    let v : Dev := d.cs .window 5 Mw.VALID 1
    let p : Dev := ((d.s rootId (Hg.APT2_VALID 0) 1).s rootId (Hg.APT2_SIZE_LOG2 0) 20)
    let w : Dev := { dev 0x030B with admin := [{ cmd 0x030B with started := true }] }
    (dev 0x0301).acts = true ∧ [0x0301, 0x0302, 0x0303, 0x0309, 0x030A, 0x030B].all (fun op => (dev op).admReady 0 5 op (cmd op)) ∧
    d.badRec .slice 5 = false ∧ d.sliceState 5 = 0 ∧ d.adopting 5 = false ∧ sliceFormOk ws = true ∧
    p.rangeOk 0 5 64 1 = true ∧ d.rxqOk 64 1 0x3FFFF = true ∧ d.pasidOk 0 5 ws 0 = true ∧ d.otherSide 5 = false ∧
    d.maxFit 0 5 ws = true ∧ a.sliceState 5 ≠ 0 ∧ a.badRec .slice 5 = false ∧ d.sliceStatus 0 5 [1] ≠ Sc.ok ∧ a.adopting 5 = false ∧
    a.cg .slice 5 Slc.OWNER = 0 ∧ a.sliceState 5 = 1 ∧ maskOk sliceMask 16 ws = true ∧ wget ws Slc.SPOOF_MODE ≠ 3 ∧
    wget ws Slc.MAX_EQS ≤ 1024 ∧ wget ws Slc.MAX_MWS ≤ 65536 ∧ a.maxFit 0 5 ws = true ∧
    a.rxqOk (a.cg .slice 5 Slc.QBASE) (a.cg .slice 5 Slc.QCOUNT) 0x3FFFF = true ∧ a.cg .slice 5 Slc.USED_CONNS = 0 ∧
    a.cg .slice 5 Slc.USED_SESSIONS = 0 ∧ a.cg .slice 5 Slc.USED_EQS = 0 ∧ a.cg .slice 5 Slc.USED_MWS = 0 ∧
    allowOk [1, 0, 0, 0] = true ∧ allowOk [0, 0, 0, 0] = false ∧ d.badRec .window 5 = false ∧ v.badRec .window 5 = false ∧
    d.cg .window 5 Mw.VALID = 0 ∧ v.cg .window 5 Mw.VALID = 1 ∧ mwOk mw = true ∧ mwOk [0, 0, 0, 0] = false ∧
    d.sliceCheck 0 0 Slc.USED_MWS Slc.MAX_MWS = Sc.ok ∧ d.sliceCheck 0 7 Slc.USED_MWS Slc.MAX_MWS ≠ Sc.ok ∧
    v.badRec .slice 0 = false ∧ v.cg .window 5 Mw.SLICE = 0 ∧ (v.dropMw 5).keyBusy (v.mwKey 5) = false ∧
    (let x : TpConn := { TpConn.init 9 0 with rx := some { lost := false, op := 3, rkey := 5, va := 0, len := 0, got := 0, job := none, ent := [], data := [], tally := none } }
     let b : Dev := { v with tp := { v.tp with conns := [x] } }
     (b.dropMw 5).keyBusy (b.mwKey 5) = true) ∧
    w.admin.find? (fun c => c.pf = 0 && c.idx = 5 && c.op = 0x030B && c.started && c.done.isNone) = some { cmd 0x030B with started := true } ∧
    w.keyBusy 0 = false := by decide +kernel

/-- SlicesFreezeSaveRestoreThawAndGo: one command of each opcode in flight for slice 5, over a free, an ACTIVE, a FREEZING and a
FROZEN slice, and a saved state of an empty slice. -/
theorem witness_SlicesFreezeSaveRestoreThawAndGo :
    let cmd : Nat → AdminCmd := fun op => { admCmd op with ent := wset (wset (admCmd op).ent Adm.ARG (5 + 64 * 2 ^ 20)) Adm.LEN (if op = 0x0305 ∨ op = 0x0306 then 4096 else 0) }
    let cm5 : Nat → AdminCmd := fun op => { admCmd op with ent := wset (wset (admCmd op).ent Adm.ARG 5) Adm.LEN (if op = 0x0305 ∨ op = 0x0306 then 4096 else 0) }
    let dev : Nat → Dev := fun op => ({ Dev.reset with admin := [if op = 0x0306 then cmd op else cm5 op] } : Dev).s rootId Root.IMG_STATUS_STATE 2
    let d : Dev := (dev 0x0306).admStart 0 5
    let at_ : Nat → Dev := fun n => d.cs .slice 5 Slc.STATE n
    let p : Dev := ((d.s rootId (Hg.APT2_VALID 0) 1).s rootId (Hg.APT2_SIZE_LOG2 0) 20)
    (dev 0x0304).acts = true ∧ [0x0304, 0x0305, 0x0307, 0x0308].all (fun op => (dev op).admReady 0 5 op (cm5 op)) ∧
    (dev 0x0306).admReady 0 5 0x0306 (cmd 0x0306) = true ∧
    d.sliceStatus 0 5 [1] ≠ Sc.ok ∧ d.sliceStatus 0 5 [3] ≠ Sc.ok ∧ d.sliceStatus 0 5 [1, 3] ≠ Sc.ok ∧
    [1, 2, 3].all (fun n => !(at_ n).adopting 5 && !(at_ n).badRec .slice 5 && (at_ n).cg .slice 5 Slc.OWNER = 0 && (at_ n).sliceState 5 = n) ∧
    (at_ 2).frozenNow 5 = true ∧ (at_ 2).twin.switchover = none ∧ (at_ 1).sliceState 5 ≠ 2 ∧ (at_ 3).badRec .allow 5 = false ∧ (at_ 3).windowsOf 5 = [] ∧
    (at_ 3).sessionsOf 5 = [] ∧ ((at_ 3).savedState 0 5).length ≤ 4096 ∧ ¬ ((at_ 3).savedState 0 5).length ≤ 0 ∧
    d.badRec .slice 5 = false ∧ d.sliceState 5 = 0 ∧ d.adopting 5 = false ∧ readSaved [] = none ∧
    savedOk (savedWords38.take 8) savedRecs = true ∧ savedOk [] [] = false ∧ p.restoreStatus 0 5 64 0 (savedWords38.take 8) savedRecs [] [] [] = Sc.ok ∧
    d.restoreStatus 0 5 0 0 (savedWords38.take 8) savedRecs [] [] [] ≠ Sc.ok := by decide +kernel
/-- SlicesFreezeSaveRestoreThawAndGo: a saved state that is whole. -/
theorem witness_SlicesFreezeSaveRestoreThawAndGo_saved : readSaved (ofWords savedWords38) = some (savedWords38.take 8, savedRecs) := by
  have h1 : (getBits ((toWords 8 (ofWords savedWords38)).getD 1 0) 0 32) = 304 := by decide +kernel
  simp only [readSaved, h1, saved_crc]
  decide +kernel

/-- QueueCommandsCreateStopResumeAndReadQueues: one command of each opcode in flight, over no queue, an ACTIVE and a QUIESCED CQ 9, a
queue of tethered jobs, and a CQ that a queue names. -/
theorem witness_QueueCommandsCreateStopResumeAndReadQueues :
    let cmd : Nat → AdminCmd := fun op => { admCmd op with ent := wset (wset (admCmd op).ent Adm.ARG (if op = 0x0101 then 0 else 9)) Adm.LEN (if op = 0x0101 ∨ op = 0x0105 then 64 else 0) }
    let dev : Nat → Dev := fun op => ({ Dev.reset with admin := [cmd op] } : Dev).s rootId Root.IMG_STATUS_STATE 2
    let d : Dev := (dev 0x0101).admStart 0 5
    let ws : List Word := wset (wset (wset (List.replicate 8 0) Qctx.QID 9) Qctx.KIND 3) Qctx.SIZE_LOG2 6
    let q : Dev := ({ d with queues := [QSt.init 9] } : Dev).setRec .queue 9 ws
    let at_ : Nat → Dev := fun n => q.setQf 9 Qctx.STATE n
    let p : Dev := { d with img := { d.img with bindings := [{ kind := 2, target := 0, srcA := 1, srcB := 64, argA := 0, argB := 0 }] } }
    let j : Job := { idx := 0, ents := [], moved := 0, granted := true, grant := none, result := none }
    let t : Dev := ({ (at_ 1) with queues := [{ QSt.init 9 with jobs := [j] }] } : Dev).setQf 9 Qctx.KIND 2
    let h : TpConn := { TpConn.init 7 0 with held := [(none, .recv 9 0 0 0 0 none)] }
    let t : Dev := { t with tp := { t.tp with conns := [h] } }
    let n : Dev := ({ (at_ 1) with queues := [QSt.init 9, QSt.init 10] } : Dev).setQf 10 Qctx.CQ 9
    (dev 0x0101).acts = true ∧ [0x0101, 0x0102, 0x0103, 0x0104, 0x0105].all (fun op => (dev op).admReady 0 5 op (cmd op)) ∧
    d.qExists 9 = false ∧ q.qExists 9 = true ∧ queueFormOk ws = true ∧ d.sliceOfQ 9 = 0 ∧ wget ws Qctx.KIND = 3 ∧
    d.sliceState 0 = 1 ∧ d.inAdopt 9 = false ∧ (p.queueBinding 9).isSome = true ∧
    d.queueStatus 0 9 [qActive, qError, qStalled] ≠ Sc.ok ∧ (at_ 1).queueStatus 0 9 [qActive, qError, qStalled] = Sc.ok ∧
    (at_ 1).queueStatus 0 9 [qActive, qQuiesced, qError, qStalled] = Sc.ok ∧ d.queueStatus 0 9 [qActive, qQuiesced, qError, qStalled] ≠ Sc.ok ∧
    (at_ 1).cqNamed 9 = false ∧ n.cqNamed 9 = true ∧ n.queueStatus 0 9 [qActive, qQuiesced, qError, qStalled] = Sc.ok ∧
    ((((((at_ 1).abortQueue 9 []).1.setQf 9 Qctx.STATE qQuiesced).touch 4 9).qst 9).map QSt.jobs).getD [] = [] ∧
    (((((t.abortQueue 9 []).1.setQf 9 Qctx.STATE qQuiesced).touch 4 9).qst 9).map QSt.jobs).getD [] ≠ [] ∧
    t.queueStatus 0 9 [qActive, qError, qStalled] = Sc.ok ∧ t.cqNamed 9 = false ∧
    (at_ 2).queueStatus 0 9 [qQuiesced, qError] = Sc.ok ∧ (at_ 1).queueStatus 0 9 [qQuiesced, qError] ≠ Sc.ok ∧
    (cmd 0x0103).arg / 2 ^ 49 % 2 = 0 ∧ 0 < (at_ 2).qSize 9 ∧ (at_ 2).qSize 9 ≤ 64 ∧ (at_ 2).qf 9 Qctx.KIND = 3 ∧ t.qf 9 Qctx.KIND ≠ 3 ∧
    (at_ 1).qf 9 Qctx.OWNER = 0 ∧
    (let b : AdminCmd := { cmd 0x0102 with started := true, count := 3 }
     let w : Dev := { (at_ 2) with admin := [b] }
     w.admin.find? (fun c => c.pf = 0 && c.idx = 5 && c.op = 0x0102 && c.started && c.done.isNone) = some b ∧
     b.arg % 2 ^ 18 = 9 ∧ ((w.qst 9).map QSt.jobs).getD [] = []) := by decide +kernel

/-- RingsAreRungScannedFetchedAndCompleted: a queue of each kind, rung, with no entries, one that ends the scan or a full ring. -/
theorem witness_RingsAreRungScannedFetchedAndCompleted :
    let r : QSt := { QSt.init 17 with rung := true }
    let live : Dev → Dev := fun d => (((d.setUst (dmaId 1) stActive).s (dmaId 1) Hdr.UNIT_CONTROL_ENABLE 1).s rootId Hdr.UNIT_CONTROL_ENABLE 1).setEp 0 (fun (e : EpSt) => { e with linkUp := true, bme := true })
    let d : Dev := live (ringDev 1 r)
    let j : Job := { idx := 3, ents := [wset (wset (wset [0, 0, 0, 0] Went.LEN 64) Went.F 1) Went.L 1], moved := 0, granted := true, grant := none, result := none }
    let e1 : List Word := wset (wset (wset (wset [0, 0, 0, 0] Went.LEN 64) Went.F 1) Went.L 1) Went.PHASE 1
    let e2 : List Word := wset (wset (wset [0, 0, 0, 0] Went.LEN 64) Went.L 1) Went.PHASE 1
    let g : Dev := ringDev 1 { r with jobs := [j] }
    let m : Dev := ringDev 1 { r with jobs := [{ j with moved := 64 }] }
    let p : Pkt := { data := List.replicate 64 0, m := List.replicate 16 0, poison := false, fcs := false, prism := none, job := none }
    let x : Dev := live (ringDev 2 { r with enable := true })
    let b : Dev := live (ringDev 6 r)
    let sl : BackSlot := { idx := 0, tag := 0, cmd := 4, part := 0 }
    d.acts = true ∧ d.qExists 17 = true ∧ d.qf 17 Qctx.OWNER = 0 ∧ d.qExists 19 = false ∧ (d.qst 17).map QSt.rung = some true ∧
    (Dev.reset.qst 17) = none ∧ d.canScan 17 = true ∧ d.twinState ≠ 5 ∧ d.qf 17 Qctx.KIND = 1 ∧ b.qf 17 Qctx.KIND = 6 ∧ b.canScan 17 = true ∧
    x.canScan 17 = true ∧ x.qf 17 Qctx.KIND = 2 ∧ (d.ringJobs 17 [some e1]).1.length = 1 ∧ (d.ringJobs 17 [some e1]).2 = none ∧
    (d.takeAll 17 (d.ringJobs 17 [some e1]).1 []).2 = true ∧ d.ringJobs 17 [some e2] = ([], some (1, 0)) ∧ d.ringJobs 17 [none] = ([], some (7, 0)) ∧
    (d.takeAll 17 [] []).2 = true ∧ g.grantedJob 17 = some j ∧ txFrames (j.ents.getD 0 []) [] = none ∧
    txFrames (j.ents.getD 0 []) (List.replicate 64 0) = some [List.replicate 64 0] ∧
    ((g.setJob 17 3 (fun (j : Job) => { j with moved := 64 })).txSend 17 j false [List.replicate 64 0]).2 = true ∧
    (let h : Dev := (g.setQf 17 Qctx.SLICE 5).cs .slice 5 Slc.SPOOF_MODE 1
    ((h.setJob 17 3 (fun (j : Job) => { j with moved := 64 })).txSend 17 j false [List.replicate 64 0]).2 = false) ∧
    (m.qst 17).bind (fun x => x.jobs.find? (fun (j : Job) => j.result.isNone && j.moved ≠ 0)) = some { j with moved := 64 } ∧
    m.qstate (m.qf 17 Qctx.CQ) ≠ qError ∧ d.takesWork (dmaId 1) = true ∧ x.takesWork (dmaId 1) = true ∧ x.quiet (x.qf 17 Qctx.OWNER) = false ∧
    x.qExists 17 = true ∧ (x.setQf 17 Qctx.SLICE 5 |>.cs .slice 5 Slc.STATE 3).sliceFrozen 5 = true ∧ x.sliceFrozen (x.qf 17 Qctx.SLICE) = false ∧
    x.rxOpen 17 = true ∧ (x.setQf 17 Qctx.STATE qQuiesced).rxOpen 17 = false ∧ (x.rxReady 17 [some e1]).2.length = 1 ∧
    (x.rxReady 17 [some e1]).1.qf 17 Qctx.RX_META = 0 ∧ (bufsFor p.data.length (x.rxReady 17 [some e1]).2).map List.length = some 1 ∧
    [sl].any (fun y => y.idx = b.qf 17 Qctx.HEAD) = true := by decide +kernel
/-- RingsAreRungScannedFetchedAndCompleted: its receive slots, doorbell pages, stalls and patches. -/
theorem witness_RingsAreRungScannedFetchedAndCompleted_more :
    let r : QSt := { QSt.init 17 with rung := true }
    let live : Dev → Dev := fun d => (((d.setUst (dmaId 1) stActive).s (dmaId 1) Hdr.UNIT_CONTROL_ENABLE 1).s rootId Hdr.UNIT_CONTROL_ENABLE 1).setEp 0 (fun (e : EpSt) => { e with linkUp := true, bme := true })
    let d : Dev := live (ringDev 1 r)
    let sq : Dev := (live (ringDev 4 r)).setQf 17 Qctx.KIND 4
    let px : Dev := onDev d [prismId (prismOfQueue 17)]
    let y : Dev := d.setEp 0 (fun (e : EpSt) => { e with mse := true })
    let j : Job := { idx := 3, ents := [wset (wset (wset [0, 0, 0, 0] Went.LEN 64) Went.F 1) Went.L 1], moved := 0, granted := true, grant := none, result := none }
    let m : Dev := ringDev 1 { r with jobs := [{ j with moved := 64 }] }
    let p : Pkt := { data := List.replicate 64 0, m := List.replicate 16 0, poison := false, fcs := false, prism := none, job := none }
    let x : Dev := live (ringDev 2 { r with enable := true })
    let b : Dev := live (ringDev 6 r)
    let sl : BackSlot := { idx := 0, tag := 0, cmd := 4, part := 0 }
    [sl].any (fun y => y.cmd = 4 && y.part = 0) = true ∧ b.stor.backQ.contains (17, 4, 0) = false ∧ d.answers 0 = false ∧ y.answers 0 = true ∧
    y.pageOpen 0 17 = false ∧ y.pageOpen 0 0 = true ∧
    (let o : Dev := (y.s rootId (Hg.APT2_VALID 63) 1).s rootId (Hg.APT2_SIZE_LOG2 63) 30
    o.answers 0 = true ∧ o.pageOpen 0 17 = true ∧ o.pageOpen 0 19 = true ∧ o.qExists 17 = true ∧ o.qf 17 Qctx.OWNER = 0 ∧ o.qExists 19 = false) ∧
    sq.canScan 17 = true ∧ sq.qf 17 Qctx.KIND = 4 ∧ (sq.takeAll 17 [j] []).2 = false ∧ d.canFetch 17 = false ∧ px.canFetch 17 = true ∧
    (m.inPrism 17 3 = false ∧ (let w : Dev := { m with prism := { m.prism with fifo := [(0, { p with job := some (17, 3) })] } }
    w.inPrism 17 3 = true)) ∧
    x.rxUp 17 = true ∧ (x.setQf 17 Qctx.STATE qQuiesced).rxUp 17 = false ∧ x.heldByPatch 17 = false ∧
    (let bi : Binding := { kind := 2, target := 0, srcA := 0, srcB := 64, argA := 0, argB := 0 }
    let pt : PatchSt := { target := 0, image := [], phase := .drain, oldEnable := 1, oldState := 3, pool := 0, pf := 0, idx := 0 }
    let h : Dev := { x with img := { x.img with bindings := [bi], patch := some pt }, sw := { x.sw with hostRx := [(17, p)] } }
    h.heldByPatch 17 = true ∧ h.sw.hostRx = [(17, p)]) := by decide +kernel

/-- A device whose tile 0 takes work and whose channel 2 is in state `st` with the record `x`, if any. -/
def chanDev (st : Nat) (x : Option ChSt) : Dev :=
  let d : Dev := { Dev.reset with dma := { Dev.reset.dma with chans := x.toList } }
  (onDev d [dmaId 0]).s (chUnit 0 2) DmaCh.CH_STATUS_STATE st
/-- ChannelsRunStopHaltAndGoOn: channel 2 of tile 0, IDLE, RUNNING with a descriptor of 1,024 bytes, and HALTED with and without it. -/
theorem witness_ChannelsRunStopHaltAndGoOn :
    let w : List Word := wset (wset [0, 0, 0, 0] Desc.LEN 1024) Desc.LAST 1
    let x : ChSt := { tile := 0, ch := 2, cur := some w, fetch := [], issued := 0, bursts := [], flush := false }
    let b : ChBurst := { off := 0, len := 512, data := none, bad := none }
    let f : ChFetch := { addr := 0, words := none, bad := none }
    let h : Dev := (chanDev 3 (some x)).setChState 0 2 1
    let r : Dev := chanDev 1 (some x)
    (chanDev 0 none).acts = true ∧ (chanDev 0 none).chState 0 2 = 0 ∧ (chanDev 0 none).takesWork (dmaId 0) = true ∧
    r.chState 0 2 ≠ 0 ∧ Dev.reset.takesWork (dmaId 0) = false ∧ x.flush = false ∧ { x with flush := true }.flush = true ∧ x.cur = some w ∧ (chanDev 0 none).chan 0 2 = none ∧ r.chan 0 2 = some x ∧
    r.chState 0 2 = 1 ∧ wget w Desc.WB = 0 ∧ wget w Desc.EVT = 0 ∧ r.chState 0 2 ≠ 3 ∧ (chanDev 3 none).chState 0 2 = 3 ∧
    (((chanDev 3 none).setChState 0 2 1).chan 0 2).bind ChSt.cur = none ∧ (h.chan 0 2).bind ChSt.cur = some w ∧ descBad w = false ∧
    (h.chRefetch 0 2 w).g (chUnit 0 2) DmaCh.CH_DONE_BYTES_BYTES < wget w Desc.LEN ∧
    (∀ q < 17, (if q = 16 then false else (chanDev 0 none).chReady 0 q) = false) ∧
    (∀ q < 17, (if q = 16 then false else r.chReady 0 q) = decide (q = 2)) ∧ 2 = (16 + 1 + 2) % 17 ∧
    ((r.dma.rr.find? (fun x => x.1 = 0)).map (fun x => x.2)).getD 16 = 16 ∧
    [f].find? (fun y => y.words.isNone && y.bad.isNone) = some f ∧ [b].find? (fun y => y.off = b.off) = some b := by decide +kernel

/-- EventsAreAcceptedHeldConsumedAndQueuesManaged: the clock both ways, an event for an ACTIVE and for no queue, one that waits, a
queue of 64 records holding two, and one queue command of each opcode. -/
theorem witness_EventsAreAcceptedHeldConsumedAndQueuesManaged :
    let r : Dev := Dev.reset
    let x : Ev := { unit := 0, kind := 1, slice := 0, payload := 0, dest := .directed 2 5, merged := 0, held := false }
    let v : Dev := ((r.s (eqUnit 2 5) Eqb.EQ_STATUS_VALID 1).s (eqUnit 2 5) Eqb.EQ_CFG_SIZE_LOG2 6).s (eqUnit 2 5) Eqb.EQ_CFG_ENABLE 1
    let w : Dev := v.s (eqUnit 2 5) Eqb.EQ_STATUS_WR_POS 2
    let cmd : Nat → AdminCmd := fun op => { admCmd op with ent := wset (wset (admCmd op).ent Adm.ARG 5) Adm.LEN (if op = 0x0202 then 0 else 64) }
    let dev : Nat → Dev := fun op => ({ Dev.reset with admin := [cmd op] } : Dev).s rootId Root.IMG_STATUS_STATE 2
    let e : Dev := (dev 0x0201).admStart 0 5
    let h : Dev := (e.s (eqUnit 0 5) Eqb.EQ_STATUS_VALID 1).s (eqUnit 0 5) Eqb.EQ_CFG_SIZE_LOG2 6
    r.acts = true ∧ r.on rootId Root.EVT_STATUS_FAST = false ∧ (r.s rootId Root.EVT_STATUS_FAST 1).on rootId Root.EVT_STATUS_FAST = true ∧
    r.on rootId Root.EVT_GLOBAL_FAST_FORCE = false ∧ (r.s rootId Root.EVT_GLOBAL_FAST_FORCE 1).on rootId Root.EVT_GLOBAL_FAST_FORCE = true ∧
    r.ev.presented = [] ∧ (v.target x).2 = (2, 5) ∧ v.mustWait x = false ∧ (v.s rootId Root.EVT_GLOBAL_HOLD 1).mustWait x = true ∧
    r.eqValid 2 5 = false ∧ v.eqValid 2 5 = true ∧ x.dest ≠ .routed ∧ r.mustWait x = false ∧
    w.eqSize 2 5 = 64 ∧ w.g (eqUnit 2 5) Eqb.EQ_CONS_CONS = 0 ∧ w.g (eqUnit 2 5) Eqb.EQ_STATUS_WR_POS = 2 ∧
    (2 + 64 - 0) % 64 < (3 + 64 - 0) % 64 ∧ (2 + 64 - 0) % 64 ≤ (2 + 64 - 0) % 64 ∧ 64 ≤ 64 ∧
    ((w.s (eqUnit 2 5) Eqb.EQ_CONS_CONS 2).syncFull 2 5).eqEmpty 2 5 = true ∧
    ((w.s (eqUnit 2 5) Eqb.EQ_CONS_CONS 1).syncFull 2 5).eqEmpty 2 5 = false ∧
    ((w.s (eqUnit 2 5) Eqb.EQ_CONS_CONS 1).syncFull 2 5).eqValid 2 5 = true ∧
    r.on (eqUnit 2 5) Eqb.EQ_CFG_ENABLE = false ∧ v.on (eqUnit 2 5) Eqb.EQ_CFG_ENABLE = true ∧
    [0x0201, 0x0202, 0x0203].all (fun op => (dev op).admReady 0 5 op (cmd op)) ∧ e.eqValid 0 5 = false ∧ h.eqValid 0 5 = true ∧
    eqFormOk (wset [0, 0, 0, 0, 0, 0, 0, 0] EqC.SIZE_LOG2 6) = true ∧ e.sliceCheck 0 0 Slc.USED_EQS Slc.MAX_EQS = Sc.ok ∧
    h.eqNamed 0 5 = false ∧ ((h.s (epId 0) Ep.AQ_CFG_EQ_EN 1).s (epId 0) Ep.AQ_CFG_EQ 5).eqNamed 0 5 = true ∧
    h.sliceFrozen (h.cg .hostEq 5 EqC.SLICE) = false ∧
    (let f : Dev := (h.cs .hostEq 5 EqC.SLICE 7).cs .slice 7 Slc.STATE 3
     f.sliceFrozen (f.cg .hostEq 5 EqC.SLICE) = true ∧ f.eqNamed 0 5 = false ∧ f.eqValid 0 5 = true) := by decide +kernel

/-- MailboxesDeliverAndLocksAreGrantedAndFreed: lock 3 free and held by core 0, and mailbox 0, whose channel 2 belongs to PF-A, empty, with a
message whose timer runs and has ended, and with it latched. -/
theorem witness_MailboxesDeliverAndLocksAreGrantedAndFreed :
    let r : Dev := Dev.reset
    let l : Dev := (r.s (lockUnit 3) Lock.LOCK_STATE_HELD 1).s (lockUnit 3) Lock.LOCK_STATE_HOLDER 0x27E
    let e : Dev := r.s (mbxUnit 0 2) MbxCh.CH_CTL_SENDER 0x27C
    let f : Dev := (send 0x27C 0 2 e)
    let h : Dev := f.s (mrxUnit 0) MbxRx.RX_STATUS_LATCHED 1
    let late : Dev := { f with time := f.time + 1000 * f.g rootId Root.MBX_TIMEOUT_US + 1000 }
    let x : MbxMsg := { box := 0, ch := 2, us := f.g rootId Root.MBX_TIMEOUT_US, due := some (f.time + 1000 * f.g rootId Root.MBX_TIMEOUT_US) }
    r.acts = true ∧ r.on (lockUnit 3) Lock.LOCK_STATE_HELD = false ∧ l.on (lockUnit 3) Lock.LOCK_STATE_HELD = true ∧
    l.g (lockUnit 3) Lock.LOCK_STATE_HOLDER = 0x27E ∧ l.g (lockUnit 3) Lock.LOCK_STATE_HOLDER ≠ 0x27C ∧ isCore 0x27E = true ∧
    isCore 0x27C = false ∧ isAgent 0x27C = true ∧ isAgent 0x27E = true ∧ isAgent 5 = false ∧ r.g (mbxUnit 0 2) MbxCh.CH_CTL_SENDER ≠ 0x27C ∧
    e.g (mbxUnit 0 2) MbxCh.CH_CTL_SENDER = 0x27C ∧ e.on (mbxUnit 0 2) MbxCh.CH_STAT_FULL = false ∧ f.on (mbxUnit 0 2) MbxCh.CH_STAT_FULL = true ∧
    f.g (mbxUnit 0 2) MbxCh.CH_CTL_SENDER = 0x27C ∧ e.boxMsgs 0 = [] ∧ f.boxMsgs 0 = x :: [] ∧
    f.latchedAt 0 2 = false ∧ h.latchedAt 0 2 = true ∧ f.on (mrxUnit 0) MbxRx.RX_CFG_EVT_EN = true ∧
    (r.s (mrxUnit 0) MbxRx.RX_CFG_EVT_EN 0).on (mrxUnit 0) MbxRx.RX_CFG_EVT_EN = false ∧ boxCore 0 = 0x27E ∧ isAgent 5 = false ∧
    late.mbx.any (fun x => x.box = 0 && x.ch = 2 && late.msgLate x) = true ∧ f.mbx.any (fun x => x.box = 0 && x.ch = 2 && f.msgLate x) = false ∧
    isCore (late.g (mbxUnit 0 2) MbxCh.CH_CTL_SENDER) = false ∧ late.acts = true ∧ h.boxLatched 0 = true ∧ f.boxLatched 0 = false := by decide +kernel

/-- RegionsStepRestWakeHeatAndWear: region 3 at each gait, with a ceiling below it, a floor above it and FREEZE set, with and without a
step asked for, the credit locked and not, and the keeper clock lost and not. -/
theorem witness_RegionsStepRestWakeHeatAndWear :
    let at_ : Nat → Dev := fun g => Dev.reset.s (regionUnit 3) Region.REG_STATUS_GAIT g
    let hot : Dev := (at_ 4).s (regionUnit 3) Region.REG_STATUS_TEMP_CAP 3
    let flo : Dev := (at_ 3).s ((regionUnits 3).headD 0) Hdr.GAIT_STATE_FLOOR 4
    let stp : Dev := { at_ 3 with power := { (at_ 3).power with regions := updAt (at_ 3).power.regions 3 (fun (x : RegionSt) => { x with step := some 4 }) } }
    let wk : Dev := (at_ 1).setRegion 3 (fun (x : RegionSt) => { x with wakeReq := true })
    let lk : Dev := Dev.reset.s rootId Root.GOV_STATUS_CREDIT_LOCK 1
    let kf : Dev := Dev.reset.s rootId Root.KEEP_STATUS_XKEEP_FAIL 1
    let low : Dev := (at_ 1).s ((regionUnits 3).headD 0) Hdr.GAIT_STATE_CEIL 1
    let cap : Dev := stp.s ((regionUnits 3).headD 0) Hdr.GAIT_STATE_CEIL 3
    let down : Dev := { flo with power := { flo.power with regions := updAt flo.power.regions 3 (fun (x : RegionSt) => { x with step := some 2 }) } }
    (at_ 3).acts = true ∧ (at_ 1).gait 3 < 2 ∧ 2 ≤ hot.gait 3 ∧ hot.regionCeil 3 < hot.gait 3 ∧ (at_ 3).gait 3 < (at_ 3).regionCeil 3 ∧
    (at_ 3).regionFloor 3 ≤ (at_ 3).gait 3 ∧ flo.gait 3 < flo.regionFloor 3 ∧ flo.gait 3 ≤ flo.regionCeil 3 ∧ (at_ 3).on rootId Root.GOV_CTL_FREEZE = false ∧
    ((at_ 3).s rootId Root.GOV_CTL_FREEZE 1).on rootId Root.GOV_CTL_FREEZE = true ∧ ((at_ 3).region 3).step = none ∧
    (stp.region 3).step = some 4 ∧ (stp.region 3).upWaits = false ∧ (at_ 3).restful 3 = true ∧ wk.restful 3 = false ∧ 4 ≤ stp.regionCeil 3 ∧ stp.gait 3 < 4 ∧ (cap.region 3).step = some 4 ∧
    (cap.region 3).upWaits = false ∧ cap.gait 3 < 4 ∧ cap.regionCeil 3 < 4 ∧ (down.region 3).step = some 2 ∧ 2 ≤ down.gait 3 ∧ (at_ 1).regionCeil 3 ≥ 2 ∧
    low.gait 3 < 2 ∧ low.regionCeil 3 < 2 ∧ (at_ 3).gait 3 ≠ 1 ∧ (at_ 3).gait 3 ≠ 2 ∧ (at_ 1).restful 3 = true ∧ forcedGait 4 3 = 3 ∧ forcedGait 4 1 = 1 ∧
    3 ≤ (at_ 3).gait 3 ∧ (at_ 1).restBarred 3 = false ∧ (at_ 1).gait 3 = 1 ∧ ((at_ 1).s (regionUnit 3) Region.REG_CTL_NO_REST 1).restBarred 3 = true ∧
    min 1500000000 (0 + 34000 - 10 * 4000) = 0 ∧ Dev.reset.on rootId Root.GOV_STATUS_CREDIT_LOCK = false ∧ lk.on rootId Root.GOV_STATUS_CREDIT_LOCK = true ∧
    300000000 ≤ min 1500000000 (300000000 + 34000 - 10 * 0) ∧ (at_ 5).gait 3 = 5 ∧ Dev.reset.on rootId Root.KEEP_STATUS_XKEEP_FAIL = false ∧
    kf.on rootId Root.KEEP_STATUS_XKEEP_FAIL = true ∧ kf.acts = true ∧ (tripped.dev.s rootId Root.KEEP_STATUS_XKEEP_FAIL 1).acts = false := by decide +kernel

/-- ResetsClearWhatTheyClearAndHoldSleeps: the device in Run, sealed, stopped by THERMTRIP and in Hold with a source enabled. -/
theorem witness_ResetsClearWhatTheyClearAndHoldSleeps :
    let sl : Dev := pwrGoodFall Dev.reset
    let hd : Dev := ({ Dev.reset with power := { Dev.reset.power with state := .hold } } : Dev).s rootId Root.KEEP_WAKE_EN_EN 3
    sl.power.state = .sealed ∧ Dev.reset.power.state ≠ .sealed ∧ Dev.reset.boot.tripped = false ∧ tripped.dev.boot.tripped = true ∧
    tripped.dev.power.state ≠ .sealed ∧ sl.boot.armed = true ∧ (brownout Dev.reset).boot.armed = false ∧ Dev.reset.power.state ≠ .hold ∧
    hd.power.state = .hold ∧ hd.boot.tripped = false ∧ hd.wakeCause 2 0 ≠ 0 ∧
    hd.wakeCause 1 0 = 0 ∧ Dev.reset.acts = true ∧ mcId 0 ≠ epId 0 ∧ mcId 0 ≠ epId 1 ∧
    Dev.reset.img.slotWrite = none ∧ pinCell (rkey rootId 0x208) = false ∧ keeperCell (rkey rootId 0x208) = false ∧
    keeperCell (rkey rootId 0xA00) = true ∧ entropyCell (rkey rootId 0x0540) = true ∧ entropyCell (rkey rootId 0x0570) = false ∧ hd.acts = false ∧ pinCell (rkey rootId 0x6808) = true ∧ Dev.reset.holdRefusal = 0 ∧
    ({ Dev.reset with mbx := [{ box := 0, ch := 0, us := 10, due := none }] } : Dev).holdRefusal = 4 := by decide +kernel

/-- A paired device in twin state `st` whose yoke is up and that expects SEQ 1. -/
def twinDev (st : Nat) : Dev :=
  ((((Dev.reset.s rootId Root.IMG_FEATURE_WORD_FEATURES 16).s rootId Root.TWIN_CFG_EN 1).s rootId Root.TWIN_STATUS_LINK_UP 1).s rootId
    Root.TWIN_STATUS_STATE st).s rootId Root.TWIN_SEQ_RX_EXPECTED 1
/-- YokeFramesAreCheckedAcknowledgedAndApplied: an ATTACHED twin, with frames of each kind in order, before and after it; frames that
are short or of a wrong format; a HELLO. -/
theorem witness_YokeFramesAreCheckedAcknowledgedAndApplied :
    let fr : Nat → Nat → List Byte → List Byte := fun k seq p => yokeBytes k 0 seq 0 0 0 p
    let d : Dev := twinDev 3
    let e : Nat → Nat → List Byte → Dev := fun k seq p => d.yokeAckIn (beAt (fr k seq p) 8 4)
    let g : Dev := (e 3 1 [3]).yokeNoted (fr 3 1 [3])
    let w : Dev := { g with twin := { g.twin with switchover := some (0, true, []) } }
    d.acts = true ∧ Dev.reset.paired = false ∧ d.paired = true ∧ d.on rootId Root.TWIN_STATUS_LINK_UP = true ∧ ([] : List Byte).length < 20 ∧
    d.yokeTakes (fr 1 0 []) 1 none = true ∧ d.yokeTakes (fr 2 1 []) 2 none = true ∧ d.yokeTakes (fr 4 1 [0, 0, 0, 0, 0, 0, 0, 0]) 4 none = true ∧
    d.yokeTakes (fr 5 0 []) 5 none = true ∧ d.yokeTakes (fr 6 1 []) 6 none = true ∧ d.yokeTakes (fr 3 1 [2]) 3 (some 2) = true ∧
    d.yokeTakes (fr 3 1 [3]) 3 (some 3) = true ∧ d.yokeTakes (fr 3 1 [4, 0]) 3 (some 4) = true ∧ d.yokeTakes (fr 3 1 [5]) 3 (some 5) = true ∧
    d.yokeTakes (fr 3 1 [6]) 3 (some 6) = true ∧ (e 3 1 [2]).mirroring = true ∧ (e 3 1 [2]).twin.fixed = none ∧ (e 3 1 [2]).yokeNext (fr 3 1 [2]) = true ∧
    seqBefore 0 1 = true ∧ seqBefore 2 1 = false ∧ d.g rootId Root.TWIN_SEQ_RX_EXPECTED = 1 ∧ g.twinState = 3 ∧ g.twin.switchover = none ∧
    w.twin.switchover = some (0, true, []) ∧ beAt (fr 3 0 [1]) 0 1 = 3 ∧ beAt (fr 3 0 [1]) 16 1 = 1 ∧ beAt (fr 3 0 [1]) 14 1 = 0 ∧
    crc32c ((fr 3 0 [1]).take 17) = beAt (fr 3 0 [1]) 17 4 ∧ (fr 3 0 [1]).length = 21 ∧ (twinDev 1).twinState = 1 ∧ (twinDev 0).twinState = 0 ∧
    beAt (yokeBytes 3 0 0 0 0 1 [1]) 14 1 ≠ 0 := by decide +kernel

/-- A paired device in twin state `st` whose yoke is down. -/
def twinOff (st : Nat) : Dev :=
  ((Dev.reset.s rootId Root.IMG_FEATURE_WORD_FEATURES 16).s rootId Root.TWIN_CFG_EN 1).s rootId Root.TWIN_STATUS_STATE st
/-- TwinsAttachHeartbeatTakeOverSwitchAndDetach: a twin in each state, with commands in flight, a switchover before and after its frame,
a declared takeover that waits, does not, and has its mirror fixed. -/
theorem witness_TwinsAttachHeartbeatTakeOverSwitchAndDetach :
    let dev : Nat → Nat → Dev := fun op st => ({ (twinOff st).s rootId Root.IMG_STATUS_STATE 2 with admin := [admCmd op] } : Dev)
    let at_ : Nat → Dev := fun st => (dev 0x0701 st).admStart 0 5
    let g : Dev := ({ (at_ 0).setTwin 1 with twin := { (at_ 0).twin with cmd := some (0, 5) } } : Dev).sendHello
    let sw : Bool → Dev := fun b => { at_ 6 with twin := { (at_ 6).twin with switchover := some (0, b, []) } }
    (at_ 3).acts = true ∧ (dev 0x0701 0).admReady 0 5 0x0701 (admCmd 0x0701) = true ∧ (dev 0x0702 3).admReady 0 5 0x0702 (admCmd 0x0702) = true ∧
    (dev 0x0703 3).admReady 0 5 0x0703 (admCmd 0x0703) = true ∧ (admCmd 0x0701).arg % 2 ^ 18 = 0 ∧ (at_ 0).paired = true ∧ (at_ 0).twinState = 0 ∧
    (at_ 3).twinState = 3 ∧ ((at_ 0).bound 0x40).2.2 = 258048 ∧ ((at_ 0).bound 0x41).2.2 = 4096 ∧ 0 + 4096 ≤ 258048 ∧ 2 ^ 18 < 2 ^ 18 - 1 + 4096 ∧
    g.twin.hello = none ∧ (at_ 6).twin.switchover = none ∧ (sw false).twin.switchover = some (0, false, []) ∧ (sw false).twinState = 6 ∧
    (sw false).handedSlices 0 = [] ∧ (sw false).twin.unacked = [] ∧ (sw false).twin.deferred = [] ∧ (sw false).twin.heads = [] := by decide +kernel
/-- TwinsAttachHeartbeatTakeOverSwitchAndDetach: its timers and its takeover. -/
theorem witness_TwinsAttachHeartbeatTakeOverSwitchAndDetach_timers :
    let dev : Nat → Nat → Dev := fun op st => ({ (twinOff st).s rootId Root.IMG_STATUS_STATE 2 with admin := [admCmd op] } : Dev)
    let at_ : Nat → Dev := fun st => (dev 0x0701 st).admStart 0 5
    let sw : Bool → Dev := fun b => { at_ 6 with twin := { (at_ 6).twin with switchover := some (0, b, []) } }
    let dc : Bool → Dev := fun b => { at_ 4 with twin := { (at_ 4).twin with declared := some (1, 0, b) } }
    let fx : Dev := { dc false with twin := { (dc false).twin with fixed := some (0, 0, 0) } }
    let ack : Dev := { at_ 3 with twin := { (at_ 3).twin with ackDue := true } }
    let m4 : Dev := (at_ 3).s rootId Root.TWIN_STATUS_MISSED 4
    (sw true).twin.switchover = some (0, true, []) ∧ (at_ 1).twinState = 1 ∧ (at_ 2).twinState = 2 ∧ (at_ 1).on rootId Root.TWIN_STATUS_LINK_UP = false ∧
    ((at_ 1).s rootId Root.TWIN_STATUS_LINK_UP 1).on rootId Root.TWIN_STATUS_LINK_UP = true ∧ ack.twin.ackDue = true ∧ (at_ 3).twin.ackDue = false ∧
    (at_ 3).mirroring = true ∧ (at_ 0).mirroring = false ∧ min 15 ((at_ 3).g rootId Root.TWIN_STATUS_MISSED + 1) < 5 ∧
    5 ≤ min 15 (m4.g rootId Root.TWIN_STATUS_MISSED + 1) ∧ (at_ 4).twinState = 4 ∧ (at_ 4).twin.declared = none ∧ (dc false).twin.declared = some (1, 0, false) ∧
    (dc true).twin.declared = some (1, 0, true) ∧ (dc false).twin.fixed = none ∧ (dc false).img.patch = none ∧ fx.twin.fixed = some (0, 0, 0) ∧
    fx.twinState = 4 ∧ (at_ 3).g rootId Root.TWIN_STATUS_LINK_UP = 0 ∧ (at_ 3).paired = true := by decide +kernel

/-- RelayFramesAreTakenInOrderAcknowledgedAndApplied: frames from no neighbour, out of order and in order; from parent and child; at a
member and at the root; an operation known and unknown; a JOIN asked and not, accepted and refused. -/
theorem witness_RelayFramesAreTakenInOrderAcknowledgedAndApplied :
    let st : RlFrame → Dev := fun x => rlMem [x] [] (some 0) none
    let g : RlFrame → Dev := fun x => ((rlTook x (st x)).setLink x.src (fun (k : RlLink) => { k with rx := x.seq })).rlAckTo x.src
    let op : RlOp := { kind := 1, opId := 4, seq := none, own := none, arg := 0, payload := [], entered := false, up := false, waits := [52], a := 0, b := 0 }
    let types : List Nat := [0x02, 0x05, 0x06, 0x10, 0x11, 0x20, 0x21, 0x30, 0x31, 0x40, 0x41, 0x50]
    let gg : Dev → RlFrame → Dev := fun d x => ((rlTook x d).setLink x.src (fun (k : RlLink) => { k with rx := x.seq })).rlAckTo x.src
    let ask : Dev := { (st (rlFr 2 0 5 0 [2, 1])) with relay := { (st (rlFr 2 0 5 0 [2, 1])).relay with join := [0] } }
    let root : List RlFrame → Dev := fun rx => rlMem rx [] none none
    (st (rlFr 2 0 5 0 [])).acts = true ∧ (rlMem [] [] (some 0) none).relay.rx = [] ∧ (rlFr 2 0 5 0 []).typ ≠ 3 ∧
    types.all (fun t => (rlTook (rlFr t 9 5 0 []) (st (rlFr t 9 5 0 []))).rlLink 9 = none ∧
      ((rlTook (rlFr t 0 9 0 []) (st (rlFr t 0 9 0 []))).rlLink 0).map RlLink.rx = some 4 ∧
      ((rlTook (rlFr t 52 5 0 []) (st (rlFr t 52 5 0 []))).rlLink 52).map RlLink.rx = some 4) ∧
    (g (rlFr 2 0 5 0 [2, 1])).relay.join.head? ≠ some 0 ∧ (gg ask (rlFr 2 0 5 0 [2, 1])).relay.join.head? = some 0 ∧
    (rlFr 2 0 5 0 [2, 1]).num 1 1 = 1 ∧ (rlFr 2 0 5 0 [2, 0]).num 1 1 ≠ 1 ∧
    52 ∈ (g (rlFr 5 52 5 0 [])).rlKids ∧ 0 ∉ (g (rlFr 5 0 5 0 [])).rlKids ∧
    (g (rlFr 6 52 5 0 [])).relay.parent ≠ some 52 ∧ (g (rlFr 6 0 5 0 [0, 3])).relay.parent = some 0 ∧
    (rlFr 6 0 5 0 [0, 3]).num 0 2 % 4096 = (g (rlFr 6 0 5 0 [0, 3])).rlId ∧ (rlFr 6 0 5 0 [0, 1]).num 0 2 % 4096 ≠ (g (rlFr 6 0 5 0 [0, 1])).rlId ∧
    (gg (rlMem [rlFr 16 52 5 0 [0, 1]] [op] (some 0) none) (rlFr 16 52 5 0 [0, 1])).relay.ops.any (rlIs 1 4) = true ∧
    (g (rlFr 16 52 5 0 [0, 1])).relay.ops.any (rlIs 1 4) = false ∧
    (gg (root [rlFr 32 52 5 0 []]) (rlFr 32 52 5 0 [])).rlRoot = true ∧ (g (rlFr 32 52 5 0 [])).rlRoot = false ∧
    [0x31, 0x41].all (fun t => (g (rlFr t 0 5 7 [])).relay.parent = some 0 ∧ (g (rlFr t 52 5 7 [])).relay.parent ≠ some 52 ∧
      (rlFr t 52 5 7 []).opSeq ≠ 0 ∧ (rlFr t 52 5 0 []).opSeq = 0 ∧ (gg (root [rlFr t 52 5 0 []]) (rlFr t 52 5 0 [])).rlRoot = true ∧
      (gg (root [rlFr t 52 5 0 []]) (rlFr t 52 5 0 [])).relay.parent ≠ some 52 ∧ (g (rlFr t 52 5 0 [])).rlRoot = false) ∧
    (rlTook (rlFr 3 9 0 0 []) (st (rlFr 3 9 0 0 []))).rlLink 9 = none ∧
    ((rlTook (rlFr 3 52 0 0 []) (st (rlFr 3 52 0 0 []))).rlLink 52).map RlLink.kind = some 1 ∧
    ((rlTook (rlFr 3 0 0 0 []) (root [rlFr 3 0 0 0 []])).rlLink 0).map RlLink.kind = some 0 ∧
    (rlTook (rlFr 3 0 0 0 []) (root [rlFr 3 0 0 0 []])).relay.parent ≠ some 0 ∧
    ((rlTook (rlFr 3 0 0 0 []) (st (rlFr 3 0 0 0 []))).rlLink 0).map RlLink.asked = some none ∧
    ((rlTook (rlFr 3 0 0 0 []) (rlMem [rlFr 3 0 0 0 []] [] (some 0) (some 6))).rlLink 0).map RlLink.asked = some (some 6) ∧
    (rlTook (rlFr 3 0 0 0 []) (st (rlFr 3 0 0 0 []))).relay.parent = some 0 ∧
    (rlFr 3 0 0 0 []).num 4 8 = 0 ∧ (rlFr 3 0 0 0 [0, 0, 0, 0, 0, 0, 0, 0, 0, 0, 0, 7]).num 4 8 ≠ 0 := by decide +kernel
/-- RelayFramesAreTakenInOrderAcknowledgedAndApplied: JOIN in another state, of member 0, repeated, accepted, and refused for a full table. -/
theorem witness_RelayFramesAreTakenInOrderAcknowledgedAndApplied_join :
    let x : RlFrame := rlFr 1 52 4 0 []
    let y : RlFrame := rlFr 1 52 5 0 []
    let st : RlFrame → Dev := fun x => rlMem [x] [] (some 0) none
    let l : RlLink := { id := 0, kind := 1, tx := 1, rx := 4, sent := [], epoch := 2, count := 1, heard := none, asked := none }
    let full : Dev := { (st (rlFr 1 9 1 0 [])) with relay := { (st (rlFr 1 9 1 0 [])).relay with links := (List.range 64).map (fun i => { l with id := 64 + i }) } }
    let z : RlFrame := rlFr 1 0 5 0 []
    let top : Dev := rlTook z (rlMem [z] [] none none)
    (rlTook x ((st x).s rootId Root.RELAY_STATUS_STATE 1)).rlState ≠ 2 ∧ (rlTook x (st x)).rlState = 2 ∧ top.rlState = 2 ∧
    top.relay.parent ≠ some 0 ∧ 0 ∉ top.rlKids ∧ (top.rlLink 0).map RlLink.kind = some 0 ∧ top.on rootId Root.RELAY_STATUS_ACTING_ROOT = false ∧
    (top.s rootId Root.RELAY_STATUS_ACTING_ROOT 1).on rootId Root.RELAY_STATUS_ACTING_ROOT = true ∧
    ((rlTook x (st x)).rlLink 52).map (fun l => (l.kind, l.rx)) = some (1, 4) ∧ x.seq = 4 ∧
    ((rlTook y (st y)).rlLink 52).map RlLink.rx ≠ some y.seq ∧ 52 ∈ (rlTook y (st y)).rlKids ∧
    (((rlTook y (st y)).rlDropKid 52).rlKids.filter (· ≠ 52)).length < 64 ∧
    64 ≤ ((rlTook (rlFr 1 9 1 0 []) full).rlKids.filter (· ≠ 9)).length ∧ (rlTook (rlFr 1 9 1 0 []) full).rlRoot = false ∧
    9 ∉ (rlTook (rlFr 1 9 1 0 []) full).rlKids ∧ (rlTook (rlFr 1 9 1 0 []) full).rlLink 9 = none := by decide +kernel

/-- RelayMembersJoinLeaveOperateAndKeepTheirTimes: each admin command of the relay in flight at a member with and without the feature,
in and out of JOINED, for its own kind and another. -/
theorem witness_RelayMembersJoinLeaveOperateAndKeepTheirTimes :
    let cmd : Nat → Nat → AdminCmd := fun op k => { admCmd op with ent := wset (admCmd op).ent Adm.ARG k }
    let dev : Nat → Nat → Dev := fun op k => ({ rlMem [] [] (some 0) none with admin := [cmd op k] } : Dev).s rootId Root.IMG_STATUS_STATE 2
    let on : Dev → Dev := fun d => d.s rootId Root.IMG_FEATURE_WORD_FEATURES 32
    let off : Dev → Dev := fun d => d.s rootId Root.IMG_FEATURE_WORD_FEATURES 0
    (dev 0x0801 0).acts = true ∧ (dev 0x0801 0).admReady 0 5 0x0801 (cmd 0x0801 0) = true ∧
    (dev 0x0802 0).admReady 0 5 0x0802 (cmd 0x0802 0) = true ∧
    (off ((dev 0x0802 0).admStart 0 5)).rlOn = false ∧ (on ((dev 0x0802 0).admStart 0 5)).rlOn = true ∧
    (on ((dev 0x0802 0).admStart 0 5)).rlState = 2 ∧ (((on ((dev 0x0802 0).admStart 0 5))).s rootId Root.RELAY_STATUS_STATE 1).rlState ≠ 2 ∧
    [0, 1, 2, 3, 4, 5, 15].all (fun k => (dev 0x0803 k).admReady 0 5 0x0803 (cmd 0x0803 k)) ∧
    (cmd 0x0803 1).arg % 16 = 1 ∧ (cmd 0x0803 4).arg % 16 = 4 ∧ (cmd 0x0803 5).arg % 16 = 5 ∧ (cmd 0x0803 0).arg % 16 = 0 := by decide +kernel
/-- RelayMembersJoinLeaveOperateAndKeepTheirTimes: instants armed or not, a reset allowed or not, frames sent one and three times, each
state, an attempt to attach young and old, and a barrier entered at the root. -/
theorem witness_RelayMembersJoinLeaveOperateAndKeepTheirTimes_times :
    let d : Dev := rlMem [] [] (some 0) none
    let put : (RelaySt → RelaySt) → Dev := fun f => { d with relay := f d.relay }
    let op : RlOp := { kind := 1, opId := 4, seq := none, own := some (0, 5), arg := 7, payload := [], entered := true, up := false, waits := [52], a := 0, b := 0 }
    let l : RlLink := { id := 0, kind := 0, tx := 1, rx := 4, sent := [], epoch := 2, count := 1, heard := none, asked := none }
    let x : RlSent := { seq := 1, typ := 5, opSeq := 0, opId := 0, payload := [], tries := 2 }
    let root : Dev := rlMem [] [op] none none
    d.acts = true ∧ d.relay.snaps = [] ∧ (put (fun (r : RelaySt) => { r with snaps := [(7, 9)] })).relay.snaps = (7, 9) :: [] ∧
    d.relay.resets = [] ∧ (put (fun (r : RelaySt) => { r with resets := [(7, 9, 2)] })).relay.resets = (7, 9, 2) :: [] ∧
    (d.s rootId Root.RELAY_CFG_RESET2_OK 0).rlAllows 2 = false ∧ (d.s rootId Root.RELAY_CFG_RESET2_OK 1).rlAllows 2 = true ∧
    (d.s rootId Root.RELAY_CFG_RESET1_OK 1).rlAllows 1 = true ∧ d.rlLink 9 = none ∧
    (put (fun (r : RelaySt) => { r with links := [{ l with sent := [{ x with tries := 3 }] }] })).rlLink 0 = some { l with sent := [{ x with tries := 3 }] } ∧
    (put (fun (r : RelaySt) => { r with links := [{ l with sent := [x] }] })).rlLink 0 = some { l with sent := [x] } ∧ x.tries < 3 ∧
    d.rlState = 2 ∧ (d.s rootId Root.RELAY_STATUS_STATE 3).rlState = 3 ∧ (d.s rootId Root.RELAY_STATUS_STATE 1).rlState ≠ 2 ∧
    (d.s rootId Root.RELAY_STATUS_STATE 1).rlState ≠ 3 ∧ d.relay.parent = some 0 ∧ root.relay.parent = none ∧
    d.relay.join = [] ∧ (put (fun (r : RelaySt) => { r with join := [0] })).relay.join ≠ [] ∧ d.rlId ≠ 0 ∧
    1000000000 ≤ ({ d with time := 1000000000 } : Dev).time - d.relay.joinAt ∧ d.time - d.relay.joinAt < 1000000000 ∧
    d.relay.after = none ∧ (put (fun (r : RelaySt) => { r with after := some 7 })).relay.after ≠ none ∧
    d.relay.ops.find? (rlIs 1 4) = none ∧ root.relay.ops.find? (rlIs 1 4) = some op ∧ root.rlRoot = true ∧ op.entered = true ∧ op.arg ≠ 0 ∧
    (rlMem [] [op] (some 0) none).relay.ops.find? (rlIs 1 4) = some op ∧ (rlMem [] [op] (some 0) none).rlRoot = false := by decide +kernel

/-- CoresFusesFlashAndModuleBusesTakeTheirCommands: a core and another sender, cores started or not, a timer before, at and after its
time, fuse and flash operations running or not with each result, controllers idle, busy and stuck. -/
theorem witness_CoresFusesFlashAndModuleBusesTakeTheirCommands :
    let d : Dev := Dev.reset
    let at_ : Nat → Dev := fun t => ({ Dev.reset with time := 5 } : Dev).s (mcUnit 7) Mc.MC_TIMECMP_TIME t
    let fo : FuseOp := { op := 1, arg := 0, data := [], evt := true }
    let fd : FuseOp → Dev := fun o => { d with mgmt := { d.mgmt with fuse := some o } }
    let xo : XspiOp := { op := 3, addr := 0, len := 0, buf := 0, evt := false }
    let xd : XspiOp → Dev := fun o => { d with mgmt := { d.mgmt with xspi := some o } }
    let io : I2cOp := { read := true, len := 4, evt := true }
    let busy : Dev := { d with mgmt := { d.mgmt with i2c := updAt d.mgmt.i2c 3 (fun _ => some io) } }
    d.acts = true ∧ isCore 0x27E = true ∧ isCore 0x285 = true ∧ isCore 0x286 = false ∧ isCore 1 = false ∧
    (d.s (mcUnit 7) Mc.MC_STATUS_STATE 0).on (mcUnit 7) Mc.MC_STATUS_STATE = false ∧
    (d.s (mcUnit 7) Mc.MC_STATUS_STATE 1).on (mcUnit 7) Mc.MC_STATUS_STATE = true ∧
    (at_ 6).time < (at_ 6).g (mcUnit 7) Mc.MC_TIMECMP_TIME ∧ (at_ 5).g (mcUnit 7) Mc.MC_TIMECMP_TIME ≤ (at_ 5).time ∧
    (at_ 5).g (mcUnit 7) Mc.MC_TIMECMP_TIME ≠ 2 ^ 64 - 1 ∧ (at_ (2 ^ 64 - 1)).g (mcUnit 7) Mc.MC_TIMECMP_TIME = 2 ^ 64 - 1 ∧
    d.mgmt.fuse = none ∧ (fd fo).mgmt.fuse = some fo ∧ ((fd fo).s rootId Root.FUSE_CMD_OP 1).mgmt.fuse ≠ none ∧
    fuseOk d.fuse { fo with op := 2, arg := 4 } = false ∧ fuseOk d.fuse { fo with op := 2, arg := 3 } = true ∧
    d.mgmt.xspi = none ∧ (xd xo).mgmt.xspi = some xo ∧ xo.formOk = true ∧ { xo with op := 2 }.formOk = false ∧
    flashGuarded xo.range.1 xo.range.2 = false ∧ flashGuarded { xo with addr := 0x04000000 }.range.1 65536 = true ∧
    (d.s (i2cUnit 3) I2c.I2C_STATUS_BUSY 1).on (i2cUnit 3) I2c.I2C_STATUS_BUSY = true ∧ d.on (i2cUnit 3) I2c.I2C_STATUS_BUSY = false ∧
    ((d.i2cSelect 3 12).busCheck 3 12 [true]).2 = true ∧ ((d.i2cSelect 3 12).busCheck 3 12 [false, false, false, false, false, false, false, false, false, false, false]).2 = false ∧
    (d.mgmt.i2c[3]?).join = none ∧ (busy.mgmt.i2c[3]?).join = some io ∧ ((d.i2cCfg 3 0).mgmt.i2c[3]?).join = none ∧
    ((busy.i2cCfg 3 0).mgmt.i2c[3]?).join = some io := by decide +kernel

/-- ModulePinsSmbusJtagAndGpioHaveTheirEffects: levels that stand and move, packets dropped, taken by the boot ROM and by the ring, a
send busy and not, edges enabled or not and no event yet, one less than a millisecond ago and one a millisecond ago, debug allowed or not. -/
theorem witness_ModulePinsSmbusJtagAndGpioHaveTheirEffects :
    let d : Dev := Dev.reset
    let m : Dev := d.s rootId Root.MOD_STATUS_INT 0x8000
    let b : Dev := (d.s rootId Root.SMB_CFG_EN 1).s rootId Root.SMB_CFG_ADDR 0x32
    let held : Nat → Dev := fun n => { b with mgmt := { b.mgmt with smbHeld := n } }
    let g : Dev := d.s rootId Root.GPIO_EDGE_RISE 0x8000
    let hit : Nat → Bool := fun k =>
      (g.g rootId Root.GPIO_IN_LEVEL / 2 ^ k % 2 = 0 && 0x8001 / 2 ^ k % 2 = 1 && g.g rootId Root.GPIO_EDGE_RISE / 2 ^ k % 2 = 1) ||
      (g.g rootId Root.GPIO_IN_LEVEL / 2 ^ k % 2 = 1 && 0x8001 / 2 ^ k % 2 = 0 && g.g rootId Root.GPIO_EDGE_FALL / 2 ^ k % 2 = 1)
    let told : Nat → Dev := fun n => { g with time := n, mgmt := { g.mgmt with gpioAt := some 0 } }
    let dbg : Dev := { d with fuseLoaded := { d.fuseLoaded with debugEn := true } }
    d.acts = true ∧ (d.s rootId Root.MOD_STATUS_PRESENT 0xFFFF).g rootId Root.MOD_STATUS_PRESENT = 0xFFFF ∧
    d.g rootId Root.MOD_STATUS_PRESENT ≠ 0xFFFF ∧ m.g rootId Root.MOD_STATUS_INT / 2 ^ 15 % 2 = 1 ∧
    m.g rootId Root.MOD_STATUS_INT / 2 ^ 0 % 2 = 0 ∧ (d.s rootId Root.SMB_CFG_EN 0).on rootId Root.SMB_CFG_EN = false ∧
    b.on rootId Root.SMB_CFG_EN = true ∧ b.g rootId Root.SMB_CFG_ADDR = 0x32 ∧ (List.replicate 79 (0 : Byte)).length ≤ 79 ∧
    79 < (List.replicate 80 (0 : Byte)).length ∧ (b.s rootId Root.BOOT_STATUS_PHASE 7).g rootId Root.BOOT_STATUS_PHASE = 7 ∧
    b.g rootId Root.BOOT_STATUS_PHASE ≠ 7 ∧ 16 ≤ (held 16).mgmt.smbHeld ∧ (held 15).mgmt.smbHeld < 16 ∧
    isCore 0x27E = true ∧ (d.s rootId Root.SMB_STATUS_TX_BUSY 1).on rootId Root.SMB_STATUS_TX_BUSY = true ∧
    d.on rootId Root.SMB_STATUS_TX_BUSY = false ∧
    ((List.range 16).filter hit).foldl (fun (n : Nat) k => n + 2 ^ k) 0 = 0x8000 ∧
    g.mgmt.gpioAt = none ∧ (told 999999).mgmt.gpioAt = some 0 ∧ (told 999999).time < 0 + 1000000 ∧
    (told 1000000).mgmt.gpioAt = some 0 ∧ 0 + 1000000 ≤ (told 1000000).time ∧
    d.fuseLoaded.debugEn = false ∧ dbg.fuseLoaded.debugEn = true := by decide +kernel

/-- MembersAreFoundAtTheAddressesOfTheirSlots: a tree of two hitches, the unit a member of the lower one. -/
theorem witness_MembersAreFoundAtTheAddressesOfTheirSlots :
    let h : Hitch := { id := 0, kind := 1, parent := 0, slot := 0, minM := 0, maxM := 2, pool := 0, pin := false, members := [0x286], patching := false }
    let lo : Hitch := { h with id := 0x500, members := [0x100, 0x101] }
    let d0 : Dev := { Dev.reset with hitches := [{ h with members := [0x286, 0x500] }, lo] }
    let d1 : Dev := ((d0.s 0x500 Hdr.FIRST_MEMBER_OFFSET_OFFSET 0x10000).s 0x500 Hdr.MEMBER_STRIDE_STRIDE_LOG2 16).s 0x500 Hdr.MEMBER_COUNT_MAX_COUNT 2
    let d : Dev := d1.s rootId Hdr.MEMBER_STRIDE_STRIDE_LOG2 20
    d.treeOk = true ∧ d.present 0x101 = true ∧ (d.pathUp treeFuel 0x101).length ≤ treeFuel ∧ d.present 0x500 = true ∧
    d.hitch 0x500 = some lo ∧ lo.members[1]? = some 0x101 ∧ (d.pathUp treeFuel 0x500).length < treeFuel ∧
    Dev.reset.hitches.length = 1 := by decide +kernel

/-- RegistersRecordsAndBytesReadBackAndStayCanonical: the reset device with one cell, one record and one byte written. -/
theorem witness_RegistersRecordsAndBytesReadBackAndStayCanonical :
    let d : Dev := ((Dev.reset.setCell 7 0x3FFFF8 5).setRec .queue 3 [1, 2]).writeMem .core 16 [7]
    let e : Dev := { d with integ := { d.integ with core := [5] } }
    d.canon = true ∧ (0x3FFFF8 : Nat) < 2 ^ 22 ∧ (3 : Nat) < 2 ^ 56 ∧ ([1, 2] : List Word)[1]? = some 2 ∧
    (16 : Nat) + [(7 : Byte)].length ≤ 2 ^ 56 ∧ [(7 : Byte)][0]? = some 7 ∧ e.canon = true ∧ 40 / 8 ∈ e.integ.core ∧
    8 * (40 / 8) + 7 < 48 ∧ 8 + [(7 : Byte)].length ≤ 8 * (40 / 8) := by decide +kernel

end Sys2Proof.Tests
end

/-! Access types (R7): what one bit of a cell holds after software writes or reads the cell, for every list of fields. -/

namespace Sys2Proof.Machine

section AccessTypes

variable (fs : List Fld) (old m v : Word) {j : Nat}

/-- R7, bit by bit: RW bits take the written value first, W1C bits then clear, and W1S bits set last. -/
theorem getLsbD_cellWrite (hj : j < 64) :
    (cellWrite fs old m v).getLsbD j =
      (((if (accMask fs .rw).getLsbD j && m.getLsbD j then v.getLsbD j else old.getLsbD j) &&
        !((accMask fs .w1c).getLsbD j && (m.getLsbD j && v.getLsbD j))) ||
        ((accMask fs .w1s).getLsbD j && (m.getLsbD j && v.getLsbD j))) := by
  simp only [cellWrite, BitVec.getLsbD_or, BitVec.getLsbD_and, BitVec.getLsbD_not, hj, decide_true, Bool.true_and,
    Bool.and_assoc]
  cases (accMask fs .rw).getLsbD j && m.getLsbD j <;> simp

/-- A bit that lies only in RW fields takes the written bit where it is written. -/
theorem getLsbD_cellWrite_rw (hj : j < 64) (hrw : (accMask fs .rw).getLsbD j = true)
    (hc : (accMask fs .w1c).getLsbD j = false) (hs : (accMask fs .w1s).getLsbD j = false) :
    (cellWrite fs old m v).getLsbD j = if m.getLsbD j then v.getLsbD j else old.getLsbD j := by
  simp [getLsbD_cellWrite fs old m v hj, hrw, hc, hs]

/-- A bit that lies only in W1C fields clears where a 1 is written. -/
theorem getLsbD_cellWrite_w1c (hj : j < 64) (hrw : (accMask fs .rw).getLsbD j = false)
    (hc : (accMask fs .w1c).getLsbD j = true) (hs : (accMask fs .w1s).getLsbD j = false) :
    (cellWrite fs old m v).getLsbD j = (old.getLsbD j && !(m.getLsbD j && v.getLsbD j)) := by
  simp [getLsbD_cellWrite fs old m v hj, hrw, hc, hs]

/-- A bit that lies only in W1S fields sets where a 1 is written. -/
theorem getLsbD_cellWrite_w1s (hj : j < 64) (hrw : (accMask fs .rw).getLsbD j = false)
    (hc : (accMask fs .w1c).getLsbD j = false) (hs : (accMask fs .w1s).getLsbD j = true) :
    (cellWrite fs old m v).getLsbD j = (old.getLsbD j || (m.getLsbD j && v.getLsbD j)) := by
  simp [getLsbD_cellWrite fs old m v hj, hrw, hc, hs]

/-- A bit that no write reaches (RO, RC, WO or reserved) keeps what it holds. -/
theorem getLsbD_cellWrite_kept (hj : j < 64) (hrw : (accMask fs .rw).getLsbD j = false)
    (hc : (accMask fs .w1c).getLsbD j = false) (hs : (accMask fs .w1s).getLsbD j = false) :
    (cellWrite fs old m v).getLsbD j = old.getLsbD j := by
  simp [getLsbD_cellWrite fs old m v hj, hrw, hc, hs]

/-- A read shows every bit but those of WO fields. -/
theorem getLsbD_cellRead (hj : j < 64) :
    (cellRead fs old).getLsbD j = (old.getLsbD j && !(accMask fs .wo).getLsbD j) := by
  simp [cellRead, hj]

/-- A read clears exactly the bits read that lie in RC fields. -/
theorem getLsbD_cellAfterRead (hj : j < 64) :
    (cellAfterRead fs old m).getLsbD j = (old.getLsbD j && !((accMask fs .rc).getLsbD j && m.getLsbD j)) := by
  simp [cellAfterRead, hj]

end AccessTypes

/-- Settles O8: each clause is the bit lemma of its access type, and those of a write rest on `getLsbD_cellWrite`. -/
theorem registerFieldsFollowTheirAccessType : Obligations.RegisterFieldsFollowTheirAccessType := by
  intro fs old m v j hj
  exact ⟨getLsbD_cellWrite_rw fs old m v hj, getLsbD_cellWrite_w1c fs old m v hj, getLsbD_cellWrite_w1s fs old m v hj,
    getLsbD_cellWrite_kept fs old m v hj, getLsbD_cellRead fs old hj, getLsbD_cellAfterRead fs old m hj⟩

end Sys2Proof.Machine

/-! The tree (R19 to R23): where a unit stands and what the walk from the root finds at its address. -/

namespace Sys2Proof.Machine

section TreePlaces

variable {d : Dev}

/-- The hitch that `parentOf` names stands in the tree's list and has the unit among its members. -/
theorem Dev.parentOf_eq_some {u p : Nat} (h : d.parentOf u = some p) : ∃ x ∈ d.hitches, x.id = p ∧ u ∈ x.members := by
  obtain ⟨x, hx, rfl⟩ := Option.map_eq_some_iff.mp h
  exact ⟨x, List.mem_of_find?_eq_some hx, rfl, by simpa using List.find?_some hx⟩

/-- A path has its own unit first. -/
theorem Dev.pathUp_eq_cons (n u : Nat) : ∃ l, d.pathUp n u = u :: l := by
  cases n with
  | zero => exact ⟨[], rfl⟩
  | succ n =>
    simp only [Dev.pathUp]
    split
    · exact ⟨[], rfl⟩
    · split
      · exact ⟨_, rfl⟩
      · exact ⟨[], rfl⟩

/-- The path of a unit below hitch `p` is that of `p` with the unit before it. -/
theorem Dev.pathUp_succ_of_parent {u p : Nat} (n : Nat) (hu : u ≠ rootId) (hp : d.parentOf u = some p) :
    d.pathUp (n + 1) u = u :: d.pathUp n p := by
  simp [Dev.pathUp, hu, hp]

/-- A path that fits its fuel is the same with one more. -/
theorem Dev.pathUp_succ_of_length_le (n u : Nat) (h : (d.pathUp (n + 1) u).length ≤ n + 1) :
    d.pathUp n u = d.pathUp (n + 1) u := by
  induction n generalizing u with
  | zero =>
    obtain ⟨l, hl⟩ := d.pathUp_eq_cons 1 u
    simp only [hl, List.length_cons] at h ⊢
    obtain rfl : l = [] := List.eq_nil_of_length_eq_zero (by omega)
    rfl
  | succ n ih =>
    by_cases hu : u = rootId
    · simp [Dev.pathUp, hu]
    · cases hp : d.parentOf u with
      | none => simp [Dev.pathUp, hu, hp]
      | some p =>
        rw [Dev.pathUp_succ_of_parent _ hu hp] at h
        rw [Dev.pathUp_succ_of_parent _ hu hp, Dev.pathUp_succ_of_parent _ hu hp, ih p (by simpa using h)]

/-- R19: the base of a path through hitch `p` is the member's offset from the base of `p`. -/
theorem Dev.baseOf_cons_pathUp (n u p : Nat) :
    d.baseOf (u :: d.pathUp n p) = d.memberOff p ((d.members p).idxOf u) + d.baseOf (d.pathUp n p) := by
  obtain ⟨l, hl⟩ := d.pathUp_eq_cons n p
  rw [hl]
  rfl

/-- What R20 and R23 give a hitch of a tree that is as an accepted image makes it. -/
structure Dev.HitchOk (d : Dev) (p : Nat) (h : Hitch) : Prop where
  hitch : d.hitch p = some h
  patching : h.patching = false
  first : 0x10000 ≤ d.g p Hdr.FIRST_MEMBER_OFFSET_OFFSET
  stride : 16 ≤ d.g p Hdr.MEMBER_STRIDE_STRIDE_LOG2
  count : h.members.length ≤ d.g p Hdr.MEMBER_COUNT_MAX_COUNT
  nodup : h.members.Nodup
  parent : ∀ m ∈ h.members, d.parentOf m = some p
  notRoot : ∀ m ∈ h.members, m ≠ rootId
  span : ∀ m ∈ h.members, d.isHitch m = true → d.g m Hdr.FIRST_MEMBER_OFFSET_OFFSET +
    d.g m Hdr.MEMBER_COUNT_MAX_COUNT * 2 ^ d.g m Hdr.MEMBER_STRIDE_STRIDE_LOG2 ≤ 2 ^ d.g p Hdr.MEMBER_STRIDE_STRIDE_LOG2

/-- Every hitch of a tree that meets `treeOk` is `HitchOk`. -/
theorem Dev.hitchOk_of_mem (ht : d.treeOk = true) {h : Hitch} (hm : h ∈ d.hitches) : d.HitchOk h.id h := by
  have hh := List.all_eq_true.mp ht h hm
  simp only [Bool.and_eq_true, decide_eq_true_eq, Bool.not_eq_true', List.all_eq_true, Bool.or_eq_true] at hh
  obtain ⟨⟨⟨⟨⟨⟨hitch, patching⟩, first⟩, stride⟩, count⟩, nodup⟩, mem⟩ := hh
  refine ⟨hitch, patching, first, stride, count, nodup, fun m hm => ?_, fun m hm => ?_, fun m hm hi => ?_⟩ <;>
    obtain ⟨⟨parent, notRoot⟩, span⟩ := mem m hm
  · exact parent
  · exact notRoot
  · exact span.resolve_left (by simp [hi])

/-- The hitch that `hitch` answers is `HitchOk`. -/
theorem Dev.hitchOk_of_hitch (ht : d.treeOk = true) {u : Nat} {h : Hitch} (hu : d.hitch u = some h) : d.HitchOk u h := by
  have hid : h.id = u := by simpa using List.find?_some hu
  exact hid ▸ d.hitchOk_of_mem ht (List.mem_of_find?_eq_some hu)

/-- A unit with a parent has one that is `HitchOk` and lists it. -/
theorem Dev.hitchOk_of_parent (ht : d.treeOk = true) {u p : Nat} (hp : d.parentOf u = some p) :
    ∃ h, d.HitchOk p h ∧ u ∈ h.members := by
  obtain ⟨h, hm, rfl, hu⟩ := Dev.parentOf_eq_some hp
  exact ⟨h, d.hitchOk_of_mem ht hm, hu⟩

/-- Offset `r` from the base of `u` lies in the slot that `u` stands in; the root has no slot around it. -/
def Dev.inSlot (d : Dev) (u r : Nat) : Prop :=
  u = rootId ∨ ∃ p, d.parentOf u = some p ∧ r < 2 ^ d.g p Hdr.MEMBER_STRIDE_STRIDE_LOG2

/-- The 64 KiB block of a unit that has a parent lies in its slot. -/
theorem Dev.inSlot_of_block (ht : d.treeOk = true) {u p r : Nat} (hp : d.parentOf u = some p) (hr : r < 0x10000) :
    d.inSlot u r := by
  obtain ⟨h, hok, -⟩ := d.hitchOk_of_parent ht hp
  have : 2 ^ 16 ≤ 2 ^ d.g p Hdr.MEMBER_STRIDE_STRIDE_LOG2 := Nat.pow_le_pow_right (by decide) hok.stride
  exact Or.inr ⟨p, hp, by omega⟩

/-- R19: what member `i` of hitch `p` finds at offset `r` of its slot is what `p` finds at the member's offset plus `r`. -/
theorem Dev.place_member {p i m r : Nat} {h : Hitch} (n : Nat) (hok : d.HitchOk p h) (hi : h.members[i]? = some m)
    (hr : r < 2 ^ d.g p Hdr.MEMBER_STRIDE_STRIDE_LOG2) : d.place (n + 1) p (d.memberOff p i + r) = d.place n m r := by
  have hlen : i < h.members.length := (List.getElem?_eq_some_iff.mp hi).1
  have hfirst := hok.first
  have hcount := hok.count
  have hoff : d.memberOff p i + r - d.g p Hdr.FIRST_MEMBER_OFFSET_OFFSET =
      r + i * 2 ^ d.g p Hdr.MEMBER_STRIDE_STRIDE_LOG2 := by
    unfold Dev.memberOff; omega
  have hge : d.g p Hdr.FIRST_MEMBER_OFFSET_OFFSET ≤ d.memberOff p i + r := by unfold Dev.memberOff; omega
  have hdiv : (r + i * 2 ^ d.g p Hdr.MEMBER_STRIDE_STRIDE_LOG2) / 2 ^ d.g p Hdr.MEMBER_STRIDE_STRIDE_LOG2 = i := by
    rw [Nat.add_mul_div_right _ _ (Nat.two_pow_pos _), Nat.div_eq_of_lt hr, Nat.zero_add]
  have hmod : (r + i * 2 ^ d.g p Hdr.MEMBER_STRIDE_STRIDE_LOG2) % 2 ^ d.g p Hdr.MEMBER_STRIDE_STRIDE_LOG2 = r := by
    rw [Nat.add_mul_mod_self_right, Nat.mod_eq_of_lt hr]
  have hblock : ¬ d.memberOff p i + r < 0x10000 := by omega
  have hspan : ¬ d.memberOff p i + r < d.g p Hdr.FIRST_MEMBER_OFFSET_OFFSET := by omega
  have hmax : i < d.g p Hdr.MEMBER_COUNT_MAX_COUNT := by omega
  simp only [Dev.place, if_neg hblock, hok.hitch, if_neg hspan, hoff, hdiv, if_pos hmax, hok.patching, hi, hmod,
    Bool.false_eq_true, if_false]

/-- R20: a member slot of a hitch lies within the slot that the hitch stands in. -/
theorem Dev.inSlot_memberOff (ht : d.treeOk = true) {p i m r : Nat} {h : Hitch} (hok : d.HitchOk p h)
    (hi : h.members[i]? = some m) (hr : r < 2 ^ d.g p Hdr.MEMBER_STRIDE_STRIDE_LOG2) {q : Nat} (hq : d.parentOf p = some q) :
    d.inSlot p (d.memberOff p i + r) := by
  obtain ⟨x, hx, hp⟩ := d.hitchOk_of_parent ht hq
  have hspan := hx.span p hp (by simp [Dev.isHitch, hok.hitch])
  have hcount := hok.count
  have hlen : i < h.members.length := (List.getElem?_eq_some_iff.mp hi).1
  have hslots : (i + 1) * 2 ^ d.g p Hdr.MEMBER_STRIDE_STRIDE_LOG2 ≤
      d.g p Hdr.MEMBER_COUNT_MAX_COUNT * 2 ^ d.g p Hdr.MEMBER_STRIDE_STRIDE_LOG2 := Nat.mul_le_mul_right _ (by omega)
  rw [Nat.succ_mul] at hslots
  exact Or.inr ⟨q, hq, by unfold Dev.memberOff; omega⟩

/-- A unit whose path ends at the root is the root or has a parent. -/
theorem Dev.root_or_parent {n u : Nat} (h : (d.pathUp n u).getLast? = some rootId) :
    u = rootId ∨ ∃ p, d.parentOf u = some p := by
  by_cases hu : u = rootId
  · exact .inl hu
  · cases n with
    | zero => exact .inl (by simpa [Dev.pathUp] using h)
    | succ n =>
      cases hp : d.parentOf u with
      | none => simp [Dev.pathUp, hu, hp] at h
      | some p => exact .inr ⟨p, rfl⟩

/-- From the root, an address in the slot of a unit of the tree is found as from the unit's own base: by induction along the
path to the root, one slot at each level. -/
theorem Dev.place_root_baseOf (ht : d.treeOk = true) {k u n r : Nat} (hlast : (d.pathUp k u).getLast? = some rootId)
    (hr : d.inSlot u r) : d.place (n + (d.pathUp k u).length) rootId (d.baseOf (d.pathUp k u) + r) = d.place (n + 1) u r := by
  induction k generalizing u n r with
  | zero =>
    obtain rfl : u = rootId := by simpa [Dev.pathUp] using hlast
    simp [Dev.pathUp, Dev.baseOf]
  | succ k ih =>
    by_cases hu : u = rootId
    · subst hu; simp [Dev.pathUp, Dev.baseOf]
    · obtain ⟨p, hp, hrp⟩ := hr.resolve_left hu
      obtain ⟨h, hok, hmem⟩ := d.hitchOk_of_parent ht hp
      rw [Dev.pathUp_succ_of_parent k hu hp] at hlast ⊢
      obtain ⟨l, hl⟩ := d.pathUp_eq_cons k p
      have hlast' : (d.pathUp k p).getLast? = some rootId := by simpa [hl] using hlast
      have hi : h.members[(d.members p).idxOf u]? = some u := by
        simpa [Dev.members, hok.hitch] using List.getElem?_idxOf hmem
      have hslot : d.inSlot p (d.memberOff p ((d.members p).idxOf u) + r) := by
        rcases Dev.root_or_parent hlast' with hroot | ⟨q, hq⟩
        · exact .inl hroot
        · exact Dev.inSlot_memberOff ht hok hi hrp hq
      calc d.place (n + (u :: d.pathUp k p).length) rootId (d.baseOf (u :: d.pathUp k p) + r)
          = d.place (n + 1 + (d.pathUp k p).length) rootId
              (d.baseOf (d.pathUp k p) + (d.memberOff p ((d.members p).idxOf u) + r)) := by
            rw [Dev.baseOf_cons_pathUp, List.length_cons]; congr 1 <;> omega
        _ = d.place (n + 1 + 1) p (d.memberOff p ((d.members p).idxOf u) + r) := ih hlast' hslot
        _ = d.place (n + 1) u r := Dev.place_member (n + 1) hok hi hrp

/-- R19: each address of the block of a unit that stands in the tree, at most `treeFuel` levels deep, is found there. -/
theorem Dev.locate_addrOf (ht : d.treeOk = true) {u r : Nat} (hp : d.present u = true)
    (hdeep : (d.pathUp treeFuel u).length ≤ treeFuel) (hr : r < 0x10000) : d.locate (d.addrOf u + r) = .block u r := by
  have hlast : (d.pathUp treeFuel u).getLast? = some rootId := of_decide_eq_true hp
  have hslot : d.inSlot u r := by
    rcases Dev.root_or_parent hlast with hroot | ⟨p, hq⟩
    · exact .inl hroot
    · exact Dev.inSlot_of_block ht hq hr
  have h := Dev.place_root_baseOf ht (n := treeFuel - (d.pathUp treeFuel u).length) hlast hslot
  rw [Nat.sub_add_cancel hdeep] at h
  rw [Dev.locate, Dev.addrOf, h, Dev.place, if_pos hr]

/-- The path of a member is that of its hitch, one longer. -/
theorem Dev.pathUp_member (ht : d.treeOk = true) {u m : Nat} {h : Hitch} (hu : d.hitch u = some h) (hm : m ∈ h.members)
    (hdeep : (d.pathUp treeFuel u).length < treeFuel) : d.pathUp treeFuel m = m :: d.pathUp treeFuel u := by
  have hok := Dev.hitchOk_of_hitch ht hu
  calc d.pathUp treeFuel m = m :: d.pathUp 47 u := Dev.pathUp_succ_of_parent 47 (hok.notRoot m hm) (hok.parent m hm)
    _ = m :: d.pathUp treeFuel u := by rw [Dev.pathUp_succ_of_length_le 47 u (Nat.le_of_lt hdeep)]; rfl

/-- R19: member `i` of a hitch sits at the hitch's address plus OFFSET plus `i` strides. -/
theorem Dev.addrOf_member (ht : d.treeOk = true) {u i m : Nat} {h : Hitch} (hu : d.hitch u = some h)
    (hi : h.members[i]? = some m) (hdeep : (d.pathUp treeFuel u).length < treeFuel) :
    d.addrOf m = d.addrOf u + d.memberOff u i := by
  obtain ⟨hlen, hget⟩ := List.getElem?_eq_some_iff.mp hi
  have hidx : (d.members u).idxOf m = i := by
    simpa [Dev.members, hu, hget] using (Dev.hitchOk_of_hitch ht hu).nodup.idxOf_getElem i hlen
  rw [Dev.addrOf, Dev.pathUp_member ht hu (List.mem_of_getElem? hi) hdeep, Dev.baseOf_cons_pathUp, hidx, Nat.add_comm, Dev.addrOf]

end TreePlaces

/-- Settles O58: the address of a unit adds up the member offsets on its path, and `place` takes them off again. -/
theorem membersAreFoundAtTheAddressesOfTheirSlots : Obligations.MembersAreFoundAtTheAddressesOfTheirSlots := by
  intro d u ht hp hdeep
  refine ⟨fun r hr => Dev.locate_addrOf ht hp hdeep hr, fun h i m r hu hi hlt => ?_⟩
  have haddr : d.addrOf m = d.addrOf u + d.g u Hdr.FIRST_MEMBER_OFFSET_OFFSET +
      i * 2 ^ d.g u Hdr.MEMBER_STRIDE_STRIDE_LOG2 := by
    rw [Dev.addrOf_member ht hu hi hlt, Dev.memberOff, Nat.add_assoc]
  have hpath := Dev.pathUp_member ht hu (List.mem_of_getElem? hi) hlt
  have hpres : d.present m = true := by
    obtain ⟨l, hl⟩ := d.pathUp_eq_cons treeFuel u
    simpa [Dev.present, hpath, hl] using hp
  exact ⟨haddr, fun hr => haddr ▸ Dev.locate_addrOf ht hpres (by rw [hpath]; exact hlt) hr⟩

end Sys2Proof.Machine

/-! Sparse stores as registers, records and memories: what reads back, what stays, and when two stores are equal. -/

namespace Sys2Proof.Machine

section CanonicalStores

variable {α : Type}

/-- A key that no key of the store reaches down to reads its unlisted value. -/
theorem stGet_of_stAbove (dflt : Nat → α) {m : List (Nat × α)} {b j : Nat} (h : stAbove b m = true) (hj : j ≤ b) :
    stGet dflt m j = dflt j := by
  refine stGet_no_key dflt m j fun e he heq => ?_
  have := of_decide_eq_true (List.all_eq_true.mp h e he)
  omega

variable [DecidableEq α]

/-- What the canonical form says of a store with a first entry. -/
theorem stWf_cons (dflt : Nat → α) (k : Nat) (v : α) (m : List (Nat × α)) :
    stWf dflt ((k, v) :: m) = true ↔ stAbove k m = true ∧ v ≠ dflt k ∧ stWf dflt m = true := by
  simp only [stWf, Bool.and_eq_true, decide_eq_true_eq, and_assoc]

/-- The first key of a canonical store is the least key that does not read its unlisted value. -/
theorem stWf_head_le (dflt : Nat → α) {k k' : Nat} {v v' : α} {m m' : List (Nat × α)} (hw : stWf dflt ((k, v) :: m) = true)
    (hw' : stWf dflt ((k', v') :: m') = true)
    (h : ∀ j, stGet dflt ((k, v) :: m) j = stGet dflt ((k', v') :: m') j) : k' ≤ k := by
  obtain ⟨-, hv, -⟩ := (stWf_cons dflt k v m).mp hw
  obtain ⟨ha', -, -⟩ := (stWf_cons dflt k' v' m').mp hw'
  by_contra hlt
  have hk : stGet dflt ((k', v') :: m') k = dflt k := by
    simp only [stGet, if_neg (show k ≠ k' by omega)]
    exact stGet_of_stAbove dflt ha' (by omega)
  exact hv (by simpa [stGet] using (h k).trans hk)

/-- Canonical stores that read alike everywhere are equal. -/
theorem stWf_ext (dflt : Nat → α) {m m' : List (Nat × α)} (hw : stWf dflt m = true) (hw' : stWf dflt m' = true)
    (h : ∀ j, stGet dflt m j = stGet dflt m' j) : m = m' := by
  induction m generalizing m' with
  | nil =>
    cases m' with
    | nil => rfl
    | cons e' m' =>
      obtain ⟨-, hv, -⟩ := (stWf_cons dflt e'.1 e'.2 m').mp hw'
      exact absurd (by simpa [stGet] using (h e'.1).symm) hv
  | cons e m ih =>
    obtain ⟨k, v⟩ := e
    cases m' with
    | nil =>
      obtain ⟨-, hv, -⟩ := (stWf_cons dflt k v m).mp hw
      exact absurd (by simpa [stGet] using h k) hv
    | cons e' m' =>
      obtain ⟨k', v'⟩ := e'
      obtain rfl : k = k' :=
        Nat.le_antisymm (stWf_head_le dflt hw' hw fun j => (h j).symm) (stWf_head_le dflt hw hw' h)
      obtain ⟨ha, -, hm⟩ := (stWf_cons dflt k v m).mp hw
      obtain ⟨ha', -, hm'⟩ := (stWf_cons dflt k v' m').mp hw'
      obtain rfl : v = v' := by simpa [stGet] using h k
      have htail : ∀ j, stGet dflt m j = stGet dflt m' j := fun j => by
        by_cases hj : j = k
        · rw [hj, stGet_of_stAbove dflt ha le_rfl, stGet_of_stAbove dflt ha' le_rfl]
        · simpa [stGet, hj] using h j
      rw [ih hm hm' htail]

/-- A value of a list write reads back at its key. -/
theorem stGet_stPutList_add (dflt : Nat → α) {vs : List α} (m : List (Nat × α)) (k : Nat) {n : Nat} {v : α}
    (h : vs[n]? = some v) : stGet dflt (stPutList dflt m k vs) (k + n) = v := by
  simp [stGet_stPutList, h]

/-- A key outside those of a list write reads as before. -/
theorem stGet_stPutList_outside (dflt : Nat → α) (vs : List α) (m : List (Nat × α)) {k j : Nat}
    (h : j < k ∨ k + vs.length ≤ j) : stGet dflt (stPutList dflt m k vs) j = stGet dflt m j := by
  rw [stGet_stPutList]
  split
  · rw [List.getElem?_eq_none (by omega), Option.getD_none]
  · rfl

end CanonicalStores

section Records

variable (d : Dev)

/-- The words of a record stand at consecutive keys. -/
theorem okey_add (c i w : Nat) : okey c i 0 + w = okey c i w := by unfold okey; omega

/-- The record whose word a key holds. -/
theorem okey_div (c i : Nat) {w : Nat} (hw : w < 256) : okey c i w / 2 ^ 8 = i + 2 ^ 56 * c := by unfold okey; omega

/-- A word of a record that is written reads back. -/
theorem Dev.ow_setRec_same (c : Cls) (i : Nat) {ws : List Word} {w : Nat} {v : Word} (h : ws[w]? = some v) :
    (d.setRec c i ws).ow c.code i w = v := by
  rw [Dev.ow, ← okey_add]
  exact stGet_stPutList_add ctxReset d.objs _ h

/-- A word of another record, or beyond the words written, reads as before. -/
theorem Dev.ow_setRec_other (c : Cls) {i i' c' w : Nat} {ws : List Word} (hi : i < 2 ^ 56) (hws : ws.length ≤ 256)
    (hi' : i' < 2 ^ 56) (hw : w < 256) (h : c' ≠ c.code ∨ i' ≠ i ∨ ws.length ≤ w) :
    (d.setRec c i ws).ow c' i' w = d.ow c' i' w := by
  refine stGet_stPutList_outside ctxReset ws d.objs ?_
  unfold okey
  omega

/-- A word of a record that was cleared reads as unlisted. -/
theorem Dev.ow_clearRec_same (c : Cls) (i : Nat) {w : Nat} (hw : w < 256) :
    (d.clearRec c i).ow c.code i w = ctxReset (okey c.code i w) :=
  stGet_stDrop_in ctxReset (fun k => decide (k / 2 ^ 8 = okey c.code i 0 / 2 ^ 8)) d.objs _
    (by rw [okey_div _ _ hw, okey_div _ _ (by decide)]; exact decide_eq_true rfl)

/-- A word of another record reads as before. -/
theorem Dev.ow_clearRec_other (c : Cls) {i i' c' w : Nat} (hi : i < 2 ^ 56) (hi' : i' < 2 ^ 56) (hw : w < 256)
    (h : c' ≠ c.code ∨ i' ≠ i) : (d.clearRec c i).ow c' i' w = d.ow c' i' w := by
  refine stGet_stDrop_out ctxReset (fun k => decide (k / 2 ^ 8 = okey c.code i 0 / 2 ^ 8)) d.objs _ (decide_eq_false ?_)
  rw [okey_div _ _ hw, okey_div _ _ (by decide)]
  omega

end Records

section Bytes

variable (d : Dev)

/-- The memories have different numbers. -/
theorem Space.code_inj {sp sp' : Space} (h : sp.code = sp'.code) : sp = sp' := by
  revert h; cases sp <;> cases sp' <;> decide

/-- The bytes of a memory stand at consecutive keys. -/
theorem bkey_add (sp : Space) (a k : Nat) : bkey sp a + k = bkey sp (a + k) := by unfold bkey; omega

/-- Byte `x` of a memory lies in a word of core memory with an uncorrectable error. -/
def Dev.badByte (d : Dev) (sp : Space) (x : Nat) : Bool := decide (sp = .core) && d.integ.core.contains (x / 8)

/-- A byte reads as all ones in a word with an uncorrectable error, else as the store has it. -/
theorem Dev.byte_eq (sp : Space) (x : Nat) :
    d.byte sp x = if d.badByte sp x then 0xFF else stGet byteReset d.bytes (bkey sp x) := by
  simp only [Dev.byte, Dev.badByte, Bool.and_eq_true, decide_eq_true_eq]

/-- Writing bytes stores them in the byte store. -/
theorem Dev.writeMem_bytes (sp : Space) (a : Nat) (bs : List Byte) :
    (d.writeMem sp a bs).bytes = stPutList byteReset d.bytes (bkey sp a) bs := by
  unfold Dev.writeMem; split <;> rfl

/-- After a write of bytes a word of core memory has an uncorrectable error if it had one and the write does not touch it
(assumption 85). -/
theorem Dev.badByte_writeMem (sp sp' : Space) (a x : Nat) (bs : List Byte) :
    (d.writeMem sp a bs).badByte sp' x = true ↔ d.badByte sp' x = true ∧
      (sp' = .core → sp = .core → 8 * (x / 8) + 7 < a ∨ a + bs.length ≤ 8 * (x / 8)) := by
  unfold Dev.badByte Dev.writeMem
  by_cases hsp : sp = .core
  · simp +contextual [hsp, and_assoc]
  · simp [hsp]

/-- A byte that is written reads back: the write ends an error in its word. -/
theorem Dev.byte_writeMem_same (sp : Space) (a : Nat) {bs : List Byte} {k : Nat} {b : Byte} (h : bs[k]? = some b) :
    (d.writeMem sp a bs).byte sp (a + k) = b := by
  have hk : k < bs.length := (List.getElem?_eq_some_iff.mp h).1
  have hgood : (d.writeMem sp a bs).badByte sp (a + k) ≠ true := fun hbad => by
    obtain ⟨hb, hout⟩ := (d.badByte_writeMem sp sp a (a + k) bs).mp hbad
    obtain ⟨hcore, -⟩ := (Bool.and_eq_true_iff).mp hb
    have := hout (of_decide_eq_true hcore) (of_decide_eq_true hcore)
    omega
  rw [Dev.byte_eq, if_neg hgood, Dev.writeMem_bytes, ← bkey_add]
  exact stGet_stPutList_add byteReset d.bytes _ h

/-- Another byte reads as before, unless the write touches its word of core memory and ends an error there. -/
theorem Dev.byte_writeMem_other {sp sp' : Space} {a x : Nat} {bs : List Byte} (ha : a + bs.length ≤ 2 ^ 56) (hx : x < 2 ^ 56)
    (h : sp' ≠ sp ∨ x < a ∨ a + bs.length ≤ x)
    (hbad : sp' = .core → sp = .core → x / 8 ∈ d.integ.core → 8 * (x / 8) + 7 < a ∨ a + bs.length ≤ 8 * (x / 8)) :
    (d.writeMem sp a bs).byte sp' x = d.byte sp' x := by
  have hcode : sp'.code ≠ sp.code ∨ x < a ∨ a + bs.length ≤ x := h.imp_left fun hne heq => hne (Space.code_inj heq)
  have hstore : stGet byteReset (d.writeMem sp a bs).bytes (bkey sp' x) = stGet byteReset d.bytes (bkey sp' x) := by
    rw [Dev.writeMem_bytes]
    refine stGet_stPutList_outside byteReset bs d.bytes ?_
    unfold bkey
    omega
  have herr : (d.writeMem sp a bs).badByte sp' x = d.badByte sp' x := by
    rw [Bool.eq_iff_iff, Dev.badByte_writeMem]
    refine and_iff_left_of_imp fun hb hc' hc => hbad hc' hc ?_
    simpa [Dev.badByte, hc'] using hb
  rw [Dev.byte_eq, Dev.byte_eq, herr, hstore]

/-- Writing bytes changes the byte store and the errors of core memory only. -/
theorem Dev.writeMem_only (sp : Space) (a : Nat) (bs : List Byte) :
    { d.writeMem sp a bs with bytes := d.bytes, integ := d.integ } = d := by
  unfold Dev.writeMem; split <;> rfl

end Bytes

/-- The three stores of a device in canonical form. -/
theorem Dev.canon_iff (d : Dev) :
    d.canon = true ↔ stWf regReset d.regs = true ∧ stWf ctxReset d.objs = true ∧ stWf byteReset d.bytes = true := by
  simp only [Dev.canon, Bool.and_eq_true, and_assoc]

/-- Settles O59: reading laws of the sparse store at the keys of cells, record words and bytes, and its extensionality. -/
theorem registersRecordsAndBytesReadBackAndStayCanonical :
    Obligations.RegistersRecordsAndBytesReadBackAndStayCanonical := by
  refine ⟨fun d u off v hc => ?_, fun d c i ws hc hi hws => ?_, fun d sp a bs hc ha => ?_, fun d e hd he => ?_⟩
  · refine ⟨d.canon_setCell u off v hc, d.cell_setCell_same u off v, fun u' off' ho ho' hne => ?_, Dev.regs_back d _⟩
    have hkey : rkey u' off' ≠ rkey u off := fun heq => by
      obtain ⟨hu, hoff⟩ := (rkey_inj ho' ho).mp heq
      exact hne.elim (· hu) (· hoff)
    rw [Dev.cell_setCell, if_neg hkey]
  · exact ⟨d.canon_setRec c i ws hc, d.canon_clearRec c i hc, fun w v h => d.ow_setRec_same c i h,
      fun c' i' w hi' hw h => d.ow_setRec_other c hi hws hi' hw h, fun w hw => d.ow_clearRec_same c i hw,
      fun c' i' w hi' hw h => d.ow_clearRec_other c hi hi' hw h, rfl, rfl⟩
  · exact ⟨d.canon_writeMem sp a bs hc, fun k b h => d.byte_writeMem_same sp a h,
      fun sp' x hx h hbad => d.byte_writeMem_other ha hx h hbad, d.writeMem_only sp a bs⟩
  · obtain ⟨hdr, hdo, hdb⟩ := d.canon_iff.mp hd
    obtain ⟨her, heo, heb⟩ := e.canon_iff.mp he
    exact ⟨stWf_ext regReset hdr her, stWf_ext ctxReset hdo heo, stWf_ext byteReset hdb heb⟩

end Sys2Proof.Machine

/-! The unit header (R17, R28, R29): errors, the event source and the doorbell of a tile. -/

namespace Sys2Proof.Machine

section Headers

variable (d : Dev) (u : Nat)

/-- A unit that is no hitch has no unit below it. -/
theorem Dev.subtree_of_tile (h : d.isHitch u = false) : d.subtree u = [u] := by
  have hm : d.members u = [] := by
    simp only [Dev.isHitch, Option.isSome_eq_false_iff, Option.isNone_iff_eq_none] at h
    simp [Dev.members, h]
  simp [Dev.subtree, treeFuel, Dev.below, hm]

/-- R29: ringing a tile alone. -/
theorem doorbell_of_tile (hp : d.inPatching u = false) (h : d.isHitch u = false) :
    doorbell u d = ((d.s u Hdr.UNIT_STATUS_DB_PENDING 1).wakeUnit u).takeBell u := by
  simp [doorbell, hp, d.subtree_of_tile u h, Dev.ringUnit, h]

/-- R28: bits [12:0] of a value written to EVENT_SOURCE are in place. -/
def Dev.storeEventSource (d : Dev) (u : Nat) (v : Word) : Dev :=
  ((d.s u Hdr.EVENT_SOURCE_TARGET_EQ (getBits v 0 10)).s u Hdr.EVENT_SOURCE_TARGET_OWNER (getBits v 10 2)).s u
    Hdr.EVENT_SOURCE_ENABLE (getBits v 12 1)

/-- R412: a value written to EVENT_SOURCE of `u` names one of queues 1,016 to 1,023 of the management cores. -/
def namesBankQueue (u : Nat) (v : Word) : Prop :=
  1016 ≤ getBits v 0 10 ∧ (getBits v 10 2 = 2 ∨ (getBits v 10 2 = 3 ∧ u = rootId))

variable {d u}

theorem Dev.storeEventSource_targetEq (v : Word) : (d.storeEventSource u v).g u Hdr.EVENT_SOURCE_TARGET_EQ = getBits v 0 10 := by
  rw [Dev.storeEventSource, Dev.g_s_field _ _ _ _ _ (by decide), Dev.g_s_field _ _ _ _ _ (by decide),
    Dev.g_s_same _ _ _ _ (by decide)]
  exact Nat.mod_eq_of_lt (getBits_lt v 0 10)

theorem Dev.storeEventSource_owner (v : Word) : (d.storeEventSource u v).g u Hdr.EVENT_SOURCE_TARGET_OWNER = getBits v 10 2 := by
  rw [Dev.storeEventSource, Dev.g_s_field _ _ _ _ _ (by decide), Dev.g_s_same _ _ _ _ (by decide)]
  exact Nat.mod_eq_of_lt (getBits_lt v 10 2)

theorem Dev.storeEventSource_enable (v : Word) : (d.storeEventSource u v).g u Hdr.EVENT_SOURCE_ENABLE = getBits v 12 1 := by
  rw [Dev.storeEventSource, Dev.g_s_same _ _ _ _ (by decide)]
  exact Nat.mod_eq_of_lt (getBits_lt v 12 1)

/-- The three fields share a cell. -/
theorem OnlyCells.storeEventSource (v : Word) : OnlyCells d (d.storeEventSource u v) [rkey u Hdr.EVENT_SOURCE_ENABLE.off] :=
  ((OnlyCells.s d u Hdr.EVENT_SOURCE_TARGET_EQ _).then_s u Hdr.EVENT_SOURCE_TARGET_OWNER _ (List.mem_singleton.mpr rfl)).then_s
    u Hdr.EVENT_SOURCE_ENABLE _ (List.mem_singleton.mpr rfl)

/-- R28: where ENABLE does not rise from 0 to 1 a write of EVENT_SOURCE stores its fields and presents nothing. -/
theorem eventSourceWrite_eq_store {v : Word} (hp : d.inPatching u = false) (hq : ¬ namesBankQueue u v)
    (he : d.on u Hdr.EVENT_SOURCE_ENABLE = true ∨ getBits v 12 1 = 0) : eventSourceWrite u v d = d.storeEventSource u v := by
  have hrise : (!d.on u Hdr.EVENT_SOURCE_ENABLE && (d.storeEventSource u v).on u Hdr.EVENT_SOURCE_ENABLE) = false := by
    rcases he with he | he
    · simp [he]
    · simp [Dev.on, Dev.storeEventSource_enable, he]
  unfold namesBankQueue at hq
  unfold Dev.storeEventSource at hrise ⊢
  simp only [eventSourceWrite, hp, if_neg hq, hrise, Bool.false_eq_true, if_false]

/-- R412: a value that names such a queue is refused. -/
theorem eventSourceWrite_of_bankQueue {v : Word} (hp : d.inPatching u = false) (hq : namesBankQueue u v) :
    eventSourceWrite u v d = d.latchErr u Sc.malformed := by
  unfold namesBankQueue at hq
  simp only [eventSourceWrite, hp, if_pos hq, Bool.false_eq_true, if_false]

/-- R17: ERR and ERR_CODE clear. -/
theorem errClear_eq (hp : d.inPatching u = false) :
    errClear u d = (d.s u Hdr.UNIT_STATUS_ERR 0).s u Hdr.UNIT_STATUS_ERR_CODE 0 := by
  simp [errClear, hp]

end Headers

/-- Settles O5: each clause is the equation of its command, read with the laws of fields. -/
theorem unitErrorAndDoorbellWrites : Obligations.UnitErrorAndDoorbellWrites := by
  intro s u hacts hp
  refine ⟨⟨_, s.run_acts (errClear u) hacts, ?_⟩, fun v hq he => ⟨_, s.run_acts (eventSourceWrite u v) hacts, ?_⟩,
    fun v hq => ?_, fun ht => ?_⟩
  · rw [errClear_eq hp]
    refine ⟨?_, ?_, (OnlyCells.s _ _ _ _).then_s u Hdr.UNIT_STATUS_ERR_CODE 0 (List.mem_singleton.mpr rfl)⟩
    · rw [Dev.g_s_field _ _ _ _ _ (by decide), Dev.g_s_same _ _ _ _ (by decide), Nat.zero_mod]
    · rw [Dev.g_s_same _ _ _ _ (by decide), Nat.zero_mod]
  · rw [eventSourceWrite_eq_store hp hq he]
    exact ⟨Dev.storeEventSource_targetEq v, Dev.storeEventSource_owner v, Dev.storeEventSource_enable v,
      OnlyCells.storeEventSource v⟩
  · exact eventSourceWrite_of_bankQueue hp hq ▸ s.run_acts (eventSourceWrite u v) hacts
  · exact doorbell_of_tile s.dev u hp ht ▸ s.run_acts (doorbell u) hacts

end Sys2Proof.Machine

/-! The unit header (R17, R26, R27): ENABLE and the drain. -/

namespace Sys2Proof.Machine

section Draining

variable {d : Dev} {u : Nat}

/-- R26: one unit below a changed ENABLE reads ACTIVE or READY by its effective enable. -/
def Dev.settleUnit (d : Dev) (m : Nat) : Dev :=
  if ungoverned m then d
  else if d.ust m = stActive && !d.effEnable m then d.setUst m stReady
  else if d.ust m = stReady && d.effEnable m then d.setUst m stActive
  else d

/-- R26, R158: settling a subtree settles its units one by one, and then watches the rein's window. -/
theorem Dev.settleEnable_eq (d : Dev) (v : Nat) :
    d.settleEnable v = ((d.subtree v).foldl Dev.settleUnit d).watchWindow := rfl

/-- The rein's window is no register. -/
theorem Dev.g_watchWindow (d : Dev) (v : Nat) (f : Fld) : d.watchWindow.g v f = d.g v f := rfl

/-- Settling changes a unit that reads ACTIVE or READY only. -/
theorem Dev.settleUnit_eq_or (d : Dev) (m : Nat) :
    d.settleUnit m = d ∨ (d.ust m = stActive ∨ d.ust m = stReady) ∧ ∃ st, d.settleUnit m = d.setUst m st := by
  unfold Dev.settleUnit
  split
  · exact .inl rfl
  · split
    · rename_i h
      exact .inr ⟨.inl (by simpa using (Bool.and_eq_true_iff.mp h).1), _, rfl⟩
    · split
      · rename_i h
        exact .inr ⟨.inr (by simpa using (Bool.and_eq_true_iff.mp h).1), _, rfl⟩
      · exact .inl rfl

/-- Settling any unit leaves the status cell of a draining one as it is. -/
theorem Dev.cell_settleUnit_of_draining (hd : d.ust u = stDraining) (m : Nat) :
    (d.settleUnit m).cell u Hdr.UNIT_STATUS_STATE.off = d.cell u Hdr.UNIT_STATUS_STATE.off := by
  rcases d.settleUnit_eq_or m with h | ⟨hst, st, h⟩
  · rw [h]
  · have hne : u ≠ m := by
      rintro rfl
      rw [hd] at hst
      exact absurd hst (by decide)
    rw [h, Dev.setUst, Dev.cell_s, if_neg]
    exact fun heq => hne ((rkey_inj (by decide) (by decide)).mp heq).1

/-- The state of a unit is a field of its status cell. -/
theorem Dev.ust_congr {d e : Dev} (h : e.cell u Hdr.UNIT_STATUS_STATE.off = d.cell u Hdr.UNIT_STATUS_STATE.off) :
    e.ust u = d.ust u := by
  simp only [Dev.ust, Dev.g, h]

/-- Settling any units leaves the status cell of a draining one as it is. -/
theorem Dev.cell_settleUnits_of_draining (ms : List Nat) (hd : d.ust u = stDraining) :
    (ms.foldl Dev.settleUnit d).cell u Hdr.UNIT_STATUS_STATE.off = d.cell u Hdr.UNIT_STATUS_STATE.off := by
  induction ms generalizing d with
  | nil => rfl
  | cons m ms ih =>
    have hm := Dev.cell_settleUnit_of_draining hd m
    exact (ih ((Dev.ust_congr hm).trans hd)).trans hm

/-- A draining unit keeps what its status cell holds when a subtree settles. -/
theorem Dev.g_settleEnable_of_draining (v : Nat) (hd : d.ust u = stDraining) {f : Fld}
    (hf : f.off = Hdr.UNIT_STATUS_STATE.off) : (d.settleEnable v).g u f = d.g u f := by
  have hc := Dev.cell_settleUnits_of_draining (d.subtree v) hd
  rw [Dev.settleEnable_eq, Dev.g_watchWindow]
  simp only [Dev.g, hf, hc]

/-- R27: a drain that starts leaves ENABLE 0, DRAIN 1 and STATE DRAINING. -/
theorem Dev.g_startDrain (d : Dev) (u : Nat) :
    (d.startDrain u).g u Hdr.UNIT_CONTROL_ENABLE = 0 ∧ (d.startDrain u).g u Hdr.UNIT_CONTROL_DRAIN = 1 ∧
      (d.startDrain u).g u Hdr.UNIT_STATUS_STATE = stDraining := by
  have hst : (((d.s u Hdr.UNIT_CONTROL_ENABLE 0).s u Hdr.UNIT_CONTROL_DRAIN 1).setUst u stDraining).ust u = stDraining :=
    Dev.g_s_same _ _ _ _ (by decide)
  have hkeep : ∀ f : Fld, f.off = Hdr.UNIT_STATUS_STATE.off → (d.startDrain u).g u f =
      (((d.s u Hdr.UNIT_CONTROL_ENABLE 0).s u Hdr.UNIT_CONTROL_DRAIN 1).setUst u stDraining).g u f :=
    fun f hf => Dev.g_settleEnable_of_draining u hst hf
  refine ⟨?_, ?_, (hkeep _ rfl).trans hst⟩
  · rw [hkeep Hdr.UNIT_CONTROL_ENABLE rfl, Dev.setUst, Dev.g_s_field _ _ _ _ _ (by decide),
      Dev.g_s_field _ _ _ _ _ (by decide), Dev.g_s_same _ _ _ _ (by decide), Nat.zero_mod]
  · rw [hkeep Hdr.UNIT_CONTROL_DRAIN rfl, Dev.setUst, Dev.g_s_field _ _ _ _ _ (by decide), Dev.g_s_same _ _ _ _ (by decide)]
    rfl

/-- Writing ENABLE leaves the state alone. -/
theorem Dev.ust_s_enable (d : Dev) (u v : Nat) : (d.s u Hdr.UNIT_CONTROL_ENABLE v).ust u = d.ust u :=
  Dev.g_s_field _ _ _ _ _ (by decide)

section Outside

variable (hp : d.inPatching u = false) (hdr : d.patchDraining u = false)
include hp hdr

/-- R26: ENABLE_WRITE of a unit that is not DRAINING. -/
theorem enableWrite_of_not_draining (en : Bool) (hst : d.ust u ≠ stDraining) :
    enableWrite u en d = ((d.s u Hdr.UNIT_CONTROL_ENABLE (if en then 1 else 0)).settleEnable u).takeBells
      ((d.s u Hdr.UNIT_CONTROL_ENABLE (if en then 1 else 0)).subtree u) := by
  simp [enableWrite, hp, hdr, Dev.ust_s_enable, hst]

/-- R27, R164: writing 1 to ENABLE cancels a drain. -/
theorem enableWrite_of_draining (hst : d.ust u = stDraining) (hg : ungoverned u = false) {e : Dev}
    (he : e = (((d.s u Hdr.UNIT_CONTROL_ENABLE 1).s u Hdr.UNIT_CONTROL_DRAIN 0).s u
      Hdr.UNIT_STATUS_STATE stActive).cancelRemoval u 7) :
    enableWrite u true d = (e.settleEnable u).takeBells (e.subtree u) := by
  simp [enableWrite, hp, hdr, Dev.ust_s_enable, hst, hg, he, Dev.setUst]

/-- R27: a drain of a governed unit that reads ACTIVE or READY starts. -/
theorem drain_of_active_or_ready (hg : ungoverned u = false) (hst : d.ust u = stActive ∨ d.ust u = stReady) :
    drain u d = d.startDrain u := by
  simp [drain, hp, hdr, hg, hst]

end Outside

/-- R27, R574: in any other state, or for an ungoverned unit, DRAIN changes nothing. -/
theorem drain_eq_self (h : ungoverned u = true ∨ ¬ (d.ust u = stActive ∨ d.ust u = stReady)) : drain u d = d := by
  rcases h with h | h
  · simp [drain, h]
  · simp only [drain, if_neg h, ite_self]

/-- R17: the drain of a unit without work in progress ends. -/
theorem drainDone_of_idle (hst : d.ust u = stDraining) (hon : d.on u Hdr.UNIT_CONTROL_DRAIN = true)
    (hb : d.unitBusy u = false) :
    drainDone u d = ((d.s u Hdr.UNIT_CONTROL_DRAIN 0).s u Hdr.UNIT_STATUS_STATE stReady).raise u 0x0002 0 0 := by
  simp [drainDone, hst, hon, hb, Dev.setUst]

/-- R17: while a unit below has work in progress the drain goes on. -/
theorem drainDone_of_busy (hb : d.unitBusy u = true) : drainDone u d = d := by
  simp [drainDone, hb]

end Draining

/-- Settles O6: each clause is the equation of its command; a draining unit keeps its status cell when its subtree settles. -/
theorem enableWriteAndDrain : Obligations.EnableWriteAndDrain := by
  intro s u hacts hp hdr
  refine ⟨fun en hst => ?_, fun e hst hg he => ?_, fun hg hst => ⟨_, s.run_acts (drain u) hacts, ?_⟩, fun h => ?_,
    fun hst hon hb => ?_, fun hb => ?_⟩
  · exact enableWrite_of_not_draining hp hdr en hst ▸ s.run_acts (enableWrite u en) hacts
  · exact enableWrite_of_draining hp hdr hst hg he ▸ s.run_acts (enableWrite u true) hacts
  · rw [drain_of_active_or_ready hp hdr hg hst]
    exact s.dev.g_startDrain u
  · exact (s.run_acts (drain u) hacts).trans (by rw [drain_eq_self h])
  · exact drainDone_of_idle hst hon hb ▸ s.run_acts (drainDone u) hacts
  · exact (s.run_acts (drainDone u) hacts).trans (by rw [drainDone_of_busy hb])

end Sys2Proof.Machine

/-! Bus accesses (R14 to R16, R503): refusal, and what stands at the address. -/

namespace Sys2Proof.Machine

section Bus

/-! ### The bytes of a word on the bus -/

@[simp] theorem leBytes_length (n v : Nat) : (leBytes n v).length = n := by
  induction n generalizing v with
  | zero => rfl
  | succ n ih => simp [leBytes, ih]

/-- The low bytes of a value spell it modulo their width. -/
theorem leNat_leBytes (n v : Nat) : leNat (leBytes n v) = v % 2 ^ (8 * n) := by
  induction n generalizing v with
  | zero => simp [leBytes, leNat, Nat.mod_one]
  | succ n ih =>
    have hsplit : 2 ^ (8 * (n + 1)) = 256 * 2 ^ (8 * n) := by rw [Nat.mul_succ, Nat.pow_add]; omega
    rw [leBytes, leNat, ih, BitVec.toNat_ofNat, hsplit, Nat.mod_mul]

variable {d : Dev} {agent a size : Nat} {e : BusEnv}

/-! ### Refusal -/

/-- R15: the width or the alignment of the access is none that a register takes. -/
def badAccess (a size : Nat) : Prop := (size ≠ 4 ∧ size ≠ 8) ∨ a % size ≠ 0

/-- R15: such an access latches MALFORMED. -/
theorem Dev.refuseAt_of_bad (h : badAccess a size) (w : Nat) (p : Bool) :
    d.refuseAt w a size p = some (d.latchErr w Sc.malformed) := if_pos h

/-- R15: 4 or 8 bytes, naturally aligned. -/
theorem not_badAccess (hs : size = 4 ∨ size = 8) (ha : a % size = 0) : ¬ badAccess a size := by
  unfold badAccess; omega

/-- R503: an access with bad parity is refused with INTEGRITY. -/
theorem Dev.refuseAt_of_parity (h : ¬ badAccess a size) (w : Nat) :
    d.refuseAt w a size false = some ((d.meshErr w a).latchErr w Sc.integrity) := if_neg h

/-- Any other access goes through. -/
theorem Dev.refuseAt_eq_none (h : ¬ badAccess a size) (w : Nat) : d.refuseAt w a size true = none := if_neg h

/-- A register cell or a read-only word of owner `w` stands at `a`. -/
def Dev.registerAt (d : Dev) (a w : Nat) : Prop :=
  (∃ u off tree, d.tgt a = .cell w u off tree) ∨ (∃ x, d.tgt a = .ro w x)

/-- A refused write to a register changes what the refusal changes. -/
theorem Dev.writeAt_refused {w : Nat} {d' : Dev} {bs : List Byte} {en : Nat → Bool} (ht : d.registerAt a w)
    (hr : d.refuseAt w a bs.length e.parity = some d') : d.writeAt agent a bs en e = d' := by
  rcases ht with ⟨u, off, tree, ht⟩ | ⟨x, ht⟩ <;> simp [Dev.writeAt, ht, hr]

/-- A refused read of a register answers all ones. -/
theorem Dev.readAt_refused {w : Nat} {d' : Dev} (ht : d.registerAt a w) (hr : d.refuseAt w a size e.parity = some d') :
    d.readAt agent a size e = (d', List.replicate size 0xFF) := by
  rcases ht with ⟨u, off, tree, ht⟩ | ⟨x, ht⟩ <;> simp [Dev.readAt, ht, hr]

/-! ### The two commands -/

/-- REGISTER_WRITE, a read: the device that the read leaves, with the value among its outputs. -/
theorem exec_registerRead {s : State} (h : s.dev.acts = true) {d' : Dev} {bs : List Byte}
    (hr : s.dev.readAt agent a size e = (d', bs)) : exec (.registerWrite agent a size .read e) s =
      s.next (d'.emit (.readData (BitVec.ofNat 64 (leNat bs)))) :=
  (s.run_acts (registerWrite agent a size .read e) h).trans (by simp only [registerWrite, hr])

/-- REGISTER_WRITE, a write: every byte is enabled. -/
theorem exec_registerWrite {s : State} (h : s.dev.acts = true) {d' : Dev} {v : Word}
    (hw : s.dev.writeAt agent a (leBytes size v.toNat) (fun _ => true) e = d') :
    exec (.registerWrite agent a size (.write v) e) s = s.next d' :=
  (s.run_acts (registerWrite agent a size (.write v) e) h).trans (by simp only [registerWrite, hw])

/-- UNMAPPED_ACCESS. -/
theorem exec_unmappedAccess {s : State} (h : s.dev.acts = true) (w : Bool) :
    exec (.unmappedAccess a w) s = s.next (unmappedAccess a w s.dev) :=
  s.run_acts (unmappedAccess a w) h

/-- A REGISTER_WRITE whose access is refused, either way. -/
theorem exec_registerWrite_refused {s : State} (h : s.dev.acts = true) {w : Nat} {d' : Dev} (ht : s.dev.registerAt a w)
    (hr : s.dev.refuseAt w a size e.parity = some d') (v : Word) :
    exec (.registerWrite agent a size (.write v) e) s = s.next d' ∧
      exec (.registerWrite agent a size .read e) s =
        s.next (d'.emit (.readData (BitVec.ofNat 64 (leNat (List.replicate size 0xFF))))) :=
  ⟨exec_registerWrite h (Dev.writeAt_refused ht (by rwa [leBytes_length])), exec_registerRead h (Dev.readAt_refused ht hr)⟩

/-- R16: an access to an address that nothing occupies raises the unmapped-access event. -/
theorem Dev.unmappedAt_write (d : Dev) (a : Nat) : d.unmappedAt a true = d.raise rootId 0x0003 0 (a % 2 ^ 48 + 2 ^ 63) := by
  simp [Dev.unmappedAt]

theorem Dev.unmappedAt_read (d : Dev) (a : Nat) : d.unmappedAt a false = d.raise rootId 0x0003 0 (a % 2 ^ 48) := by
  simp [Dev.unmappedAt]

/-- R16: at an address that something occupies UNMAPPED_ACCESS has no place. -/
theorem unmappedAccess_of_occupied (hu : d.tgt a ≠ .unmapped) (hq : d.tgt a ≠ .quiet) (w : Bool) : unmappedAccess a w d = d := by
  unfold unmappedAccess
  dsimp only
  split
  · exact absurd ‹_› hu
  · exact absurd ‹_› hq
  · rfl

/-! ### An access that reaches a register -/

/-- R7: a read of a cell that is not refused answers the bytes of the value read. -/
theorem Dev.readAt_cell {w u off : Nat} {tree : Bool} (ht : d.tgt a = .cell w u off tree) (hb : ¬ badAccess a size)
    (hp : e.parity = true) : d.readAt agent a size e =
      ((regRead agent u off (fieldMask (8 * (a % 8)) (8 * size)) d).1,
        wordBytes (regRead agent u off (fieldMask (8 * (a % 8)) (8 * size)) d).2 (a % 8) size) := by
  simp only [Dev.readAt, ht, hp, Dev.refuseAt_eq_none hb]

/-- R7: a write to a cell that is not refused reaches it, in the bits of its bytes. -/
theorem Dev.writeAt_cell {w u off : Nat} {tree : Bool} (ht : d.tgt a = .cell w u off tree) (hb : ¬ badAccess a size)
    (hp : e.parity = true) (v : Nat) (en : Nat → Bool) : d.writeAt agent a (leBytes size v) en e =
      d.cellStore agent u off tree (fieldMask (8 * (a % 8)) (8 * size))
        (BitVec.ofNat 64 (v % 2 ^ (8 * size) * 2 ^ (8 * (a % 8)))) e := by
  simp only [Dev.writeAt, ht, leBytes_length, hp, Dev.refuseAt_eq_none hb, leNat_leBytes]

/-- R23: outside a PATCHING block a cell takes the write. -/
theorem Dev.cellStore_of_open {u off : Nat} {tree : Bool} {m v : Word} (h : d.inPatching u = false ∨ tree = false) :
    d.cellStore agent u off tree m v e = regWrite agent u off { old := d.cell u off, m := m, v := v } e d := by
  have hc : ¬ (tree && d.inPatching u) = true := by rcases h with h | h <;> simp [h]
  simp only [Dev.cellStore, if_neg hc]

/-- R23, R66: within a PATCHING block only UNIT_RESET is heard. -/
theorem Dev.cellStore_of_patching {u off : Nat} {m v : Word} (h : d.inPatching u = true) :
    d.cellStore agent u off true m v e =
      if off = 0x8 ∧ ({ old := d.cell u off, m := m, v := v } : Wr).one Hdr.UNIT_CONTROL_UNIT_RESET then
        unitReset u e.t3 e.t4 e.t5 d else d := by
  simp only [Dev.cellStore, h, Bool.and_self, if_true]

end Bus

/-- Settles O9: each clause is what `readAt`, `writeAt` or UNMAPPED_ACCESS does with what stands at the address. -/
theorem busAccessesReachOrAreRefused : Obligations.BusAccessesReachOrAreRefused := by
  intro s agent a size e h
  refine ⟨fun w ht hb => ?refused, fun w ht hs ha hp v => ?parity, fun ht => ?mem, fun o ht => ?flash, fun o ht => ?relay,
    fun pf q o ht => ?door, fun w x ht hs ha hp => ?ro, fun ht => ?unmapped, fun ht => ?quiet, fun w hu hq => ?occupied,
    fun w u off tree ht hs ha hp v => ?cell⟩
  case refused =>
    have hr := Dev.refuseAt_of_bad (d := s.dev) hb w e.parity
    exact ⟨fun v => (exec_registerWrite_refused h ht hr v).1, (exec_registerWrite_refused h ht hr 0).2⟩
  case parity =>
    have hr := Dev.refuseAt_of_parity (d := s.dev) (not_badAccess hs ha) w
    exact exec_registerWrite_refused h ht (hp ▸ hr) v
  case mem =>
    exact ⟨exec_registerRead h (by simp only [Dev.readAt, ht]),
      fun v => exec_registerWrite h (by simp only [Dev.writeAt, ht, if_true])⟩
  case flash =>
    exact ⟨exec_registerRead h (by simp only [Dev.readAt, ht]), fun v => exec_registerWrite h (by simp only [Dev.writeAt, ht])⟩
  case relay =>
    exact ⟨exec_registerRead h (by simp only [Dev.readAt, ht]), fun v => exec_registerWrite h (by simp only [Dev.writeAt, ht])⟩
  case door =>
    exact ⟨exec_registerRead h (by simp only [Dev.readAt, ht]), fun v => exec_registerWrite h (by simp only [Dev.writeAt, ht])⟩
  case ro =>
    have hr := Dev.refuseAt_eq_none (d := s.dev) (not_badAccess hs ha) w
    exact ⟨exec_registerRead h (by simp only [Dev.readAt, ht, hp, hr]),
      fun v => exec_registerWrite h (by simp only [Dev.writeAt, ht, hp, leBytes_length, hr, Option.getD_none])⟩
  case unmapped =>
    refine ⟨exec_registerRead h (by simp only [Dev.readAt, ht, Dev.unmappedAt_read]),
      fun v => exec_registerWrite h (by simp only [Dev.writeAt, ht, Dev.unmappedAt_write]),
      (exec_unmappedAccess h true).trans ?_, (exec_unmappedAccess h false).trans ?_⟩
    · simp only [unmappedAccess, ht, if_true, Dev.unmappedAt_write]
    · simp only [unmappedAccess, ht, Bool.false_eq_true, if_false, Dev.unmappedAt_read]
  case quiet =>
    refine ⟨fun v => exec_registerWrite h (by simp only [Dev.writeAt, ht]), (exec_unmappedAccess h true).trans ?_,
      exec_registerRead h (by simp only [Dev.readAt, ht]), (exec_unmappedAccess h false).trans ?_⟩
    · simp only [unmappedAccess, ht, if_true]
    · simp only [unmappedAccess, ht, Bool.false_eq_true, if_false]
  case occupied => exact (exec_unmappedAccess h w).trans (by rw [unmappedAccess_of_occupied hu hq])
  case cell =>
    have hb := not_badAccess hs ha
    have hw := Dev.writeAt_cell (agent := agent) ht hb hp v.toNat (fun _ => true)
    refine ⟨fun ho => ?_, fun hpat htree => ?_, exec_registerRead h (Dev.readAt_cell ht hb hp)⟩
    · exact exec_registerWrite h (hw.trans (Dev.cellStore_of_open ho))
    · subst htree
      exact exec_registerWrite h (hw.trans (Dev.cellStore_of_patching hpat))

end Sys2Proof.Machine

/-! Admin commands (R379 to R381): a command that may run. -/

namespace Sys2Proof.Machine

section AdminCommands

variable {d : Dev} {pf idx op : Nat} {c : AdminCmd}

/-- R379: a command that waits is the one found in flight at its ring index; it has neither started nor finished, and may start. -/
theorem Dev.admWaits_iff : d.admWaits pf idx c = true ↔ d.admin.filter (fun x => x.pf = pf && x.idx = idx) = [c] ∧
    c.started = false ∧ c.done = none ∧ d.admMayStart c = true := by
  simp [Dev.admWaits, and_assoc]

/-- R379 to R381: what it takes for a command to be ready. -/
theorem Dev.admReady_iff : d.admReady pf idx op c = true ↔ d.admWaits pf idx c = true ∧ c.op = op ∧ c.wellFormed = true ∧
    (d.bareState = true → op ∈ bareOps) := by
  simp [Dev.admReady, and_assoc, imp_iff_not_or]

/-- A command that waits is the one that its function and ring index find. -/
theorem Dev.find_admin_of_waits (h : d.admWaits pf idx c = true) :
    d.admin.find? (fun x => x.pf = pf && x.idx = idx) = some c := by
  rw [← List.head?_filter, (Dev.admWaits_iff.mp h).1, List.head?_cons]

/-- R379 to R381: a command that is ready starts and runs. -/
theorem Dev.admRun_of_ready (h : d.admReady pf idx op c = true) (f : AdminCmd → Dev → Dev) :
    d.admRun pf idx op f = f c (d.admStart pf idx) := by
  obtain ⟨hw, hop, hwf, hbare⟩ := Dev.admReady_iff.mp h
  obtain ⟨-, hstart, hdone, hmay⟩ := Dev.admWaits_iff.mp hw
  have hruns : ¬ (d.bareState && !bareOps.contains op) = true := by simpa using hbare
  simp only [Dev.admRun, Dev.find_admin_of_waits hw]
  rw [if_neg (by simp [hop, hstart, hdone, hmay]), if_neg (by simp [hwf]), if_neg hruns]

end AdminCommands

end Sys2Proof.Machine

/-! The image commands (R60): what may go on while another is in progress. -/

namespace Sys2Proof.Machine

section ImageCommands

variable {d : Dev} {pf idx : Nat}

/-- R60: an apply (a patch in progress, a patch that waits, or a full image being loaded) or a slot write is in progress. -/
theorem Dev.imageBusy_iff : d.imageBusy = true ↔
    d.img.patch.isSome = true ∨ d.img.waits.isSome = true ∨ d.img.slotWrite.isSome = true ∨ d.imgState = 1 := by
  simp [Dev.imageBusy, or_assoc]

/-- The start of a command changes nothing that tells whether an image command is in progress. -/
theorem Dev.imageBusy_admStart (d : Dev) (pf idx : Nat) : (d.admStart pf idx).imageBusy = d.imageBusy := by
  have hstate : (d.admStart pf idx).imgState = d.imgState := Dev.setAdm_g d pf idx _ rootId Root.IMG_STATUS_STATE
  simp only [Dev.imageBusy, hstate]
  rfl

/-- R60: an IMAGE_STAGE that is ready, with its range inside the staging area, is refused while an image command is in progress. -/
theorem imageStage_of_busy {c : AdminCmd} (hready : d.admReady pf idx 0x0601 c = true)
    (hfit : c.arg % 2 ^ 26 + c.len ≤ 67108864) (hbusy : d.imageBusy = true) (data : Option (List Byte)) :
    imageStage pf idx data d = (d.admStart pf idx).admEnd pf idx Sc.patchBusy 0 := by
  have hstarted : (d.admStart pf idx).imageBusy = true := (d.imageBusy_admStart pf idx).trans hbusy
  rw [imageStage, Dev.admRun_of_ready hready]
  simp only [if_neg (Nat.not_lt.mpr hfit), if_pos hstarted]

end ImageCommands

/-- Settles O13: the command starts, is refused, and ends; both steps write only the list of commands in flight. -/
theorem stagingWhileAnImageCommandRunsIsPatchBusy : Obligations.StagingWhileAnImageCommandRunsIsPatchBusy := by
  intro s pf idx data c hacts hready hfit hbusy
  have hstep : exec (.imageStage pf idx data) s = s.next ((s.dev.admStart pf idx).admEnd pf idx Sc.patchBusy 0) :=
    imageStage_of_busy hready hfit (Dev.imageBusy_iff.mpr hbusy) data ▸ s.run_acts (imageStage pf idx data) hacts
  refine ⟨_, hstep, rfl, ?_, rfl, ?_⟩
  · simp only [Dev.admEnd, Dev.admStart, Dev.setAdm_bytes]
  · simp only [Dev.admEnd, Dev.admStart, Dev.setAdm_regs]

end Sys2Proof.Machine

/-! The registers of the MAC blocks (R74, R92): what a field reads as after another one is set. -/

namespace Sys2Proof.Machine

/-- A command taken in Run answers what its device function gives. -/
theorem State.run_acts_eq {s : State} (hacts : s.dev.acts = true) {f : Dev → Dev} {e : Dev} (hf : f s.dev = e) :
    s.run f = s.next e := hf ▸ s.run_acts f hacts

section MacFields

variable (d : Dev) (m l v : Nat) {f f' : Fld}

/-- A field of a MAC block that takes a value of its width holds it. -/
theorem Dev.mf_setMf_same (h : f.lo + f.w ≤ 64) (hv : v < 2 ^ f.w) : (d.setMf l f v).mf l f = v :=
  (Dev.gk_sk_same d (macId l) f v h).trans (Nat.mod_eq_of_lt hv)

/-- Setting a field of a MAC block leaves every field apart from it alone, in that block and in any other. -/
theorem Dev.mf_setMf_other (hf : f.off < kb) (hf' : f'.off < kb)
    (h : f'.off ≠ f.off ∨ f'.lo + f'.w ≤ f.lo ∨ f.lo + f.w ≤ f'.lo) : (d.setMf m f v).mf l f' = d.mf l f' := by
  by_cases hu : macId l = macId m
  · simp only [Dev.mf, Dev.setMf, hu]
    exact Dev.gk_sk_ne d (macId m) f f' v h
  · refine Dev.g_s_unit d (macId m) (macId l) f.kind f'.kind v hu ?_ ?_ <;> (simp only [Fld.kind, kb] at *; omega)

/-- Setting a field of a MAC block leaves the state of every unit alone. -/
theorem Dev.ust_setMf (u : Nat) (hf : f.off < kb) : (d.setMf m f v).ust u = d.ust u := by
  refine Dev.g_s_cell d (macId m) u f.kind Hdr.UNIT_STATUS_STATE v fun hkey => ?_
  simp only [rkey, Fld.kind, kb, Hdr.UNIT_STATUS_STATE] at hkey hf
  omega

end MacFields

end Sys2Proof.Machine

/-! The link of a port (R74, R75, R576): its conditions, its lock flags and the pause frame that is due. -/

namespace Sys2Proof.Machine

section Links

variable {d : Dev} {l : Nat}

/-! ### The conditions of LINK_UP -/

/-- R74: the conditions of LINK_UP. -/
theorem Dev.linkOk_iff : d.linkOk l = true ↔ d.mf l Mac.PORT_STATUS_PCS_LOCK = 1 ∧ d.mf l Mac.PORT_STATUS_AM_LOCK = 1 ∧
    d.mf l Mac.PORT_STATUS_FEC_ALIGN = 1 ∧ d.mf l Mac.PORT_STATUS_LOCAL_FAULT = 0 ∧
    ¬ (d.mf l Mac.PORT_STATUS_HI_SER = 1 ∧ d.mf l Mac.PORT_CFG_HISER_DOWN = 1) ∧
    d.ust (macId l) ≠ stOff ∧ d.ust (macId l) ≠ stReset := by
  simp [Dev.linkOk, and_assoc, imp_iff_not_or]

/-- R72: the remote fault that a port sends is no register. -/
@[simp] theorem Dev.syncFault_regs (d : Dev) (l : Nat) : (d.syncFault l).regs = d.regs := by
  simp only [Dev.syncFault]
  split
  · rfl
  · exact Dev.emit_regs _ _

/-- Fields and conditions of a port rest on the register store. -/
theorem Dev.mf_congr {e : Dev} (h : e.regs = d.regs) (f : Fld) : e.mf l f = d.mf l f := Dev.g_congr h _ _

theorem Dev.linkOk_congr {e : Dev} (h : e.regs = d.regs) : e.linkOk l = d.linkOk l := by
  rw [Bool.eq_iff_iff, Dev.linkOk_iff, Dev.linkOk_iff]
  simp only [Dev.mf_congr h, Dev.ust, Dev.g_congr h]

/-- R74: LINK_UP rises where its conditions begin to hold. -/
theorem Dev.evalLink_rises (hok : d.linkOk l = true) (hup : d.mf l Mac.PORT_STATUS_LINK_UP = 0) :
    d.evalLink l = (d.syncFault l).linkRise l := by
  simp [Dev.evalLink, Dev.linkOk_congr (d.syncFault_regs l), Dev.mf_congr (d.syncFault_regs l), hok, hup]

/-- R74: LINK_UP falls where they cease to hold. -/
theorem Dev.evalLink_falls (hok : d.linkOk l ≠ true) (hup : d.mf l Mac.PORT_STATUS_LINK_UP = 1) :
    d.evalLink l = (d.syncFault l).linkFall l := by
  simp [Dev.evalLink, Dev.linkOk_congr (d.syncFault_regs l), Dev.mf_congr (d.syncFault_regs l), hok, hup]

/-- R74: a link that is up stays up while they hold. -/
theorem Dev.evalLink_stays (hok : d.linkOk l = true) (hup : d.mf l Mac.PORT_STATUS_LINK_UP = 1) :
    d.evalLink l = d.syncFault l := by
  simp [Dev.evalLink, Dev.linkOk_congr (d.syncFault_regs l), Dev.mf_congr (d.syncFault_regs l), hok, hup]

/-- R72: a port without HI_SER that sends no remote fault goes on so. -/
theorem Dev.syncFault_eq_self (hser : d.mf l Mac.PORT_STATUS_HI_SER = 0) (hrf : (d.mac l).rf = false) : d.syncFault l = d := by
  simp [Dev.syncFault, hser, hrf]

/-! ### The lock flags -/

/-- The three lock flags, bits 3:1 of PORT_STATUS, leave every other field of a MAC block alone. -/
theorem Dev.mf_setLock_other (v : Nat) {f : Fld} (hf : f.off < kb)
    (h : f.off ≠ Mac.PORT_STATUS_PCS_LOCK.off ∨ f.lo + f.w ≤ 1 ∨ 4 ≤ f.lo) : (d.setLock l v).mf l f = d.mf l f := by
  simp only [Mac.PORT_STATUS_PCS_LOCK] at h
  simp only [Dev.setLock]
  rw [Dev.mf_setMf_other _ _ _ _ (by decide) hf (by simp only [Mac.PORT_STATUS_FEC_ALIGN]; omega),
    Dev.mf_setMf_other _ _ _ _ (by decide) hf (by simp only [Mac.PORT_STATUS_AM_LOCK]; omega),
    Dev.mf_setMf_other _ _ _ _ (by decide) hf (by simp only [Mac.PORT_STATUS_PCS_LOCK]; omega)]

/-- The lock flags leave the state of every unit alone. -/
theorem Dev.ust_setLock (v u : Nat) : (d.setLock l v).ust u = d.ust u := by
  simp (disch := decide) only [Dev.setLock, Dev.ust_setMf]

/-- R576: the lock flags take their value. -/
theorem Dev.mf_setLock {v : Nat} (hv : v < 2) : (d.setLock l v).mf l Mac.PORT_STATUS_PCS_LOCK = v ∧
    (d.setLock l v).mf l Mac.PORT_STATUS_AM_LOCK = v ∧ (d.setLock l v).mf l Mac.PORT_STATUS_FEC_ALIGN = v := by
  refine ⟨?_, ?_, Dev.mf_setMf_same _ _ _ (by decide) hv⟩
  · rw [Dev.setLock, Dev.mf_setMf_other _ _ _ _ (by decide) (by decide) (by decide),
      Dev.mf_setMf_other _ _ _ _ (by decide) (by decide) (by decide), Dev.mf_setMf_same _ _ _ (by decide) hv]
  · rw [Dev.setLock, Dev.mf_setMf_other _ _ _ _ (by decide) (by decide) (by decide),
      Dev.mf_setMf_same _ _ _ (by decide) hv]

/-- CDR_LOCK of some lanes. -/
def Dev.lockLanes (d : Dev) (ms : List Nat) : Dev := ms.foldl (fun (d : Dev) m => d.setMf m Mac.LANE_STATUS_CDR_LOCK 1) d

/-- CDR_LOCK leaves the other registers of a MAC block alone. -/
theorem Dev.mf_lockLanes (ms : List Nat) {f : Fld} (hf : f.off < kb) (h : f.off ≠ Mac.LANE_STATUS_CDR_LOCK.off) :
    (d.lockLanes ms).mf l f = d.mf l f := by
  induction ms generalizing d with
  | nil => rfl
  | cons m ms ih => exact ih.trans (Dev.mf_setMf_other d m l 1 (by decide) hf (.inl h))

/-- CDR_LOCK leaves the state of every unit alone. -/
theorem Dev.ust_lockLanes (ms : List Nat) (u : Nat) : (d.lockLanes ms).ust u = d.ust u := by
  induction ms generalizing d with
  | nil => rfl
  | cons m ms ih => exact ih.trans (Dev.ust_setMf d m 1 u (by decide))

/-- R74: what it takes for the link to come up once the receivers have locked. -/
theorem Dev.linkOk_setLock (hloc : d.mf l Mac.PORT_STATUS_LOCAL_FAULT = 0) (hser : d.mf l Mac.PORT_STATUS_HI_SER = 0)
    (hoff : d.ust (macId l) ≠ stOff) (hreset : d.ust (macId l) ≠ stReset) : (d.setLock l 1).linkOk l = true := by
  obtain ⟨hpcs, ham, hfec⟩ := Dev.mf_setLock (d := d) (l := l) (v := 1) (by decide)
  refine Dev.linkOk_iff.mpr ⟨hpcs, ham, hfec, ?_, fun h => ?_, ?_, ?_⟩
  · rw [Dev.mf_setLock_other 1 (by decide) (by decide), hloc]
  · rw [Dev.mf_setLock_other 1 (by decide) (by decide), hser] at h
    exact absurd h.1 (by decide)
  · rwa [Dev.ust_setLock]
  · rwa [Dev.ust_setLock]

/-! ### The pause frame that is due (R75, R83) -/

theorem Dev.mac_congr {e : Dev} (h : e.macs = d.macs) : e.mac l = d.mac l := by simp only [Dev.mac, h]

/-- Setting a field changes nothing that a MAC keeps besides its registers. -/
@[simp] theorem Dev.mac_setMf (d : Dev) (m l v : Nat) (f : Fld) : (d.setMf m f v).mac l = d.mac l :=
  Dev.mac_congr (Dev.s_macs d _ _ _)

/-- What a MAC keeps after a change; a lane that does not exist keeps nothing. -/
theorem Dev.mac_setMac (d : Dev) (l : Nat) (f : MacSt → MacSt) :
    (d.setMac l f).mac l = if l < d.macs.length then f (d.mac l) else MacSt.init := by
  split <;> simp [Dev.mac, updAt, *]

/-- A change that drops the pause frame that is due, and one that keeps it. -/
theorem Dev.due_setMac_none (d : Dev) (l : Nat) {f : MacSt → MacSt} (hf : ∀ m, (f m).due = none) :
    ((d.setMac l f).mac l).due = none := by
  rw [Dev.mac_setMac]
  split
  · exact hf _
  · rfl

theorem Dev.due_setMac_keep (d : Dev) (l : Nat) {f : MacSt → MacSt} (hf : ∀ m, (f m).due = m.due) :
    ((d.setMac l f).mac l).due = (d.mac l).due := by
  rw [Dev.mac_setMac]
  split
  · exact hf _
  · simp [Dev.mac, *, MacSt.init]

/-- Waking a host changes no MAC. -/
@[simp] theorem Dev.wakeHost_macs (d : Dev) (pf : Nat) : (d.wakeHost pf).macs = d.macs := by
  unfold Dev.wakeHost Dev.setEp
  split
  · simp only [Dev.emit_macs]
    split <;> rfl
  · rfl

/-- The events that wait change no MAC. -/
@[simp] theorem Dev.setWaiting_macs (d : Dev) (ws : List Waiting) : (d.setWaiting ws).macs = d.macs := by
  have hfold : ∀ (us : List Nat) (e : Dev), (us.foldl (fun (d : Dev) u => d.syncHeld u) e).macs = e.macs := fun us => by
    induction us with
    | nil => exact fun _ => rfl
    | cons u us ih => exact fun e => (ih _).trans (Dev.s_macs _ _ _ _)
  exact (hfold _ _).trans (Dev.s_macs _ _ _ _)

/-- R401: raising an event changes no MAC. -/
@[simp] theorem Dev.raise_macs (d : Dev) (u k slice payload : Nat) : (d.raise u k slice payload).macs = d.macs := by
  unfold Dev.raise Dev.raiseEv Dev.wait
  dsimp only
  split
  · split
    · exact (Dev.s_macs _ _ _ _).trans (Dev.setWaiting_macs _ _)
    · split
      · exact Dev.s_macs _ _ _ _
      · split
        · exact (Dev.wakeHost_macs _ _).trans (Dev.setWaiting_macs _ _)
        · exact Dev.setWaiting_macs _ _
  · rfl

/-- The event of a link change changes no MAC. -/
@[simp] theorem Dev.mac_linkEvent (d : Dev) (l m : Nat) : (d.linkEvent l).mac m = d.mac m :=
  (Dev.mac_congr (Dev.raise_macs _ _ _ _ _)).trans (Dev.mac_setMf _ _ _ _ _)

/-- R84: an mPacket of verification, wherever it goes, changes nothing that a MAC keeps. -/
theorem Dev.mac_lineOut_mpacket (d : Dev) (l m : Nat) (r : Bool) : (d.lineOut l (.mpacket l r)).mac m = d.mac m := by
  unfold Dev.lineOut
  split
  · exact Dev.mac_congr (Dev.emit_macs _ _)
  · split
    · simp only [Dev.loopIn, Dev.verified]
      split
      · exact Dev.mac_setMf _ _ _ _ _
      · split
        · simp only [Dev.mac_setMf]
        · rfl
    · rfl

/-- R84: the start of verification keeps the pause frame that is due. -/
theorem Dev.due_verifyStart (d : Dev) (l : Nat) : ((d.verifyStart l).mac l).due = (d.mac l).due := by
  unfold Dev.verifyStart
  split
  · simp only [Dev.mac_setMf]
  · split
    · simp only [Dev.mac_setMf]
    · split
      · simp only [Dev.mac_setMf]
      · rw [Dev.mac_lineOut_mpacket]
        refine Eq.trans (Dev.due_setMac_keep _ _ fun _ => ?_) ?_
        · rfl
        · simp only [Dev.mac_setMf]

/-- R75: with the link the pause frame that was due is gone. -/
theorem Dev.due_linkFall (d : Dev) (l : Nat) : ((d.linkFall l).mac l).due = none := by
  simp only [Dev.linkFall, Dev.mac_setMf, Dev.due_verifyStart, Dev.mac_linkEvent]
  exact Dev.due_setMac_none _ _ fun _ => rfl

/-- R83: nothing leaves where no pause frame is due, or where remote fault holds it back. -/
theorem Dev.pauseFlush_eq_self (h : (d.mac l).due = none ∨ d.mf l Mac.PORT_STATUS_REMOTE_FAULT = 1) : d.pauseFlush l = d := by
  unfold Dev.pauseFlush
  split
  · rfl
  · rename_i hdue
    rw [if_pos (h.resolve_left (by simp [hdue]))]

/-! ### The commands of a link (R72, R74, R75, R576) -/

section Port

variable (hport : d.isPort l = true)
include hport

theorem linkUp_of_negotiating (ht : d.mf l Mac.PORT_STATUS_TRAIN_STATE = 1) :
    linkUp l d = d.setMf l Mac.PORT_STATUS_TRAIN_STATE 2 := by
  simp [linkUp, hport, ht]

/-- R74, R576: the receivers of a powered port without a fault lock, and its link comes up. -/
theorem linkUp_of_training (ht : d.mf l Mac.PORT_STATUS_TRAIN_STATE = 2) (hloc : d.mf l Mac.PORT_STATUS_LOCAL_FAULT = 0)
    (hser : d.mf l Mac.PORT_STATUS_HI_SER = 0) (hup : d.mf l Mac.PORT_STATUS_LINK_UP = 0)
    (hoff : d.ust (macId l) ≠ stOff) (hreset : d.ust (macId l) ≠ stReset) :
    linkUp l d = (((d.lockLanes (d.portLanes l)).setLock l 1).syncFault l).linkRise l := by
  have hkeep : ∀ f : Fld, f.off < kb → f.off ≠ Mac.LANE_STATUS_CDR_LOCK.off →
      (d.lockLanes (d.portLanes l)).mf l f = d.mf l f := fun f => Dev.mf_lockLanes _
  have hust : (d.lockLanes (d.portLanes l)).ust (macId l) = d.ust (macId l) := Dev.ust_lockLanes _ _
  have hok : ((d.lockLanes (d.portLanes l)).setLock l 1).linkOk l = true := Dev.linkOk_setLock
    ((hkeep _ (by decide) (by decide)).trans hloc) ((hkeep _ (by decide) (by decide)).trans hser)
    (hust ▸ hoff) (hust ▸ hreset)
  have hdown : ((d.lockLanes (d.portLanes l)).setLock l 1).mf l Mac.PORT_STATUS_LINK_UP = 0 := by
    rw [Dev.mf_setLock_other 1 (by decide) (by decide), hkeep _ (by decide) (by decide), hup]
  have hlock : linkUp l d = ((d.lockLanes (d.portLanes l)).setLock l 1).evalLink l := by
    simp [linkUp, hport, ht, Dev.lockLanes]
  exact hlock.trans (Dev.evalLink_rises hok hdown)

/-- R75: a port that loses its lock loses its link. -/
theorem linkDown_of_up (hup : d.mf l Mac.PORT_STATUS_LINK_UP = 1) :
    linkDown l d = ((d.setLock l 0).syncFault l).linkFall l := by
  have hlost : (d.setLock l 0).linkOk l ≠ true := fun hok => by
    obtain ⟨hpcs, -⟩ := Dev.linkOk_iff.mp hok
    exact absurd ((Dev.mf_setLock (by decide)).1.symm.trans hpcs) (by decide)
  have hlink : (d.setLock l 0).mf l Mac.PORT_STATUS_LINK_UP = 1 := by
    rw [Dev.mf_setLock_other 0 (by decide) (by decide), hup]
  have hlock : linkDown l d = (d.setLock l 0).evalLink l := by simp [linkDown, hport]
  exact hlock.trans (Dev.evalLink_falls hlost hlink)

theorem trainFail_of_training
    (ht : d.mf l Mac.PORT_STATUS_TRAIN_STATE = 1 ∨ d.mf l Mac.PORT_STATUS_TRAIN_STATE = 2) :
    trainFail l d = d.setMf l Mac.PORT_STATUS_TRAIN_STATE 4 := by
  simp [trainFail, hport, ht]

theorem trainRetry_of_failed (ht : d.mf l Mac.PORT_STATUS_TRAIN_STATE = 4) :
    trainRetry l d = d.setMf l Mac.PORT_STATUS_TRAIN_STATE (d.trainStart l) := by
  simp [trainRetry, hport, ht]

/-- R576: a lane of a port that brings its link up loses its signal. -/
theorem signalDetectChange_of_training {m : Nat} (hm : d.firstLane m = l)
    (ht : d.mf l Mac.PORT_STATUS_TRAIN_STATE = 1 ∨ d.mf l Mac.PORT_STATUS_TRAIN_STATE = 2)
    (hoff : d.ust (macId l) ≠ stOff) (hreset : d.ust (macId l) ≠ stReset) {e : Dev}
    (he : e = (d.setMf m Mac.LANE_STATUS_SIGNAL_DETECT 0).setMf m Mac.LANE_STATUS_CDR_LOCK 0) :
    signalDetectChange m false d = e.setMf l Mac.PORT_STATUS_TRAIN_STATE (e.trainStart l) := by
  have hkeep : ∀ (n : Nat) (f : Fld), f.off < kb → f.off ≠ Mac.LANE_STATUS_CDR_LOCK.off → e.mf n f = d.mf n f := by
    intro n f hf hne
    have hsig := Dev.mf_setMf_other d m n 0 (f := Mac.LANE_STATUS_SIGNAL_DETECT) (by decide) hf (.inl hne)
    rw [he, Dev.mf_setMf_other _ _ _ _ (by decide) hf (.inl hne), hsig]
  have hust : e.ust (macId l) = d.ust (macId l) := by
    rw [he, Dev.ust_setMf _ _ _ _ (by decide), Dev.ust_setMf _ _ _ _ (by decide)]
  have hfirst : e.firstLane m = l := (hkeep m Mac.PORT_CFG_FIRST_LANE (by decide) (by decide)).trans hm
  have hp : e.isPort l = true := by
    rwa [Dev.isPort, hkeep l Mac.PORT_CFG_WIDTH (by decide) (by decide)]
  have htrain := hkeep l Mac.PORT_STATUS_TRAIN_STATE (by decide) (by decide)
  simp [signalDetectChange, ← he, hfirst, hp, hust, hoff, hreset, htrain, ht]

/-- R72, R75: a local fault takes a link down, and the pause frame that was due with it. -/
theorem linkFaultChange_local (hup : d.mf l Mac.PORT_STATUS_LINK_UP = 1) (hi rem : Bool) {e : Dev}
    (he : e = ((d.setMf l Mac.PORT_STATUS_HI_SER (if hi then 1 else 0)).setMf l Mac.PORT_STATUS_LOCAL_FAULT 1).setMf l
      Mac.PORT_STATUS_REMOTE_FAULT (if rem then 1 else 0)) :
    linkFaultChange l hi true rem d = (e.syncFault l).linkFall l := by
  have hfault : e.mf l Mac.PORT_STATUS_LOCAL_FAULT = 1 := by
    rw [he, Dev.mf_setMf_other _ _ _ _ (by decide) (by decide) (by decide), Dev.mf_setMf_same _ _ _ (by decide) (by decide)]
  have hlink : e.mf l Mac.PORT_STATUS_LINK_UP = 1 := by
    simp (disch := decide) only [he, Dev.mf_setMf_other, hup]
  have hbad : e.linkOk l ≠ true := fun hok => by
    obtain ⟨-, -, -, hgood, -⟩ := Dev.linkOk_iff.mp hok
    omega
  have hflush := Dev.pauseFlush_eq_self (d := (e.syncFault l).linkFall l) (.inl (Dev.due_linkFall _ l))
  simp [linkFaultChange, hport, ← he, Dev.evalLink_falls hbad hlink, hflush]

/-- R72: a remote fault on a link that is up and sends none itself is stored. -/
theorem linkFaultChange_remote (hup : d.mf l Mac.PORT_STATUS_LINK_UP = 1) (hok : d.linkOk l = true)
    (hrf : (d.mac l).rf = false) {e : Dev}
    (he : e = ((d.setMf l Mac.PORT_STATUS_HI_SER 0).setMf l Mac.PORT_STATUS_LOCAL_FAULT 0).setMf l
      Mac.PORT_STATUS_REMOTE_FAULT 1) : linkFaultChange l false false true d = e := by
  obtain ⟨hpcs, ham, hfec, -, -, hoff, hreset⟩ := Dev.linkOk_iff.mp hok
  have hser : e.mf l Mac.PORT_STATUS_HI_SER = 0 := by
    simp (disch := decide) only [he, Dev.mf_setMf_other, Dev.mf_setMf_same]
  have hfault : e.mf l Mac.PORT_STATUS_REMOTE_FAULT = 1 := by
    simp (disch := decide) only [he, Dev.mf_setMf_same]
  have hlink : e.mf l Mac.PORT_STATUS_LINK_UP = 1 := by
    simp (disch := decide) only [he, Dev.mf_setMf_other, hup]
  have hgood : e.linkOk l = true := Dev.linkOk_iff.mpr (by
    simp (disch := decide) [he, Dev.mf_setMf_other, Dev.mf_setMf_same, Dev.ust_setMf, hpcs, ham, hfec, hoff, hreset])
  have hquiet : e.syncFault l = e := Dev.syncFault_eq_self hser (by rw [he]; simpa only [Dev.mac_setMf] using hrf)
  have hflush : e.pauseFlush l = e := Dev.pauseFlush_eq_self (.inr hfault)
  simp [linkFaultChange, hport, ← he, Dev.evalLink_stays hgood hlink, hquiet, hflush]

end Port

end Links

/-- Settles O15: each clause is the equation of its command; which way LINK_UP goes is told by its conditions (`linkOk_iff`). -/
theorem linksFollowLockTrainingAndFaults : Obligations.LinksFollowLockTrainingAndFaults := by
  intro s l hacts hport
  refine ⟨fun ht => ⟨_, State.run_acts_eq hacts (linkUp_of_negotiating hport ht), ?_, OnlyCells.s _ _ _ _⟩,
    fun ht hloc hser hup hoff hreset =>
      State.run_acts_eq hacts (linkUp_of_training hport ht hloc hser hup hoff hreset),
    fun ht => ⟨⟨_, State.run_acts_eq hacts (trainFail_of_training hport ht), ?_, OnlyCells.s _ _ _ _⟩,
      fun m hm hoff hreset =>
        State.run_acts_eq hacts (signalDetectChange_of_training hport hm ht hoff hreset rfl)⟩,
    fun hup => ⟨State.run_acts_eq hacts (linkDown_of_up hport hup), fun hi rem =>
        State.run_acts_eq hacts (linkFaultChange_local hport hup hi rem rfl),
      fun hok hrf => ⟨_, State.run_acts_eq hacts (linkFaultChange_remote hport hup hok hrf rfl), ?_, ?_, ?_⟩⟩,
    fun ht => State.run_acts_eq hacts (trainRetry_of_failed hport ht)⟩
  · exact Dev.mf_setMf_same _ _ _ (by decide) (by decide)
  · exact Dev.mf_setMf_same _ _ _ (by decide) (by decide)
  · exact Dev.mf_setMf_same _ _ _ (by decide) (by decide)
  · simp (disch := decide) only [Dev.mf_setMf_other, hup]
  · exact ((OnlyCells.s s.dev (macId l) Mac.PORT_STATUS_HI_SER.kind 0).then_s (macId l) Mac.PORT_STATUS_LOCAL_FAULT.kind 0
      (List.mem_singleton.mpr rfl)).then_s (macId l) Mac.PORT_STATUS_REMOTE_FAULT.kind 1 (List.mem_singleton.mpr rfl)

end Sys2Proof.Machine

/-! The PTP timebase (R89). -/

namespace Sys2Proof.Machine

section Timebase

variable {t : TbSt} {d : Dev}

/-- Moving a timebase changes its time only. -/
@[simp] theorem TbSt.move_adj (t : TbSt) (x : Int) : (t.move x).adj = t.adj := by unfold TbSt.move; rfl
@[simp] theorem TbSt.move_set (t : TbSt) (x : Int) : (t.move x).set = t.set := by unfold TbSt.move; rfl
@[simp] theorem TbSt.move_stopped (t : TbSt) (x : Int) : (t.move x).stopped = t.stopped := by unfold TbSt.move; rfl

/-- R89: a timebase that is moved has less than one second of nanoseconds. -/
theorem TbSt.move_ns_lt (t : TbSt) (x : Int) : (t.move x).ns < secUnits := Nat.mod_lt _ (by decide)

/-- R89: a timebase moved on by `n` units of 2^-32 ns, with its 48-bit seconds wrapping. -/
theorem TbSt.move_total (t : TbSt) (n : Nat) :
    (t.move n).sec * secUnits + (t.move n).ns = (t.sec * secUnits + t.ns + n) % (2 ^ 48 * secUnits) := by
  have hmod : ((((t.sec * secUnits + t.ns : Nat) : Int) + n) % ((2 ^ 48 * secUnits : Nat) : Int)).toNat =
      (t.sec * secUnits + t.ns + n) % (2 ^ 48 * secUnits) := by
    rw [← Int.natCast_add, ← Int.natCast_emod, Int.toNat_natCast]
  simp only [TbSt.move, hmod]
  exact Nat.div_add_mod' _ _

/-! ### One tick, by what is pending -/

theorem TbSt.tick_of_running (hrun : t.stopped = false) (hset : t.set = none) (hadj : t.adj = none) (n : Nat) :
    t.tick n = t.move n := by
  simp [TbSt.tick, hset, hrun, hadj]

theorem TbSt.tick_of_standing (hstop : t.stopped = true) (hset : t.set = none) (hadj : t.adj = none) (n : Nat) :
    t.tick n = t := by
  simp [TbSt.tick, hset, hstop, hadj]

theorem TbSt.tick_of_set {sec ns : Nat} (hset : t.set = some (sec, ns)) (hadj : t.adj = none) (n : Nat) :
    t.tick n = { t with sec := sec, ns := ns * 2 ^ 32, set := none, stopped := false } := by
  simp [TbSt.tick, hset, hadj]

theorem TbSt.tick_of_adj_running {a : Int} (hset : t.set = none) (hadj : t.adj = some a) (hrun : t.stopped = false) (n : Nat) :
    t.tick n = { (t.move n).move (a * 2 ^ 32) with adj := none } := by
  simp [TbSt.tick, hset, hrun, hadj]

theorem TbSt.tick_of_adj_standing {a : Int} (hset : t.set = none) (hadj : t.adj = some a) (hstop : t.stopped = true) (n : Nat) :
    t.tick n = { t with adj := none } := by
  simp [TbSt.tick, hset, hadj, hstop]

/-- R89: with neither a set nor an adjust pending the gates go on by the tick. -/
theorem timebaseTick_of_none (hset : d.tb.set = none) (hadj : d.tb.adj = none) :
    timebaseTick d = { d with tb := d.tb.tick (d.mf 0 Mac.TB_INCR_INCR) } := by
  simp [timebaseTick, hset, hadj]

/-- R235: after a set or an adjust the gates take their place by the new time. -/
theorem timebaseTick_of_step (h : d.tb.set.isSome = true ∨ d.tb.adj.isSome = true) :
    timebaseTick d = (List.range 16).foldl (fun (d : Dev) p => if d.gated p then d.syncGates p else d)
      { d with tb := d.tb.tick (d.mf 0 Mac.TB_INCR_INCR) } := by
  have hstep : (d.tb.set.isSome || d.tb.adj.isSome) = true := by simpa using h
  simp only [timebaseTick, hstep, if_true]

/-- R89: TB_SET_NS takes a value below one second and no other. -/
theorem tbSetNs_of_lt {v : Nat} (h : v < 1000000000) :
    tbSetNs v d = { d with tb := { d.tb with set := some (d.mf 0 Mac.TB_SET_SEC_SEC, v) } } := if_neg (Nat.not_le.mpr h)

theorem tbSetNs_of_ge {v : Nat} (h : 1000000000 ≤ v) : tbSetNs v d = d := if_pos h

/-- R89: TB_SNAP shows the nanoseconds of a time of day, and its seconds. -/
theorem mf_tbCapture (hns : d.tb.ns < secUnits) (hsec : d.tb.sec < 2 ^ 48) :
    (tbCapture d).mf 0 Mac.TB_SNAP_NS_NS = d.tb.ns / 2 ^ 32 ∧ (tbCapture d).mf 0 Mac.TB_SNAP_SEC_SEC = d.tb.sec := by
  have hwhole : d.tb.ns / 2 ^ 32 < 2 ^ Mac.TB_SNAP_NS_NS.w := by
    simp only [secUnits, Mac.TB_SNAP_NS_NS] at *
    omega
  refine ⟨?_, Dev.mf_setMf_same _ _ _ (by decide) hsec⟩
  rw [tbCapture, Dev.mf_setMf_other _ _ _ _ (by decide) (by decide) (by decide)]
  exact Dev.mf_setMf_same _ _ _ (by decide) hwhole

/-- TB_CAPTURE changes the two registers of TB_SNAP only. -/
theorem OnlyCells.tbCapture (d : Dev) : OnlyCells d (tbCapture d)
    [rkey (macId 0) Mac.TB_SNAP_NS_NS.kind.off, rkey (macId 0) Mac.TB_SNAP_SEC_SEC.kind.off] :=
  (OnlyCells.s d _ _ _).trans (OnlyCells.s _ _ _ _)

end Timebase

/-- Settles O17: each clause is the equation of its command; `TbSt.tick` is read by what is pending. -/
theorem timebaseTicksSetsAdjustsAndSnapshots : Obligations.TimebaseTicksSetsAdjustsAndSnapshots := by
  intro s hacts
  have htick := s.run_acts timebaseTick hacts
  refine ⟨fun hrun hset hadj => ?runs, fun hstop hset hadj => ?stands, fun t ht => ?steps,
    fun v => s.run_acts (tbAdj v) hacts, fun v hv => State.run_acts_eq hacts (tbSetNs_of_lt hv),
    fun v hv => State.run_acts_eq hacts (tbSetNs_of_ge hv), fun hns hsec => ?snap⟩
  case runs =>
    rw [timebaseTick_of_none hset hadj, TbSt.tick_of_running hrun hset hadj] at htick
    exact ⟨_, htick, (TbSt.move_set _ _).trans hset, (TbSt.move_adj _ _).trans hadj, (TbSt.move_stopped _ _).trans hrun,
      TbSt.move_ns_lt _ _, TbSt.move_total _ _⟩
  case stands =>
    rw [timebaseTick_of_none hset hadj, TbSt.tick_of_standing hstop hset hadj] at htick
    exact htick
  case steps =>
    rcases ht with ⟨sec, ns, hset, hadj, rfl⟩ | ⟨a, hset, hadj, hrun, rfl⟩ | ⟨a, hset, hadj, hstop, rfl⟩
    · rw [timebaseTick_of_step (.inl (by simp [hset])), TbSt.tick_of_set hset hadj] at htick
      exact htick
    · rw [timebaseTick_of_step (.inr (by simp [hadj])), TbSt.tick_of_adj_running hset hadj hrun] at htick
      exact htick
    · rw [timebaseTick_of_step (.inr (by simp [hadj])), TbSt.tick_of_adj_standing hset hadj hstop] at htick
      exact htick
  case snap =>
    obtain ⟨hwhole, hsecs⟩ := mf_tbCapture hns hsec
    exact ⟨_, s.run_acts tbCapture hacts, hwhole, hsecs, OnlyCells.tbCapture s.dev⟩

end Sys2Proof.Machine

/-! Prisms, the classifier and the fast path (R94, R97, R109, R127 to R130): the equation of each command. -/

namespace Sys2Proof.Machine

/-! ### FIFO_DEPTH and the counters lie outside the prisms' packets -/

@[simp] theorem Dev.syncFifo_prism (d : Dev) (n : Nat) : (d.syncFifo n).prism = d.prism := Dev.s_prism d _ _ _

@[simp] theorem Dev.bumpk_prism (d : Dev) (u : Nat) (f : Fld) : (d.bumpk u f).prism = d.prism := Dev.add_prism d _ _ _

@[simp] theorem Dev.bumpk_time (d : Dev) (u : Nat) (f : Fld) : (d.bumpk u f).time = d.time := Dev.add_time d _ _ _

/-! ### PRISM_INPUT (R97) -/

section PrismInput

variable {d : Dev} {n : Nat} {p : Pkt}

/-- Where the first element that meets `c` meets `q` too, searching and erasing by both is searching and erasing by `c`. -/
theorem find?_eraseP_and_of_find? {α : Type} {c q : α → Bool} {a : α} {l : List α} (h : l.find? c = some a) (hq : q a = true) :
    l.find? (fun x => c x && q x) = some a ∧ l.eraseP (fun x => c x && q x) = l.eraseP c := by
  induction l with
  | nil => simp at h
  | cons x xs ih =>
    cases hc : c x with
    | true =>
      obtain rfl : x = a := by simpa [hc] using h
      simp [hc, hq]
    | false => simpa [hc] using ih (by simpa [hc] using h)

/-- R97: the next packet on its way to an enabled prism with room enters its FIFO. -/
theorem prismInput_of_room (hwire : d.prism.wire.find? (fun x => x.1 = n) = some (n, p))
    (hon : d.takesWork (prismId n) = true) (hroom : d.prismDepth n < 4096) :
    prismInput n d = ({ d with prism := { d.prism with
      wire := d.prism.wire.eraseP (fun x => x.1 = n), fifo := d.prism.fifo ++ [(n, p)] } } : Dev).syncFifo n := by
  simp [prismInput, hon, hroom, hwire]

/-- R97: a received frame at a disabled prism is dropped, without an event where one was raised in the same millisecond. -/
theorem prismInput_of_disabled (hwire : d.prism.wire.find? (fun x => x.1 = n) = some (n, p))
    (hoff : d.takesWork (prismId n) = false) (hrecv : p.mg Meta.SRC_KIND = 0)
    (hdrop : d.prism.dropAt.contains (n, d.time / 1000000) = true) :
    prismInput n d = ({ d with prism := { d.prism with
      wire := d.prism.wire.eraseP (fun x => x.1 = n) } } : Dev).bumpk (prismId n) Prism.IN_DROP := by
  obtain ⟨hfind, herase⟩ := find?_eraseP_and_of_find? (q := fun x : Nat × Pkt => decide (x.2.mg Meta.SRC_KIND = 0)) hwire
    (decide_eq_true hrecv)
  have hraised : (n, d.time / 1000000) ∈ d.prism.dropAt := List.contains_iff_mem.mp hdrop
  simp [prismInput, hoff, hfind, herase, hraised]

end PrismInput

/-! ### PRISM_PARSE (R102, R109, R111) -/

section PrismParse

variable {d : Dev} {n : Nat}

/-- R111: what a parse with result `r` and END_REASON `e` counts in prism `n`. -/
def Dev.countParse (d : Dev) (n : Nat) (r : Parse) (e : Nat) : Dev :=
  let d := (d.bumpk (prismId n) Prism.PKTS).bumpk (prismId n) (endCounter e)
  let d := if 16 < r.visits then d.bumpk (prismId n) Prism.TWO_PASS else d
  if r.badOuter || r.badInner then d.bumpk (prismId n) Prism.CSUM_BAD else d

@[simp] theorem Dev.countParse_prism (d : Dev) (n : Nat) (r : Parse) (e : Nat) : (d.countParse n r e).prism = d.prism := by
  unfold Dev.countParse
  simp only [apply_ite Dev.prism, Dev.bumpk_prism, ite_self]

/-- The END_ counters lie beyond TWO_PASS. -/
theorem twoPass_le_endCounter (e : Nat) : Prism.TWO_PASS.off ≤ (endCounter e).off := by
  unfold endCounter
  split <;> decide

/-- Of the counters that follow TWO_PASS none shares a cell with a field up to PKTS. -/
theorem Dev.gk_bumpk_of_le_pkts (d : Dev) (u : Nat) {f c : Fld} (hf : f.off ≤ Prism.PKTS.off)
    (hc : Prism.TWO_PASS.off ≤ c.off) : (d.bumpk u c).gk u f = d.gk u f :=
  have hlt : f.off < c.off := Nat.lt_of_lt_of_le (Nat.lt_of_le_of_lt hf (by decide)) hc
  Dev.gk_bumpk_ne d u c f (.inl hlt.ne)

/-- Of a field up to PKTS, what a parse counts changes as much as PKTS does. -/
theorem Dev.gk_countParse (d : Dev) (n : Nat) (r : Parse) (e : Nat) {f : Fld} (hf : f.off ≤ Prism.PKTS.off) :
    (d.countParse n r e).gk (prismId n) f = (d.bumpk (prismId n) Prism.PKTS).gk (prismId n) f := by
  have hend (x : Dev) := x.gk_bumpk_of_le_pkts (prismId n) hf (twoPass_le_endCounter e)
  have htwo (x : Dev) := x.gk_bumpk_of_le_pkts (prismId n) (c := Prism.TWO_PASS) hf (by decide)
  have hsum (x : Dev) := x.gk_bumpk_of_le_pkts (prismId n) (c := Prism.CSUM_BAD) hf (by decide)
  unfold Dev.countParse
  simp only [apply_ite (fun x : Dev => x.gk (prismId n) f), hend, htwo, hsum, ite_self]

/-- A field of PRISM_CFG is as before a parse. -/
theorem Dev.gk_countParse_cfg (d : Dev) (n : Nat) (r : Parse) (e : Nat) {f : Fld} (hf : f.off = 0) :
    ((d.syncFifo n).countParse n r e).gk (prismId n) f = d.gk (prismId n) f := by
  have hcount := (d.syncFifo n).gk_countParse n r e (f := f) (hf ▸ Nat.zero_le _)
  have hpkts : ((d.syncFifo n).bumpk (prismId n) Prism.PKTS).gk (prismId n) f = (d.syncFifo n).gk (prismId n) f :=
    Dev.gk_bumpk_ne _ _ _ _ (.inl (by rw [hf]; decide))
  have hdepth : (d.syncFifo n).gk (prismId n) f = d.gk (prismId n) f := Dev.gk_sk_ne _ _ _ _ _ (.inl (by rw [hf]; decide))
  exact hcount.trans (hpkts.trans hdepth)

/-- PKTS is one higher after a parse. -/
theorem Dev.gk_countParse_pkts (d : Dev) (n : Nat) (r : Parse) (e : Nat) :
    ((d.syncFifo n).countParse n r e).gk (prismId n) Prism.PKTS = (d.gk (prismId n) Prism.PKTS + 1) % 2 ^ 64 := by
  have hdepth : (d.syncFifo n).gk (prismId n) Prism.PKTS = d.gk (prismId n) Prism.PKTS :=
    Dev.gk_sk_ne _ _ _ _ _ (.inl (by decide))
  rw [Dev.gk_countParse _ n r e (Nat.le_refl _), Dev.gk_bumpk_same _ _ _ (by decide), hdepth]
  rfl

/-- R109: by PRISM_CFG, prism `n` drops a packet whose parse has the result `r` and END_REASON `e`. -/
def Dev.parseDrops (d : Dev) (n : Nat) (r : Parse) (e : Nat) : Bool :=
  (e = 2 && d.gk (prismId n) Prism.PRISM_CFG_DROP_TRUNC = 1) || (e = 3 && d.gk (prismId n) Prism.PRISM_CFG_DROP_BADLEN = 1) ||
    ((r.badOuter || r.badInner) && d.gk (prismId n) Prism.PRISM_CFG_DROP_CSUM = 1) ||
    (e = 1 && d.gk (prismId n) Prism.PRISM_CFG_DROP_UNKNOWN = 1)

/-- PRISM_CFG is as it was once a parse is counted, and so is what the prism drops. -/
theorem Dev.parseDrops_countParse (d : Dev) (n : Nat) (r : Parse) (e : Nat) :
    ((d.syncFifo n).countParse n r e).parseDrops n r e = d.parseDrops n r e := by
  have hcfg {f : Fld} (hf : f.off = 0) := d.gk_countParse_cfg n r e hf
  rw [Dev.parseDrops, hcfg rfl, hcfg rfl, hcfg rfl, hcfg rfl, Dev.parseDrops]

/-- The device after prism `n` has taken the head of its FIFO, with FIFO_DEPTH still to follow. -/
def Dev.takeFifo (d : Dev) (n : Nat) : Dev :=
  { d with prism := { d.prism with fifo := d.prism.fifo.eraseP (fun x => x.1 = n) } }

/-- The device after packet `p` has been handed on to the classifier. -/
def Dev.toClassifier (d : Dev) (p : Pkt) : Dev := { d with prism := { d.prism with parsed := d.prism.parsed ++ [p] } }

/-- R102, R109: an enabled prism takes its FIFO's head, counts the parse and, where it does not drop the packet, hands it on. -/
theorem prismParse_of_kept {g : Graph} {p : Pkt} {r : Parse} {e : Nat} (hgraph : d.prism.graph = some g)
    (hhead : d.prism.fifo.find? (fun x => x.1 = n) = some (n, p)) (hon : d.takesWork (prismId n) = true)
    (hwalk : walk g p.data p.parseEnd 33 g.start Parse.init = (r, e)) (hkeep : d.parseDrops n r e = false) :
    prismParse n d = (((d.takeFifo n).syncFifo n).countParse n r e).toClassifier
      { p.parsed r e with prism := some (p.prism.getD n) } := by
  have hkept : (((d.takeFifo n).syncFifo n).countParse n r e).parseDrops n r e ≠ true :=
    Bool.eq_false_iff.mp (((d.takeFifo n).parseDrops_countParse n r e).trans hkeep)
  unfold prismParse
  rw [hgraph, hhead]
  refine (if_neg (by simp [hon])).trans ?_
  rw [hwalk]
  exact if_neg hkept

end PrismParse

/-! ### CLASSIFY (R130) -/

section Classifier

variable {d : Dev} {n : Nat} {p : Pkt}

/-- The device after the classifier has taken the next packet that prism `n` handed on. -/
def Dev.takeParsed (d : Dev) (n : Nat) : Dev :=
  { d with prism := { d.prism with parsed := d.prism.parsed.eraseP (fun p => p.prism = some n) } }

/-- R130: the packet with the flow hash and order key that the classifier writes. -/
def Pkt.classified (p : Pkt) : Pkt :=
  (p.ms Meta.FLOW_HASH (hashA 0 p.flowKey)).ms Meta.ORDER_KEY (hashA 0 p.flowKey % 256)

/-- R130: a received packet goes to the engine hitch bound to its port and class. -/
theorem classify_of_bound (hnext : d.prism.parsed.find? (fun p => p.prism = some n) = some p)
    (hrecv : p.classified.mg Meta.SRC_KIND = 0) {u : Nat}
    (hbound : (d.takeParsed n).portBinding (p.classified.mg Meta.SRC_ID) (p.classified.mg Meta.CLASS) = some u) :
    classify n d = (d.takeParsed n).toSwitch p.classified ((d.takeParsed n).inputOf p.classified) (.hitch u) := by
  simp only [Dev.takeParsed, Pkt.classified] at hrecv hbound ⊢
  simp only [classify, hnext, hrecv, hbound, if_true]

/-- R130: a received packet whose port and class are bound to no engine hitch goes to the fast path. -/
theorem classify_of_unbound (hnext : d.prism.parsed.find? (fun p => p.prism = some n) = some p)
    (hrecv : p.classified.mg Meta.SRC_KIND = 0)
    (hbound : (d.takeParsed n).portBinding (p.classified.mg Meta.SRC_ID) (p.classified.mg Meta.CLASS) = none) :
    classify n d = (d.takeParsed n).toFast p.classified := by
  simp only [Dev.takeParsed, Pkt.classified] at hrecv hbound ⊢
  simp only [classify, hnext, hrecv, hbound, if_true]

end Classifier

/-! ### LOOKUP and FASTPATH_DECIDE (R127 to R129) -/

section FastPath

variable {d : Dev}

/-- R127: the oldest lookup of a home tile, where an engine asked for it, is answered to that engine. -/
theorem lookup_of_engine {m pe th sl : Nat} {r : LookReq} {e : Dev} {a : TblAns}
    (hnext : d.tbl.looks.find? (fun r => homeTile r.table = m) = some r) (hsrc : r.src = .engine pe th sl)
    (hans : ({ d with tbl := { d.tbl with
      looks := d.tbl.looks.eraseP (fun r => homeTile r.table = m) } } : Dev).lookEngine r pe th sl = (e, a)) :
    lookup m d = { e with tbl := { e.tbl with answers := e.tbl.answers ++ [a] } } := by
  simp only [lookup, hnext, hsrc, hans]

/-- The device after packet `f` has left the fast path. -/
def Dev.takeFast (d : Dev) (f : FastPkt) : Dev :=
  { d with tbl := { d.tbl with fast := d.tbl.fast.filter (fun (x : FastPkt) => x.id ≠ f.id) } }

variable {f : FastPkt} (hnext : d.tbl.fast.find? (fun f => f.decide ≠ .wait) = some f)
include hnext

/-- R128, R129: an action word that step 1 found is carried out, without learning. -/
theorem fastpathDecide_of_act {w : Nat} (hact : f.decide = .act 1 w) :
    fastpathDecide d = ((d.takeFast f).srcLookup f false).fastAction f.pkt w := by
  simp only [fastpathDecide, hnext, hact]
  rfl

/-- R129: a packet that nothing matched is dropped once its source lookup has asked for learning. -/
theorem fastpathDecide_of_noMatch (hdrop : f.decide = .drop 4) :
    fastpathDecide d = ((d.takeFast f).srcLookup f true).swBump Sw.FASTPATH_DROP := by
  simp only [fastpathDecide, hnext, hdrop]
  rfl

/-- R129: a packet that its L2 entry would send to its own source is dropped. -/
theorem fastpathDecide_of_ownSource {port queue : Nat} (hl2 : f.decide = .l2 port queue)
    (hown : ((d.takeFast f).srcLookup f true).ownSource f.pkt port queue = true) :
    fastpathDecide d = ((d.takeFast f).srcLookup f true).swBump Sw.FASTPATH_DROP := by
  simp only [Dev.takeFast] at hown ⊢
  simp only [fastpathDecide, hnext, hl2, hown, if_true]

end FastPath

/-- Settles O18: each clause is the equation of its command; counting a parse leaves PRISM_CFG alone, so nothing is dropped. -/
theorem prismsClassifierAndFastPath : Obligations.PrismsClassifierAndFastPath := by
  intro s n hacts
  refine ⟨fun p hwire => ⟨fun hon hroom => State.run_acts_eq hacts (prismInput_of_room hwire hon hroom),
      fun hoff hrecv hdrop => State.run_acts_eq hacts (prismInput_of_disabled hwire hoff hrecv hdrop)⟩,
    ?parse, ?classify,
    fun r pe th sl d a hnext hsrc hans => State.run_acts_eq hacts (lookup_of_engine hnext hsrc hans), ?fast⟩
  case parse =>
    intro g p r e hgraph hhead hon hwalk htrunc hbad hcsum hunknown
    have hkeep : s.dev.parseDrops n r e = false := by simp [Dev.parseDrops, htrunc, hbad, hcsum, hunknown]
    refine ⟨_, State.run_acts_eq hacts (prismParse_of_kept hgraph hhead hon hwalk hkeep), ?_, ?_,
      Dev.gk_countParse_pkts (s.dev.takeFifo n) n r e⟩
    · simp [Dev.toClassifier, Dev.takeFifo]
    · simp [Dev.toClassifier, Dev.takeFifo]
  case classify =>
    rintro p q hnext rfl hrecv d rfl
    exact ⟨fun u hbound => State.run_acts_eq hacts (classify_of_bound hnext hrecv hbound),
      fun hbound => State.run_acts_eq hacts (classify_of_unbound hnext hrecv hbound)⟩
  case fast =>
    rintro f d hnext rfl
    exact ⟨fun w hact => State.run_acts_eq hacts (fastpathDecide_of_act hnext hact),
      fun hdrop => State.run_acts_eq hacts (fastpathDecide_of_noMatch hnext hdrop),
      fun port queue hl2 hown => State.run_acts_eq hacts (fastpathDecide_of_ownSource hnext hl2 hown)⟩

end Sys2Proof.Machine

/-! The table interface of a match tile (R131, R132): a write of TBL_CMD queues its request, or sets OVERRUN. -/

namespace Sys2Proof.Machine

section TableInterface

variable {d : Dev} {m id op evt : Nat} {req : Dev → TblReq}

/-- R131: a write of TBL_CMD is taken: its fields and BUSY are in place. -/
def Dev.tblStarted (d : Dev) (m id op evt : Nat) : Dev :=
  (((d.sk (matchId m) Match.TBL_CMD_TABLE_ID id).sk (matchId m) Match.TBL_CMD_OP op).sk (matchId m)
    Match.TBL_CMD_EVT evt).sk (matchId m) Match.TBL_STATUS_BUSY 1

/-- A change of cells is the same under other tables. -/
theorem OnlyCells.withTbl {e : Dev} {ks : List Nat} (h : OnlyCells d e ks) (t : MatchSt) :
    OnlyCells { d with tbl := t } { e with tbl := t } ks :=
  ⟨congrArg (fun x : Dev => ({ x with tbl := t } : Dev)) h.1, h.2⟩

/-- The four fields lie in two cells. -/
theorem OnlyCells.tblStarted (d : Dev) (m id op evt : Nat) : OnlyCells d (d.tblStarted m id op evt)
    [rkey (matchId m) Match.TBL_CMD_OP.kind.off, rkey (matchId m) Match.TBL_STATUS_BUSY.kind.off] :=
  (((OnlyCells.s d (matchId m) Match.TBL_CMD_TABLE_ID.kind id).then_s _ Match.TBL_CMD_OP.kind op (.head _)).then_s _
    Match.TBL_CMD_EVT.kind evt (.head _)).trans (OnlyCells.s _ _ _ _)

theorem Dev.gk_tblStarted_tableId (d : Dev) (m id op evt : Nat) :
    (d.tblStarted m id op evt).gk (matchId m) Match.TBL_CMD_TABLE_ID = id % 2 ^ 16 := by
  rw [Dev.tblStarted, Dev.gk_sk_ne _ _ _ _ _ (by decide), Dev.gk_sk_ne _ _ _ _ _ (by decide),
    Dev.gk_sk_ne _ _ _ _ _ (by decide)]
  exact Dev.gk_sk_same _ _ _ _ (by decide)

theorem Dev.gk_tblStarted_op (d : Dev) (m id evt : Nat) {op : Nat} (hop : op < 16) :
    (d.tblStarted m id op evt).gk (matchId m) Match.TBL_CMD_OP = op := by
  rw [Dev.tblStarted, Dev.gk_sk_ne _ _ _ _ _ (by decide), Dev.gk_sk_ne _ _ _ _ _ (by decide)]
  exact (Dev.gk_sk_same _ _ _ _ (by decide)).trans (Nat.mod_eq_of_lt hop)

theorem Dev.gk_tblStarted_evt (d : Dev) (m id op evt : Nat) :
    (d.tblStarted m id op evt).gk (matchId m) Match.TBL_CMD_EVT = evt % 2 := by
  rw [Dev.tblStarted, Dev.gk_sk_ne _ _ _ _ _ (by decide)]
  exact Dev.gk_sk_same _ _ _ _ (by decide)

theorem Dev.gk_tblStarted_busy (d : Dev) (m id op evt : Nat) :
    (d.tblStarted m id op evt).gk (matchId m) Match.TBL_STATUS_BUSY = 1 := Dev.gk_sk_same _ _ _ _ (by decide)

/-- The other registers of the interface read as before. -/
theorem Dev.gk_tblStarted_ne (d : Dev) (m id op evt : Nat) {f : Fld} (hcmd : f.off ≠ Match.TBL_CMD_OP.off)
    (hst : f.off ≠ Match.TBL_STATUS_BUSY.off) : (d.tblStarted m id op evt).gk (matchId m) f = d.gk (matchId m) f := by
  rw [Dev.tblStarted, Dev.gk_sk_ne _ _ _ _ _ (.inl hst), Dev.gk_sk_ne _ _ Match.TBL_CMD_EVT _ _ (.inl hcmd),
    Dev.gk_sk_ne _ _ _ _ _ (.inl hcmd), Dev.gk_sk_ne _ _ Match.TBL_CMD_TABLE_ID _ _ (.inl hcmd)]

@[simp] theorem Dev.tblIndex_tblStarted (d : Dev) (m id op evt : Nat) :
    (d.tblStarted m id op evt).tblIndex m = d.tblIndex m := d.gk_tblStarted_ne m id op evt (by decide) (by decide)

@[simp] theorem Dev.tblData_tblStarted (d : Dev) (m id op evt : Nat) :
    (d.tblStarted m id op evt).tblData m = d.tblData m := by
  have hword (k : Nat) : (d.tblStarted m id op evt).gk (matchId m) (Match.TBL_DATA_W k) =
      d.gk (matchId m) (Match.TBL_DATA_W k) :=
    d.gk_tblStarted_ne m id op evt (by simp [Match.TBL_DATA_W, Match.TBL_CMD_OP])
      (by simp only [Match.TBL_DATA_W, Match.TBL_STATUS_BUSY]; omega)
  simp only [Dev.tblData, hword]

@[simp] theorem Dev.tblStarted_tbl (d : Dev) (m id op evt : Nat) : (d.tblStarted m id op evt).tbl = d.tbl := by
  simp only [Dev.tblStarted, Dev.sk_eq, Dev.s_tbl]

/-- A change waits at its home tile, whose region has not been woken yet. -/
def Dev.queueChange (d : Dev) (c : TblChg) : Dev := { d with tbl := { d.tbl with changes := d.tbl.changes ++ [c] } }

/-- A waiting change is no register. -/
@[simp] theorem Dev.gk_queueChange (d : Dev) (c : TblChg) (u : Nat) (f : Fld) : (d.queueChange c).gk u f = d.gk u f :=
  Dev.g_congr rfl u f.kind

/-- R131: while BUSY is 0 the command is taken, and its request waits at the table's home tile. -/
theorem Dev.tblCmd_of_idle (h : d.gk (matchId m) Match.TBL_STATUS_BUSY = 0) : d.tblCmd m id op evt req =
    ((d.tblStarted m id op evt).queueChange { src := .iface m, table := id, req := req (d.tblStarted m id op evt) }).wakeUnit
      (matchId (homeTile id)) := by
  have hidle : d.gk (matchId m) Match.TBL_STATUS_BUSY ≠ 1 := by omega
  exact if_neg hidle

/-- R131: while BUSY is 1 a write of TBL_CMD sets OVERRUN. -/
theorem Dev.tblCmd_of_busy (h : d.gk (matchId m) Match.TBL_STATUS_BUSY = 1) :
    d.tblCmd m id op evt req = d.sk (matchId m) Match.TBL_STATUS_OVERRUN 1 := if_pos h

/-- R132: a table command is a write of TBL_CMD whose request the device spells once its fields are in place, as before. -/
theorem exec_eq_tblCmd_of_tblOp {s : State} {i : Instr} {r : TblReq} (h : tblOp s.dev i = some (m, id, evt, op, r)) :
    op < 16 ∧ ∃ req : Dev → TblReq, exec i s = s.run (fun d => d.tblCmd m id op evt req) ∧
      req (s.dev.tblStarted m id op evt) = r := by
  unfold tblOp at h
  split at h
  case h_10 => cases h
  all_goals
    cases h
    exact ⟨by decide, _, rfl, by simp only [Dev.tblIndex_tblStarted, Dev.tblData_tblStarted]⟩

end TableInterface

/-- Settles O19: the nine commands are one write of TBL_CMD, read while BUSY is 0 and while it is 1. -/
theorem tableCommandsWaitAtTheirMatchTile : Obligations.TableCommandsWaitAtTheirMatchTile := by
  intro s i m id evt op r hacts hop
  obtain ⟨hlt, req, hexec, hreq⟩ := exec_eq_tblCmd_of_tblOp hop
  rw [hexec]
  refine ⟨fun hidle => ?idle, fun hbusy => State.run_acts_eq hacts (Dev.tblCmd_of_busy hbusy)⟩
  case idle =>
    refine ⟨(s.dev.tblStarted m id op evt).queueChange { src := .iface m, table := id, req := r },
      State.run_acts_eq hacts (hreq ▸ Dev.tblCmd_of_idle hidle), ?_, ?_, ?_, ?_,
      by simp only [Dev.queueChange, Dev.tblStarted_tbl], (OnlyCells.tblStarted s.dev m id op evt).withTbl _⟩
    · rw [Dev.gk_queueChange, Dev.gk_tblStarted_tableId]
    · rw [Dev.gk_queueChange, Dev.gk_tblStarted_op _ _ _ _ hlt]
    · rw [Dev.gk_queueChange, Dev.gk_tblStarted_evt]
    · rw [Dev.gk_queueChange, Dev.gk_tblStarted_busy]

end Sys2Proof.Machine

/-! The step of a home tile (R132 to R135, R185): a waiting change is applied and answered. -/

namespace Sys2Proof.Machine

section TableChanges

variable {d : Dev} {m : Nat} {c : TblChg} {t : Tbl}

/-- The device after home tile `m` has taken the oldest change that waits there. -/
def Dev.takeChange (d : Dev) (m : Nat) : Dev :=
  { d with tbl := { d.tbl with changes := d.tbl.changes.eraseP (fun x => homeTile x.table = m) } }

/-- An answer is on its way. -/
def Dev.answer (d : Dev) (a : TblAns) : Dev := { d with tbl := { d.tbl with answers := d.tbl.answers ++ [a] } }

/-- R133: a home tile takes its oldest change, applies it alone, and answers it unless it is a CNT. -/
theorem tableChangeStep_of_answered (hnext : d.tbl.changes.find? (fun c => homeTile c.table = m) = some c)
    (hcnt : ∀ i bytes, c.req ≠ .cnt i bytes) {e : Dev} {a : TblAns} (happ : (d.takeChange m).tblApply c = (e, a)) :
    tableChangeStep m d = e.answer a := by
  simp only [Dev.takeChange] at happ
  simp only [tableChangeStep, hnext, happ]
  split
  · exact absurd ‹_› (hcnt _ _)
  · rfl

section Apply

variable (htbl : d.table c.table = some t) (hon : t.offline = false)
  (hkind : (keyed t.kind || arrayKind t.kind) = true) (hmay : mayAlter c.src t = true)
include htbl hon hkind hmay

/-- R132: READ of a valid, undamaged entry answers its words. -/
theorem Dev.tblApply_read {i : Nat} (hreq : c.req = .read i) (hst : d.indexSt t i = Sc.ok) :
    d.tblApply c = (d, ansOk c.src none (d.entry t i)) := by
  simp [Dev.tblApply, htbl, hon, hkind, hmay, hreq, hst]

omit hkind in
/-- R132: DELETE of a stored key removes its entry, counts it and answers its index. -/
theorem Dev.tblApply_delete {ws : List Word} {i : Nat} (hreq : c.req = .delete ws) (hkeyed : keyed t.kind = true)
    (hfits : t.keyFits ws = true) (hfind : d.findKey t (t.keyOf ws) (t.plenOf ws) = some i) :
    d.tblApply c = ((d.tblRemove t i).tstat t.id 3 1, ansOk c.src (some i) []) := by
  simp [Dev.tblApply, htbl, hon, hmay, hreq, hkeyed, hfits, Dev.tblDelete, hfind]

/-- R185: ATOM of a valid, undamaged entry stores the new word and answers the old one. -/
theorem Dev.tblApply_atom {fn i first a b : Nat} (hreq : c.req = .atom fn i first a b) (hatom : atomOk t first = true)
    (hgood : t.entryBad i = false) (hval : d.evalid t i = true) : d.tblApply c =
      (d.putEntry t i first [BitVec.ofNat 64 (atomNew fn ((d.entry t i).getD first 0).toNat a b)],
        ansOk c.src (some i) [(d.entry t i).getD first 0]) := by
  simp [Dev.tblApply, htbl, hon, hkind, hmay, hreq, hatom, hgood, hval]

end Apply

end TableChanges

/-! ### TBL_CMD_DONE (R131, R132) -/

section CommandDone

variable {d : Dev} {m : Nat}

/-- The device after the interface of tile `m` has taken its answer. -/
def Dev.takeAnswer (d : Dev) (m : Nat) : Dev :=
  { d with tbl := { d.tbl with answers := d.tbl.answers.filter (fun a => a.src ≠ TblSrc.iface m) } }

/-- R132: the first `n` of the words `ws` are in TBL_DATA. -/
def Dev.putTblData (d : Dev) (m : Nat) (ws : List Word) (n : Nat) : Dev :=
  (List.range n).foldl (fun (d : Dev) k => d.sk (matchId m) (Match.TBL_DATA_W k) (ws.getD k 0).toNat) d

theorem Dev.putTblData_succ (d : Dev) (m : Nat) (ws : List Word) (n : Nat) : d.putTblData m ws (n + 1) =
    (d.putTblData m ws n).sk (matchId m) (Match.TBL_DATA_W n) (ws.getD n 0).toNat := by
  simp only [Dev.putTblData, List.range_succ, List.foldl_append, List.foldl_cons, List.foldl_nil]

/-- A register below TBL_DATA reads as before. -/
theorem Dev.gk_putTblData_of_lt (d : Dev) (m : Nat) (ws : List Word) (n : Nat) {f : Fld} (hf : f.off < 0x100) :
    (d.putTblData m ws n).gk (matchId m) f = d.gk (matchId m) f := by
  induction n with
  | zero => rfl
  | succ n ih =>
    have hne : f.off ≠ (Match.TBL_DATA_W n).off := by simp only [Match.TBL_DATA_W]; omega
    rw [Dev.putTblData_succ, Dev.gk_sk_ne _ _ _ _ _ (.inl hne), ih]

/-- R132: each word of TBL_DATA that was stored reads back. -/
theorem Dev.gk_putTblData_word (d : Dev) (m : Nat) (ws : List Word) {n k : Nat} (hk : k < n) :
    (d.putTblData m ws n).gk (matchId m) (Match.TBL_DATA_W k) = (ws.getD k 0).toNat := by
  induction n with
  | zero => omega
  | succ n ih =>
    rw [Dev.putTblData_succ]
    by_cases hkn : k = n
    · subst hkn
      exact (Dev.gk_sk_same _ _ _ _ (Nat.le_refl _)).trans (Nat.mod_eq_of_lt (BitVec.isLt _))
    · have hne : (Match.TBL_DATA_W k).off ≠ (Match.TBL_DATA_W n).off := by simp only [Match.TBL_DATA_W]; omega
      rw [Dev.gk_sk_ne _ _ _ _ _ (.inl hne), ih (by omega)]

/-- R132: TBL_INDEX takes the index that an answer has. -/
def Dev.putTblIndex (d : Dev) (m : Nat) (i : Option Nat) : Dev :=
  match i with
  | some i => d.sk (matchId m) Match.TBL_INDEX_INDEX i
  | none => d

theorem Dev.gk_putTblIndex_ne (d : Dev) (m : Nat) (i : Option Nat) {f : Fld} (hf : f.off ≠ Match.TBL_INDEX_INDEX.off) :
    (d.putTblIndex m i).gk (matchId m) f = d.gk (matchId m) f := by
  cases i with
  | none => rfl
  | some i => exact Dev.gk_sk_ne _ _ _ _ _ (.inl hf)

/-- R131: BUSY falls and RESULT is set. -/
def Dev.tblEnded (d : Dev) (m st : Nat) : Dev :=
  (d.sk (matchId m) Match.TBL_STATUS_BUSY 0).sk (matchId m) Match.TBL_STATUS_RESULT st

theorem Dev.gk_tblEnded_busy (d : Dev) (m st : Nat) : (d.tblEnded m st).gk (matchId m) Match.TBL_STATUS_BUSY = 0 := by
  rw [Dev.tblEnded, Dev.gk_sk_ne _ _ _ _ _ (by decide), Dev.gk_sk_same _ _ _ _ (by decide), Nat.zero_mod]

theorem Dev.gk_tblEnded_result (d : Dev) (m st : Nat) :
    (d.tblEnded m st).gk (matchId m) Match.TBL_STATUS_RESULT = st % 2 ^ 8 := Dev.gk_sk_same _ _ _ _ (by decide)

theorem Dev.gk_tblEnded_ne (d : Dev) (m st : Nat) {f : Fld} (hf : f.off ≠ Match.TBL_STATUS_BUSY.off) :
    (d.tblEnded m st).gk (matchId m) f = d.gk (matchId m) f := by
  rw [Dev.tblEnded, Dev.gk_sk_ne _ _ Match.TBL_STATUS_RESULT _ _ (.inl hf), Dev.gk_sk_ne _ _ _ _ _ (.inl hf)]

/-- R131, R132: the answer of interface `m` is in place. -/
def Dev.putAnswer (d : Dev) (m : Nat) (a : TblAns) : Dev :=
  (((d.takeAnswer m).putTblData m a.words a.words.length).putTblIndex m a.index).tblEnded m a.status

/-- EVT is as it was. -/
theorem Dev.gk_putAnswer_evt (d : Dev) (m : Nat) (a : TblAns) :
    (d.putAnswer m a).gk (matchId m) Match.TBL_CMD_EVT = d.gk (matchId m) Match.TBL_CMD_EVT := by
  rw [Dev.putAnswer, Dev.gk_tblEnded_ne _ _ _ (by decide), Dev.gk_putTblIndex_ne _ _ _ (by decide),
    Dev.gk_putTblData_of_lt _ _ _ _ (by decide)]
  exact Dev.g_congr rfl _ _

/-- R132: TBL_DATA holds the words answered. -/
theorem Dev.gk_putAnswer_word (d : Dev) (m : Nat) (a : TblAns) {k : Nat} (hk : k < a.words.length) :
    (d.putAnswer m a).gk (matchId m) (Match.TBL_DATA_W k) = (a.words.getD k 0).toNat := by
  have hst : (Match.TBL_DATA_W k).off ≠ Match.TBL_STATUS_BUSY.off := by
    simp only [Match.TBL_DATA_W, Match.TBL_STATUS_BUSY]; omega
  have hidx : (Match.TBL_DATA_W k).off ≠ Match.TBL_INDEX_INDEX.off := by
    simp only [Match.TBL_DATA_W, Match.TBL_INDEX_INDEX]; omega
  rw [Dev.putAnswer, Dev.gk_tblEnded_ne _ _ _ hst, Dev.gk_putTblIndex_ne _ _ _ hidx, Dev.gk_putTblData_word _ _ _ hk]

/-- R131, R132: with EVT 0 TBL_CMD_DONE puts the answer in place, and raises nothing. -/
theorem tblCmdDone_of_quiet {a : TblAns} (hnext : d.tbl.answers.find? (fun a => a.src = TblSrc.iface m) = some a)
    (hevt : d.gk (matchId m) Match.TBL_CMD_EVT = 0) : tblCmdDone m d = d.putAnswer m a := by
  have hquiet : (d.putAnswer m a).gk (matchId m) Match.TBL_CMD_EVT ≠ 1 := by rw [Dev.gk_putAnswer_evt, hevt]; decide
  unfold tblCmdDone
  rw [hnext]
  exact if_neg hquiet

end CommandDone

/-! ### LEARN_APPLY (R123, R133) -/

section LearnApply

variable {d : Dev} {m : Nat}

/-- The device after request `r` has left its learn FIFO. -/
def Dev.takeLearn (d : Dev) (r : LearnReq) : Dev := { d with tbl := { d.tbl with learn := d.tbl.learn.filter (· ≠ r) } }

/-- R133: learn requests wait behind commands and engine changes. -/
theorem learnApply_of_waiting (h : d.changesWait m = true) : learnApply m d = d := by
  simp only [learnApply, h, if_true]

variable {r : LearnReq} {t : Tbl} (hwait : d.changesWait m = false)
  (hnext : d.tbl.learn.find? (fun r => homeTile r.table = m) = some r) (htbl : (d.takeLearn r).table r.table = some t)
include hwait hnext htbl

/-- R123: the oldest request of a table that does not learn is dropped, uncounted. -/
theorem learnApply_of_not_learning (hl : t.learns = false) : learnApply m d = d.takeLearn r := by
  simp only [Dev.takeLearn] at htbl ⊢
  simp only [learnApply, hwait, hnext, htbl, hl, Bool.false_eq_true, if_false, Bool.not_false, if_true]

/-- R123: the oldest request is inserted and counted. -/
theorem learnApply_of_inserted (hl : t.learns = true) {e : Dev} {i : Nat}
    (hins : (d.takeLearn r).tblInsert t (learnEntry r) = (e, .ok i)) : learnApply m d = e.tstat t.id 5 1 := by
  simp only [Dev.takeLearn] at htbl hins
  simp only [learnApply, hwait, hnext, htbl, hl, hins, Bool.false_eq_true, if_false, Bool.not_true]

/-- R123: a request that cannot be inserted is dropped and counted. -/
theorem learnApply_of_refused (hl : t.learns = true) {e : Dev} {st : Nat}
    (hins : (d.takeLearn r).tblInsert t (learnEntry r) = (e, .error st)) : learnApply m d = e.learnDrop t.id := by
  simp only [Dev.takeLearn] at htbl hins
  simp only [learnApply, hwait, hnext, htbl, hl, hins, Bool.false_eq_true, if_false, Bool.not_true]

end LearnApply

/-! ### MOVE_WINDOW (R124) -/

/-- R124: at the end of a window a table's entry has no moves, and is damped on only where one was attempted. -/
theorem moveWindow_of_single {d : Dev} {m i : Nat} {t : Tbl}
    (htbl : d.tbl.tables.filter (fun t => t.kind = 2 && homeTile t.id = m) = [t]) (hent : d.entries t = [i]) :
    moveWindow m d = (if t.attempts.contains i then d.es t i L2.MOVE_COUNT 0
      else (d.es t i L2.MOVE_COUNT 0).es t i L2.DAMPED 0).setTbl t.id (fun (t : Tbl) => { t with attempts := [] }) := by
  simp only [moveWindow, htbl, hent, List.foldl_cons, List.foldl_nil]

/-! ### AGE_VISIT (R133, R137) -/

section AgeVisit

variable {d : Dev} {id i : Nat} {t : Tbl}

/-- A table that stands under an ID has it. -/
theorem Dev.id_of_table (h : d.table id = some t) : t.id = id := by simpa using List.find?_some h

/-- A table's record that is put in place and then changed is put in place as changed. -/
theorem Dev.setTbl_const_setTbl (d : Dev) (hid : t.id = id) (f : Tbl → Tbl) :
    (d.setTbl id (fun _ => t)).setTbl id f = d.setTbl id (fun _ => f t) := by
  have hone (u : Tbl) : (if (if u.id = id then t else u).id = id then f (if u.id = id then t else u)
      else (if u.id = id then t else u)) = if u.id = id then f t else u := by
    by_cases hu : u.id = id <;> simp [hu, hid]
  simp only [Dev.setTbl, List.map_map, Function.comp_def, hone]

/-- R137: the sweeper of table `id`, whose record is `t`, has gone on to its next position. -/
def Dev.sweepOn (d : Dev) (id : Nat) (t : Tbl) : Dev :=
  d.setTbl id (fun _ => { t with sweepPos := (t.sweepPos + 1) % t.positions.1 })

/-- R137: what a visit does to entry `i` of table `t`, which is neither static nor damaged. -/
def Dev.ageEntry (d : Dev) (t : Tbl) (id i : Nat) : Dev :=
  if d.eg t i (hitFld t.kind) = 1 then (d.es t i (hitFld t.kind) 0).es t i (markFld t.kind) 0
  else if d.eg t i (markFld t.kind) = 0 then d.es t i (markFld t.kind) 1
  else if t.ctl TblCtl.FROZEN = 1 then d
  else (((d.tblRemove t i).tstat id 4 1).setTbl id (fun (t : Tbl) => { t with agedN := t.agedN + 1 })).agedEvent id

/-- Entries do not hang on the records of the tables. -/
@[simp] theorem Dev.eg_sweepOn (d : Dev) (id : Nat) (t u : Tbl) (i : Nat) (f : CFld) :
    (d.sweepOn id t).eg u i f = d.eg u i f := by
  simp only [Dev.eg, Dev.sweepOn, Dev.setTbl_cg]

@[simp] theorem Dev.evalid_sweepOn (d : Dev) (id : Nat) (t u : Tbl) (i : Nat) :
    (d.sweepOn id t).evalid u i = d.evalid u i := by
  simp only [Dev.evalid, Dev.eg_sweepOn]

/-- R133, R137: within a period, and with no change waiting, the sweeper goes on, and ages a valid entry that is neither static
nor damaged. -/
theorem ageVisit_of_visited (htbl : d.table id = some t) (hkind : t.kind = 1 ∨ t.kind = 2) (hsweep : t.sweeping = true)
    (hwait : d.changesWait (homeTile id) = false) (hpos : t.sweepPos ≠ 0) (hi : i = t.positions.2 + t.sweepPos)
    (hval : d.evalid t i = true) (hstatic : d.eg t i (staticFld t.kind) = 0) (hgood : t.entryBad i = false) :
    ageVisit id d = (d.sweepOn id t).ageEntry t id i := by
  have hwait' : (d.setTbl id (fun _ => t)).changesWait (homeTile id) = false := hwait
  have hgoes : (!(decide (t.kind = 1) || decide (t.kind = 2)) || !t.sweeping ||
      (d.setTbl id (fun _ => t)).changesWait (homeTile id)) = false := by
    rcases hkind with hkind | hkind <;> simp [hkind, hsweep, hwait']
  have hages : (!(d.sweepOn id t).evalid t i || decide ((d.sweepOn id t).eg t i (staticFld t.kind) = 1) ||
      t.entryBad i) = false := by
    simp [hval, hstatic, hgood]
  subst hi
  simp only [ageVisit, htbl, if_neg hpos, hgoes, Bool.false_eq_true, if_false, d.setTbl_const_setTbl (Dev.id_of_table htbl)]
  exact if_neg (Bool.eq_false_iff.mp hages)

/-- R137: an entry that was hit loses HIT and AGE_MARK. -/
theorem Dev.ageEntry_of_hit (h : d.eg t i (hitFld t.kind) = 1) :
    d.ageEntry t id i = (d.es t i (hitFld t.kind) 0).es t i (markFld t.kind) 0 := if_pos h

variable (hhit : d.eg t i (hitFld t.kind) = 0)
include hhit

/-- R137: an entry that was not hit is marked. -/
theorem Dev.ageEntry_of_unmarked (h : d.eg t i (markFld t.kind) = 0) : d.ageEntry t id i = d.es t i (markFld t.kind) 1 := by
  simp [Dev.ageEntry, hhit, h]

/-- R137: a marked entry that was not hit is removed and counted in AGED, unless the table is frozen. -/
theorem Dev.ageEntry_of_marked (h : d.eg t i (markFld t.kind) = 1) (hf : t.ctl TblCtl.FROZEN = 0) : d.ageEntry t id i =
    (((d.tblRemove t i).tstat id 4 1).setTbl id (fun (t : Tbl) => { t with agedN := t.agedN + 1 })).agedEvent id := by
  simp [Dev.ageEntry, hhit, h, hf]

end AgeVisit

/-- Settles O20: each clause is the equation of its command; TBL_DATA reads back word by word. -/
theorem tableChangesAreTakenOneByOne : Obligations.TableChangesAreTakenOneByOne := by
  intro s m hacts
  refine ⟨?change, ?done, fun hwait => State.run_acts_eq hacts (learnApply_of_waiting hwait), ?learn,
    fun t i htbl hent => State.run_acts_eq hacts (moveWindow_of_single htbl hent), ?age⟩
  case change =>
    rintro c t d hnext htbl hon rfl
    have hstep {e : Dev} {a : TblAns} (hcnt : ∀ i bytes, c.req ≠ .cnt i bytes)
        (happ : (s.dev.takeChange m).tblApply c = (e, a)) : exec (.tableChangeStep m) s = s.next (e.answer a) :=
      State.run_acts_eq hacts (tableChangeStep_of_answered hnext hcnt happ)
    have htbl' : (s.dev.takeChange m).table c.table = some t := htbl
    refine ⟨fun i n hsrc hreq hkind hst => ?read, fun i n ws hsrc hreq hkeyed hfits hfind => ?delete,
      fun i first a b pe th sl owner hsrc hreq hmay hatom hgood hval hkind => ?atom⟩
    case read =>
      exact hstep (by simp [hreq]) (Dev.tblApply_read htbl' hon hkind (by simp [hsrc, mayAlter]) hreq hst)
    case delete =>
      exact hstep (by simp [hreq]) (Dev.tblApply_delete htbl' hon (by simp [hsrc, mayAlter]) hreq hkeyed hfits hfind)
    case atom =>
      exact hstep (by simp [hreq]) (Dev.tblApply_atom htbl' hon hkind hmay hreq hatom hgood hval)
  case done =>
    intro a hnext _ hevt
    exact ⟨_, State.run_acts_eq hacts (tblCmdDone_of_quiet hnext hevt), Dev.gk_tblEnded_busy _ _ _,
      Dev.gk_tblEnded_result _ _ _, fun k hk => s.dev.gk_putAnswer_word m a hk⟩
  case learn =>
    rintro r t d hwait hnext htbl rfl
    exact ⟨fun hl => State.run_acts_eq hacts (learnApply_of_not_learning hwait hnext htbl hl),
      fun e i hl hins => State.run_acts_eq hacts (learnApply_of_inserted hwait hnext htbl hl hins),
      fun e st hl hins => State.run_acts_eq hacts (learnApply_of_refused hwait hnext htbl hl hins)⟩
  case age =>
    rintro id i t d htbl hkind hsweep hwait hpos hi hval hstatic hgood rfl
    rw [s.dev.setTbl_const_setTbl (Dev.id_of_table htbl)]
    have hstep {e : Dev} (he : (s.dev.sweepOn id t).ageEntry t id i = e) : exec (.ageVisit id) s = s.next e :=
      State.run_acts_eq hacts ((ageVisit_of_visited htbl hkind hsweep hwait hpos hi hval hstatic hgood).trans he)
    have hread (f : CFld) := s.dev.eg_sweepOn id t t i f
    exact ⟨fun hhit => hstep (Dev.ageEntry_of_hit ((hread _).trans hhit)),
      fun hhit hmark => hstep (Dev.ageEntry_of_unmarked ((hread _).trans hhit) ((hread _).trans hmark)),
      fun hhit hmark hf => hstep (Dev.ageEntry_of_marked ((hread _).trans hhit) ((hread _).trans hmark) hf)⟩

end Sys2Proof.Machine

/-! Issue (R143, R145, R146, R169): what the instruction that a PE is to issue next does. -/

namespace Sys2Proof.Machine

section Issue

variable {d : Dev} {n t : Nat} {i : EngInst}

/-- The round robin of a PE is none of its threads. -/
theorem Dev.thr_setPe_last (d : Dev) (n t : Nat) :
    (d.setPe n (fun (p : PeSt) => { p with last := t })).thr n t = d.thr n t := by
  simp only [Dev.thr, Dev.pe, Dev.setPe, updAt, List.getD_eq_getElem?_getD, List.getElem?_modify_eq]
  cases d.pes[n]? <;> rfl

/-- R143, R145, R146, R169: what it takes for thread `t` to issue instruction `i` next. -/
theorem Dev.issues_iff : d.issues n t i = true ↔ ((d.promote n).pe n).nextThread = some t ∧
    (d.atIssue n t).peRuns n = true ∧ ((d.promote n).thr n t).pc < 0x10000 ∧
    ((d.atIssue n t).pe n).badCode.contains (((d.promote n).thr n t).pc / 8) = false ∧
    decodeInst ((d.atIssue n t).fetchWord n ((d.promote n).thr n t).pc) = some i ∧
    ((d.promote n).thr n t).mustWait i = false := by
  simp only [Dev.issues, Bool.and_eq_true, decide_eq_true_eq, Bool.not_eq_true', and_assoc]

/-- R143: the instruction at the PC of the next thread, where it may issue, is carried out, and PE_STATUS follows. -/
theorem issue_of_issues (h : d.issues n t i = true) : issue n i.op d =
    ((d.atIssue n t).execInst n t i ((d.atIssue n t).fetchWord n ((d.atIssue n t).thr n t).pc)).syncPe n := by
  obtain ⟨hnext, hruns, hpc, hcode, hdecode, hgo⟩ := Dev.issues_iff.mp h
  have hthr : (d.atIssue n t).thr n t = (d.promote n).thr n t := Dev.thr_setPe_last _ n t
  rw [hthr]
  simp only [Dev.atIssue] at hruns hcode hdecode ⊢
  simp only [issue, hnext, hruns, hcode, hdecode, hgo, Nat.not_le.mpr hpc, Bool.not_true, Bool.false_eq_true, if_false,
    ne_eq, not_true_eq_false]

/-- The command of the mnemonic of the instruction that issues answers what that instruction does. -/
theorem State.run_issue {s : State} {op : EMn} {e : Dev} (hacts : s.dev.acts = true) (hissues : s.dev.issues n t i = true)
    (hop : i.op = op) (he : (s.dev.atIssue n t).execInst n t i
      ((s.dev.atIssue n t).fetchWord n ((s.dev.atIssue n t).thr n t).pc) = e) :
    s.run (issue n op) = s.next (e.syncPe n) := State.run_acts_eq hacts (hop ▸ he ▸ issue_of_issues hissues)

end Issue

/-! ### EMIT, DROP and RDS (R153, R189 to R192) -/

section Emit

variable {d : Dev} {n t word : Nat} {x : Thr} {i : EngInst}

/-- R176, R189: the packet that an EMIT of action word `w` sends. -/
def Thr.emission (x : Thr) (w : Nat) : Pkt := ({ x.pkt with data := x.bytes, job := none } : Pkt).withAct w

/-- R189: thread `x` has one more packet under its tag: its emission of action word `w`. -/
def Dev.putEmit (d : Dev) (n t : Nat) (x : Thr) (w slots : Nat) : Dev :=
  let d := d.issued n t { x with emits := x.emits + 1 } (x.pc + 4) slots
  (d.countAct w (x.emission w).data.length).pushEmit x.hitch x.tag { pkt := x.emission w, act := w, time := d.time }

theorem Dev.execInst_of_emit (word : Nat) (h : i.op = .emitCopy ∨ i.op = .emitFinal) :
    d.execInst n t i word = d.execEmit n t (d.thr n t) i word := by
  rcases h with h | h <;> simp only [Dev.execInst, h]

/-- R189, R193: an EMIT that meets a trap condition takes that trap. -/
theorem Dev.execEmit_of_trap {k : Nat} (h : d.emitTrap x.hitch (x.reg i.a).toNat x.emits = some k) :
    d.execEmit n t x i word = d.trap n t k word := by
  simp only [Dev.execEmit, h]

section Sent

variable (htrap : d.emitTrap x.hitch (x.reg i.a).toNat x.emits = none) (hact : (x.reg i.a).toNat % 16 ≠ 0)
include htrap hact

/-- R189: a thread whose destination cannot accept the packet stays at its EMIT. -/
theorem Dev.execEmit_of_blocked (h : d.emitBlocked x.hitch (x.reg i.a).toNat (x.emission (x.reg i.a).toNat) = true) :
    d.execEmit n t x i word = d := by
  simp only [Thr.emission] at h
  simp only [Dev.execEmit, htrap, if_neg hact, h, if_true]

variable (hroom : d.emitBlocked x.hitch (x.reg i.a).toNat (x.emission (x.reg i.a).toNat) = false)
include hroom

/-- R189: a copy leaves the thread with its packet. -/
theorem Dev.execEmit_copy (hop : i.op = .emitCopy) : d.execEmit n t x i word = d.putEmit n t x (x.reg i.a).toNat 4 := by
  simp only [Thr.emission] at hroom
  simp [Dev.execEmit, htrap, hact, hroom, hop, Dev.putEmit, Thr.emission]

/-- R153, R189: the final emit ends the packet. -/
theorem Dev.execEmit_final (hop : i.op = .emitFinal) :
    d.execEmit n t x i word = (d.putEmit n t x (x.reg i.a).toNat 2).endPacket n t := by
  simp only [Thr.emission] at hroom
  simp [Dev.execEmit, htrap, hact, hroom, hop, Dev.putEmit, Thr.emission]

end Sent

/-- R190: DROP counts in DROP_ENGINE and ends the packet. -/
theorem Dev.execInst_of_drop (h : i.op = .drop) : d.execInst n t i word =
    ((d.issued n t (d.thr n t) ((d.thr n t).pc + 4) 1).addk (d.thr n t).hitch Eh.DROP_ENGINE 1).endPacket n t := by
  simp only [Dev.execInst, h]

theorem Dev.execInst_of_rds (h : i.op = .rds) : d.execInst n t i word = d.execRds n t (d.thr n t) i := by
  simp only [Dev.execInst, h]

/-- R192: what RDS with function `fn` reads. -/
def Dev.rdsValue (d : Dev) (n t : Nat) (x : Thr) (fn : Nat) : Word :=
  if fn = 0 then BitVec.ofNat 64 x.cycles
  else if fn = 1 then BitVec.ofNat 64 (d.tb.ns / 2 ^ 32 + d.tb.sec % 2 ^ 32 * 2 ^ 32)
  else if fn = 2 then BitVec.ofNat 64 (peId n + t * 2 ^ 24 + d.peOwner n * 2 ^ 40)
  else BitVec.ofNat 64 x.emits

/-- R192: RDS writes what it reads to D. -/
theorem Dev.execRds_eq : d.execRds n t x i = d.issued n t (x.setReg i.d (d.rdsValue n t x i.x)) (x.pc + 4) 1 := rfl

end Emit

/-- Settles O29: the instruction issues, and its clause is the equation of EMIT, DROP or RDS. -/
theorem engineEmitsDropsAndReadsState : Obligations.EngineEmitsDropsAndReadsState := by
  rintro s n t i d x hacts hissues rfl rfl
  have hstep {op : EMn} {e : Dev} := State.run_issue (op := op) (e := e) hacts hissues
  refine ⟨?emit, fun hop => hstep hop (Dev.execInst_of_drop hop), fun hop => ?rds⟩
  case emit =>
    rintro w p rfl rfl
    refine ⟨fun htrap hact hroom => ⟨fun hop => ?_, fun hop => ?_⟩, fun c hc => ?_⟩
    · exact hstep hop ((Dev.execInst_of_emit _ (.inl hop)).trans (Dev.execEmit_copy htrap hact hroom hop))
    · exact hstep hop ((Dev.execInst_of_emit _ (.inr hop)).trans (Dev.execEmit_final htrap hact hroom hop))
    · obtain ⟨hop, hexec⟩ : (i.op = .emitCopy ∨ i.op = .emitFinal) ∧ exec c s = s.run (issue n i.op) := by
        simp only [List.mem_cons, Prod.mk.injEq, List.not_mem_nil, or_false] at hc
        rcases hc with ⟨rfl, hop⟩ | ⟨rfl, hop⟩
        · exact ⟨.inl hop, by rw [hop]; rfl⟩
        · exact ⟨.inr hop, by rw [hop]; rfl⟩
      rw [hexec]
      exact ⟨fun htrap hact hfull =>
          hstep rfl ((Dev.execInst_of_emit _ hop).trans (Dev.execEmit_of_blocked htrap hact hfull)),
        fun k htrap => hstep rfl ((Dev.execInst_of_emit _ hop).trans (Dev.execEmit_of_trap htrap))⟩
  case rds =>
    have hrds := hstep hop ((Dev.execInst_of_rds hop).trans Dev.execRds_eq)
    have hvalue {fn : Nat} (hfn : i.x = fn) := hfn ▸ hrds
    exact ⟨hvalue, hvalue, hvalue, hvalue⟩

end Sys2Proof.Machine

/-! Register arithmetic (R170): what an instruction of the group writes, and the slots it takes. -/

namespace Sys2Proof.Machine

section Arithmetic

/-- R170: the mnemonics of the register arithmetic group. -/
def arithMns : List EMn := [.add, .sub, .andr, .orr, .xorr, .shl, .shr, .sar, .mul, .slt, .sltu]

/-- R143, R170: the slots that a register arithmetic instruction uses. -/
def EMn.arithSlots : EMn → Nat
  | .mul => 2
  | _ => 1

variable {n t : Nat} {i : EngInst}

/-- R170: a register arithmetic instruction writes the result of A and B to D and moves on. -/
theorem Dev.execInst_of_arith (d : Dev) (word : Nat) (h : i.op ∈ arithMns) : d.execInst n t i word =
    d.issued n t ((d.thr n t).setReg i.d (aluRR i.op ((d.thr n t).reg i.a) ((d.thr n t).reg i.b))) ((d.thr n t).pc + 4)
      i.op.arithSlots := by
  simp only [arithMns, List.mem_cons, List.not_mem_nil, or_false] at h
  rcases h with h | h | h | h | h | h | h | h | h | h | h <;> simp only [Dev.execInst, Thr.exec, EMn.arithSlots, h]

/-- R170: MUL is the low 64 bits of the product. -/
theorem aluRR_mul (a b : Word) : aluRR .mul a b = BitVec.ofNat 64 (a.toNat * b.toNat) := rfl

/-- R170: SLT compares A and B as signed values. -/
theorem aluRR_slt (a b : Word) : aluRR .slt a b = if a.toInt < b.toInt then 1 else 0 := by
  simp only [aluRR, BitVec.slt_iff_toInt_lt]

/-- R170: SLTU compares A and B as unsigned values. -/
theorem aluRR_sltu (a b : Word) : aluRR .sltu a b = if a.toNat < b.toNat then 1 else 0 := by
  simp only [aluRR, BitVec.ult_iff_toNat_lt]

/-- The command of a register arithmetic mnemonic, where it may issue, writes its result `v` to D. -/
theorem State.run_arith {s : State} {op : EMn} {x : Thr} {v : Word} (hacts : s.dev.acts = true)
    (hissues : s.dev.issues n t i = true) (hx : x = (s.dev.atIssue n t).thr n t) (harith : op ∈ arithMns) (hop : i.op = op)
    (hv : aluRR op (x.reg i.a) (x.reg i.b) = v) : s.run (issue n op) =
      s.next (((s.dev.atIssue n t).issued n t (x.setReg i.d v) (x.pc + 4) op.arithSlots).syncPe n) := by
  subst hop hx hv
  exact State.run_issue hacts hissues rfl (Dev.execInst_of_arith _ _ harith)

end Arithmetic

/-- Settles O21: each clause is one mnemonic's result of A and B, written to D by the one rule of the group. -/
theorem engineRegisterArithmetic : Obligations.EngineRegisterArithmetic := by
  rintro s n t i d x hacts hissues rfl hx
  have harith {op : EMn} {v : Word} := State.run_arith (op := op) (v := v) hacts hissues hx
  exact ⟨fun hop => harith (by decide) hop rfl, fun hop => harith (by decide) hop rfl,
    fun hop => harith (by decide) hop rfl, fun hop => harith (by decide) hop rfl,
    fun hop => harith (by decide) hop rfl, fun hop => harith (by decide) hop rfl,
    fun hop => harith (by decide) hop rfl, fun hop => harith (by decide) hop rfl,
    fun hop => harith (by decide) hop (aluRR_mul _ _), fun hop => harith (by decide) hop (aluRR_slt _ _),
    fun hop => harith (by decide) hop (aluRR_sltu _ _)⟩

end Sys2Proof.Machine

/-! Threads and tags (R144 to R153, R182, R188): dispatch, answers, the cycle limit and release. -/

namespace Sys2Proof.Machine

section Threads

variable {d : Dev} {h n t : Nat}

section Dispatch

/-- UNIT_IDs 0x100 to 0x1FF are the PE tiles. -/
theorem isPe_peId (hn : n < 256) : isPe (peId n) = true := by
  have hpe : peId n ≠ 0 ∧ ¬ peId n < 0x100 ∧ peId n < 0x200 := by simp only [peId]; omega
  simp [isPe, fixedKind, hpe]

/-- A PE tile's number is that of its UNIT_ID. -/
theorem peNum_peId (n : Nat) : peNum (peId n) = n := Nat.add_sub_cancel_left ..

/-- The packet at the head of hitch `h`'s dispatch FIFO has left it; `rest` is behind it. -/
def Dev.takeHead (d : Dev) (h : Nat) (rest : List (Nat × Pkt)) : Dev :=
  (d.setEh h (fun (e : EhSt) => { e with fifo := rest })).syncEh h

/-- R151, R152: a hitch that takes work, with a tag left, hands the head of its FIFO to the PE it has chosen. -/
theorem dispatch_of_member {e : EhSt} {tag : Nat} {p : Pkt} {rest : List (Nat × Pkt)} (heh : d.eh h = some e)
    (hfifo : e.fifo = (tag, p) :: rest) (hbest : d.bestMember h = some (peId n)) (hn : n < 256) (hwork : d.takesWork h = true)
    (htags : (e.tags.filter (fun (r : TagRec) => !r.done)).length < 4096) :
    dispatch h d = (d.takeHead h rest).loadThread n h tag p := by
  simp [dispatch, heh, hfifo, hbest, hwork, Nat.not_le.mpr htags, isPe_peId hn, peNum_peId, Dev.takeHead]

/-- R151: without a member that has an IDLE thread the packet stays. -/
theorem dispatch_of_no_member (hbest : d.bestMember h = none) : dispatch h d = d := by
  cases heh : d.eh h with
  | none => simp only [dispatch, heh]
  | some e => simp [dispatch, heh, hbest]

end Dispatch

section Answers

variable {a : TblAns} {o : ThrOp} {slot own : Nat}

/-- The oldest answer for PE `n` has been taken. -/
def Dev.takeAnswerFor (d : Dev) (n : Nat) : Dev :=
  { d with tbl := { d.tbl with answers := d.tbl.answers.eraseP (fun a => a.forPe n) } }

/-- R182, R188: the thread has answer `a` of its operation `o` in its registers, and slot `slot` free; a WAITING one runs. -/
def Thr.answered (x : Thr) (o : ThrOp) (a : TblAns) (slot : Nat) : Thr :=
  { x with
    g := (o.writes a).foldl (fun (g : List Word) (w : Nat × Word) => g.set w.1 w.2) x.g
    ops := x.ops.filter (fun (y : ThrOp) => y.slot ≠ slot)
    st := if x.st = .waiting then .running else x.st }

variable (hnext : d.tbl.answers.find? (fun a => a.forPe n) = some a) (hsrc : a.src = .engine n t slot own)
include hnext hsrc

/-- R146, R188: the oldest answer reaches the thread whose operation awaits it. -/
theorem lookupResult_of_awaited (hop : (d.thr n t).ops.find? (fun (o : ThrOp) => o.slot = slot) = some o) :
    lookupResult n d = ((d.takeAnswerFor n).setThr n t (fun x => x.answered o a slot)).syncPe n := by
  have hop' : ((d.takeAnswerFor n).thr n t).ops.find? (fun (o : ThrOp) => o.slot = slot) = some o := hop
  simp only [Dev.takeAnswerFor] at hop' ⊢
  simp only [lookupResult, hnext, hsrc, hop', Thr.answered]

/-- R191: the answer of an operation that is gone is discarded. -/
theorem lookupResult_of_gone (hop : (d.thr n t).ops.find? (fun (o : ThrOp) => o.slot = slot) = none) :
    lookupResult n d = d.takeAnswerFor n := by
  have hop' : ((d.takeAnswerFor n).thr n t).ops.find? (fun (o : ThrOp) => o.slot = slot) = none := hop
  simp only [Dev.takeAnswerFor] at hop' ⊢
  simp only [lookupResult, hnext, hsrc, hop']

end Answers

section CycleLimit

/-- R149: a thread with a packet whose count has reached the limit traps. -/
theorem threadCycleLimit_of_reached (hst : (d.thr n t).st ≠ .idle) (hlim : d.threadLimit n ≤ (d.thr n t).cycles) :
    threadCycleLimit n t d = d.trap n t 0x09 (d.fetchWord n (d.thr n t).pc) := by
  simp [threadCycleLimit, hst, Nat.not_lt.mpr hlim]

/-- R149: an IDLE thread, or one below the limit, goes on. -/
theorem threadCycleLimit_of_below (h : (d.thr n t).st = .idle ∨ (d.thr n t).cycles < d.threadLimit n) :
    threadCycleLimit n t d = d := by
  simp only [threadCycleLimit, Bool.or_eq_true, decide_eq_true_eq, if_pos h]

end CycleLimit

section Release

variable {e : EhSt} {r : TagRec} {m : Emit} {outs : List Emit} {port queue : Nat}

/-- R202: the input port that a packet which leaves hitch `h` has. -/
def Dev.releaseInput (d : Dev) (h : Nat) : Nat := (d.enginePort (d.topEngine h)).getD 47

/-- R153, R155: packet `m` of tag `r` has left hitch `h`, with `outs` behind it under its tag, and is counted with the time it was
held. -/
def Dev.takeOut (d : Dev) (h : Nat) (r : TagRec) (m : Emit) (outs : List Emit) : Dev :=
  ((d.setEh h (fun (x : EhSt) => { x with
    tags := x.tags.map (fun (y : TagRec) => if y.tag = r.tag then { y with outs := outs } else y) })).addk h
      Eh.PKTS_OUT 1).addk h Eh.REORDER_HOLD_NS (r.first.getD d.time - m.time)

/-- A packet bound for a port is bound for no hitch. -/
theorem Emit.hitch_of_port (hdest : actDest m.act = some (.port port queue)) : m.hitch = none := by
  simp only [Emit.hitch, hdest]

variable (heh : d.eh h = some e) (hrel : releasable e.tags [] = some r) (houts : r.outs = m :: outs) (hup : r.up = none)
  (hdest : actDest m.act = some (.port port queue))
include heh hrel houts hup hdest

/-- R153, R198: a packet for a port leaves a top-level hitch towards the switch core. -/
theorem reorderRelease_of_free (hfree : d.stalled m.pkt (d.releaseInput h) (.port port queue) = false) :
    reorderRelease h d = Dev.sweepTag h r.tag treeFuel
      ((d.takeOut h r m outs).toSwitch m.pkt (d.releaseInput h) (.port port queue)) := by
  simp only [Dev.releaseInput] at hfree
  simp [reorderRelease, heh, hrel, houts, hup, hdest, Emit.hitch_of_port hdest, hfree, Dev.takeOut, Dev.releaseInput]

/-- R206: a packet for a port stays where the switch core holds one it would wait behind. -/
theorem reorderRelease_of_stalled (hstall : d.stalled m.pkt (d.releaseInput h) (.port port queue) = true) :
    reorderRelease h d = d := by
  simp only [Dev.releaseInput] at hstall
  simp [reorderRelease, heh, hrel, houts, hup, hdest, Emit.hitch_of_port hdest, hstall]

end Release

end Threads

/-- Settles O31: each clause is the equation of its command. -/
theorem threadsAreDispatchedAnsweredAndReleased : Obligations.ThreadsAreDispatchedAnsweredAndReleased := by
  intro s h n t hacts
  refine ⟨fun e tag p rest heh hfifo hbest hn hwork htags =>
      State.run_acts_eq hacts (dispatch_of_member heh hfifo hbest hn hwork htags),
    fun hbest => State.run_acts_eq hacts (dispatch_of_no_member hbest),
    fun a o slot own hnext hsrc => ⟨fun hop => State.run_acts_eq hacts (lookupResult_of_awaited hnext hsrc hop),
      fun hop => State.run_acts_eq hacts (lookupResult_of_gone hnext hsrc hop)⟩,
    fun hst hlim => State.run_acts_eq hacts (threadCycleLimit_of_reached hst hlim),
    fun hbelow => State.run_acts_eq hacts (threadCycleLimit_of_below hbelow), ?release⟩
  case release =>
    rintro e r m outs port queue i d heh hrel houts hup hdest rfl rfl
    exact ⟨fun hfree => State.run_acts_eq hacts (reorderRelease_of_free heh hrel houts hup hdest hfree),
      fun hstall => State.run_acts_eq hacts (reorderRelease_of_stalled heh hrel houts hup hdest hstall)⟩

end Sys2Proof.Machine

/-! The rein (R157 to R163): the end of a window, and the step of a hitch that ends. -/

namespace Sys2Proof.Machine

section ReinWindow

variable {d : Dev} {h : Nat} {e : EhSt}

/-- R157: windows run in ACTIVE and PATCHING only. -/
theorem reinWindowEnd_of_closed (ms : List LensWindow) (h2 : d.imgState ≠ 2) (h4 : d.imgState ≠ 4) :
    reinWindowEnd ms d = d := by
  simp only [Dev.imgState] at h2 h4
  simp [reinWindowEnd, h2, h4]

/-- R157 to R160: the runs, additions and removals of a window's end. -/
def Dev.reinGovern (d : Dev) (ms : List LensWindow) : Dev :=
  let w := d.g rootId Root.REIN_WINDOW_WINDOW
  let hs := d.ehs.map EhSt.id
  let of := d.lensOf ms
  let d := hs.foldl (fun (d : Dev) h => d.updateRuns h (of h)) d
  let d := (d.byBacklog hs).foldl (fun (d : Dev) h => d.tryAdd w h) d
  hs.foldl (fun (d : Dev) h => d.tryRemove w h) d

/-- R157: in ACTIVE and PATCHING the hitches are governed, the window is counted and the next one opens. -/
theorem reinWindowEnd_of_open (ms : List LensWindow) (hrun : d.imgState = 2 ∨ d.imgState = 4) : reinWindowEnd ms d =
    ((d.reinGovern ms).s rootId Root.REIN_WINDOW_WINDOW (d.g rootId Root.REIN_WINDOW_WINDOW + 1)).openWindow := by
  have hopen : ¬ (decide (d.imgState ≠ 2) && decide (d.imgState ≠ 4)) = true := by
    simp only [Bool.and_eq_true, decide_eq_true_eq]; omega
  exact if_neg hopen

/-- Opening a window writes no register. -/
theorem Dev.g_openWindow (d : Dev) (u : Nat) (f : Fld) : d.openWindow.g u f = d.g u f := rfl

/-- A step in progress at hitch `h`. -/
def Dev.stepping (d : Dev) (h : Nat) : Bool := ((d.eh h).bind EhSt.step).isSome

/-- R159: a hitch whose step is in progress asks for no addition. -/
theorem Dev.tryAdd_of_stepping (w : Nat) (hs : d.stepping h = true) : d.tryAdd w h = d := by
  unfold Dev.tryAdd
  split
  case h_1 e r he hr =>
    have hstep : e.step.isSome = true := by simpa [Dev.stepping, he] using hs
    simp only [hstep, Bool.true_or, if_true]
  case h_2 => rfl

/-- R160: a hitch whose step is in progress gives up no PE. -/
theorem Dev.tryRemove_of_stepping (w : Nat) (hs : d.stepping h = true) : d.tryRemove w h = d := by
  unfold Dev.tryRemove
  split
  case h_1 e r he hr =>
    have hstep : e.step.isSome = true := by simpa [Dev.stepping, he] using hs
    simp only [hstep, Bool.true_or, if_true]
  case h_2 => rfl

/-- R158: new runs leave the step of the device's only hitch in progress. -/
theorem Dev.stepping_updateRuns (m : Nat × Nat) (hehs : d.ehs = [e]) (hid : e.id = h) (hstep : e.step.isSome = true) :
    (d.updateRuns h m).stepping h = true := by
  simp [Dev.stepping, Dev.updateRuns, Dev.eh, Dev.setEh, Dev.sk_eq, hehs, hid, hstep]

/-- R157 to R160: with one hitch, whose step is in progress, the runs are all that a window's end changes. -/
theorem Dev.reinGovern_of_stepping (ms : List LensWindow) (hehs : d.ehs = [e]) (hid : e.id = h)
    (hstep : e.step.isSome = true) : d.reinGovern ms = d.updateRuns h (d.lensOf ms h) := by
  have hstill := Dev.stepping_updateRuns (d.lensOf ms h) hehs hid hstep
  simp only [Dev.reinGovern, hehs, hid, List.map_cons, List.map_nil, List.foldl_cons, List.foldl_nil, Dev.byBacklog,
    Dev.insertServed, Dev.tryAdd_of_stepping _ hstill, Dev.tryRemove_of_stepping _ hstill]

/-- R157: a hitch that the lens names has what it measured. -/
theorem Dev.lensOf_cons (d : Dev) (m : LensWindow) (ms : List LensWindow) :
    d.lensOf (m :: ms) m.hitch = (m.backlog, min 100 m.util) := by
  simp [Dev.lensOf]

end ReinWindow

section ReinSteps

variable {d : Dev} {h : Nat} {p : ReinStep}

/-- R162: the PE of addition `p` holds its code, joins hitch `h` and is enabled; the step ends in ADDS and the log. -/
def Dev.reinJoined (d : Dev) (h : Nat) (p : ReinStep) : Dev :=
  let d := (d.loadPe (peNum p.pe) (d.codeOwner h)).joinHitch h p.pe
  let d := ((d.s p.pe Hdr.UNIT_CONTROL_ENABLE 1).settleEnable p.pe).takeBell p.pe
  ((d.endStep h).addk h Eh.ADDS 1).logRein h 1 p.pe p.window p.time

/-- R163: the drain of removal `p` ends, its PE goes to the pool of hitch `r` with its data memory clear; the step ends in REMOVES
and the log. -/
def Dev.reinRemoved (d : Dev) (h : Nat) (p : ReinStep) (r : Hitch) : Dev :=
  let d := ((d.s p.pe Hdr.UNIT_CONTROL_DRAIN 0).setUst p.pe stReady).raise p.pe 0x0002 0 0
  let d := (d.dropLast h).clearMem .peData (fun a => a / 196608 = peNum p.pe)
  let d := d.joinHitch r.pool p.pe
  ((d.endStep h).addk h Eh.REMOVES 1).logRein h 2 p.pe p.window p.time

/-- R163: the drain of removal `p` is cancelled, and its PE is enabled again. -/
def Dev.reinKept (d : Dev) (p : ReinStep) : Dev :=
  (((d.s p.pe Hdr.UNIT_CONTROL_DRAIN 0).s p.pe Hdr.UNIT_CONTROL_ENABLE 1).setUst p.pe stActive).cancelRemoval p.pe 6

variable (hstep : (d.eh h).bind EhSt.step = some p)
include hstep

/-- R162: an addition ends once the region of its PE is awake. -/
theorem reinAddJoin_of_awake (hadd : p.add = true) (hawake : 2 ≤ d.gait (regionOf p.pe)) :
    reinAddJoin h d = d.reinJoined h p := by
  simp [reinAddJoin, hstep, hadd, Nat.not_lt.mpr hawake, Dev.reinJoined]

/-- R163: a removal ends once the threads of its PE are all IDLE. -/
theorem reinRemoveDone_of_idle {r : Hitch} (hhitch : d.hitch h = some r) (hremove : p.add = false)
    (hidle : d.peIdle (peNum p.pe) = true) : reinRemoveDone h d = d.reinRemoved h p r := by
  simp [reinRemoveDone, hstep, hhitch, hremove, hidle, Dev.reinRemoved]

/-- R163: a removal whose PE has a thread at work is cancelled. -/
theorem drainTimeout_of_busy (hremove : p.add = false) (hbusy : d.peIdle (peNum p.pe) = false) :
    drainTimeout h d = d.reinKept p := by
  simp [drainTimeout, hstep, hremove, hbusy, Dev.reinKept]

end ReinSteps

/-- Settles O32: the end of a window governs the hitches, of which one that is stepping stays as it is, and counts the window; each
of the three ends of a step is its command's equation. -/
theorem theReinMovesPesBetweenHitchAndPool : Obligations.TheReinMovesPesBetweenHitchAndPool := by
  intro s h hacts
  refine ⟨fun ms h2 h4 => State.run_acts_eq hacts (reinWindowEnd_of_closed _ h2 h4), ?count, ?stepping,
    fun p hstep hadd hawake => State.run_acts_eq hacts (reinAddJoin_of_awake hstep hadd hawake),
    fun p r hstep hhitch hremove hidle => State.run_acts_eq hacts (reinRemoveDone_of_idle hstep hhitch hremove hidle),
    fun p hstep hremove hbusy => State.run_acts_eq hacts (drainTimeout_of_busy hstep hremove hbusy)⟩
  case count =>
    intro ms hrun
    exact ⟨_, State.run_acts_eq hacts (reinWindowEnd_of_open _ hrun),
      (Dev.g_openWindow _ _ _).trans (Dev.g_s_same _ _ _ _ (by decide))⟩
  case stepping =>
    rintro e b u hrun hehs rfl hstep
    refine State.run_acts_eq hacts ((reinWindowEnd_of_open _ hrun).trans ?_)
    rw [Dev.reinGovern_of_stepping _ hehs rfl hstep]
    exact congrArg (fun m => ((s.dev.updateRuns e.id m).s rootId Root.REIN_WINDOW_WINDOW _).openWindow)
      (s.dev.lensOf_cons { hitch := e.id, backlog := b, util := u } [])

end Sys2Proof.Machine

/-! Engine instruction words (R168 to R170, R172 to R192): what a word decodes to, and the word of an instruction. -/

namespace Sys2Proof.Machine

section EngineWords

/-! ### Opcodes (R170) -/

/-- An opcode has 6 bits. -/
theorem EMn.opcode_lt (m : EMn) : m.info.1 < 64 := by cases m <;> decide

/-- The FN values of a mnemonic have 5 bits. -/
theorem EMn.fn_lt (m : EMn) : m.info.2.2.1 + m.info.2.2.2 < 32 := by cases m <;> decide

/-- R170: the opcode and each FN value of a mnemonic name it. -/
theorem opOf_opcode_fn (m : EMn) {x : Nat} (hx : x ≤ m.info.2.2.2) : opOf m.info.1 (m.info.2.2.1 + x) = some m := by
  have hall : ∀ k : Fin (m.info.2.2.2 + 1), opOf m.info.1 (m.info.2.2.1 + k) = some m := by cases m <;> decide
  exact hall ⟨x, Nat.lt_succ_of_le hx⟩

/-- R168, R170: outside the RR words the opcode alone names the mnemonic. -/
theorem opOf_opcode_of_not_rr {m : EMn} (hfmt : m.info.2.1 ≠ .rr) (fn : Nat) : opOf m.info.1 fn = some m := by
  cases m <;> simp [EMn.info, opOf] at hfmt ⊢

/-! ### The fields (R168, R169) -/

/-- R168: the fields of an instruction fit the places that its format gives them, and those that have none are 0. -/
def EngInst.Fits (i : EngInst) : Prop :=
  match i.op.info.2.1 with
  | .rr => i.d < 128 ∧ i.a < 128 ∧ i.b < 128 ∧ i.x ≤ i.op.info.2.2.2
  | .ri => i.d < 128 ∧ i.a < 128 ∧ i.b = 0 ∧ i.x < 4096
  | .br => i.d = 0 ∧ i.a < 128 ∧ i.b < 128 ∧ i.x < 4096
  | .li => i.d < 128 ∧ i.a = 0 ∧ i.b = 0 ∧ i.x < 2 ^ 19

/-- R169: the fields of a legal instruction fit their places. -/
theorem EngInst.fits_of_ok {i : EngInst} (h : i.ok = true) : i.Fits := by
  obtain ⟨op, d, a, b, x⟩ := i
  cases op <;> simp only [EngInst.ok, regOk, regG, regGH, dstOk, Bool.and_eq_true, Bool.or_eq_true, decide_eq_true_eq] at h <;>
    simp only [EngInst.Fits, EMn.info] <;> omega

/-! ### The word of an instruction (R168) -/

/-- R168: a word spells instruction `i` with opcode, FN and fields that are those of `i`. -/
def EngInst.Spells (i : EngInst) (w : Nat) : Prop :=
  w < 2 ^ 32 ∧ opOf (w / 2 ^ 26 % 64) (w % 32) = some i.op ∧ fieldsOf i.op w = i

/-- R168: where the fields fit their places, an instruction's word spells it. -/
theorem EngInst.spells_encodeInst {i : EngInst} (h : i.Fits) : i.Spells (encodeInst i) := by
  obtain ⟨op, d, a, b, x⟩ := i
  have hopc := op.opcode_lt
  have hfn := op.fn_lt
  have hrr := opOf_opcode_fn op (x := x)
  have hne := opOf_opcode_of_not_rr (m := op)
  simp only [EngInst.Fits, EngInst.Spells, encodeInst, fieldsOf] at h ⊢
  generalize op.info = info at h hopc hfn hrr hne ⊢
  obtain ⟨opc, fmt, fn, more⟩ := info
  have hopcode {w : Nat} (hfmt : fmt ≠ .rr) (hw : w / 2 ^ 26 % 64 = opc) : opOf (w / 2 ^ 26 % 64) (w % 32) = some op :=
    hw ▸ hne hfmt _
  cases fmt <;> simp only [EngInst.mk.injEq, true_and] at h hopc hfn ⊢
  case rr =>
    obtain ⟨hd, ha, hb, hx⟩ := h
    have hw : (opc * 2 ^ 26 + d * 2 ^ 19 + a * 2 ^ 12 + b * 2 ^ 5 + (fn + x)) / 2 ^ 26 % 64 = opc ∧
        (opc * 2 ^ 26 + d * 2 ^ 19 + a * 2 ^ 12 + b * 2 ^ 5 + (fn + x)) % 32 = fn + x := by omega
    exact ⟨by omega, by rw [hw.1, hw.2]; exact hrr hx, by omega⟩
  case ri => exact ⟨by omega, hopcode nofun (by omega), by omega⟩
  case br => exact ⟨by omega, hopcode nofun (by omega), by omega⟩
  case li => exact ⟨by omega, hopcode nofun (by omega), by omega⟩

/-- R169: a word that spells a legal instruction decodes to it. -/
theorem EngInst.Spells.decodeInst_eq {i : EngInst} {w : Nat} (h : i.Spells w) (hok : i.ok = true) :
    decodeInst w = some i := by
  obtain ⟨-, hop, hfields⟩ := h
  simp only [decodeInst, hop, hfields, hok, if_true]

/-- R169: a word decodes to legal instructions only. -/
theorem ok_of_decodeInst {w : Nat} {i : EngInst} (h : decodeInst w = some i) : i.ok = true := by
  cases hop : opOf (w / 2 ^ 26 % 64) (w % 32) with
  | none => simp only [decodeInst, hop, reduceCtorEq] at h
  | some op =>
    simp only [decodeInst, hop, Option.ite_none_right_eq_some, Option.some.injEq] at h
    obtain ⟨hok, rfl⟩ := h
    exact hok

end EngineWords

/-- Settles O30: the fields of a legal instruction fit their places, so its word spells it, and decoding gives it back. -/
theorem engineWordsDecodeToWhatTheyEncode : Obligations.EngineWordsDecodeToWhatTheyEncode := by
  have hdecode {i : EngInst} (hok : i.ok = true) : decodeInst (encodeInst i) = some i :=
    (EngInst.spells_encodeInst (EngInst.fits_of_ok hok)).decodeInst_eq hok
  exact ⟨fun i hok => ⟨(EngInst.spells_encodeInst (EngInst.fits_of_ok hok)).1, hdecode hok⟩, fun w i => ok_of_decodeInst,
    fun i j hi hj heq => Option.some.inj ((hdecode hi).symm.trans (heq ▸ hdecode hj))⟩

end Sys2Proof.Machine

/-! The commands of the engine instructions, and the instructions that act on their thread alone (R170 to R180). -/

namespace Sys2Proof.Machine

section Commands

variable {n : Nat} {m : EMn} {c : Instr}

/-- The command by which PE `n` issues an instruction of mnemonic `m`. -/
def EMn.command (m : EMn) (n : Nat) : Instr :=
  match m with
  | .add => .addd n
  | .sub => .subb n
  | .andr => .andd n
  | .orr => .orr n
  | .xorr => .xorr n
  | .shl => .shl n
  | .shr => .shr n
  | .sar => .sar n
  | .mul => .mull n
  | .slt => .slt n
  | .sltu => .sltu n
  | .addi => .addi n
  | .andi => .andi n
  | .ori => .ori n
  | .xori => .xori n
  | .shli => .shli n
  | .shri => .shri n
  | .movi => .movi n
  | .movk => .movk n
  | .ext => .ext n
  | .exts => .exts n
  | .ins => .ins n
  | .hld => .hld n
  | .hst => .hst n
  | .hadj => .hadj n
  | .ldw => .ldw n
  | .ldd => .ldd n
  | .stw => .stw n
  | .std => .std n
  | .beq => .beq n
  | .bne => .bne n
  | .blt => .blt n
  | .bge => .bge n
  | .bltu => .bltu n
  | .bgeu => .bgeu n
  | .bbs => .bbs n
  | .bbc => .bbc n
  | .jal => .jal n
  | .jr => .jr n
  | .csadd => .csadd n
  | .cshv => .cshv n
  | .csfin => .csfin n
  | .crcr => .crcr n
  | .crchv => .crchv n
  | .lk => .lk n
  | .tins => .tins n
  | .tdel => .tdel n
  | .twr => .twr n
  | .atomAdd => .atomAdd n
  | .atomSwp => .atomSwp n
  | .atomCas => .atomCas n
  | .cnt => .cnt n
  | .pol => .pol n
  | .emitCopy => .emitCopy n
  | .emitFinal => .emitFinal n
  | .drop => .drop n
  | .rds => .rds n

/-- The command of a mnemonic issues an instruction of that mnemonic. -/
theorem exec_command (s : State) (m : EMn) (n : Nat) : exec (m.command n) s = s.run (issue n m) := by cases m <;> rfl

/-- What stands in a list of commands with their mnemonics is the command of a listed mnemonic. -/
theorem exec_of_mem_commands {s : State} {ms : List EMn} (h : (c, m) ∈ ms.map (fun m => (m.command n, m))) :
    m ∈ ms ∧ exec c s = s.run (issue n m) := by
  obtain ⟨k, hk, heq⟩ := List.mem_map.mp h
  obtain ⟨rfl, rfl⟩ := Prod.mk.inj heq
  exact ⟨hk, exec_command s k n⟩

/-- The same where a value that hangs on the mnemonic is listed with it. -/
theorem exec_of_mem_commands_with {α : Type} {f : EMn → α} {v : α} {s : State} {ms : List EMn}
    (h : (c, m, v) ∈ ms.map (fun m => (m.command n, m, f m))) : m ∈ ms ∧ exec c s = s.run (issue n m) ∧ v = f m := by
  obtain ⟨k, hk, heq⟩ := List.mem_map.mp h
  simp only [Prod.mk.injEq] at heq
  obtain ⟨rfl, rfl, rfl⟩ := heq
  exact ⟨hk, exec_command s k n, rfl⟩

end Commands

section ThreadOnly

variable {s : State} {n t : Nat} {i : EngInst} {op : EMn} {x y : Thr} {pc slots k : Nat}

/-- R170 to R180: the mnemonics whose instructions read and write their thread alone. -/
def EMn.threadOnly : EMn → Bool
  | .ldw | .ldd | .stw | .std | .lk | .tins | .tdel | .twr | .atomAdd | .atomSwp | .atomCas | .cnt | .pol | .emitCopy
  | .emitFinal | .drop | .rds => false
  | _ => true

/-- Thread `t` of PE `n` takes what an instruction, whose word is `w`, did to it. -/
def Dev.takeRes (d : Dev) (n t w : Nat) : EngRes → Dev
  | .go y pc slots => d.issued n t y pc slots
  | .trap k => d.trap n t k w

/-- R170 to R180: an instruction that acts on its thread alone does what it does to the thread. -/
theorem Dev.execInst_of_threadOnly (d : Dev) (w : Nat) (h : i.op.threadOnly = true) :
    d.execInst n t i w = d.takeRes n t w ((d.thr n t).exec i) := by
  cases hop : i.op <;> simp only [hop, EMn.threadOnly, Bool.false_eq_true] at h <;>
    simp only [Dev.execInst, hop] <;> cases (d.thr n t).exec i <;> rfl

/-- R169: an instruction that issues is legal. -/
theorem Dev.ok_of_issues {d : Dev} (h : d.issues n t i = true) : i.ok = true := by
  obtain ⟨-, -, -, -, hdecode, -⟩ := Dev.issues_iff.mp h
  exact ok_of_decodeInst hdecode

variable (hacts : s.dev.acts = true) (hissues : s.dev.issues n t i = true) (hx : x = (s.dev.atIssue n t).thr n t)
  (hown : op.threadOnly = true) (hop : i.op = op)
include hacts hissues hx hown hop

/-- The command of such an instruction, where it may issue and meets no trap. -/
theorem State.run_of_go (hr : x.exec i = .go y pc slots) :
    s.run (issue n op) = s.next (((s.dev.atIssue n t).issued n t y pc slots).syncPe n) := by
  subst hop hx
  exact State.run_issue hacts hissues rfl ((Dev.execInst_of_threadOnly _ _ hown).trans (congrArg _ hr))

/-- The command of such an instruction, where it may issue and traps. -/
theorem State.run_of_trap (hr : x.exec i = .trap k) : s.run (issue n op) =
    s.next (((s.dev.atIssue n t).trap n t k ((s.dev.atIssue n t).fetchWord n x.pc)).syncPe n) := by
  subst hop hx
  exact State.run_issue hacts hissues rfl ((Dev.execInst_of_threadOnly _ _ hown).trans (congrArg _ hr))

end ThreadOnly

end Sys2Proof.Machine

/-! Immediates, MOVI, MOVK and bit fields (R172 to R174). -/

namespace Sys2Proof.Machine

section Immediates

variable {i : EngInst} {x : Thr} {a d : Word}

/-- R172: the mnemonics of immediate arithmetic. -/
def immMns : List EMn := [.addi, .andi, .ori, .xori, .shli, .shri]

/-- R174: the mnemonics of the bit-field group. -/
def fieldMns : List EMn := [.ext, .exts, .ins]

/-- R172: immediate arithmetic writes its result to D. -/
theorem Thr.exec_of_imm (h : i.op ∈ immMns) :
    x.exec i = .go (x.setReg i.d (aluRI i.op (x.reg i.a) i.x)) (x.pc + 4) 1 := by
  simp only [immMns, List.mem_cons, List.not_mem_nil, or_false] at h
  rcases h with h | h | h | h | h | h <;> simp only [Thr.exec, h]

/-- R174: a bit-field instruction writes its result to D. -/
theorem Thr.exec_of_field (h : i.op ∈ fieldMns) :
    x.exec i = .go (x.setReg i.d (bitFieldOp i.op (x.reg i.d) (x.reg i.a) i.x)) (x.pc + 4) 1 := by
  simp only [fieldMns, List.mem_cons, List.not_mem_nil, or_false] at h
  rcases h with h | h | h <;> simp only [Thr.exec, h]

/-- R172: MOVI writes its immediate. -/
theorem Thr.exec_of_movi (h : i.op = .movi) : x.exec i = .go (x.setReg i.d (simm 19 i.x)) (x.pc + 4) 1 := by
  simp only [Thr.exec, h]

/-- R173: MOVK replaces 16 bits of D. -/
theorem Thr.exec_of_movk (h : i.op = .movk) :
    x.exec i = .go (x.setReg i.d (putBits (x.reg i.d) (16 * (i.x / 65536)) 16 (i.x % 65536))) (x.pc + 4) 1 := by
  simp only [Thr.exec, h]

/-- R172: the immediate of a shift is a shift count. -/
theorem EngInst.x_lt_of_shift (hok : i.ok = true) (h : i.op = .shli ∨ i.op = .shri) : i.x < 64 := by
  rcases h with h | h <;> simp only [EngInst.ok, h, Bool.and_eq_true, decide_eq_true_eq] at hok <;> exact hok.2

/-- R173: the position of a MOVK is below 4. -/
theorem EngInst.x_lt_of_movk (hok : i.ok = true) (h : i.op = .movk) : i.x < 2 ^ 18 := by
  simp only [EngInst.ok, h, Bool.and_eq_true, decide_eq_true_eq] at hok
  exact hok.2

/-- R174: the field of INS lies within the register. -/
theorem EngInst.field_le_of_ins (hok : i.ok = true) (h : i.op = .ins) : i.x / 64 + (i.x % 64 + 1) ≤ 64 := by
  simp only [EngInst.ok, h, Bool.and_eq_true, decide_eq_true_eq] at hok
  omega

/-- R172: SHLI shifts by its immediate. -/
theorem aluRI_shli {k : Nat} (hk : k < 64) : aluRI .shli a k = a <<< k := by
  simp only [aluRI, Nat.mod_eq_of_lt hk]

/-- R172: SHRI shifts by its immediate. -/
theorem aluRI_shri {k : Nat} (hk : k < 64) : aluRI .shri a k = a >>> k := by
  simp only [aluRI, Nat.mod_eq_of_lt hk]

/-- R174: bit `k` of D after INS. -/
theorem getLsbD_bitFieldOp_ins {f k : Nat} (hk : k < 64) : (bitFieldOp .ins d a f).getLsbD k =
    if f / 64 ≤ k ∧ k < f / 64 + (f % 64 + 1) then a.getLsbD (k - f / 64) else d.getLsbD k := by
  simp only [bitFieldOp, getLsbD_putBits _ _ _ _ _ hk]
  split
  next h =>
    have hin : k - f / 64 < f % 64 + 1 := by omega
    simp only [testBit_getBits, hin, decide_true, Bool.true_and, Nat.zero_add]
  next => rfl

/-- R173: no instruction has opcode 0x09 and bit 18 set. -/
theorem decodeInst_movk_of_bit {w : Nat} (hopc : w / 2 ^ 26 % 64 = 9) (hbit : w / 2 ^ 18 % 2 = 1) :
    decodeInst w = none := by
  have hx : ¬ w % 2 ^ 19 < 2 ^ 18 := by omega
  have hok : (fieldsOf .movk w).ok = false := by simp only [fieldsOf, EMn.info, EngInst.ok, hx, decide_false, Bool.and_false]
  simp only [decodeInst, hopc, opOf, hok, Bool.false_eq_true, if_false]

/-- An immediate whose sign bit is 0 is its value. -/
theorem simm_of_lt {w v : Nat} (h : v < 2 ^ (w - 1)) : simm w v = BitVec.ofNat 64 v := by
  simp only [simm, sext, if_neg (Nat.not_le.mpr h), Int.ofNat_eq_natCast, BitVec.ofInt_natCast]

/-- R173: a constant is put together from its low 16 bits and three MOVK. -/
theorem putBits_sixteens (c : Word) : putBits (putBits (putBits (simm 19 (getBits c 0 16)) 16 16 (getBits c 16 16)) 32 16
    (getBits c 32 16)) 48 16 (getBits c 48 16) = c := by
  have hlow : getBits c 0 16 < 2 ^ (19 - 1) := Nat.lt_trans (getBits_lt c 0 16) (by decide)
  apply BitVec.eq_of_getLsbD_eq
  intro k hk
  have hbase : (simm 19 (getBits c 0 16)).getLsbD k = (decide (k < 16) && c.getLsbD k) := by
    simp only [simm_of_lt hlow, BitVec.getLsbD_ofNat, testBit_getBits, hk, decide_true, Bool.true_and, Nat.zero_add]
  have hplace (lo : Nat) (hlo : lo ≤ k ∧ k < lo + 16) : (getBits c lo 16).testBit (k - lo) = c.getLsbD k := by
    have hin : k - lo < 16 := by omega
    simp only [testBit_getBits, hin, decide_true, Bool.true_and, Nat.add_sub_cancel' hlo.1]
  simp only [getLsbD_putBits _ _ _ _ _ hk, hbase]
  split
  next h => exact hplace 48 h
  split
  next h => exact hplace 32 h
  split
  next h => exact hplace 16 h
  next =>
    have hin : k < 16 := by omega
    simp only [hin, decide_true, Bool.true_and]

end Immediates

/-- Settles O22: each clause is its mnemonic's result, written to D by the one rule of its group. -/
theorem engineImmediatesMovesAndFields : Obligations.EngineImmediatesMovesAndFields := by
  rintro s n t i d x hacts hissues rfl hx
  have hok := Dev.ok_of_issues hissues
  have hgo {op : EMn} {v : Word} (hown : op.threadOnly = true) (hop : i.op = op)
      (hr : x.exec i = .go (x.setReg i.d v) (x.pc + 4) 1) := State.run_of_go hacts hissues hx hown hop hr
  have himm {op : EMn} {v : Word} (hown : op.threadOnly = true) (hmem : op ∈ immMns) (hop : i.op = op)
      (hv : aluRI op (x.reg i.a) i.x = v) := hgo hown hop (hv ▸ hop ▸ Thr.exec_of_imm (hop ▸ hmem))
  have hfield {op : EMn} {v : Word} (hown : op.threadOnly = true) (hmem : op ∈ fieldMns) (hop : i.op = op)
      (hv : bitFieldOp op (x.reg i.d) (x.reg i.a) i.x = v) := hgo hown hop (hv ▸ hop ▸ Thr.exec_of_field (hop ▸ hmem))
  refine ⟨fun hop => himm rfl (by decide) hop rfl, fun hop => himm rfl (by decide) hop rfl,
    fun hop => himm rfl (by decide) hop rfl, fun hop => himm rfl (by decide) hop rfl,
    fun hop => himm rfl (by decide) hop (aluRI_shli (EngInst.x_lt_of_shift hok (.inl hop))),
    fun hop => himm rfl (by decide) hop (aluRI_shri (EngInst.x_lt_of_shift hok (.inr hop))),
    fun hop => hgo rfl hop (Thr.exec_of_movi hop), ?field⟩
  case field =>
    rintro pos w rfl rfl
    exact ⟨fun hop => hfield rfl (by decide) hop rfl, fun hop => hfield rfl (by decide) hop rfl,
      fun hop => ⟨EngInst.field_le_of_ins hok hop, _, hfield rfl (by decide) hop rfl,
        fun k hk => getLsbD_bitFieldOp_ins hk⟩⟩

/-- Settles O23: MOVK is a field of 16 bits put into D; with bit 18 set IMM would be beyond its range. -/
theorem movkReplacesSixteenBits : Obligations.MovkReplacesSixteenBits := by
  refine ⟨?movk, fun w => decodeInst_movk_of_bit, putBits_sixteens⟩
  rintro s n t i d x hacts hissues rfl hx hop
  have hlt := EngInst.x_lt_of_movk (Dev.ok_of_issues hissues) hop
  exact ⟨_, State.run_of_go hacts hissues hx rfl hop (Thr.exec_of_movk hop), by omega,
    fun k hk => getLsbD_putBits _ _ _ _ _ hk⟩

end Sys2Proof.Machine

/-! Branches and jumps (R178). -/

namespace Sys2Proof.Machine

section Branches

variable {s : State} {n t : Nat} {i : EngInst} {op : EMn} {x y : Thr} {dst : Int}

/-- R178: the mnemonics of the branches. -/
def branchMns : List EMn := [.beq, .bne, .blt, .bge, .bltu, .bgeu, .bbs, .bbc]

/-- R178: what the branch of each mnemonic asks of A, and of B or bit `bit` of A. -/
def EMn.BranchIf (a b : Word) (bit : Nat) : EMn → Prop
  | .beq => a = b
  | .bne => a ≠ b
  | .blt => a.toInt < b.toInt
  | .bge => b.toInt ≤ a.toInt
  | .bltu => a.toNat < b.toNat
  | .bgeu => b.toNat ≤ a.toNat
  | .bbs => a.getLsbD bit = true
  | _ => a.getLsbD bit = false

/-- A field of one bit is that bit. -/
theorem getBits_one (a : Word) (bit : Nat) : getBits a bit 1 = if a.getLsbD bit then 1 else 0 := by
  simp only [getBits, BitVec.getLsbD, Nat.testBit_eq_decide_div_mod_eq, pow_one, decide_eq_true_eq]
  split <;> omega

/-- R178: a branch is taken when its condition holds. -/
theorem branchTaken_iff (h : op ∈ branchMns) (a b : Word) (bit : Nat) :
    branchTaken op a b bit = true ↔ op.BranchIf a b bit := by
  simp only [branchMns, List.mem_cons, List.not_mem_nil, or_false] at h
  rcases h with rfl | rfl | rfl | rfl | rfl | rfl | rfl | rfl <;>
    simp [branchTaken, EMn.BranchIf, BitVec.slt, BitVec.ult, getBits_one]

/-- R178: a branch whose condition does not hold moves on. -/
theorem Thr.exec_of_not_branch (h : i.op ∈ branchMns) (hnot : ¬ i.op.BranchIf (x.reg i.a) (x.reg i.b) i.b) :
    x.exec i = .go x (x.pc + 4) 1 := by
  have hstay := mt (branchTaken_iff h _ _ _).mp hnot
  simp only [branchMns, List.mem_cons, List.not_mem_nil, or_false] at h
  rcases h with h | h | h | h | h | h | h | h <;> simp only [h] at hstay <;> simp only [Thr.exec, h, if_neg hstay]

/-- R178: a branch whose condition holds is a transfer to the instruction that OFF names. -/
theorem Thr.exec_of_branch (h : i.op ∈ branchMns) (hif : i.op.BranchIf (x.reg i.a) (x.reg i.b) i.b) :
    x.exec i = jumpTo x ((x.pc : Int) + 4 * sext 12 i.x) := by
  have htaken := (branchTaken_iff h _ _ _).mpr hif
  simp only [branchMns, List.mem_cons, List.not_mem_nil, or_false] at h
  rcases h with h | h | h | h | h | h | h | h <;> simp only [h] at htaken <;> simp only [Thr.exec, h, if_pos htaken] <;> rfl

/-- R178: JAL links in D and is a transfer to the instruction that IMM names. -/
theorem Thr.exec_of_jal (h : i.op = .jal) :
    x.exec i = jumpTo (x.setReg i.d (BitVec.ofNat 64 (x.pc + 4))) ((x.pc : Int) + 4 * sext 19 i.x) := by
  simp only [Thr.exec, h]; rfl

/-- R178: JR links in D and is a transfer to the address that A had. -/
theorem Thr.exec_of_jr (h : i.op = .jr) :
    x.exec i = jumpTo (x.setReg i.d (BitVec.ofNat 64 (x.pc + 4))) ((x.reg i.a).toNat : Int) := by
  simp only [Thr.exec, h]; rfl

/-- R178: a transfer to a word of the instruction memory goes there. -/
theorem jumpTo_of_inside (h0 : 0 ≤ dst) (h1 : dst < 0x10000) (h4 : dst % 4 = 0) : jumpTo y dst = .go y dst.toNat 1 :=
  if_neg (by omega)

/-- R178: any other transfer traps PC_RANGE. -/
theorem jumpTo_of_outside (h : dst < 0 ∨ 0x10000 ≤ dst ∨ dst % 4 ≠ 0) : jumpTo y dst = .trap 2 := if_pos h

end Branches

/-- Settles O26: a branch that is taken, JAL and JR are transfers, which go to their target or trap; a branch not taken moves on. -/
theorem engineBranchesAndJumps : Obligations.EngineBranchesAndJumps := by
  rintro s n t i d x hacts hissues rfl hx
  have hgo {op : EMn} {y : Thr} {pc : Nat} := State.run_of_go (op := op) (y := y) (pc := pc) (slots := 1) hacts hissues hx
  have htrap {op : EMn} := State.run_of_trap (op := op) (k := 2) hacts hissues hx
  refine ⟨fun c p hc => ?branch, fun dst hop hdst hpc => ?jal, fun dst hop hdst => ?jr⟩
  case branch =>
    obtain ⟨hmem, hexec, hp⟩ := exec_of_mem_commands_with (ms := branchMns) (f := EMn.BranchIf (x.reg i.a) (x.reg i.b) i.b) hc
    have hown : i.op.threadOnly = true := (by decide : ∀ m ∈ branchMns, m.threadOnly = true) _ hmem
    rw [hexec, hp]
    refine ⟨fun hnot => hgo hown rfl (Thr.exec_of_not_branch hmem hnot), fun dst hif hdst hpc => ?_⟩
    have hjump := hdst ▸ Thr.exec_of_branch hmem hif
    exact ⟨fun h0 h1 => hgo hown rfl (hjump.trans (jumpTo_of_inside h0 h1 (by omega))),
      fun hout => htrap hown rfl (hjump.trans (jumpTo_of_outside (by omega)))⟩
  case jal =>
    have hjump := hdst ▸ Thr.exec_of_jal (x := x) hop
    exact ⟨fun h0 h1 => hgo rfl hop (hjump.trans (jumpTo_of_inside h0 h1 (by omega))),
      fun hout => htrap rfl hop (hjump.trans (jumpTo_of_outside (by omega)))⟩
  case jr =>
    have hjump := hdst ▸ Thr.exec_of_jr (x := x) hop
    exact ⟨fun h1 h4 => hgo rfl hop (hjump.trans (jumpTo_of_inside (by omega) (by omega) (by omega))),
      fun hout => htrap rfl hop (hjump.trans (jumpTo_of_outside (by omega)))⟩

end Sys2Proof.Machine

/-! Checksums and CRCs (R179, R180). -/

namespace Sys2Proof.Machine

section Sums

variable {i : EngInst} {x : Thr} {o k : Nat}

/-- The slots of an instruction that runs over `k` bytes of the vector: one, and one for every 16 bytes begun. -/
def runSlots (k : Nat) : Nat := 1 + (k + 15) / 16

/-- R179: CSADD adds D's low 16 bits and the fields of A and B, folded. -/
theorem Thr.exec_of_csadd (h : i.op = .csadd) : x.exec i = .go (x.setReg i.d (BitVec.ofNat 64
    (fold16 (getBits (x.reg i.d) 0 16 + fields16 (x.reg i.a) + fields16 (x.reg i.b))))) (x.pc + 4) 1 := by
  simp only [Thr.exec, h]

/-- R179: CSFIN complements the folded sum of A's fields. -/
theorem Thr.exec_of_csfin (h : i.op = .csfin) :
    x.exec i = .go (x.setReg i.d (BitVec.ofNat 64 (65535 - fold16 (fields16 (x.reg i.a))))) (x.pc + 4) 1 := by
  simp only [Thr.exec, h]

/-- R180: CRCR runs the low bytes of A through the CRC. -/
theorem Thr.exec_of_crcr (h : i.op = .crcr) (hk : 0 < (x.reg i.b).toNat) : x.exec i = .go (x.setReg i.d
    (crcRun i.x (x.reg i.d) (beBytes (min 8 (x.reg i.b).toNat) (x.reg i.a).toNat))) (x.pc + 4) 1 := by
  have hmin : min 8 (x.reg i.b).toNat ≠ 0 := by omega
  simp only [Thr.exec, h, if_neg hmin]

/-- R180: CRCR of no byte leaves D. -/
theorem Thr.exec_of_crcr_none (h : i.op = .crcr) (hk : (x.reg i.b).toNat = 0) : x.exec i = .go x (x.pc + 4) 1 := by
  simp only [Thr.exec, h, hk, Nat.min_zero, if_true]

section Vector

variable (hin : 0 < (x.reg i.b).toNat) (hend : (x.reg i.a).toNat + (x.reg i.b).toNat ≤ 512)
include hin hend

/-- R179: CSHV adds the bytes of the vector that A and B name to D's low 16 bits, folded. -/
theorem Thr.exec_of_cshv (h : i.op = .cshv) : x.exec i = .go (x.setReg i.d (BitVec.ofNat 64
    (fold16 (getBits (x.reg i.d) 0 16 + sum16 (x.vbytes (x.reg i.a).toNat (x.reg i.b).toNat))))) (x.pc + 4)
      (runSlots (x.reg i.b).toNat) := by
  simp only [Thr.exec, h, if_neg (not_and_of_not_right _ (Nat.not_lt.mpr hend)), if_neg hin.ne', runSlots]

/-- R180: CRCHV runs the bytes of the vector that A and B name through the CRC. -/
theorem Thr.exec_of_crchv (h : i.op = .crchv) : x.exec i = .go (x.setReg i.d
    (crcRun i.x (x.reg i.d) (x.vbytes (x.reg i.a).toNat (x.reg i.b).toNat))) (x.pc + 4) (runSlots (x.reg i.b).toNat) := by
  simp only [Thr.exec, h, if_neg (not_and_of_not_right _ (Nat.not_lt.mpr hend)), if_neg hin.ne', runSlots]

end Vector

variable (h : i.op = .cshv ∨ i.op = .crchv)
include h

/-- R179, R180: over no byte of the vector CSHV and CRCHV change no register. -/
theorem Thr.exec_of_vector_none (hk : (x.reg i.b).toNat = 0) : x.exec i = .go x (x.pc + 4) 1 := by
  rcases h with h | h <;> simp only [Thr.exec, h, hk, ne_eq, not_true_eq_false, false_and, if_false, if_true]

/-- R179, R180: beyond the vector CSHV and CRCHV trap HV_RANGE. -/
theorem Thr.exec_of_vector_range (hin : 0 < (x.reg i.b).toNat) (hend : 512 < (x.reg i.a).toNat + (x.reg i.b).toNat) :
    x.exec i = .trap 5 := by
  have hout : (x.reg i.b).toNat ≠ 0 ∧ 512 < (x.reg i.a).toNat + (x.reg i.b).toNat := ⟨hin.ne', hend⟩
  rcases h with h | h <;> simp only [Thr.exec, h, if_pos hout]

end Sums

/-- Settles O27: each clause is what its instruction does to the thread, by its length and where its bytes end. -/
theorem engineChecksumsAndCrcs : Obligations.EngineChecksumsAndCrcs := by
  rintro s n t i d x o k hacts hissues rfl hx rfl rfl
  have hgo {op : EMn} {y : Thr} {pc slots : Nat} :=
    State.run_of_go (op := op) (y := y) (pc := pc) (slots := slots) hacts hissues hx
  refine ⟨fun hop => hgo rfl hop (Thr.exec_of_csadd hop), fun hop => hgo rfl hop (Thr.exec_of_csfin hop),
    fun hop hin hend => hgo rfl hop (Thr.exec_of_cshv hin hend hop),
    fun hop hin hend => hgo rfl hop (Thr.exec_of_crchv hin hend hop), fun c hc => ?vector,
    fun hop hin => hgo rfl hop (Thr.exec_of_crcr hop hin), fun hop hk => hgo rfl hop (Thr.exec_of_crcr_none hop hk)⟩
  case vector =>
    obtain ⟨hmem, hexec⟩ := exec_of_mem_commands (ms := [.cshv, .crchv]) hc
    have hown : i.op.threadOnly = true := (by decide : ∀ m ∈ [EMn.cshv, .crchv], m.threadOnly = true) _ hmem
    have hop : i.op = .cshv ∨ i.op = .crchv := by simpa using hmem
    rw [hexec]
    exact ⟨fun hk => hgo hown rfl (Thr.exec_of_vector_none hop hk),
      fun hin hend => State.run_of_trap hacts hissues hx hown rfl (Thr.exec_of_vector_range hop hin hend)⟩

end Sys2Proof.Machine

/-! The header vector and the data memory (R175, R177). -/

namespace Sys2Proof.Machine

section VectorAccess

variable {i : EngInst} {x : Thr}

/-- R175: HLD and HST reach 2 to IMM[10:9] bytes at value(A) + IMM[8:0]. -/
theorem hvAccess_of_ok (hok : i.ok = true) (h : i.op = .hld ∨ i.op = .hst) :
    hvAccess x i = ((x.reg i.a).toNat + i.x % 512, 2 ^ (i.x / 512)) := by
  have hx : i.x < 2048 := by
    rcases h with h | h <;> simp only [EngInst.ok, h, Bool.and_eq_true, decide_eq_true_eq] at hok <;> exact hok.2
  have hsize : i.x / 512 % 4 = i.x / 512 := by omega
  simp only [hvAccess, hsize]

variable {o w : Nat} (hacc : hvAccess x i = (o, w))
include hacc

/-- R175: HLD loads the big-endian value of bytes within the vector. -/
theorem Thr.exec_of_hld (h : i.op = .hld) (hin : o + w ≤ 512) :
    x.exec i = .go (x.setReg i.d (BitVec.ofNat 64 (beNat (x.vbytes o w)))) (x.pc + 4) 1 := by
  simp only [Thr.exec, h, hacc, if_neg (Nat.not_lt.mpr hin)]

/-- R175: HST stores D's low bytes within the vector. -/
theorem Thr.exec_of_hst (h : i.op = .hst) (hin : o + w ≤ 512) :
    x.exec i = .go { x with v := spliceBytes x.v o (beBytes w (x.reg i.d).toNat) } (x.pc + 4) 1 := by
  simp only [Thr.exec, h, hacc, if_neg (Nat.not_lt.mpr hin)]

/-- R175: beyond the vector HLD and HST trap HV_RANGE. -/
theorem Thr.exec_of_hv_range (h : i.op = .hld ∨ i.op = .hst) (hout : 512 < o + w) : x.exec i = .trap 5 := by
  rcases h with h | h <;> simp only [Thr.exec, h, hacc, if_pos hout]

end VectorAccess

section DataMemory

variable {d : Dev} {n t word a : Nat} {i : EngInst} {x : Thr}

/-- R177: the bytes that an instruction of the group reaches. -/
def EMn.memSize : EMn → Nat
  | .ldw | .stw => 4
  | _ => 8

/-- R177: the mnemonics of the group. -/
def memMns : List EMn := [.ldw, .ldd, .stw, .std]

theorem Dev.execInst_of_mem (h : i.op ∈ memMns) : d.execInst n t i word = d.execMem n t (d.thr n t) i word := by
  simp only [memMns, List.mem_cons, List.not_mem_nil, or_false] at h
  rcases h with h | h | h | h <;> simp only [Dev.execInst, h]

/-- R177: the size of an access as `execMem` has it. -/
theorem EngInst.memSize_eq (h : i.op ∈ memMns) : (if i.op = .ldw ∨ i.op = .stw then 4 else 8) = i.op.memSize := by
  simp only [memMns, List.mem_cons, List.not_mem_nil, or_false] at h
  rcases h with h | h | h | h <;> rw [h] <;> rfl

variable (ha : a = (x.reg i.a + simm 12 i.x).toNat)
include ha

/-- R177: an access past the memory traps DMEM_RANGE, a misaligned one within it DMEM_ALIGN. -/
theorem Dev.execMem_of_bad (h : i.op ∈ memMns) (hbad : 0x30000 < a + i.op.memSize ∨ a % i.op.memSize ≠ 0) :
    d.execMem n t x i word = d.trap n t (if 0x30000 < a + i.op.memSize then 3 else 4) word := by
  simp only [Dev.execMem, EngInst.memSize_eq h, ← ha]
  split
  next => rfl
  next hin => exact if_pos (hbad.resolve_left hin)

/-- R177: a load of a word without an error puts its little-endian value in D. -/
theorem Dev.execMem_of_load (h : i.op = .ldw ∨ i.op = .ldd) (hin : a + i.op.memSize ≤ 0x30000)
    (halign : a % i.op.memSize = 0) (hgood : (d.pe n).badData.contains (a / 8) = false) : d.execMem n t x i word =
      d.issued n t (x.setReg i.d (BitVec.ofNat 64 (leNat (d.readMem .peData (n * 196608 + a) i.op.memSize)))) (x.pc + 4) 1 := by
  have hmem : i.op ∈ memMns := by rcases h with h | h <;> rw [h] <;> decide
  simp only [Dev.execMem, EngInst.memSize_eq hmem, ← ha, if_neg (Nat.not_lt.mpr hin), halign, ne_eq, not_true_eq_false,
    if_false, if_pos h, hgood, Bool.false_eq_true]

/-- R177: STW stores D's low 4 bytes. -/
theorem Dev.execMem_of_stw (h : i.op = .stw) (hin : a + 4 ≤ 0x30000) (halign : a % 4 = 0) : d.execMem n t x i word =
    (d.writeMem .peData (n * 196608 + a) (leBytes 4 (x.reg i.d).toNat)).issued n t x (x.pc + 4) 1 := by
  simp [Dev.execMem, h, ← ha, Nat.not_lt.mpr hin, halign]

/-- R177, R193: STD stores D's 8 bytes, a whole word, which has no error then. -/
theorem Dev.execMem_of_std (h : i.op = .std) (hin : a + 8 ≤ 0x30000) (halign : a % 8 = 0) : d.execMem n t x i word =
    ((d.writeMem .peData (n * 196608 + a) (leBytes 8 (x.reg i.d).toNat)).setPe n
      (fun (p : PeSt) => { p with badData := p.badData.filter (· ≠ a / 8) })).issued n t x (x.pc + 4) 1 := by
  simp [Dev.execMem, h, ← ha, Nat.not_lt.mpr hin, halign]

end DataMemory

section MemoryCommands

variable {s : State} {n t a size : Nat} {i : EngInst} {op : EMn} {x : Thr} {e : Dev}
  (hacts : s.dev.acts = true) (hissues : s.dev.issues n t i = true) (hx : x = (s.dev.atIssue n t).thr n t)
include hacts hissues hx

/-- The command of a mnemonic of the memory group, where it may issue, answers what the group does. -/
theorem State.run_mem (hmem : op ∈ memMns) (hop : i.op = op)
    (he : (s.dev.atIssue n t).execMem n t x i ((s.dev.atIssue n t).fetchWord n x.pc) = e) :
    s.run (issue n op) = s.next (e.syncPe n) := by
  subst hx
  exact State.run_issue hacts hissues hop ((Dev.execInst_of_mem (hop ▸ hmem)).trans he)

/-- R177: the trap that an access of `size` bytes takes past the memory, or within it where it is misaligned. -/
theorem exec_of_mem_bad (ha : a = (x.reg i.a + simm 12 i.x).toNat) {c : Instr} {ms : List EMn}
    (hsize : ∀ m ∈ ms, m ∈ memMns ∧ m.memSize = size) (hc : (c, i.op) ∈ ms.map (fun m => (m.command n, m)))
    (hbad : 0x30000 < a + size ∨ a % size ≠ 0) : exec c s = s.next (((s.dev.atIssue n t).trap n t
      (if 0x30000 < a + size then 3 else 4) ((s.dev.atIssue n t).fetchWord n x.pc)).syncPe n) := by
  obtain ⟨hmem, hexec⟩ := exec_of_mem_commands (s := s) hc
  obtain ⟨hgroup, rfl⟩ := hsize _ hmem
  exact hexec.trans (State.run_mem hacts hissues hx hgroup rfl (Dev.execMem_of_bad ha hgroup hbad))

end MemoryCommands

/-- Settles O24: HLD and HST are told by where their bytes end; the memory group by its range, its alignment and its kind. -/
theorem engineVectorAndDataMemory : Obligations.EngineVectorAndDataMemory := by
  rintro s n t i d x hacts hissues rfl hx
  refine ⟨?vector, ?memory⟩
  case vector =>
    rintro o w rfl rfl
    have hacc := hvAccess_of_ok (x := x) (Dev.ok_of_issues hissues)
    have hgo {op : EMn} {y : Thr} := State.run_of_go (op := op) (y := y) (pc := x.pc + 4) (slots := 1) hacts hissues hx
    have htrap {op : EMn} := State.run_of_trap (op := op) (k := 5) hacts hissues hx
    exact ⟨fun hop => ⟨fun hin => hgo rfl hop (Thr.exec_of_hld (hacc (.inl hop)) hop hin),
        fun hout => htrap rfl hop (Thr.exec_of_hv_range (hacc (.inl hop)) (.inl hop) hout)⟩,
      fun hop => ⟨fun hin => hgo rfl hop (Thr.exec_of_hst (hacc (.inr hop)) hop hin),
        fun hout => htrap rfl hop (Thr.exec_of_hv_range (hacc (.inr hop)) (.inr hop) hout)⟩⟩
  case memory =>
    intro a ha
    have hstep {op : EMn} {e : Dev} := State.run_mem (op := op) (e := e) hacts hissues hx
    have hbad {size : Nat} {c : Instr} {ms : List EMn} := exec_of_mem_bad (size := size) (c := c) (ms := ms) hacts hissues hx ha
    have hload {op : EMn} (hkind : op = .ldw ∨ op = .ldd) (hmem : op ∈ memMns) (hop : i.op = op)
        (hin : a + op.memSize ≤ 0x30000) (halign : a % op.memSize = 0)
        (hgood : ((s.dev.atIssue n t).pe n).badData.contains (a / 8) = false) :=
      hstep hmem hop (hop ▸ Dev.execMem_of_load ha (hop ▸ hkind) (hop ▸ hin) (hop ▸ halign) hgood)
    exact ⟨fun hop hin halign hgood => hload (.inl rfl) (by decide) hop hin halign hgood,
      fun hop hin halign hgood => hload (.inr rfl) (by decide) hop hin halign hgood,
      fun hop hin halign => hstep (by decide) hop (Dev.execMem_of_stw ha hop hin halign),
      fun hop hin halign => hstep (by decide) hop (Dev.execMem_of_std ha hop hin halign),
      fun c hc => hbad (ms := [.ldw, .stw]) (by decide) hc, fun c hc => hbad (ms := [.ldd, .std]) (by decide) hc⟩

end Sys2Proof.Machine

/-! Table operations (R181 to R188): the request that an instruction sends, and the operand that it refuses. -/

namespace Sys2Proof.Machine

section TableOperations

variable {d : Dev} {n t word : Nat} {i : EngInst} {x : Thr}

/-- R182 to R187: the mnemonics whose instructions await an answer. -/
def tableMns : List EMn := [.lk, .tins, .tdel, .twr, .atomAdd, .atomSwp, .atomCas, .pol]

/-- R184, R185: the mnemonics that ask for a change. -/
def changeMns : List EMn := [.tins, .tdel, .twr, .atomAdd, .atomSwp, .atomCas]

/-- R182, R188: thread `x` has gone on past instruction `i`, whose answer it awaits. -/
def Dev.sent (d : Dev) (n t : Nat) (x : Thr) (i : EngInst) : Dev := d.issued n t (x.addOp i.d i.extra) (x.pc + 4) 1

/-- R181: the source of the requests that thread `x` of PE `n` makes. -/
def Dev.requester (d : Dev) (n t : Nat) (x : Thr) : TblSrc := .engine n t x.nextSlot (d.peOwner n)

/-- R181: what thread `x` asks of the table that its operand names, by LK without learning. -/
def Thr.lookReq (x : Thr) (n t : Nat) (i : EngInst) : LookReq :=
  { src := .engine n t x.nextSlot, table := wget [x.reg i.b] TOpnd.TABLE_ID, key := keyBytes (x.run i.a 5)
    index := wget [x.reg i.b] TOpnd.INDEX, first := wget [x.reg i.b] TOpnd.FIRST_WORD, n := i.x, learn := false
    source := none }

/-- R187: what POL asks of its meter. -/
def Thr.polReq (x : Thr) (src : TblSrc) (i : EngInst) : PolReq :=
  { src := src, table := wget [x.reg i.b] TOpnd.TABLE_ID, index := wget [x.reg i.b] TOpnd.INDEX
    bytes := getBits (x.reg i.a) 0 32, colour := getBits (x.reg i.a) 32 2, bad := getBits (x.reg i.a) 32 2 = 3 }

/-- An issue leaves the owner of the PE's code. -/
@[simp] theorem Dev.peOwner_issued (d : Dev) (n t : Nat) (x : Thr) (pc slots : Nat) :
    (d.issued n t x pc slots).peOwner n = d.peOwner n :=
  (Dev.gk_sk_ne _ _ _ _ _ (by decide)).trans (Dev.setThr_g ..)

/-- R183: a lookup is on its way, and the wake of its home tile's region starts. -/
def Dev.addLook (d : Dev) (r : LookReq) : Dev :=
  ({ d with tbl := { d.tbl with looks := d.tbl.looks ++ [r] } } : Dev).wakeUnit (matchId (homeTile r.table))

/-- R187: a meter request is on its way, and the wake of its home tile's region starts. -/
def Dev.addPol (d : Dev) (r : PolReq) : Dev :=
  ({ d with sched := { d.sched with pols := d.sched.pols ++ [r] } } : Dev).wakeUnit (matchId (homeTile r.table))

theorem Dev.execInst_of_table (h : i.op ∈ tableMns) : d.execInst n t i word = d.execTable n t (d.thr n t) i := by
  simp only [tableMns, List.mem_cons, List.not_mem_nil, or_false] at h
  rcases h with h | h | h | h | h | h | h | h <;> simp only [Dev.execInst, h]

theorem Dev.execInst_of_cnt (h : i.op = .cnt) : d.execInst n t i word = d.execCnt n t (d.thr n t) i := by
  simp only [Dev.execInst, h]

/-- R181: a reserved bit of the operand completes the operation MALFORMED. -/
theorem Dev.execTable_of_bad (hbad : getBits (x.reg i.b) 21 3 ≠ 0) : d.execTable n t x i =
    (d.sent n t x i).answer { ansSt (d.requester n t x) Sc.malformed with words := List.replicate i.extra 0 } := by
  have hop : operandBad (x.reg i.b) = true := decide_eq_true hbad
  simp only [Dev.execTable, hop, if_true]; rfl

/-- R181: an operand whose reserved bits are 0 is accepted. -/
theorem operandBad_eq_false {b : Word} (h : getBits b 21 3 = 0) : operandBad b = false := decide_eq_false (not_not.mpr h)

section Good

variable (hgood : getBits (x.reg i.b) 21 3 = 0)
include hgood

/-- R183: LK without learning queues a lookup. -/
theorem Dev.execTable_of_lk (h : i.op = .lk) (hlearn : i.x < 8) :
    d.execTable n t x i = (d.sent n t x i).addLook (x.lookReq n t i) := by
  simp [Dev.execTable, operandBad_eq_false hgood, h, Nat.not_le.mpr hlearn, Nat.mod_eq_of_lt hlearn, Dev.sent, Dev.addLook,
    Thr.lookReq]

/-- R187: POL queues a meter request. -/
theorem Dev.execTable_of_pol (h : i.op = .pol) :
    d.execTable n t x i = (d.sent n t x i).addPol (x.polReq (d.requester n t x) i) := by
  simp [Dev.execTable, operandBad_eq_false hgood, h, Dev.sent, Dev.addPol, Thr.polReq, Dev.requester]

/-- R184, R185: TINS, TDEL, TWR and the ATOMs queue a change. -/
theorem Dev.execTable_of_change (h : i.op ∈ changeMns) : d.execTable n t x i = (d.sent n t x i).addChange
    { src := d.requester n t x, table := wget [x.reg i.b] TOpnd.TABLE_ID, req := x.tblReq i } := by
  have hkind : i.op ≠ .lk ∧ i.op ≠ .pol := (by decide : ∀ m ∈ changeMns, m ≠ .lk ∧ m ≠ .pol) _ h
  simp only [Dev.execTable, operandBad_eq_false hgood, Bool.false_eq_true, if_false, if_neg hkind.1, if_neg hkind.2]; rfl

/-- R186: CNT queues its update and is one more in flight. -/
theorem Dev.execCnt_of_room (hroom : (d.pe n).cnts < 64) : d.execCnt n t x i =
    ((d.issued n t x (x.pc + 4) 1).setPe n (fun (p : PeSt) => { p with cnts := p.cnts + 1 })).addChange
      { src := d.requester n t x, table := wget [x.reg i.b] TOpnd.TABLE_ID
        req := .cnt (wget [x.reg i.b] TOpnd.INDEX) (x.reg i.a).toNat } := by
  simp only [Dev.execCnt, operandBad_eq_false hgood, Bool.false_eq_true, if_false, if_neg (Nat.not_le.mpr hroom),
    Dev.peOwner_issued, Dev.requester]

end Good

/-- R186: with 64 in flight the thread stays at its CNT. -/
theorem Dev.execCnt_of_full (hfull : 64 ≤ (d.pe n).cnts) : d.execCnt n t x i = d := if_pos hfull

end TableOperations

/-- Settles O28: each clause is the equation of its mnemonic, by whether the operand has a reserved bit set. -/
theorem engineTableOperationsSendTheirRequest : Obligations.EngineTableOperationsSendTheirRequest := by
  rintro s n t i d e x b src hacts hissues rfl rfl rfl rfl rfl
  have htable {op : EMn} {e : Dev} (hmem : op ∈ tableMns) (hop : i.op = op)
      (he : (s.dev.atIssue n t).execTable n t ((s.dev.atIssue n t).thr n t) i = e) : s.run (issue n op) = s.next (e.syncPe n) :=
    State.run_issue hacts hissues hop ((Dev.execInst_of_table (hop ▸ hmem)).trans he)
  have hcnt {e : Dev} (hop : i.op = .cnt) (he : (s.dev.atIssue n t).execCnt n t ((s.dev.atIssue n t).thr n t) i = e) :
      s.run (issue n .cnt) = s.next (e.syncPe n) :=
    State.run_issue hacts hissues hop ((Dev.execInst_of_cnt hop).trans he)
  refine ⟨fun hgood => ⟨fun hop hlearn => htable (by decide) hop (Dev.execTable_of_lk hgood hop hlearn),
      fun hop => htable (by decide) hop (Dev.execTable_of_pol hgood hop), fun c r hc => ?change,
      fun hop hroom => hcnt hop (Dev.execCnt_of_room hgood hroom)⟩,
    fun hop hfull => hcnt hop (Dev.execCnt_of_full hfull), fun hbad c hc => ?bad⟩
  case change =>
    obtain ⟨hmem, hexec, rfl⟩ := exec_of_mem_commands_with (ms := changeMns)
      (f := fun m => ((s.dev.atIssue n t).thr n t).tblReq { i with op := m }) hc
    have hawaits : i.op ∈ tableMns := (by decide : ∀ m ∈ changeMns, m ∈ tableMns) _ hmem
    exact hexec.trans (htable hawaits rfl (Dev.execTable_of_change hgood hmem))
  case bad =>
    obtain ⟨hmem, hexec⟩ := exec_of_mem_commands (ms := tableMns) hc
    exact hexec.trans (htable hmem rfl (Dev.execTable_of_bad hbad))

end Sys2Proof.Machine

/-! HADJ (R176): the bytes of the packet before and after its start has moved. -/

namespace Sys2Proof.Machine

section Metadata

/-- A field of a list of words that was set reads as its value, modulo its width. -/
theorem wget_wset_same {ws : List Word} {f : CFld} (hword : f.word < ws.length) (hf : f.lo + f.w ≤ 64) (v : Nat) :
    wget (wset ws f v) f = v % 2 ^ f.w := by
  simp only [wget, wset, List.getD_eq_getElem?_getD, List.getElem?_set_self hword, Option.getD_some,
    getBits_putBits_same _ _ _ _ hf]

/-- R107: PKT_LEN reads as it was set. -/
theorem Pkt.mg_ms_PKT_LEN {p : Pkt} (hm : p.m.length = 16) {len : Nat} (hlen : len < 2 ^ 16) :
    (p.ms Meta.PKT_LEN len).mg Meta.PKT_LEN = len := by
  have hword : Meta.PKT_LEN.word < p.m.length := hm ▸ (by decide)
  exact (wget_wset_same hword (by decide) len).trans (Nat.mod_eq_of_lt hlen)

end Metadata

section PacketStart

variable {x y : Thr} {i : EngInst} {k len : Nat} {n : Int}

/-- R176: `k` bytes of 0 stand before the packet, which is `len` bytes long; what V has no room for is in the spill. -/
def Thr.growFront (x : Thr) (k len : Nat) : Thr :=
  { x with
    v := List.replicate k 0 ++ x.v.take (512 - k)
    spill := (x.v.take x.vl).drop (x.vl - (x.vl + k - 512)) ++ x.spill
    pkt := x.pkt.ms Meta.PKT_LEN len }

/-- R176: the first `k` bytes of the packet, which is `len` bytes long, are gone; bytes of the spill fill V up. -/
def Thr.cutFront (x : Thr) (k len : Nat) : Thr :=
  { x with
    v := x.v.drop k ++ x.spill.take k ++ List.replicate (k - x.spill.length) 0
    spill := x.spill.drop k
    pkt := x.pkt.ms Meta.PKT_LEN len }

/-- R176: HADJ by `n`, in the words of `growFront` and `cutFront`. -/
theorem Thr.hadj_eq (x : Thr) (hn : n ≠ 0) : x.hadj n =
    if 256 < n.natAbs ∨ (x.pkt.mg Meta.PKT_LEN : Int) + n < 14 ∨ 16383 < (x.pkt.mg Meta.PKT_LEN : Int) + n then none
    else if 0 < n then
      if 256 < x.spill.length + (x.vl + n.natAbs - 512) then none
      else some (x.growFront n.natAbs ((x.pkt.mg Meta.PKT_LEN : Int) + n).toNat)
    else if x.vl < n.natAbs then none
    else some (x.cutFront n.natAbs ((x.pkt.mg Meta.PKT_LEN : Int) + n).toNat) := by
  simp only [Thr.hadj, if_neg hn]
  rfl

/-- R176: outside its limits HADJ by `n` cannot be carried out. -/
theorem Thr.hadj_eq_none (hn : n ≠ 0)
    (h : 256 < n.natAbs ∨ (x.pkt.mg Meta.PKT_LEN : Int) + n < 14 ∨ 16383 < (x.pkt.mg Meta.PKT_LEN : Int) + n ∨
      (0 < n ∧ 256 < x.spill.length + (x.vl + n.natAbs - 512)) ∨ (n < 0 ∧ x.vl < n.natAbs)) : x.hadj n = none := by
  rw [Thr.hadj_eq x hn]
  split
  next => rfl
  next hlimits =>
    split
    next hpos => exact if_pos (by omega)
    next hneg => exact if_pos (by omega)

/-- R176: what a HADJ that succeeds can have done. -/
theorem Thr.hadj_eq_some (h : x.hadj n = some y) : (n = 0 ∧ y = x) ∨
    ((x.pkt.mg Meta.PKT_LEN : Int) + n ≤ 16383 ∧ ∃ k len : Nat, k ≤ 256 ∧
      (len : Int) = (x.pkt.mg Meta.PKT_LEN : Int) + n ∧
      (n = k ∧ y = x.growFront k len ∨ n < 0 ∧ n = -k ∧ k ≤ x.vl ∧ y = x.cutFront k len)) := by
  by_cases hn : n = 0
  · subst hn
    exact .inl ⟨rfl, (Option.some.inj h).symm⟩
  rw [Thr.hadj_eq x hn] at h
  split at h
  next => cases h
  next hlimits =>
    refine .inr ⟨by omega, n.natAbs, ((x.pkt.mg Meta.PKT_LEN : Int) + n).toNat, by omega, by omega, ?_⟩
    split at h
    next hpos =>
      split at h
      next => cases h
      next => exact .inl ⟨by omega, (Option.some.inj h).symm⟩
    next hneg =>
      split at h
      next => cases h
      next hvl => exact .inr ⟨by omega, by omega, by omega, (Option.some.inj h).symm⟩

/-- R176: a HADJ that cannot be carried out traps LEN_RANGE. -/
theorem Thr.exec_of_hadj_none (h : i.op = .hadj) (hnone : x.hadj ((x.reg i.a).toInt + sext 12 i.x) = none) :
    x.exec i = .trap 6 := by
  simp only [Thr.exec, h, hnone]

/-- R176: a HADJ that succeeds uses two slots. -/
theorem Thr.exec_of_hadj_some (h : i.op = .hadj) (hsome : x.hadj ((x.reg i.a).toInt + sext 12 i.x) = some y) :
    x.exec i = .go y (x.pc + 4) 2 := by
  simp only [Thr.exec, h, hsome]

/-- R144, R176: V holds 512 bytes, the metadata 16 words, and the packet's three parts add up to PKT_LEN; there is a spill
only behind a full V. -/
structure Thr.Whole (x : Thr) : Prop where
  v_length : x.v.length = 512
  m_length : x.pkt.m.length = 16
  vl_le : x.vl ≤ 512
  parts_le : x.spill.length + x.tail.length ≤ x.pkt.mg Meta.PKT_LEN
  full_of_spill : x.spill ≠ [] → x.vl = 512

variable (hx : x.Whole)
include hx

/-- R176: the three parts of the packet add up to PKT_LEN. -/
theorem Thr.Whole.length_eq : x.pkt.mg Meta.PKT_LEN = x.vl + x.spill.length + x.tail.length := by
  have hparts := hx.parts_le
  simp only [Thr.vl]
  omega

/-- R176: the bytes of V that belong to a packet grown at its front. -/
theorem Thr.Whole.vl_growFront (hk : k ≤ 256) (hlen : len = x.pkt.mg Meta.PKT_LEN + k) (hlt : len < 2 ^ 16) :
    (x.growFront k len).vl = k + (x.vl - (x.vl + k - 512)) := by
  have hv := hx.v_length
  have hvl := hx.vl_le
  have hsum := hx.length_eq
  have hspill : (x.growFront k len).spill.length = x.vl + k - 512 + x.spill.length := by
    simp only [Thr.growFront, List.length_append, List.length_drop, List.length_take]
    omega
  have hnew : (x.growFront k len).pkt.mg Meta.PKT_LEN = len := Pkt.mg_ms_PKT_LEN hx.m_length hlt
  have htail : (x.growFront k len).tail = x.tail := rfl
  rw [Thr.vl, hnew, hspill, htail]
  omega

/-- R176: a packet grown at its front is the old one behind bytes of 0. -/
theorem Thr.Whole.bytes_growFront (hk : k ≤ 256) (hlen : len = x.pkt.mg Meta.PKT_LEN + k) (hlt : len < 2 ^ 16) :
    (x.growFront k len).bytes = List.replicate k 0 ++ x.bytes := by
  have hvl := hx.vl_le
  have hsame : min (x.vl - (x.vl + k - 512)) (512 - k) = min (x.vl - (x.vl + k - 512)) x.vl := by omega
  have hfront : (x.growFront k len).v.take (k + (x.vl - (x.vl + k - 512))) =
      List.replicate k 0 ++ (x.v.take x.vl).take (x.vl - (x.vl + k - 512)) := by
    simp [Thr.growFront, List.take_append, List.take_take, hsame]
  have hspilt := List.take_append_drop (x.vl - (x.vl + k - 512)) (x.v.take x.vl)
  calc (x.growFront k len).bytes
      = List.replicate k 0 ++ ((x.v.take x.vl).take (x.vl - (x.vl + k - 512)) ++
          (x.v.take x.vl).drop (x.vl - (x.vl + k - 512))) ++ x.spill ++ x.tail := by
        rw [Thr.bytes, hx.vl_growFront hk hlen hlt, hfront]
        simp only [Thr.growFront, List.append_assoc]
    _ = List.replicate k 0 ++ x.bytes := by simp only [hspilt, Thr.bytes, List.append_assoc]

/-- R176: the bytes of V that belong to a packet cut at its front. -/
theorem Thr.Whole.vl_cutFront (hk : k ≤ x.vl) (hlen : x.pkt.mg Meta.PKT_LEN = len + k) (hlt : len < 2 ^ 16) :
    (x.cutFront k len).vl = x.vl - k + min k x.spill.length := by
  have hsum := hx.length_eq
  have hspill : (x.cutFront k len).spill.length = x.spill.length - k := List.length_drop
  have hnew : (x.cutFront k len).pkt.mg Meta.PKT_LEN = len := Pkt.mg_ms_PKT_LEN hx.m_length hlt
  have htail : (x.cutFront k len).tail = x.tail := rfl
  rw [Thr.vl, hnew, hspill, htail]
  omega

/-- R176: a packet cut at its front is the old one without its first bytes. -/
theorem Thr.Whole.bytes_cutFront (hk : k ≤ x.vl) (hlen : x.pkt.mg Meta.PKT_LEN = len + k) (hlt : len < 2 ^ 16) :
    (x.cutFront k len).bytes = x.bytes.drop k := by
  have hv := hx.v_length
  have hvl := hx.vl_le
  have hfull := hx.full_of_spill
  have hfront : (x.cutFront k len).v.take (x.vl - k + min k x.spill.length) = (x.v.take x.vl).drop k ++ x.spill.take k := by
    by_cases hspill : x.spill = []
    · simp [Thr.cutFront, hspill, List.take_append, List.drop_take, hv]
      omega
    · simp [Thr.cutFront, List.take_append, List.drop_take, hv, hfull hspill]
  have hle : k ≤ (x.v.take x.vl).length := by rw [List.length_take]; omega
  calc (x.cutFront k len).bytes
      = (x.v.take x.vl).drop k ++ (x.spill.take k ++ x.spill.drop k) ++ x.tail := by
        rw [Thr.bytes, hx.vl_cutFront hk hlen hlt, hfront]
        simp only [Thr.cutFront, List.append_assoc]
    _ = x.bytes.drop k := by
        rw [List.take_append_drop, Thr.bytes, List.append_assoc, List.append_assoc, List.drop_append_of_le_length hle]

end PacketStart

/-- Settles O25: a HADJ that cannot be carried out traps; any other grows or cuts the packet at its front. -/
theorem hadjMovesThePacketStart : Obligations.HadjMovesThePacketStart := by
  rintro s n t i d x k hacts hissues rfl hx hop rfl
  refine ⟨fun hk hbad => State.run_of_trap hacts hissues hx rfl hop (Thr.exec_of_hadj_none hop (Thr.hadj_eq_none hk hbad)),
    fun hv hm hvl hparts hspill y hy => ⟨State.run_of_go hacts hissues hx rfl hop (Thr.exec_of_hadj_some hop hy), ?_⟩⟩
  have hwhole : x.Whole := ⟨hv, hm, hvl, hparts, hspill⟩
  rcases Thr.hadj_eq_some hy with ⟨hk, rfl⟩ | ⟨hmax, k, len, hk, hlen, ⟨hgrow, rfl⟩ | ⟨hneg, hcut, hkvl, rfl⟩⟩
  case inl =>
    rw [hk]
    exact ⟨(add_zero _).symm, rfl, rfl, fun _ => rfl, fun h => absurd h (lt_irrefl 0)⟩
  all_goals have hmg := Pkt.mg_ms_PKT_LEN hm (show len < 2 ^ 16 by omega)
  case inr.inl =>
    refine ⟨(congrArg Nat.cast hmg).trans hlen, rfl, rfl, fun _ => ?_, fun h => by omega⟩
    rw [hwhole.bytes_growFront hk (by omega) (by omega), hgrow, Int.toNat_natCast]
  case inr.inr =>
    refine ⟨(congrArg Nat.cast hmg).trans hlen, rfl, rfl, fun h => absurd hneg (not_lt.mpr h), fun _ => ?_⟩
    rw [hwhole.bytes_cutFront hkvl (by omega) (by omega), hcut, neg_neg, Int.toNat_natCast]

end Sys2Proof.Machine

/-! The switch core (R201 to R203, R205 to R207, R210 to R212): admission, the retry of held packets, readers and replication. -/

namespace Sys2Proof.Machine

section SwitchCore

variable {d : Dev} {i o c : Nat} {x : SwPkt}

section Admission

/-- R201, R206: what a management core has built reaches input 23 before its next packet is looked for. -/
theorem packetAdmit_built (data : List Byte) (m : List Word) (w : Nat) (d : Dev) :
    packetAdmit 23 (some (data, m, w)) d = packetAdmit 23 none (d.coreBuilt data m w) := rfl

/-- Packet `x` has left the inputs. -/
def Dev.leaveWire (d : Dev) (x : SwPkt) : Dev :=
  { d with sw := { d.sw with wire := d.sw.wire.filter (fun (y : SwPkt) => y.id ≠ x.id) } }

/-- R213: a packet whose m12 asks for no encapsulation enters as it is. -/
theorem Dev.encap_of_plain {p : Pkt} (hkind : (p.m.getD 12 0).toNat / 2 ^ 24 % 8 = 0) : d.encap p = (d, some p) :=
  if_pos hkind

/-- R202: the packet at the front of the inputs waits behind no other one there. -/
theorem Dev.not_behind_front (l : List SwPkt) : d.behind ((x :: l).takeWhile (fun y => y.id ≠ x.id)) x = false := by
  rw [List.takeWhile_cons_of_neg (by simp)]
  rfl

/-- R202, R205: the first packet an input presents, bound for a port as it is, goes through the checks. -/
theorem packetAdmit_of_front {b : Option (List Byte × List Word × Nat)} {l : List SwPkt} {port queue : Nat}
    (hopen : d.swOpen = true) (hbuilt : i ≠ 23 ∨ b = none) (hwire : d.sw.wire = x :: l) (hinput : x.input = i)
    (hcrypto : x.crypto = 0) (hheld : d.behind d.sw.held x = false) (hdest : x.dest = .port port queue)
    (hkind : (x.pkt.m.getD 12 0).toNat / 2 ^ 24 % 8 = 0) : packetAdmit i b d = (d.leaveWire x).accept x := by
  have hnone : packetAdmit i b d = packetAdmit i none d := by
    rcases hbuilt with hi | rfl
    · cases b with
      | none => rfl
      | some b => simp only [packetAdmit, if_neg hi]
    · rfl
  have hfirst : d.sw.wire.find? (fun (y : SwPkt) => y.input = i && y.crypto = 0 && !d.behind d.sw.held y &&
      !d.behind (d.sw.wire.takeWhile (fun z => z.id ≠ y.id)) y) = some x := by
    rw [hwire]
    exact List.find?_cons_of_pos (by
      simp only [hinput, hcrypto, hheld, Dev.not_behind_front, decide_true, Bool.not_false, Bool.and_self])
  rw [hnone]
  simp only [packetAdmit, hfirst, hdest, hopen, Dev.encap_of_plain hkind, Dev.leaveWire, Bool.not_true,
    Bool.false_eq_true, if_false]
  rw [← hdest]

/-- R205: a packet whose port is gone is counted. -/
theorem Dev.accept_of_no_port (hport : d.outPort x.dest = none) : d.accept x = d.swBump Sw.NO_PORT_DROP := by
  simp only [Dev.accept, hport]

section Checked

variable (hport : d.outPort x.dest = some o)
include hport

/-- R205: a packet that the checks accept joins its output queue. -/
theorem Dev.accept_of_accept (hv : d.verdict x.input o x.cls (cellsOf x.pkt.data.length) = .accept) :
    d.accept x = d.enqueue x o := by
  simp only [Dev.accept, hport, hv]

/-- R207: a packet that finds no headroom is counted at its input. -/
theorem Dev.accept_of_headroom (hv : d.verdict x.input o x.cls (cellsOf x.pkt.data.length) = .headroom) :
    d.accept x = d.add (swcUnit x.input x.cls) Swc.HEADROOM_DROP 1 := by
  simp only [Dev.accept, hport, hv]

/-- R205: an input that drops counts a packet that finds no buffer. -/
theorem Dev.accept_of_noBuf (hdrop : dropInput x.input = true)
    (hv : d.verdict x.input o x.cls (cellsOf x.pkt.data.length) = .noBuf) :
    d.accept x = d.add (swcUnit o x.cls) Swc.DROP_NOBUF 1 := by
  simp [Dev.accept, hport, hv, hdrop]

/-- R205: an input that drops counts a packet that its queue's threshold refuses. -/
theorem Dev.accept_of_thresh (hdrop : dropInput x.input = true)
    (hv : d.verdict x.input o x.cls (cellsOf x.pkt.data.length) = .thresh) :
    d.accept x = d.add (swcUnit o x.cls) Swc.DROP_THRESH 1 := by
  simp [Dev.accept, hport, hv, hdrop]

/-- R205, R206: an input that waits holds a packet that is refused. -/
theorem Dev.accept_of_waits (hwait : dropInput x.input = false) (hcopy : x.input ≠ 20)
    (hv : d.verdict x.input o x.cls (cellsOf x.pkt.data.length) = .noBuf ∨
      d.verdict x.input o x.cls (cellsOf x.pkt.data.length) = .thresh) :
    d.accept x = { d with sw := { d.sw with held := d.sw.held ++ [x] } } := by
  rcases hv with hv | hv <;> simp [Dev.accept, hport, hv, hwait, hcopy]

end Checked

end Admission

section Retry

/-- Packet `x` is no longer held. -/
def Dev.leaveHeld (d : Dev) (x : SwPkt) : Dev :=
  { d with sw := { d.sw with held := d.sw.held.filter (fun (y : SwPkt) => y.id ≠ x.id) } }

/-- R206: `x` is the oldest packet held at input `i` in class `c` for output `o`, or for a port that is gone. -/
def Dev.oldestHeld (d : Dev) (i o c : Nat) (x : SwPkt) : Prop :=
  d.sw.held.find? (fun (x : SwPkt) => x.input = i && x.cls = c &&
    (d.outPort x.dest = some o || (d.outPort x.dest).isNone)) = some x

variable (hopen : d.swOpen = true) (hheld : d.oldestHeld i o c x)
include hopen hheld

/-- R205, R206: a held packet whose port is gone is counted. -/
theorem heldRetry_of_no_port (hport : d.outPort x.dest = none) :
    heldRetry i o c d = (d.leaveHeld x).swBump Sw.NO_PORT_DROP := by
  simp only [Dev.oldestHeld] at hheld
  simp [heldRetry, hheld, hopen, hport, Dev.leaveHeld]

/-- R206: a held packet joins its output queue when the checks accept it, and stays at its place when they do not. -/
theorem heldRetry_of_port (hport : d.outPort x.dest = some o) : heldRetry i o c d =
    if (d.leaveHeld x).verdict i o c (cellsOf x.pkt.data.length) = .accept then (d.leaveHeld x).enqueue x o else d := by
  have hinput : x.input = i := by
    have hx := List.find?_some hheld
    simp only [Bool.and_eq_true, decide_eq_true_eq] at hx
    exact hx.1.1
  simp only [Dev.oldestHeld] at hheld
  simp [heldRetry, hheld, hopen, hport, hinput, Dev.leaveHeld]

end Retry

section Copies

variable {p : Pkt}

/-- R211: what the replication stage makes of packet `p`: the copies that its group lists, in the order of their copy words. -/
def Dev.makeCopies (d : Dev) (p : Pkt) : Dev :=
  match d.table (d.sf Sw.SC_CFG_REPL_TABLE) with
  | none => d.swBump Sw.REPL_BAD
  | some t =>
    if t.kind ≠ 8 || t.owner ≠ 0 || t.offline || decide (t.entryCount ≤ p.mg Meta.REPL_GROUP) then d.swBump Sw.REPL_BAD
    else (copyWords (d.entry t (p.mg Meta.REPL_GROUP))).foldl (fun (d : Dev) (w : Word) => d.makeCopy p w) d

/-- R211: without a replication table the packet is counted. -/
theorem Dev.makeCopies_of_no_table (htable : d.table (d.sf Sw.SC_CFG_REPL_TABLE) = none) :
    d.makeCopies p = d.swBump Sw.REPL_BAD := by
  simp only [Dev.makeCopies, htable]

/-- R211: the copies of a group in the range of the replication table are made. -/
theorem Dev.makeCopies_of_group {t : Tbl} (htable : d.table (d.sf Sw.SC_CFG_REPL_TABLE) = some t) (hkind : t.kind = 8)
    (howner : t.owner = 0) (honline : t.offline = false) (hgroup : p.mg Meta.REPL_GROUP < t.entryCount) :
    d.makeCopies p =
      (copyWords (d.entry t (p.mg Meta.REPL_GROUP))).foldl (fun (d : Dev) (w : Word) => d.makeCopy p w) d := by
  simp [Dev.makeCopies, htable, hkind, howner, honline, Nat.not_le.mpr hgroup]

end Copies

section Readers

/-- R203: the head of an output queue stands in that queue. -/
theorem Dev.out_of_headOf (hhead : d.headOf o c = some x) : x.out = o := by
  have hx := List.find?_some hhead
  simp only [Bool.and_eq_true, decide_eq_true_eq] at hx
  exact hx.1

/-- R199, R203: the ports without a scheduler are no network ports. -/
theorem le_of_plainReader (h : plainReader o = true) : 16 ≤ o := by
  simp only [plainReader, Bool.or_eq_true, Bool.and_eq_true, decide_eq_true_eq] at h
  omega

/-- R234: a port that is no network port has no gates, so no head of its queues is oversize. -/
theorem Dev.headCheck_of_ungated (ho : 16 ≤ o) (n : Nat) : d.headCheck o c n = d := by
  cases n with
  | zero => rfl
  | succ n =>
    have hgate : (decide (o < 16)) = false := decide_eq_false (Nat.not_lt.mpr ho)
    cases hhead : d.headOf o c <;> simp [Dev.headCheck, hhead, hgate]

/-- R203: the reader of port `o`, which serves class `c`, has read packet `x`: it leaves the buffer and is counted. -/
def Dev.serve (d : Dev) (o c : Nat) (x : SwPkt) : Dev :=
  (({ d with sw := { d.sw with rr := (o, c) :: d.sw.rr.filter (fun (y : Nat × Nat) => y.1 ≠ o) } } : Dev).release x).add
    (swcUnit x.out x.cls) Swc.DEQ_PKTS 1

/-- R215, R503, R508: what the read of packet `p` met is latched and reported, and has poisoned the packet. -/
def Dev.met (d : Dev) (p : Pkt) : Option ReadFault → Dev × Pkt
  | none => (d, p)
  | some (.cell a) => (((d.uncorr switchId 3 a).swBump Sw.ECC_UNCORR).raise switchId 0x0005 0 (a % 2 ^ 48)).poisoned p
  | some (.mesh a) => (d.meshErr switchId a).poisoned p

/-- R203, R508: off the network ports, a read takes the packet and meets what it meets. -/
theorem Dev.readHead_of_ungated (hout : 16 ≤ x.out) (bad : Option ReadFault) :
    d.readHead x bad = ((d.release x).add (swcUnit x.out x.cls) Swc.DEQ_PKTS 1).met x.pkt bad := by
  simp only [Dev.readHead, Dev.headCheck_of_ungated hout]
  match bad with
  | none => rfl
  | some (.cell _) => rfl
  | some (.mesh _) => rfl

/-- R361: port 22 delivers to the storage stage. -/
theorem Dev.deliver_storage {p : Pkt} (hp : p.poison = false) :
    d.deliver 22 x p = { d with sw := { d.sw with storage := d.sw.storage ++ [p] } } := by
  simp [Dev.deliver, hp]

variable (hopen : d.swOpen = true)
include hopen

/-- R203: a reader with room takes the head of the class it serves next, and does with it what its port does. -/
theorem packetDequeue_of_head (hplain : plainReader o = true) (hpresent : d.lpPresent o = true)
    (hclass : d.nextClass o = some c) (hhead : d.headOf o c = some x) (hroom : d.readerRoom o x = true)
    (bad : Option ReadFault) : packetDequeue o bad d =
      (((d.serve o c x).met x.pkt bad).1).deliver o x ((d.serve o c x).met x.pkt bad).2 := by
  have hout : 16 ≤ x.out := Dev.out_of_headOf hhead ▸ le_of_plainReader hplain
  simp [packetDequeue, hplain, hopen, hpresent, hclass, hhead, hroom, Dev.readHead_of_ungated hout, Dev.serve]

/-- R203, R211: the replication stage takes the head of the class it serves next; a packet whose read meets an error makes no
copy. -/
theorem replicate_of_head (hpresent : d.lpPresent 20 = true) (hclass : d.nextClass 20 = some c)
    (hhead : d.headOf 20 c = some x) (bad : Option ReadFault) : replicate bad d =
      if bad.isSome then ((d.serve 20 c x).met x.pkt bad).1 else (d.serve 20 c x).makeCopies x.pkt := by
  have hout : 16 ≤ x.out := by rw [Dev.out_of_headOf hhead]; decide
  simp only [replicate, hopen, hpresent, hclass, hhead, Dev.readHead_of_ungated hout, Bool.not_true, Bool.or_self,
    Bool.false_eq_true, if_false]
  cases bad <;> rfl

end Readers

end SwitchCore

/-- Settles O33: admission is `Dev.accept` of the front packet, a retry that of the oldest held one; a reader, and the replication
stage, serve the head of their next class. -/
theorem switchAdmitsHoldsReadsAndReplicates : Obligations.SwitchAdmitsHoldsReadsAndReplicates := by
  intro s i o hacts hopen
  refine ⟨?built, ?enter, ?retry, ?dequeue, ?replicate⟩
  case built =>
    intro data m w hbuilt
    exact (State.run_acts_eq hacts (packetAdmit_built data m w s.dev)).trans
      (State.run_acts_eq (s := { s with dev := s.dev.coreBuilt data m w }) hbuilt rfl).symm
  case enter =>
    rintro x l port queue d b hb hwire rfl hcrypto hheld hdest hkind rfl
    have hadmit := packetAdmit_of_front hopen hb hwire rfl hcrypto hheld hdest hkind
    have run {e : Dev} (he : (s.dev.leaveWire x).accept x = e) : exec (.packetAdmit (x.input, b)) s = s.next e :=
      State.run_acts_eq hacts (hadmit.trans he)
    exact ⟨fun hport => run (Dev.accept_of_no_port hport), fun hport =>
      ⟨fun hv => run (Dev.accept_of_accept hport hv), fun hv => run (Dev.accept_of_headroom hport hv),
        fun hv hdrop => run (Dev.accept_of_noBuf hport hdrop hv), fun hv hdrop => run (Dev.accept_of_thresh hport hdrop hv),
        fun hv hwait hcopy => run (Dev.accept_of_waits hport hwait hcopy hv)⟩⟩
  case retry =>
    rintro x c d hheld rfl
    exact ⟨fun hport => State.run_acts_eq hacts (heldRetry_of_no_port hopen hheld hport),
      fun hport hv => State.run_acts_eq hacts ((heldRetry_of_port hopen hheld hport).trans (if_pos hv)),
      fun hport hv => State.run_acts_eq hacts ((heldRetry_of_port hopen hheld hport).trans (if_neg hv))⟩
  case dequeue =>
    rintro c x d hplain hpresent hclass hhead hroom rfl
    have run (bad : Option ReadFault) :=
      State.run_acts_eq hacts (packetDequeue_of_head hopen hplain hpresent hclass hhead hroom bad)
    refine ⟨run none, ?_, fun a => run (some (.cell a)), fun a => run (some (.mesh a))⟩
    rintro rfl hclean
    exact (run none).trans (congrArg s.next (Dev.deliver_storage hclean))
  case replicate =>
    rintro c x d hpresent hclass hhead rfl
    have run (bad : Option ReadFault) := replicate_of_head hopen hpresent hclass hhead bad
    exact ⟨fun htable => State.run_acts_eq hacts ((run none).trans (Dev.makeCopies_of_no_table htable)),
      fun a => ⟨State.run_acts_eq hacts (run (some (.cell a))), State.run_acts_eq hacts (run (some (.mesh a)))⟩,
      fun t htable hkind howner honline hgroup =>
        State.run_acts_eq hacts ((run none).trans (Dev.makeCopies_of_group htable hkind howner honline hgroup))⟩

end Sys2Proof.Machine

/-! The meter interface (R223, R226, R228, R237, R239): a write of MTR_CMD runs its operation at once or sets OVERRUN, and the result
waits for METER_CMD_DONE. -/

namespace Sys2Proof.Machine

section MeterInterface

variable {d : Dev} {op t e : Nat} {f : Dev → Dev × Nat × List Word}

/-- R131, R239: while no operation is in progress, the operation runs and its result waits. -/
theorem Dev.mtrRun_of_idle {x : Dev} {st : Nat} {ws : List Word} (hidle : d.g mtrUnit Mtr.MTR_STATUS_BUSY = 0)
    (hf : f (d.mtrStarted op t e) = (x, st, ws)) : d.mtrRun op t e f = x.mtrResult op st ws := by
  have hoff : ¬ d.on mtrUnit Mtr.MTR_STATUS_BUSY = true := by simp [Dev.on, hidle]
  simp only [Dev.mtrStarted] at hf
  simp only [Dev.mtrRun, if_neg hoff, hf, Dev.mtrResult]

/-- R131, R239: while one is in progress, the write sets OVERRUN and runs nothing. -/
theorem Dev.mtrRun_of_busy (hbusy : d.g mtrUnit Mtr.MTR_STATUS_BUSY = 1) :
    d.mtrRun op t e f = d.s mtrUnit Mtr.MTR_STATUS_OVERRUN 1 := if_pos (by simp [Dev.on, hbusy])

/-- R239: a read of a record that exists answers its words. -/
theorem Dev.mtrRead_of_exists {ok : Bool} (c : Cls) (hok : ok = true) :
    d.mtrRead ok c = (d, Sc.ok, d.crec c d.mtrIndex 4) := if_pos hok

/-- R239: a read of a record that does not exist is MALFORMED. -/
theorem Dev.mtrRead_of_missing {ok : Bool} (c : Cls) (hok : ok = false) : d.mtrRead ok c = (d, Sc.malformed, []) :=
  if_neg (Bool.eq_false_iff.mp hok)

/-! ### Shapers -/

/-- R228, R230: words that pass are put in the shaper. -/
theorem shpWrite_of_ok (hexists : d.isShaper d.mtrIndex = true) (hwords : shaperOkWords (d.mtrData 0) (d.mtrData 1) = true) :
    shpWrite d = (d.putShaper d.mtrIndex (d.mtrData 0) (d.mtrData 1), Sc.ok, []) := by
  simp only [shpWrite, hexists, hwords, Bool.and_self, if_true]

/-- R228: no such shaper, or words that do not pass. -/
theorem shpWrite_of_bad (h : d.isShaper d.mtrIndex = false ∨ shaperOkWords (d.mtrData 0) (d.mtrData 1) = false) :
    shpWrite d = (d, Sc.malformed, []) :=
  if_neg (Bool.eq_false_iff.mp (Bool.and_eq_false_iff.mpr h))

/-! ### Policers -/

/-- R237: an entry of a policer array that is not offline is there to read and write. -/
theorem Dev.polTable_of_entry {p : Tbl} (htbl : d.table t = some p) (hkind : p.kind = 4) (hidx : d.mtrIndex < p.entryCount)
    (hon : p.offline = false) : d.polTable t = .ok p := by
  simp [Dev.polTable, htbl, hkind, hon, Nat.not_le.mpr hidx]

variable {p : Tbl}

/-- R239: a read of a policer answers the words of its entry. -/
theorem polReadCmd_of_ok (hidle : d.g mtrUnit Mtr.MTR_STATUS_BUSY = 0) {x : Dev} (hx : x = d.mtrStarted 3 t e)
    (htbl : x.polTable t = .ok p) : polReadCmd t e d = x.mtrResult 3 Sc.ok (x.entry p x.mtrIndex) :=
  Dev.mtrRun_of_idle hidle (by simp only [← hx, htbl])

/-- R237: words that pass fill the buckets of the policer and date it. -/
theorem polWriteCmd_of_ok (hidle : d.g mtrUnit Mtr.MTR_STATUS_BUSY = 0) {x : Dev} (hx : x = d.mtrStarted 4 t e)
    (htbl : x.polTable t = .ok p) (hwords : polOkWords (x.mtrData 0) (x.mtrData 1) = true) : polWriteCmd t e d =
      (x.putEntry p x.mtrIndex 0 (polFilled (x.mtrData 0) (x.mtrData 1) x.time)).mtrResult 4 Sc.ok [] :=
  Dev.mtrRun_of_idle hidle (by simp only [← hx, htbl, hwords, if_true])

/-- R237: words that do not pass leave the policer as it is. -/
theorem polWriteCmd_of_bad (hidle : d.g mtrUnit Mtr.MTR_STATUS_BUSY = 0) {x : Dev} (hx : x = d.mtrStarted 4 t e)
    (htbl : x.polTable t = .ok p) (hwords : polOkWords (x.mtrData 0) (x.mtrData 1) = false) :
    polWriteCmd t e d = x.mtrResult 4 Sc.malformed [] :=
  Dev.mtrRun_of_idle hidle (by simp only [← hx, htbl, hwords, Bool.false_eq_true, if_false])

/-! ### Nodes -/

section Node

variable {n : Nat} {w0 w1 : Word} (hn : n = d.mtrIndex) (h0 : w0 = d.mtrData 0) (h1 : w1 = d.mtrData 1)
include hn h0 h1

/-- R223: words that the node may not take. -/
theorem nodeWrite_of_bad (hbad : d.nodeWriteOk n w0 w1 = false) : nodeWrite d = (d, Sc.malformed, []) := by
  subst hn h0 h1
  simp only [nodeWrite, hbad, Bool.not_false, if_true]

variable (hok : d.nodeWriteOk n w0 w1 = true)
include hok

/-- R226: a node that keeps its priority group and its parent stays in its round. -/
theorem nodeWrite_of_stays (hprio : d.node n Node.PRIO = wget [w0] Node.PRIO)
    (hpar : d.node n Node.PARENT = wget [w0, w1] Node.PARENT) : nodeWrite d = (d.setRec .node n [w0, w1], Sc.ok, []) := by
  subst hn h0 h1
  simp [nodeWrite, hok, hprio, hpar]

/-- R226: a node below the roots that changes its priority group leaves the round of its parent. -/
theorem nodeWrite_of_moves (hprio : d.node n Node.PRIO ≠ wget [w0] Node.PRIO) (hlevel : d.node n Node.LEVEL ≠ 0) :
    nodeWrite d = ((d.leaveRound (d.node n Node.PARENT) n).setRec .node n [w0, w1], Sc.ok, []) := by
  subst hn h0 h1
  simp [nodeWrite, hok, hprio, hlevel]

end Node

/-! ### Leaves -/

section Leaf

variable {q : Nat} {w0 w1 : Word} (hq : q = d.mtrIndex) (h0 : w0 = d.mtrData 0) (h1 : w1 = d.mtrData 1)
include hq h0 h1

/-- R223: no such leaf, or words that it may not take. -/
theorem leafWrite_of_bad (hbad : d.isLeaf q = false ∨ d.leafWriteOk q w0 w1 = false) :
    leafWrite d = (d, Sc.malformed, []) := by
  subst hq h0 h1
  simp only [leafWrite, Bool.and_eq_false_iff.mpr hbad, Bool.not_false, if_true]

variable (hleaf : d.isLeaf q = true) (hok : d.leafWriteOk q w0 w1 = true)
include hleaf hok

/-- R223, R226: a leaf that moves to another class node leaves the round of its old one. -/
theorem leafWrite_of_moves (hpar : d.leaf q Node.PARENT ≠ wget [w0, w1] Node.PARENT) :
    leafWrite d = ((d.leaveRound (d.leaf q Node.PARENT) q).setRec .leaf q [w0, w1], Sc.ok, []) := by
  subst hq h0 h1
  simp [leafWrite, hleaf, hok, hpar]

/-- R226: a leaf that keeps its class node and its priority group stays in its round. -/
theorem leafWrite_of_stays (hpar : d.leaf q Node.PARENT = wget [w0, w1] Node.PARENT)
    (hprio : d.leaf q Node.PRIO = wget [w0] Node.PRIO) : leafWrite d = (d.setRec .leaf q [w0, w1], Sc.ok, []) := by
  subst hq h0 h1
  simp [leafWrite, hleaf, hok, hpar, hprio]

end Leaf

/-! ### METER_CMD_DONE -/

/-- R239: a result without words, of a command with EVT 0, clears BUSY and shows its status. -/
theorem meterCmdDone_of_quiet {m : MeterOp} {x : Dev} (hnext : d.sched.meter = some m) (hwords : m.words = [])
    (hx : x = (({ d with sched := { d.sched with meter := none } } : Dev).s mtrUnit Mtr.MTR_STATUS_BUSY 0).s mtrUnit
      Mtr.MTR_STATUS_RESULT m.status) (hevt : x.g mtrUnit Mtr.MTR_CMD_EVT = 0) : meterCmdDone d = x := by
  have hquiet : ¬ x.on mtrUnit Mtr.MTR_CMD_EVT = true := by simp [Dev.on, hevt]
  simp only [meterCmdDone, hnext, hwords, List.length_nil, List.range_zero, List.foldl_nil, ← hx]
  exact if_neg hquiet

theorem meterCmdDone_of_none (hnone : d.sched.meter = none) : meterCmdDone d = d := by simp only [meterCmdDone, hnone]

end MeterInterface

/-- R131, R239: in Run, while BUSY is 0, a command of the meter interface runs its operation. -/
theorem State.run_mtr {s : State} {op t e st : Nat} {f : Dev → Dev × Nat × List Word} {x : Dev} {ws : List Word}
    (hacts : s.dev.acts = true) (hidle : s.dev.g mtrUnit Mtr.MTR_STATUS_BUSY = 0)
    (hf : f (s.dev.mtrStarted op t e) = (x, st, ws)) :
    s.run (fun d => d.mtrRun op t e f) = s.next (x.mtrResult op st ws) :=
  State.run_acts_eq hacts (Dev.mtrRun_of_idle hidle hf)

/-- Settles O35: a command runs its operation, whose equation gives the result; a busy interface only sets OVERRUN. -/
theorem meterCommandsReadAndWriteTheirRecords : Obligations.MeterCommandsReadAndWriteTheirRecords := by
  intro s t e hacts
  refine ⟨fun hidle => ⟨?shpRead, ?shpWrite, ?polRead, ?polWrite, ?nodeRead, ?nodeWrite, ?leafRead, ?leafWrite⟩, ?busy,
    fun m hnext hwords d hd hevt => State.run_acts_eq hacts (meterCmdDone_of_quiet hnext hwords hd hevt),
    fun hnone => State.run_acts_eq hacts (meterCmdDone_of_none hnone)⟩
  case shpRead =>
    rintro d rfl
    exact ⟨fun h => State.run_mtr hacts hidle (Dev.mtrRead_of_exists .shaper h),
      fun h => State.run_mtr hacts hidle (Dev.mtrRead_of_missing .shaper h)⟩
  case shpWrite =>
    rintro d rfl
    exact ⟨fun hexists hwords => State.run_mtr hacts hidle (shpWrite_of_ok hexists hwords),
      fun h => State.run_mtr hacts hidle (shpWrite_of_bad h)⟩
  case polRead =>
    intro d p hd htbl hkind hidx hon
    exact State.run_acts_eq hacts (polReadCmd_of_ok hidle hd (Dev.polTable_of_entry htbl hkind hidx hon))
  case polWrite =>
    intro d p hd htbl hkind hidx hon
    have hpol := Dev.polTable_of_entry htbl hkind hidx hon
    exact ⟨fun h => State.run_acts_eq hacts (polWriteCmd_of_ok hidle hd hpol h),
      fun h => State.run_acts_eq hacts (polWriteCmd_of_bad hidle hd hpol h)⟩
  case nodeRead =>
    rintro d rfl
    exact ⟨fun h => State.run_mtr hacts hidle (Dev.mtrRead_of_exists .node (decide_eq_true h)),
      fun h => State.run_mtr hacts hidle (Dev.mtrRead_of_missing .node (decide_eq_false (Nat.not_lt.mpr h)))⟩
  case nodeWrite =>
    rintro d n rfl hn
    exact ⟨fun h => State.run_mtr hacts hidle (nodeWrite_of_bad hn rfl rfl h),
      fun hok hprio hpar => State.run_mtr hacts hidle (nodeWrite_of_stays hn rfl rfl hok hprio hpar),
      fun hok hprio hlevel => State.run_mtr hacts hidle (nodeWrite_of_moves hn rfl rfl hok hprio hlevel)⟩
  case leafRead =>
    rintro d rfl
    exact ⟨fun h => State.run_mtr hacts hidle (Dev.mtrRead_of_exists .leaf h),
      fun h => State.run_mtr hacts hidle (Dev.mtrRead_of_missing .leaf h)⟩
  case leafWrite =>
    rintro d q rfl hq
    exact ⟨fun h => State.run_mtr hacts hidle (leafWrite_of_bad hq rfl rfl h),
      fun hleaf hok hpar => State.run_mtr hacts hidle (leafWrite_of_moves hq rfl rfl hleaf hok hpar),
      fun hleaf hok hpar hprio => State.run_mtr hacts hidle (leafWrite_of_stays hq rfl rfl hleaf hok hpar hprio)⟩
  case busy =>
    intro hbusy
    have overrun (op : Nat) (f : Dev → Dev × Nat × List Word) :
        s.run (fun d => d.mtrRun op t e f) = s.next (s.dev.s mtrUnit Mtr.MTR_STATUS_OVERRUN 1) :=
      State.run_acts_eq hacts (Dev.mtrRun_of_busy hbusy)
    simp only [List.forall_mem_cons, List.not_mem_nil, false_imp_iff, implies_true, and_true]
    exact ⟨overrun 1 _, overrun 2 _, overrun 3 _, overrun 4 _, overrun 5 _, overrun 6 _, overrun 7 _, overrun 8 _⟩

end Sys2Proof.Machine

/-! Grants, refill ticks, gate control lists and policers (R224, R225, R229, R230, R235, R238): what each leaves, on the device that
meets its condition. -/

namespace Sys2Proof.Machine

/-! ### FETCH_GRANT (R224) -/

section FetchGrant

variable {d e : Dev}

/-- A charge of shapers takes tokens only. -/
@[simp] theorem Dev.chargeShaper_queues (d : Dev) (n : Nat) (b : Int) : (d.chargeShaper n b).queues = d.queues := by
  unfold Dev.chargeShaper
  split
  · rfl
  · exact Dev.cs_queues ..

/-- A charge of a grant takes tokens and deficits only. -/
@[simp] theorem Dev.chargeGrant_queues (d : Dev) (g : Grant) (bytes frames : Nat) :
    (d.chargeGrant g bytes frames).queues = d.queues := by
  have hshapers (b : Int) : (g.shapers.foldl (fun (d : Dev) n => d.chargeShaper n b) d).queues = d.queues :=
    List.foldlRecOn (motive := fun x : Dev => x.queues = d.queues) g.shapers _ rfl
      fun x hx n _ => (x.chargeShaper_queues n b).trans hx
  exact List.foldlRecOn (motive := fun x : Dev => x.queues = d.queues) g.path _ (hshapers _) fun _ hx _ _ => hx

/-- The rounds of the fetch tree are no part of the queues. -/
@[simp] theorem Dev.settleFetch_queues (d : Dev) : d.settleFetch.queues = d.queues :=
  List.foldlRecOn (motive := fun x : Dev => x.queues = d.queues) d.sched.fetch _ rfl fun _ hx _ _ => hx

/-- R224: the grant of job `j` of leaf `q` over port `p`, slice `sl` and class `c`: its path, root first, and the shapers named on it. -/
def Dev.grantOf (d : Dev) (early : Bool) (p sl c q : Nat) (j : Job) : Grant :=
  { path := [(rootPoint, p), (p, sl), (sl, c), (c, q)]
    shapers := [d.node p Node.SHAPER, d.node sl Node.SHAPER, d.node c Node.SHAPER, d.leaf q Node.SHAPER]
    paid := early && !j.tso }

/-- R224: the job `k` after a grant `g` of the ungranted job `j`. -/
def Job.grantedAs (k j : Job) (g : Grant) : Job :=
  if k.idx = j.idx && !k.granted then { k with granted := true, grant := some g } else k

/-- R224: a grant is charged now where it is paid, and marks the job. -/
theorem fetchGrant_of_job {early : Bool} {p sl c q : Nat} {j : Job} {g : Grant} (hopen : d.swOpen = true)
    (hpath : d.pickPath = (e, some (p, sl, c, q))) (hjob : e.nextJob q = some j) (hg : g = e.grantOf early p sl c q j) :
    fetchGrant early d = ((if g.paid then e.chargeGrant g (j.bytes 1) 1 else e).setQ q (fun (x : QSt) =>
      { x with jobs := x.jobs.map (fun (k : Job) => k.grantedAs j g) })).settleFetch := by
  subst hg
  simp only [fetchGrant, hopen, hpath, hjob, Bool.not_true, Bool.false_eq_true, if_false]
  rfl

/-- R224: with nothing to select, the round robins alone have moved. -/
theorem fetchGrant_of_none {early : Bool} (hopen : d.swOpen = true) (hpath : d.pickPath = (e, none)) :
    fetchGrant early d = e := by
  simp only [fetchGrant, hopen, hpath, Bool.not_true, Bool.false_eq_true, if_false]

/-- R224: the queues after a grant: the job is marked, and nothing else changes. -/
theorem fetchGrant_queues_of_job {early : Bool} {p sl c q : Nat} {j : Job} (hopen : d.swOpen = true)
    (hpath : d.pickPath = (e, some (p, sl, c, q))) (hjob : e.nextJob q = some j) :
    (fetchGrant early d).queues = e.queues.map (fun (x : QSt) => if x.qid = q then
      { x with jobs := x.jobs.map (fun (k : Job) => k.grantedAs j (e.grantOf early p sl c q j)) } else x) := by
  rw [fetchGrant_of_job hopen hpath hjob rfl, Dev.settleFetch_queues]
  refine congrArg (List.map _) ?_
  split
  · exact Dev.chargeGrant_queues ..
  · rfl

end FetchGrant

/-! ### SHAPER_REFILL (R229, R230) -/

section ShaperRefill

variable {d : Dev} {n : Nat}

/-- R229: the tokens after a refill tick at the rate and burst in force. -/
theorem Dev.refillShaper_of_settled (hpend : d.shp n Shp.PEND = 0) : d.refillShaper n =
    d.cs .shaper n Shp.TOKENS (low48 (refill (d.tokens n) (d.shp n Shp.RATE) (d.shp n Shp.BURST))) := by
  simp only [Dev.refillShaper, hpend, Nat.zero_ne_one, if_false]

/-- R230: a change that waits moves into force before the refill. -/
theorem Dev.refillShaper_of_pending (hpend : d.shp n Shp.PEND = 1) {x : Dev}
    (hx : x = ((d.cs .shaper n Shp.RATE (d.shp n Shp.PEND_RATE)).cs .shaper n Shp.BURST (d.shp n Shp.PEND_BURST)).setOw
      Cls.shaper.code n 3 0) : d.refillShaper n =
    x.cs .shaper n Shp.TOKENS (low48 (refill (x.tokens n) (x.shp n Shp.RATE) (x.shp n Shp.BURST))) := by
  simp only [Dev.refillShaper, hpend, if_true, ← hx]

/-- R229: the tick of one shaper, with no connection and no TCP session. -/
theorem refillAll_of_single {e : Dev} (hshapers : d.recs .shaper = [n]) (htcp : d.stor.tcp = [])
    (he : d.refillShaper n = e) (hconn : e.recs .conn = []) :
    refillAll d = flushCopies d.stor.copies e.settleFetch := by
  simp only [refillAll, htcp, List.map_nil, List.foldl_nil, shaperRefill, hshapers, List.foldl_cons, he, hconn]

end ShaperRefill

/-! ### Gate control lists (R235) -/

section Gates

variable {d : Dev} {p : Nat}

/-- R235: a list out of bounds is MALFORMED. -/
theorem gclChange_of_bad (hp : p < 16) (hpresent : d.lpPresent p = true) (hbad : d.gclOk p = false) :
    gclChange p d = d.latchErr switchId Sc.malformed := by
  simp [gclChange, hp, hpresent, hbad]

/-- R235: the list `l` with cycle `c` waits for its change time `t`, which the registers show. -/
def Dev.gclWaits (d : Dev) (p : Nat) (l : List Word) (c t : Nat) : Dev :=
  (((d.setWire p (fun (w : WireSt) => { w with waiting := some (l, c, t) })).s (wsUnit p) Ws.GCL_STATUS_PENDING 1).s
    (wsUnit p) Ws.GCL_CHANGE_NS_NS (t % 1000000000)).s (wsUnit p) Ws.GCL_CHANGE_SEC_SEC (t / 1000000000)

/-- R235: a list within bounds waits for its change time. -/
theorem gclChange_of_ok (hp : p < 16) (hpresent : d.lpPresent p = true) (hok : d.gclOk p = true) :
    gclChange p d = d.gclWaits p
      ((List.range (d.wf p Ws.GCL_CTL_ADMIN_LEN)).map (fun e => d.cell (wsUnit p) (0x800 + 8 * e)))
      (d.wf p Ws.GCL_CYCLE_NS) (changeTime (d.wf p Ws.GCL_BASE_SEC_SEC * 1000000000 + d.wf p Ws.GCL_BASE_NS_NS)
        (d.wf p Ws.GCL_CYCLE_NS) d.tbNs) := by
  simp [gclChange, Dev.gclWaits, hp, hpresent, hok]

/-- R235: the list `l` with cycle `c` operates since `t`, and none waits. -/
def Dev.gclOperates (d : Dev) (p : Nat) (l : List Word) (c t : Nat) : Dev :=
  (((((List.range 256).foldl (fun (d : Dev) (e : Nat) => d.setCell (wsUnit p) (0x1000 + 8 * e) (l.getD e 0))
    (d.setWire p (fun (w : WireSt) => { w with waiting := none, start := t }))).s (wsUnit p) Ws.GCL_STATUS_PENDING 0).s
    (wsUnit p) Ws.GCL_STATUS_OPER_VALID 1).s (wsUnit p) Ws.GCL_STATUS_OPER_LEN l.length).s (wsUnit p)
    Ws.GCL_OPER_CYCLE_NS c

variable {l : List Word} {c t : Nat} (hwait : (d.wire p).waiting = some (l, c, t))
include hwait

/-- R235: the list waits until its time. -/
theorem gclChangeApply_of_before (ht : d.tbNs < t) : gclChangeApply p d = d := by
  simp only [gclChangeApply, hwait, if_pos ht]

/-- R235: at its time the list operates; the gates take their place, and heads that could never be sent under it go. -/
theorem gclChangeApply_of_due (ht : t ≤ d.tbNs) :
    gclChangeApply p d = ((d.gclOperates p l c t).syncGates p).dropOversize p := by
  simp only [gclChangeApply, hwait, if_neg (Nat.not_lt.mpr ht), Dev.gclOperates]

omit hwait

/-- R235: the gates stand with the timebase. -/
theorem gclEntryAdvance_of_stopped (hstop : d.tb.stopped = true) : gclEntryAdvance p d = d := by
  simp [gclEntryAdvance, hstop]

/-- R235: every gate of a port that follows no list is open. -/
theorem gclEntryAdvance_of_ungated (hp : p < 16) (hrun : d.tb.stopped = false) (hgated : d.gated p = false) :
    gclEntryAdvance p d = d.s (wsUnit p) Ws.GCL_STATUS_GATES 0xFF := by
  simp [gclEntryAdvance, hp, hrun, Dev.syncGates, hgated]

end Gates

/-! ### POL_METER (R238) -/

section PolMeter

variable {d : Dev} {m : Nat} {r : PolReq}

/-- The device after tile `m` has taken its oldest policer operation. -/
def Dev.takePol (d : Dev) (m : Nat) : Dev :=
  { d with sched := { d.sched with pols := d.sched.pols.eraseP (fun (r : PolReq) => homeTile r.table = m) } }

/-- R238: the oldest operation is answered. -/
theorem polMeter_of_next {e : Dev} {a : TblAns}
    (hnext : d.sched.pols.find? (fun (r : PolReq) => homeTile r.table = m) = some r)
    (hmeter : (d.takePol m).meterPkt r = (e, a)) :
    polMeter m d = { e with tbl := { e.tbl with answers := e.tbl.answers ++ [a] } } := by
  simp only [Dev.takePol] at hmeter
  simp only [polMeter, hnext, hmeter]

/-- R187: an operation on an unknown table. -/
theorem Dev.meterPkt_of_unknown (htbl : d.table r.table = none) : d.meterPkt r = (d, ansSt r.src Sc.malformed) := by
  simp only [Dev.meterPkt, htbl]

/-- R238: the policer steps, and the answer is its colour. -/
theorem Dev.meterPkt_of_entry {t : Tbl} {ws : List Word} {c : Nat} (htbl : d.table r.table = some t) (hkind : t.kind = 4)
    (hgood : r.bad = false) (hidx : r.index < t.entryCount) (hon : t.offline = false)
    (hstep : polStep (d.entry t r.index) d.time r.bytes r.colour = (ws, c)) :
    d.meterPkt r = (d.putEntry t r.index 0 ws, { ansSt r.src Sc.ok with colour := c }) := by
  simp [Dev.meterPkt, htbl, hkind, hgood, Nat.not_le.mpr hidx, hon, hstep]

end PolMeter

/-- Settles O34: each clause is the equation of its command; that a grant changes no queue but by its mark is
`fetchGrant_queues_of_job`. -/
theorem grantsShapersGatesAndPolicers : Obligations.GrantsShapersGatesAndPolicers := by
  intro s n hacts
  refine ⟨?grant, fun early d hopen hpath => State.run_acts_eq hacts (fetchGrant_of_none hopen hpath), ?refill, ?pending,
    fun hp hpresent hbad => State.run_acts_eq hacts (gclChange_of_bad hp hpresent hbad), ?change, ?apply,
    fun hstop => State.run_acts_eq hacts (gclEntryAdvance_of_stopped hstop),
    fun hp hrun hgated => State.run_acts_eq hacts (gclEntryAdvance_of_ungated hp hrun hgated), ?meter⟩
  case grant =>
    intro early d p sl c q j hopen hpath hjob
    exact ⟨_, State.run_acts_eq hacts rfl, fetchGrant_queues_of_job hopen hpath hjob⟩
  case refill =>
    intro e hshapers htcp hpend he hconn
    exact State.run_acts_eq hacts
      (refillAll_of_single hshapers htcp ((Dev.refillShaper_of_settled hpend).trans he.symm) hconn)
  case pending =>
    intro d e hshapers htcp hpend hd he hconn
    exact State.run_acts_eq hacts
      (refillAll_of_single hshapers htcp ((Dev.refillShaper_of_pending hpend hd).trans he.symm) hconn)
  case change =>
    rintro c b t l hp hpresent hok rfl rfl rfl rfl
    exact State.run_acts_eq hacts (gclChange_of_ok hp hpresent hok)
  case apply =>
    intro l c t hwait
    refine ⟨fun ht => State.run_acts_eq hacts (gclChangeApply_of_before hwait ht), ?_⟩
    rintro d e ht rfl rfl
    exact State.run_acts_eq hacts (gclChangeApply_of_due hwait ht)
  case meter =>
    rintro r d hnext rfl
    exact ⟨fun htbl => State.run_acts_eq hacts (polMeter_of_next hnext (Dev.meterPkt_of_unknown htbl)),
      fun t ws c htbl hkind hgood hidx hon hstep =>
        State.run_acts_eq hacts (polMeter_of_next hnext (Dev.meterPkt_of_entry htbl hkind hgood hidx hon hstep))⟩

end Sys2Proof.Machine

/-! Crypto tiles (R26, R240 to R246, R250, R252 to R255, R506): the home-tile step of a packet, the end of its cipher work, and
the sweep. -/

namespace Sys2Proof.Machine

section CryptoPackets

/-! ### SA_STEP (R26, R244, R245, R250, R254, R506) -/

/-- R26: a tile that takes no work leaves its packets where they are. -/
theorem saStep_of_resting {d : Dev} {m : Nat} (hrest : d.takesWork (cryptoId m) = false) (ecc : Option Nat) :
    saStep m ecc d = d := by
  simp [saStep, hrest]

section HomeTile

variable {d e : Dev} {m : Nat} {x : SwPkt} (hwork : d.takesWork (cryptoId m) = true)
  (hnext : d.sw.wire.find? (fun (x : SwPkt) => x.crypto = 1 &&
    saHome ((d.saCands x.pkt).getD 0 0) x.pkt.cryDir = m) = some x)
include hwork hnext

/-- R244: a request of bad format is MALFORMED. -/
theorem saStep_of_badFormat (hbad : x.pkt.cryOk = false) (ecc : Option Nat) :
    saStep m ecc d = d.cryFail m (x.pkt.mg CryReq.SA_INDEX) Sc.malformed x := by
  simp only [saStep, hwork, if_true, hnext, hbad, Bool.not_false]

variable (hformat : x.pkt.cryOk = true) (hclean : x.pkt.poison = false)
  (hread : e = (d.saCands x.pkt).foldl (fun (d : Dev) (c : Nat) =>
    if (d.saTable c).isSome then (d.saCache c x.pkt.cryDir).saDue c else d) d)
include hformat hclean hread

/-- R506: an uncorrectable error of its SA revokes the SA and fails the packet. -/
theorem saStep_of_ecc {c : Nat} (hc : c = (d.saCands x.pkt).getD 0 (x.pkt.mg CryReq.SA_INDEX)) (a : Nat) :
    saStep m (some a) d = (((e.saRevoke c).uncorr (cryptoId m) 8 a).raise (cryptoId m) 0x0005 (e.sa c SA.SLICE)
      c).cryFail m c Sc.integrity x := by
  simp only [saStep, hwork, if_true, hnext, hformat, hclean, Bool.not_true, Bool.false_and, Bool.false_eq_true, if_false,
    ← hread, ← hc]

/-- R250: a packet none of whose candidates is valid. -/
theorem saStep_of_noneValid (hvalid : (d.saCands x.pkt).filter (fun c => e.candValid x.pkt c) = []) :
    saStep m none d = e.cryFail m (x.pkt.mg CryReq.SA_INDEX) 0x28 x := by
  simp only [saStep, hwork, if_true, hnext, hformat, hclean, Bool.not_true, Bool.false_and, Bool.false_eq_true, if_false,
    ← hread, hvalid]

variable {c : Nat} {cs : List Nat} (hvalid : (d.saCands x.pkt).filter (fun c => e.candValid x.pkt c) = c :: cs)
include hvalid

/-- R254: a packet whose valid candidates are all suspended. -/
theorem saStep_of_suspended (hopen : (c :: cs).filter (fun c => !e.resyncing c) = []) :
    saStep m none d = e.cryFail m c 0x2C x := by
  simp only [saStep, hwork, if_true, hnext, hformat, hclean, Bool.not_true, Bool.false_and, Bool.false_eq_true, if_false,
    ← hread, hvalid, hopen]

/-- R244 to R247, R252 to R254: of the valid candidates that are not suspended the first says what form the packet must have; an encrypt
packet then takes the sequence step, a decrypt packet the replay step. -/
theorem saStep_of_open {b : Nat} {bs : List Nat} (hopen : (c :: cs).filter (fun c => !e.resyncing c) = b :: bs) :
    saStep m none d = if e.formOk x.pkt b = false then e.cryFail m b Sc.malformed x
      else if x.pkt.cryDir = 1 then e.sealStep m b x else e.openStep m (b :: bs) x := by
  simp only [saStep, hwork, if_true, hnext, hformat, hclean, Bool.not_true, Bool.false_and, Bool.false_eq_true, if_false,
    ← hread, hvalid, hopen, Bool.not_eq_true']

end HomeTile

/-! ### CRYPTO_PROCESS (R240, R244 to R246, R254) -/

/-- R246, R254: what the end of the cipher work of packet `x` is: an encrypt packet leaves sealed, and a decrypt packet is opened by the
rules of its protocol. -/
theorem cryptoProcess_of_next {d : Dev} {n : Nat} {x : SwPkt} {t : CryStep} {c : SaCand} {cs : List SaCand}
    (hwork : d.takesWork (cryptoId n) = true)
    (hnext : d.sw.wire.find? (fun (x : SwPkt) => x.crypto = 2 && x.pkt.cryDir = n / 16) = some x)
    (hstep : d.cry.steps.find? (fun (t : CryStep) => t.id = x.id) = some t) (hcands : t.cands = c :: cs) :
    cryptoProcess n d = if x.pkt.cryDir = 1 then d.cryDone n x (sealWith x.pkt c) 0
      else if wget c.sa SA.PROTO = 3 then d.tlsEnd n t.cands x else d.openEnd n c x := by
  simp only [cryptoProcess, hwork, Bool.not_true, Bool.false_eq_true, if_false, hnext, hstep, hcands]

/-! ### SA_SWEEP (R250) -/

/-- R250: a home tile with one SA visits it. -/
theorem saSweep_of_single {d : Dev} {m i : Nat}
    (hhome : (d.recs .sa).filter (fun i => saHome i (d.sa i SA.DIR) = m) = [i]) : saSweep m d = d.saDue i := by
  simp only [saSweep, hhome, List.foldl_cons, List.foldl_nil]

end CryptoPackets

end Sys2Proof.Machine

/-! The SA interface of a crypto tile (R26, R131, R252, R257, R258): a write of SA_CMD queues its operation, or sets OVERRUN; the operation
takes effect once its tiles take work; its result waits for SA_CMD_DONE. -/

namespace Sys2Proof.Machine

section SaInterface

variable {d : Dev} {n op evt i : Nat}

/-! ### A write of SA_CMD (R131, R257) -/

/-- R131, R257: while BUSY is 0 the command is queued, and takes effect at once where it can. -/
theorem Dev.saCmd_of_idle (hidle : d.gk (cryptoId n) Cry.SA_STATUS_BUSY = 0) :
    d.saCmd n op evt = (d.saQueued n op evt).saTake n := by
  have hoff : d.gk (cryptoId n) Cry.SA_STATUS_BUSY ≠ 1 := by omega
  exact if_neg hoff

/-- R131: while BUSY is 1 a write of SA_CMD sets OVERRUN. -/
theorem Dev.saCmd_of_busy (hbusy : d.gk (cryptoId n) Cry.SA_STATUS_BUSY = 1) :
    d.saCmd n op evt = d.sk (cryptoId n) Cry.SA_STATUS_OVERRUN 1 := if_pos hbusy

/-- The command that was queued is the one that waits at its interface, where none waited before. -/
theorem Dev.find_ops_saQueued (hfree : d.cry.ops.find? (fun (o : SaOp) => o.tile = n) = none) (op evt : Nat) :
    (d.saQueued n op evt).cry.ops.find? (fun (o : SaOp) => o.tile = n) =
      some { tile := n, op := op, index := (d.saQueued n op evt).saIndex n, res := none } := by
  have hops : (d.saQueued n op evt).cry.ops =
      d.cry.ops ++ [{ tile := n, op := op, index := (d.saQueued n op evt).saIndex n, res := none }] := by
    simp only [Dev.saQueued, Dev.sk_eq, Dev.s_cry]
    rfl
  simp [hops, hfree]

/-! ### What a waiting command does (R26, R252, R257, R258) -/

section Waiting

variable {o : SaOp} (hnext : d.cry.ops.find? (fun (o : SaOp) => o.tile = n) = some o)
include hnext

/-- R257: a command that has taken effect does so once. -/
theorem Dev.saTake_of_answered {r : Nat × List Word} (hres : o.res = some r) : d.saTake n = d := by
  simp only [Dev.saTake, hnext, hres, Option.isSome_some, Bool.true_or, if_true]

/-- R26, R252: a command waits while a tile of its own takes no work. -/
theorem Dev.saTake_of_resting (hrest : d.saCmdRuns n o.op o.index = false) : d.saTake n = d := by
  simp only [Dev.saTake, hnext, hrest, Bool.not_false, Bool.or_true, if_true]

variable (hres : o.res = none) (hruns : d.saCmdRuns n o.op o.index = true)
include hres hruns

/-- R257: an index in no SA array is MALFORMED. -/
theorem Dev.saTake_of_noArray (htbl : d.saTable o.index = none) : d.saTake n = d.saDone n Sc.malformed [] := by
  simp only [Dev.saTake, hnext, hres, hruns, htbl, Option.isSome_none, Bool.not_true, Bool.or_self, Bool.false_eq_true,
    if_false, Dev.saDone]

variable {t : Tbl} (htbl : d.saTable o.index = some t)
include htbl

/-- R257: an array of a subtree that is being patched is offline. -/
theorem Dev.saTake_of_offline (hoff : t.offline = true) : d.saTake n = d.saDone n 0x23 [] := by
  simp only [Dev.saTake, hnext, hres, hruns, htbl, hoff, Option.isSome_none, Bool.not_true, Bool.or_self, Bool.false_eq_true,
    if_false, if_true, Dev.saDone]

/-- R257, R258: otherwise the operation runs, and its result waits. -/
theorem Dev.saTake_of_online (hon : t.offline = false) {e : Dev} {st : Nat} {ws : List Word}
    (hop : d.saOp n o.op o.index = (e, st, ws)) : d.saTake n = e.saDone n st ws := by
  simp only [Dev.saTake, hnext, hres, hruns, htbl, hon, hop, Option.isSome_none, Bool.not_true, Bool.or_self,
    Bool.false_eq_true, if_false, Dev.saDone]

end Waiting

/-! ### INSTALL and UPDATE (R247, R249, R253, R258, R460) -/

section Install

/-- R258: a field out of its values. -/
theorem saInstall_of_badFields (hbad : saFieldsOk ((d.saData n).take 16) d.feature = false) :
    saInstall n i d = (d, Sc.malformed, []) := by
  simp only [saInstall, hbad, Bool.not_false, if_true]

variable (hfields : saFieldsOk ((d.saData n).take 16) d.feature = true)
include hfields

/-- R460: an SA of the twin's half. -/
theorem saInstall_of_otherSide (hside : d.otherSide i = true) : saInstall n i d = (d, 0x2E, []) := by
  simp only [saInstall, hfields, hside, Bool.not_true, Bool.false_eq_true, if_false, if_true]

variable (hside : d.otherSide i = false)
include hside

/-- R258: an SA that is live. -/
theorem saInstall_of_live (hlive : d.sa i SA.STATE = 1 ∨ d.sa i SA.STATE = 2) : saInstall n i d = (d, 0x2D, []) := by
  simp only [saInstall, hfields, hside, hlive, Bool.not_true, Bool.false_eq_true, if_false, if_true]

/-- R258: the record is written with its state by START and its counters zero, and the SA's sequence lease ends. -/
theorem saInstall_of_free (hfree : ¬(d.sa i SA.STATE = 1 ∨ d.sa i SA.STATE = 2)) {ws : List Word} {d' d'' : Dev}
    (hws : ws = wset (wset (wset (wset ((d.saData n).take 16) SA.STATE
      (if d.time < wget ((d.saData n).take 16) SA.START then 1 else 2)) SA.RESYNC 0) SA.PKTS 0) SA.BYTES 0)
    (hrec : d' = (d.clearRec .sa i).setRec .sa i ws)
    (hlease : d'' = ({ d' with twin := { d'.twin with
      leases := d'.twin.leases.filter (fun (l : Nat × Nat) => l.1 ≠ i) } } : Dev)) :
    saInstall n i d = (d''.saTouch i, Sc.ok, []) := by
  simp only [saInstall, hfields, hside, hfree, Bool.not_true, Bool.false_eq_true, if_false, ← hws, ← hrec, ← hlease]

end Install

/-- R258: an SA that is neither pending nor active cannot be updated. -/
theorem saUpdate_of_dead (hpending : d.sa i SA.STATE ≠ 1) (hactive : d.sa i SA.STATE ≠ 2) :
    saUpdate n i d = (d, 0x28, []) := by
  simp only [saUpdate, ne_eq, hpending, hactive, not_false_eq_true, and_self, if_true]

/-- R258: words in range change the limits, times, window and PREV of an active SA that is not a TLS one. -/
theorem saUpdate_of_active {ws : List Word} (hactive : d.sa i SA.STATE = 2) (hws : ws = (d.saData n).take 16)
    (hwindow : wget ws SA.WINDOW ≤ 1024) (h14 : (ws.getD 14 0).toNat < 2 ^ 48) (h15 : (ws.getD 15 0).toNat < 2 ^ 48)
    (hprev : wget ws SA.PREV = 0x3FFFFF) (hproto : d.sa i SA.PROTO ≠ 3) : saUpdate n i d =
      ((([SA.SOFT_PKTS, SA.HARD_PKTS, SA.START, SA.EXPIRE, SA.WINDOW, SA.PREV].foldl
        (fun (d : Dev) (f : CFld) => d.cs .sa i f (wget ws f)) d).saTouch i), Sc.ok, []) := by
  have hlive : ¬(d.sa i SA.STATE ≠ 1 ∧ d.sa i SA.STATE ≠ 2) := by simp [hactive]
  have hnoTls : ¬(decide (d.sa i SA.PROTO = 3) && decide (d.sa i SA.DIR = 0)) = true := by simp [hproto]
  have hgood : ¬(1024 < wget ws SA.WINDOW ∨ 2 ^ 48 ≤ (ws.getD 14 0).toNat ∨ 2 ^ 48 ≤ (ws.getD 15 0).toNat ∨
      ¬(wget ws SA.PREV = 0x3FFFFF ∨ ((decide (d.sa i SA.PROTO = 3) && decide (d.sa i SA.DIR = 0)) = true ∧
        wget ws SA.PREV < 0x200000))) := by
    simp only [hprev, true_or, not_true_eq_false, or_false]
    omega
  simp only [saUpdate, ← hws, if_neg hlive, if_neg hgood, if_neg hnoTls]

/-! ### SA_CMD_DONE (R257, R258) -/

section Done

variable {o : SaOp} (hnext : d.cry.ops.find? (fun (o : SaOp) => o.tile = n) = some o)
include hnext

/-- R26, R252: a command that cannot take effect yet is not done. -/
theorem saCmdDone_of_resting (hres : o.res = none) (hrest : d.saCmdRuns n o.op o.index = false) : saCmdDone n d = d := by
  simp only [saCmdDone, Dev.saTake_of_resting hnext hrest, hnext, hres]

/-- R258: a REVOKE is not done while a packet in a tile holds the key. -/
theorem saCmdDone_of_keyHeld (hop : o.op = 4) (hres : o.res = some (Sc.ok, []))
    (hheld : d.cry.steps.any (fun (t : CryStep) => t.cands.any (fun c => c.idx = o.index)) = true) :
    saCmdDone n d = d := by
  simp only [saCmdDone, Dev.saTake_of_answered hnext hres, hnext, hres, hop, hheld, decide_true, Bool.and_self, if_true]

/-- R257: a result without words, of a command other than REVOKE and with EVT 0, clears BUSY and shows its status. -/
theorem saCmdDone_of_quiet {st : Nat} {e : Dev} (hop : o.op ≠ 4) (hres : o.res = some (st, []))
    (he : e = (({ d with cry := { d.cry with ops := d.cry.ops.filter (fun (o : SaOp) => o.tile ≠ n) } } : Dev).sk
      (cryptoId n) Cry.SA_STATUS_BUSY 0).sk (cryptoId n) Cry.SA_STATUS_RESULT st)
    (hevt : e.gk (cryptoId n) Cry.SA_CMD_EVT = 0) : saCmdDone n d = e := by
  have hquiet : e.gk (cryptoId n) Cry.SA_CMD_EVT ≠ 1 := by omega
  simp only [saCmdDone, Dev.saTake_of_answered hnext hres, hnext, hres, hop, decide_false, Bool.false_and,
    Bool.false_eq_true, if_false, List.length_nil, List.range_zero, List.foldl_nil, ← he, if_neg hquiet]

end Done

end SaInterface

section SaCommands

variable {s : State} {n op evt i : Nat} {d : Dev} (hacts : s.dev.acts = true)
  (hidle : s.dev.gk (cryptoId n) Cry.SA_STATUS_BUSY = 0)
include hacts hidle

/-- R131, R257: in Run, while BUSY is 0, a command of the SA interface is queued and does what it can. -/
theorem State.run_saCmd {e : Dev} (hd : d = s.dev.saQueued n op evt) (htake : d.saTake n = e) :
    s.run (fun d => d.saCmd n op evt) = s.next e :=
  State.run_acts_eq hacts ((Dev.saCmd_of_idle hidle).trans (hd ▸ htake))

/-- R257, R258: while no command waits at the interface and the tiles take work, an operation on an SA of an array that is online runs at
once. -/
theorem State.run_saCmd_online (hfree : s.dev.cry.ops.find? (fun (o : SaOp) => o.tile = n) = none)
    (hd : d = s.dev.saQueued n op evt) (hi : i = d.saIndex n) (hruns : d.saCmdRuns n op i = true) {t : Tbl}
    (htbl : d.saTable i = some t) (hon : t.offline = false) {e : Dev} {st : Nat} {ws : List Word}
    (hop : d.saOp n op i = (e, st, ws)) : s.run (fun d => d.saCmd n op evt) = s.next (e.saDone n st ws) := by
  subst hd hi
  exact State.run_saCmd hacts hidle rfl (Dev.saTake_of_online (Dev.find_ops_saQueued hfree op evt) rfl hruns htbl hon hop)

end SaCommands

/-- Settles O38: each clause is the equation of its command; an SA command is a write of SA_CMD, read while BUSY is 0 by what its
operation does, and while BUSY is 1. -/
theorem cryptoTilesProcessPacketsAndServeSaCommands : Obligations.CryptoTilesProcessPacketsAndServeSaCommands := by
  intro s n e hacts
  refine ⟨fun hrest ecc => State.run_acts_eq hacts (saStep_of_resting hrest ecc), ?step, ?process,
    fun i hhome => State.run_acts_eq hacts (saSweep_of_single hhome),
    fun hidle hfree => ⟨?queued, ?read, ?install, ?update, ?revoke⟩, ?busy, ?done⟩
  case step =>
    intro x d hwork hnext
    refine ⟨fun hbad ecc => State.run_acts_eq hacts (saStep_of_badFormat hwork hnext hbad ecc),
      fun hformat hclean hread => ⟨fun hvalid =>
        State.run_acts_eq hacts (saStep_of_noneValid hwork hnext hformat hclean hread hvalid),
      fun a c hc => State.run_acts_eq hacts (saStep_of_ecc hwork hnext hformat hclean hread hc a), fun c cs hvalid =>
      ⟨fun hopen => State.run_acts_eq hacts (saStep_of_suspended hwork hnext hformat hclean hread hvalid hopen),
        fun b bs hopen => ?_⟩⟩⟩
    have hstep := saStep_of_open hwork hnext hformat hclean hread hvalid hopen
    exact ⟨fun hbad => State.run_acts_eq hacts (hstep.trans (if_pos hbad)),
      fun hform hdir => State.run_acts_eq hacts (hstep.trans (by simp [hform, hdir])),
      fun hform hdir => State.run_acts_eq hacts (hstep.trans (by simp [hform, hdir]))⟩
  case process =>
    intro x t c cs hwork hnext hstep hcands
    have hend := cryptoProcess_of_next hwork hnext hstep hcands
    exact ⟨fun hdir => State.run_acts_eq hacts (hend.trans (if_pos hdir)),
      fun hdir hproto => State.run_acts_eq hacts (hend.trans (by simp [hdir, hproto])),
      fun hdir hproto => State.run_acts_eq hacts (hend.trans (by simp [hdir, hproto]))⟩
  case queued =>
    rintro c op i d hc rfl rfl
    have hexec : exec c s = s.run (fun d => d.saCmd n op e) := by
      simp only [List.mem_cons, Prod.mk.injEq, List.not_mem_nil, or_false] at hc
      obtain ⟨rfl, rfl⟩ | ⟨rfl, rfl⟩ | ⟨rfl, rfl⟩ | ⟨rfl, rfl⟩ := hc <;> rfl
    have hnext := Dev.find_ops_saQueued hfree op e
    rw [hexec]
    exact ⟨fun hrest => State.run_saCmd hacts hidle rfl (Dev.saTake_of_resting hnext hrest),
      fun hruns htbl => State.run_saCmd hacts hidle rfl (Dev.saTake_of_noArray hnext rfl hruns htbl),
      fun t hruns htbl hoff => State.run_saCmd hacts hidle rfl (Dev.saTake_of_offline hnext rfl hruns htbl hoff)⟩
  case read =>
    intro d t i hd hi hruns htbl hon
    exact State.run_saCmd_online hacts hidle hfree hd hi hruns htbl hon rfl
  case install =>
    intro d t i hd hi hruns htbl hon
    have hrun {x : Dev} {st : Nat} (h : saInstall n i d = (x, st, [])) :
        exec (.saInstall n e) s = s.next (x.saDone n st []) :=
      State.run_saCmd_online hacts hidle hfree hd hi hruns htbl hon h
    exact ⟨fun hbad => hrun (saInstall_of_badFields hbad), fun hfields => ⟨fun hside =>
      hrun (saInstall_of_otherSide hfields hside), fun hside hlive => hrun (saInstall_of_live hfields hside hlive),
      fun ws d' d'' hside hfree hws hrec hlease => hrun (saInstall_of_free hfields hside hfree hws hrec hlease)⟩⟩
  case update =>
    intro d t i hd hi hruns htbl hon
    have hrun {x : Dev} {st : Nat} (h : saUpdate n i d = (x, st, [])) :
        exec (.saUpdate n e) s = s.next (x.saDone n st []) :=
      State.run_saCmd_online hacts hidle hfree hd hi hruns htbl hon h
    exact ⟨fun hpending hactive => hrun (saUpdate_of_dead hpending hactive),
      fun ws hactive hws hwindow h14 h15 hprev hproto =>
        hrun (saUpdate_of_active hactive hws hwindow h14 h15 hprev hproto)⟩
  case revoke =>
    intro d t i hd hi hruns htbl hon
    exact State.run_saCmd_online hacts hidle hfree hd hi hruns htbl hon rfl
  case busy =>
    intro hbusy
    have overrun (op : Nat) :
        s.run (fun d => d.saCmd n op e) = s.next (s.dev.sk (cryptoId n) Cry.SA_STATUS_OVERRUN 1) :=
      State.run_acts_eq hacts (Dev.saCmd_of_busy hbusy)
    simp only [List.forall_mem_cons, List.not_mem_nil, false_imp_iff, implies_true, and_true]
    exact ⟨overrun 1, overrun 2, overrun 3, overrun 4⟩
  case done =>
    intro o d st hnext
    exact ⟨fun hres hrest => State.run_acts_eq hacts (saCmdDone_of_resting hnext hres hrest),
      fun hop hres hheld => State.run_acts_eq hacts (saCmdDone_of_keyHeld hnext hop hres hheld),
      fun hop hres hd hevt => State.run_acts_eq hacts (saCmdDone_of_quiet hnext hop hres hd hevt)⟩

end Sys2Proof.Machine

/-! The entropy source and its DRBG (R260 to R263, R265): samples and the health tests, seeds, and what a generate call takes. -/

namespace Sys2Proof.Machine

section EntropySource

variable {d e : Dev}

/-! ### ENTROPY_TEST_FAIL (R260, R261, R263) -/

/-- R260: there is no continuous test before the startup test has passed, nor in a source that has FAILED. -/
theorem entropyTestFail_of_untested (h : d.cry.tested = false ∨ d.entState = 4) (bs : List Bool) :
    entropyTestFail bs d = d := by
  simp only [entropyTestFail]
  exact if_pos (by simpa using h)

/-- R263: a failed test outside a sequence of restarts begins one. -/
theorem Dev.entFailure_of_running {f : Nat} (he : e = (d.noteTest f).entFlush) (hstate : e.entState ≠ 3) :
    d.entFailure f = (((e.setCry (fun (c : CrySt) => { c with failAt := e.time })).s rootId Root.ENT_STATUS_RESTARTS
      0).entRestartNow).raise rootId 0x0505 0 f := by
  simp only [Dev.entFailure, ← he, if_neg hstate]

section Samples

variable {bs : List Bool} {t : EntTest} {k f : Nat} (htested : d.cry.tested = true) (hstate : d.entState ≠ 4)
  (hfeed : d.cry.test.feedAll bs = (t, k, f))
  (he : e = ({ d with cry := { d.cry with test := t, pool := (d.cry.pool ++ bs.take k).take 4096 } } : Dev))
include htested hstate hfeed he

/-- R260, R261: samples that all pass enter the pool. -/
theorem entropyTestFail_of_passed (hpass : f = 0) : entropyTestFail bs d = e := by
  subst he
  simp [entropyTestFail, htested, hstate, Dev.takeSamples, hfeed, hpass, Dev.setCry]

/-- R263: a sample that fails is a failure, once those before it have entered the pool. -/
theorem entropyTestFail_of_failed (hfail : f ≠ 0) : entropyTestFail bs d = e.entFailure f := by
  subst he
  simp [entropyTestFail, htested, hstate, Dev.takeSamples, hfeed, hfail, Dev.setCry]

end Samples

/-! ### ENTROPY_RESTART_DONE (R260, R263) -/

/-- R260: no startup test is in progress. -/
theorem entropyRestartDone_of_idle (h : d.cry.tested = true ∨ d.entState ≠ 1 ∧ d.entState ≠ 3) (bs : List Bool) :
    entropyRestartDone bs d = d := by
  simp only [entropyRestartDone]
  exact if_pos (by simpa using h)

section Startup

variable {bs : List Bool} {t : EntTest} {k f : Nat} (htested : d.cry.tested = false)
  (hstate : d.entState = 1 ∨ d.entState = 3) (hfeed : d.cry.test.feedAll (bs.take (4096 - d.cry.started)) = (t, k, f))
include htested hstate hfeed

/-- R260, R263: the startup test passes with its 4,096th sample, and fails at the first that fails a test. -/
theorem entropyRestartDone_of_testing {m : Nat} (hm : m = d.cry.started + k) : entropyRestartDone bs d = if f = 0 then
    { d with cry := { d.cry with test := t, started := if m = 4096 then 0 else m, tested := decide (m = 4096) } }
    else d.entFailure f := by
  have hrunning : ¬(d.cry.tested || !(decide (d.entState = 1) || decide (d.entState = 3))) = true := by
    simpa [htested, or_iff_not_imp_left] using hstate
  simp only [entropyRestartDone, if_neg hrunning, hfeed, ne_eq, ite_not, Dev.setCry, ← hm]

end Startup

/-! ### DRBG_SEED (R261, R263) -/

/-- R261: before the startup test has passed, or with too few samples in the pool, there is no seed. -/
theorem drbgSeed_of_unready (h : d.cry.tested = false ∨ d.cry.pool.length < 1536) : drbgSeed d = d := by
  simp only [drbgSeed, Dev.poolFull]
  exact if_pos (by simpa using h)

section Seed

variable (htested : d.cry.tested = true) (hpool : 1536 ≤ d.cry.pool.length)
include htested hpool

/-- R261: the first seed fills the buffer. -/
theorem drbgSeed_of_first (hseeded : d.cry.seeded = false) (hstate : d.entState ≠ 3) :
    drbgSeed d = (d.reseed.setEnt 2).fillRng 16 := by
  simp [drbgSeed, Dev.poolFull, htested, hpool, hseeded, hstate]

/-- R263: the first seed after a restart also says that the source has recovered. -/
theorem drbgSeed_of_recovered (hseeded : d.cry.seeded = false) (hstate : d.entState = 3) (he : e = d.reseed.setEnt 2) :
    drbgSeed d = (e.raise rootId 0x0506 0 (e.g rootId Root.ENT_STATUS_RESTARTS)).fillRng 16 := by
  simp [drbgSeed, Dev.poolFull, htested, hpool, hseeded, hstate, he]

/-- R261: a seeded DRBG is reseeded where that is due, and only there. -/
theorem drbgSeed_of_seeded (hseeded : d.cry.seeded = true) :
    drbgSeed d = if d.reseedDue then d.reseed.fillRng 16 else d := by
  simp [drbgSeed, Dev.poolFull, htested, hpool, hseeded]

end Seed

/-! ### RNG_DATA_READ (R262) -/

/-- R262: a read takes the first value of the buffer, with VALID 1. -/
theorem rngDataRead_of_value {v : Nat} {rest : List Nat} (hrng : d.cry.rng = v :: rest) : rngDataRead d =
    (({ d with cry := { d.cry with rng := rest } } : Dev).emit (.readData (BitVec.ofNat 64 (v + 2 ^ 63)))).fillRng 1 := by
  simp only [rngDataRead, hrng, Dev.setCry]

/-- R262: a read of the empty buffer answers 0. -/
theorem rngDataRead_of_empty (hrng : d.cry.rng = []) : rngDataRead d = (d.emit (.readData 0)).fillRng 16 := by
  simp only [rngDataRead, hrng]

end EntropySource

end Sys2Proof.Machine

/-! Requests for entropy (R261 to R263, R265, R323, R380): how they join the list, have their bytes generated and are served. -/

namespace Sys2Proof.Machine

section EntropyRequests

variable {d e : Dev} {reach : Bool} {r : EntReq} {rest : List EntReq}

/-! ### RANDOM_REQUEST_SERVE (R261 to R263, R323) -/

/-- R262: with no request there is nothing to serve. -/
theorem randomRequestServe_of_none (hreqs : d.cry.reqs = []) : randomRequestServe reach d = d := by
  simp only [randomRequestServe, hreqs]

/-- R261: a generate call must wait: none is made. -/
theorem Dev.generate_of_unready (hready : d.drbgReady (d.on rootId Root.ENT_CTL_PRED_RESIST && !r.fresh) = false) (k : Nat) :
    d.generate r k = (d, r) := by
  cases k with
  | zero => rfl
  | succ k => simp [Dev.generate, hready]

/-- R261: a request whose bytes are all there has no generate call made. -/
theorem Dev.generate_of_whole (hwhole : r.len ≤ r.gen.length) (k : Nat) : d.generate r k = (d, r) := by
  cases k with
  | zero => rfl
  | succ k => simp [Dev.generate, hwhole]

/-- R261: a generate call that no reseed precedes. -/
theorem Dev.drbg_of_fresh (hdue : d.reseedDue = false) (n : Nat) : d.drbg false n =
    (d.setCry (fun (c : CrySt) => { c with drawn := c.drawn + 1, gens := c.gens + 1 }), Config.drbgBytes d.cry.drawn n) := by
  simp [Dev.drbg, hdue]

/-- R261: the bytes of a generate call for `n` bytes. -/
def Dev.drbgOut (d : Dev) (n : Nat) : List Byte := (List.range n).map (fun i => (Config.drbgBytes d.cry.drawn n).getD i 0)

/-- R261: with a DRBG that is ready and not due for a reseed, one call makes the whole of a request of at most 64 bytes. -/
theorem Dev.generate_of_oneCall (hgen : r.gen = []) (hpos : 0 < r.len) (hlen : r.len ≤ 64)
    (hready : d.drbgReady false = true) (hdue : d.reseedDue = false)
    (hpred : d.on rootId Root.ENT_CTL_PRED_RESIST = false) (k : Nat) : d.generate r (k + 1) =
      (d.setCry (fun (c : CrySt) => { c with drawn := c.drawn + 1, gens := c.gens + 1 }),
        { r with gen := d.drbgOut r.len, fresh := true }) := by
  simp only [Dev.generate, hpred, Bool.false_and, hgen, List.length_nil, Nat.not_le.mpr hpos, hready, decide_false,
    Bool.not_true, Bool.or_self, Bool.false_eq_true, if_false, Nat.sub_zero, Nat.min_eq_right hlen, Dev.drbg_of_fresh hdue,
    List.nil_append]
  exact Dev.generate_of_whole (by simp) k

section Oldest

variable (hreqs : d.cry.reqs = r :: rest)
include hreqs

/-- R262: a request whose bytes are there leaves the list and is given them. -/
theorem randomRequestServe_of_whole (hwhole : r.len ≤ r.gen.length)
    (he : e = ({ d with cry := { d.cry with reqs := rest } } : Dev).syncEnt) :
    randomRequestServe reach d = e.giveRandom r reach := by
  subst he
  simp only [randomRequestServe, hreqs, if_pos hwhole, Dev.setCry]

/-- R261, R323: while the DRBG is not ready the SPDM requests that have waited too long are answered. -/
theorem randomRequestServe_of_unready (hshort : r.gen.length < r.len)
    (hready : d.drbgReady (d.on rootId Root.ENT_CTL_PRED_RESIST && !r.fresh) = false) :
    randomRequestServe reach d = d.spdmBusy := by
  have hsame : d.setCry (fun (c : CrySt) => { c with reqs := r :: rest }) = d := by rw [← hreqs]; rfl
  simp only [randomRequestServe, hreqs, if_neg (Nat.not_le.mpr hshort), Dev.generate_of_unready hready, hsame, if_pos hshort]

/-- R261: the oldest request has its bytes generated. -/
theorem randomRequestServe_of_oneCall (hgen : r.gen = []) (hpos : 0 < r.len) (hlen : r.len ≤ 64)
    (hready : d.drbgReady false = true) (hdue : d.reseedDue = false)
    (hpred : d.on rootId Root.ENT_CTL_PRED_RESIST = false) : randomRequestServe reach d =
      d.setCry (fun (c : CrySt) => { c with
        drawn := c.drawn + 1, gens := c.gens + 1, reqs := { r with gen := d.drbgOut r.len, fresh := true } :: rest }) := by
  have hcall : ¬(r.len ≤ r.gen.length) := by simp [hgen]; omega
  have hwhole : ¬((d.drbgOut r.len).length < r.len) := by simp [Dev.drbgOut]
  simp only [randomRequestServe, hreqs, if_neg hcall, Dev.generate_of_oneCall hgen hpos hlen hready hdue hpred 63,
    if_neg hwhole, Dev.setCry]

end Oldest

/-- R262: the bytes of an admin command's request are written to its buffer. -/
theorem Dev.giveRandom_of_admin {i : Nat} {c : AdminCmd} (hadm : r.adm = some i)
    (hcmd : d.admin.find? (fun (c : AdminCmd) => c.pf = r.pf && c.idx = i) = some c) :
    d.giveRandom r reach = d.admOut c reach r.gen r.len := by
  simp only [Dev.giveRandom, hadm, hcmd]

/-- R323: the bytes of the responder's request answer it. -/
theorem Dev.giveRandom_of_spdm {b : List Byte} (hadm : r.adm = none) (hspdm : r.spdm = some b) :
    d.giveRandom r reach = d.spdmReply r.pf 1 b r.gen := by
  simp only [Dev.giveRandom, hadm, hspdm]

/-! ### GET_RANDOM (R262, R263, R380) -/

/-- R263: a FAILED source ends an admin command's request with NO_ENTROPY. -/
theorem Dev.askRandom_of_failed {i : Nat} (hadm : r.adm = some i) (hspdm : r.spdm = none) (hstate : d.entState = 4) :
    d.askRandom r = (d.bump Root.ENT_NO_ENTROPY).admEnd r.pf i Sc.noEntropy 0 := by
  simp only [Dev.askRandom, if_pos hstate, Dev.noEntropy, hadm, hspdm]

/-- R262: a full list refuses an admin command's request. -/
theorem Dev.askRandom_of_full {i : Nat} (hadm : r.adm = some i) (hstate : d.entState ≠ 4) (hfull : 64 ≤ d.cry.reqs.length) :
    d.askRandom r = d.admEnd r.pf i Sc.noResource 0 := by
  simp only [Dev.askRandom, if_neg hstate, if_pos hfull, hadm]

/-- R262: otherwise a request joins the list. -/
theorem Dev.askRandom_of_room (hstate : d.entState ≠ 4) (hroom : d.cry.reqs.length < 64) :
    d.askRandom r = ({ d with cry := { d.cry with reqs := d.cry.reqs ++ [r] } } : Dev).syncEnt := by
  simp only [Dev.askRandom, if_neg hstate, if_neg (Nat.not_le.mpr hroom), Dev.setCry]

/-- R262, R380: a GET_RANDOM that is ready asks for its bytes. -/
theorem getRandom_of_ready {pf idx : Nat} {c : AdminCmd} (hready : d.admReady pf idx 0x0002 c = true)
    (he : e = d.admStart pf idx) : getRandom pf idx d = e.askRandom
      { pf := pf, adm := some idx, spdm := none, len := c.len, gen := [], fresh := false, at_ := e.time } := by
  rw [getRandom, Dev.admRun_of_ready hready, he]

end EntropyRequests

end Sys2Proof.Machine

/-! The scrub (R504 to R506) and the parity scan of the TCAM (R507). -/

namespace Sys2Proof.Machine

section Scrub

variable {d : Dev} {g : Nat}

/-- R504, R505: a correctable word in HBM is counted. -/
theorem scrub_of_hbm (u a : Nat) (p : Damage) : scrub u 2 a p false d = d.bump Root.HBM_CORR := rfl

/-- R215, R504, R505: a correctable word of the switch core is counted there too. -/
theorem scrub_of_switch (u a : Nat) (p : Damage) :
    scrub u 3 a p false d = (d.bump Root.SRAM_CORR).swBump Sw.ECC_CORR := rfl

/-- R504, R505: any other correctable word is counted. -/
theorem scrub_of_sram {st : Nat} (hhbm : st ≠ 2) (hswitch : st ≠ 3) (u a : Nat) (p : Damage) :
    scrub u st a p false d = d.bump Root.SRAM_CORR := by
  simp only [scrub, Bool.false_eq_true, if_false, if_neg hhbm, if_neg hswitch]

/-- R507: a visit that finds its entry good. -/
theorem tcamScanVisit_of_good : tcamScanVisit g true d = d := by
  cases howner : d.tcamOwner g <;> simp [tcamScanVisit, howner]

variable {t : Tbl} {i : Nat} (howner : d.tcamOwner g = some (t, i))
include howner

/-- R507: a bad entry that is not valid stays as it is. -/
theorem tcamScanVisit_of_invalid (hvalid : d.evalid t i = false) : tcamScanVisit g false d = d := by
  simp only [tcamScanVisit, howner, hvalid, Bool.not_false, Bool.or_true, if_true]

/-- R507: a valid bad entry is latched and counted, removed, counted by its table and reported. -/
theorem tcamScanVisit_of_bad (hvalid : d.evalid t i = true) {e : Dev}
    (he : e = ((d.latchInteg (matchId (g / 4096 / 4)) 5 g).bump Root.TCAM_PARITY).tblRemove t i) :
    tcamScanVisit g false d = (e.tstat t.id 12 1).tblEvent t.id 0x0005 g := by
  subst he
  simp only [tcamScanVisit, howner, hvalid, Bool.not_true, Bool.or_self, Bool.false_eq_true, if_false]

end Scrub

/-- Settles O39: each clause is the equation of its command. -/
theorem entropyServesSeedsFailsAndTheScrubRepairs : Obligations.EntropyServesSeedsFailsAndTheScrubRepairs := by
  intro s n hacts
  refine ⟨fun bs h => State.run_acts_eq hacts (entropyTestFail_of_untested h bs), ?samples, ?startup,
    fun bs h => State.run_acts_eq hacts (entropyRestartDone_of_idle h bs),
    fun h => State.run_acts_eq hacts (drbgSeed_of_unready h), ?seed,
    fun hseeded => State.run_acts_eq hacts (if_pos hseeded),
    fun hseeded => State.run_acts_eq hacts (if_neg (Bool.eq_false_iff.mp hseeded)),
    fun reach hreqs => State.run_acts_eq hacts (randomRequestServe_of_none hreqs), ?serve,
    fun v rest hrng => State.run_acts_eq hacts (rngDataRead_of_value hrng),
    fun hrng => State.run_acts_eq hacts (rngDataRead_of_empty hrng), ?random,
    fun hstate => State.run_acts_eq hacts (if_neg hstate), fun hstate => State.run_acts_eq hacts (if_pos hstate), ?scrub,
    State.run_acts_eq hacts tcamScanVisit_of_good, ?scan⟩
  case samples =>
    intro bs t k f d e htested hstate hfeed hd
    exact ⟨fun hpass => State.run_acts_eq hacts (entropyTestFail_of_passed htested hstate hfeed hd hpass),
      fun hfail he hrunning => State.run_acts_eq hacts
        ((entropyTestFail_of_failed htested hstate hfeed hd hfail).trans (Dev.entFailure_of_running he hrunning))⟩
  case startup =>
    intro bs t k m f htested hstate hfeed hm
    have htest := entropyRestartDone_of_testing htested hstate hfeed hm
    exact ⟨fun hpass => State.run_acts_eq hacts (htest.trans (if_pos hpass)),
      fun hfail => State.run_acts_eq hacts (htest.trans (if_neg hfail))⟩
  case seed =>
    rintro e htested hpool rfl
    exact ⟨fun hseeded hstate => State.run_acts_eq hacts (drbgSeed_of_first htested hpool hseeded hstate),
      fun hseeded hstate => State.run_acts_eq hacts (drbgSeed_of_recovered htested hpool hseeded hstate rfl),
      fun hseeded hdue => State.run_acts_eq hacts ((drbgSeed_of_seeded htested hpool hseeded).trans (if_pos hdue)),
      fun hseeded hdue => State.run_acts_eq hacts ((drbgSeed_of_seeded htested hpool hseeded).trans
        (if_neg (Bool.eq_false_iff.mp hdue)))⟩
  case serve =>
    intro reach r rest hreqs
    refine ⟨fun hshort hready => State.run_acts_eq hacts (randomRequestServe_of_unready hreqs hshort hready), ?_,
      fun i c d hwhole hadm hd hcmd => State.run_acts_eq hacts
        ((randomRequestServe_of_whole hreqs hwhole hd).trans (Dev.giveRandom_of_admin hadm hcmd)),
      fun b d hwhole hadm hspdm hd => State.run_acts_eq hacts
        ((randomRequestServe_of_whole hreqs hwhole hd).trans (Dev.giveRandom_of_spdm hadm hspdm))⟩
    rintro hgen hpos hlen hready hdue hpred c rfl
    exact State.run_acts_eq hacts (randomRequestServe_of_oneCall hreqs hgen hpos hlen hready hdue hpred)
  case random =>
    intro pf idx c d hready hd
    have hask := getRandom_of_ready hready hd
    refine ⟨fun hstate => State.run_acts_eq hacts (hask.trans (Dev.askRandom_of_failed rfl rfl hstate)),
      fun hstate hfull => State.run_acts_eq hacts (hask.trans (Dev.askRandom_of_full rfl hstate hfull)), ?_⟩
    rintro hstate hroom c' rfl
    exact State.run_acts_eq hacts (hask.trans (Dev.askRandom_of_room hstate hroom))
  case scrub =>
    intro u st a p
    refine ⟨State.run_acts_eq hacts rfl, ?_, ?_,
      fun hhbm hswitch => State.run_acts_eq hacts (scrub_of_sram hhbm hswitch u a p)⟩
    · rintro rfl
      exact State.run_acts_eq hacts (scrub_of_hbm u a p)
    · rintro rfl
      exact State.run_acts_eq hacts (scrub_of_switch u a p)
  case scan =>
    intro t i d howner
    exact ⟨fun hvalid => State.run_acts_eq hacts (tcamScanVisit_of_invalid howner hvalid),
      fun hvalid hd => State.run_acts_eq hacts (tcamScanVisit_of_bad howner hvalid hd)⟩

end Sys2Proof.Machine

/-! What every command answers (R452, R453, R550), and a step of a state in which the device stands still. -/

namespace Sys2Proof.Machine

section Steps

/-- R452, R453: a command that neither the keeper island, a reset nor the boundary scan takes is taken in Run only. -/
theorem exec_of_inRun {c : Instr} (hc : keeperTakes c = false) (s : State) :
    ∃ d : Dev, exec c s = s.next (if s.dev.acts then d else s.dev) := by
  cases c
  case xkeepFail | xkeepReturn | holdWake | pwrGoodFall | powerOnReset | keeperReset | brownout | thermtrip | perstAssert |
    perstDeassert | extest | samplePreload | idcode | clamp | highz | jtagDebug | bypass => cases hc
  all_goals exact ⟨_, rfl⟩

/-- Outside Run such a command changes nothing. -/
theorem exec_of_still {c : Instr} (hc : keeperTakes c = false) {s : State} (hstill : s.dev.acts = false) :
    exec c s = .next s := by
  obtain ⟨d, hd⟩ := exec_of_inRun hc s
  rw [hd, hstill]
  rfl

/-- R436, R452 to R454, R513, R525 to R528, R547, R550, R551: a command that one of these takes changes the device alone. -/
theorem exec_of_keeper {c : Instr} (hc : keeperTakes c = true) (s : State) : ∃ d : Dev, exec c s = s.next d := by
  cases c
  case xkeepFail | xkeepReturn | holdWake | pwrGoodFall | powerOnReset | keeperReset | brownout | thermtrip | perstAssert |
    perstDeassert | extest | samplePreload | idcode | clamp | highz | jtagDebug | bypass => exact ⟨_, rfl⟩
  all_goals cases hc

/-- A frozen state: the device is outside Run, and nothing waits that it would take there. -/
theorem State.frozen_iff {s : State} :
    s.frozen = true ↔ s.dev.acts = false ∧ ∀ c ∈ s.pending, keeperTakes c = false := by
  simp [State.frozen]

/-- R452, R453: a step of a frozen state drops the command at the front, if any, and keeps the device. -/
theorem step_of_frozen {s : State} (h : s.frozen = true) : step s = .next { s with pending := s.pending.tail } := by
  obtain ⟨hstill, hqueue⟩ := State.frozen_iff.mp h
  obtain ⟨d, pending⟩ := s
  cases pending with
  | nil => simp [step, Dev.tick, show d.acts = false from hstill]
  | cons c rest => exact exec_of_still (hqueue c List.mem_cons_self) hstill

end Steps

/-- Settles O4: the device stays, and what still waits waited before. -/
theorem frozenDeviceStaysFrozen : Obligations.FrozenDeviceStaysFrozen := by
  intro s t hfrozen hstep
  obtain ⟨hstill, hqueue⟩ := State.frozen_iff.mp hfrozen
  cases (step_of_frozen hfrozen).symm.trans hstep
  exact ⟨State.frozen_iff.mpr ⟨hstill, fun c hc => hqueue c (List.mem_of_mem_tail hc)⟩, rfl⟩

/-- Settles O3: a command taken in Run only changes the device or nothing, and so does one that is taken outside Run. -/
theorem everyCommandAnswersANextState : Obligations.EveryCommandAnswersANextState := by
  intro c s
  cases hc : keeperTakes c
  case false =>
    obtain ⟨d, hd⟩ := exec_of_inRun hc s
    exact ⟨_, hd⟩
  case true => exact exec_of_keeper hc s

/-- Settles O1: a step runs the command at the front. -/
theorem stepRunsFrontCommand : Obligations.StepRunsFrontCommand := by
  intro s c rest hqueue
  simp only [step, hqueue]

/-- Settles O2: an idle step is one tick, which outside Run changes nothing. -/
theorem idleStepOnlyAdvancesTime : Obligations.IdleStepOnlyAdvancesTime := by
  intro s hidle
  have htick : step s = s.next s.dev.tick := by
    obtain ⟨d, pending⟩ := s
    cases hidle
    rfl
  refine ⟨fun hacts => htick.trans ?_, fun hstill => htick.trans ?_⟩
  · rw [Dev.tick, if_pos hacts]
  · rw [Dev.tick, if_neg (Bool.eq_false_iff.mp hstill)]

end Sys2Proof.Machine

/-! Admin commands (R379 to R381): what becomes of one that may not run, and of one whose buffer is read. -/

namespace Sys2Proof.Machine

section AdminForm

variable {d : Dev} {pf idx op : Nat} {c : AdminCmd}

/-- R379: no command stands at the ring index. -/
theorem Dev.admRun_of_absent (h : d.admin.filter (fun x => x.pf = pf && x.idx = idx) = []) (f : AdminCmd → Dev → Dev) :
    d.admRun pf idx op f = d := by
  have hfind : d.admin.find? (fun x => x.pf = pf && x.idx = idx) = none := by rw [← List.head?_filter, h, List.head?_nil]
  simp only [Dev.admRun, hfind]

section Waiting

variable (hw : d.admWaits pf idx c = true) (hop : c.op = op)
include hw hop

/-- R379, R380: a malformed entry. -/
theorem Dev.admRun_of_malformed (hbad : c.wellFormed = false) (f : AdminCmd → Dev → Dev) :
    d.admRun pf idx op f = d.admEnd pf idx Sc.malformed 0 := by
  obtain ⟨-, hstart, hdone, hmay⟩ := Dev.admWaits_iff.mp hw
  simp [Dev.admRun, Dev.find_admin_of_waits hw, hop, hstart, hdone, hmay, hbad]

/-- R381: an opcode that runs only while an image does. -/
theorem Dev.admRun_of_bare (hform : c.wellFormed = true) (hbare : d.bareState = true) (hno : op ∉ bareOps)
    (f : AdminCmd → Dev → Dev) : d.admRun pf idx op f = d.admEnd pf idx 0x25 0 := by
  obtain ⟨-, hstart, hdone, hmay⟩ := Dev.admWaits_iff.mp hw
  simp [Dev.admRun, Dev.find_admin_of_waits hw, hop, hstart, hdone, hmay, hform, hbare, hno]

end Waiting

/-- R381: no image runs. -/
theorem Dev.bareState_of_noImage (h2 : d.imgState ≠ 2) (h4 : d.imgState ≠ 4) : d.bareState = true := by
  simp [Dev.bareState, h2, h4]

/-- R380: a command whose buffer cannot be read. -/
theorem Dev.admIn_of_unread (h : d.admReady pf idx op c = true) (f : AdminCmd → List Byte → Dev → Dev) :
    d.admIn pf idx op none f = (d.admStart pf idx).admEnd pf idx Sc.busError 0 := by
  rw [Dev.admIn, Dev.admRun_of_ready h]

/-- R380: a command whose buffer has been read. -/
theorem Dev.admIn_of_read (h : d.admReady pf idx op c = true) (bs : List Byte) (f : AdminCmd → List Byte → Dev → Dev) :
    d.admIn pf idx op (some bs) f = f c (sliceBytes bs 0 c.len) (d.admStart pf idx) := by
  rw [Dev.admIn, Dev.admRun_of_ready h]

/-- R379: nothing at the ring index of function `pf` has started: no command of its there goes on. -/
def Dev.admFresh (d : Dev) (pf idx : Nat) : Prop := ∀ x ∈ d.admin, x.pf = pf → x.idx = idx → x.started = false

theorem Dev.admFresh_of_absent (h : d.admin.filter (fun x => x.pf = pf && x.idx = idx) = []) : d.admFresh pf idx := by
  intro x hx hpf hidx
  have := List.filter_eq_nil_iff.mp h x hx
  simp [hpf, hidx] at this

theorem Dev.admFresh_of_waits (h : d.admWaits pf idx c = true) : d.admFresh pf idx := by
  obtain ⟨halone, hstart, -, -⟩ := Dev.admWaits_iff.mp h
  intro x hx hpf hidx
  have hmem : x ∈ d.admin.filter (fun x => x.pf = pf && x.idx = idx) := List.mem_filter.mpr ⟨hx, by simp [hpf, hidx]⟩
  rw [halone, List.mem_singleton] at hmem
  exact hmem ▸ hstart

/-- R379: no command there goes on. -/
theorem Dev.find_started_of_fresh (h : d.admFresh pf idx) (p : AdminCmd → Bool) :
    d.admin.find? (fun x => x.pf = pf && x.idx = idx && x.op = op && x.started && p x) = none := by
  rw [List.find?_eq_none]
  intro x hx hfound
  simp only [Bool.and_eq_true, decide_eq_true_eq] at hfound
  obtain ⟨⟨⟨⟨hpf, hidx⟩, -⟩, hstart⟩, -⟩ := hfound
  simp [h x hx hpf hidx] at hstart

/-- R373, R374: a command that stops a queue runs as every admin command where it has not started before. -/
theorem Dev.stopQueue_of_fresh (h : d.admFresh pf idx) (ents : List (Option (List Word))) (ok : List Nat)
    (refuse : Dev → Nat → Bool) (fin : Nat → Dev → Dev) :
    d.stopQueue pf idx op ents ok refuse fin = d.admRun pf idx op (fun a d =>
      let st := d.queueStatus pf (a.arg % 2 ^ 18) ok
      if st ≠ Sc.ok then d.admEnd pf idx st 0
      else if refuse d (a.arg % 2 ^ 18) then d.admEnd pf idx 0x24 0
      else
        let (d, n) := d.abortQueue (a.arg % 2 ^ 18) ents
        let d := (d.setQf (a.arg % 2 ^ 18) Qctx.STATE qQuiesced).touch 4 (a.arg % 2 ^ 18)
        if (((d.qst (a.arg % 2 ^ 18)).map QSt.jobs).getD []).isEmpty then (fin (a.arg % 2 ^ 18) d).admEnd pf idx Sc.ok n
        else d.setAdm pf idx (fun (c : AdminCmd) => { c with count := n })) := by
  simp only [Dev.stopQueue, Dev.find_started_of_fresh h]

/-- R338: and so does MW_DESTROY. -/
theorem mwDestroy_of_fresh (h : d.admFresh pf idx) : ∃ f, mwDestroy pf idx d = d.admRun pf idx 0x030B f := by
  simp only [mwDestroy, Dev.find_started_of_fresh h]
  exact ⟨_, rfl⟩

/-- R60: and so does IMAGE_APPLY. -/
theorem imageApply_of_fresh (h : d.admFresh pf idx) : ∃ f, imageApply pf idx d = d.admRun pf idx 0x0602 f := by
  have hbegun : d.admin.any (fun x => x.pf = pf && x.idx = idx && x.started) = false := by
    rw [List.any_eq_false]
    intro x hx hfound
    simp only [Bool.and_eq_true, decide_eq_true_eq] at hfound
    obtain ⟨⟨hpf, hidx⟩, hstart⟩ := hfound
    simp [h x hx hpf hidx] at hstart
  have hwaits : d.img.waits.filter (fun _ => false) = none := by cases d.img.waits <;> rfl
  simp only [imageApply, hbegun, Bool.false_and, hwaits]
  exact ⟨_, rfl⟩

end AdminForm

/-- R379 to R381: each admin command runs as `Dev.admRun` says, where none at its ring index has started. -/
theorem exec_adminOp {i : Instr} {op pf idx : Nat} (hi : adminOp i = some (op, pf, idx)) {s : State} (hacts : s.dev.acts = true)
    (hfresh : s.dev.admFresh pf idx) : ∃ f : AdminCmd → Dev → Dev, exec i s = s.next (s.dev.admRun pf idx op f) := by
  have hread (op : Nat) (data : Option (List Byte)) (g : AdminCmd → List Byte → Dev → Dev) :
      ∃ f, s.run (fun d => d.admIn pf idx op data g) = s.next (s.dev.admRun pf idx op f) :=
    ⟨fun c d => match data with
      | none => d.admEnd pf idx Sc.busError 0
      | some bs => g c (sliceBytes bs 0 c.len) d, s.run_acts _ hacts⟩
  cases i <;> simp only [adminOp, Option.some.injEq, Prod.mk.injEq, reduceCtorEq] at hi <;> obtain ⟨rfl, rfl, rfl⟩ := hi
  case connCreate | connModify | sessionCreate | nsCreate | backendWrite | extentWrite | sliceCreate | sliceModify |
    sliceRestore | allowWrite | mwCreate | createQueue | eqCreate | relayJoin => exact hread _ _ _
  case quiesceQueue => exact ⟨_, State.run_acts_eq hacts (Dev.stopQueue_of_fresh hfresh ..)⟩
  case destroyQueue => exact ⟨_, State.run_acts_eq hacts (Dev.stopQueue_of_fresh hfresh ..)⟩
  case mwDestroy =>
    obtain ⟨f, hf⟩ := mwDestroy_of_fresh hfresh
    exact ⟨f, State.run_acts_eq hacts hf⟩
  case imageApply =>
    obtain ⟨f, hf⟩ := imageApply_of_fresh hfresh
    exact ⟨f, State.run_acts_eq hacts hf⟩
  all_goals exact ⟨_, s.run_acts _ hacts⟩

/-- R500: an operation of RELAY_OP runs as `Dev.admRun` says, where the command is of its kind. -/
theorem Dev.rlOp_of_kind {d : Dev} {pf idx kind : Nat} {c : AdminCmd} (hw : d.admWaits pf idx c = true) (hkind : c.arg % 16 = kind)
    (data : Option (List Byte)) (f : RlOp → Dev → Dev) :
    ∃ g, d.rlOp pf idx kind data f = d.admRun pf idx 0x0803 g := by
  simp only [Dev.rlOp, Dev.find_admin_of_waits hw, hkind, ne_eq, not_true, decide_false, Bool.false_and,
    Bool.false_eq_true, if_false]
  exact ⟨_, rfl⟩

/-- R500: the command of a RELAY_OP of kind `kind`. -/
theorem exec_relayOpKind {i : Instr} {kind pf idx : Nat} (hi : relayOpKind i = some (kind, pf, idx)) {s : State}
    (hacts : s.dev.acts = true) {c : AdminCmd} (hw : s.dev.admWaits pf idx c = true) (hkind : c.arg % 16 = kind) :
    ∃ f : AdminCmd → Dev → Dev, exec i s = s.next (s.dev.admRun pf idx 0x0803 f) := by
  have hrun (data : Option (List Byte)) (f : RlOp → Dev → Dev) :
      ∃ g, s.run (fun d => d.rlOp pf idx kind data f) = s.next (s.dev.admRun pf idx 0x0803 g) := by
    obtain ⟨g, hg⟩ := Dev.rlOp_of_kind hw hkind data f
    exact ⟨g, State.run_acts_eq hacts hg⟩
  cases i <;> simp only [relayOpKind, Option.some.injEq, Prod.mk.injEq, reduceCtorEq] at hi <;> obtain ⟨rfl, rfl, rfl⟩ := hi
  case barrier => exact hrun none _
  case broadcast => exact hrun _ _
  case snapshot => exact hrun none _
  case domainReset => exact hrun none _

/-- Settles O11: each admin command runs as `Dev.admRun` says, which looks at the entry and the device state first. -/
theorem adminCommandsRefusedByFormAndDeviceState : Obligations.AdminCommandsRefusedByFormAndDeviceState := by
  intro s i op pf idx hacts
  refine ⟨fun hi => ⟨?absent, ?malformed, ?bare⟩, ?relay, ?nop⟩
  case absent =>
    intro habsent
    obtain ⟨f, hf⟩ := exec_adminOp hi hacts (Dev.admFresh_of_absent habsent)
    rw [hf, Dev.admRun_of_absent habsent]
  case malformed =>
    intro c hw hop hbad
    obtain ⟨f, hf⟩ := exec_adminOp hi hacts (Dev.admFresh_of_waits hw)
    rw [hf, Dev.admRun_of_malformed hw hop hbad]
  case bare =>
    intro c hw hop hform h2 h4 hno
    obtain ⟨f, hf⟩ := exec_adminOp hi hacts (Dev.admFresh_of_waits hw)
    rw [hf, Dev.admRun_of_bare hw hop hform (Dev.bareState_of_noImage h2 h4) hno]
  case relay =>
    intro hi c hw hop hkind hform h2 h4
    obtain ⟨f, hf⟩ := exec_relayOpKind hi hacts hw hkind
    rw [hf, Dev.admRun_of_bare hw hop hform (Dev.bareState_of_noImage h2 h4) (by decide)]
  case nop =>
    intro c hready
    exact State.run_acts_eq hacts (Dev.admRun_of_ready hready _)

end Sys2Proof.Machine

/-! The image commands and the steps of a patch (R53, R57 to R60, R62, R63, R65). -/

namespace Sys2Proof.Machine

section ImageSteps

variable {d : Dev} {pf idx : Nat} {c : AdminCmd}

/-- The start of a command changes nothing that the staged image rests on. -/
@[simp] theorem Dev.stagedImage_admStart (d : Dev) (pf idx : Nat) : (d.admStart pf idx).stagedImage = d.stagedImage := rfl

/-- The start of a command leaves the image's state. -/
@[simp] theorem Dev.img_admStart (d : Dev) (pf idx : Nat) : (d.admStart pf idx).img = d.img := rfl

/-- The start of a command leaves the device state. -/
@[simp] theorem Dev.imgState_admStart (d : Dev) (pf idx : Nat) : (d.admStart pf idx).imgState = d.imgState := rfl

section Stage

variable (hready : d.admReady pf idx 0x0601 c = true) (hfit : c.arg % 2 ^ 26 + c.len ≤ 67108864) (hidle : d.imageBusy = false)
include hready hfit hidle

/-- R60: the bytes of the buffer are staged. -/
theorem imageStage_of_read {e : Dev} {bs : List Byte}
    (he : e = (d.admStart pf idx).writeMem .staging (c.arg % 2 ^ 26) (sliceBytes bs 0 c.len)) :
    imageStage pf idx (some bs) d =
      ({ e with img := { e.img with staged := max e.img.staged (c.arg % 2 ^ 26 + c.len) } } : Dev).admEnd pf idx Sc.ok 0 := by
  subst he
  simp only [imageStage, Dev.admRun_of_ready hready, if_neg (Nat.not_lt.mpr hfit), Dev.imageBusy_admStart, hidle,
    Bool.false_eq_true, if_false]

/-- R60: the buffer cannot be read. -/
theorem imageStage_of_unread : imageStage pf idx none d = (d.admStart pf idx).admEnd pf idx Sc.busError 0 := by
  simp only [imageStage, Dev.admRun_of_ready hready, if_neg (Nat.not_lt.mpr hfit), Dev.imageBusy_admStart, hidle,
    Bool.false_eq_true, if_false]

end Stage

/-- R53, R57: a full image applied on a BARE or RECOVERY device. -/
theorem imageApply_of_full (hready : d.admReady pf idx 0x0602 c = true) (hpatch : d.img.patch = none)
    (hwaits : d.img.waits = none) (hslot : d.img.slotWrite = none) (hbare : d.imgState = 0 ∨ d.imgState = 3)
    (hkind : Image.kind d.stagedImage = 1) : imageApply pf idx d =
      match (d.admStart pf idx).imageCheck d.stagedImage d.img.staged with
      | some f => ((d.admStart pf idx).imgRefuse f 2).admEnd pf idx f.status 0
      | none => ((d.admStart pf idx).loadFull d.stagedImage 2).admEnd pf idx Sc.ok 0 := by
  have hlive : ¬(¬d.imgState = 0 ∧ ¬d.imgState = 3) := by simpa [or_iff_not_imp_left] using hbare
  simp [imageApply, Dev.admRun_of_ready hready, hwaits, hpatch, hslot, hkind, hlive] <;> rfl

/-- R59: a full image for a slot. -/
theorem imageWriteSlot_of_full (hready : d.admReady pf idx 0x0603 c = true) (hidle : d.imageBusy = false)
    (hkind : Image.kind d.stagedImage = 1) : imageWriteSlot pf idx d =
      match (d.admStart pf idx).imageCheck d.stagedImage d.img.staged with
      | some f => ((d.admStart pf idx).imgRefuse f 2).admEnd pf idx f.status 0
      | none => { d.admStart pf idx with img := { d.img with slotWrite := some (c.arg % 2, pf, idx) } } := by
  simp only [imageWriteSlot, Dev.admRun_of_ready hready, Dev.imageBusy_admStart, hidle, Dev.stagedImage_admStart, hkind] <;> rfl

/-- R59: the slot has been erased and programmed. -/
theorem slotWriteDone_of_write {n : Nat} (hslot : d.img.slotWrite = some (n, pf, idx)) (got : List Byte) {e : Dev}
    (he : e = (d.clearMem .flash (fun a => decide (slotFlash n ≤ a) && decide (a < slotFlash n + 67108864))).writeMem .flash
      (slotFlash n) (got.take 67108864)) :
    slotWriteDone (some got) d = ({ e with img := { e.img with slotWrite := none } } : Dev).imgEnd pf idx
      (if Config.sha384 (sliceBytes got 0 d.stagedImage.length) = Config.sha384 d.stagedImage then Sc.ok else Sc.integrity) := by
  subst he
  simp only [slotWriteDone, hslot, Option.getD_some]

section Patch

variable {p : PatchSt} (hpatch : d.img.patch = some p)
include hpatch

/-- R62, R63: a drained patch whose PEs are still in the pool. -/
theorem patchSwap_of_drained (hphase : p.phase = .drain) (hdrained : d.drained p.target = true)
    (hpool : (d.patchPes p.target (hrecsOf (sectionsOf p.image))).1.all
      (fun u => (d.members (d.patchPool p.target)).contains u) = true) : patchSwap d = d.patchBuild p := by
  simp only [patchSwap, hpatch, hphase, hdrained, hpool, if_true] <;> rfl

/-- R65: a patch whose drain takes too long. -/
theorem patchDrainTimeout_of_draining (hphase : p.phase = .drain) : patchDrainTimeout d = d.patchEnd Sc.patchDrain := by
  simp only [patchDrainTimeout, hpatch, hphase, if_true]

/-- R63: a patch that has swapped. -/
theorem patchResume_of_swapped (hphase : p.phase = .swap) : Machine.patchResume d = d.patchResume p := by
  simp only [Machine.patchResume, hpatch, hphase, if_true]

end Patch

end ImageSteps

/-- Settles O14: each clause is the equation of its command. -/
theorem imageCommandsAndPatchSteps : Obligations.ImageCommandsAndPatchSteps := by
  intro s hacts
  refine ⟨fun pf idx c bs hready hfit hidle => ⟨?_, ?_⟩, ?apply, ?writeSlot, ?slotDone, ?patch⟩
  · exact State.run_acts_eq hacts (imageStage_of_read hready hfit hidle rfl)
  · exact State.run_acts_eq hacts (imageStage_of_unread hready hfit hidle)
  case apply =>
    intro pf idx c hready hpatch hwaits hslot hbare hkind
    exact State.run_acts_eq hacts (imageApply_of_full hready hpatch hwaits hslot hbare hkind)
  case writeSlot =>
    intro pf idx c hready hidle hkind
    exact State.run_acts_eq hacts (imageWriteSlot_of_full hready hidle hkind)
  case slotDone =>
    intro n pf idx got hslot
    exact State.run_acts_eq hacts (slotWriteDone_of_write hslot got rfl)
  case patch =>
    intro p hpatch
    exact ⟨fun hphase hdrained hpool => State.run_acts_eq hacts
        (f := fun d => (Machine.patchSwap d).finishDoomed)
        (congrArg Dev.finishDoomed (patchSwap_of_drained hpatch hphase hdrained hpool)),
      fun hphase => State.run_acts_eq hacts (f := fun d => (Machine.patchDrainTimeout d).finishDoomed)
        (congrArg Dev.finishDoomed (patchDrainTimeout_of_draining hpatch hphase)),
      fun hphase => State.run_acts_eq hacts (f := fun d => (Machine.patchResume d).finishDoomed)
        (congrArg Dev.finishDoomed (patchResume_of_swapped hpatch hphase))⟩

end Sys2Proof.Machine

/-! The admin queue (R308, R309, R318, R355, R366, R375, R377 to R380): what its commands leave. -/

namespace Sys2Proof.Machine

section AdminQueue

variable {d : Dev} {pf : Nat}

/-! ### AQ_CFG -/

/-- R377, R378: the device once a write of AQ_CFG has stored its sizes and its event queue. -/
def Dev.aqSized (d : Dev) (pf : Nat) (v : Word) : Dev :=
  let u := epId pf
  let open_ := !d.on u Ep.AQ_CFG_ENABLE && !d.on u Ep.AQ_STATUS_BUSY
  let d := if open_ && decide (6 ≤ getBits v 4 4) && decide (getBits v 4 4 ≤ 12) then
    d.s u Ep.AQ_CFG_WQ_SIZE_LOG2 (getBits v 4 4) else d
  let d := if open_ && decide (d.g u Ep.AQ_CFG_WQ_SIZE_LOG2 ≤ getBits v 8 4) && decide (getBits v 8 4 ≤ 12) then
    d.s u Ep.AQ_CFG_CQ_SIZE_LOG2 (getBits v 8 4) else d
  (d.s u Ep.AQ_CFG_EQ (getBits v 12 10)).s u Ep.AQ_CFG_EQ_EN (getBits v 22 1)

/-- R377: the sizes and the event queue are apart from ENABLE. -/
theorem Dev.aqSized_enable (d : Dev) (pf : Nat) (v : Word) :
    (d.aqSized pf v).g (epId pf) Ep.AQ_CFG_ENABLE = d.g (epId pf) Ep.AQ_CFG_ENABLE := by
  simp only [Dev.aqSized]
  split <;> split <;> simp (disch := decide) only [Dev.g_s_field]

/-- R378: the queue `pf` of a device starts afresh. -/
def Dev.aqFresh (d : Dev) (pf : Nat) : Dev :=
  ((((((d.s (epId pf) Ep.AQ_STATUS_HEAD 0).s (epId pf) Ep.AQ_CQ_POS_POS 0).s (epId pf) Ep.AQ_STATUS_HEAD_PHASE 1).s (epId pf)
    Ep.AQ_CQ_POS_PHASE 1).s (epId pf) Ep.AQ_STATUS_QERR_CODE 0).s (epId pf) Ep.AQ_STATUS_QERR_INDEX 0).s (epId pf)
    Ep.AQ_STATUS_STATE 1

/-- R378: a write that sets ENABLE from 0 starts the queue afresh. -/
theorem Dev.putAqCfg_of_enable {v : Word} (hoff : d.on (epId pf) Ep.AQ_CFG_ENABLE = false) (hset : getBits v 0 1 = 1) :
    d.putAqCfg pf v = ((d.aqSized pf v).s (epId pf) Ep.AQ_CFG_ENABLE 1).aqFresh pf := by
  have hwas : (d.aqSized pf v).on (epId pf) Ep.AQ_CFG_ENABLE = false := by
    rw [Dev.on, Dev.aqSized_enable]
    exact hoff
  have hnow : ((d.aqSized pf v).s (epId pf) Ep.AQ_CFG_ENABLE 1).on (epId pf) Ep.AQ_CFG_ENABLE = true := by
    simp (disch := decide) only [Dev.on, Dev.g_s_same]
    decide
  have hput : d.putAqCfg pf v =
      if !(d.aqSized pf v).on (epId pf) Ep.AQ_CFG_ENABLE &&
          ((d.aqSized pf v).s (epId pf) Ep.AQ_CFG_ENABLE (getBits v 0 1)).on (epId pf) Ep.AQ_CFG_ENABLE then
        ((d.aqSized pf v).s (epId pf) Ep.AQ_CFG_ENABLE (getBits v 0 1)).aqFresh pf
      else ((d.aqSized pf v).s (epId pf) Ep.AQ_CFG_ENABLE (getBits v 0 1)).syncAq pf := rfl
  rw [hput, hset, hwas, hnow]
  rfl

/-- R377, R378: what the queue reads as where it starts afresh. -/
theorem Dev.aqFresh_reads (d : Dev) (pf : Nat) :
    (d.aqFresh pf).g (epId pf) Ep.AQ_STATUS_STATE = 1 ∧ (d.aqFresh pf).g (epId pf) Ep.AQ_STATUS_HEAD = 0 ∧
    (d.aqFresh pf).g (epId pf) Ep.AQ_CQ_POS_POS = 0 ∧ (d.aqFresh pf).g (epId pf) Ep.AQ_STATUS_HEAD_PHASE = 1 ∧
    (d.aqFresh pf).g (epId pf) Ep.AQ_CQ_POS_PHASE = 1 ∧ (d.aqFresh pf).g (epId pf) Ep.AQ_STATUS_QERR_CODE = 0 ∧
    (d.aqFresh pf).g (epId pf) Ep.AQ_CFG_ENABLE = d.g (epId pf) Ep.AQ_CFG_ENABLE := by
  simp (disch := decide) only [Dev.aqFresh, Dev.g_s_field, Dev.g_s_same]
  decide

/-! ### The fields that show what is in flight -/

/-- R377: IN_FLIGHT, BUSY and STATE are apart from `f`. -/
theorem Dev.g_syncAq (d : Dev) (pf : Nat) {f : Fld}
    (h : f.off ≠ Ep.AQ_STATUS_HEAD.off ∨ 8 ≤ f.lo) : (d.syncAq pf).g (epId pf) f = d.g (epId pf) f := by
  have hstate : f.off ≠ Ep.AQ_STATUS_STATE.off ∨ f.lo + f.w ≤ Ep.AQ_STATUS_STATE.lo ∨
      Ep.AQ_STATUS_STATE.lo + Ep.AQ_STATUS_STATE.w ≤ f.lo := h.imp id (fun h => .inr (le_trans (by decide) h))
  have hbusy : f.off ≠ Ep.AQ_STATUS_BUSY.off ∨ f.lo + f.w ≤ Ep.AQ_STATUS_BUSY.lo ∨
      Ep.AQ_STATUS_BUSY.lo + Ep.AQ_STATUS_BUSY.w ≤ f.lo := h.imp id (fun h => .inr (le_trans (by decide) h))
  have hflight : f.off ≠ Ep.AQ_STATUS_IN_FLIGHT.off ∨ f.lo + f.w ≤ Ep.AQ_STATUS_IN_FLIGHT.lo ∨
      Ep.AQ_STATUS_IN_FLIGHT.lo + Ep.AQ_STATUS_IN_FLIGHT.w ≤ f.lo := h.imp id (fun h => .inr (le_trans (by decide) h))
  have hshown (n b : Nat) : ((d.s (epId pf) Ep.AQ_STATUS_IN_FLIGHT n).s (epId pf) Ep.AQ_STATUS_BUSY b).g (epId pf) f =
      d.g (epId pf) f := by rw [Dev.g_s_field _ _ _ _ _ hbusy, Dev.g_s_field _ _ _ _ _ hflight]
  rw [Dev.syncAq, apply_ite (fun x : Dev => x.g (epId pf) f), Dev.g_s_field _ _ _ _ _ hstate, hshown, ite_self]

/-- R377: they are no part of the list of commands. -/
@[simp] theorem Dev.syncAq_admin (d : Dev) (pf : Nat) : (d.syncAq pf).admin = d.admin := by
  rw [Dev.syncAq, apply_ite Dev.admin]
  simp only [Dev.s_admin, ite_self]

@[simp] theorem Dev.syncAq_out (d : Dev) (pf : Nat) : (d.syncAq pf).out = d.out := by
  rw [Dev.syncAq, apply_ite Dev.out]
  simp only [Dev.s_out, ite_self]

/-- A position modulo a ring size of at most 2^15 fits in 16 bits. -/
theorem Dev.ringPos_lt (d : Dev) (u p : Nat) (f : Fld) (h : f.w = 4) : p % 2 ^ d.g u f < 2 ^ 16 := by
  have hlog : d.g u f < 2 ^ 4 := h ▸ d.g_lt u f
  have hsize : 2 ^ d.g u f ≤ 2 ^ 15 := Nat.pow_le_pow_right (by decide) (by omega)
  have := Nat.mod_lt p (Nat.two_pow_pos (d.g u f))
  omega

/-! ### ADMIN_SCAN -/

/-- R355, R357: an owned entry without error whose job it ends is one job. -/
theorem scanJobs_of_single {sz pos ph : Nat} {e : List Word} (hphase : wget e Went.PHASE = ph)
    (herr : entryErr 0 true e = none) (hlast : wget e Went.L = 1) : scanJobs 0 sz [some e] pos ph [] pos =
      ([{ idx := pos, ents := [e], moved := 0, granted := false, grant := none, result := none }], none) := by
  simp [scanJobs, hphase, herr, hlast]

/-- R379: the command that `e`, the entry at HEAD, spells. -/
def Dev.admNext (d : Dev) (pf : Nat) (e : List Word) : AdminCmd :=
  { pf := pf, idx := d.g (epId pf) Ep.AQ_STATUS_HEAD, ent := e, started := false, count := 0, done := none }

section Take

variable {e : List Word} {j : Job} (hents : j.ents = [e]) (hidx : j.idx = d.g (epId pf) Ep.AQ_STATUS_HEAD)
include hents

/-- R379: a job of one entry with a known opcode is put in flight. -/
theorem Dev.admTake_admin (hop : (adminRow (wget e Adm.OPCODE)).isSome = true) (hidx : j.idx = d.g (epId pf) Ep.AQ_STATUS_HEAD) :
    (d.admTake pf j).admin = d.admin ++ [d.admNext pf e] := by
  simp [Dev.admTake, Dev.admNext, hents, hidx, Option.isNone_eq_false_iff.mpr hop]

/-- R379: HEAD moves over its entry. -/
theorem Dev.admTake_head : (d.admTake pf j).g (epId pf) Ep.AQ_STATUS_HEAD =
    (d.g (epId pf) Ep.AQ_STATUS_HEAD + 1) % 2 ^ d.g (epId pf) Ep.AQ_CFG_WQ_SIZE_LOG2 := by
  have hregs : (d.admTake pf j).regs = ((d.s (epId pf) Ep.AQ_STATUS_HEAD ((d.g (epId pf) Ep.AQ_STATUS_HEAD + 1) %
      2 ^ d.g (epId pf) Ep.AQ_CFG_WQ_SIZE_LOG2)).s (epId pf) Ep.AQ_STATUS_HEAD_PHASE
        (((d.s (epId pf) Ep.AQ_STATUS_HEAD ((d.g (epId pf) Ep.AQ_STATUS_HEAD + 1) %
          2 ^ d.g (epId pf) Ep.AQ_CFG_WQ_SIZE_LOG2)).g (epId pf) Ep.AQ_STATUS_HEAD_PHASE +
            (d.g (epId pf) Ep.AQ_STATUS_HEAD + 1) / 2 ^ d.g (epId pf) Ep.AQ_CFG_WQ_SIZE_LOG2) % 2)).regs := by
    simp only [Dev.admTake, hents, List.length_singleton]
  rw [Dev.g_congr hregs, Dev.g_s_field _ _ _ _ _ (by decide), Dev.g_s_same _ _ _ _ (by decide)]
  exact Nat.mod_eq_of_lt (Dev.ringPos_lt _ _ _ _ rfl)

end Take

/-- R355: the ring of function `pf` is done. -/
def Dev.aqScanned (d : Dev) (pf : Nat) : Dev :=
  { d with aqRung := if pf = 0 then (false, d.aqRung.2) else (d.aqRung.1, false) }

/-- R355: a ring is no register and no command. -/
theorem Dev.aqScanned_regs (d : Dev) (pf : Nat) : (d.aqScanned pf).regs = d.regs := rfl
theorem Dev.aqScanned_admin (d : Dev) (pf : Nat) : (d.aqScanned pf).admin = d.admin := rfl

/-- R378: a queue that is not enabled takes nothing. -/
theorem adminScan_of_disabled (hoff : d.on (epId pf) Ep.AQ_CFG_ENABLE = false) (ents : List (Option (List Word))) :
    adminScan pf ents d = d := by
  simp [adminScan, hoff]

/-- R355, R378, R379: the command at HEAD of a queue with none in flight is taken, and the ring is done. -/
theorem adminScan_of_single {e : List Word} (hrung : (if pf = 0 then d.aqRung.1 else d.aqRung.2) = true)
    (hon : d.on (epId pf) Ep.AQ_CFG_ENABLE = true) (hstate : d.g (epId pf) Ep.AQ_STATUS_STATE = 1) (hquiet : d.quiet pf = false)
    (hnone : d.admin.filter (fun c => c.pf = pf) = [])
    (hphase : wget e Went.PHASE = d.g (epId pf) Ep.AQ_STATUS_HEAD_PHASE) (herr : entryErr 0 true e = none)
    (hlast : wget e Went.L = 1) {f : Dev} (hf : f = d.admTake pf { idx := d.g (epId pf) Ep.AQ_STATUS_HEAD, ents := [e], moved := 0
                                                                   granted := false, grant := none, result := none }) :
    adminScan pf [some e] d = (f.aqScanned pf).syncAq pf := by
  have hring : [some e].take (2 ^ d.g (epId pf) Ep.AQ_CFG_WQ_SIZE_LOG2) = [some e] :=
    List.take_of_length_le (Nat.one_le_two_pow)
  subst hf
  simp [adminScan, hrung, hon, hstate, hquiet, hnone, hring, scanJobs_of_single hphase herr hlast, Dev.aqScanned]

/-! ### ADMIN_COMPLETION -/

/-- R308: a write of at most 128 bytes is one memory write. -/
theorem Dev.hostTlps_of_short {data : List Byte} (h : data.length < 128) (ro : Bool) (pasid : Option Nat) (addr : Nat) :
    d.hostTlps ro pf pasid addr data = [.hostWrite pf pasid addr ro data] := by
  have hpieces : data.length / 128 = 0 := Nat.div_eq_of_lt h
  simp [Dev.hostTlps, hpieces, pieces]

/-- R309: a function that is not quiet and holds no writes sends them at once. -/
theorem Dev.hostOut_of_open (hquiet : d.quiet pf = false) (hheld : (d.ep pf).heldWrites = []) (os : List Out) :
    d.hostOut pf os = d.emits os := by
  simp [Dev.hostOut, hquiet, hheld]

/-- R366: a completion is 16 bytes. -/
theorem ofWords_length (ws : List Word) : (ofWords ws).length = 8 * ws.length := by
  induction ws with
  | nil => rfl
  | cons w ws ih => simp [ofWords, List.flatMap_cons] at ih ⊢; omega

/-- R366, R377: the completion of the finished command `c` at its position, phase and all. -/
def Dev.admCpl (d : Dev) (pf idx st res : Nat) (c : AdminCmd) : List Byte :=
  ofWords [(mkCpl (wget c.ent Went.WR_TAG) 0 1 st res idx 0).w0,
    putBits (mkCpl (wget c.ent Went.WR_TAG) 0 1 st res idx 0).w1 63 1 (d.g (epId pf) Ep.AQ_CQ_POS_PHASE)]

/-- R377: the completion position moves on by one entry; its phase turns at the end of the ring. -/
def Dev.admAdvance (d : Dev) (pf : Nat) : Dev :=
  let pos := d.g (epId pf) Ep.AQ_CQ_POS_POS
  let sz := 2 ^ d.g (epId pf) Ep.AQ_CFG_CQ_SIZE_LOG2
  let e := d.s (epId pf) Ep.AQ_CQ_POS_POS ((pos + 1) % sz)
  if pos + 1 = sz then e.s (epId pf) Ep.AQ_CQ_POS_PHASE (1 - e.g (epId pf) Ep.AQ_CQ_POS_PHASE) else e

@[simp] theorem Dev.admAdvance_out (d : Dev) (pf : Nat) : (d.admAdvance pf).out = d.out := by
  simp only [Dev.admAdvance]
  split <;> simp

@[simp] theorem Dev.admAdvance_admin (d : Dev) (pf : Nat) : (d.admAdvance pf).admin = d.admin := by
  simp only [Dev.admAdvance]
  split <;> simp

/-- R377: AQ_CFG is apart from the position. -/
theorem Dev.admAdvance_eqEn (d : Dev) (pf : Nat) :
    (d.admAdvance pf).g (epId pf) Ep.AQ_CFG_EQ_EN = d.g (epId pf) Ep.AQ_CFG_EQ_EN := by
  simp only [Dev.admAdvance]
  split <;> simp (disch := decide) only [Dev.g_s_field]

theorem Dev.admAdvance_pos (d : Dev) (pf : Nat) : (d.admAdvance pf).g (epId pf) Ep.AQ_CQ_POS_POS =
    (d.g (epId pf) Ep.AQ_CQ_POS_POS + 1) % 2 ^ d.g (epId pf) Ep.AQ_CFG_CQ_SIZE_LOG2 := by
  have hfits := Nat.mod_eq_of_lt (d.ringPos_lt (epId pf) (d.g (epId pf) Ep.AQ_CQ_POS_POS + 1) Ep.AQ_CFG_CQ_SIZE_LOG2 rfl)
  simp only [Dev.admAdvance]
  split
  · rw [Dev.g_s_field _ _ _ _ _ (by decide), Dev.g_s_same _ _ _ _ (by decide)]
    exact hfits
  · rw [Dev.g_s_same _ _ _ _ (by decide)]
    exact hfits

/-- R366, R377, R379: the completion is written, the position moves on, and the command is gone. -/
theorem adminCompletion_of_done {idx st res : Nat} {c : AdminCmd}
    (hfind : d.admin.find? (fun c => c.pf = pf && c.idx = idx) = some c) (hdone : c.done = some (st, res))
    (hquiet : d.quiet pf = false) (hheld : (d.ep pf).heldWrites = []) (hev : d.on (epId pf) Ep.AQ_CFG_EQ_EN = false) {e : Dev}
    (he : e = (d.emit (.hostWrite pf none (d.g (epId pf) Ep.AQ_CQ_BASE_ADDR * 4096 + 16 * d.g (epId pf) Ep.AQ_CQ_POS_POS) false
      (d.admCpl pf idx st res c))).admAdvance pf) : adminCompletion pf idx d =
        ({ e with admin := e.admin.filter (fun c => !(c.pf = pf && c.idx = idx)) } : Dev).syncAq pf := by
  have hwrite : d.hostPut pf none (d.g (epId pf) Ep.AQ_CQ_BASE_ADDR * 4096 + 16 * d.g (epId pf) Ep.AQ_CQ_POS_POS)
      (d.admCpl pf idx st res c) = d.emit (.hostWrite pf none (d.g (epId pf) Ep.AQ_CQ_BASE_ADDR * 4096 +
        16 * d.g (epId pf) Ep.AQ_CQ_POS_POS) false (d.admCpl pf idx st res c)) := by
    have hshort : (d.admCpl pf idx st res c).length < 128 := by simp [Dev.admCpl, ofWords_length]
    rw [Dev.hostPut, Dev.hostPutAs, Dev.hostTlps_of_short hshort, Dev.hostOut_of_open hquiet hheld]
    rfl
  have hoff : ¬(({ e with admin := e.admin.filter (fun c => !(c.pf = pf && c.idx = idx)) } : Dev).syncAq pf).on (epId pf)
      Ep.AQ_CFG_EQ_EN = true := by
    have hregs : ({ e with admin := e.admin.filter (fun c => !(c.pf = pf && c.idx = idx)) } : Dev).regs = e.regs := rfl
    rw [Dev.on, Dev.g_syncAq _ _ (.inl (by decide)), Dev.g_congr hregs, he, Dev.admAdvance_eqEn, Dev.g_emit]
    exact Bool.eq_false_iff.mp hev
  simp only [adminCompletion, hfind, hdone]
  rw [← Dev.admCpl, hwrite]
  subst he
  exact if_neg hoff

end AdminQueue

/-- Settles O12: each clause is the equation of its command, and what the fields of the admin queue read as after it. -/
theorem adminQueueTakesAndCompletes : Obligations.AdminQueueTakesAndCompletes := by
  intro s pf hacts
  refine ⟨?enable, ?scan, fun ents hoff => State.run_acts_eq hacts (adminScan_of_disabled hoff ents), ?complete, ?qctl⟩
  case enable =>
    intro v hoff hset
    have hput := s.dev.putAqCfg_of_enable (pf := pf) hoff hset
    obtain ⟨hstate, hhead, hpos, hphase, hcphase, hcode, hon⟩ :=
      Dev.aqFresh_reads ((s.dev.aqSized pf v).s (epId pf) Ep.AQ_CFG_ENABLE 1) pf
    refine ⟨_, s.run_acts (aqCfg pf v) hacts, ?_⟩
    simp only [aqCfg, Dev.tellLtr_g, hput]
    exact ⟨hstate, hhead, hpos, hphase, hcphase, hcode, hon.trans (Dev.g_s_same _ _ _ _ (by decide))⟩
  case scan =>
    intro e hrung hon hstate hquiet hnone hphase herr hlast hop
    refine ⟨_, State.run_acts_eq hacts (adminScan_of_single hrung hon hstate hquiet hnone hphase herr hlast rfl), ?_, ?_⟩
    · rw [Dev.syncAq_admin, Dev.aqScanned_admin]
      exact Dev.admTake_admin rfl hop rfl
    · rw [Dev.g_syncAq _ _ (.inr (by decide)), Dev.g_congr (Dev.aqScanned_regs _ pf)]
      exact Dev.admTake_head rfl
  case complete =>
    intro idx st res c hfind hdone hquiet hheld hev
    refine ⟨_, State.run_acts_eq hacts (adminCompletion_of_done hfind hdone hquiet hheld hev rfl), ?_, ?_, ?_⟩
    · rw [Dev.syncAq_admin, Dev.admAdvance_admin]
      rfl
    · refine ⟨s.dev.admCpl pf idx st res c, ?_, by simp [Dev.admCpl, ofWords_length]⟩
      rw [Dev.syncAq_out]
      exact Dev.admAdvance_out _ pf
    · rw [Dev.g_syncAq _ _ (.inl (by decide))]
      exact (Dev.admAdvance_pos _ pf).trans (by simp only [Dev.g_emit])
  case qctl =>
    intro en q hq
    exact State.run_acts_eq hacts (by simp only [qctl, hq])

end Sys2Proof.Machine

/-! The storage admin commands (R288, R293 to R295, R299, R380): what each does to the device `d` on which it has started. -/

namespace Sys2Proof.Machine

section StorageAdmin

variable {d₀ d : Dev} {pf idx : Nat} {c : AdminCmd} (hd : d = d₀.admStart pf idx) (hfeature : d.feature 3 = true)

include hd

/-! ### Sessions (R288 to R290, R299, R331, R346) -/

/-- R288: SESSION_CREATE ends with the status of its checks, on the device that they leave. -/
theorem sessionCreate_of_read (hready : d₀.admReady pf idx 0x0501 c = true) {bs : List Byte} {e : Dev} {st : Nat}
    (hcreate : d.sessCreate pf (c.arg % 2 ^ 17) (sliceBytes bs 0 c.len) = (e, st)) :
    sessionCreate pf idx (some bs) d₀ = e.admEnd pf idx st 0 := by
  rw [sessionCreate, Dev.admIn_of_read hready, ← hd]
  simp only [hcreate]

section Destroy

variable (hready : d₀.admReady pf idx 0x0502 c = true) {n sl : Nat} (hn : n = c.arg % 2 ^ 17)
include hready hn

/-- R299: a session that does not exist. -/
theorem sessionDestroy_of_missing (hstate : d.sn n Sess.STATE = 0) :
    sessionDestroy pf idx d₀ = d.admEnd pf idx Sc.malformed 0 := by
  rw [sessionDestroy, Dev.admRun_of_ready hready, ← hd]
  simp [-Nat.reducePow, ← hn, hstate]

include hfeature in
/-- R299, R346: a session of no slice, or of an ACTIVE slice of the function. -/
theorem sessionDestroy_of_owned (hstate : d.sn n Sess.STATE ≠ 0) (hgood : d.badRec .session n = false)
    (hsl : sl = d.sn n Sess.SLICE) (hown : sl = 0 ∨ d.cg .slice sl Slc.OWNER = pf ∧ d.sliceState sl = 1) :
    sessionDestroy pf idx d₀ = (d.sessRemove n true).admEnd pf idx Sc.ok 0 := by
  rw [sessionDestroy, Dev.admRun_of_ready hready, ← hd]
  rcases hown with h | ⟨howner, hactive⟩
  · simp [-Nat.reducePow, ← hn, hfeature, hstate, hgood, ← hsl, h]
  · simp [-Nat.reducePow, ← hn, hfeature, hstate, hgood, ← hsl, howner, hactive]

end Destroy

include hfeature in
/-- R290: the context is written where the function may read it. -/
theorem sessionQuery_of_owned (hready : d₀.admReady pf idx 0x0503 c = true) {n sl : Nat} (hn : n = c.arg % 2 ^ 17)
    (hsl : sl = d.sn n Sess.SLICE) (hgood : d.badRec .session n = false)
    (hown : sl = 0 ∨ d.cg .slice sl Slc.OWNER = pf) (reach : Bool) :
    sessionQuery pf idx reach d₀ = d.admOut c reach (ofWords (d.crec .session n 64)) 0 := by
  rw [sessionQuery, Dev.admRun_of_ready hready, ← hd]
  rcases hown with h | h <;> simp [-Nat.reducePow, ← hn, hfeature, hgood, ← hsl, h]

/-! ### Namespaces (R293, R299) -/

/-- R293: the extents from `lo` up to `hi` meet no namespace that exists. -/
def Dev.extFree (d : Dev) (lo hi : Nat) : Prop :=
  ∀ m ∈ d.recs .ns, d.cg .ns m Ns.STATE = 0 ∨ hi ≤ d.cg .ns m Ns.EXT_BASE ∨
    d.cg .ns m Ns.EXT_BASE + d.cg .ns m Ns.EXT_COUNT ≤ lo

section Create

variable (hready : d₀.admReady pf idx 0x0504 c = true) {bs : List Byte} {n lo hi : Nat} {ws : List Word}
  (hn : n = c.arg % 2 ^ 16) (hws : ws = toWords 8 (sliceBytes bs 0 c.len)) (hlo : lo = wget ws Ns.EXT_BASE)
  (hhi : hi = lo + wget ws Ns.EXT_COUNT) (hfree : d.cg .ns n Ns.STATE = 0) (hok : nsOk ws = true)
  (hslice : wget ws Ns.SLICE = 0) (hgood : d.badRec .ns n = false)
include hready hn hws hlo hhi hfree hok hslice hgood hfeature

/-- R293: a well-formed record at a free number ends by whether its extents lie in the map and meet no other's. -/
theorem nsCreate_of_wellFormed : nsCreate pf idx (some bs) d₀ =
    if (d.recs .ns).any (fun m => d.cg .ns m Ns.STATE ≠ 0 && decide (d.cg .ns m Ns.EXT_BASE < hi) &&
        decide (lo < d.cg .ns m Ns.EXT_BASE + d.cg .ns m Ns.EXT_COUNT)) || decide (2 ^ 30 < hi) then
      d.admEnd pf idx Sc.noResource 0
    else (((d.clearRec .ns n).setRec .ns n ws).cs .ns n Ns.STATE 1).admEnd pf idx Sc.ok 0 := by
  rw [nsCreate, Dev.admIn_of_read hready, ← hd]
  simp [-Nat.reducePow, ← hn, ← hws, ← hlo, ← hhi, hfree, hok, hslice, hgood, hfeature]

theorem nsCreate_of_free (hrange : hi ≤ 2 ^ 30) (hmeets : d.extFree lo hi) : nsCreate pf idx (some bs) d₀ =
    (((d.clearRec .ns n).setRec .ns n ws).cs .ns n Ns.STATE 1).admEnd pf idx Sc.ok 0 := by
  rw [nsCreate_of_wellFormed hd hfeature hready hn hws hlo hhi hfree hok hslice hgood, if_neg]
  simp only [Bool.or_eq_true, List.any_eq_true, Bool.and_eq_true, decide_eq_true_eq, not_or, not_exists]
  refine ⟨fun m hm => ?_, by omega⟩
  rcases hmeets m hm.1 with h | h | h <;> omega

theorem nsCreate_of_overlap {m : Nat} (hm : m ∈ d.recs .ns) (hlive : d.cg .ns m Ns.STATE ≠ 0)
    (hbase : d.cg .ns m Ns.EXT_BASE < hi) (hend : lo < d.cg .ns m Ns.EXT_BASE + d.cg .ns m Ns.EXT_COUNT) :
    nsCreate pf idx (some bs) d₀ = d.admEnd pf idx Sc.noResource 0 := by
  rw [nsCreate_of_wellFormed hd hfeature hready hn hws hlo hhi hfree hok hslice hgood, if_pos]
  simp only [Bool.or_eq_true, List.any_eq_true, Bool.and_eq_true, decide_eq_true_eq]
  exact .inl ⟨m, hm, ⟨hlive, hbase⟩, hend⟩

end Create

section DestroyNs

variable (hready : d₀.admReady pf idx 0x0505 c = true) {n : Nat} (hn : n = c.arg % 2 ^ 16)
include hready hn

/-- R299: a namespace that is not VALID. -/
theorem nsDestroy_of_invalid (hstate : d.cg .ns n Ns.STATE ≠ 1) : nsDestroy pf idx d₀ = d.admEnd pf idx Sc.malformed 0 := by
  rw [nsDestroy, Dev.admRun_of_ready hready, ← hd]
  simp [-Nat.reducePow, ← hn, hstate]

include hfeature in
/-- R299: a namespace of no slice is DESTROYING, and the command waits. -/
theorem nsDestroy_of_valid {e : Dev} (hstate : d.cg .ns n Ns.STATE = 1) (hslice : d.cg .ns n Ns.SLICE = 0)
    (hgood : d.badRec .ns n = false) (he : e = d.cs .ns n Ns.STATE 2) : nsDestroy pf idx d₀ =
      ({ e with stor := { e.stor with nsWaits := e.stor.nsWaits ++ [(pf, idx, n)] } } : Dev).stPump := by
  subst he
  rw [nsDestroy, Dev.admRun_of_ready hready, ← hd]
  simp [-Nat.reducePow, ← hn, hfeature, hstate, hslice, hgood]

end DestroyNs

/-! ### Backends and extents (R294, R295, R299) -/

include hfeature in
/-- R295: a record whose reserved bits are 0, of kind 0 or 1. -/
theorem backendWrite_of_ok (hready : d₀.admReady pf idx 0x0506 c = true) {bs : List Byte} {ws : List Word}
    (hws : ws = toWords 4 (sliceBytes bs 0 c.len)) (h0 : getBits (ws.getD 0 0) 5 59 = 0)
    (h1 : getBits (ws.getD 1 0) 18 46 = 0) (h2 : getBits (ws.getD 2 0) 32 32 = 0) (h3 : ws.getD 3 0 = 0)
    (hkind : wget ws Bk.KIND ≤ 1) (hmd : wget ws Bk.MD_SIZE ≠ 3) : backendWrite pf idx (some bs) d₀ =
      (d.setRec .backend (c.arg % 2 ^ 12) ws).admEnd pf idx Sc.ok 0 := by
  have hkind2 : wget ws Bk.KIND ≠ 2 := by omega
  have hkind3 : wget ws Bk.KIND ≠ 3 := by omega
  rw [backendWrite, Dev.admIn_of_read hready, ← hd]
  simp only [← hws, hfeature, h0, h1, h2, h3, hkind2, hkind3, hmd, ne_eq, not_false_eq_true, decide_true, Bool.and_self,
    Bool.true_or, Bool.not_true, Bool.or_self, Bool.false_eq_true, if_false]

section Extents

variable (hready : d₀.admReady pf idx 0x0507 c = true) {bs : List Byte} {n lo : Nat} {es : List (Nat × List Word)}
  (hn : n = c.len / 16) (hlo : lo = c.arg % 2 ^ 30)
  (hes : es = (List.range n).map (fun i => (lo + i, toWords 2 ((sliceBytes bs 0 c.len).drop (16 * i)))))
include hready hn hlo hes

include hfeature in
/-- R294: every entry may stand and is written. -/
theorem extentWrite_of_ok (hrange : lo + n ≤ 2 ^ 30) (hok : es.all (fun x => d.extOk x.1 x.2) = true) :
    extentWrite pf idx (some bs) d₀ =
      ((es.foldl (fun (d : Dev) (x : Nat × List Word) => d.setRec .extent x.1 x.2) d).admEnd pf idx Sc.ok n).stPump := by
  rw [extentWrite, Dev.admIn_of_read hready, ← hd]
  simp only [-Nat.reducePow, ← hn, ← hlo, ← hes, hfeature, hok, Nat.not_lt.mpr hrange, decide_false, Bool.not_true, Bool.or_self,
    Bool.false_eq_true, if_false]

/-- R294: an entry that may not stand keeps all from being written. -/
theorem extentWrite_of_bad (hbad : es.all (fun x => d.extOk x.1 x.2) = false) :
    extentWrite pf idx (some bs) d₀ = d.admEnd pf idx Sc.malformed 0 := by
  rw [extentWrite, Dev.admIn_of_read hready, ← hd]
  simp only [-Nat.reducePow, ← hn, ← hlo, ← hes, hbad, Bool.not_false, Bool.or_true, if_true]

end Extents

include hfeature in
/-- R299: the entry is FENCED, and the command waits for those that have read it. -/
theorem extentFence_of_good (hready : d₀.admReady pf idx 0x0508 c = true) {i : Nat} {ids : List Nat} {e : Dev}
    (hi : i = c.arg % 2 ^ 30) (hgood : d.badRec .extent i = false)
    (hids : ids = (d.stor.cmds.filter (fun (k : StCmd) => d.readExt k i)).map StCmd.id)
    (he : e = d.cs .extent i Ext.MAP_STATE 3) : extentFence pf idx d₀ =
      ({ e with stor := { e.stor with fences := e.stor.fences ++ [(pf, idx, ids)] } } : Dev).stPump := by
  subst he hids
  rw [extentFence, Dev.admRun_of_ready hready, ← hd]
  simp only [-Nat.reducePow, ← hi, hfeature, hgood, Bool.not_true, Bool.false_eq_true, if_false]

end StorageAdmin

/-- Settles O36: each clause is the equation of its command. -/
theorem storageAdminCommandsChangeTheirRecords : Obligations.StorageAdminCommandsChangeTheirRecords := by
  intro s pf idx c d hacts hd hfeature
  refine ⟨fun hready => ⟨?create, ?createUnread⟩, fun hready n sl hn hsl => ⟨?missing, ?destroy⟩, fun hready n sl hn hsl hgood hown =>
    ⟨?reach, ?unreached⟩, fun hready => ⟨?ns, ?nsUnread⟩, fun hready n hn => ⟨?nsInvalid, ?nsDestroy⟩,
    fun hready => ⟨?backend, ?backendUnread⟩, fun hready => ⟨?extents, ?extentsUnread⟩, ?fence⟩
  case createUnread | nsUnread | backendUnread | extentsUnread =>
    exact State.run_acts_eq hacts (hd ▸ Dev.admIn_of_unread hready _)
  case create =>
    intro bs e st hcreate
    exact State.run_acts_eq hacts (sessionCreate_of_read hd hready hcreate)
  case missing => exact fun hstate => State.run_acts_eq hacts (sessionDestroy_of_missing hd hready hn hstate)
  case destroy =>
    intro hstate hgood hown
    exact State.run_acts_eq hacts (sessionDestroy_of_owned hd hfeature hready hn hstate hgood hsl hown)
  case reach => exact State.run_acts_eq hacts (sessionQuery_of_owned hd hfeature hready hn hsl hgood hown true)
  case unreached => exact State.run_acts_eq hacts (sessionQuery_of_owned hd hfeature hready hn hsl hgood hown false)
  case ns =>
    intro bs n lo hi ws hn hws hlo hhi hfree hok hslice hgood hrange
    exact ⟨fun hmeets => State.run_acts_eq hacts
        (nsCreate_of_free hd hfeature hready hn hws hlo hhi hfree hok hslice hgood hrange hmeets),
      fun m hm hlive hbase hend => State.run_acts_eq hacts
        (nsCreate_of_overlap hd hfeature hready hn hws hlo hhi hfree hok hslice hgood hm hlive hbase hend)⟩
  case nsInvalid => exact fun hstate => State.run_acts_eq hacts (nsDestroy_of_invalid hd hready hn hstate)
  case nsDestroy =>
    intro e hstate hslice hgood he
    exact State.run_acts_eq hacts (nsDestroy_of_valid hd hfeature hready hn hstate hslice hgood he)
  case backend =>
    intro bs ws hws h0 h1 h2 h3 hkind hmd
    exact State.run_acts_eq hacts (backendWrite_of_ok hd hfeature hready hws h0 h1 h2 h3 hkind hmd)
  case extents =>
    intro bs n lo es hn hlo hes
    exact ⟨fun hrange hok => State.run_acts_eq hacts (extentWrite_of_ok hd hfeature hready hn hlo hes hrange hok),
      fun hbad => State.run_acts_eq hacts (extentWrite_of_bad hd hready hn hlo hes hbad)⟩
  case fence =>
    intro hready i ids e hi hgood hids he
    exact State.run_acts_eq hacts (extentFence_of_good hd hfeature hready hi hgood hids he)

end Sys2Proof.Machine

/-! The queue commands (R329, R350, R373, R374, R380): what each does to the device `d` on which it has started. -/

namespace Sys2Proof.Machine

section QueueCommands

variable {d₀ d : Dev} {pf idx : Nat} {c : AdminCmd} (hd : d = d₀.admStart pf idx)

/-! ### CREATE_QUEUE (R329, R348, R373) -/

/-- R373: the record of queue `q` as CREATE_QUEUE with the words of `e` leaves it: STATE `st`, slice `sl`, owner `pf`, what the device owns
clear, and HEAD_PHASE 1. -/
def Dev.queueCreated (e : Dev) (pf q sl st : Nat) : Dev :=
  ([Qctx.ARMED, Qctx.HEAD, Qctx.QERR_CODE, Qctx.QERR_INDEX, Qctx.TAKEN, Qctx.ATTACHED, Qctx.JOBS, Qctx.DROPS].foldl
    (fun (d : Dev) f => d.setQf q f 0)
      (((e.setQf q Qctx.STATE st).setQf q Qctx.SLICE sl).setQf q Qctx.OWNER pf)).setQf q Qctx.HEAD_PHASE 1

section Make

variable {bs : List Byte} {ws : List Word} {q : Nat} (hws : ws = toWords 8 bs) (hq : q = wget ws Qctx.QID)
include hws hq

/-- R373: a queue that exists. -/
theorem Dev.makeQueue_of_exists (hexists : d.qExists q = true) : d.makeQueue pf bs = (d, 0x24) := by
  simp [Dev.makeQueue, ← hws, ← hq, hexists]

variable {need : Bool} {e : Dev} (hnew : d.qExists q = false) (hform : queueFormOk ws = true)
  (hneed : need = decide (wget ws Qctx.KIND ≠ 3 ∧ wget ws Qctx.KIND ≠ 6)) (hcq : need = false ∨ d.cqOk pf (wget ws Qctx.CQ) = true)
  (hown : d.sliceOfQ q = 0 ∨ d.cg .slice (d.sliceOfQ q) Slc.OWNER = pf)
  (hnode : wget ws Qctx.KIND ≠ 1 ∨ wget ws Qctx.SCHED_NODE = 0xFFFF ∨
    d.leafParentOk (wget ws Qctx.SCHED_NODE) (d.sliceOfQ q) = true)
  (hactive : d.sliceState (d.sliceOfQ q) = 1) (hadopt : d.inAdopt q = false) (hbinding : (d.queueBinding q).isSome = true)
  (hq0 : q ≠ 0)
  (hroom : need = false ∨ d.qf (wget ws Qctx.CQ) Qctx.ATTACHED + 2 ^ wget ws Qctx.SIZE_LOG2 ≤ d.qSize (wget ws Qctx.CQ))
  (he : e = (d.clearRec .queue q).setRec .queue q ws)
include hnew hform hneed hcq hown hnode hactive hadopt hbinding hq0 hroom he

/-- R329, R373: a context that passes every check. -/
theorem Dev.makeQueue_of_ok : d.makeQueue pf bs = (((e.queueCreated pf q (d.sliceOfQ q)
    (if need && decide (e.qstate (wget ws Qctx.CQ) = qError) then qStalled else qActive)).joinQueue q).touch 4 q, Sc.ok) := by
  have hkind : (decide (wget ws Qctx.KIND ≠ 3) && decide (wget ws Qctx.KIND ≠ 6)) = need := by
    rw [hneed, Bool.decide_and]
  have hrefused : ¬(!queueFormOk ws || (need && !d.cqOk pf (wget ws Qctx.CQ)) ||
      (decide (d.sliceOfQ q ≠ 0) && decide (d.cg .slice (d.sliceOfQ q) Slc.OWNER ≠ pf)) ||
      (decide (wget ws Qctx.KIND = 1) && decide (wget ws Qctx.SCHED_NODE ≠ 0xFFFF) &&
        !d.leafParentOk (wget ws Qctx.SCHED_NODE) (d.sliceOfQ q))) = true := by
    simp only [hform, Bool.or_eq_true, Bool.and_eq_true, Bool.not_eq_true', decide_eq_true_eq, Bool.not_true,
      Bool.false_eq_true, false_or]
    grind
  have hfull : ¬(d.inAdopt q || (d.queueBinding q).isNone || decide (q = 0) || (need &&
      decide (d.qSize (wget ws Qctx.CQ) < d.qf (wget ws Qctx.CQ) Qctx.ATTACHED + 2 ^ wget ws Qctx.SIZE_LOG2))) = true := by
    simp only [hadopt, Option.isNone_eq_false_iff.mpr hbinding, hq0, decide_false, Bool.or_false, Bool.false_or,
      Bool.and_eq_true, decide_eq_true_eq]
    rintro ⟨hn, hlt⟩
    rcases hroom with h | h
    · simp [h] at hn
    · omega
  simp only [Dev.makeQueue, ← hws, ← hq, hnew, hkind, if_neg hrefused, hactive, if_neg hfull, ← he, Bool.false_eq_true, if_false,
    ne_eq, not_true, Dev.queueCreated]

end Make

section Create

include hd

variable (hready : d₀.admReady pf idx 0x0101 c = true) {bs : List Byte} {e : Dev} {st : Nat}
include hready

/-- R373: CREATE_QUEUE ends with the status of its checks; OK has the queue ID as RESULT. -/
theorem createQueue_of_read (hmake : d.makeQueue pf (sliceBytes bs 0 c.len) = (e, st)) : createQueue pf idx (some bs) d₀ =
    e.admEnd pf idx st (if st = Sc.ok then wget (toWords 8 (sliceBytes bs 0 c.len)) Qctx.QID else 0) := by
  rw [createQueue, Dev.admIn_of_read hready, ← hd]
  simp only [hmake]

end Create

/-! ### QUIESCE_QUEUE and DESTROY_QUEUE (R369, R373, R374, R277) -/

/-- The jobs of queue `q`. -/
def Dev.jobsOf (d : Dev) (q : Nat) : List Job := ((d.qst q).map QSt.jobs).getD []

section Stop

variable {op q : Nat} {ents : List (Option (List Word))} {ok : List Nat} {refuse : Dev → Nat → Bool} {fin : Nat → Dev → Dev}

section Fresh

variable (hready : d₀.admReady pf idx op c = true) (hq : q = c.arg % 2 ^ 18)
include hd hready hq

/-- R373: a command that stops a queue, as it starts. -/
theorem Dev.stopQueue_of_ready : d₀.stopQueue pf idx op ents ok refuse fin =
    if d.queueStatus pf q ok ≠ Sc.ok then d.admEnd pf idx (d.queueStatus pf q ok) 0
    else if refuse d q then d.admEnd pf idx 0x24 0
    else
      let (e, n) := d.abortQueue q ents
      let f := (e.setQf q Qctx.STATE qQuiesced).touch 4 q
      if (f.jobsOf q).isEmpty then (fin q f).admEnd pf idx Sc.ok n
      else f.setAdm pf idx (fun (a : AdminCmd) => { a with count := n }) := by
  subst hd hq
  rw [Dev.stopQueue_of_fresh (Dev.admFresh_of_waits (Dev.admReady_iff.mp hready).1), Dev.admRun_of_ready hready]
  rfl

/-- R373, R380: a queue that the function may not stop, or in a state that does not accept the command. -/
theorem Dev.stopQueue_of_refused {st : Nat} (hst : st = d.queueStatus pf q ok) (hbad : st ≠ Sc.ok) :
    d₀.stopQueue pf idx op ents ok refuse fin = d.admEnd pf idx st 0 := by
  rw [Dev.stopQueue_of_ready hd hready hq, ← hst, if_pos hbad]

variable (hst : d.queueStatus pf q ok = Sc.ok)
include hst

/-- R369: a CQ that is named. -/
theorem Dev.stopQueue_of_named (hnamed : refuse d q = true) :
    d₀.stopQueue pf idx op ents ok refuse fin = d.admEnd pf idx 0x24 0 := by
  rw [Dev.stopQueue_of_ready hd hready hq, if_neg (not_not.mpr hst), if_pos hnamed]

variable (hfree : refuse d q = false) {e f : Dev} {n : Nat} (habort : d.abortQueue q ents = (e, n))
  (hf : f = (e.setQf q Qctx.STATE qQuiesced).touch 4 q)
include hfree habort hf

/-- R374: no job waits for a tether: the command finishes. -/
theorem Dev.stopQueue_of_done (hjobs : f.jobsOf q = []) :
    d₀.stopQueue pf idx op ents ok refuse fin = (fin q f).admEnd pf idx Sc.ok n := by
  rw [Dev.stopQueue_of_ready hd hready hq, if_neg (not_not.mpr hst), if_neg (Bool.eq_false_iff.mp hfree)]
  simp only [habort, ← hf, hjobs, List.isEmpty_nil, if_true]

/-- R277, R374: a job waits for a tether: the command goes on, and keeps the number of jobs. -/
theorem Dev.stopQueue_of_tethered (hjobs : f.jobsOf q ≠ []) : d₀.stopQueue pf idx op ents ok refuse fin =
    f.setAdm pf idx (fun (a : AdminCmd) => { a with count := n }) := by
  rw [Dev.stopQueue_of_ready hd hready hq, if_neg (not_not.mpr hst), if_neg (Bool.eq_false_iff.mp hfree)]
  simp only [habort, ← hf, List.isEmpty_eq_false_iff.mpr hjobs, Bool.false_eq_true, if_false]

end Fresh

/-- R277, R374: presented again once no job waits, a command that went on finishes. -/
theorem Dev.stopQueue_of_started {a : AdminCmd} (hfind : d.admin.find? (fun c => c.pf = pf && c.idx = idx && c.op = op &&
    c.started && c.done.isNone) = some a) (hq : q = a.arg % 2 ^ 18) (hjobs : d.jobsOf q = []) :
    d.stopQueue pf idx op ents ok refuse fin = (fin q d).admEnd pf idx Sc.ok a.count := by
  have hdone : (((d.qst (a.arg % 2 ^ 18)).map QSt.jobs).getD []).isEmpty = true := by
    rw [← hq]
    exact List.isEmpty_iff.mpr hjobs
  simp only [Dev.stopQueue, hfind, hdone, if_true, hq]

end Stop

/-! ### RESUME_QUEUE (R373) -/

section Resume

variable (hready : d₀.admReady pf idx 0x0103 c = true) {q h : Nat} (hq : q = c.arg % 2 ^ 18) (hh : h = c.arg / 2 ^ 32 % 2 ^ 16)
include hd hready hq

/-- R373, R380: a queue that the function may not resume, or in a state that does not accept the command. -/
theorem resumeQueue_of_refused {st : Nat} (hst : st = d.queueStatus pf q [qQuiesced, qError]) (hbad : st ≠ Sc.ok) :
    resumeQueue pf idx d₀ = d.admEnd pf idx st 0 := by
  rw [resumeQueue, Dev.admRun_of_ready hready, ← hd]
  simp only [← hq, ← hst, if_pos hbad]

variable (hst : d.queueStatus pf q [qQuiesced, qError] = Sc.ok)
include hst hh

/-- R373: a HEAD outside the ring. -/
theorem resumeQueue_of_outside (hset : c.arg / 2 ^ 49 % 2 = 0) (hout : d.qSize q ≤ h) :
    resumeQueue pf idx d₀ = d.admEnd pf idx Sc.malformed 0 := by
  rw [resumeQueue, Dev.admRun_of_ready hready, ← hd]
  simp [-Nat.reducePow, ← hq, ← hh, hst, hset, hout]

/-- R373: HEAD is kept, or set inside the ring; the queue is ACTIVE without error and rung once. -/
theorem resumeQueue_of_ok {e f : Dev} (hhead : c.arg / 2 ^ 49 % 2 = 0 ∧ h < d.qSize q ∧
      e = ((d.setQf q Qctx.HEAD h).setQf q Qctx.HEAD_PHASE (c.arg / 2 ^ 48 % 2)).headMoved q ∨ c.arg / 2 ^ 49 % 2 = 1 ∧ e = d)
    (hf : f = ((e.setQf q Qctx.STATE qActive).setQf q Qctx.QERR_CODE 0).setQf q Qctx.QERR_INDEX 0) :
    resumeQueue pf idx d₀ =
      (((if f.qf q Qctx.KIND = 3 then f.cqResumed q else f).ringQ q).touch 4 q).admEnd pf idx Sc.ok 0 := by
  rw [resumeQueue, Dev.admRun_of_ready hready, ← hd]
  rcases hhead with ⟨hset, hin, rfl⟩ | ⟨hkeep, rfl⟩
  · simp [-Nat.reducePow, ← hq, ← hh, hst, hset, Nat.not_le.mpr hin, ← hf]
  · simp [-Nat.reducePow, ← hq, hst, hkeep, ← hf]

end Resume

/-! ### QUERY_QUEUE (R350) -/

section Query

variable (hready : d₀.admReady pf idx 0x0105 c = true) {q : Nat} (hq : q = c.arg % 2 ^ 18)
include hd hready hq

theorem queryQueue_of_missing (hnone : d.qExists q = false) (reach : Bool) :
    queryQueue pf idx reach d₀ = d.admEnd pf idx 0x24 0 := by
  rw [queryQueue, Dev.admRun_of_ready hready, ← hd]
  simp [-Nat.reducePow, ← hq, hnone]

theorem queryQueue_of_foreign (hexists : d.qExists q = true) (hown : d.qf q Qctx.OWNER ≠ pf) (reach : Bool) :
    queryQueue pf idx reach d₀ = d.admEnd pf idx Sc.malformed 0 := by
  rw [queryQueue, Dev.admRun_of_ready hready, ← hd]
  simp [-Nat.reducePow, ← hq, hexists, hown]

theorem queryQueue_of_owned (hexists : d.qExists q = true) (hown : d.qf q Qctx.OWNER = pf) (reach : Bool) :
    queryQueue pf idx reach d₀ = d.admOut c reach (ofWords (d.crec .queue q 8)) 0 := by
  rw [queryQueue, Dev.admRun_of_ready hready, ← hd]
  simp [-Nat.reducePow, ← hq, hexists, hown]

end Query

end QueueCommands

/-- Settles O45: each clause is the equation of its command; the commands that stop a queue share theirs. -/
theorem queueCommandsCreateStopResumeAndReadQueues : Obligations.QueueCommandsCreateStopResumeAndReadQueues := by
  intro s pf idx c d hacts hd
  refine ⟨fun hready => ⟨fun bs ws q hws hq => ⟨?exists_, ?create⟩, ?unread⟩,
    fun ents q n e f hq habort hf => ⟨fun hready => ⟨?quiesceRefused, ?quiesce⟩, fun hready => ⟨?destroyRefused, ?destroy⟩⟩, ?again,
    fun hready q h e hq hh => ⟨?resumeRefused, fun hst => ⟨?outside, ?resume⟩⟩, fun hready q hq => ⟨?missing, ?foreign, ?query⟩⟩
  case exists_ =>
    intro hexists
    exact State.run_acts_eq hacts (createQueue_of_read hd hready (Dev.makeQueue_of_exists hws hq hexists))
  case create =>
    intro need e hnew hform hneed hcq hown hnode hactive hadopt hbinding hq0 hroom he
    have hmake := Dev.makeQueue_of_ok hws hq hnew hform hneed hcq hown hnode hactive hadopt hbinding hq0 hroom he
    rw [hq, hws] at *
    exact State.run_acts_eq hacts (createQueue_of_read hd hready hmake)
  case unread => exact State.run_acts_eq hacts (hd ▸ Dev.admIn_of_unread hready _)
  case quiesceRefused =>
    exact fun st hst hbad => State.run_acts_eq hacts (Dev.stopQueue_of_refused hd hready hq hst hbad)
  case quiesce =>
    exact fun hst => ⟨fun hjobs => State.run_acts_eq hacts (Dev.stopQueue_of_done hd hready hq hst rfl habort hf hjobs),
      fun hjobs => State.run_acts_eq hacts (Dev.stopQueue_of_tethered hd hready hq hst rfl habort hf hjobs)⟩
  case destroyRefused =>
    exact fun st hst hbad => State.run_acts_eq hacts (Dev.stopQueue_of_refused hd hready hq hst hbad)
  case destroy =>
    exact fun hst => ⟨fun hnamed => State.run_acts_eq hacts (Dev.stopQueue_of_named hd hready hq hst hnamed),
      fun hfree => ⟨fun hjobs => State.run_acts_eq hacts (Dev.stopQueue_of_done hd hready hq hst hfree habort hf hjobs),
        fun hjobs => State.run_acts_eq hacts (Dev.stopQueue_of_tethered hd hready hq hst hfree habort hf hjobs)⟩⟩
  case again =>
    exact fun a q ents hq hjobs => ⟨fun hfind => State.run_acts_eq hacts (Dev.stopQueue_of_started hfind hq hjobs),
      fun hfind => State.run_acts_eq hacts (Dev.stopQueue_of_started hfind hq hjobs)⟩
  case resumeRefused => exact fun st hst hbad => State.run_acts_eq hacts (resumeQueue_of_refused hd hready hq hst hbad)
  case outside =>
    exact fun hset hout => State.run_acts_eq hacts (resumeQueue_of_outside hd hready hq hh hst hset hout)
  case resume =>
    intro hhead f hf
    have hresume := resumeQueue_of_ok hd hready hq hh hst hhead hf
    exact ⟨fun hkind => State.run_acts_eq hacts (hresume.trans (by rw [if_neg hkind])),
      fun hkind => State.run_acts_eq hacts (hresume.trans (by rw [if_pos hkind]))⟩
  case missing => exact fun hnone b => State.run_acts_eq hacts (queryQueue_of_missing hd hready hq hnone b)
  case foreign => exact fun hexists hown b => State.run_acts_eq hacts (queryQueue_of_foreign hd hready hq hexists hown b)
  case query =>
    exact fun hexists hown => ⟨State.run_acts_eq hacts (queryQueue_of_owned hd hready hq hexists hown true),
      State.run_acts_eq hacts (queryQueue_of_owned hd hready hq hexists hown false)⟩

end Sys2Proof.Machine

/-! Mailboxes and hardware locks (R416 to R435): what each access does, case by case. -/

namespace Sys2Proof.Machine

section Locks

variable {d : Dev} {agent n : Nat}

/-- R428: the holder frees the lock. -/
theorem lockRel_of_holder (hheld : d.on (lockUnit n) Lock.LOCK_STATE_HELD = true)
    (hholder : d.g (lockUnit n) Lock.LOCK_STATE_HOLDER = agent) :
    lockRel agent n d = (d.s (lockUnit n) Lock.LOCK_STATE_HELD 0).s (lockUnit n) Lock.LOCK_STATE_BROKEN 0 := by
  simp [lockRel, hheld, hholder]

/-- R428: the lock is free, or another agent's. -/
theorem lockRel_of_foreign
    (h : d.on (lockUnit n) Lock.LOCK_STATE_HELD = false ∨ d.g (lockUnit n) Lock.LOCK_STATE_HOLDER ≠ agent) :
    lockRel agent n d = d.bump Root.LOCK_FOREIGN := by
  rcases h with h | h <;> simp [lockRel, h]

/-- R430: a management core frees a held lock. -/
theorem lockBreak_of_held (hcore : isCore agent = true) (hheld : d.on (lockUnit n) Lock.LOCK_STATE_HELD = true) :
    lockBreak agent n d = d.breakLock n := by simp [lockBreak, hcore, hheld]

/-- R430: the lock is free, or the agent no management core. -/
theorem lockBreak_of_foreign (h : isCore agent = false ∨ d.on (lockUnit n) Lock.LOCK_STATE_HELD = false) :
    lockBreak agent n d = d.bump Root.LOCK_FOREIGN := by
  rcases h with h | h <;> simp [lockBreak, h]

/-- R427: a reader that is no agent. -/
theorem lockTry_of_noAgent (hagent : isAgent agent = false) : lockTry agent n d = d := by simp [lockTry, hagent]

section Agent

variable (hagent : isAgent agent = true)
include hagent

/-- R427: a free lock is granted. -/
theorem lockTry_of_free {e : Dev} (hfree : d.on (lockUnit n) Lock.LOCK_STATE_HELD = false)
    (he : e = ((d.s (lockUnit n) Lock.LOCK_STATE_HELD 1).s (lockUnit n) Lock.LOCK_STATE_HOLDER agent).add (lockUnit n)
      Lock.LOCK_STATE_GEN 1) : lockTry agent n d = e.emit (.readData (e.lockWord n)) := by
  simp [lockTry, hagent, hfree, he]

/-- R427: the reader holds the lock already. -/
theorem lockTry_of_own (hheld : d.on (lockUnit n) Lock.LOCK_STATE_HELD = true)
    (hholder : d.g (lockUnit n) Lock.LOCK_STATE_HOLDER = agent) :
    lockTry agent n d = d.emit (.readData (putBits (putBits (d.lockWord n) 31 1 0) 29 1 1)) := by
  simp [lockTry, hagent, hheld, hholder]

/-- R427: another agent holds the lock. -/
theorem lockTry_of_contended (hheld : d.on (lockUnit n) Lock.LOCK_STATE_HELD = true)
    (hholder : d.g (lockUnit n) Lock.LOCK_STATE_HOLDER ≠ agent) :
    lockTry agent n d =
      (d.bump Root.LOCK_CONTENDED).emit (.readData (putBits (putBits (d.lockWord n) 31 1 0) 29 1 0)) := by
  simp [lockTry, hagent, hheld, hholder]

end Agent

end Locks

section Sender

variable {d : Dev} {agent m c : Nat}

theorem Dev.boxForeign_of_sender (hagent : isAgent agent = true) (hsender : d.g (mbxUnit m c) MbxCh.CH_CTL_SENDER = agent) :
    d.boxForeign agent m c = false := by simp [Dev.boxForeign, hagent, hsender]

theorem Dev.boxForeign_of_other (h : isAgent agent = false ∨ d.g (mbxUnit m c) MbxCh.CH_CTL_SENDER ≠ agent) :
    d.boxForeign agent m c = true := by
  rcases h with h | h <;> simp [Dev.boxForeign, h]

/-- R418: a SEND by another than the sender. -/
theorem send_of_foreign (h : d.boxForeign agent m c = true) : send agent m c d = d.bump Root.MBX_FOREIGN := by
  simp [send, h]

/-- R418: a CANCEL by another than the sender. -/
theorem cancel_of_foreign (h : d.boxForeign agent m c = true) : cancel agent m c d = d.bump Root.MBX_FOREIGN := by
  simp [cancel, h]

section Own

variable (hown : d.boxForeign agent m c = false)
include hown

/-- R419: a SEND to a channel that holds a message. -/
theorem send_of_full (hfull : d.on (mbxUnit m c) MbxCh.CH_STAT_FULL = true) :
    send agent m c d = d.s (mbxUnit m c) MbxCh.CH_STAT_OVERRUN 1 := by simp [send, hown, hfull]

/-- R419, R421: a SEND to a free channel appends the message; one into an empty mailbox raises the event where it is
enabled. -/
theorem send_of_free {e f : Dev} (hfree : d.on (mbxUnit m c) MbxCh.CH_STAT_FULL = false)
    (he : e = (((d.s (mbxUnit m c) MbxCh.CH_STAT_FULL 1).s (mbxUnit m c) MbxCh.CH_STAT_LAST 0).add (mbxUnit m c)
      MbxCh.CH_STAT_SENT 1).bump Root.MBX_SENT)
    (hf : f = ({ e with mbx := e.mbx ++ [{ box := m, ch := c, us := e.g rootId Root.MBX_TIMEOUT_US
                                           due := some (e.time + 1000 * e.g rootId Root.MBX_TIMEOUT_US) }] } : Dev).syncBox m) :
    send agent m c d =
      if (d.boxMsgs m).isEmpty && f.on (mrxUnit m) MbxRx.RX_CFG_EVT_EN then f.boxEvent (boxCore m) m else f := by
  simp only [send, hown, hfree, Bool.false_eq_true, ↓reduceIte]
  rw [← he, ← hf]

/-- R423, R424: a CANCEL of a channel that is empty or latched. -/
theorem cancel_of_late (h : d.on (mbxUnit m c) MbxCh.CH_STAT_FULL = false ∨ d.latchedAt m c = true) :
    cancel agent m c d = d.s (mbxUnit m c) MbxCh.CH_STAT_OVERRUN 1 := by
  rcases h with h | h <;> simp [cancel, hown, h]

/-- R423: a CANCEL of a message that still waits. -/
theorem cancel_of_waiting (hfull : d.on (mbxUnit m c) MbxCh.CH_STAT_FULL = true) (hlatch : d.latchedAt m c = false) :
    cancel agent m c d = d.takeMsg m c 2 := by simp [cancel, hown, hfull, hlatch]

end Own

/-- R418, R432: SENDER is stored for the receiving core while the channel is empty. -/
theorem senderWrite_of_stored {v : Nat} (hcore : agent = boxCore m)
    (hfree : d.on (mbxUnit m c) MbxCh.CH_STAT_FULL = false) (hv : v = 0 ∨ isAgent v = true) :
    senderWrite agent m c v d = d.s (mbxUnit m c) MbxCh.CH_CTL_SENDER v := by
  rcases hv with hv | hv <;> simp [senderWrite, hcore, hfree, hv]

/-- R418, R432: SENDER keeps its value otherwise. -/
theorem senderWrite_of_ignored {v : Nat}
    (h : agent ≠ boxCore m ∨ d.on (mbxUnit m c) MbxCh.CH_STAT_FULL = true ∨ v ≠ 0 ∧ isAgent v = false) :
    senderWrite agent m c v d = d := by
  rcases h with h | h | ⟨h0, h⟩
  · simp [senderWrite, h]
  · simp [senderWrite, h]
  · simp [senderWrite, h0, h]

/-- R422: the timer has not ended, or stopped. -/
theorem mailboxTimeout_of_early (h : d.mbx.any (fun x => x.box = m && x.ch = c && d.msgLate x) = false) :
    mailboxTimeout m c d = d := by simp only [mailboxTimeout, h, Bool.not_false, ↓reduceIte]

/-- R422: the timer of a message has ended whose sender is no management core. -/
theorem mailboxTimeout_of_late {e f : Dev}
    (h : d.mbx.any (fun x => x.box = m && x.ch = c && d.msgLate x) = true)
    (hby : isCore (d.g (mbxUnit m c) MbxCh.CH_CTL_SENDER) = false)
    (he : e = (d.armMsg m c false).s (mbxUnit m c) MbxCh.CH_STAT_TIMEOUT 1)
    (hf : f = e.s (mbxUnit m c) MbxCh.CH_STAT_RCV_STATE (d.ust (boxCore m))) :
    mailboxTimeout m c d = (f.s (mbxUnit m c) MbxCh.CH_STAT_RCV_REST (if f.gait (regionOf (boxCore m)) = 0 then 1 else 0)).bump
      Root.MBX_TIMEOUTS := by
  simp only [mailboxTimeout, h, hby, Bool.not_true, Bool.false_eq_true, ↓reduceIte]
  rw [← he, ← hf]

end Sender

section Receiver

variable {d e : Dev} {agent m : Nat}

theorem Dev.boxMsgs_emit (o : Out) : (d.emit o).boxMsgs m = d.boxMsgs m := by simp [Dev.boxMsgs]

/-- R420: only the receiving core latches. -/
theorem mailboxLatch_of_other (h : agent ≠ boxCore m) : mailboxLatch agent m d = d.emit (.readData (d.rxMsg m 0)) := by
  rw [mailboxLatch]
  split <;> simp [h]

/-- R420: a read of an empty mailbox. -/
theorem mailboxLatch_of_empty (h : d.boxMsgs m = []) : mailboxLatch agent m d = d.emit (.readData (d.rxMsg m 0)) := by
  simp only [mailboxLatch, Dev.boxMsgs_emit, h]

/-- R420: only the receiving core releases. -/
theorem mailboxRelease_of_other (h : agent ≠ boxCore m) :
    mailboxRelease agent m d = d.emit (.readData (d.rxMsg m 7)) := by
  rw [mailboxRelease]
  split <;> simp [h]

/-- R420: a read of an empty mailbox. -/
theorem mailboxRelease_of_empty (h : d.boxMsgs m = []) :
    mailboxRelease agent m d = d.emit (.readData (d.rxMsg m 7)) := by
  simp only [mailboxRelease, Dev.boxMsgs_emit, h]

variable {x : MbxMsg} {r : List MbxMsg} (hmsgs : d.boxMsgs m = x :: r) (hcore : agent = boxCore m)
include hmsgs hcore

/-- R420: the receiving core latches the head message and stops its timer. -/
theorem mailboxLatch_of_core (he : e = d.emit (.readData (d.rxMsg m 0))) :
    mailboxLatch agent m d = (e.s (mrxUnit m) MbxRx.RX_STATUS_LATCHED 1).armMsg m x.ch false := by
  have hlist : e.boxMsgs m = x :: r := by rw [he, Dev.boxMsgs_emit, hmsgs]
  simp only [mailboxLatch, ← he, hlist, hcore, ↓reduceIte]

/-- R420: the receiving core releases the latched message. -/
theorem mailboxRelease_of_latched (he : e = d.emit (.readData (d.rxMsg m 7))) (hlatch : e.boxLatched m = true) :
    mailboxRelease agent m d =
      ((e.s (mrxUnit m) MbxRx.RX_STATUS_LATCHED 0).takeMsg m x.ch 1).bump Root.MBX_DELIVERED := by
  have hlist : e.boxMsgs m = x :: r := by rw [he, Dev.boxMsgs_emit, hmsgs]
  simp [mailboxRelease, ← he, hlist, hcore, hlatch]

/-- R420: nothing is latched. -/
theorem mailboxRelease_of_unlatched (he : e = d.emit (.readData (d.rxMsg m 7))) (hlatch : e.boxLatched m = false) :
    mailboxRelease agent m d = e := by
  have hlist : e.boxMsgs m = x :: r := by rw [he, Dev.boxMsgs_emit, hmsgs]
  simp [mailboxRelease, ← he, hlist, hcore, hlatch]

end Receiver

/-- R424: stopping a timer touches the messages of that channel alone. -/
theorem Dev.armMsg_off_mbx (d : Dev) (m c : Nat) : (d.armMsg m c false).mbx =
    d.mbx.map (fun (y : MbxMsg) => if y.box = m && y.ch = c then { y with due := none } else y) := rfl

/-- Settles O49: each access by the lemma of its case, for locks, for the sender's side of a mailbox and for the
receiver's. -/
theorem mailboxesDeliverAndLocksAreGrantedAndFreed : Obligations.MailboxesDeliverAndLocksAreGrantedAndFreed := by
  unfold Obligations.MailboxesDeliverAndLocksAreGrantedAndFreed
  rintro s d hacts rfl
  refine ⟨?locks, ?sender, ?receiver⟩
  case locks =>
    rintro agent n u rfl
    refine ⟨fun hheld hholder => State.run_acts_eq hacts (lockRel_of_holder hheld hholder),
      fun h => State.run_acts_eq hacts (lockRel_of_foreign h),
      fun hcore hheld => State.run_acts_eq hacts (lockBreak_of_held hcore hheld),
      fun h => State.run_acts_eq hacts (lockBreak_of_foreign h),
      fun hagent => State.run_acts_eq hacts (lockTry_of_noAgent hagent),
      fun hagent hfree e he => State.run_acts_eq hacts (lockTry_of_free hagent hfree he),
      fun hagent hheld => ⟨fun hholder => State.run_acts_eq hacts (lockTry_of_own hagent hheld hholder),
        fun hholder => State.run_acts_eq hacts (lockTry_of_contended hagent hheld hholder)⟩⟩
  case sender =>
    rintro agent m c u rfl
    refine ⟨fun h => ?foreign, fun hagent hsender => ?own, fun v => ?senderWrite,
      fun h => State.run_acts_eq hacts (mailboxTimeout_of_early h),
      fun h hby e f he hf => State.run_acts_eq hacts (mailboxTimeout_of_late h hby he hf)⟩
    case foreign =>
      have hforeign := Dev.boxForeign_of_other h
      exact ⟨State.run_acts_eq hacts (send_of_foreign hforeign), State.run_acts_eq hacts (cancel_of_foreign hforeign)⟩
    case senderWrite =>
      exact ⟨fun hcore hfree hv => State.run_acts_eq hacts (senderWrite_of_stored hcore hfree hv),
        fun h => State.run_acts_eq hacts (senderWrite_of_ignored h)⟩
    case own =>
      have hown := Dev.boxForeign_of_sender hagent hsender
      refine ⟨fun hfull => State.run_acts_eq hacts (send_of_full hown hfull), fun hfree e f he hf => ?free,
        fun h => State.run_acts_eq hacts (cancel_of_late hown h), ?cancelled⟩
      case free =>
        have hsend := send_of_free hown hfree he hf
        refine ⟨fun hempty hen => State.run_acts_eq hacts (hsend.trans ?_), fun h => State.run_acts_eq hacts (hsend.trans ?_)⟩
        · simp [hempty, hen]
        · rcases h with h | h <;> simp [h]
      case cancelled =>
        rintro hfull hlatch e rfl
        exact State.run_acts_eq hacts (cancel_of_waiting hown hfull hlatch)
  case receiver =>
    intro agent m e f he hf
    refine ⟨fun hother => ⟨?_, ?_⟩, fun hempty => ⟨?_, ?_⟩, fun x r hmsgs hcore => ⟨?latch, ?timers, ?release, ?kept⟩⟩
    · exact State.run_acts_eq hacts (he ▸ mailboxLatch_of_other hother)
    · exact State.run_acts_eq hacts (hf ▸ mailboxRelease_of_other hother)
    · exact State.run_acts_eq hacts (he ▸ mailboxLatch_of_empty hempty)
    · exact State.run_acts_eq hacts (hf ▸ mailboxRelease_of_empty hempty)
    case latch => exact State.run_acts_eq hacts (mailboxLatch_of_core hmsgs hcore he)
    case timers => rw [Dev.armMsg_off_mbx, Dev.s_mbx, he, Dev.emit_mbx]
    case release => exact fun hlatch => State.run_acts_eq hacts (mailboxRelease_of_latched hmsgs hcore hf hlatch)
    case kept => exact fun hlatch => State.run_acts_eq hacts (mailboxRelease_of_unlatched hmsgs hcore hf hlatch)

end Sys2Proof.Machine

/-! DMA channels (R387 to R396): each command of a channel, case by case, and the arbitration of burst slots. -/

namespace Sys2Proof.Machine

section Commands

variable {d : Dev} {t c : Nat}

/-- R33, R389: a channel that is not idle, or whose tile takes no work. -/
theorem chGo_of_refused (h : d.chState t c ≠ 0 ∨ d.takesWork (dmaId t) = false) :
    chGo t c d = d.s (chUnit t c) DmaCh.CH_STATUS_OVERRUN 1 := by
  rcases h with h | h <;> simp [chGo, h, Dev.chRefuse]

/-- R389: an idle channel of a tile that takes work. -/
theorem chGo_of_idle {u : Nat} {e f : Dev} (hu : u = chUnit t c) (hidle : d.chState t c = 0)
    (htakes : d.takesWork (dmaId t) = true)
    (he : e = (((((d.s u DmaCh.CH_STATUS_DESC_DONE 0).s u DmaCh.CH_DONE_BYTES_BYTES 0).s u DmaCh.CH_ERR_ADDR_ADDR 0).s u
          DmaCh.CH_ERR_DIR_DIR 0).s u DmaCh.CH_ERR_DIR_SPACE 0).s u DmaCh.CH_ERR_DIR_CAUSE 0)
    (hf : f = ({ e with
          dma := { e.dma with
            chans := e.dma.chans ++
              [{ tile := t, ch := c, cur := none, fetch := [], issued := 0, bursts := [], flush := false }] } } : Dev).setChState
                t c 1) :
    chGo t c d = ((f.wakeUnit (dmaId t)).chFetch t c (f.g u DmaCh.CH_HEAD_ADDR * 32)).chNext t c := by
  subst hu
  simp only [chGo, hidle, htakes, ne_eq, not_true_eq_false, decide_false, Bool.not_true, Bool.or_self,
    Bool.false_eq_true, ↓reduceIte, List.foldl_cons, List.foldl_nil]
  rw [← he, ← hf]

/-- R391: a descriptor without write-back and event only counts, and shows its status. -/
theorem Dev.chDone_of_plain {w : List Word} (hwb : wget w Desc.WB = 0) (hevt : wget w Desc.EVT = 0) (status : Nat) :
    d.chDone t c status w false =
      ((d.add (chUnit t c) DmaCh.CH_STATUS_DESC_DONE 1).s (chUnit t c) DmaCh.CH_STATUS_LAST_STATUS status, true) := by
  simp [Dev.chDone, hwb, hevt]

/-- R389: CH_STOP of an idle channel. -/
theorem chStop_of_idle (hnone : d.chan t c = none) : chStop t c d = d.s (chUnit t c) DmaCh.CH_STATUS_OVERRUN 1 := by
  simp [chStop, hnone, Dev.chRefuse]

/-- R389: CH_STOP of a running channel whose descriptor has no write-back and no event. -/
theorem chStop_of_running {x : ChSt} {w : List Word} {e : Dev} (hchan : d.chan t c = some x) (hrun : d.chState t c = 1)
    (hcur : x.cur = some w) (hwb : wget w Desc.WB = 0) (hevt : wget w Desc.EVT = 0)
    (he : e = (d.setChan t c (fun (x : ChSt) => { x with bursts := [], flush := false })).setChState t c 2) :
    chStop t c d = ((e.add (chUnit t c) DmaCh.CH_STATUS_DESC_DONE 1).s (chUnit t c) DmaCh.CH_STATUS_LAST_STATUS
      Sc.aborted).setChState t c 0 := by
  simp only [chStop, hchan, hrun, hcur, ↓reduceIte, ← he, Dev.chDone_of_plain hwb hevt]

/-- R389: CH_RETRY outside HALTED. -/
theorem chRetry_of_refused (h : d.chState t c ≠ 3) : chRetry t c d = d.s (chUnit t c) DmaCh.CH_STATUS_OVERRUN 1 := by
  simp [chRetry, h, Dev.chRefuse]

/-- R389: CH_SKIP outside HALTED. -/
theorem chSkip_of_refused (h : d.chState t c ≠ 3) : chSkip t c d = d.s (chUnit t c) DmaCh.CH_STATUS_OVERRUN 1 := by
  simp [chSkip, h, Dev.chRefuse]

section Halted

variable {e : Dev} (hhalted : d.chState t c = 3) (he : e = d.setChState t c 1)
include hhalted he

/-- R394: the descriptor that could not be read is read again. -/
theorem chRetry_of_unread (hcur : (e.chan t c).bind ChSt.cur = none) :
    chRetry t c d = (e.chFetch t c (e.g (chUnit t c) DmaCh.CH_ERR_ADDR_ADDR)).chNext t c := by
  simp [chRetry, hhalted, ← he, hcur]

/-- R394: the descriptor is resumed from the first byte not done. -/
theorem chRetry_of_resumed {w : List Word} (hcur : (e.chan t c).bind ChSt.cur = some w) (hgood : descBad w = false)
    (hleft : (e.chRefetch t c w).g (chUnit t c) DmaCh.CH_DONE_BYTES_BYTES < wget w Desc.LEN) :
    chRetry t c d = (e.chRefetch t c w).setChan t c (fun (x : ChSt) => { x with
      issued := (e.chRefetch t c w).g (chUnit t c) DmaCh.CH_DONE_BYTES_BYTES }) := by
  simp [chRetry, hhalted, ← he, hcur, hgood, hleft]

/-- R389: CH_SKIP of a descriptor that could not be read. -/
theorem chSkip_of_unread (hcur : (e.chan t c).bind ChSt.cur = none) : chSkip t c d = e.setChState t c 0 := by
  simp [chSkip, hhalted, ← he, hcur]

/-- R389: CH_SKIP completes the failed descriptor with its latched status. -/
theorem chSkip_of_failed {w : List Word} (hcur : (e.chan t c).bind ChSt.cur = some w) :
    chSkip t c d = (e.chRefetch t c w).chComplete t c (e.g (chUnit t c) DmaCh.CH_STATUS_LAST_STATUS) w := by
  simp [chSkip, hhalted, ← he, hcur]

end Halted

end Commands

section Arbitration

variable {d : Dev} {t : Nat} {queue : Bool}

/-- R396: requester `r` of tile `t` is ready; 16 is queue work. -/
def Dev.slotReady (d : Dev) (t : Nat) (queue : Bool) (r : Nat) : Bool := if r = 16 then queue else d.chReady t r

/-- R396: priority number of requester `r`. -/
def Dev.slotPrio (d : Dev) (t r : Nat) : Nat :=
  if r = 16 then d.gk (dmaId t) Dma.DMA_CFG_QUEUE_PRIO else d.g (chUnit t r) DmaCh.CH_CFG_PRIO

/-- The requester served last. -/
def Dev.slotLast (d : Dev) (t : Nat) : Nat := ((d.dma.rr.find? (fun x => x.1 = t)).map (fun x => x.2)).getD 16

/-- R396: the requester that gets the slot: of those of lowest priority number the first in turn after the last served. -/
def Dev.slotWinner (d : Dev) (t : Nat) (queue : Bool) : Option Nat :=
  let ready := (List.range 17).filter (d.slotReady t queue)
  ((List.range 17).map (fun i => (d.slotLast t + 1 + i) % 17)).find?
    (fun r => ready.contains r && d.slotPrio t r = (ready.map (d.slotPrio t)).foldl min 8)

/-- `dmaBurst` serves the winner. -/
theorem dmaBurst_eq : dmaBurst t queue d =
    match d.slotWinner t queue with
    | none => d
    | some r =>
      let e := { d with dma := { d.dma with rr := d.dma.rr.filter (fun (x : Nat × Nat) => x.1 ≠ t) ++ [(t, r)] } }
      match (e.chan t r).bind ChSt.cur, e.chan t r with
      | some w, some x =>
        if r = 16 then e
        else (e.setChan t r (fun (y : ChSt) => { y with
          issued := y.issued + burstLen w x.issued
          bursts := y.bursts ++ [{ off := x.issued, len := burstLen w x.issued, data := none
                                   bad := e.accessBad (wget w Desc.SRC_SPACE) (descSrc w x.issued) (burstLen w x.issued) }] })).chGo t r
      | _, _ => e := rfl

theorem Dev.slotPrio_lt (d : Dev) (t r : Nat) : d.slotPrio t r < 8 := by
  rw [Dev.slotPrio]
  split
  · exact Dev.g_lt _ _ _
  · exact Dev.g_lt _ _ _

/-- A least element of a list, at most the start, is what `foldl min` answers. -/
theorem foldl_min_eq {l : List Nat} {x : Nat} (hle : ∀ y ∈ l, x ≤ y) :
    ∀ b, x ≤ b → x ∈ l ∨ x = b → l.foldl min b = x := by
  induction l with
  | nil => simp [eq_comm]
  | cons y l ih =>
    intro b hb hmem
    have hy : x ≤ y := hle y (by simp)
    refine ih (fun z hz => hle z (by simp [hz])) (min b y) (by omega) ?_
    rcases hmem with hmem | rfl
    · rcases List.mem_cons.mp hmem with rfl | hmem
      · exact .inr (by omega)
      · exact .inl hmem
    · exact .inr (by omega)

/-- R396: nothing is ready. -/
theorem Dev.slotWinner_of_none (h : ∀ r < 17, d.slotReady t queue r = false) : d.slotWinner t queue = none := by
  have hready : (List.range 17).filter (d.slotReady t queue) = [] :=
    List.filter_eq_nil_iff.mpr fun r hr => by simp [h r (List.mem_range.mp hr)]
  simp [Dev.slotWinner, hready]

/-- R396: a ready requester of lowest priority number, before which in turn only requesters of higher number are ready. -/
theorem Dev.slotWinner_of_chosen {i r : Nat} (hi : i < 17) (hr : r = (d.slotLast t + 1 + i) % 17)
    (hready : d.slotReady t queue r = true)
    (hbest : ∀ q < 17, d.slotReady t queue q = true → d.slotPrio t r ≤ d.slotPrio t q)
    (hturn : ∀ j < i, d.slotReady t queue ((d.slotLast t + 1 + j) % 17) = true →
      d.slotPrio t r < d.slotPrio t ((d.slotLast t + 1 + j) % 17)) : d.slotWinner t queue = some r := by
  have hlt : r < 17 := hr ▸ Nat.mod_lt _ (by omega)
  have hmin : (((List.range 17).filter (d.slotReady t queue)).map (d.slotPrio t)).foldl min 8 = d.slotPrio t r := by
    refine foldl_min_eq ?_ 8 (d.slotPrio_lt t r).le (.inl (List.mem_map.mpr ⟨r, by simp [hlt, hready], rfl⟩))
    intro y hy
    obtain ⟨q, hq, rfl⟩ := List.mem_map.mp hy
    obtain ⟨hq, hqr⟩ := List.mem_filter.mp hq
    exact hbest q (List.mem_range.mp hq) hqr
  have hfind : (List.range 17).find? ((fun r' => ((List.range 17).filter (d.slotReady t queue)).contains r' &&
      d.slotPrio t r' = d.slotPrio t r) ∘ fun i => (d.slotLast t + 1 + i) % 17) = some i := by
    refine List.find?_range_eq_some.mpr ⟨?_, List.mem_range.mpr hi, fun j hj => ?_⟩
    · simp [← hr, hready, hlt]
    · cases hq : d.slotReady t queue ((d.slotLast t + 1 + j) % 17) with
      | false => simp [hq]
      | true => simp [(hturn j hj hq).ne']
  rw [Dev.slotWinner]
  simp only [hmin, List.find?_map, hfind, Option.map_some, ← hr]

/-- R396: no requester is ready. -/
theorem dmaBurst_of_none (h : d.slotWinner t queue = none) : dmaBurst t queue d = d := by rw [dmaBurst_eq, h]

/-- R390, R396: the winner is a channel with a descriptor, which issues its next burst. -/
theorem dmaBurst_of_channel {r : Nat} {e : Dev} {x : ChSt} {w : List Word} (h : d.slotWinner t queue = some r)
    (he : e = { d with dma := { d.dma with rr := d.dma.rr.filter (fun (x : Nat × Nat) => x.1 ≠ t) ++ [(t, r)] } })
    (hchan : e.chan t r = some x) (hcur : x.cur = some w) (hr : r ≠ 16) :
    dmaBurst t queue d = (e.setChan t r (fun (y : ChSt) => { y with
      issued := y.issued + burstLen w x.issued
      bursts := y.bursts ++ [{ off := x.issued, len := burstLen w x.issued, data := none
                               bad := e.accessBad (wget w Desc.SRC_SPACE) (descSrc w x.issued) (burstLen w x.issued) }] })).chGo
        t r := by
  rw [dmaBurst_eq, h]
  simp only [← he, hchan, Option.bind_some, hcur, hr, ↓reduceIte]

end Arbitration

section Returns

variable {d : Dev} {t c : Nat} {x : ChSt} (hchan : d.chan t c = some x) (hrun : d.chState t c = 1)

section Descriptor

variable {f : ChFetch} {ws : List Word} (hfetch : x.fetch.find? (fun y => y.words.isNone && y.bad.isNone) = some f)
include hchan hrun hfetch

/-- R503: a descriptor with bad parity. -/
theorem descriptorReadReturn_of_bad : descriptorReadReturn t c ws false d =
    (d.meshErr (dmaId t) f.addr).fetchReturn t c none (some 6) := by
  simp [descriptorReadReturn, hchan, hrun, hfetch]

/-- R387, R388: a descriptor read from its space is started. -/
theorem descriptorReadReturn_of_good : descriptorReadReturn t c ws true d =
    (d.setChan t c (fun (x : ChSt) => { x with
      fetch := x.fetch.map (fun (y : ChFetch) => if y.words.isNone && y.bad.isNone then { y with
        words := some (if d.g (chUnit t c) DmaCh.CH_CFG_DESC_SPACE = 0 then toWords 4 (d.windowRead f.addr 32)
          else (List.range 4).map (fun i => ws.getD i 0))
        bad := none } else y) })).chNext t c := by
  simp [descriptorReadReturn, Dev.fetchReturn, hchan, hrun, hfetch]

end Descriptor

variable {w : List Word} (hcur : x.cur = some w)

section Burst

variable {b : ChBurst} {data : List Byte} (hburst : x.bursts.find? (fun y => y.off = b.off) = some b)
include hchan hrun hcur hburst

/-- R503: a burst with bad parity. -/
theorem burstReadReturn_of_bad : burstReadReturn t c b.off data false d =
    (d.meshErr (dmaId t) (descSrc w b.off)).burstReturn t c b.off none (some 6) := by
  simp [burstReadReturn, hchan, hrun, hcur, hburst]

/-- R390: the data of a burst, from the window for harness space. -/
theorem burstReadReturn_of_good : burstReadReturn t c b.off data true d =
    (d.setChan t c (fun (x : ChSt) => { x with
      bursts := x.bursts.map (fun (y : ChBurst) => if y.off = b.off && y.data.isNone && y.bad.isNone then { y with
        data := some (if wget w Desc.SRC_SPACE = 0 then d.windowRead (descSrc w b.off) b.len else data)
        bad := none } else y) })).chGo t c := by
  simp [burstReadReturn, Dev.burstReturn, hchan, hrun, hcur, hburst]

end Burst

section Flush

include hchan hrun hcur

/-- R391: the flush read returns. -/
theorem flushReadReturn_of_flush (hflush : x.flush = true) : flushReadReturn t c d =
    (d.setChan t c (fun (x : ChSt) => { x with flush := false })).chComplete t c Sc.ok w := by
  simp [flushReadReturn, hchan, hrun, hcur, hflush]

omit hrun in
/-- R391: no flush read is out. -/
theorem flushReadReturn_of_none (hflush : x.flush = false) : flushReadReturn t c d = d := by
  simp [flushReadReturn, hchan, hcur, hflush]

/-- R393: the flush read fails. -/
theorem channelHalt_of_flush {cause : Nat} (hcause : cause ≠ 0) (hflush : x.flush = true) (off : Nat) :
    channelHalt t c 5 cause off d = d.chHalt t c 5 (wget w Desc.DST_SPACE) cause (lastBurst w (wget w Desc.LEN) 0) := by
  simp [channelHalt, hchan, hrun, hcur, hcause, hflush]

end Flush

end Returns

/-- R393: an idle channel cannot halt. -/
theorem channelHalt_of_idle {d : Dev} {t c : Nat} (hnone : d.chan t c = none) (dir cause off : Nat) :
    channelHalt t c dir cause off d = d := by simp only [channelHalt, hnone]

/-- Settles O47: each command of a channel by the lemma of its case. -/
theorem channelsRunStopHaltAndGoOn : Obligations.ChannelsRunStopHaltAndGoOn := by
  unfold Obligations.ChannelsRunStopHaltAndGoOn
  rintro s d t c u hacts rfl rfl
  refine ⟨⟨fun hidle htakes e he f hf => State.run_acts_eq hacts (chGo_of_idle rfl hidle htakes he hf),
      fun h => State.run_acts_eq hacts (chGo_of_refused h)⟩,
    ⟨fun hnone => State.run_acts_eq hacts (chStop_of_idle hnone),
      fun x w e hchan hrun hcur hwb hevt he => State.run_acts_eq hacts (chStop_of_running hchan hrun hcur hwb hevt he)⟩,
    ⟨fun h => ⟨State.run_acts_eq hacts (chRetry_of_refused h), State.run_acts_eq hacts (chSkip_of_refused h)⟩, ?halted⟩,
    ?burst, ?descriptor, ?data, ?flush, fun hnone dir cause off => State.run_acts_eq hacts (channelHalt_of_idle hnone dir cause off)⟩
  case halted =>
    intro e hhalted he
    exact ⟨fun hcur => ⟨State.run_acts_eq hacts (chRetry_of_unread hhalted he hcur),
        State.run_acts_eq hacts (chSkip_of_unread hhalted he hcur)⟩,
      fun w hcur => ⟨State.run_acts_eq hacts (chSkip_of_failed hhalted he hcur),
        fun hgood hleft => State.run_acts_eq hacts (chRetry_of_resumed hhalted he hcur hgood hleft)⟩⟩
  case burst =>
    rintro queue R P last rfl rfl rfl
    refine ⟨fun h => State.run_acts_eq hacts (dmaBurst_of_none (Dev.slotWinner_of_none h)), ?_⟩
    intro i r e hi hr hready hbest hturn he x w hchan hcur hne
    exact State.run_acts_eq hacts
      (dmaBurst_of_channel (Dev.slotWinner_of_chosen hi hr hready hbest hturn) he hchan hcur hne)
  case descriptor =>
    intro x f ws hchan hrun hfetch
    exact ⟨State.run_acts_eq hacts (descriptorReadReturn_of_bad hchan hrun hfetch),
      State.run_acts_eq hacts (descriptorReadReturn_of_good hchan hrun hfetch)⟩
  case data =>
    intro x w b data hchan hrun hcur hburst
    exact ⟨State.run_acts_eq hacts (burstReadReturn_of_bad hchan hrun hcur hburst),
      State.run_acts_eq hacts (burstReadReturn_of_good hchan hrun hcur hburst)⟩
  case flush =>
    intro x w hchan hrun hcur
    refine ⟨fun hflush => State.run_acts_eq hacts (flushReadReturn_of_flush hchan hrun hcur hflush),
      fun hflush => State.run_acts_eq hacts (flushReadReturn_of_none hchan hcur hflush), ?_⟩
    rintro cause hcause hflush e a st rfl rfl rfl
    exact State.run_acts_eq hacts (channelHalt_of_flush hchan hrun hcur hcause hflush 0)

end Sys2Proof.Machine

/-! Management cores, fuses, flash and the module buses (R530 to R544): each command, case by case. -/

namespace Sys2Proof.Machine

section CoreOnly

variable {d : Dev} {agent : Nat}

/-- R535: a write by a management core. -/
theorem Dev.coreOnly_of_core (h : isCore agent = true) (f : Dev → Dev) : d.coreOnly agent f = f d := by
  simp [Dev.coreOnly, h]

/-- R535: a write by another agent. -/
theorem Dev.coreOnly_of_other (h : isCore agent = false) (f : Dev → Dev) :
    d.coreOnly agent f = d.bump Root.LOCK_FOREIGN := by simp [Dev.coreOnly, h]

end CoreOnly

section Cores

variable {d : Dev} {n : Nat}

/-- R533: a core that runs, or does not exist. -/
theorem mcCtlStart_of_started {agent : Nat} (hcore : isCore agent = true)
    (h : 8 ≤ n ∨ d.on (mcUnit n) Mc.MC_STATUS_STATE = true) : mcCtlStart agent n d = d := by
  rcases h with h | h <;> simp [mcCtlStart, Dev.coreOnly_of_core hcore, h]

/-- R533: a core that was not started. -/
theorem mcCtlStart_of_new {agent : Nat} (hcore : isCore agent = true) (hn : n < 8)
    (h : d.on (mcUnit n) Mc.MC_STATUS_STATE = false) :
    mcCtlStart agent n d = (d.s (mcUnit n) Mc.MC_STATUS_STATE 1).setUst (mcId n) stActive := by
  simp [mcCtlStart, Dev.coreOnly_of_core hcore, h, hn]

variable {t : Nat} (ht : t = d.g (mcUnit n) Mc.MC_TIMECMP_TIME)
include ht

/-- R533: the timer's time has not come, or it is off. -/
theorem coreTimer_of_early (h : 8 ≤ n ∨ d.time < t ∨ t = 2 ^ 64 - 1) : coreTimer n d = d := by
  subst ht
  rcases h with h | h | h
  · simp [coreTimer, h]
  · simp [coreTimer, h]
  · rw [coreTimer, h]
    simp

/-- R533: the timer's time has come. -/
theorem coreTimer_of_due (hn : n < 8) (hdue : t ≤ d.time) (hset : t ≠ 2 ^ 64 - 1) :
    coreTimer n d = ((d.s (mcUnit n) Mc.MC_TIMECMP_TIME (2 ^ 64 - 1)).raisePriv n 0x0901 t).wakeUnit (mcId n) := by
  have hguard : (decide (8 ≤ n) || decide (d.time < t) || decide (t = 2 ^ 64 - 1)) = false := by
    simp only [Bool.or_eq_false_iff, decide_eq_false_iff_not]
    omega
  rw [coreTimer, ← ht]
  simp only [hguard, Bool.false_eq_true, ↓reduceIte]

end Cores

section Fuses

variable {d e : Dev}

section Go

variable {agent op arg : Nat} {evt : Bool} (hcore : isCore agent = true)
  (he : e = ((d.s rootId Root.FUSE_CMD_OP op).s rootId Root.FUSE_CMD_ARG arg).s rootId Root.FUSE_CMD_EVT evt.toNat)
include hcore he

/-- R536: a fuse operation runs already. -/
theorem fuseGo_of_busy (hbusy : e.mgmt.fuse ≠ none) : fuseGo agent op arg evt d = e := by
  have hsome : e.mgmt.fuse.isSome = true := Option.isSome_iff_ne_none.mpr hbusy
  rw [fuseGo, Dev.coreOnly_of_core hcore]
  simp only [← he, hsome, ↓reduceIte]

/-- R536: the fuse operation starts. -/
theorem fuseGo_of_free {f : Dev} (hfree : e.mgmt.fuse = none) (hf : f = e.s rootId Root.FUSE_STATUS_BUSY 1) :
    fuseGo agent op arg evt d = { f with
      mgmt := { f.mgmt with fuse := some { op := op, arg := arg % 256, data := e.fuseData, evt := evt } } } := by
  rw [fuseGo, Dev.coreOnly_of_core hcore]
  simp only [← he, hfree, Option.isSome_none, Bool.false_eq_true, ↓reduceIte, ← hf, Dev.setMgmt]

end Go

variable {burnt : Option (List Byte)}

/-- R537: no operation runs. -/
theorem fuseDone_of_idle (h : d.mgmt.fuse = none) : fuseDone burnt d = d := by simp only [fuseDone, h]

/-- R537: result of an operation. -/
def fuseResult (f : FuseSt) (o : FuseOp) (burnt : Option (List Byte)) : Nat :=
  if fuseOk f o = false then 1 else if burnt = none then 0 else 2

/-- R536, R537: the device after the operation `o`, before its event. -/
def Dev.fuseEnded (d : Dev) (o : FuseOp) (burnt : Option (List Byte)) : Dev :=
  (({ d with
    fuse := if fuseOk d.fuse o then fuseBlow d.fuse o burnt else d.fuse
    mgmt := { d.mgmt with fuse := none } } : Dev).s rootId Root.FUSE_STATUS_BUSY 0).s rootId Root.FUSE_STATUS_RESULT
      (fuseResult d.fuse o burnt)

/-- R537: the operation ends. -/
theorem fuseDone_of_running {o : FuseOp} (h : d.mgmt.fuse = some o) : fuseDone burnt d =
    if o.evt then (d.fuseEnded o burnt).raise rootId 0x0D08 0 (fuseResult d.fuse o burnt * 16) else d.fuseEnded o burnt := by
  cases hok : fuseOk d.fuse o with
  | false => simp [fuseDone, h, hok, Dev.fuseEnded, fuseResult, Dev.setMgmt]
  | true => cases burnt <;> simp [fuseDone, h, hok, Dev.fuseEnded, fuseResult, Dev.setMgmt]

end Fuses

section Flash

variable {d e : Dev}

section Go

variable {agent op len : Nat} {evt : Bool} (hcore : isCore agent = true)
  (he : e = ((d.s rootId Root.XSPI_CMD_OP op).s rootId Root.XSPI_CMD_LEN len).s rootId Root.XSPI_CMD_EVT evt.toNat)
include hcore he

/-- R538: a flash operation runs already. -/
theorem xspiGo_of_busy (hbusy : e.mgmt.xspi ≠ none) :
    xspiGo agent op len evt d = e.s rootId Root.XSPI_STATUS_OVERRUN 1 := by
  have hsome : e.mgmt.xspi.isSome = true := Option.isSome_iff_ne_none.mpr hbusy
  rw [xspiGo, Dev.coreOnly_of_core hcore]
  simp only [← he, hsome, ↓reduceIte]

/-- R538: the flash operation starts. -/
theorem xspiGo_of_free {f : Dev} (hfree : e.mgmt.xspi = none) (hf : f = e.s rootId Root.XSPI_STATUS_BUSY 1) :
    xspiGo agent op len evt d = { f with
      mgmt := { f.mgmt with xspi := some { op := op, addr := e.g rootId Root.XSPI_ADDR_ADDR, len := len, buf := e.g rootId Root.XSPI_BUF_ADDR, evt := evt } } } := by
  rw [xspiGo, Dev.coreOnly_of_core hcore]
  simp only [← he, hfree, Option.isSome_none, Bool.false_eq_true, ↓reduceIte, ← hf, Dev.setMgmt]

end Go

variable {left : Option (List Byte)}

/-- R540: no operation runs. -/
theorem flashDone_of_idle (h : d.mgmt.xspi = none) : flashDone left d = d := by simp only [flashDone, h]

/-- R540: the operation ends with result `r`. -/
theorem flashDone_of_running {o : XspiOp} {r : Nat} {f : Dev} (h : d.mgmt.xspi = some o)
    (hr : r = (if o.formOk = false then 3 else if o.op ≠ 1 ∧ flashGuarded o.range.1 o.range.2 = true then 1
      else if left = none then 0 else 2))
    (he : e = (if r = 0 then d.xspiRun o else if r = 2 then d.xspiFail o (left.getD []) else d))
    (hf : f = (({ e with mgmt := { e.mgmt with xspi := none } } : Dev).s rootId Root.XSPI_STATUS_BUSY 0).s rootId
      Root.XSPI_STATUS_RESULT r) :
    flashDone left d = if o.evt then f.raise rootId 0x0D07 0 (r * 16) else f := by
  have hresult : (if !o.formOk then 3 else if o.op ≠ 1 && flashGuarded o.range.1 o.range.2 then 1
      else if left.isSome then 2 else 0) = r := by
    rw [hr]
    cases left <;> simp
  simp only [flashDone, h]
  rw [hresult, ← he]
  simp only [Dev.setMgmt, hf]

end Flash

section ModuleBus

variable {d : Dev} {agent i : Nat} (hcore : isCore agent = true)

section Go

variable {read : Bool} {cmd : Word} {sda : List Bool}

/-- R535: an access by another agent than a management core. -/
theorem i2cGo_of_other (hother : isCore agent = false) : i2cGo agent i read cmd sda d = d.bump Root.LOCK_FOREIGN := by
  rw [i2cGo, Dev.coreOnly_of_other hother]

include hcore

/-- R542: no such controller. -/
theorem i2cGo_of_absent (hi : 4 ≤ i) : i2cGo agent i read cmd sda d = d := by
  rw [i2cGo, Dev.coreOnly_of_core hcore, if_pos hi]

/-- R542: the controller runs a transaction. -/
theorem i2cGo_of_busy (hi : i < 4) (hbusy : d.on (i2cUnit i) I2c.I2C_STATUS_BUSY = true) :
    i2cGo agent i read cmd sda d = d.s (i2cUnit i) I2c.I2C_STATUS_OVERRUN 1 := by
  rw [i2cGo, Dev.coreOnly_of_core hcore, if_neg (by omega), if_pos hbusy]

/-- R542, R543: the fields are stored, the cage selected and the bus checked; the transfer starts, or ends with result 4. -/
theorem i2cGo_of_free {len cage u : Nat} {evt : Bool} {e f g h : Dev} {free : Bool} (hu : u = i2cUnit i)
    (hlen : len = getBits cmd I2c.I2C_CMD_LEN.lo I2c.I2C_CMD_LEN.w)
    (hcage : cage = 4 * i + getBits cmd I2c.I2C_CMD_CAGE.lo I2c.I2C_CMD_CAGE.w)
    (hevt : evt = decide (getBits cmd I2c.I2C_CMD_EVT.lo I2c.I2C_CMD_EVT.w = 1)) (hi : i < 4)
    (hidle : d.on u I2c.I2C_STATUS_BUSY = false)
    (he : e = [I2c.I2C_CMD_CAGE, I2c.I2C_CMD_DEV, I2c.I2C_CMD_OFFSET, I2c.I2C_CMD_EVT].foldl
      (fun (d : Dev) (x : Fld) => d.s u x (getBits cmd x.lo x.w)) d)
    (hf : f = (if 1 ≤ len ∧ len ≤ 128 then e.s u I2c.I2C_CMD_LEN len else e).s u I2c.I2C_CMD_READ read.toNat)
    (hg : (f.i2cSelect i cage).busCheck i cage sda = (g, free))
    (hh : h = ((g.s u I2c.I2C_STATUS_BUSY 1).s u I2c.I2C_STATUS_DONE_BYTES 0).emit (.serial i (g.i2cBytes i read))) :
    i2cGo agent i read cmd sda d = if free then { h with
      mgmt := { h.mgmt with i2c := updAt h.mgmt.i2c i
                              (fun _ => some { read := read, len := g.g u I2c.I2C_CMD_LEN, evt := evt }) } }
      else g.i2cEnd i 4 0 evt := by
  subst hu
  rw [i2cGo, Dev.coreOnly_of_core hcore, if_neg (by omega), if_neg (by simp [hidle])]
  dsimp only
  rw [← he, ← hlen, ← hf, ← hcage, ← hevt, hg]
  cases free with
  | false => rfl
  | true => simp only [Bool.not_true, Bool.false_eq_true, ↓reduceIte, ← hh, Dev.setMgmt]

end Go

/-- R542: no transaction runs, or the result is none. -/
theorem i2cDone_of_idle {result : Nat} (h : (d.mgmt.i2c[i]?).join = none ∨ 4 ≤ result) (moved : Nat) (data : List Byte) :
    i2cDone i result moved data d = d := by
  rw [i2cDone]
  split
  · rfl
  · rcases h with h | h
    · simp_all
    · rw [if_pos h]

/-- R542: the transaction ends. -/
theorem i2cDone_of_running {o : I2cOp} {n result moved : Nat} (h : (d.mgmt.i2c[i]?).join = some o) (hresult : result < 4)
    (hn : n = (if result = 0 then o.len else if result = 1 then 0 else min moved o.len)) (data : List Byte) :
    i2cDone i result moved data d = (if o.read then d.i2cPut i n data else d).i2cEnd i result n o.evt := by
  simp only [i2cDone, h, if_neg (Nat.not_le.mpr hresult), ← hn]

section Reset

variable {cfg : Word} {moved : Nat} {data : List Byte}
include hcore

/-- R544: no such controller. -/
theorem i2cReset_of_absent (hi : 4 ≤ i) : i2cReset agent i cfg moved data d = d := by
  rw [i2cReset, Dev.coreOnly_of_core hcore, if_pos hi]

/-- R544: the configuration is stored, and no transaction runs. -/
theorem i2cReset_of_idle {e : Dev} (hi : i < 4) (he : e = d.i2cCfg i cfg) (h : (e.mgmt.i2c[i]?).join = none) :
    i2cReset agent i cfg moved data d = e := by
  rw [i2cReset, Dev.coreOnly_of_core hcore, if_neg (by omega)]
  simp only [← he, h]

/-- R544: the running transaction ends with result 5. -/
theorem i2cReset_of_running {e : Dev} {o : I2cOp} (hi : i < 4) (he : e = d.i2cCfg i cfg)
    (h : (e.mgmt.i2c[i]?).join = some o) : i2cReset agent i cfg moved data d =
      (if o.read then e.i2cPut i (min moved o.len) data else e).i2cEnd i 5 (min moved o.len) o.evt := by
  rw [i2cReset, Dev.coreOnly_of_core hcore, if_neg (by omega)]
  simp only [← he, h]

end Reset

end ModuleBus

/-- Settles O56: each command by the lemma of its case; the fuse, flash and bus commands are one function of the operation
each. -/
theorem coresFusesFlashAndModuleBusesTakeTheirCommands : Obligations.CoresFusesFlashAndModuleBusesTakeTheirCommands := by
  unfold Obligations.CoresFusesFlashAndModuleBusesTakeTheirCommands
  rintro s d hacts rfl
  refine ⟨?foreign, ?start, ?timer, ?fuse, ?fuseDone, ?xspi, ?flashDone, ?i2c, ?i2cDone, ?i2cReset⟩
  case foreign =>
    intro agent n arg len i moved addr result evt cmd cfg sda data hcore
    have foreign (f : Dev → Dev) : s.run (fun d => d.coreOnly agent f) = s.next (s.dev.bump Root.LOCK_FOREIGN) :=
      State.run_acts_eq hacts (Dev.coreOnly_of_other hcore f)
    simp only [List.forall_mem_cons, List.not_mem_nil, false_imp_iff, implies_true, and_true]
    exact ⟨foreign _, foreign _, foreign _, foreign _, foreign _, foreign _, foreign _, foreign _, foreign _, foreign _,
      State.run_acts_eq hacts (i2cGo_of_other hcore), State.run_acts_eq hacts (i2cGo_of_other hcore), foreign _, foreign _⟩
  case start =>
    intro agent n hcore
    exact ⟨fun h => State.run_acts_eq hacts (mcCtlStart_of_started hcore h),
      fun hn h => State.run_acts_eq hacts (mcCtlStart_of_new hcore hn h)⟩
  case timer =>
    intro n t ht
    exact ⟨fun h => State.run_acts_eq hacts (coreTimer_of_early ht h),
      fun hn hdue hset => State.run_acts_eq hacts (coreTimer_of_due ht hn hdue hset)⟩
  case fuse =>
    intro agent arg evt hcore
    have go (op : Nat) (e f : Dev)
        (he : e = ((s.dev.s rootId Root.FUSE_CMD_OP op).s rootId Root.FUSE_CMD_ARG arg).s rootId Root.FUSE_CMD_EVT evt.toNat)
        (hf : f = e.s rootId Root.FUSE_STATUS_BUSY 1) :
        (e.mgmt.fuse ≠ none → s.run (fuseGo agent op arg evt) = s.next e) ∧
        (e.mgmt.fuse = none → s.run (fuseGo agent op arg evt) = s.next { f with
          mgmt := { f.mgmt with fuse := some { op := op, arg := arg % 256, data := e.fuseData, evt := evt } } }) :=
      ⟨fun hbusy => State.run_acts_eq hacts (fuseGo_of_busy hcore he hbusy),
        fun hfree => State.run_acts_eq hacts (fuseGo_of_free hcore he hfree hf)⟩
    simp only [List.forall_mem_cons, List.not_mem_nil, false_imp_iff, implies_true, and_true]
    exact ⟨go 1, go 2, go 3, go 4, go 5, go 6⟩
  case fuseDone =>
    intro burnt
    refine ⟨fun h => State.run_acts_eq hacts (fuseDone_of_idle h), ?_⟩
    rintro o r e h rfl rfl
    have hdone := fuseDone_of_running (burnt := burnt) h
    exact ⟨fun hevt => State.run_acts_eq hacts (hdone.trans (if_pos hevt)),
      fun hevt => State.run_acts_eq hacts (hdone.trans (if_neg (by simp [hevt])))⟩
  case xspi =>
    intro agent len evt hcore
    have go (op : Nat) (e f : Dev)
        (he : e = ((s.dev.s rootId Root.XSPI_CMD_OP op).s rootId Root.XSPI_CMD_LEN len).s rootId Root.XSPI_CMD_EVT evt.toNat)
        (hf : f = e.s rootId Root.XSPI_STATUS_BUSY 1) :
        (e.mgmt.xspi ≠ none → s.run (xspiGo agent op len evt) = s.next (e.s rootId Root.XSPI_STATUS_OVERRUN 1)) ∧
        (e.mgmt.xspi = none → s.run (xspiGo agent op len evt) = s.next { f with
          mgmt := { f.mgmt with xspi := some { op := op, addr := e.g rootId Root.XSPI_ADDR_ADDR, len := len, buf := e.g rootId Root.XSPI_BUF_ADDR, evt := evt } } }) :=
      ⟨fun hbusy => State.run_acts_eq hacts (xspiGo_of_busy hcore he hbusy),
        fun hfree => State.run_acts_eq hacts (xspiGo_of_free hcore he hfree hf)⟩
    simp only [List.forall_mem_cons, List.not_mem_nil, false_imp_iff, implies_true, and_true]
    exact ⟨go 1, go 2, go 3⟩
  case flashDone =>
    intro left
    refine ⟨fun h => State.run_acts_eq hacts (flashDone_of_idle h), ?_⟩
    intro o r e f h hr he hf
    have hdone := flashDone_of_running h hr he hf
    exact ⟨fun hevt => State.run_acts_eq hacts (hdone.trans (if_pos hevt)),
      fun hevt => State.run_acts_eq hacts (hdone.trans (if_neg (by simp [hevt])))⟩
  case i2c =>
    intro agent i cmd sda hcore
    have go (read : Bool) : (4 ≤ i → s.run (i2cGo agent i read cmd sda) = .next s) ∧
        (i < 4 → s.dev.on (i2cUnit i) I2c.I2C_STATUS_BUSY = true →
          s.run (i2cGo agent i read cmd sda) = s.next (s.dev.s (i2cUnit i) I2c.I2C_STATUS_OVERRUN 1)) :=
      ⟨fun hi => State.run_acts_eq hacts (i2cGo_of_absent hcore hi),
        fun hi hbusy => State.run_acts_eq hacts (i2cGo_of_busy hcore hi hbusy)⟩
    simp only [List.forall_mem_cons, List.not_mem_nil, false_imp_iff, implies_true, and_true]
    refine ⟨⟨(go true).1, (go true).2, ?_⟩, (go false).1, (go false).2, ?_⟩
    · intro len cage u evt e f g h free hu hlen hcage hevt hi hidle he hf hg hh
      have hgo := i2cGo_of_free hcore hu hlen hcage hevt hi hidle he hf hg hh
      exact ⟨fun hstuck => State.run_acts_eq hacts (hgo.trans (if_neg (by simp [hstuck]))),
        fun hfree => State.run_acts_eq hacts (hgo.trans (if_pos hfree))⟩
    · intro len cage u evt e f g h free hu hlen hcage hevt hi hidle he hf hg hh
      have hgo := i2cGo_of_free hcore hu hlen hcage hevt hi hidle he hf hg hh
      exact ⟨fun hstuck => State.run_acts_eq hacts (hgo.trans (if_neg (by simp [hstuck]))),
        fun hfree => State.run_acts_eq hacts (hgo.trans (if_pos hfree))⟩
  case i2cDone =>
    intro i result moved data
    exact ⟨fun h => State.run_acts_eq hacts (i2cDone_of_idle h moved data),
      fun o n h hresult hn => State.run_acts_eq hacts (i2cDone_of_running h hresult hn data)⟩
  case i2cReset =>
    intro agent i moved cfg data hcore
    refine ⟨fun hi => State.run_acts_eq hacts (i2cReset_of_absent hcore hi), fun e hi he => ?_⟩
    exact ⟨fun h => State.run_acts_eq hacts (i2cReset_of_idle hcore hi he h),
      fun o h => State.run_acts_eq hacts (i2cReset_of_running hcore hi he h)⟩

end Sys2Proof.Machine

/-! Module pins, SMBus, JTAG and GPIO (R544 to R549): each command, case by case. -/

namespace Sys2Proof.Machine

section Pins

variable {d : Dev}

/-- R544: the levels stand already. -/
theorem modulePresenceChange_of_same {present : Nat} (h : d.g rootId Root.MOD_STATUS_PRESENT = present % 65536) :
    modulePresenceChange present d = d := if_pos h

/-- R544: new levels. -/
theorem modulePresenceChange_of_new {present : Nat} (h : d.g rootId Root.MOD_STATUS_PRESENT ≠ present % 65536) :
    modulePresenceChange present d =
      (d.s rootId Root.MOD_STATUS_PRESENT (present % 65536)).raise rootId 0x0D03 0 (present % 65536) := if_neg h

section Interrupt

variable {cage c v : Nat} (hc : c = cage % 16) (hv : v = d.g rootId Root.MOD_STATUS_INT)
include hc hv

/-- R544: the level stands already. -/
theorem moduleInterrupt_of_same {low : Bool} (h : decide (v / 2 ^ c % 2 = 1) = low) : moduleInterrupt cage low d = d := by
  subst hc hv
  exact if_pos h

/-- R544: MOD_INT_N rises. -/
theorem moduleInterrupt_of_rise (h : v / 2 ^ c % 2 = 1) :
    moduleInterrupt cage false d = d.s rootId Root.MOD_STATUS_INT (v - 2 ^ c) := by
  subst hc hv
  simp [moduleInterrupt, h]

/-- R544: MOD_INT_N falls. -/
theorem moduleInterrupt_of_fall (h : v / 2 ^ c % 2 = 0) :
    moduleInterrupt cage true d = (d.s rootId Root.MOD_STATUS_INT (v + 2 ^ c)).raise rootId 0x0D04 0 c := by
  subst hc hv
  simp [moduleInterrupt, h]

end Interrupt

end Pins

section Smbus

variable {d : Dev}

section Packet

variable {addr : Nat} {data : List Byte} {pecOk : Bool}

/-- R545: a packet that is not for the device, or not whole. -/
theorem smbusPacketReceived_of_dropped (h : d.on rootId Root.SMB_CFG_EN = false ∨ d.g rootId Root.SMB_CFG_ADDR ≠ addr ∨
    pecOk = false ∨ 79 < data.length) : smbusPacketReceived addr data pecOk d = d := by
  rcases h with h | h | h | h <;> simp [smbusPacketReceived, h]

section Taken

variable (hen : d.on rootId Root.SMB_CFG_EN = true) (haddr : d.g rootId Root.SMB_CFG_ADDR = addr) (hpec : pecOk = true)
  (hlen : data.length ≤ 79)
include hen haddr hpec hlen

/-- R546: in recovery the boot ROM serves the packet. -/
theorem smbusPacketReceived_of_rom (hphase : d.g rootId Root.BOOT_STATUS_PHASE = 7) :
    smbusPacketReceived addr data pecOk d = d.romPacket data := by
  simp [smbusPacketReceived, hen, haddr, hpec, hlen, hphase]

variable (hphase : d.g rootId Root.BOOT_STATUS_PHASE ≠ 7)
include hphase

omit hlen in
/-- R545: the ring is full. -/
theorem smbusPacketReceived_of_full (hheld : 16 ≤ d.mgmt.smbHeld) : smbusPacketReceived addr data pecOk d = d := by
  simp [smbusPacketReceived, hen, haddr, hpec, hphase, hheld]

/-- R545: the packet takes the slot of the ring at WR. -/
theorem smbusPacketReceived_of_slot {k : Nat} {e : Dev} (hheld : d.mgmt.smbHeld < 16)
    (hk : k = d.g rootId Root.SMB_STATUS_WR)
    (he : e = (d.windowWrite (d.g rootId Root.SMB_RX_RING + 80 * k) (BitVec.ofNat 8 data.length :: data)).s rootId
      Root.SMB_STATUS_WR (k + 1)) :
    smbusPacketReceived addr data pecOk d = ({ e with
      mgmt := { e.mgmt with smbHeld := e.mgmt.smbHeld + 1 } } : Dev).raise rootId 0x0D06 0 k := by
  simp [smbusPacketReceived, hen, haddr, hpec, hlen, hphase, Nat.not_le.mpr hheld, ← hk, ← he, Dev.setMgmt]

end Taken

end Packet

section Send

variable {agent addr len result : Nat} (hcore : isCore agent = true)
include hcore

/-- R545: a send runs already. -/
theorem smbTxGo_of_busy (hbusy : d.on rootId Root.SMB_STATUS_TX_BUSY = true) : smbTxGo agent addr len result d = d := by
  rw [smbTxGo, Dev.coreOnly_of_core hcore, if_pos hbusy]

variable {e : Dev} (hidle : d.on rootId Root.SMB_STATUS_TX_BUSY = false)
  (he : e = (d.s rootId Root.SMB_TX_ADDR addr).s rootId Root.SMB_TX_LEN len)
include hidle he

/-- R545: a length that cannot be sent. -/
theorem smbTxGo_of_badLength (hlen : len = 0 ∨ 72 < len) : smbTxGo agent addr len result d = e := by
  rw [smbTxGo, Dev.coreOnly_of_core hcore, if_neg (by simp [hidle]), if_pos hlen, he]

variable (hmin : 1 ≤ len) (hmax : len ≤ 72)
include hmin hmax

/-- R545: the send runs until its clock times out. -/
theorem smbTxGo_of_stuck (hresult : result = 3) :
    smbTxGo agent addr len result d = e.s rootId Root.SMB_STATUS_TX_BUSY 1 := by
  rw [smbTxGo, Dev.coreOnly_of_core hcore, if_neg (by simp [hidle]), if_neg (by omega), if_pos hresult, he]

/-- R545: the bytes leave, with their PEC. -/
theorem smbTxGo_of_sent {bs : List Byte} (hbs : bs = e.windowRead (addr % 2 ^ 48) len) (hresult : result = 0) :
    smbTxGo agent addr len result d =
      (e.emit (.serial 8 (bs ++ [smbPec bs]))).s rootId Root.SMB_STATUS_TX_RESULT 0 := by
  rw [smbTxGo, Dev.coreOnly_of_core hcore, if_neg (by simp [hidle]), if_neg (by omega), if_neg (by omega),
    if_pos hresult, hbs, he, hresult]
  rfl

/-- R545: the send fails. -/
theorem smbTxGo_of_failed (hresult : result ≠ 0) (hstuck : result ≠ 3) :
    smbTxGo agent addr len result d = e.s rootId Root.SMB_STATUS_TX_RESULT (min result 2) := by
  rw [smbTxGo, Dev.coreOnly_of_core hcore, if_neg (by simp [hidle]), if_neg (by omega), if_neg hstuck,
    if_neg hresult, he]

end Send

/-- R546: a send runs. -/
theorem smbusClockTimeout_of_busy (h : d.on rootId Root.SMB_STATUS_TX_BUSY = true) :
    smbusClockTimeout d = (d.s rootId Root.SMB_STATUS_TX_BUSY 0).s rootId Root.SMB_STATUS_TX_RESULT 3 := if_pos h

/-- R546: no send runs. -/
theorem smbusClockTimeout_of_idle (h : d.on rootId Root.SMB_STATUS_TX_BUSY = false) : smbusClockTimeout d = d :=
  if_neg (by simp [h])

end Smbus

section Gpio

variable {d e : Dev} {levels seen irq : Nat}

/-- R549: pin `k` shows an edge that is enabled. -/
def Dev.gpioHit (d : Dev) (levels k : Nat) : Bool :=
  (d.g rootId Root.GPIO_IN_LEVEL / 2 ^ k % 2 = 0 && levels % 65536 / 2 ^ k % 2 = 1 &&
    d.g rootId Root.GPIO_EDGE_RISE / 2 ^ k % 2 = 1) ||
  (d.g rootId Root.GPIO_IN_LEVEL / 2 ^ k % 2 = 1 && levels % 65536 / 2 ^ k % 2 = 0 &&
    d.g rootId Root.GPIO_EDGE_FALL / 2 ^ k % 2 = 1)

variable (hseen : seen = ((List.range 16).filter (d.gpioHit levels)).foldl (fun (n : Nat) k => n + 2 ^ k) 0)
  (he : e = d.s rootId Root.GPIO_IN_LEVEL (levels % 65536))
include hseen he

/-- R549: no enabled edge. -/
theorem gpioEdge_of_unseen (h : seen = 0) : gpioEdge levels d = e := by
  subst hseen he
  exact if_pos h

variable {f : Dev} (h : seen ≠ 0) (hirq : irq = Nat.lor (e.g rootId Root.GPIO_IRQ_SEEN) seen)
  (hf : f = e.s rootId Root.GPIO_IRQ_SEEN irq)
include h hirq hf

/-- R549: an event was raised within the last millisecond. -/
theorem gpioEdge_of_quiet {t : Nat} (hat : f.mgmt.gpioAt = some t) (hrecent : f.time < t + 1000000) :
    gpioEdge levels d = f := by
  have hedge : gpioEdge levels d = match f.mgmt.gpioAt with
      | some t => if f.time < t + 1000000 then f
        else (f.setMgmt (fun (m : MgmtSt) => { m with gpioAt := some f.time })).raise rootId 0x0D05 0 irq
      | none => (f.setMgmt (fun (m : MgmtSt) => { m with gpioAt := some f.time })).raise rootId 0x0D05 0 irq := by
    subst hseen he hirq hf
    exact if_neg h
  simp only [hedge, hat, hrecent, ↓reduceIte]

/-- R549: no event was raised within the last millisecond. -/
theorem gpioEdge_of_told (hat : ∀ t : Nat, f.mgmt.gpioAt = some t → t + 1000000 ≤ f.time) : gpioEdge levels d =
    ({ f with mgmt := { f.mgmt with gpioAt := some f.time } } : Dev).raise rootId 0x0D05 0 irq := by
  have hedge : gpioEdge levels d = match f.mgmt.gpioAt with
      | some t => if f.time < t + 1000000 then f
        else (f.setMgmt (fun (m : MgmtSt) => { m with gpioAt := some f.time })).raise rootId 0x0D05 0 irq
      | none => (f.setMgmt (fun (m : MgmtSt) => { m with gpioAt := some f.time })).raise rootId 0x0D05 0 irq := by
    subst hseen he hirq hf
    exact if_neg h
  cases ht : f.mgmt.gpioAt with
  | none => simp only [hedge, ht, Dev.setMgmt]
  | some t => simp only [hedge, ht, if_neg (Nat.not_lt.mpr (hat t ht)), Dev.setMgmt]

end Gpio

section Jtag

variable {d : Dev} {halt resume : List Nat} {tdi : List Bool}

/-- R548: without DEBUG_EN, DEBUG is BYPASS. -/
theorem jtagDebug_of_locked (h : d.fuseLoaded.debugEn = false) :
    jtagDebug halt resume tdi d = (d.setIr 0x10).shiftBypass tdi := by
  have hlocked : (d.setIr 0x10).fuseLoaded.debugEn = false := h
  simp [jtagDebug, hlocked]

/-- R548: the debugger halts and resumes cores. -/
theorem jtagDebug_of_open (h : d.fuseLoaded.debugEn = true) : jtagDebug halt resume tdi d =
    resume.foldl (fun (d : Dev) n =>
      if n < 8 ∧ d.g (mcUnit n) Mc.MC_STATUS_STATE = 3 then d.s (mcUnit n) Mc.MC_STATUS_STATE 1 else d)
      (halt.foldl (fun (d : Dev) n => if n < 8 then d.s (mcUnit n) Mc.MC_STATUS_STATE 3 else d) (d.setIr 0x10)) := by
  have hopen : (d.setIr 0x10).fuseLoaded.debugEn = true := h
  simp only [jtagDebug, hopen, Bool.not_true, Bool.false_eq_true, ↓reduceIte]

end Jtag

/-- Settles O57: each command by the lemma of its case; the JTAG instructions act in every state. -/
theorem modulePinsSmbusJtagAndGpioHaveTheirEffects : Obligations.ModulePinsSmbusJtagAndGpioHaveTheirEffects := by
  unfold Obligations.ModulePinsSmbusJtagAndGpioHaveTheirEffects
  rintro s d rfl
  refine ⟨fun hacts => ⟨?presence, ?interrupt, ?packet, ?send, fun h => State.run_acts_eq hacts (smbusClockTimeout_of_busy h),
    fun h => State.run_acts_eq hacts (smbusClockTimeout_of_idle h), ?gpio⟩, ?jtag⟩
  case presence =>
    intro present
    exact ⟨fun h => State.run_acts_eq hacts (modulePresenceChange_of_same h),
      fun h => State.run_acts_eq hacts (modulePresenceChange_of_new h)⟩
  case interrupt =>
    intro cage c v hc hv
    exact ⟨fun h => ⟨State.run_acts_eq hacts (moduleInterrupt_of_same hc hv (by simp [h])),
        State.run_acts_eq hacts (moduleInterrupt_of_rise hc hv h)⟩,
      fun h => ⟨State.run_acts_eq hacts (moduleInterrupt_of_same hc hv (by simp [h])),
        State.run_acts_eq hacts (moduleInterrupt_of_fall hc hv h)⟩⟩
  case packet =>
    intro addr data pecOk
    refine ⟨fun h => State.run_acts_eq hacts (smbusPacketReceived_of_dropped h), fun hen haddr hpec hlen => ?_⟩
    exact ⟨fun hphase => State.run_acts_eq hacts (smbusPacketReceived_of_rom hen haddr hpec hlen hphase),
      fun hphase hheld => State.run_acts_eq hacts (smbusPacketReceived_of_full hen haddr hpec hphase hheld),
      fun k e hphase hheld hk he =>
        State.run_acts_eq hacts (smbusPacketReceived_of_slot hen haddr hpec hlen hphase hheld hk he)⟩
  case send =>
    intro agent addr len result hcore
    refine ⟨fun hbusy => State.run_acts_eq hacts (smbTxGo_of_busy hcore hbusy), fun e bs hidle he hbs => ?_⟩
    refine ⟨fun hlen => State.run_acts_eq hacts (smbTxGo_of_badLength hcore hidle he hlen), fun hmin hmax => ?_⟩
    exact ⟨fun hresult => State.run_acts_eq hacts (smbTxGo_of_stuck hcore hidle he hmin hmax hresult),
      fun hresult => State.run_acts_eq hacts (smbTxGo_of_sent hcore hidle he hmin hmax hbs hresult),
      fun hresult hstuck => State.run_acts_eq hacts (smbTxGo_of_failed hcore hidle he hmin hmax hresult hstuck)⟩
  case gpio =>
    rintro levels seen irq hit e rfl hseen he hirq
    refine ⟨fun h => State.run_acts_eq hacts (gpioEdge_of_unseen hseen he h), fun f h hf => ?_⟩
    exact ⟨fun t hat hrecent => State.run_acts_eq hacts (gpioEdge_of_quiet hseen he h hirq hf hat hrecent),
      fun hat => State.run_acts_eq hacts (gpioEdge_of_told hseen he h hirq hf hat)⟩
  case jtag =>
    rintro ir rfl
    refine ⟨rfl, rfl, rfl, rfl, fun levels load e he => he ▸ rfl, fun tdi => ⟨rfl, fun halt resume => ⟨?_, ?_⟩⟩⟩
    · exact fun h => congrArg (State.next s) (jtagDebug_of_locked h)
    · exact fun h => congrArg (State.next s) (jtagDebug_of_open h)

end Sys2Proof.Machine

/-! The twin pair (R459 to R487): its admin commands, timers and link changes, case by case. -/

namespace Sys2Proof.Machine

section Commands

variable {d e : Dev} {pf idx : Nat} {c : AdminCmd} (he : e = d.admStart pf idx)

section Attach

variable (hready : d.admReady pf idx 0x0701 c = true)
include he hready

/-- R472: only a DETACHED twin that may pair attaches. -/
theorem twinAttach_of_refused (h : e.paired = false ∨ e.twinState ≠ 0) :
    twinAttach pf idx d = e.admEnd pf idx 0x26 0 := by
  rw [twinAttach, Dev.admRun_of_ready hready, ← he]
  rcases h with h | h <;> simp [h]

variable (hpaired : e.paired = true) (hstate : e.twinState = 0) {q base n : Nat} (hq : q = c.arg % 2 ^ 18)
  (hbase : base = (e.bound 0x40).2.2) (hn : n = (e.bound 0x41).2.2)
include hpaired hstate hq hbase hn

/-- R471: the mirror range leaves the queues, or meets the half that the image adopts. -/
theorem twinAttach_of_badRange (h : 2 ^ 18 < q + n ∨ base < q + n ∧ q < base + n) :
    twinAttach pf idx d = e.admEnd pf idx Sc.malformed 0 := by
  have hbad : (decide (2 ^ 18 < q + n) || !(decide (q + n ≤ base) || decide (base + n ≤ q))) = true := by
    simp only [Bool.or_eq_true, decide_eq_true_eq, Bool.not_eq_true', Bool.or_eq_false_iff, decide_eq_false_iff_not]
    omega
  rw [twinAttach, Dev.admRun_of_ready hready, ← he, if_neg (by simp [hpaired, hstate])]
  simp only [← hq, ← hbase, ← hn, hbad, ↓reduceIte]

section Range

variable {f g : Dev} (hfit : q + n ≤ 2 ^ 18) (hapart : q + n ≤ base ∨ base + n ≤ q)
  (hf : f = (e.s rootId Root.TWIN_MIRROR_OWN_QBASE q).setTwin 1)
  (hg : g = ({ f with twin := { f.twin with cmd := some (pf, idx) } } : Dev).sendHello)
include hfit hapart hf hg

/-- R472: the range is stored and HELLO leaves. -/
theorem twinAttach_of_range (hhello : g.twin.hello = none) : twinAttach pf idx d = g := by
  have hgood : (decide (2 ^ 18 < q + n) || !(decide (q + n ≤ base) || decide (base + n ≤ q))) = false := by
    simp only [Bool.or_eq_false_iff, decide_eq_false_iff_not, Bool.not_eq_false', Bool.or_eq_true, decide_eq_true_eq]
    omega
  rw [twinAttach, Dev.admRun_of_ready hready, ← he, if_neg (by simp [hpaired, hstate])]
  simp only [← hq, ← hbase, ← hn, hgood, Bool.false_eq_true, ↓reduceIte]
  rw [← hf, ← hg]
  simp only [hhello]

/-- R484: a HELLO that came before is checked now. -/
theorem twinAttach_of_heard {h : PeerHello} (hhello : g.twin.hello = some h) :
    twinAttach pf idx d = g.checkHello h := by
  have hgood : (decide (2 ^ 18 < q + n) || !(decide (q + n ≤ base) || decide (base + n ≤ q))) = false := by
    simp only [Bool.or_eq_false_iff, decide_eq_false_iff_not, Bool.not_eq_false', Bool.or_eq_true, decide_eq_true_eq]
    omega
  rw [twinAttach, Dev.admRun_of_ready hready, ← he, if_neg (by simp [hpaired, hstate])]
  simp only [← hq, ← hbase, ← hn, hgood, Bool.false_eq_true, ↓reduceIte]
  rw [← hf, ← hg]
  simp only [hhello]

end Range

end Attach

section Detach

variable (hready : d.admReady pf idx 0x0702 c = true)
include he hready

/-- R482: only an ATTACHED twin detaches. -/
theorem twinDetach_of_refused (h : e.twinState ≠ 3) : twinDetach pf idx d = e.admEnd pf idx 0x26 0 := by
  rw [twinDetach, Dev.admRun_of_ready hready, ← he, if_pos h]

/-- R482: an ATTACHED twin tells its partner and detaches. -/
theorem twinDetach_of_attached (h : e.twinState = 3) :
    twinDetach pf idx d = ((e.sendControl 6 []).detach 0).admEnd pf idx Sc.ok 0 := by
  rw [twinDetach, Dev.admRun_of_ready hready, ← he, if_neg (not_not.mpr h)]

end Detach

section Switchover

variable (hready : d.admReady pf idx 0x0703 c = true)
include he hready

/-- R481: only an ATTACHED twin hands over. -/
theorem twinSwitchover_of_refused (h : e.twinState ≠ 3) : twinSwitchover pf idx d = e.admEnd pf idx 0x26 0 := by
  rw [twinSwitchover, Dev.admRun_of_ready hready, ← he]
  exact if_pos h

/-- R481: the handed slices that are ACTIVE freeze. -/
theorem twinSwitchover_of_attached {sls : List Nat} {f : Dev} (h : e.twinState = 3)
    (hsls : sls = (e.handedSlices (c.arg % 2)).filter (fun sl => e.sliceState sl = 1)) (hf : f = e.setTwin 6) :
    twinSwitchover pf idx d = sls.foldl (fun (d : Dev) sl => d.startFreeze sl) { f with
      twin := { f.twin with cmd := some (pf, idx), switchover := some (c.arg % 2, false, sls) } } := by
  rw [twinSwitchover, Dev.admRun_of_ready hready, ← he, hsls, hf]
  exact if_neg (not_not.mpr h)

end Switchover

end Commands

section Handing

variable {d : Dev} {scope : Nat} {sls : List Nat}

theorem switchoverSend_of_none (h : d.twin.switchover = none) : switchoverSend d = d := by simp only [switchoverSend, h]

theorem switchoverTimeout_of_none (h : d.twin.switchover = none) : switchoverTimeout d = d := by
  simp only [switchoverTimeout, h]

/-- R481: every handed slice is frozen and the reliable channel is empty. -/
theorem switchoverSend_of_frozen (h : d.twin.switchover = some (scope, false, sls)) (hstate : d.twinState = 6)
    (hfrozen : ∀ sl ∈ d.handedSlices scope, d.sliceState sl = 3) (hunacked : d.twin.unacked = [])
    (hdeferred : d.twin.deferred = []) (hheads : ∀ q ∈ d.twin.heads, d.handedQ scope q = false) :
    switchoverSend d = ({ d with twin := { d.twin with switchover := some (scope, true, sls) } } : Dev).sendControl 4
      (beBytes 1 scope) := by
  have hall : (d.handedSlices scope).all (fun sl => d.sliceState sl = 3) = true := by simpa using hfrozen
  have hany : d.twin.heads.any (fun q => d.handedQ scope q) = false := List.any_eq_false.mpr (by simpa using hheads)
  have hguard : (d.twinState ≠ 6 || !(d.handedSlices scope).all (fun sl => d.sliceState sl = 3) ||
      !d.twin.unacked.isEmpty || !d.twin.deferred.isEmpty || d.twin.heads.any (fun q => d.handedQ scope q)) = false := by
    simp [hstate, hall, hunacked, hdeferred, hany]
  simp only [switchoverSend, h]
  exact if_neg (by rw [hguard]; simp)

/-- R481: a switchover that was sent times out. -/
theorem switchoverTimeout_of_sent (h : d.twin.switchover = some (scope, true, sls)) :
    switchoverTimeout d = (d.switchEnd 0x26).setTwin 3 := by simp only [switchoverTimeout, h]

end Handing

section Timers

variable {d : Dev}

theorem helloRepeat_of_hello (h : d.twinState = 1) : helloRepeat d = d.sendHello := if_pos h

theorem helloRepeat_of_other (h : d.twinState ≠ 1) : helloRepeat d = d := if_neg h

/-- R473: an attach is under way. -/
theorem attachTimeout_of_attaching (h : d.twinState = 1 ∨ d.twinState = 2) : attachTimeout d = d.attachEnd 0x26 :=
  if_pos (by simpa using h)

theorem attachTimeout_of_other (h1 : d.twinState ≠ 1) (h2 : d.twinState ≠ 2) : attachTimeout d = d :=
  if_neg (by simp [h1, h2])

theorem yokeDownTimeout_of_up (h : d.on rootId Root.TWIN_STATUS_LINK_UP = true) : yokeDownTimeout d = d := if_pos h

/-- R473: the yoke stays down. -/
theorem yokeDownTimeout_of_down (h : d.on rootId Root.TWIN_STATUS_LINK_UP = false) :
    yokeDownTimeout d = attachTimeout d := if_neg (by simp [h])

theorem yokeAckTimer_of_due (h : d.twin.ackDue = true) : yokeAckTimer d = d.sendAckFrame := if_pos h

theorem yokeAckTimer_of_idle (h : d.twin.ackDue = false) : yokeAckTimer d = d := if_neg (by simp [h])

/-- R474: heartbeats leave in HELLO and while mirroring. -/
theorem heartbeatSend_of_live (h : d.twinState = 1 ∨ d.mirroring = true) :
    heartbeatSend d = d.yokeOut 4 0 (d.g rootId Root.TWIN_SEQ_TX_NEXT) (beBytes 8 d.time) := if_pos (by simpa using h)

theorem heartbeatSend_of_other (h1 : d.twinState ≠ 1) (hm : d.mirroring = false) : heartbeatSend d = d :=
  if_neg (by simp [h1, hm])

section Missed

variable {e : Dev} {alive : Bool} (he : e = d.s rootId Root.TWIN_STATUS_ALIVE_IN (if alive then 1 else 0))
include he

/-- R474: only the level is noted. -/
theorem heartbeatMissed_of_other (h1 : e.twinState ≠ 1) (hm : e.mirroring = false) : heartbeatMissed alive d = e := by
  rw [heartbeatMissed, Dev.aliveIn, ← he]
  exact if_pos (by simp [h1, hm])

/-- R474: a missed heartbeat counts, and the fifth declares. -/
theorem heartbeatMissed_of_live {m : Nat} (hm : m = min 15 (e.g rootId Root.TWIN_STATUS_MISSED + 1))
    (h : e.twinState = 1 ∨ e.mirroring = true) :
    heartbeatMissed alive d =
      if 5 ≤ m then ((e.bump Root.HB_MISSED).s rootId Root.TWIN_STATUS_MISSED m).declareTakeover 1
      else (e.bump Root.HB_MISSED).s rootId Root.TWIN_STATUS_MISSED m := by
  rw [heartbeatMissed, Dev.aliveIn, ← he, hm]
  exact if_neg (by simp only [Bool.not_eq_true', Bool.or_eq_false_iff, decide_eq_false_iff_not]; grind)

end Missed

section Loss

variable {e : Dev} (he : e = d.s rootId Root.TWIN_STATUS_ALIVE_IN 0)
include he

/-- R475: in TAKEOVER the wait is over. -/
theorem twinAliveLoss_of_takeover (h : e.twinState = 4) : twinAliveLoss d = e.aliveWaitOver := by
  subst he
  exact if_pos h

/-- R474: a loss of TWIN_ALIVE_I declares. -/
theorem twinAliveLoss_of_other (h : e.twinState ≠ 4) : twinAliveLoss d = e.declareTakeover 2 := by
  subst he
  exact if_neg h

end Loss

section Link

variable {e : Dev} {up alive : Bool} {v : Nat} (hv : v = (if up && d.paired then 1 else 0))
  (he : e = d.s rootId Root.TWIN_STATUS_ALIVE_IN (if alive then 1 else 0))
include hv he

/-- R487: the alignment stands already. -/
theorem yokeLinkChange_of_same (h : e.g rootId Root.TWIN_STATUS_LINK_UP = v) : yokeLinkChange up alive d = e := by
  subst hv he
  exact if_pos h

/-- R487: the alignment changes. -/
theorem yokeLinkChange_of_new (h : e.g rootId Root.TWIN_STATUS_LINK_UP ≠ v) :
    yokeLinkChange up alive d = (e.s rootId Root.TWIN_STATUS_LINK_UP v).raise rootId 0x0A07 0 v := by
  subst hv he
  exact if_neg h

end Link

end Timers

section Takeover

variable {d : Dev} {rings : List (Nat × List (Nat × List (List Word)))} {cause t0 : Nat}

/-- R476: nothing is declared, or the twin still waits. -/
theorem mirrorFixed_of_waiting (h : d.twin.declared = none ∨ d.twin.declared = some (cause, t0, true)) :
    mirrorFixed rings d = d := by
  rcases h with h | h <;> simp only [mirrorFixed, h]

/-- R66, R476: the mirror is fixed and the partner's objects are built. -/
theorem mirrorFixed_of_declared {e : Dev} {n : Nat × Nat × Nat} (h : d.twin.declared = some (cause, t0, false))
    (hfixed : d.twin.fixed = none) (hstate : d.twinState = 4) (hpatch : d.img.patch = none)
    (hadopt : d.adopt { own := true, back := true } rings = (e, n)) :
    mirrorFixed rings d = { e with twin := { e.twin with fixed := some n } } := by
  simp only [mirrorFixed, h, hfixed, hadopt]
  exact if_neg (by simp [hstate, hpatch])

/-- R476: the mirror is not fixed yet. -/
theorem takeoverComplete_of_unfixed (h : d.twin.fixed = none) : takeoverComplete d = d := by
  rw [takeoverComplete, h]
  split
  · contradiction
  · rfl

/-- R473, R476, R527: the takeover completes. -/
theorem takeoverComplete_of_fixed {e : Dev} {n : Nat × Nat × Nat} {w : Bool}
    (h : d.twin.declared = some (cause, t0, w)) (hfixed : d.twin.fixed = some n) (hstate : d.twinState = 4)
    (he : e = ((d.setRecovery 0).dropMirror.setTwin 0).adopted n t0 cause) :
    takeoverComplete d = ({ e with twin := { e.twin with claim := true } } : Dev).finishLate := by
  subst he
  simp only [takeoverComplete, h, hfixed]
  exact if_neg (not_not.mpr hstate)

end Takeover

section Mirror

variable {d : Dev} {qs sas : List Nat}

theorem mirrorRecordSend_of_off (h : d.mirroring = false) : mirrorRecordSend qs sas d = d := if_pos (by simp [h])

/-- R469 to R471: the head and sequence records due leave, then what was deferred. -/
theorem mirrorRecordSend_of_on {e : Dev} (h : d.mirroring = true)
    (he : e = { d with
      twin := { d.twin with
        heads := d.twin.heads.filter (fun q => !qs.contains q)
        saHeads := d.twin.saHeads.filter (fun i => !sas.contains i) } }) :
    mirrorRecordSend qs sas d =
      ((d.twin.saHeads.filter (fun i => sas.contains i)).foldl
        (fun (d : Dev) i => if d.sa i SA.STATE = 0 then d else d.touch 3 i)
        ((d.twin.heads.filter (fun q => qs.contains q)).foldl
          (fun (d : Dev) q => if d.qExists q then d.touch 5 q else d) e)).flushMirror := by
  rw [mirrorRecordSend, if_neg (by simp [h]), he]
  simp only [List.partition_eq_filter_filter]
  rfl

end Mirror

/-- Settles O53: each command, timer and link change by the lemma of its case. -/
theorem twinsAttachHeartbeatTakeOverSwitchAndDetach : Obligations.TwinsAttachHeartbeatTakeOverSwitchAndDetach := by
  unfold Obligations.TwinsAttachHeartbeatTakeOverSwitchAndDetach
  rintro s d hacts rfl
  refine ⟨fun pf idx c e he => ⟨?attach, ?detach, ?handover⟩, ?switchover, ?attaching,
    State.run_acts_eq (f := fun d => d.yokeResend (fun _ => true)) hacts rfl,
    fun h => State.run_acts_eq hacts (yokeAckTimer_of_due h), fun h => State.run_acts_eq hacts (yokeAckTimer_of_idle h),
    fun h => State.run_acts_eq hacts (heartbeatSend_of_live h),
    fun h1 hm => State.run_acts_eq hacts (heartbeatSend_of_other h1 hm), ?missed, ?loss,
    State.run_acts_eq (f := fun d => d.aliveWaitOver) hacts rfl, ?takeover, ?records, ?link⟩
  case attach =>
    intro hready q base n hq hbase hn
    refine ⟨fun h => State.run_acts_eq hacts (twinAttach_of_refused he hready h), fun hpaired hstate => ⟨fun h =>
      State.run_acts_eq hacts (twinAttach_of_badRange he hready hpaired hstate hq hbase hn h), ?_⟩⟩
    intro f hfit hapart hf g hg
    exact ⟨fun h => State.run_acts_eq hacts
        (twinAttach_of_range he hready hpaired hstate hq hbase hn hfit hapart hf hg h),
      fun x h => State.run_acts_eq hacts
        (twinAttach_of_heard he hready hpaired hstate hq hbase hn hfit hapart hf hg h)⟩
  case detach =>
    exact fun hready => ⟨fun h => State.run_acts_eq hacts (twinDetach_of_refused he hready h),
      fun h => State.run_acts_eq hacts (twinDetach_of_attached he hready h)⟩
  case handover =>
    exact fun hready => ⟨fun h => State.run_acts_eq hacts (twinSwitchover_of_refused he hready h),
      fun sls f h hsls hf => State.run_acts_eq hacts (twinSwitchover_of_attached he hready h hsls hf)⟩
  case switchover =>
    refine ⟨fun h => ⟨State.run_acts_eq hacts (switchoverSend_of_none h),
      State.run_acts_eq hacts (switchoverTimeout_of_none h)⟩, fun scope sls => ⟨?_, fun h =>
      State.run_acts_eq hacts (switchoverTimeout_of_sent h)⟩⟩
    intro h hstate hfrozen hunacked hdeferred hheads
    exact State.run_acts_eq hacts (switchoverSend_of_frozen h hstate hfrozen hunacked hdeferred hheads)
  case attaching =>
    exact ⟨fun h => State.run_acts_eq hacts (helloRepeat_of_hello h), fun h => State.run_acts_eq hacts (helloRepeat_of_other h),
      fun h => ⟨State.run_acts_eq hacts (attachTimeout_of_attaching h), fun hdown =>
        State.run_acts_eq hacts ((yokeDownTimeout_of_down hdown).trans (attachTimeout_of_attaching h))⟩,
      fun h1 h2 => State.run_acts_eq hacts (attachTimeout_of_other h1 h2),
      fun h => State.run_acts_eq hacts (yokeDownTimeout_of_up h)⟩
  case missed =>
    intro alive e m he hm
    refine ⟨fun h1 h2 => State.run_acts_eq hacts (heartbeatMissed_of_other he h1 h2), fun h => ?_⟩
    have hmissed := heartbeatMissed_of_live he hm h
    exact ⟨fun hlt => State.run_acts_eq hacts (hmissed.trans (if_neg (Nat.not_le.mpr hlt))),
      fun hle => State.run_acts_eq hacts (hmissed.trans (if_pos hle))⟩
  case loss =>
    exact fun e he => ⟨fun h => State.run_acts_eq hacts (twinAliveLoss_of_takeover he h),
      fun h => State.run_acts_eq hacts (twinAliveLoss_of_other he h)⟩
  case takeover =>
    intro rings cause t0 w
    exact ⟨fun h => State.run_acts_eq hacts (mirrorFixed_of_waiting h),
      fun e n h hfixed hstate hpatch hadopt =>
        State.run_acts_eq hacts (mirrorFixed_of_declared h hfixed hstate hpatch hadopt),
      fun h => State.run_acts_eq hacts (takeoverComplete_of_unfixed h),
      fun e n h hfixed hstate he => State.run_acts_eq hacts (takeoverComplete_of_fixed h hfixed hstate he)⟩
  case records =>
    exact fun qs sas => ⟨fun h => State.run_acts_eq hacts (mirrorRecordSend_of_off h),
      fun e h he => State.run_acts_eq hacts (mirrorRecordSend_of_on h he)⟩
  case link =>
    exact fun up alive v e hv he => ⟨fun h => State.run_acts_eq hacts (yokeLinkChange_of_same hv he h),
      fun h => State.run_acts_eq hacts (yokeLinkChange_of_new hv he h)⟩

end Sys2Proof.Machine

/-! Slice and window commands (R327 to R339): what each leaves, case by case. -/

namespace Sys2Proof.Machine

section Slices

variable {d₀ d : Dev} {pf idx sl : Nat} {c : AdminCmd}

section Make

variable {ws : List Word} (hbad : d.badRec .slice sl = false)
include hbad

/-- R328: a slice that is not free. -/
theorem Dev.makeSlice_of_taken (h : sl = 0 ∨ d.sliceState sl ≠ 0) : d.makeSlice pf sl ws = (d, 0x3E) := by
  rw [Dev.makeSlice, if_neg (by simp [hbad]), if_pos]
  rcases h with h | h <;> simp [h]

/-- R328, R329: a context that passes every check becomes the slice's record, and the queues of its range join it. -/
theorem Dev.makeSlice_of_good {e : Dev} (h0 : sl ≠ 0) (hstate : d.sliceState sl = 0) (hadopt : d.adopting sl = false)
    (hform : sliceFormOk ws = true) (hrange : d.rangeOk pf sl (wget ws Slc.QBASE) (wget ws Slc.QCOUNT) = true)
    (hrxq : d.rxqOk (wget ws Slc.QBASE) (wget ws Slc.QCOUNT) (wget ws Slc.DEFAULT_RXQ) = true)
    (hpasid : d.pasidOk pf sl ws (wget ws Slc.PASID) = true) (hside : d.otherSide sl = false)
    (hfit : d.maxFit pf sl ws = true)
    (he : e = ((((((((d.clearRec .slice sl).clearRec .allow sl).setRec .slice sl (ws.take 4)).cs .slice sl Slc.STATE 1).cs
      .slice sl Slc.OWNER pf).cs .slice sl Slc.RESTORED 0).cs .slice sl Slc.SLICE_ID sl).cs .slice sl Slc.ALLOW_COUNT 0)) :
    d.makeSlice pf sl ws = ((e.queues.foldl (fun (d : Dev) x => if d.inSlice sl x.qid then
      ((d.setQf x.qid Qctx.SLICE sl).cadd .slice sl Slc.USED_QUEUES 1).touch 4 x.qid else d) e).touch 6 sl, Sc.ok) := by
  rw [Dev.makeSlice, if_neg (by simp [hbad]), if_neg (by simp [h0, hstate, hadopt]),
    if_neg (by simp [hform, hrange, hrxq, hpasid]), if_neg (by simp [hside]), if_neg (by simp [hfit]), he]

end Make

/-- R328: SLICE_CREATE ends with what its checks give, on the device they leave. -/
theorem sliceCreate_of_read (hd : d = d₀.admStart pf idx) (hready : d₀.admReady pf idx 0x0301 c = true)
    (hsl : sl = c.arg % 2 ^ 12) {bs : List Byte} {e : Dev} {st : Nat}
    (hmake : d.makeSlice pf sl (toWords 16 (sliceBytes bs 0 c.len)) = (e, st)) :
    sliceCreate pf idx (some bs) d₀ = e.admEnd pf idx st 0 := by
  rw [sliceCreate, Dev.admIn_of_read hready, ← hd]
  dsimp only
  rw [← hsl, hmake]

section Change

variable {ws : List Word}

/-- R339: a slice in a state that the command does not accept. -/
theorem Dev.changeSlice_of_refused {st : Nat} (hst : st = d.sliceStatus pf sl [1]) (hbad : st ≠ Sc.ok) :
    d.changeSlice pf sl ws = (d, st) := by
  subst hst
  exact if_pos hbad

/-- R328: the seven fields that SLICE_MODIFY reads are written. -/
theorem Dev.changeSlice_of_good (hstatus : d.sliceStatus pf sl [1] = Sc.ok) (hmask : maskOk sliceMask 16 ws = true)
    (hspoof : wget ws Slc.SPOOF_MODE ≠ 3) (heqs : wget ws Slc.MAX_EQS ≤ 1024) (hmws : wget ws Slc.MAX_MWS ≤ 65536)
    (hrxq : d.rxqOk (d.cg .slice sl Slc.QBASE) (d.cg .slice sl Slc.QCOUNT) (wget ws Slc.DEFAULT_RXQ) = true)
    (hfit : d.maxFit pf sl ws = true) (hconns : d.cg .slice sl Slc.USED_CONNS ≤ wget ws Slc.MAX_CONNS)
    (hsess : d.cg .slice sl Slc.USED_SESSIONS ≤ wget ws Slc.MAX_SESSIONS)
    (hueqs : d.cg .slice sl Slc.USED_EQS ≤ wget ws Slc.MAX_EQS) (humws : d.cg .slice sl Slc.USED_MWS ≤ wget ws Slc.MAX_MWS) :
    d.changeSlice pf sl ws = ((((((((d.cs .slice sl Slc.SPOOF_MODE (wget ws Slc.SPOOF_MODE)).cs .slice sl Slc.OTHER_OK
      (wget ws Slc.OTHER_OK)).cs .slice sl Slc.DEFAULT_RXQ (wget ws Slc.DEFAULT_RXQ)).cs .slice sl Slc.MAX_CONNS
      (wget ws Slc.MAX_CONNS)).cs .slice sl Slc.MAX_SESSIONS (wget ws Slc.MAX_SESSIONS)).cs .slice sl Slc.MAX_EQS
      (wget ws Slc.MAX_EQS)).cs .slice sl Slc.MAX_MWS (wget ws Slc.MAX_MWS)).touch 6 sl, Sc.ok) := by
  rw [Dev.changeSlice, if_neg (by simp [hstatus]), if_neg (by simp [hmask, hspoof, heqs, hmws, hrxq]),
    if_neg (by simp [hfit, hconns, hsess, hueqs, humws])]
  rfl

/-- R339: the slice is ACTIVE and the function's. -/
theorem Dev.sliceStatus_of_owned {l : List Nat} (h0 : sl ≠ 0) (hadopt : d.adopting sl = false)
    (hbad : d.badRec .slice sl = false) (hown : d.cg .slice sl Slc.OWNER = pf) (hin : d.sliceState sl ∈ l) :
    d.sliceStatus pf sl l = Sc.ok := by
  rw [Dev.sliceStatus, if_neg (by simp [h0, hadopt]), if_neg (by simp [hbad]), if_neg (by simp [hown]),
    if_pos (by simpa using hin)]

end Change

/-- R328: SLICE_MODIFY ends with what its checks give, on the device they leave. -/
theorem sliceModify_of_read (hd : d = d₀.admStart pf idx) (hready : d₀.admReady pf idx 0x0302 c = true)
    (hsl : sl = c.arg % 2 ^ 12) {bs : List Byte} {e : Dev} {st : Nat}
    (hchange : d.changeSlice pf sl (toWords 16 (sliceBytes bs 0 c.len)) = (e, st)) :
    sliceModify pf idx (some bs) d₀ = e.admEnd pf idx st 0 := by
  rw [sliceModify, Dev.admIn_of_read hready, ← hd]
  dsimp only
  rw [← hsl, hchange]

/-- R327: SLICE_QUERY of a slice that is free or the function's. -/
theorem sliceQuery_of_owned (hd : d = d₀.admStart pf idx) (hready : d₀.admReady pf idx 0x0303 c = true)
    (hsl : sl = c.arg % 2 ^ 12) (h0 : sl ≠ 0) (hadopt : d.adopting sl = false) (hbad : d.badRec .slice sl = false)
    (hown : d.sliceState sl = 0 ∨ d.cg .slice sl Slc.OWNER = pf) (reach : Bool) :
    sliceQuery pf idx reach d₀ = d.admOut c reach (ofWords (d.crec .slice sl 16)) 0 := by
  rw [sliceQuery, Dev.admRun_of_ready hready, ← hd]
  dsimp only
  rw [← hsl, if_neg h0, if_neg (by simp [hadopt]), if_neg (by simp [hbad]), if_neg (by rcases hown with h | h <;> simp [h])]

section Allow

variable (hd : d = d₀.admStart pf idx) (hready : d₀.admReady pf idx 0x0309 c = true) (hsl : sl = c.arg % 2 ^ 12)
  {bs : List Byte}
include hd hready hsl

/-- R339: ALLOW_WRITE of a slice in a state that it does not accept. -/
theorem allowWrite_of_refused {st : Nat} (hst : st = d.sliceStatus pf sl [1]) (hbad : st ≠ Sc.ok) :
    allowWrite pf idx (some bs) d₀ = d.admEnd pf idx st 0 := by
  rw [allowWrite, Dev.admIn_of_read hready, ← hd]
  dsimp only
  rw [← hsl, ← hst, if_pos hbad]

variable {n : Nat} {es : List (List Word)} (hn : n = c.len / 32)
  (hes : es = chunk 4 n (toWords (4 * n) (sliceBytes bs 0 c.len))) (hstatus : d.sliceStatus pf sl [1] = Sc.ok)
include hn hes hstatus

/-- R334: every entry may stand. -/
theorem allowWrite_of_good (hok : es.all allowOk = true) :
    allowWrite pf idx (some bs) d₀ = (d.putAllow sl es).admEnd pf idx Sc.ok n := by
  rw [allowWrite, Dev.admIn_of_read hready, ← hd]
  dsimp only
  rw [← hsl, if_neg (not_not.mpr hstatus), ← hn, ← hes, if_neg (by simp [hok])]

/-- R334: an entry breaks a rule. -/
theorem allowWrite_of_badEntry (hok : es.all allowOk = false) :
    allowWrite pf idx (some bs) d₀ = d.admEnd pf idx Sc.malformed 0 := by
  rw [allowWrite, Dev.admIn_of_read hready, ← hd]
  dsimp only
  rw [← hsl, if_neg (not_not.mpr hstatus), ← hn, ← hes, if_pos (by rw [hok]; rfl)]

end Allow

end Slices

section Windows

variable {d₀ d : Dev} {pf idx i : Nat} {c : AdminCmd}

section Create

variable (hd : d = d₀.admStart pf idx) (hready : d₀.admReady pf idx 0x030A c = true) (hi : i = c.arg % 65536)
  {bs : List Byte} {ws : List Word} (hws : ws = toWords 4 (sliceBytes bs 0 c.len)) (hbad : d.badRec .window i = false)
include hd hready hi hws hbad

/-- R337: a window that exists, or a record that may not stand. -/
theorem mwCreate_of_malformed (h : d.cg .window i Mw.VALID = 1 ∨ mwOk ws = false) :
    mwCreate pf idx (some bs) d₀ = d.admEnd pf idx Sc.malformed 0 := by
  rw [mwCreate, Dev.admIn_of_read hready, ← hd]
  dsimp only
  rw [← hi, ← hws, if_neg (by simp [hbad]), if_pos (by rcases h with h | h <;> simp [h])]

variable (hfree : d.cg .window i Mw.VALID = 0) (hok : mwOk ws = true) (hside : d.otherSide i = false)
include hfree hok hside

/-- R331: the slice takes no window more. -/
theorem mwCreate_of_refused {st : Nat} (hst : st = d.sliceCheck pf (wget ws Mw.SLICE) Slc.USED_MWS Slc.MAX_MWS)
    (hne : st ≠ Sc.ok) : mwCreate pf idx (some bs) d₀ = d.admEnd pf idx st 0 := by
  rw [mwCreate, Dev.admIn_of_read hready, ← hd]
  dsimp only
  rw [← hi, ← hws, if_neg (by simp [hbad]), if_neg (by simp [hfree, hok]), if_neg (by simp [hside]), ← hst, if_pos hne]

/-- R337, R338: the window is written and counted, and the command ends with its key. -/
theorem mwCreate_of_good {e : Dev} (hst : d.sliceCheck pf (wget ws Mw.SLICE) Slc.USED_MWS Slc.MAX_MWS = Sc.ok)
    (he : e = (((d.clearRec .window i).setRec .window i ws).cs .window i Mw.VALID 1).sliceInc (wget ws Mw.SLICE)
      Slc.USED_MWS) :
    mwCreate pf idx (some bs) d₀ = (e.touch 8 i).admEnd pf idx Sc.ok
      ((((d.clearRec .window i).setRec .window i ws).cs .window i Mw.VALID 1).mwKey i) := by
  rw [mwCreate, Dev.admIn_of_read hready, ← hd]
  dsimp only
  rw [← hi, ← hws, if_neg (by simp [hbad]), if_neg (by simp [hfree, hok]), if_neg (by simp [hside]),
    if_neg (not_not.mpr hst), he]

end Create

section Destroy

/-- R338: MW_DESTROY that goes on. -/
theorem mwDestroy_of_started {a : AdminCmd} (h : d.admin.find? (fun c =>
    c.pf = pf && c.idx = idx && c.op = 0x030B && c.started && c.done.isNone) = some a) :
    mwDestroy pf idx d = if d.keyBusy a.count then d else d.admEnd pf idx Sc.ok 0 := by simp only [mwDestroy, h]

variable (hd : d = d₀.admStart pf idx) (hready : d₀.admReady pf idx 0x030B c = true) (hi : i = c.arg % 65536)
  (hbad : d.badRec .window i = false) (hslice : d.badRec .slice (d.cg .window i Mw.SLICE) = false)
include hd hready hi hbad hslice

/-- R338: MW_DESTROY that starts, of a window whose record and slice are sound. -/
theorem mwDestroy_of_ready : mwDestroy pf idx d₀ =
    if d.cg .window i Mw.VALID = 0 || (d.cg .window i Mw.SLICE ≠ 0 && d.cg .slice (d.cg .window i Mw.SLICE) Slc.OWNER ≠ pf) then
      d.admEnd pf idx Sc.malformed 0
    else if d.cg .window i Mw.SLICE ≠ 0 && d.sliceState (d.cg .window i Mw.SLICE) ≠ 1 then d.admEnd pf idx 0x3E 0
    else if (d.dropMw i).keyBusy (d.mwKey i) then
      (d.dropMw i).setAdm pf idx (fun (c : AdminCmd) => { c with count := d.mwKey i })
    else (d.dropMw i).admEnd pf idx Sc.ok 0 := by
  have hfresh := Dev.admFresh_of_waits (Dev.admReady_iff.mp hready).1
  simp only [mwDestroy, Dev.find_started_of_fresh hfresh]
  rw [Dev.admRun_of_ready hready, ← hd]
  rw [← hi, if_neg (by simp [hbad, hslice])]

/-- R338: no such window. -/
theorem mwDestroy_of_absent (h : d.cg .window i Mw.VALID = 0) :
    mwDestroy pf idx d₀ = d.admEnd pf idx Sc.malformed 0 := by
  rw [mwDestroy_of_ready hd hready hi hbad hslice, if_pos (by simp [h])]

/-- R338: the window goes at once; the command ends unless an operation that passed the check still moves data. -/
theorem mwDestroy_of_owned (h : d.cg .window i Mw.VALID = 1) (hown : d.cg .window i Mw.SLICE = 0 ∨
    d.cg .slice (d.cg .window i Mw.SLICE) Slc.OWNER = pf ∧ d.sliceState (d.cg .window i Mw.SLICE) = 1) :
    mwDestroy pf idx d₀ = if (d.dropMw i).keyBusy (d.mwKey i) then
      (d.dropMw i).setAdm pf idx (fun (c : AdminCmd) => { c with count := d.mwKey i })
    else (d.dropMw i).admEnd pf idx Sc.ok 0 := by
  rw [mwDestroy_of_ready hd hready hi hbad hslice]
  rcases hown with h0 | ⟨hpf, hstate⟩
  · rw [if_neg (by simp [h, h0]), if_neg (by simp [h0])]
  · rw [if_neg (by simp [h, hpf]), if_neg (by simp [hstate])]

end Destroy

end Windows

/-- Settles O43: each clause is the equation of its command. -/
theorem sliceCommandsCreateChangeAndReadTheirRecords : Obligations.SliceCommandsCreateChangeAndReadTheirRecords := by
  unfold Obligations.SliceCommandsCreateChangeAndReadTheirRecords
  intro s pf idx c d sl hacts hd hsl
  refine ⟨fun hready => ⟨?create, State.run_acts_eq hacts (hd ▸ Dev.admIn_of_unread hready _)⟩,
    fun hready => ⟨?modify, State.run_acts_eq hacts (hd ▸ Dev.admIn_of_unread hready _)⟩, ?query,
    fun hready => ⟨?allow, State.run_acts_eq hacts (hd ▸ Dev.admIn_of_unread hready _)⟩,
    fun hready => ⟨?window, State.run_acts_eq hacts (hd ▸ Dev.admIn_of_unread hready _)⟩, ?destroy, ?again⟩
  case create =>
    rintro bs ws e rfl hbad
    refine ⟨fun h => State.run_acts_eq hacts (sliceCreate_of_read hd hready hsl (Dev.makeSlice_of_taken hbad h)), ?_⟩
    intro h0 hstate hadopt hform hrange hrxq hpasid hside hfit he
    exact State.run_acts_eq hacts (sliceCreate_of_read hd hready hsl
      (Dev.makeSlice_of_good hbad h0 hstate hadopt hform hrange hrxq hpasid hside hfit he))
  case modify =>
    rintro bs ws rfl
    refine ⟨fun st hst hne => State.run_acts_eq hacts
      (sliceModify_of_read hd hready hsl (Dev.changeSlice_of_refused hst hne)), ?_⟩
    intro h0 hadopt hbad hown hstate hmask hspoof heqs hmws hrxq hfit hconns hsess hueqs humws
    have hstatus := Dev.sliceStatus_of_owned (l := [1]) h0 hadopt hbad hown (by simp [hstate])
    exact State.run_acts_eq hacts (sliceModify_of_read hd hready hsl
      (Dev.changeSlice_of_good hstatus hmask hspoof heqs hmws hrxq hfit hconns hsess hueqs humws))
  case query =>
    intro hready h0 hadopt hbad hown
    exact ⟨State.run_acts_eq hacts (sliceQuery_of_owned hd hready hsl h0 hadopt hbad hown true),
      State.run_acts_eq hacts (sliceQuery_of_owned hd hready hsl h0 hadopt hbad hown false)⟩
  case allow =>
    intro bs n es hn hes
    refine ⟨fun st hst hne => State.run_acts_eq hacts (allowWrite_of_refused hd hready hsl hst hne), ?_⟩
    intro h0 hadopt hbad hown hstate
    have hstatus := Dev.sliceStatus_of_owned (l := [1]) h0 hadopt hbad hown (by simp [hstate])
    exact ⟨fun hok => State.run_acts_eq hacts (allowWrite_of_good hd hready hsl hn hes hstatus hok),
      fun hok => State.run_acts_eq hacts (allowWrite_of_badEntry hd hready hsl hn hes hstatus hok)⟩
  case window =>
    intro bs i ws e hi hws hbad
    refine ⟨fun h => State.run_acts_eq hacts (mwCreate_of_malformed hd hready hi hws hbad h), fun hfree hok hside => ?_⟩
    exact ⟨fun st hst hne => State.run_acts_eq hacts
        (mwCreate_of_refused hd hready hi hws hbad hfree hok hside hst hne),
      fun hst he => State.run_acts_eq hacts (mwCreate_of_good hd hready hi hws hbad hfree hok hside hst he)⟩
  case destroy =>
    intro hready i hi hbad hslice
    refine ⟨fun h => State.run_acts_eq hacts (mwDestroy_of_absent hd hready hi hbad hslice h), fun h hown => ?_⟩
    have hdestroy := mwDestroy_of_owned hd hready hi hbad hslice h hown
    exact ⟨fun hidle => State.run_acts_eq hacts (hdestroy.trans (if_neg (by simp [hidle]))),
      fun hbusy => State.run_acts_eq hacts (hdestroy.trans (if_pos hbusy))⟩
  case again =>
    intro a hfind
    have hdestroy := mwDestroy_of_started hfind
    exact ⟨fun hbusy => State.run_acts_eq hacts (hdestroy.trans (if_pos hbusy)),
      fun hidle => State.run_acts_eq hacts (hdestroy.trans (if_neg (by simp [hidle])))⟩

end Sys2Proof.Machine

/-! Freezing, saving, restoring, thawing and destroying a slice (R340 to R345), case by case. -/

namespace Sys2Proof.Machine

section Keeping

variable {d : Dev}

theorem Dev.touch_switchover (t i : Nat) : (d.touch t i).twin.switchover = d.twin.switchover := by
  rw [Dev.touch, Dev.mirror]
  split <;> rfl

theorem Dev.wakeUnit_twin (u : Nat) : (d.wakeUnit u).twin = d.twin := by
  rw [Dev.wakeUnit, Dev.wake]
  split <;> rfl

theorem Dev.ringQ_twin (q : Nat) : (d.ringQ q).twin = d.twin := by
  rw [Dev.ringQ]
  split
  · split <;> rfl
  · rw [Dev.wakeUnit_twin]
    rfl

theorem Dev.freezeEnd_twin (sl st : Nat) : (d.freezeEnd sl st).twin = d.twin := by
  rw [Dev.freezeEnd]
  split <;> rfl

/-- Ringing again the queues with a pending doorbell keeps what the pair holds. -/
theorem Dev.ringPending_twin (qs : List Nat) : ∀ d : Dev, (qs.foldl (fun (d : Dev) (q : Nat) =>
    if ((d.qst q).map QSt.rung).getD false then d.ringQ q else d) d).twin = d.twin := by
  induction qs with
  | nil => exact fun d => rfl
  | cons q qs ih =>
    intro d
    rw [List.foldl_cons, ih]
    split
    · exact Dev.ringQ_twin q
    · rfl

end Keeping

section Freezing

variable {d : Dev} {n : Nat}

/-- R341: nothing of the slice is outstanding. -/
theorem freezeDone_of_quiet (hstate : d.sliceState n = 2) (hnow : d.frozenNow n = true) :
    freezeDone n d = (((d.cs .slice n Slc.STATE 3).cadd .slice n Slc.FREEZE_GEN 1).touch 6 n).freezeEnd n Sc.ok :=
  if_neg (by simp [hstate, hnow])

theorem freezeDone_of_other (h : d.sliceState n ≠ 2 ∨ d.frozenNow n = false) : freezeDone n d = d :=
  if_pos (by rcases h with h | h <;> simp [h])

/-- R341: the freeze ends undone. -/
theorem Dev.freezeUndo_of_freezing {e : Dev} (hstate : d.sliceState n = 2)
    (he : e = (d.cs .slice n Slc.STATE 1).touch 6 n) :
    d.freezeUndo n = ((e.queuesOf n).foldl (fun (d : Dev) (q : Nat) =>
      if ((d.qst q).map QSt.rung).getD false then d.ringQ q else d) e).freezeEnd n 0x3F := by
  subst he
  exact if_neg (not_not.mpr hstate)

theorem Dev.freezeUndo_switchover (hstate : d.sliceState n = 2) :
    (d.freezeUndo n).twin.switchover = d.twin.switchover := by
  rw [Dev.freezeUndo_of_freezing hstate rfl, Dev.freezeEnd_twin, Dev.ringPending_twin, Dev.touch_switchover, Dev.cs_twin]

/-- R341: FREEZE_TIMEOUT that no switchover waits for. -/
theorem freezeTimeout_of_freezing (hstate : d.sliceState n = 2) (hswitch : d.twin.switchover = none) :
    freezeTimeout n d = d.freezeUndo n := by
  have hnone : (d.freezeUndo n).twin.switchover = none := by rw [Dev.freezeUndo_switchover hstate, hswitch]
  rw [freezeTimeout, if_neg (not_not.mpr hstate)]
  simp only [hnone]

theorem freezeTimeout_of_other (h : d.sliceState n ≠ 2) : freezeTimeout n d = d := if_pos h

end Freezing

section Commands

variable {d₀ d : Dev} {pf idx sl : Nat} {c : AdminCmd} (hd : d = d₀.admStart pf idx) (hsl : sl = c.arg % 2 ^ 12)

section Freeze

variable (hready : d₀.admReady pf idx 0x0304 c = true)
include hd hsl hready

/-- R339: SLICE_FREEZE in a state that it does not accept. -/
theorem sliceFreeze_of_refused (h : d.sliceStatus pf sl [1] ≠ Sc.ok) :
    sliceFreeze pf idx d₀ = d.admEnd pf idx (d.sliceStatus pf sl [1]) 0 := by
  rw [sliceFreeze, Dev.admRun_of_ready hready, ← hd]
  dsimp only
  rw [← hsl, if_pos h]

/-- R340: the freeze starts, and the command goes on. -/
theorem sliceFreeze_of_active (h : d.sliceStatus pf sl [1] = Sc.ok) : sliceFreeze pf idx d₀ = d.startFreeze sl := by
  rw [sliceFreeze, Dev.admRun_of_ready hready, ← hd]
  dsimp only
  rw [← hsl, if_neg (not_not.mpr h)]

end Freeze

section Save

variable (hready : d₀.admReady pf idx 0x0305 c = true) (reach : Bool)
include hd hsl hready

/-- R339: SLICE_SAVE in a state that it does not accept. -/
theorem sliceSave_of_refused (h : d.sliceStatus pf sl [3] ≠ Sc.ok) :
    sliceSave pf idx reach d₀ = d.admEnd pf idx (d.sliceStatus pf sl [3]) 0 := by
  rw [sliceSave, Dev.admRun_of_ready hready, ← hd]
  dsimp only
  rw [← hsl, if_pos h]

/-- R342: the saved state is written where the buffer holds it. -/
theorem sliceSave_of_frozen (h : d.sliceStatus pf sl [3] = Sc.ok) (hallow : d.badRec .allow sl = false)
    (hwindows : ∀ i ∈ d.windowsOf sl, d.badRec .window i = false)
    (hsessions : ∀ i ∈ d.sessionsOf sl, d.badRec .session i = false) :
    sliceSave pf idx reach d₀ = if c.len < (d.savedState pf sl).length then
        d.admEnd pf idx Sc.noResource (d.savedState pf sl).length
      else d.admOut c reach (d.savedState pf sl) (d.savedState pf sl).length := by
  have hw : (d.windowsOf sl).any (fun i => d.badRec .window i) = false := List.any_eq_false.mpr (by simpa using hwindows)
  have hs : (d.sessionsOf sl).any (fun i => d.badRec .session i) = false := List.any_eq_false.mpr (by simpa using hsessions)
  rw [sliceSave, Dev.admRun_of_ready hready, ← hd]
  dsimp only
  rw [← hsl, if_neg (not_not.mpr h), if_neg (by simp [hallow, hw, hs])]

end Save

section Restore

variable (hready : d₀.admReady pf idx 0x0306 c = true) {bs b : List Byte}
  {rings : List (Nat × List (Nat × List (List Word)))} (hb : b = sliceBytes bs 0 c.len) (hbad : d.badRec .slice sl = false)
include hd hsl hready hbad

/-- R343: only a free slice is restored. -/
theorem sliceRestore_of_taken (h : sl = 0 ∨ d.sliceState sl ≠ 0) :
    sliceRestore pf idx (some bs) rings d₀ = d.admEnd pf idx 0x3E 0 := by
  rw [sliceRestore, Dev.admIn_of_read hready, ← hd]
  dsimp only
  rw [← hsl, if_neg (by simp [hbad]), if_pos (by rcases h with h | h <;> simp [h])]

variable (h0 : sl ≠ 0) (hstate : d.sliceState sl = 0) (hadopt : d.adopting sl = false)
include h0 hstate hadopt hb

/-- R343, check 1: a saved state that is not whole. -/
theorem sliceRestore_of_broken (hread : readSaved b = none) :
    sliceRestore pf idx (some bs) rings d₀ = d.admEnd pf idx Sc.integrity 0 := by
  rw [sliceRestore, Dev.admIn_of_read hready, ← hd]
  dsimp only
  rw [← hsl, if_neg (by simp [hbad]), if_neg (by simp [h0, hstate, hadopt]), ← hb, hread]

variable {h : List Word} {r : List (List (List Word))} (hread : readSaved b = some (h, r))
include hread

/-- R343, check 2: records that are not allowed. -/
theorem sliceRestore_of_notAllowed (hok : savedOk h r = false) :
    sliceRestore pf idx (some bs) rings d₀ = d.admEnd pf idx Sc.malformed 0 := by
  rw [sliceRestore, Dev.admIn_of_read hready, ← hd]
  dsimp only
  rw [← hsl, if_neg (by simp [hbad]), if_neg (by simp [h0, hstate, hadopt]), ← hb, hread]
  exact if_pos (by simp [hok])

/-- R343, checks 3 and 4, and the objects created. -/
theorem sliceRestore_of_allowed {dst pasid st : Nat} {cs ss ms : List Nat} (hok : savedOk h r = true)
    (hdst : dst = c.arg / 2 ^ 20 % 2 ^ 18) (hpasid : pasid = c.arg / 2 ^ 40 % 2 ^ 20)
    (hcs : cs = savedNums b 5 (r.getD 4 []).length (2 ^ 22)) (hss : ss = savedNums b 6 (r.getD 5 []).length (2 ^ 17))
    (hms : ms = savedNums b 7 (r.getD 6 []).length 65536) (hst : st = d.restoreStatus pf sl dst pasid h r cs ss ms) :
    sliceRestore pf idx (some bs) rings d₀ = if st ≠ Sc.ok then d.admEnd pf idx st 0
      else (d.restore pf sl dst pasid r cs ss ms rings).admEnd pf idx Sc.ok 0 := by
  rw [sliceRestore, Dev.admIn_of_read hready, ← hd]
  dsimp only
  rw [← hsl, if_neg (by simp [hbad]), if_neg (by simp [h0, hstate, hadopt]), ← hb, hread]
  dsimp only
  rw [← hdst, ← hpasid, ← hcs, ← hss, ← hms, ← hst, if_neg (by simp [hok])]

end Restore

section Thaw

variable (hready : d₀.admReady pf idx 0x0307 c = true)
include hd hsl hready

/-- R339: SLICE_THAW in a state that it does not accept. -/
theorem sliceThaw_of_refused (h : d.sliceStatus pf sl [3] ≠ Sc.ok) :
    sliceThaw pf idx d₀ = d.admEnd pf idx (d.sliceStatus pf sl [3]) 0 := by
  rw [sliceThaw, Dev.admRun_of_ready hready, ← hd]
  dsimp only
  rw [← hsl, if_pos h]

/-- R344: the slice is ACTIVE again. -/
theorem sliceThaw_of_frozen (h : d.sliceStatus pf sl [3] = Sc.ok) :
    sliceThaw pf idx d₀ = (d.thaw sl).admEnd pf idx Sc.ok 0 := by
  rw [sliceThaw, Dev.admRun_of_ready hready, ← hd]
  dsimp only
  rw [← hsl, if_neg (not_not.mpr h)]

end Thaw

section Destroy

variable (hready : d₀.admReady pf idx 0x0308 c = true) (rings : List (Nat × List (Option (List Word))))
include hd hsl hready

/-- R339: SLICE_DESTROY in a state that it does not accept. -/
theorem sliceDestroy_of_refused (h : d.sliceStatus pf sl [1, 3] ≠ Sc.ok) :
    sliceDestroy pf idx rings d₀ = d.admEnd pf idx (d.sliceStatus pf sl [1, 3]) 0 := by
  rw [sliceDestroy, Dev.admRun_of_ready hready, ← hd]
  dsimp only
  rw [← hsl, if_pos h]

/-- R345: the slice goes, with a report from ACTIVE. -/
theorem sliceDestroy_of_accepted (h : d.sliceStatus pf sl [1, 3] = Sc.ok) :
    sliceDestroy pf idx rings d₀ = (d.dropSlice pf sl (d.sliceState sl = 1) rings).admEnd pf idx Sc.ok 0 := by
  rw [sliceDestroy, Dev.admRun_of_ready hready, ← hd]
  dsimp only
  rw [← hsl, if_neg (not_not.mpr h)]

end Destroy

end Commands

/-- Settles O44: each clause is the equation of its command; R339's status is that of a slice of the function. -/
theorem slicesFreezeSaveRestoreThawAndGo : Obligations.SlicesFreezeSaveRestoreThawAndGo := by
  unfold Obligations.SlicesFreezeSaveRestoreThawAndGo
  intro s pf idx c d sl hacts hd hsl
  refine ⟨fun hready => ⟨fun h => State.run_acts_eq hacts (sliceFreeze_of_refused hd hsl hready h), ?freeze⟩, ?timers,
    fun hready => ⟨fun h b => State.run_acts_eq hacts (sliceSave_of_refused hd hsl hready b h), ?save⟩,
    fun hready => ⟨?restore, fun rings => State.run_acts_eq hacts (hd ▸ Dev.admIn_of_unread hready _)⟩,
    fun hready => ⟨fun h => State.run_acts_eq hacts (sliceThaw_of_refused hd hsl hready h), ?thaw⟩,
    fun hready rings => ⟨fun h => State.run_acts_eq hacts (sliceDestroy_of_refused hd hsl hready rings h), ?destroy⟩⟩
  case freeze =>
    intro h0 hadopt hbad hown hstate
    have hstatus := Dev.sliceStatus_of_owned (l := [1]) h0 hadopt hbad hown (by simp [hstate])
    exact State.run_acts_eq hacts (sliceFreeze_of_active hd hsl hready hstatus)
  case timers =>
    intro n
    exact ⟨fun hstate hnow => State.run_acts_eq hacts (freezeDone_of_quiet hstate hnow),
      fun h => State.run_acts_eq hacts (freezeDone_of_other h),
      fun e hstate hswitch he => State.run_acts_eq hacts
        ((freezeTimeout_of_freezing hstate hswitch).trans (Dev.freezeUndo_of_freezing hstate he)),
      fun h => State.run_acts_eq hacts (freezeTimeout_of_other h)⟩
  case save =>
    intro h0 hadopt hbad hown hstate hallow hwindows hsessions
    have hstatus := Dev.sliceStatus_of_owned (l := [3]) h0 hadopt hbad hown (by simp [hstate])
    have hsave (reach : Bool) := sliceSave_of_frozen hd hsl hready reach hstatus hallow hwindows hsessions
    refine ⟨fun hshort b => State.run_acts_eq hacts ((hsave b).trans (if_pos hshort)), fun hfits => ⟨?_, ?_⟩⟩
    · exact State.run_acts_eq hacts ((hsave true).trans (if_neg (Nat.not_lt.mpr hfits)))
    · exact State.run_acts_eq hacts ((hsave false).trans (if_neg (Nat.not_lt.mpr hfits)))
  case restore =>
    intro bs rings b hb hbad
    refine ⟨fun h => State.run_acts_eq hacts (sliceRestore_of_taken hd hsl hready hbad h), fun h0 hstate hadopt => ⟨fun hread =>
      State.run_acts_eq hacts (sliceRestore_of_broken hd hsl hready hb hbad h0 hstate hadopt hread), ?_⟩⟩
    intro h r hread
    refine ⟨fun hok => State.run_acts_eq hacts
      (sliceRestore_of_notAllowed hd hsl hready hb hbad h0 hstate hadopt hread hok), ?_⟩
    intro hok dst pasid cs ss ms hdst hpasid hcs hss hms
    have hrestore {st : Nat} (hst : st = _) := sliceRestore_of_allowed (rings := rings) hd hsl hready hb hbad h0 hstate
      hadopt hread hok hdst hpasid hcs hss hms hst
    exact ⟨fun st hst hne => State.run_acts_eq hacts ((hrestore hst).trans (if_pos hne)),
      fun hst => State.run_acts_eq hacts ((hrestore rfl).trans (if_neg (not_not.mpr hst)))⟩
  case thaw =>
    intro h0 hadopt hbad hown hstate
    have hstatus := Dev.sliceStatus_of_owned (l := [3]) h0 hadopt hbad hown (by simp [hstate])
    exact State.run_acts_eq hacts (sliceThaw_of_frozen hd hsl hready hstatus)
  case destroy =>
    intro h0 hadopt hbad hown
    have destroyed (hin : d.sliceState sl ∈ [1, 3]) : sliceDestroy pf idx rings s.dev =
        (d.dropSlice pf sl (d.sliceState sl = 1) rings).admEnd pf idx Sc.ok 0 :=
      sliceDestroy_of_accepted hd hsl hready rings (Dev.sliceStatus_of_owned h0 hadopt hbad hown hin)
    refine ⟨fun hstate => State.run_acts_eq hacts ((destroyed (by simp [hstate])).trans ?_),
      fun hstate => State.run_acts_eq hacts ((destroyed (by simp [hstate])).trans ?_)⟩
    · rw [decide_eq_true hstate]
    · rw [decide_eq_false (by simp [hstate])]

end Sys2Proof.Machine

/-! Frames that a member of a relay domain receives (R490 to R500): which are taken, and what each does. -/

namespace Sys2Proof.Machine

section Taking

variable {d e : Dev} {typ : Nat} {x : RlFrame} {rest : List RlFrame}

theorem Dev.rlPop_of_empty (h : d.relay.rx = []) : d.rlPop typ = none := by simp only [Dev.rlPop, h]

theorem Dev.rlPop_of_other (h : d.relay.rx = x :: rest) (htyp : x.typ ≠ typ) : d.rlPop typ = none := by
  simp only [Dev.rlPop, h]
  exact if_pos htyp

/-- R493: the oldest frame leaves the list, its LINK_ACK noted. -/
theorem Dev.rlPop_of_front (h : d.relay.rx = x :: rest)
    (he : e = ({ d with relay := { d.relay with rx := rest } } : Dev).rlAcked x.src x.ack) (htyp : x.typ = typ) :
    d.rlPop typ = some (x, e) := by
  subst he
  simp only [Dev.rlPop, h]
  exact if_neg (not_not.mpr htyp)

variable (f : RlFrame → Dev → Dev)

theorem Dev.rlIn_of_none (h : d.rlPop typ = none) : d.rlIn typ f = d := by simp only [Dev.rlIn, h]

variable (hpop : d.rlPop typ = some (x, e))
include hpop

/-- R493: the sender has no link. -/
theorem Dev.rlIn_of_noLink (hlink : e.rlLink x.src = none) : d.rlIn typ f = e.bump Root.RELAY_DUP_DROP := by
  simp only [Dev.rlIn, hpop, hlink]

variable {l : RlLink} (hlink : e.rlLink x.src = some l)
include hlink

/-- R493: a reliable frame out of order. -/
theorem Dev.rlIn_of_gap (hseq : x.seq ≠ (l.rx + 1) % 2 ^ 32) :
    d.rlIn typ f = (e.bump Root.RELAY_DUP_DROP).rlAckTo x.src := by
  simp only [Dev.rlIn, hpop, hlink]
  exact if_pos hseq

/-- R493: a reliable frame in order is acknowledged and applied. -/
theorem Dev.rlIn_of_next {g : Dev} (hseq : x.seq = (l.rx + 1) % 2 ^ 32)
    (hg : g = (e.setLink x.src (fun (k : RlLink) => { k with rx := x.seq })).rlAckTo x.src) : d.rlIn typ f = f x g := by
  subst hg
  simp only [Dev.rlIn, hpop, hlink]
  exact if_neg (not_not.mpr hseq)

end Taking

section Unreliable

variable {d e : Dev} {x : RlFrame}

theorem linkAck_of_none (h : d.rlPop 0x04 = none) : linkAck d = d := by simp only [linkAck, h]

theorem linkAck_of_front (h : d.rlPop 0x04 = some (x, e)) : linkAck d = e := by simp only [linkAck, h]

section Keepalive

theorem keepalive_of_none (h : d.rlPop 0x03 = none) : keepalive d = d := by simp only [keepalive, h]

variable (hpop : d.rlPop 0x03 = some (x, e))
include hpop

theorem keepalive_of_noLink (hlink : e.rlLink x.src = none) : keepalive d = e := by simp only [keepalive, hpop, hlink]

variable {l : RlLink} (hlink : e.rlLink x.src = some l)
include hlink

/-- R494: a child's counts. -/
theorem keepalive_of_child (hkind : l.kind = 1) : keepalive d = (e.setLink x.src (fun (k : RlLink) => { k with
    epoch := x.num 0 1, count := x.num 2 2, heard := some (e.domainAt x.at_) })).rlRefresh := by
  simp only [keepalive, hpop, hlink]
  exact if_pos hkind

variable (hkind : l.kind ≠ 1)
include hkind

theorem keepalive_of_stranger (hparent : e.relay.parent ≠ some x.src) : keepalive d = e := by
  simp only [keepalive, hpop, hlink]
  rw [if_neg hkind]
  exact if_pos hparent

variable {k : Dev} (hparent : e.relay.parent = some x.src)
  (hk : k = (e.s rootId Root.RELAY_STATUS_EPOCH (x.num 0 1)).s rootId Root.RELAY_STATUS_LIVE (x.num 2 2))
include hparent hk

/-- R495, R499: the parent's epoch and LIVE, without an exchange of times. -/
theorem keepalive_of_parent (h : l.asked = none ∨ x.num 4 8 = 0) : keepalive d = k := by
  simp only [keepalive, hpop, hlink, ← hk]
  rw [if_neg hkind, if_neg (not_not.mpr hparent)]
  rcases h with h | h
  · simp only [h]
  · split
    · rfl
    · exact if_pos h

/-- R495: the parent's answer to this member's last frame ends an exchange of times. -/
theorem keepalive_of_exchange {t1 : Nat} (hasked : l.asked = some t1) (ht2 : x.num 4 8 ≠ 0) :
    keepalive d = (k.setLink x.src (fun (m : RlLink) => { m with asked := none })).setOffset
      ((((x.num 4 8 : Int) - t1) + ((x.sent : Int) - x.at_)) / 2) := by
  simp only [keepalive, hpop, hlink, ← hk]
  rw [if_neg hkind, if_neg (not_not.mpr hparent)]
  simp only [hasked]
  exact if_neg ht2

end Keepalive

section Join

theorem join_of_none (h : d.rlPop 0x01 = none) : join d = d := by simp only [join, h]

variable (hpop : d.rlPop 0x01 = some (x, e))
include hpop

/-- R494: JOIN is taken only while JOINED. -/
theorem join_of_out (hstate : e.rlState ≠ 2) : join d = e := by
  simp only [join, hpop]
  exact if_pos hstate

variable (hstate : e.rlState = 2)
include hstate

/-- R493: a JOIN that came before is acknowledged again. -/
theorem join_of_repeated {l : RlLink} (hlink : e.rlLink x.src = some l) (hkind : l.kind = 1) (hrx : l.rx = x.seq) :
    join d = (e.bump Root.RELAY_DUP_DROP).rlAckTo x.src := by
  simp only [join, hpop, hlink]
  rw [if_neg (not_not.mpr hstate)]
  exact if_pos (by simp [hkind, hrx])

/-- R494: a new JOIN, once what stood of its sender is gone: of member 0 the acting root alone takes it, beyond 64 children it is
refused except at the root, else it is accepted. -/
theorem join_of_new {a b : Dev} (hnew : ∀ l : RlLink, e.rlLink x.src = some l → ¬(l.kind = 1 ∧ l.rx = x.seq))
    (ha : a = (if e.relay.parent = some x.src then e.rlLost x.src else e))
    (hb : b = (if x.src ∈ a.rlKids then a.rlDropKid x.src else a)) :
    join d = if x.src = 0 && !b.on rootId Root.RELAY_STATUS_ACTING_ROOT then b
      else if (b.rlKids.filter (· ≠ x.src)).length < 64 || b.rlRoot then b.rlAccept x
      else ((b.rlAttach x.src 2 x.seq 0).rlAckTo x.src).rlSend x.src 0x02 0 0
        (beBytes 1 (((b.rlAttach x.src 2 x.seq 0).rlAckTo x.src).g rootId Root.RELAY_STATUS_EPOCH) ++ beBytes 1 1) := by
  have hdup : (match e.rlLink x.src with
      | some l => decide (l.kind = 1) && decide (l.rx = x.seq)
      | none => false) = false := by
    cases hlink : e.rlLink x.src with
    | none => rfl
    | some l => simpa using hnew l hlink
  have hkids : (if a.rlKids.contains x.src then a.rlDropKid x.src else a) = b := by simp only [hb, List.contains_iff_mem]
  rw [join, hpop]
  dsimp only
  rw [if_neg (not_not.mpr hstate)]
  refine (if_neg (by rw [Bool.not_eq_true]; exact hdup)).trans ?_
  rw [← ha, hkids]

end Join

end Unreliable

/-- Settles O54: a frame is popped by its type; a reliable one goes through the order of its link, and in order it has the effect
of its type. -/
theorem relayFramesAreTakenInOrderAcknowledgedAndApplied : Obligations.RelayFramesAreTakenInOrderAcknowledgedAndApplied := by
  unfold Obligations.RelayFramesAreTakenInOrderAcknowledgedAndApplied
  rintro s d hacts rfl
  refine ⟨?untaken, fun x rest e hrx he => ⟨?refused, fun l g hlink hseq hg => ?applied, ?linkAck, ?keepalive, ?join⟩⟩
  case untaken =>
    have idle {typ : Nat} {f : Dev → Dev} (hf : ∀ d : Dev, d.rlPop typ = none → f d = d) :
        (s.dev.relay.rx = [] → s.run f = .next s) ∧
        (∀ (x : RlFrame) (rest : List RlFrame), s.dev.relay.rx = x :: rest → x.typ ≠ typ → s.run f = .next s) :=
      ⟨fun h => State.run_acts_eq hacts (hf _ (Dev.rlPop_of_empty h)),
        fun x rest h htyp => State.run_acts_eq hacts (hf _ (Dev.rlPop_of_other h htyp))⟩
    have idleIn (typ : Nat) (f : RlFrame → Dev → Dev) := idle (f := fun d => d.rlIn typ f) (fun d h => Dev.rlIn_of_none f h)
    simp only [List.forall_mem_cons, List.not_mem_nil, false_imp_iff, implies_true, and_true]
    exact ⟨idle (fun d => join_of_none), idleIn 0x02 _, idle (fun d => keepalive_of_none), idle (fun d => linkAck_of_none),
      idleIn 0x05 _, idleIn 0x06 _, idleIn 0x10 _, idleIn 0x11 _, idleIn 0x20 _, idleIn 0x21 _, idleIn 0x30 _, idleIn 0x31 _,
      idleIn 0x40 _, idleIn 0x41 _, idleIn 0x50 _⟩
  case refused =>
    have refused (typ : Nat) (f : RlFrame → Dev → Dev) (htyp : x.typ = typ) :
        (e.rlLink x.src = none → s.run (fun d => d.rlIn typ f) = s.next (e.bump Root.RELAY_DUP_DROP)) ∧
        (∀ l : RlLink, e.rlLink x.src = some l → x.seq ≠ (l.rx + 1) % 2 ^ 32 →
          s.run (fun d => d.rlIn typ f) = s.next ((e.bump Root.RELAY_DUP_DROP).rlAckTo x.src)) :=
      ⟨fun h => State.run_acts_eq hacts (Dev.rlIn_of_noLink f (Dev.rlPop_of_front hrx he htyp) h),
        fun l h hseq => State.run_acts_eq hacts (Dev.rlIn_of_gap f (Dev.rlPop_of_front hrx he htyp) h hseq)⟩
    simp only [List.forall_mem_cons, List.not_mem_nil, false_imp_iff, implies_true, and_true]
    exact ⟨refused 0x02 _, refused 0x05 _, refused 0x06 _, refused 0x10 _, refused 0x11 _, refused 0x20 _, refused 0x21 _,
      refused 0x30 _, refused 0x31 _, refused 0x40 _, refused 0x41 _, refused 0x50 _⟩
  case applied =>
    have applied {typ : Nat} (f : RlFrame → Dev → Dev) {k : Dev} (htyp : x.typ = typ) (hk : f x g = k) :
        s.run (fun d => d.rlIn typ f) = s.next k :=
      State.run_acts_eq hacts ((Dev.rlIn_of_next f (Dev.rlPop_of_front hrx he htyp) hlink hseq hg).trans hk)
    refine ⟨fun htyp => ⟨?_, ?_, ?_⟩, fun htyp => ⟨?_, ?_⟩, fun htyp => ⟨?_, ?_, ?_⟩, fun htyp => ⟨?_, ?_⟩,
      fun htyp => applied _ htyp rfl, fun htyp => ⟨?_, ?_⟩, fun htyp => applied _ htyp rfl, fun htyp => applied _ htyp rfl,
      ?counts, fun htyp => applied _ htyp rfl, fun htyp => applied _ htyp rfl⟩
    · exact fun h => applied _ htyp (if_pos h)
    · exact fun h h1 => applied _ htyp ((if_neg (not_not.mpr h)).trans (if_pos h1))
    · exact fun h h1 => applied _ htyp ((if_neg (not_not.mpr h)).trans (if_neg h1))
    · exact fun h => applied _ htyp (if_pos (List.contains_iff_mem.mpr h))
    · exact fun h => applied _ htyp (if_neg (fun hc => h (List.contains_iff_mem.mp hc)))
    · exact fun h => applied _ htyp (if_pos h)
    · exact fun h h1 => applied _ htyp ((if_neg (not_not.mpr h)).trans (if_pos h1))
    · exact fun h h1 => applied _ htyp ((if_neg (not_not.mpr h)).trans (if_neg h1))
    · exact fun h => applied _ htyp (by rw [if_pos h])
    · exact fun h => applied _ htyp (by rw [if_neg (by simp [h])])
    · exact fun h => applied _ htyp (if_pos h)
    · exact fun h => applied _ htyp (if_neg (by simp [h]))
    case counts =>
      have counts (kind typ : Nat) (htyp : x.typ = typ) :
          (g.relay.parent = some x.src → s.run (fun d => d.rlIn typ (fun x d => d.rlUpIn kind x)) =
            s.next (g.rlTotals kind x.opId x.opSeq (x.num 0 2) (x.num 2 2) (x.num 4 2))) ∧
          (g.relay.parent ≠ some x.src → x.opSeq ≠ 0 → s.run (fun d => d.rlIn typ (fun x d => d.rlUpIn kind x)) =
            s.next (g.rlChildPart kind x (x.num 0 2) (x.num 2 2))) ∧
          (g.relay.parent ≠ some x.src → x.opSeq = 0 → g.rlRoot = true →
            s.run (fun d => d.rlIn typ (fun x d => d.rlUpIn kind x)) =
              s.next (g.rlAssign kind x.opId x.src (x.num 8 1) [])) ∧
          (g.relay.parent ≠ some x.src → x.opSeq = 0 → g.rlRoot = false →
            s.run (fun d => d.rlIn typ (fun x d => d.rlUpIn kind x)) = s.next (g.rlToParent typ 0 x.opId x.payload)) :=
        ⟨fun h => applied _ htyp (if_pos h), fun h h0 => applied _ htyp ((if_neg h).trans (if_neg h0)),
          fun h h0 hroot => applied _ htyp ((if_neg h).trans ((if_pos h0).trans (if_pos hroot))),
          fun h h0 hroot => applied _ htyp ((if_neg h).trans ((if_pos h0).trans ((if_neg (by simp [hroot])).trans
            (by rw [htyp]))))⟩
      simp only [List.forall_mem_cons, List.not_mem_nil, false_imp_iff, implies_true, and_true]
      exact ⟨counts 3 0x31, counts 4 0x41⟩
  case linkAck => exact fun htyp => State.run_acts_eq hacts (linkAck_of_front (Dev.rlPop_of_front hrx he htyp))
  case keepalive =>
    intro htyp
    have hpop := Dev.rlPop_of_front hrx he htyp
    refine ⟨fun hlink => State.run_acts_eq hacts (keepalive_of_noLink hpop hlink), fun l hlink => ⟨fun hkind =>
      State.run_acts_eq hacts (keepalive_of_child hpop hlink hkind), fun hkind hparent =>
      State.run_acts_eq hacts (keepalive_of_stranger hpop hlink hkind hparent), fun k hkind hparent hk => ⟨fun h =>
      State.run_acts_eq hacts (keepalive_of_parent hpop hlink hkind hparent hk h), fun t1 hasked ht2 =>
      State.run_acts_eq hacts (keepalive_of_exchange hpop hlink hkind hparent hk hasked ht2)⟩⟩⟩
  case join =>
    intro htyp
    have hpop := Dev.rlPop_of_front hrx he htyp
    refine ⟨fun hstate => State.run_acts_eq hacts (join_of_out hpop hstate), fun l hstate hlink hkind hseq =>
      State.run_acts_eq hacts (join_of_repeated hpop hstate hlink hkind hseq), fun a b hstate hnew ha hb => ?_⟩
    have hjoin := join_of_new hpop hstate hnew ha hb
    refine ⟨fun h0 hacting => State.run_acts_eq hacts (hjoin.trans (if_pos (by simp [h0, hacting]))), fun h h64 => ?_,
      fun h h64 hroot => ?_⟩
    · refine State.run_acts_eq hacts (hjoin.trans ((if_neg ?_).trans (if_pos (by simpa using h64))))
      rcases h with h | h <;> simp [h]
    · refine State.run_acts_eq hacts (hjoin.trans ((if_neg ?_).trans (if_neg ?_)))
      · rcases h with h | h <;> simp [h]
      · simpa [hroot] using h64

end Sys2Proof.Machine

/-! What a member of a relay domain does by its own commands, instants and timers (R489 to R500). -/

namespace Sys2Proof.Machine

section Joining

variable {d e : Dev} {pf idx : Nat} {c : AdminCmd} (he : e = d.admStart pf idx)

/-- R489, R494, R499: the member keeps its peer table and asks its ancestors, member 0 the first level. -/
def Dev.rlJoining (e : Dev) (pf idx dom m n : Nat) (ps : List (Nat × Nat)) : Dev :=
  let f : Dev := ({ e with relay := { RelaySt.init with
    peers := ps
    size := n
    cmd := some (pf, idx)
    slot := e.relay.slot
    unread := e.relay.unread } } : Dev)
  let g := ((f.s rootId Root.RELAY_STATUS_STATE 1).s rootId Root.RELAY_STATUS_MEMBER_ID m).s rootId
    Root.RELAY_STATUS_DOMAIN_ID dom
  if m = 0 then g.rlSeek 1 g.rlFirst true else g.rlSeek 1 (rlAbove m) false

include he

/-- RELAY_JOIN whose buffer was read. -/
theorem relayJoin_of_read (hready : d.admReady pf idx 0x0801 c = true) {bs : List Byte} {m n : Nat} {ps : List (Nat × Nat)}
    (hm : m = c.arg / 2 ^ 16 % 2 ^ 12) (hn : n = c.arg / 2 ^ 32 % 2 ^ 13)
    (hps : ps = (List.range n).map (fun i =>
      (leNat (sliceBytes (sliceBytes bs 0 c.len) (16 * i) 8), leNat (sliceBytes (sliceBytes bs 0 c.len) (16 * i + 8) 8)))) :
    relayJoin pf idx (some bs) d =
      if e.rlOn = false then e.admEnd pf idx Sc.malformed 0
      else if e.rlState ≠ 0 then e.admEnd pf idx 0x1D 0
      else if e.rlEpoch = 0 ∨ n = 0 ∨ 4096 < n ∨ n ≤ m ∨ c.len ≠ 16 * n ∨ e.rlTableOk m n ps = false then
        e.admEnd pf idx Sc.malformed 0
      else e.rlJoining pf idx (c.arg % 2 ^ 16) m n ps := by
  rw [relayJoin, Dev.admIn_of_read hready, ← he]
  dsimp only
  rw [← hm, ← hn, ← hps]
  refine if_congr (by simp) rfl (if_congr Iff.rfl rfl (if_congr ?_ rfl rfl))
  simp only [Bool.or_eq_true, decide_eq_true_eq, Bool.not_eq_true', or_assoc]

section Leave

variable (hready : d.admReady pf idx 0x0802 c = true)
include hready

theorem relayLeave_of_off (hoff : e.rlOn = false) : relayLeave pf idx d = e.admEnd pf idx Sc.malformed 0 := by
  rw [relayLeave, Dev.admRun_of_ready hready, ← he]
  exact if_pos (by simp [hoff])

variable (hon : e.rlOn = true)
include hon

theorem relayLeave_of_unjoined (hstate : e.rlState ≠ 2) : relayLeave pf idx d = e.admEnd pf idx 0x1D 0 := by
  rw [relayLeave, Dev.admRun_of_ready hready, ← he]
  exact (if_neg (by simp [hon])).trans (if_pos hstate)

/-- R494: the children are told where to attach, the parent that the member leaves. -/
theorem relayLeave_of_joined {f : Dev} (hstate : e.rlState = 2)
    (hf : f = (e.rlDown 0x06 0 0 (beBytes 2 (e.relay.parent.getD (e.rlKids.foldl min 4096)))).rlToParent 0x05 0 0 []) :
    relayLeave pf idx d = (({ f with relay := { f.relay with
      cmd := some (pf, idx)
      join := []
      joinKind := 0 } } : Dev).s rootId Root.RELAY_STATUS_STATE 3).rlLeft := by
  subst hf
  rw [relayLeave, Dev.admRun_of_ready hready, ← he]
  exact (if_neg (by simp [hon])).trans (if_neg (not_not.mpr hstate))

end Leave

end Joining

section Operations

variable {d e : Dev} {pf idx kind : Nat} {c : AdminCmd} {data : Option (List Byte)} {f : RlOp → Dev → Dev}
  (hready : d.admReady pf idx 0x0803 c = true) (he : e = d.admStart pf idx)

section Ready

include hready

/-- R500: a RELAY_OP is taken by the command of its kind, one of no listed kind by BARRIER. -/
theorem Dev.rlOp_of_otherKind (hne : c.arg % 16 ≠ kind) (h : (1 ≤ c.arg % 16 ∧ c.arg % 16 ≤ 4) ∨ kind ≠ 1) :
    d.rlOp pf idx kind data f = d := by
  have hw := (Dev.admReady_iff.mp hready).1
  simp only [Dev.rlOp, Dev.find_admin_of_waits hw]
  refine if_pos ?_
  rcases h with ⟨h1, h4⟩ | h
  · simp [hne, h1, h4]
  · simp [hne, h]

include he

/-- R500: no listed kind. -/
theorem Dev.rlOp_of_noKind (h : c.arg % 16 = 0 ∨ 4 < c.arg % 16) (hkind : kind = 1) :
    d.rlOp pf idx kind data f = e.admEnd pf idx Sc.malformed 0 := by
  have hw := (Dev.admReady_iff.mp hready).1
  have hbad : (!(decide (1 ≤ c.arg % 16) && decide (c.arg % 16 ≤ 4))) = true := by
    simp only [Bool.not_eq_true', Bool.and_eq_false_iff, decide_eq_false_iff_not]
    omega
  subst hkind
  simp only [Dev.rlOp, Dev.find_admin_of_waits hw, hbad, decide_true, Bool.and_self, Bool.not_true, Bool.and_false,
    Bool.false_eq_true, if_false]
  rw [Dev.admRun_of_ready hready, ← he]
  exact if_pos (by simp)

/-- R496, R497, R500: an operation of the command's kind starts, unless its form, the member's state, its buffer, the number of
operations or its OP_ID forbid it. -/
theorem Dev.rlOp_of_listed {opId : Nat} {o : RlOp} (hkind : c.arg % 16 = kind) (hlow : 1 ≤ kind) (hhigh : kind ≤ 4)
    (hid : opId = c.arg / 2 ^ 16 % 2 ^ 16)
    (ho : o = { kind := kind, opId := opId, seq := none, own := some (pf, idx)
                arg := if kind = 1 then c.arg / 2 ^ 48 else c.arg / 2 ^ 32 % 16
                payload := sliceBytes (data.getD []) 0 c.len
                entered := false, up := false, waits := e.rlKids, a := 0, b := 0 }) :
    d.rlOp pf idx kind data f =
      if e.rlOn = false ∨ (kind = 2 ∧ 256 < c.len) ∨ (kind ≠ 2 ∧ c.len ≠ 0) ∨
          (kind = 4 ∧ c.arg / 2 ^ 32 % 16 ≠ 1 ∧ c.arg / 2 ^ 32 % 16 ≠ 2) then e.admEnd pf idx Sc.malformed 0
      else if e.rlState ≠ 2 then e.admEnd pf idx 0x1D 0
      else if kind = 2 ∧ c.len ≠ 0 ∧ data = none then e.admEnd pf idx Sc.busError 0
      else if 16 ≤ (e.relay.ops.filter (fun (x : RlOp) => x.own.isSome)).length then e.admEnd pf idx Sc.noResource 0
      else if e.relay.ops.any (fun (x : RlOp) => rlIs kind opId x && x.own.isSome) then e.admEnd pf idx 0x1D 0
      else f o e := by
  have hw := (Dev.admReady_iff.mp hready).1
  have hgood : (!(decide (1 ≤ kind) && decide (kind ≤ 4))) = false := by simp [hlow, hhigh]
  simp only [Dev.rlOp, Dev.find_admin_of_waits hw, hgood, hkind, ne_eq, not_true, decide_false, Bool.false_and,
    Bool.false_eq_true, if_false]
  rw [Dev.admRun_of_ready hready, ← he, ← hid, ← ho]
  refine if_congr ?_ rfl (if_congr Iff.rfl rfl (if_congr ?_ rfl (if_congr Iff.rfl rfl (if_congr Iff.rfl rfl rfl))))
  · by_cases h2 : kind = 2 <;> cases e.rlOn <;> simp [h2]
  · simp [Option.isNone_iff_eq_none, and_assoc]

end Ready

/-- R496, R499: what an operation does that nothing keeps from starting. -/
def Dev.rlBegin (e : Dev) (kind opId : Nat) (o : RlOp) : Dev :=
  if kind = 1 then
    (if e.relay.ops.any (rlIs 1 opId) then
        e.setOps (rlIs 1 opId) (fun (x : RlOp) => { x with own := o.own, arg := o.arg })
      else ({ e with relay := { e.relay with ops := e.relay.ops ++ [o] } } : Dev)).rlPart 1 opId 1 0
  else if e.g rootId Root.RELAY_STATUS_EPOCH < rlNeeds kind o.payload.length then e.rlComplete o 0 0x1E 0
  else ({ e with relay := { e.relay with ops := e.relay.ops ++ [o] } } : Dev).rlRequest o

end Operations

section Instants

variable {d e : Dev}

theorem snapLatch_of_none (h : d.relay.snaps = []) : snapLatch d = d := by simp only [snapLatch, h]

/-- R496: the oldest armed snapshot is latched. -/
theorem snapLatch_of_armed {n i : Nat} {rest : List (Nat × Nat)} (h : d.relay.snaps = (n, i) :: rest) :
    snapLatch d = ({ d with relay := { d.relay with snaps := rest } } : Dev).rlLatch n i false := by
  simp only [snapLatch, h]
  rfl

section Resets

variable {t3 t4 t5 : Nat}

theorem domainResetApply_of_none (h : d.relay.resets = []) : domainResetApply t3 t4 t5 d = d := by
  simp only [domainResetApply, h]

/-- R496: the oldest armed reset is applied where RELAY_CFG allows it. -/
theorem domainResetApply_of_armed {n i kind : Nat} {rest : List (Nat × Nat × Nat)}
    (h : d.relay.resets = (n, i, kind) :: rest) (he : e = { d with relay := { d.relay with resets := rest } }) :
    domainResetApply t3 t4 t5 d = if !e.rlAllows kind then e
      else if kind = 2 then e.deviceReset 4 t3 t4 t5
      else (topEngines e.hitches).foldl (fun (d : Dev) u => unitReset u 0 0 0 d) e := by
  subst he
  simp only [domainResetApply, h]
  rfl

end Resets

end Instants

section Timers

variable {d : Dev} {m : Nat}

theorem relayRetransmit_of_noLink (h : d.rlLink m = none) : relayRetransmit m d = d := by simp only [relayRetransmit, h]

/-- R493: a frame has been sent four times. -/
theorem relayRetransmit_of_lost {l : RlLink} (h : d.rlLink m = some l) (htries : ∃ x ∈ l.sent, 3 ≤ x.tries) :
    relayRetransmit m d = d.rlLost m := by
  simp only [relayRetransmit, h]
  exact if_pos (by simpa using htries)

/-- R493: every frame not acknowledged is sent again. -/
theorem relayRetransmit_of_retry {l : RlLink} (h : d.rlLink m = some l) (htries : ∀ x ∈ l.sent, x.tries < 3) :
    relayRetransmit m d = l.sent.foldl (fun (d : Dev) (x : RlSent) =>
      (d.bump Root.RELAY_RETX).rlOut m x.typ x.seq x.opSeq x.opId x.payload)
      (d.setLink m (fun (l : RlLink) => { l with
        sent := l.sent.map (fun (x : RlSent) => { x with tries := x.tries + 1 }) })) := by
  simp only [relayRetransmit, h]
  exact if_neg (by simpa using htries)

theorem neighbourLost_of_member (h : d.rlState = 2 ∨ d.rlState = 3) : neighbourLost m d = d.rlLost m :=
  if_pos (by simpa using h)

theorem neighbourLost_of_other (h2 : d.rlState ≠ 2) (h3 : d.rlState ≠ 3) : neighbourLost m d = d :=
  if_neg (by simp [h2, h3])

theorem keepaliveSend_of_other (h : d.rlState ≠ 2) : keepaliveSend d = d := if_pos h

/-- R494, R495: KEEPALIVE goes to the parent, then to every child. -/
theorem keepaliveSend_of_joined {e : Dev} (h : d.rlState = 2)
    (hparent : ∀ p : Nat, d.relay.parent = some p →
      e = (d.rlOut p 0x03 0 0 0 (beBytes 1 d.rlLowest ++ beBytes 1 0 ++ beBytes 2 d.rlCount)).setLink p
        (fun (l : RlLink) => { l with asked := some d.time })) (hroot : d.relay.parent = none → e = d) :
    keepaliveSend d = e.rlKids.foldl (fun (d : Dev) m =>
      (d.rlOut m 0x03 0 0 0 (beBytes 1 (d.g rootId Root.RELAY_STATUS_EPOCH) ++ beBytes 1 0 ++
        beBytes 2 (d.g rootId Root.RELAY_STATUS_LIVE) ++ beBytes 8 (((d.rlLink m).bind RlLink.heard).getD 0))).setLink m
        (fun (l : RlLink) => { l with heard := none })) e := by
  rw [keepaliveSend, if_neg (not_not.mpr h)]
  cases hp : d.relay.parent with
  | none => rw [hroot hp]
  | some p => rw [hparent p hp]

theorem joinRetry_of_idle (h : d.relay.join = []) : joinRetry d = d := if_pos (by simp [h])

section Retry

variable (hjoin : d.relay.join ≠ [])
include hjoin

/-- R494: a member that was not answered within 1 s returns to OUT. -/
theorem joinRetry_of_late (hid : d.rlId ≠ 0) (hlate : 1000000000 ≤ d.time - d.relay.joinAt) :
    joinRetry d = (d.rlCmdEnd 0x1F 0).rlLeaveDomain :=
  (if_neg (by simp [hjoin])).trans (if_pos (by simp [hid, hlate]))

variable (hearly : d.rlId = 0 ∨ d.time - d.relay.joinAt < 1000000000)
include hearly

/-- R494: a JOIN that waited for an acknowledgement leaves now. -/
theorem joinRetry_of_after (hafter : d.relay.after ≠ none) : joinRetry d = d.rlAsk := by
  refine (if_neg (by simp [hjoin])).trans ((if_neg ?_).trans (if_pos (Option.isSome_iff_ne_none.mpr hafter)))
  rcases hearly with h | h <;> simp [h]

/-- R494: the next ancestor is asked. -/
theorem joinRetry_of_next (hafter : d.relay.after = none) : joinRetry d = d.rlNextAsk := by
  refine (if_neg (by simp [hjoin])).trans ((if_neg ?_).trans (if_neg (by simp [hafter])))
  rcases hearly with h | h <;> simp [h]

end Retry

section Barrier

variable {opId : Nat}

theorem barrierTimeout_of_none (h : d.relay.ops.find? (rlIs 1 opId) = none) : barrierTimeout opId d = d := by
  simp only [barrierTimeout, h]

variable {o : RlOp} (hfind : d.relay.ops.find? (rlIs 1 opId) = some o)
include hfind

theorem barrierTimeout_of_other (h : d.rlRoot = false ∨ o.entered = false ∨ o.arg = 0) : barrierTimeout opId d = d := by
  simp only [barrierTimeout, hfind]
  refine if_pos ?_
  rcases h with h | h | h <;> simp [h]

/-- R496: the root releases the barrier. -/
theorem barrierTimeout_of_root {e : Dev} {n : Nat} (hroot : d.rlRoot = true) (hentered : o.entered = true) (harg : o.arg ≠ 0)
    (hnext : d.rlNext = (e, n)) : barrierTimeout opId d = e.rlRelease opId n (e.rlCount - o.a) := by
  simp only [barrierTimeout, hfind, hnext]
  exact if_neg (by simp [hroot, hentered, harg])

end Barrier

end Timers

/-- Settles O55: each command by its equation, the four operations by that of `Dev.rlOp`, and each instant and timer by the lemma
of its case. -/
theorem relayMembersJoinLeaveOperateAndKeepTheirTimes : Obligations.RelayMembersJoinLeaveOperateAndKeepTheirTimes := by
  unfold Obligations.RelayMembersJoinLeaveOperateAndKeepTheirTimes
  rintro s d hacts rfl
  refine ⟨fun pf idx c e hready he => ⟨State.run_acts_eq hacts (he ▸ Dev.admIn_of_unread hready _), ?join⟩,
    fun pf idx c e hready he => ?leave, fun pf idx data c e hready he => ?operate,
    fun h => State.run_acts_eq hacts (snapLatch_of_none h), fun n i rest h => State.run_acts_eq hacts (snapLatch_of_armed h),
    fun t3 t4 t5 => ⟨fun h => State.run_acts_eq hacts (domainResetApply_of_none h), ?reset⟩, fun m => ?links,
    fun h => State.run_acts_eq hacts (keepaliveSend_of_other h),
    fun e h hparent hroot => State.run_acts_eq hacts (keepaliveSend_of_joined h hparent hroot),
    fun h => State.run_acts_eq hacts (joinRetry_of_idle h), fun hjoin => ?retry, fun opId => ?barrier⟩
  case join =>
    exact fun bs m n ps hm hn hps => State.run_acts_eq hacts (relayJoin_of_read he hready hm hn hps)
  case leave =>
    exact ⟨fun hoff => State.run_acts_eq hacts (relayLeave_of_off he hready hoff),
      fun hon hstate => State.run_acts_eq hacts (relayLeave_of_unjoined he hready hon hstate),
      fun f hon hstate hf => State.run_acts_eq hacts (relayLeave_of_joined he hready hon hstate hf)⟩
  case operate =>
    have operate (kind : Nat) (f : RlOp → Dev → Dev) (hlow : 1 ≤ kind) (hhigh : kind ≤ 4)
        (hf : ∀ o : RlOp, o.kind = kind → f o e = e.rlBegin kind o.opId o) :
        (c.arg % 16 ≠ kind → (1 ≤ c.arg % 16 ∧ c.arg % 16 ≤ 4) ∨ kind ≠ 1 →
          s.run (fun d => d.rlOp pf idx kind (if kind = 2 then data else none) f) = .next s) ∧
        (c.arg % 16 = 0 ∨ 4 < c.arg % 16 → kind = 1 →
          s.run (fun d => d.rlOp pf idx kind (if kind = 2 then data else none) f) = s.next (e.admEnd pf idx Sc.malformed 0)) ∧
        (∀ (opId : Nat) (o : RlOp), c.arg % 16 = kind → opId = c.arg / 2 ^ 16 % 2 ^ 16 →
          o = { kind := kind, opId := opId, seq := none, own := some (pf, idx)
                arg := if kind = 1 then c.arg / 2 ^ 48 else c.arg / 2 ^ 32 % 16
                payload := sliceBytes ((if kind = 2 then data else none).getD []) 0 c.len
                entered := false, up := false, waits := e.rlKids, a := 0, b := 0 } →
          s.run (fun d => d.rlOp pf idx kind (if kind = 2 then data else none) f) = s.next
            (if e.rlOn = false ∨ (kind = 2 ∧ 256 < c.len) ∨ (kind ≠ 2 ∧ c.len ≠ 0) ∨
                (kind = 4 ∧ c.arg / 2 ^ 32 % 16 ≠ 1 ∧ c.arg / 2 ^ 32 % 16 ≠ 2) then e.admEnd pf idx Sc.malformed 0
            else if e.rlState ≠ 2 then e.admEnd pf idx 0x1D 0
            else if kind = 2 ∧ c.len ≠ 0 ∧ data = none then e.admEnd pf idx Sc.busError 0
            else if 16 ≤ (e.relay.ops.filter (fun (x : RlOp) => x.own.isSome)).length then e.admEnd pf idx Sc.noResource 0
            else if e.relay.ops.any (fun (x : RlOp) => rlIs kind opId x && x.own.isSome) then e.admEnd pf idx 0x1D 0
            else e.rlBegin kind opId o)) := by
      refine ⟨fun hne h => State.run_acts_eq hacts (Dev.rlOp_of_otherKind hready hne h),
        fun h hkind => State.run_acts_eq hacts (Dev.rlOp_of_noKind hready he h hkind), fun opId o hkind hid ho => ?_⟩
      have hbuffer : (kind = 2 ∧ c.len ≠ 0 ∧ (if kind = 2 then data else none) = none) ↔
          (kind = 2 ∧ c.len ≠ 0 ∧ data = none) := by by_cases h2 : kind = 2 <;> simp [h2]
      have hop := Dev.rlOp_of_listed (f := f) hready he hkind hlow hhigh hid ho
      have hbegin : f o e = e.rlBegin kind opId o := by rw [hf o (by rw [ho]), ho]
      refine State.run_acts_eq hacts (hop.trans ?_)
      rw [hbegin]
      exact if_congr Iff.rfl rfl (if_congr Iff.rfl rfl (if_congr hbuffer rfl rfl))
    have hstart (kind : Nat) (hne : kind ≠ 1) (o : RlOp) (ho : o.kind = kind) : e.rlStart o = e.rlBegin kind o.opId o := by
      rw [Dev.rlBegin, if_neg hne, ← ho]
      rfl
    refine List.forall_mem_cons.mpr ⟨operate 1 _ (by decide) (by decide) (fun o _ => rfl), ?_⟩
    refine List.forall_mem_cons.mpr ⟨operate 2 _ (by decide) (by decide) (hstart 2 (by decide)), ?_⟩
    refine List.forall_mem_cons.mpr ⟨operate 3 _ (by decide) (by decide) (hstart 3 (by decide)), ?_⟩
    exact List.forall_mem_singleton.mpr (operate 4 _ (by decide) (by decide) (hstart 4 (by decide)))
  case reset =>
    intro n i kind rest e h he
    have hreset := domainResetApply_of_armed (t3 := t3) (t4 := t4) (t5 := t5) h he
    exact ⟨fun hno => State.run_acts_eq hacts (hreset.trans (if_pos (by simp [hno]))),
      fun hok hkind => State.run_acts_eq hacts (hreset.trans ((if_neg (by simp [hok])).trans (if_pos hkind))),
      fun hok hkind => State.run_acts_eq hacts (hreset.trans ((if_neg (by simp [hok])).trans (if_neg hkind)))⟩
  case links =>
    exact ⟨fun h => State.run_acts_eq hacts (relayRetransmit_of_noLink h),
      fun l h => ⟨fun htries => State.run_acts_eq hacts (relayRetransmit_of_lost h htries),
        fun htries => State.run_acts_eq hacts (relayRetransmit_of_retry h htries)⟩,
      fun h => State.run_acts_eq hacts (neighbourLost_of_member h),
      fun h2 h3 => State.run_acts_eq hacts (neighbourLost_of_other h2 h3)⟩
  case retry =>
    exact ⟨fun hid hlate => State.run_acts_eq hacts (joinRetry_of_late hjoin hid hlate),
      fun hearly hafter => State.run_acts_eq hacts (joinRetry_of_after hjoin hearly hafter),
      fun hearly hafter => State.run_acts_eq hacts (joinRetry_of_next hjoin hearly hafter)⟩
  case barrier =>
    exact ⟨fun h => State.run_acts_eq hacts (barrierTimeout_of_none h), fun o hfind => ⟨fun h =>
      State.run_acts_eq hacts (barrierTimeout_of_other hfind h), fun e n hroot hentered harg hnext =>
      State.run_acts_eq hacts (barrierTimeout_of_root hfind hroot hentered harg hnext)⟩⟩

end Sys2Proof.Machine

/-! Link-level resets of a function and its readiness (R302 to R304, R516 to R520), case by case. -/

namespace Sys2Proof.Machine

/-- What is kept of an endpoint is no register. -/
@[simp] theorem Dev.setEp_regs (d : Dev) (pf : Nat) (f : EpSt → EpSt) : (d.setEp pf f).regs = d.regs := by
  rw [Dev.setEp]
  split <;> rfl

@[simp] theorem Dev.setEp_g (d : Dev) (pf : Nat) (f : EpSt → EpSt) (u : Nat) (x : Fld) : (d.setEp pf f).g u x = d.g u x :=
  Dev.g_congr (Dev.setEp_regs d pf f) u x

section Resets

variable {d : Dev} {pf : Nat}

/-- R304, R519: after a link-level reset CFG_READY reads 0. -/
theorem Dev.linkReset_cfgReady (kind : Nat) : (d.linkReset pf kind).g (epId pf) Ep.EP_CFG_CTL_CFG_READY = 0 := by
  rw [Dev.linkReset]
  simp (disch := decide) only [Dev.g_s_field, Dev.g_s_same, Nat.zero_mod]

/-- R516: the pin is low already. -/
theorem perstAssert_of_low (h : (d.ep pf).perst = true) : perstAssert pf d = d := if_pos h

/-- R516: outside Run and Hold only the level of the pin changes. -/
theorem perstAssert_of_sealed (h : (d.ep pf).perst = false) (hsealed : d.power.state = .sealed ∨ d.boot.tripped = true) :
    perstAssert pf d = d.setEp pf (fun (e : EpSt) => { e with perst := true }) := by
  rw [perstAssert, if_neg (by simp [h]), if_pos (by simpa using hsealed)]

/-- R516, R518: PERST_x_N falls. -/
theorem perstAssert_of_high (h : (d.ep pf).perst = false) (hrun : d.power.state ≠ .sealed) (htrip : d.boot.tripped = false) :
    perstAssert pf d = (d.linkReset pf 3).setEp pf (fun (e : EpSt) => { e with perst := true }) := by
  rw [perstAssert, if_neg (by simp [h]), if_neg (by simp [hrun, htrip])]

theorem hotReset_of_up (h : (d.ep pf).linkUp = true) : hotReset pf d = d.linkReset pf 2 := if_pos h

theorem hotReset_of_down (h : (d.ep pf).linkUp = false) : hotReset pf d = d := if_neg (by simp [h])

theorem flr_of_up (h : (d.ep pf).linkUp = true) : flr pf d = d.linkReset pf 1 := if_pos h

theorem flr_of_down (h : (d.ep pf).linkUp = false) : flr pf d = d := if_neg (by simp [h])

/-- R519: the work of an FLR, or of a Hot Reset whose link is up again, is finished. -/
theorem linkResetDone_of_pending (hkind : (d.ep pf).resetKind = 1 ∨ (d.ep pf).resetKind = 2) (hup : (d.ep pf).linkUp = true)
    (hlate : d.boot.late.contains pf = false) :
    linkResetDone pf d = (d.setReady pf 0).setEp pf (fun (e : EpSt) => { e with resetKind := 0 }) := by
  refine if_neg ?_
  rcases hkind with h | h <;> simpa [h, hup] using hlate

end Resets

section Training

variable {d : Dev} {pf rate rec : Nat} {flit : Bool}

/-- R303: no rate above the one offered. -/
theorem pcieLinkUp_of_fast (width common : Nat) (h : d.rateOffered pf < rate) :
    pcieLinkUp pf rate width common rec flit d = d := if_pos (by simp [Nat.not_le.mpr h])

/-- R302, R303: the link reaches L0 at the highest common rate and full width. -/
theorem pcieLinkUp_of_full {e f : Dev} (hperst : (d.ep pf).perst = false) (hlow : 1 ≤ rate) (hhigh : rate ≤ d.rateOffered pf)
    (hwidth : 16 ≤ d.g (epId pf) Ep.EP_LINK_CTL_MAX_WIDTH)
    (he : e = ((((d.s (epId pf) Ep.EP_LINK_STATUS_RATE rate).s (epId pf) Ep.EP_LINK_STATUS_WIDTH 16).s (epId pf)
      Ep.EP_LINK_STATUS_CUR_WIDTH 16).s (epId pf) Ep.EP_LINK_STATUS_FLIT (if flit || decide (6 ≤ rate) then 1 else 0)).s
        (epId pf) Ep.EP_LINK_STATUS_PM_STATE 0)
    (hf : f = (e.add (epId pf) Ep.RECOVERY rec).setEp pf
      (fun (e : EpSt) => { e with linkUp := true, l0pRun := 0, l0pReq := none }))
    (hrate : min rate (f.rateOffered pf) = rate) : pcieLinkUp pf rate 16 rate rec flit d = f := by
  rw [pcieLinkUp, if_neg (by simp [hperst, hlow, hhigh, hwidth])]
  rw [← he]
  dsimp only
  rw [← hf]
  exact if_neg (by simp [hrate])

end Training

section Ready

variable {d : Dev} {pf : Nat}

theorem cfgReadyCmd_of_ready (h : d.g (epId pf) Ep.EP_CFG_CTL_CFG_READY = 1) : cfgReadyCmd pf d = d :=
  if_pos (by simp [Dev.on, h])

theorem readyTimeout_of_ready (h : d.g (epId pf) Ep.EP_CFG_CTL_CFG_READY = 1) : readyTimeout pf d = d :=
  if_pos (by simp [Dev.on, h])

variable (h : d.g (epId pf) Ep.EP_CFG_CTL_CFG_READY = 0)
include h

/-- R304, R528: the first CFG_READY of either endpoint sets BOOT_TIME.READY_MS. -/
theorem cfgReadyCmd_of_first {e : Dev}
    (he : e = (d.s (epId pf) Ep.EP_CFG_CTL_CFG_READY 1).s (epId pf) Ep.EP_CFG_CTL_AUTO_READY 0)
    (hfirst : e.g rootId Root.BOOT_TIME_READY_MS = 0) :
    cfgReadyCmd pf d = e.s rootId Root.BOOT_TIME_READY_MS ((e.time - e.boot.t0) / 1000000) := by
  rw [cfgReadyCmd, if_neg (by simp [Dev.on, h]), Dev.setReady, ← he]
  exact if_neg (by simp [Dev.on, hfirst])

/-- R304: 900 ms after PERST_x_N rose. -/
theorem readyTimeout_of_late (hperst : (d.ep pf).perst = false) :
    readyTimeout pf d = (d.setReady pf 1).raise (epId pf) 0x0706 0 0 := if_neg (by simp [Dev.on, h, hperst])

end Ready

/-- Settles O41: each command by the lemma of its case. -/
theorem linksTrainResetAndBecomeReady : Obligations.LinksTrainResetAndBecomeReady := by
  unfold Obligations.LinksTrainResetAndBecomeReady
  intro s pf
  refine ⟨fun h => congrArg (State.next s) (perstAssert_of_low h),
    fun h hsealed => congrArg (State.next s) (perstAssert_of_sealed h hsealed),
    fun h hrun htrip => ⟨congrArg (State.next s) (perstAssert_of_high h hrun htrip), ?_⟩, rfl,
    fun hacts => ⟨fun h => ⟨?_, ?_⟩, fun h => ⟨?_, ?_, Dev.linkReset_cfgReady 2, Dev.linkReset_cfgReady 1⟩, ?_, ?_, ?_,
      fun h => ⟨?_, ?_⟩, fun h hzero => ⟨?_, ?_⟩⟩⟩
  · rw [Dev.setEp_g, Dev.linkReset_cfgReady]
  · exact State.run_acts_eq hacts (hotReset_of_down h)
  · exact State.run_acts_eq hacts (flr_of_down h)
  · exact State.run_acts_eq hacts (hotReset_of_up h)
  · exact State.run_acts_eq hacts (flr_of_up h)
  · exact fun rate width common rec flit h => State.run_acts_eq hacts (pcieLinkUp_of_fast width common h)
  · exact fun rate rec flit d hperst hlow hhigh hwidth hd e he hrate =>
      State.run_acts_eq hacts (pcieLinkUp_of_full hperst hlow hhigh hwidth hd he hrate)
  · exact fun hkind hup hlate => State.run_acts_eq hacts (linkResetDone_of_pending hkind hup hlate)
  · exact State.run_acts_eq hacts (cfgReadyCmd_of_ready h)
  · exact State.run_acts_eq hacts (readyTimeout_of_ready h)
  · exact fun d hd hfirst => State.run_acts_eq hacts (cfgReadyCmd_of_first h hd hfirst)
  · exact fun hperst => State.run_acts_eq hacts (readyTimeout_of_late h hperst)

end Sys2Proof.Machine

/-! The host endpoint (R304 to R325): configuration requests, the ROM shadow, link power, translations and DOE, case by case. -/

namespace Sys2Proof.Machine

section Configuration

variable {d : Dev} {pf reg be : Nat}

/-- With all four byte enables a write reaches every bit of the dword. -/
theorem byteMask_full :
    ((List.range 4).map (fun i => if 15 / 2 ^ i % 2 = 1 then 0xFF * 2 ^ (8 * i) else 0)).foldl (· + ·) 0 = 0xFFFFFFFF := by
  decide

theorem configRequest_of_down {w : Option Nat} (h : (d.ep pf).linkUp = false) : configRequest pf reg be w d = d :=
  if_pos (by simp [h])

variable (hup : (d.ep pf).linkUp = true)
include hup

/-- R304: a request before CFG_READY is answered with RRS. -/
theorem configRequest_of_unready {w : Option Nat} (h : d.g (epId pf) Ep.EP_CFG_CTL_CFG_READY = 0) :
    configRequest pf reg be w d = (d.emit (.cfgCpl pf none)).add (epId pf) Ep.RRS_SENT 1 :=
  (if_neg (by simp [hup])).trans (if_pos (by simp [Dev.on, h]))

variable (hready : d.g (epId pf) Ep.EP_CFG_CTL_CFG_READY = 1)
include hready

/-- R305: vendor and device identity. -/
theorem configRequest_of_identity : configRequest pf 0 be none d = d.emit (.cfgCpl pf (some 0x32001F9C)) :=
  (if_neg (by simp [hup])).trans ((if_neg (by simp [Dev.on, hready])).trans rfl)

/-- R304 to R307, R318: a write of a whole dword. -/
theorem configRequest_of_write (v : Nat) : configRequest pf reg 15 (some v) d =
    (((d.cfgStore pf (reg % 4096 / 4 * 4) 0xFFFFFFFF v).cfgEffect pf (reg % 4096 / 4 * 4) 0xFFFFFFFF v).tellLtr d pf).emit
      (.cfgCpl pf (some 0)) := by
  rw [← byteMask_full]
  exact (if_neg (by simp [hup])).trans (if_neg (by simp [Dev.on, hready]))

end Configuration

section Rom

variable {d : Dev} {pf : Nat}

theorem romData_of_ready (h : d.g (epId pf) Ep.EP_CFG_CTL_CFG_READY = 1) (v : Word) : romData pf v d = d :=
  if_pos (by simp [Dev.on, h])

/-- R317: 8 bytes are stored at ROM_ADDR, which moves on. -/
theorem romData_of_unready (h : d.g (epId pf) Ep.EP_CFG_CTL_CFG_READY = 0) (v : Word) : romData pf v d =
    (d.writeMem .rom (pf * 2 ^ 20 + 8 * d.g (epId pf) Ep.ROM_ADDR_ADDR) (leBytes 8 v.toNat)).s (epId pf)
      Ep.ROM_ADDR_ADDR (d.g (epId pf) Ep.ROM_ADDR_ADDR + 1) := if_neg (by simp [Dev.on, h])

end Rom

section Power

variable {d : Dev} {pf : Nat}

/-- R318: an idle link enters the deepest state enabled. -/
theorem aspmL1Entry_of_idle (hup : (d.ep pf).linkUp = true) (haspm : (d.ep pf).aspmL1 = true)
    (hpm : d.g (epId pf) Ep.EP_LINK_STATUS_PM_STATE < 2) : aspmL1Entry pf d = (d.s (epId pf) Ep.EP_LINK_STATUS_PM_STATE
      (if (d.ep pf).l12En then 4 else if (d.ep pf).l11En then 3 else 2)).add (epId pf) Ep.L1_ENTRIES 1 :=
  if_neg (by simp [hup, haspm, hpm])

/-- R318: the link returns to L0. -/
theorem aspmL1Exit_of_l1 (hlow : 2 ≤ d.g (epId pf) Ep.EP_LINK_STATUS_PM_STATE)
    (hhigh : d.g (epId pf) Ep.EP_LINK_STATUS_PM_STATE ≤ 4) :
    aspmL1Exit pf d = d.s (epId pf) Ep.EP_LINK_STATUS_PM_STATE (d.l0State pf) := if_pos (by simp [hlow, hhigh])

/-- R319: a request is outstanding. -/
theorem l0pWindow_of_asked {tx rx backlog : Nat} (h : (d.ep pf).l0pReq.isSome = true) : l0pWindow pf tx rx backlog d = d :=
  if_pos (by simp [h])

/-- R319: a backlog at reduced width asks for the full one. -/
theorem l0pWindow_of_backlog {tx rx backlog : Nat} (hup : (d.ep pf).linkUp = true) (hreq : (d.ep pf).l0pReq = none)
    (hen : (d.ep pf).l0pEn = true) (hauto : d.on (epId pf) Ep.EP_LINK_CTL_L0P_AUTO = true)
    (hflit : d.on (epId pf) Ep.EP_LINK_STATUS_FLIT = true)
    (hnarrow : d.g (epId pf) Ep.EP_LINK_STATUS_CUR_WIDTH < d.g (epId pf) Ep.EP_LINK_STATUS_WIDTH) (hbacklog : 16384 < backlog) :
    l0pWindow pf tx rx backlog d = d.setEp pf (fun (e : EpSt) =>
      { e with l0pReq := some (d.g (epId pf) Ep.EP_LINK_STATUS_WIDTH), l0pRun := 0 }) :=
  (if_neg (by simp [hup, hreq])).trans (if_pos (by simp [hup, hen, hauto, hflit, hnarrow, hbacklog]))

/-- R319: an answer that was not asked for. -/
theorem l0pPartnerChange_of_unasked {accept : Bool} (h : (d.ep pf).l0pReq = none) : l0pPartnerChange pf none accept d = d := by
  simp only [l0pPartnerChange, h]

/-- R319: the answer to the request. -/
theorem l0pPartnerChange_of_asked {accept : Bool} {w : Nat} (h : (d.ep pf).l0pReq = some w) :
    l0pPartnerChange pf none accept d = if accept then d.setWidth pf w
      else (d.add (epId pf) Ep.L0P_REFUSED 1).setEp pf (fun (e : EpSt) => { e with l0pRun := 0, l0pReq := none }) := by
  simp only [l0pPartnerChange, h]

end Power

section Translation

variable {d : Dev} {q : Nat}

/-- R320: a translation leaves, and the completion is sent. -/
theorem atsInvalidate_of_awake {e : Dev} {pf pasid page : Nat} (tag : Nat)
    (he : e = d.setEp pf (fun (e : EpSt) => { e with ats := e.ats.filter (fun (x : Nat × Nat) => !(x = (pasid, page))) }))
    (hawake : e.quiet pf = false) : atsInvalidate pf tag pasid page d = e.emit (.pcieMsg pf 1 tag) := by
  subst he
  exact if_neg (by simpa using hawake)

/-- R320: the page of a queue that uses translated addresses is cached. -/
theorem pageGroupResponse_of_resident {p : Nat} (page : Nat) (hats : d.qAts q = true) (hpasid : d.qPasid q = some p) :
    pageGroupResponse q page true d = d.setEp (d.qf q Qctx.OWNER) (fun (e : EpSt) =>
      if 16384 ≤ e.ats.length || e.ats.contains (p, page) then e else { e with ats := e.ats ++ [(p, page)] }) := by
  simp [pageGroupResponse, hats, hpasid]

/-- R320: only a queue that uses translated addresses waits for a page. -/
theorem Dev.pageFail_of_other (h : d.qExists q = false ∨ d.qAts q = false) : d.pageFail q = d :=
  if_pos (by rcases h with h | h <;> simp [h])

/-- R320: the job of a TX queue ends. -/
theorem Dev.pageFail_of_tx {e : Dev} (hexists : d.qExists q = true) (hats : d.qAts q = true)
    (he : e = d.bumpk (dmaOf q) Dma.PAGE_REQ_FAIL) (hkind : e.qf q Qctx.KIND = 1) :
    d.pageFail q = txJobFetch q [] false false e := by
  rw [Dev.pageFail, if_neg (by simp [hexists, hats])]
  simp only [← he, hkind]

end Translation

section Doe

variable {d : Dev} {pf : Nat} {obj : List Byte}

section Object

variable (hready : d.g (epId pf) Ep.EP_CFG_CTL_CFG_READY = 1) (hup : (d.ep pf).linkUp = true)
include hready hup

/-- R321: an object that is not as long as it says. -/
theorem doeObjectIn_of_broken
    (h : (obj.length + 3) / 4 < 2 ∨ leNat (sliceBytes obj 4 4) % 2 ^ 18 ≠ (obj.length + 3) / 4) :
    doeObjectIn pf obj d = d.setEp pf (fun (e : EpSt) => { e with doeErr := true }) := by
  refine (if_neg (by simp [Dev.on, hready, hup])).trans (if_pos ?_)
  simp only [Bool.or_eq_true, decide_eq_true_eq]
  exact h.elim (fun h => .inl (.inr h)) .inr

/-- R321: a whole object is answered. -/
theorem doeObjectIn_of_whole (hlong : (obj.length + 3) / 4 ≤ 16384) (hshort : 2 ≤ (obj.length + 3) / 4)
    (hsaid : leNat (sliceBytes obj 4 4) % 2 ^ 18 = (obj.length + 3) / 4) : doeObjectIn pf obj d = d.doeAnswer pf obj := by
  refine (if_neg (by simp [Dev.on, hready, hup])).trans (if_neg ?_)
  simp only [Bool.or_eq_true, decide_eq_true_eq, hsaid]
  omega

end Object

section Spdm

variable {n : Nat} (hvendor : leNat (sliceBytes obj 0 2) = 1) (htype : leNat (sliceBytes obj 2 1) = 1)
  (hn : n = spdmNeeds (leNat (sliceBytes (obj.drop 8) 1 1)))
include hvendor htype hn

/-- R322, R323: an SPDM message is answered at once, or behind a request for the random bytes of its answer. -/
theorem Dev.doeAnswer_of_spdm : d.doeAnswer pf obj = if n = 0 then d.spdmReply pf 1 (obj.drop 8) []
    else d.askRandom { pf := pf, adm := none, spdm := some (obj.drop 8), len := n, gen := [], fresh := false, at_ := d.time } := by
  simp only [Dev.doeAnswer, hvendor, htype, ← hn]
  simp

end Spdm

end Doe

section Quiet

variable {d : Dev} {pf : Nat}

theorem functionQuietEnd_of_quiet (h : d.quiet pf = true) : functionQuietEnd pf d = d := if_pos h

/-- R309: held writes leave in order, and waiting events are presented. -/
theorem functionQuietEnd_of_awake {e : Dev} (h : d.quiet pf = false)
    (he : e = (d.setEp pf (fun (e : EpSt) => { e with heldWrites := [], pmeSent := false })).emits (d.ep pf).heldWrites) :
    functionQuietEnd pf d = e.presentWaiting (fun w => (e.target w.ev).2.1 = pf) := by
  subst he
  exact if_neg (by simp [h])

end Quiet

/-- Settles O42: each command by the lemma of its case. -/
theorem endpointAnswersConfigurationDoePowerAndTranslation : Obligations.EndpointAnswersConfigurationDoePowerAndTranslation := by
  unfold Obligations.EndpointAnswersConfigurationDoePowerAndTranslation
  intro s pf hacts
  refine ⟨fun reg be w => ⟨fun h => State.run_acts_eq hacts (configRequest_of_down h),
      fun hup h => State.run_acts_eq hacts (configRequest_of_unready hup h),
      fun hup hready => ⟨State.run_acts_eq hacts (configRequest_of_identity hup hready),
        fun v => State.run_acts_eq hacts (configRequest_of_write hup hready v)⟩⟩,
    fun v => ⟨fun h => State.run_acts_eq hacts (romData_of_ready h v), fun h => State.run_acts_eq hacts (romData_of_unready h v)⟩,
    fun hup haspm hpm => State.run_acts_eq hacts (aspmL1Entry_of_idle hup haspm hpm),
    fun hlow hhigh => State.run_acts_eq hacts (aspmL1Exit_of_l1 hlow hhigh), ?window,
    fun h accept => State.run_acts_eq hacts (l0pPartnerChange_of_unasked h),
    fun w h => ⟨State.run_acts_eq hacts (l0pPartnerChange_of_asked h), State.run_acts_eq hacts (l0pPartnerChange_of_asked h)⟩,
    fun tag pasid page _ e he hawake => State.run_acts_eq hacts (atsInvalidate_of_awake tag he hawake), ?pages, ?doe,
    State.run_acts_eq (f := doeAbort pf) hacts rfl,
    fun h => State.run_acts_eq hacts (functionQuietEnd_of_quiet h),
    fun e h he => State.run_acts_eq hacts (functionQuietEnd_of_awake h he)⟩
  case window =>
    exact fun tx rx backlog => ⟨fun h => State.run_acts_eq hacts (l0pWindow_of_asked h),
      fun hup hreq hen hauto hflit hnarrow hbacklog =>
        State.run_acts_eq hacts (l0pWindow_of_backlog hup hreq hen hauto hflit hnarrow hbacklog)⟩
  case pages =>
    intro q page
    have failed : s.run (pageGroupResponse q page false) = s.run (fun d => d.pageFail q) := rfl
    refine ⟨fun p hats hpasid _ => State.run_acts_eq hacts (pageGroupResponse_of_resident page hats hpasid), fun h => ?_,
      fun hexists hats e he hkind => ?_⟩
    · have hfail := State.run_acts_eq (f := fun d => d.pageFail q) hacts (Dev.pageFail_of_other h)
      exact ⟨failed.trans hfail, hfail⟩
    · have hfail := State.run_acts_eq (f := fun d => d.pageFail q) hacts (Dev.pageFail_of_tx hexists hats he hkind)
      exact ⟨failed.trans hfail, hfail⟩
  case doe =>
    intro obj hready hup
    refine ⟨fun h => State.run_acts_eq hacts (doeObjectIn_of_broken hready hup h), fun hlong hshort hsaid => ?_⟩
    have hanswer := doeObjectIn_of_whole hready hup hlong hshort hsaid
    refine ⟨State.run_acts_eq hacts hanswer, fun n hvendor htype hn => ?_⟩
    have hspdm := hanswer.trans (Dev.doeAnswer_of_spdm hvendor htype hn)
    exact ⟨fun h => State.run_acts_eq hacts (hspdm.trans (if_pos h)), fun h => State.run_acts_eq hacts (hspdm.trans (if_neg h))⟩

end Sys2Proof.Machine

/-! The rings (R315, R354 to R372): doorbells, scans, TX jobs, receive writes and BACKEND queues, case by case. -/

namespace Sys2Proof.Machine

section Doorbells

variable {d : Dev} {pf q off n : Nat}

theorem doorbellWrite_of_silent (h : d.answers pf = false) : doorbellWrite pf q off n d = d := if_pos (by simp [h])

/-- R315: a page that is not open. -/
theorem doorbellWrite_of_closed (h : d.answers pf = true) (hpage : d.pageOpen pf q = false) :
    doorbellWrite pf q off n d = d.hostUnmappedAt pf 2 (q * 4096 + off) true :=
  (if_neg (by simp [h])).trans (if_neg (by simp [hpage]))

variable (h : d.answers pf = true) (hpage : d.pageOpen pf q = true)
include h hpage

theorem doorbellWrite_of_open : doorbellWrite pf q off n d = hostDoorbell pf q off n d :=
  (if_neg (by simp [h])).trans (if_pos hpage)

/-- R354: a write that is no doorbell. -/
theorem doorbellWrite_of_bad_bytes (hbad : n = 0 ∨ 8 ≤ off) :
    doorbellWrite pf q off n d = d.hgBump pf Hg.DB_DISCARD :=
  (doorbellWrite_of_open h hpage).trans (if_pos (by simpa using hbad))

variable (hn : n ≠ 0) (hoff : off < 8)
include hn hoff

/-- R354: page 0 rings the admin queue. -/
theorem doorbellWrite_of_admin (hq : q = 0) : doorbellWrite pf q off n d = ({ d with
    aqRung := if pf = 0 then (true, d.aqRung.2) else (d.aqRung.1, true) } : Dev).wakeUnit (epId pf) :=
  (doorbellWrite_of_open h hpage).trans ((if_neg (by simp [hn, hoff])).trans (if_pos hq))

/-- R354: a queue of the function is rung. -/
theorem doorbellWrite_of_queue (hq : q ≠ 0) (hex : d.qExists q = true) (hown : d.qf q Qctx.OWNER = pf) :
    doorbellWrite pf q off n d = d.ringQ q :=
  (doorbellWrite_of_open h hpage).trans
    ((if_neg (by simp [hn, hoff])).trans ((if_neg hq).trans (if_pos (by simp [hex, hown]))))

/-- R354: a page of no queue of the function. -/
theorem doorbellWrite_of_no_queue (hq : q ≠ 0) (hno : d.qExists q = false ∨ d.qf q Qctx.OWNER ≠ pf) :
    doorbellWrite pf q off n d = d.hgBump pf Hg.DB_DISCARD :=
  (doorbellWrite_of_open h hpage).trans
    ((if_neg (by simp [hn, hoff])).trans ((if_neg hq).trans (if_neg (by rcases hno with hno | hno <;> simp [hno]))))

end Doorbells

section Scans

variable {d : Dev} {q : Nat} {x : QSt} {ents : List (Option (List Word))} {aux : List (List Byte × List Byte)}
  (hx : d.qst q = some x)
include hx

theorem queueScan_of_idle (h : x.rung = false ∨ d.canScan q = false ∨ d.twinState = 5) : queueScan q ents aux d = d :=
  if_pos (by rcases h with h | h | h <;> simp [hx, h])

variable (hrung : x.rung = true) (hscan : d.canScan q = true) (htwin : d.twinState ≠ 5)
include hrung hscan htwin

/-- R365: the completion ring of a BACKEND queue. -/
theorem queueScan_of_backend (hkind : d.qf q Qctx.KIND = 6) : queueScan q ents aux d =
    (d.setQ q (fun (x : QSt) => { x with rung := false })).backScan q (ents.take (d.qSize q)) aux :=
  (if_neg (by simp [hx, hrung, hscan, htwin])).trans (if_pos hkind)

/-- R360: the buffers of an RX queue. -/
theorem queueScan_of_rx (hkind : d.qf q Qctx.KIND = 2) : queueScan q ents aux d =
    ((d.setQ q (fun (x : QSt) => { x with rung := false })).rxReady q ents).1 :=
  (if_neg (by simp [hx, hrung, hscan, htwin])).trans ((if_neg (by simp [hkind])).trans (if_pos hkind))

variable (hrx : d.qf q Qctx.KIND ≠ 2) (hback : d.qf q Qctx.KIND ≠ 6)
  {js : List Job} {err : Option (Nat × Nat)} {e : Dev} (hjobs : d.ringJobs q ents = (js, err))
include hrx hback hjobs

/-- R355: a job that cannot be taken yet keeps the queue rung. -/
theorem queueScan_of_untaken (htake : d.takeAll q js aux = (e, false)) : queueScan q ents aux d = e.settleFetch := by
  rw [queueScan, if_neg (by simp [hx, hrung, hscan, htwin]), if_neg hback, if_neg hrx]
  simp only [hjobs, htake]

variable (htake : d.takeAll q js aux = (e, true))
include htake

theorem queueScan_of_taken (herr : err = none) :
    queueScan q ents aux d = (e.setQ q (fun (x : QSt) => { x with rung := false })).settleFetch := by
  rw [queueScan, if_neg (by simp [hx, hrung, hscan, htwin]), if_neg hback, if_neg hrx]
  simp only [hjobs, htake, herr]

/-- R371: a structural error stops the queue. -/
theorem queueScan_of_error {code i : Nat} (herr : err = some (code, i)) (hcode : code ≠ 0x07) : queueScan q ents aux d =
    ((e.setQ q (fun (x : QSt) => { x with rung := false })).qErr q code i).settleFetch := by
  rw [queueScan, if_neg (by simp [hx, hrung, hscan, htwin]), if_neg hback, if_neg hrx]
  simp only [hjobs, htake, herr, if_neg hcode]

/-- R371: a ring that cannot be read counts as well. -/
theorem queueScan_of_unread {i : Nat} (herr : err = some (0x07, i)) : queueScan q ents aux d =
    (((e.setQ q (fun (x : QSt) => { x with rung := false })).qErr q 0x07 i).bumpk (dmaOf q)
      Dma.QUEUE_BUS_ERR).settleFetch := by
  rw [queueScan, if_neg (by simp [hx, hrung, hscan, htwin]), if_neg hback, if_neg hrx]
  simp only [hjobs, htake, herr, if_true]

end Scans

section TxJobs

variable {d : Dev} {q : Nat} {j : Job} {data : List Byte} {poison : Bool} (hj : d.grantedJob q = some j)
include hj

theorem txJobFetch_of_stalled (h : d.canFetch q = false) (ok : Bool) : txJobFetch q data ok poison d = d := by
  simp [txJobFetch, hj, h]

variable (hkind : d.qf q Qctx.KIND = 1) (h : d.canFetch q = true)
include hkind h

/-- R372: a read that failed completes the job. -/
theorem txJobFetch_of_unread : txJobFetch q data false poison d =
    (((d.payGrant q j 0).bumpk (dmaOf q) Dma.QUEUE_BUS_ERR).finishJob q
      j.idx Sc.busError (min data.length (j.bytes 1)) 0).settleFetch := by
  simp only [txJobFetch, hj]
  rw [if_neg (by simp [hkind, h])]
  rfl

/-- R356: a job that gives no frame. -/
theorem txJobFetch_of_malformed (hframes : txFrames (j.ents.getD 0 []) (sliceBytes data 0 (j.bytes 1)) = none) :
    txJobFetch q data true poison d =
      ((d.payGrant q j 0).finishJob q j.idx Sc.malformed (sliceBytes data 0 (j.bytes 1)).length 0).settleFetch := by
  simp only [txJobFetch, hj]
  rw [if_neg (by simp [hkind, h])]
  simp only [hframes]
  rfl

variable {fs : List (List Byte)} {e : Dev}
  (hframes : txFrames (j.ents.getD 0 []) (sliceBytes data 0 (j.bytes 1)) = some fs)
include hframes

/-- R358: the frames leave for the prism. -/
theorem txJobFetch_of_sent (hsend : ((d.payGrant q j fs.length).setJob q j.idx
      (fun (k : Job) => { k with moved := (sliceBytes data 0 (j.bytes 1)).length })).txSend q j poison fs = (e, true)) :
    txJobFetch q data true poison d = e.settleFetch := by
  simp only [txJobFetch, hj]
  rw [if_neg (by simp [hkind, h])]
  simp only [hframes, Option.map_some, Option.getD_some, if_true, Bool.not_true, Bool.false_eq_true, if_false, hsend]

/-- R336: enforcement dropped a frame. -/
theorem txJobFetch_of_dropped (hsend : ((d.payGrant q j fs.length).setJob q j.idx
      (fun (k : Job) => { k with moved := (sliceBytes data 0 (j.bytes 1)).length })).txSend q j poison fs = (e, false)) :
    txJobFetch q data true poison d =
      (e.finishJob q j.idx Sc.spoofDrop (sliceBytes data 0 (j.bytes 1)).length 0).settleFetch := by
  simp only [txJobFetch, hj]
  rw [if_neg (by simp [hkind, h])]
  simp only [hframes, Option.map_some, Option.getD_some, if_true, Bool.not_true, Bool.false_eq_true, if_false, hsend]

end TxJobs

section TxCompletions

variable {d : Dev} {q : Nat} {x : QSt} {j : Job} (hx : d.qst q = some x)
  (hj : x.jobs.find? (fun (j : Job) => j.result.isNone && j.moved ≠ 0) = some j)
include hx hj

/-- R109: a packet of the job has not left its prism. -/
theorem txJobComplete_of_in_prism (h : d.inPrism q j.idx = true) (wr : Bool) : txJobComplete q wr d = d := by
  simp only [txJobComplete, hx, Option.bind_some, hj]
  exact if_pos (by simp [h])

variable (hkind : d.qf q Qctx.KIND = 1) (h : d.inPrism q j.idx = false)
include hkind h

theorem txJobComplete_of_out (wr : Bool) :
    txJobComplete q wr d = (d.cqGate q wr).finishJob q j.idx Sc.ok j.moved 0 := by
  simp only [txJobComplete, hx, Option.bind_some, hj]
  exact if_neg (by simp [hkind, h])

end TxCompletions

theorem Dev.cqGate_of_written (d : Dev) (q : Nat) : d.cqGate q true = d := rfl

/-- R372: a failed completion write stops a CQ that still runs. -/
theorem Dev.cqGate_of_unwritten {d : Dev} {q : Nat} (h : d.qstate (d.qf q Qctx.CQ) ≠ qError) : d.cqGate q false =
    (d.cqError (d.qf q Qctx.CQ) (d.qf (d.qf q Qctx.CQ) Qctx.HEAD)).bumpk (dmaOf (d.qf q Qctx.CQ)) Dma.QUEUE_BUS_ERR :=
  if_neg (by simp [h])

section Receive

variable {d : Dev} {t q : Nat} {p : Pkt} {ents : List (Option (List Word))} {dataOk wr : Bool}

/-- R64: a patch holds the only packet there is. -/
theorem rxPacketWrite_of_held (hrx : d.sw.hostRx = [(q, p)]) (h : d.heldByPatch q = true) :
    rxPacketWrite t ents dataOk wr d = d := by simp [rxPacketWrite, hrx, h]

/-- R361: the tile takes the oldest packet. -/
theorem rxPacketWrite_of_taken {r : List (Nat × Pkt)} (hrx : d.sw.hostRx = (q, p) :: r) (hq : q % 16 = t)
    (hheld : d.heldByPatch q = false) (hwork : d.takesWork (dmaId t) = true)
    (hquiet : d.qExists q = false ∨ d.quiet (d.qf q Qctx.OWNER) = false) : rxPacketWrite t ents dataOk wr d =
      ({ d with sw := { d.sw with hostRx := r } } : Dev).rxWrite q p ents dataOk wr := by
  have hfind : d.sw.hostRx.find? (fun x => x.1 % 16 = t && !d.heldByPatch x.1) = some (q, p) := by simp [hrx, hq, hheld]
  have herase : d.sw.hostRx.eraseP (fun x => x.1 % 16 = t && !d.heldByPatch x.1) = r := by simp [hrx, hq, hheld]
  simp only [rxPacketWrite, hfind, herase]
  exact if_neg (by rcases hquiet with h | h <;> simp [hwork, h])

/-- R360: no RX queue. -/
theorem Dev.rxWrite_of_no_queue (h : d.qExists q = false ∨ d.qf q Qctx.KIND ≠ 2) :
    d.rxWrite q p ents dataOk wr = d.bumpk (dmaOf q) Dma.NO_QUEUE :=
  if_pos (by rcases h with h | h <;> simp [h])

variable (hex : d.qExists q = true) (hkind : d.qf q Qctx.KIND = 2)
include hex hkind

/-- R360: a closed RX queue. -/
theorem Dev.rxWrite_of_closed (h : d.rxUp q = false) :
    d.rxWrite q p ents dataOk wr = d.cadd .queue q Qctx.DROPS 1 :=
  (if_neg (by simp [hex, hkind])).trans (if_pos (by simp [h]))

/-- R361, R362, R367: a packet is scattered over the fewest buffers that hold it. -/
theorem Dev.rxWrite_of_fits {f : Dev} {good js : List Job} (h : d.rxUp q = true) (hready : d.rxReady q ents = (f, good))
    (hmeta : f.qf q Qctx.RX_META = 0) (hbufs : bufsFor p.data.length good = some js) (hjs : js ≠ [])
    (hlen : js.length ≤ 64) (hpoison : p.poison = false) : d.rxWrite q p ents true wr =
      (((((f.scatter (f.qf q Qctx.OWNER) (f.qPasid q) (js.map (fun j => entBuf (j.ents.getD 0 []))) p.data).takeJob q
        { idx := ((js.head?).map Job.idx).getD 0, ents := js.flatMap Job.ents, moved := 0, granted := false, grant := none
          result := none }).cqGate q wr).cadd .queue q Qctx.JOBS (js.length - 1)).finishJob q
            (((js.head?).map Job.idx).getD 0) Sc.ok p.data.length (rxFlagsOf p)) := by
  have hfew : (js.isEmpty || decide (64 < js.length)) = false := by simp [hjs, hlen]
  rw [Dev.rxWrite, if_neg (by simp [hex, hkind]), if_neg (by simp [h])]
  simp [hready, hmeta, hbufs, hfew, hpoison]

end Receive

section Backend

variable {d : Dev} {q c i : Nat} {x : QSt} {r : List (Nat × Nat × Nat)} (hback : d.stor.backQ = (q, c, i) :: r)
  (hx : d.qst q = some x) (hkind : d.qf q Qctx.KIND = 6) (hscan : d.canScan q = true) (htwin : d.twinState ≠ 5)
  (hslot : x.slots.any (fun b => b.idx = d.qf q Qctx.HEAD) = false)
include hback hx hkind hscan htwin hslot

/-- R372: a failed write stops the queue. -/
theorem backendSubcommand_of_unwritten : backendSubcommand q false d =
    (d.qErr q 0x08 (d.qf q Qctx.HEAD)).bumpk (dmaOf q) Dma.QUEUE_BUS_ERR := by
  simp [backendSubcommand, hback, hx, hkind, hscan, htwin, hslot]

/-- R365: the entry of a sub-command without data occupies the slot at HEAD. -/
theorem backendSubcommand_of_written {k : StCmd} {y : StSub} {e : Dev}
    (he : e = { d with stor := { d.stor with backQ := r } }) (hk : e.stCmd c = some k) (hy : k.subs[i]? = some y)
    (hop : sqeOp k.sqe ≠ opWrite) : backendSubcommand q true d =
      ((((e.used.hostPut (e.qf q Qctx.OWNER) (e.used.qPasid q) (e.used.qf q Qctx.RING_BASE + 32 * d.qf q Qctx.HEAD)
        (ofWords (backEntry k y (e.qf q Qctx.DATA_BASE + d.qf q Qctx.HEAD * 0x210000) (e.freeVal.toNat % 2 ^ 32)
          (e.used.qf q Qctx.HEAD_PHASE)))).advHead q 1).setQ q
            (fun (x : QSt) => { x with slots := x.slots ++ [{ idx := d.qf q Qctx.HEAD, tag := e.freeVal.toNat % 2 ^ 32
                                                              cmd := c, part := i }] })).setQf q Qctx.TAKEN
              (x.slots.length + 1)) := by
  have hfind : d.stor.backQ.find? (fun x => x.1 = q) = some (q, c, i) := by simp [hback]
  have herase : d.stor.backQ.eraseP (fun x => x.1 = q) = r := by simp [hback]
  simp only [backendSubcommand, hfind, hx, Option.map_some, Option.getD_some, herase, ← he]
  rw [if_neg (by simp [hkind, hscan, htwin, hslot]), if_neg (by simp)]
  simp only [hk, Option.bind_some, hy, if_pos hop]

end Backend

section BackendTimeouts

variable {d : Dev} {q c i : Nat} {x : QSt} (hx : d.qst q = some x)
include hx

/-- R365: the sub-command occupies a slot. -/
theorem backendTimeout_of_slot (h : x.slots.any (fun b => b.cmd = c && b.part = i) = true) : backendTimeout q c i d =
    ((d.setQ q (fun (x : QSt) => { x with slots := x.slots.filter (fun b => !(b.cmd = c && b.part = i)) })).setQf q Qctx.TAKEN
      (x.slots.length - 1)).backFail c i := by
  simp [backendTimeout, hx, h]

theorem backendTimeout_of_absent (h : x.slots.any (fun b => b.cmd = c && b.part = i) = false)
    (hback : d.stor.backQ.contains (q, c, i) = false) : backendTimeout q c i d = d := by
  simp only [backendTimeout, hx, Option.map_some, Option.getD_some, h, hback, Bool.false_eq_true, if_false]

end BackendTimeouts

/-- Settles O46: each command of the rings falls into one of the cases above, whose conditions are the statement's. -/
theorem ringsAreRungScannedFetchedAndCompleted : Obligations.RingsAreRungScannedFetchedAndCompleted := by
  unfold Obligations.RingsAreRungScannedFetchedAndCompleted
  rintro s d hacts rfl
  refine ⟨fun pf q off n => ⟨fun h => ?silent, fun h hpage => ?closed, fun h hpage hbad => ?bytes,
      fun h hpage hn hoff => ⟨fun hq => ?admin, fun hq hex hown => ?ring, fun hq hno => ?noQueue⟩⟩,
    fun q x ents aux hx => ⟨fun h => ?idle, fun hrung hscan htwin => ⟨fun hkind => ?backScan, fun hkind => ?rxScan,
      fun hrx hback js err e hjobs => ⟨fun htake => ?untaken, fun htake => ⟨fun herr => ?taken,
        fun code i herr hcode => ?error, fun i herr => ?unread⟩⟩⟩⟩,
    fun q j data b poison hj hkind hb => ⟨fun ok h => ?stalled, fun h => ⟨?busError, fun hframes => ?malformed,
      fun fs e hframes => ⟨fun hsend => ?sent, fun hsend => ?dropped⟩⟩⟩,
    fun q x j hx hkind hj => ⟨fun h wr => ?inPrism, fun h => ⟨?done, fun hcq => ?cqStops⟩⟩,
    fun t q p ents dataOk wr hrx h => ?held,
    fun t q p r ents wr e hrx hq hheld hwork hquiet he => ⟨fun hno => ?noRxQueue, fun hex hkind => ⟨fun hup => ?rxClosed,
      fun f good js j hup hready hmeta hbufs hjs hlen hpoison hj => ?scattered⟩⟩,
    fun q c i x r hback hx hkind hscan htwin hslot => ⟨?unwritten, fun k y e he hk hy hop => ?written⟩,
    fun q c i x hx => ⟨fun h => ?timeout, fun h hback => ?absent⟩⟩
  case silent => exact State.run_acts_eq hacts (doorbellWrite_of_silent h)
  case closed => exact State.run_acts_eq hacts (doorbellWrite_of_closed h hpage)
  case bytes => exact State.run_acts_eq hacts (doorbellWrite_of_bad_bytes h hpage hbad)
  case admin => exact State.run_acts_eq hacts (doorbellWrite_of_admin h hpage hn hoff hq)
  case ring => exact State.run_acts_eq hacts (doorbellWrite_of_queue h hpage hn hoff hq hex hown)
  case noQueue => exact State.run_acts_eq hacts (doorbellWrite_of_no_queue h hpage hn hoff hq hno)
  case idle => exact State.run_acts_eq hacts (queueScan_of_idle hx h)
  case backScan => exact State.run_acts_eq hacts (queueScan_of_backend hx hrung hscan htwin hkind)
  case rxScan => exact State.run_acts_eq hacts (queueScan_of_rx hx hrung hscan htwin hkind)
  case untaken => exact State.run_acts_eq hacts (queueScan_of_untaken hx hrung hscan htwin hrx hback hjobs htake)
  case taken => exact State.run_acts_eq hacts (queueScan_of_taken hx hrung hscan htwin hrx hback hjobs htake herr)
  case error => exact State.run_acts_eq hacts (queueScan_of_error hx hrung hscan htwin hrx hback hjobs htake herr hcode)
  case unread => exact State.run_acts_eq hacts (queueScan_of_unread hx hrung hscan htwin hrx hback hjobs htake herr)
  case stalled => exact State.run_acts_eq hacts (txJobFetch_of_stalled hj h ok)
  case busError => exact State.run_acts_eq hacts (txJobFetch_of_unread hj hkind h)
  case malformed =>
    subst hb
    exact State.run_acts_eq hacts (txJobFetch_of_malformed hj hkind h hframes)
  case sent =>
    subst hb
    exact State.run_acts_eq hacts (txJobFetch_of_sent hj hkind h hframes hsend)
  case dropped =>
    subst hb
    exact State.run_acts_eq hacts (txJobFetch_of_dropped hj hkind h hframes hsend)
  case inPrism => exact State.run_acts_eq hacts (txJobComplete_of_in_prism hx hj h wr)
  case done => exact State.run_acts_eq hacts (txJobComplete_of_out hx hj hkind h true)
  case cqStops =>
    exact State.run_acts_eq hacts (Dev.cqGate_of_unwritten hcq ▸ txJobComplete_of_out hx hj hkind h false)
  case held => exact State.run_acts_eq hacts (rxPacketWrite_of_held hrx h)
  case noRxQueue =>
    exact State.run_acts_eq hacts ((rxPacketWrite_of_taken hrx hq hheld hwork hquiet).trans
      (he ▸ Dev.rxWrite_of_no_queue hno))
  case rxClosed =>
    exact State.run_acts_eq hacts ((rxPacketWrite_of_taken hrx hq hheld hwork hquiet).trans
      (he ▸ Dev.rxWrite_of_closed hex hkind hup))
  case scattered =>
    subst hj
    exact State.run_acts_eq hacts ((rxPacketWrite_of_taken hrx hq hheld hwork hquiet).trans
      (he ▸ Dev.rxWrite_of_fits hex hkind hup hready hmeta hbufs hjs hlen hpoison))
  case unwritten => exact State.run_acts_eq hacts (backendSubcommand_of_unwritten hback hx hkind hscan htwin hslot)
  case written =>
    exact State.run_acts_eq hacts (backendSubcommand_of_written hback hx hkind hscan htwin hslot he hk hy hop)
  case timeout => exact State.run_acts_eq hacts (backendTimeout_of_slot hx h)
  case absent => exact State.run_acts_eq hacts (backendTimeout_of_absent hx h hback)

end Sys2Proof.Machine

/-! The transport (R273): the answers that a connection owes, where a state keeps two records of it. -/

namespace Sys2Proof.Machine

/-- Connection 5 in RTS on a device that lets it send, kept twice: the record that `Dev.tc` finds owes one ACK, the other
two CNPs. `Dev.setTc` changes both. -/
def connKeptTwice : Dev :=
  let tiles : Dev := [homeOf 5, switchId].foldl
    (fun (d : Dev) u => (d.setUst u stActive).s u Hdr.UNIT_CONTROL_ENABLE 1) (Dev.reset.s rootId Hdr.UNIT_CONTROL_ENABLE 1)
  { tiles.setCn 5 Conn.STATE 3 with tp := { tiles.tp with conns :=
    [{ TpConn.init 5 0 with answers := [.ack 0 3 0] }, { TpConn.init 5 0 with answers := [.cnp, .cnp] }] } }

/-- Number of answers that each record of a connection owes. -/
def Dev.owed (d : Dev) : List Nat := d.tp.conns.map (fun (x : TpConn) => x.answers.length)

/-- R272: the device lets connection 5 send. -/
theorem connKeptTwice_sends : connKeptTwice.cn 5 Conn.STATE = 3 ∧ connKeptTwice.takesWork (homeOf 5) = true ∧
    connKeptTwice.connFrozen 5 = false ∧ connKeptTwice.connEligible 5 = true ∧ connKeptTwice.tpStalled 5 = false ∧
    connKeptTwice.twinState ≠ 5 := by decide +kernel

theorem connKeptTwice_answers : ((connKeptTwice.tpCache 5).tc 5).answers = [.ack 0 3 0] := by decide +kernel

/-- TRANSPORT_SEND takes the oldest answer out of each record. -/
theorem connKeptTwice_owed_sent : (transportSend 5 none connKeptTwice).owed = [0, 1] := by decide +kernel

/-- The statement gives each record what is left of the first. -/
theorem connKeptTwice_owed_claimed :
    (((connKeptTwice.tpCache 5).setTc 5 (fun (x : TpConn) => { x with answers := [] })).ackNow 5 0 3 0).owed = [0, 0] := by
  decide +kernel

/-- Refutes O40: a state may keep two records of one connection, and then TRANSPORT_SEND drops the oldest answer of each,
where the clause for an ACK gives both what the first still owes. The state is `connKeptTwice`. -/
theorem not_connectionsReceiveSendTimeOutAndObeyTheirCommands :
    ¬ Obligations.ConnectionsReceiveSendTimeOutAndObeyTheirCommands := by
  unfold Obligations.ConnectionsReceiveSendTimeOutAndObeyTheirCommands
  intro h
  have hacts : connKeptTwice.acts = true := by decide +kernel
  obtain ⟨-, hsend, -⟩ := h ⟨connKeptTwice, []⟩ 5 hacts
  obtain ⟨-, -, hrun⟩ := hsend none
  obtain ⟨hst, hwork, hfrozen, helig, hstall, htwin⟩ := connKeptTwice_sends
  obtain ⟨-, hans, -⟩ := hrun (connKeptTwice.tpCache 5) hst hwork hfrozen helig hstall htwin rfl
  have hack := (hans (.ack 0 3 0) [] _ connKeptTwice_answers rfl).1 0 3 0 rfl
  have hdev : transportSend 5 none connKeptTwice =
      ((connKeptTwice.tpCache 5).setTc 5 (fun (x : TpConn) => { x with answers := [] })).ackNow 5 0 3 0 := by
    have hnext := (State.run_acts ⟨connKeptTwice, []⟩ (transportSend 5 none) hacts).symm.trans hack
    exact (State.mk.inj (Host.Outcome.next.inj hnext)).1
  have howed := congrArg Dev.owed hdev
  rw [connKeptTwice_owed_sent, connKeptTwice_owed_claimed] at howed
  exact absurd howed (by decide)

end Sys2Proof.Machine

/-! The storage tiles (R286 to R297): capsules, arrived data, answers, fences and TCP streams, case by case. -/

namespace Sys2Proof.Machine

section Capsules

variable {d e : Dev} {t n : Nat} {cap : List Byte} {rest : List (Nat × List Byte)}

/-- STORAGE_CAPSULE, R286, R340: what becomes of a capsule of session `n` that has been taken. -/
def Dev.capsuleIn (d : Dev) (n : Nat) (cap : List Byte) : Dev :=
  if d.sn n Sess.STATE ≠ 1 then d
  else if d.sliceFrozen (d.sn n Sess.SLICE) then d.cadd .slice (d.sn n Sess.SLICE) Slc.FROZEN_RX_DROPS 1
  else if (d.stCache n).sn n Sess.ROLE = 1 then ((d.stCache n).respCapsule n cap).stPump
  else if sqe cap 0 1 = 0x7F then
    (d.stCache n).handOn (.port 23 0x3FFFF) ({ Pkt.blank with data := cap }.ms Meta.PKT_LEN cap.length)
  else ((d.stCache n).targetCapsule n cap).stPump

/-- R286: the oldest capsule of the tile is taken. -/
theorem storageCapsule_of_taken (hcaps : d.stor.capsules = (n, cap) :: rest) (hn : n % 8 = t)
    (hwork : d.takesWork (stHome n) = true) (htwin : d.twinState ≠ 5)
    (he : e = ({ d with stor := { d.stor with capsules := rest } } : Dev)) : storageCapsule t d = e.capsuleIn n cap := by
  have hfind : d.stor.capsules.find? (fun x => x.1 % 8 = t) = some (n, cap) := by simp [hcaps, hn]
  have hrest : d.stor.capsules.takeWhile (fun x => x.1 % 8 ≠ t) ++
      (d.stor.capsules.dropWhile (fun x => x.1 % 8 ≠ t)).drop 1 = rest := by simp [hcaps, hn]
  simp only [storageCapsule, hfind, hrest]
  rw [if_neg (by simp [hwork, htwin]), ← he]
  rfl

theorem Dev.capsuleIn_of_inactive (h : d.sn n Sess.STATE ≠ 1) : d.capsuleIn n cap = d := if_pos h

variable (h : d.sn n Sess.STATE = 1)
include h

/-- R340: a capsule of a frozen slice. -/
theorem Dev.capsuleIn_of_frozen (hfrozen : d.sliceFrozen (d.sn n Sess.SLICE) = true) :
    d.capsuleIn n cap = d.cadd .slice (d.sn n Sess.SLICE) Slc.FROZEN_RX_DROPS 1 :=
  (if_neg (by simp [h])).trans (if_pos hfrozen)

variable (hfrozen : d.sliceFrozen (d.sn n Sess.SLICE) = false)
include hfrozen

/-- R296: a response to an initiator. -/
theorem Dev.capsuleIn_of_initiator (hrole : (d.stCache n).sn n Sess.ROLE = 1) :
    d.capsuleIn n cap = ((d.stCache n).respCapsule n cap).stPump :=
  (if_neg (by simp [h])).trans ((if_neg (by simp [hfrozen])).trans (if_pos hrole))

variable (hrole : (d.stCache n).sn n Sess.ROLE ≠ 1)
include hrole

/-- R286: a Fabrics command. -/
theorem Dev.capsuleIn_of_fabrics (hop : sqe cap 0 1 = 0x7F) : d.capsuleIn n cap =
    (d.stCache n).handOn (.port 23 0x3FFFF) ({ Pkt.blank with data := cap }.ms Meta.PKT_LEN cap.length) :=
  (if_neg (by simp [h])).trans ((if_neg (by simp [hfrozen])).trans ((if_neg hrole).trans (if_pos hop)))

/-- R296: a command to a target. -/
theorem Dev.capsuleIn_of_target (hop : sqe cap 0 1 ≠ 0x7F) :
    d.capsuleIn n cap = ((d.stCache n).targetCapsule n cap).stPump :=
  (if_neg (by simp [h])).trans ((if_neg (by simp [hfrozen])).trans ((if_neg hrole).trans (if_neg hop)))

end Capsules

section Data

variable {d e : Dev} {t : Nat} {k : StCmd} {l : List StCmd} (hcmds : d.stor.cmds = k :: l) (htile : k.sess % 8 = t)
  (hstep : k.step = 5) (hgot : k.got = k.due)
  (hpost : d.stor.posts.find? (fun (p : StPost) => p.cmd = k.id && p.op = 5 && p.done.isSome) = none)
  (he : e = ({ d with stor := { d.stor with
    posts := d.stor.posts.filter (fun (p : StPost) => !(p.cmd = k.id && p.op = 5)) } } : Dev).setCmd k.id (fun _ => k))
include hcmds htile hstep hgot

/-- R296: the command is the oldest of its tile at step 5 with all its data. -/
theorem find_arrived : d.stor.cmds.find? (fun x => x.sess % 8 = t && x.step = 5 && (x.got = x.due ||
    (d.stor.posts.find? (fun (p : StPost) => p.cmd = x.id && p.op = 5 && p.done.isSome)).isSome)) = some k := by
  simp [hcmds, htile, hstep, hgot]

include hpost he

/-- R296: the ranges of a Deallocate have come. -/
theorem storageDataArrived_of_dsm (hop : sqeOp k.sqe = opDsm) : storageDataArrived t d = (e.stDsm k).stPump := by
  simp only [storageDataArrived, find_arrived hcmds htile hstep hgot, hpost, Bool.false_eq_true, if_false, ← he, if_pos hop]

variable (hop : sqeOp k.sqe ≠ opDsm)
include hop

/-- R297: a failed check ends the command. -/
theorem storageDataArrived_of_pi_error {code m : Nat}
    (hpi : k.fmt.toBack k.sqe (sqeBlocks k.sqe) k.data = .error (code, m)) :
    storageDataArrived t d = ((e.addk (stHome k.sess) St.PI_ERR m).stEnd k code 0 0).stPump := by
  simp only [storageDataArrived, find_arrived hcmds htile hstep hgot, hpost, Bool.false_eq_true, if_false, ← he,
    if_neg hop, hpi]

/-- R296: the blocks go to the backends. -/
theorem storageDataArrived_of_checked {f : Dev} {bs : List Byte} {ins : Nat}
    (hpi : k.fmt.toBack k.sqe (sqeBlocks k.sqe) k.data = .ok (bs, ins))
    (hf : f = (e.addk (stHome k.sess) St.BYTES_WRITTEN (sqeBlocks k.sqe * k.fmt.lba)).addk (stHome k.sess) St.PI_INSERTED ins) :
    storageDataArrived t d = (f.stToBack { k with data := bs } (stSubs k.fmt
      (f.cg .ns (k.ns.getD 0) Ns.EXT_BASE) (sqeLba k.sqe) (sqeBlocks k.sqe) k.exts)).stPump := by
  simp only [storageDataArrived, find_arrived hcmds htile hstep hgot, hpost, Bool.false_eq_true, if_false, ← he,
    if_neg hop, hpi, ← hf]

end Data

section Answers

variable {d e : Dev} {t c i code own : Nat} {bs : List Byte} {rest : List (Nat × Nat × Nat × Nat × List Byte)} {k k' : StCmd}
  (hanswers : d.stor.answers = (c, i, code, own, bs) :: rest) (hk : d.stCmd c = some k) (htile : k.sess % 8 = t)
  (he : e = ({ d with stor := { d.stor with answers := rest } } : Dev).setCmd c (fun (k : StCmd) => { k with
    subs := updAt k.subs i (fun (y : StSub) => { y with status := some (code, own), data := bs }) }))
  (hk' : e.stCmd c = some k')
include hanswers hk htile he hk'

/-- R296: the oldest answer of the tile is recorded; when none is open the command finishes. -/
theorem subcmdComplete_of_answer : subcmdComplete t d =
    (if k'.subs.any (fun (y : StSub) => y.status.isNone && (y.sent || !k'.gone)) then e else e.stFinish k').stPump := by
  simp [subcmdComplete, hanswers, hk, htile, ← he, hk']

end Answers

/-- R296: a command that waits for a fence. -/
theorem fenceWaitTimeout_of_waiting {d : Dev} {n : Nat} {k : StCmd} (hk : d.stCmd n = some k) (hstep : k.step = 4) :
    fenceWaitTimeout n d = (d.stEnd k 0x39 0 0).stPump := by
  simp only [fenceWaitTimeout, hk, if_pos hstep]

section Tcp

variable {d e : Dev} {n : Nat}

theorem storageTcpRx_of_packet {p : Pkt} {rest : List Pkt} (h : d.sw.storage = p :: rest) (htwin : d.twinState ≠ 5) :
    storageTcpRx d = ({ d with sw := { d.sw with storage := rest } } : Dev).rxStorage p := by
  simp only [storageTcpRx, h, if_neg htwin]

/-- R286: no storage feature. -/
theorem Dev.rxStorage_of_no_feature (h : d.feature 3 = false) (p : Pkt) :
    d.rxStorage p = d.bumpk (storageId 0) St.NO_SESSION_DROP := if_pos (by simp [h])

/-- R290: nothing outstanding, and nothing that could probe a closed window. -/
theorem storageTcpRto_of_quiet (hout : d.sn n Strm.SND_UNA = d.sn n Strm.SND_NXT)
    (h : d.sn n Strm.WND ≠ 0 ∨ (d.tcp n).buf = []) : storageTcpRto n d = d := by
  by_cases hidle : (!d.sessRuns n || decide (d.sn n Sess.BINDING = 0)) = true
  · exact if_pos hidle
  · exact (if_neg hidle).trans ((if_pos hout).trans (if_neg (by rcases h with h | h <;> simp [h])))

variable (hruns : d.sessRuns n = true) (htcp : d.sn n Sess.BINDING = 1)
include hruns htcp

/-- R290: a closed window is probed. -/
theorem storageTcpRto_of_closed (hout : d.sn n Strm.SND_UNA = d.sn n Strm.SND_NXT) (hwnd : d.sn n Strm.WND = 0)
    (hbuf : (d.tcp n).buf ≠ []) : storageTcpRto n d =
      ((d.stCache n).setTcp n (fun (x : StTcp) => { x with probe := true })).tcpPush n :=
  (if_neg (by simp [hruns, htcp])).trans ((if_pos hout).trans (if_pos (by simp [hwnd, hbuf])))

variable (hout : d.sn n Strm.SND_UNA ≠ d.sn n Strm.SND_NXT)
  (he : e = (d.stCache n).setTcp n (fun (x : StTcp) => { x with tries := x.tries + 1 }))
include hout he

/-- R279, R290: the oldest segment is sent again, at half the rate. -/
theorem storageTcpRto_of_retry (h : (e.tcp n).tries < 6) : storageTcpRto n d =
    (if e.sn n Strm.WND = 0 then e else e.stRate n (e.sn n Strm.RATE / 2) true).tcpResend n false := by
  rw [storageTcpRto, if_neg (by simp [hruns, htcp]), if_neg hout, ← he]
  exact if_neg (by omega)

/-- R290: the sixth timeout in a row. -/
theorem storageTcpRto_of_sixth (h : 6 ≤ (e.tcp n).tries) : storageTcpRto n d = e.sessStop n 3 none := by
  rw [storageTcpRto, if_neg (by simp [hruns, htcp]), if_neg hout, ← he]
  exact if_pos h

end Tcp

/-- Settles O37: each command of the storage tiles falls into one of the cases above, whose conditions are the statement's. -/
theorem storageCommandsArriveAdvanceAndEnd : Obligations.StorageCommandsArriveAdvanceAndEnd := by
  unfold Obligations.StorageCommandsArriveAdvanceAndEnd
  intro s t n hacts htwin
  refine ⟨fun cap rest d hcaps hn hwork hd => ⟨fun h => ?inactive, fun h hfrozen => ?frozen,
      fun h hfrozen => ⟨fun hrole => ?initiator, fun hrole hop => ?fabrics, fun hrole hop => ?target⟩⟩,
    fun k l d hcmds htile hstep hgot hpost hd => ⟨fun hop => ?dsm, fun code m hop hpi => ?piError,
      fun bs ins e hop hpi he => ?checked⟩,
    fun c i code own bs rest k k' d hanswers hk htile hd hk' => ⟨fun hopen => ?stillOpen, fun hopen => ?finished⟩,
    fun k hk hstep => ?fence,
    fun p rest d hrx hd => ⟨?packet, fun hfeature => ?noFeature⟩,
    fun hout h => ?quiet, fun hruns htcp hout hwnd hbuf => ?probe,
    fun d hruns htcp hout hd => ⟨fun h => ?retry, fun h => ?sixth⟩⟩
  case inactive =>
    exact State.run_acts_eq hacts ((storageCapsule_of_taken hcaps hn hwork htwin hd).trans (Dev.capsuleIn_of_inactive h))
  case frozen =>
    exact State.run_acts_eq hacts
      ((storageCapsule_of_taken hcaps hn hwork htwin hd).trans (Dev.capsuleIn_of_frozen h hfrozen))
  case initiator =>
    exact State.run_acts_eq hacts
      ((storageCapsule_of_taken hcaps hn hwork htwin hd).trans (Dev.capsuleIn_of_initiator h hfrozen hrole))
  case fabrics =>
    exact State.run_acts_eq hacts
      ((storageCapsule_of_taken hcaps hn hwork htwin hd).trans (Dev.capsuleIn_of_fabrics h hfrozen hrole hop))
  case target =>
    exact State.run_acts_eq hacts
      ((storageCapsule_of_taken hcaps hn hwork htwin hd).trans (Dev.capsuleIn_of_target h hfrozen hrole hop))
  case dsm => exact State.run_acts_eq hacts (storageDataArrived_of_dsm hcmds htile hstep hgot hpost hd hop)
  case piError => exact State.run_acts_eq hacts (storageDataArrived_of_pi_error hcmds htile hstep hgot hpost hd hop hpi)
  case checked =>
    exact State.run_acts_eq hacts (storageDataArrived_of_checked hcmds htile hstep hgot hpost hd hop hpi he)
  case stillOpen =>
    exact State.run_acts_eq hacts ((subcmdComplete_of_answer hanswers hk htile hd hk').trans (by rw [if_pos hopen]))
  case finished =>
    exact State.run_acts_eq hacts
      ((subcmdComplete_of_answer hanswers hk htile hd hk').trans (by rw [if_neg (by simp [hopen])]))
  case fence => exact State.run_acts_eq hacts (fenceWaitTimeout_of_waiting hk hstep)
  case packet => exact State.run_acts_eq hacts (hd ▸ storageTcpRx_of_packet hrx htwin)
  case noFeature =>
    exact State.run_acts_eq hacts ((hd ▸ storageTcpRx_of_packet hrx htwin).trans (Dev.rxStorage_of_no_feature hfeature p))
  case quiet => exact State.run_acts_eq hacts (storageTcpRto_of_quiet hout h)
  case probe => exact State.run_acts_eq hacts (storageTcpRto_of_closed hruns htcp hout hwnd hbuf)
  case retry => exact State.run_acts_eq hacts (storageTcpRto_of_retry hruns htcp hout hd h)
  case sixth => exact State.run_acts_eq hacts (storageTcpRto_of_sixth hruns htcp hout hd h)

end Sys2Proof.Machine
